-- ==== Sys2Proof/Word.lean ====
section
/-! DEFINITION. The word types of the K64 model and their plainest arithmetic (R12-R16). -/

namespace Sys2Proof

/-- One byte. -/
abbrev Byte := BitVec 8

/-- A 64-bit register word. -/
abbrev Word := BitVec 64

/-- A Machine Time value: ticks of 1/64 ns (R13, R204). -/
abbrev Ticks := BitVec 64

/-- A module ID: supergroup [16:9], group [8:4], member [3:0] (R32). -/
abbrev ModId := BitVec 17

/-- An endpoint address: module [28:12], host port [11:10], instance [9:0] (R53). -/
abbrev Endpoint := BitVec 29

/-- One 64-byte line; bits [8i+7:8i] are byte i (R16). -/
abbrev Line := BitVec 512

/-- Bits [hi:lo] of a word as a number (R16). -/
def bits {n : Nat} (w : BitVec n) (hi lo : Nat) : Nat := w.toNat / 2 ^ lo % 2 ^ (hi + 1 - lo)

/-- Bit i of a word (R16). -/
def bit {n : Nat} (w : BitVec n) (i : Nat) : Bool := w.getLsbD i

/-- One more, staying at the field's maximum (a "saturating" field). -/
def satInc {n : Nat} (w : BitVec n) : BitVec n := if w = BitVec.allOnes n then w else w + 1

/-- Add k, staying at the field's maximum. -/
def satAdd {n : Nat} (w : BitVec n) (k : Nat) : BitVec n :=
  if w.toNat + k < 2 ^ n then w + BitVec.ofNat n k else BitVec.allOnes n

/-- The bit of a Bool as a number. -/
def bnat (b : Bool) : Nat := if b then 1 else 0

/-- ceil(a / b). -/
def ceilDiv (a b : Nat) : Nat := (a + b - 1) / b

/-- Ticks in n nanoseconds (R13). -/
def ns (n : Nat) : Nat := 64 * n

/-- Ticks in n microseconds. -/
def us (n : Nat) : Nat := 64000 * n

/-- Ticks in n milliseconds. -/
def ms (n : Nat) : Nat := 64000000 * n

/-- Ticks in one second of Machine Time (R205). -/
def secTicks : Nat := 64000000000

/-- Serial comparison of n-bit counters: a stands before b (R78, R117). -/
def serialLt {n : Nat} (a b : BitVec n) : Bool :=
  a != b && decide ((b - a).toNat < 2 ^ (n - 1))

/-- Serial comparison, equality included. -/
def serialLe {n : Nat} (a b : BitVec n) : Bool := decide ((b - a).toNat < 2 ^ (n - 1))

end Sys2Proof
end

