-- ==== Sys2Proof/Types.lean ====
section
/-! DEFINITION. The operands of the K64's commands: who sends, packets, flits, read results, Fleso callers. -/

namespace Sys2Proof

/-- A PCIe function: the physical function of a host port, or virtual function n of it (R254). -/
structure Fn where
  port : Nat
  vf   : Option Nat
  deriving DecidableEq, Repr

/-- Where a Fleso command arrives (R615). -/
inductive Arrival where
  | mailbox (fn : Fn) (slot : Nat)
  | f63 (src : Endpoint)
  | fabric (port : Nat) (src : Endpoint)
  | sideband (eid : BitVec 8)
  | debug
  deriving DecidableEq, Repr

/-- One Fleso command as taken: its arrival point, its seq, and the offset of the first argument byte that breaks
the fixed layout (a non-zero reserved field or a wrong arg_len, R22, R614); none when the layout is kept. -/
structure Call where
  via       : Arrival
  seq       : BitVec 32
  malformed : Option (BitVec 16)
  deriving DecidableEq, Repr

/-- A request of R611: its header fields, and its argument bytes, which a forwarded request carries on. -/
structure ReqHdr where
  opcode   : BitVec 16
  argLen   : BitVec 10
  seq      : BitVec 32
  target   : ModId
  forward  : Bool
  reserved : BitVec 52
  args     : List Byte := []
  deriving DecidableEq, Repr

/-- A data reference (R627): module-memory address, length, and the four bytes that must be zero. -/
structure DataRef where
  addr : Word
  len  : BitVec 32
  zero : BitVec 32
  deriving DecidableEq, Repr

/-- One node of a collective shape (R461), as the record lists them: a leaf is a member module and has no children; parent
and children are places in the list, children in rank order and before their parent. -/
structure CollNode where
  module   : ModId
  parent   : Option Nat
  children : List Nat
  deriving DecidableEq, Repr

/-- What the members of an operation must agree on (R442), and the status that ends it. The spec gives it no place in a
COLL_DATA packet, so it travels beside one (assumption log 56). -/
structure CollParams where
  op     : BitVec 4
  dtype  : BitVec 4
  redOp  : BitVec 4
  exact_ : Bool
  root   : Nat
  length : Nat
  status : BitVec 8 := 0
  deriving DecidableEq, Repr

/-- What an install carries (R432, R463, the COLL_CTRL table). -/
structure CollInstall where
  members : List Endpoint
  coord   : ModId
  tc      : BitVec 2
  treeA   : BitVec 13
  treeB   : BitVec 13
  pinned  : Bool
  fanMax  : Nat
  slot    : Bool
  nodes   : List CollNode
  trees   : List (Nat × BitVec 128)
  deriving DecidableEq, Repr

/-- The content of a COLL_CTRL packet (R434 and the COLL_CTRL table). The spec names the content and gives no byte
layout, so it travels beside the payload bytes. ack marks a probe answer that acknowledges an install, with the endpoint that
refused it (assumption log 57). -/
structure CollCtrl where
  kind    : BitVec 4
  group   : BitVec 24
  opSeq   : BitVec 16
  slot    : Bool
  rc      : BitVec 16
  modules : List ModId
  segs    : List Nat
  lost    : ModId
  install : Option CollInstall
  ack     : Option (Option Endpoint) := none
  partialLost : Bool := false
  deriving DecidableEq, Repr

/-- A packet: the header of R86, the payload, the trailer of R89. resv collects every reserved header bit, resvT
those of the trailer; ctrl is the content of a COLL_CTRL packet. cast is no part of it: the tree-table entry that this
module's lookup of a multicast header has read, which the header goes on using (R159). -/
structure Packet where
  pktType    : BitVec 5 := 0
  tc         : BitVec 2 := 0
  hopStage   : BitVec 3 := 0
  nonminimal : Bool := false
  viaDone    : Bool := false
  mcast      : Bool := false
  gen        : Bool := false
  addrForm   : Bool := false
  resv       : BitVec 10 := 0
  payloadLen : BitVec 13 := 0
  dst        : Endpoint := 0
  src        : Endpoint := 0
  via        : ModId := 0
  opExt      : BitVec 15 := 0
  opTag      : BitVec 32 := 0
  opOffset   : BitVec 32 := 0
  typeWord   : Word := 0
  payload    : List Byte := []
  ctrl       : Option CollCtrl := none
  coll       : Option CollParams := none
  sealWord   : Word := 0
  e2eSeq     : BitVec 32 := 0
  pktIndex   : BitVec 16 := 0
  first      : Bool := false
  last       : Bool := false
  poisoned   : Bool := false
  resent     : Bool := false
  resvT      : BitVec 12 := 0
  cast       : Option (BitVec 128) := none
  deriving DecidableEq, Repr

/-- A flit (R66, R68): header fields, the 240 body bytes, and the CRC field. -/
structure Flit where
  flitType    : BitVec 4 := 0
  vl          : BitVec 5 := 0
  validChunks : BitVec 4 := 0
  firstStart  : BitVec 4 := 15
  ackValid    : Bool := false
  linkSeq     : BitVec 24 := 0
  ackSeq      : BitVec 24 := 0
  creditVl    : BitVec 5 := 0
  creditCount : BitVec 10 := 0
  reserved    : BitVec 15 := 0
  body        : List Byte := []
  crc         : BitVec 32 := 0
  deriving DecidableEq, Repr

/-- One received FEC frame (R62-R65): the 2,570 message bytes that its far end encoded (R63), the symbols of its four
codewords that arrive wrong, each as its number in the frame and what was added to it, and the corrected symbols of each
active logical lane. -/
structure RxFrame where
  message : List Byte
  errors  : List (Nat × BitVec 10)
  laneErrs : List (Nat × Nat)
  deriving DecidableEq, Repr

/-- A training block as a physical receive lane takes it (R674): its seven leading symbols as they arrive, and the skew of its lane
against the others. -/
structure TrainBlock where
  symbols : List (BitVec 10)
  skewNs  : Nat
  deriving DecidableEq, Repr

/-- What an access to memory outside the block answers: done, a translation fault with its cause (R535), or no
response within host_timeout_us (R273). -/
inductive Access where
  | ok
  | fault (cause : BitVec 8)
  | failed
  deriving DecidableEq, Repr

/-- What a read answers: bytes (poisoned or not), a translation fault, or no response (R273). -/
inductive ReadResult where
  | data (bytes : List Byte) (poisoned : Bool)
  | fault (cause : BitVec 8)
  | failed
  deriving DecidableEq, Repr

/-- A placement hint (R493). -/
inductive Hint where
  | pinCell (ctx : Nat) (cell : Option Nat)
  | quadrantMask (ctx : Nat) (mask : BitVec 4)
  | noMigrate (ctx : Nat) (on : Bool)
  | tallyHome (tally : Nat) (home : BitVec 2)
  | drainCell (cell : Nat)
  | tierLimits (ctx : Nat) (cellBytes moduleBytes : Nat)
  | group (group : BitVec 24) (rootHint : Option ModId) (fanMax : Nat) (pinned : Bool)
  deriving DecidableEq, Repr

/-- The fields of a program load, common to DRAW_RUN and DRAW_LOAD (R574, R577). -/
structure DrawLoadArgs where
  channel   : Nat
  priority  : BitVec 2
  replace   : Bool
  progSpace : Bool
  baseSpace : BitVec 4
  bases     : List Word
  addr      : Word
  length    : Nat
  deriving DecidableEq, Repr

/-- What a detector's event names beside its unit and instance: a doorbell's function and queue (R306), an order-stage stream
(R351), the source endpoint of an operation and its op_tag (R413, R414). -/
inductive About where
  | doorbell (fn : Fn) (queue : BitVec 14)
  | stream (src dst : Endpoint) (tc : BitVec 2)
  | source (src : Endpoint) (tag : BitVec 32)
  deriving DecidableEq, Repr

/-- A detector event as it reaches Quench (R715-R717, R739, R820): source, detection cycle, the unit it names, and
the record's detail, break code and kind. -/
structure QEvent where
  source     : Nat
  time       : Ticks := 0
  unit       : Nat := 0
  inst       : Option Nat := none
  addr       : Option Word := none
  detail     : List Byte := []
  rail       : Bool := false
  injected   : Bool := false
  coincident : Bool := false
  noCount    : Bool := false
  breakCode  : BitVec 8 := 0
  kind       : BitVec 8 := 0
  about      : Option About := none
  deriving DecidableEq, Repr

/-- A request on CXL.io that has no row of its own (R9, R253-R259; assumption logs 50 and 116): a read of configuration space; the
enables; the base of BAR0 (R257), of the virtual functions' (R258) and of an HDM decoder (R265-R267, R523); a read of 4 or 8 bytes of a
function's BAR0; a write of a CXL component or device register, by its offset in BAR0. -/
inductive CfgReq where
  | read (offset : Nat)
  | setBme (on : Bool)
  | setCache (on : Bool)
  | setMem (on : Bool)
  | setBar (base : Word)
  | setVfBar (base : Word)
  | setHdm (decoder : Nat) (base : Word)
  | load (offset : Nat) (wide : Bool)
  | setReg (offset : Nat) (value : BitVec 32)
  | pbrOrLd
  deriving DecidableEq, Repr

/-- An SPDM request carried by Data Object Exchange (R278, R279): a key for a stream (0 CXL.cachemem, 1 the link stream of CXL.io), its
go, in skid or in containment mode, or a measurement. -/
inductive SpdmReq where
  | ideKeyProg (stream : Nat) (key : BitVec 256)
  | ideKeyGo (stream : Nat) (skid : Bool)
  | measurement (index : Nat)
  deriving DecidableEq, Repr

/-- What a stream is keyed by (R116): source, destination, class, and the form of the two addresses: 0 endpoints, 1 modules
(agent number 0), 2 a multicast tree; viaF63 is the port pairing of R617. -/
structure StreamKey where
  src    : Endpoint
  dst    : Endpoint
  tc     : BitVec 2
  viaF63 : Bool := false
  form   : BitVec 2 := 0
  deriving DecidableEq, Repr

/-- Names one outstanding D2H request (R261, R263): what the K64 asked the host memory for. -/
inductive D2hTag where
  | descriptor (wq : Nat) (index : BitVec 32)
  | fragTable (src : Endpoint) (tag : BitVec 32)
  | payload (src : Endpoint) (tag : BitVec 32) (pkt : BitVec 16)
  | respond (src : Endpoint) (tag : BitVec 32) (pkt : BitVec 16)
  | walk (id : Nat)
  | adLine (id : Nat)
  | record (ring : Nat)
  | writeBack (isRing : Bool) (n : Nat)
  | mirror (tally : Nat)
  | drawProgram (channel : Nat)
  | write
  | chain (wq : Nat) (index : BitVec 32)
  | draw (channel job line : Nat)
  | stored (ctx wq : Nat) (index : BitVec 32) (pkt : BitVec 16)
  | other (id : Nat)
  deriving DecidableEq, Repr


/-- A sparse table: rising keys, each with its value. What an unlisted key reads as is said where the table is read. -/
abbrev Table (α : Type) := List (Nat × α)

end Sys2Proof
end

