-- ==== Sys2Proof/Syntax.lean ====
section
/-! DEFINITION. The commands of the K64: one constructor per row of spec/opcode_table.json, in the table's order.
Every docstring names the rule the row cites. An operand called now is the Machine Time at which a timer looks. -/

namespace Sys2Proof

/-- A command of the K64 (spec/opcode_table.json, 95_what_each_step_holds.md). -/
inductive Instr where
  /-- R23: A host write to an undefined offset, or to a register that has no row of its own, is discarded and a Notice is recorded. -/
  | registerWriteUndefined (fn : Fn) (offset : BitVec 32)
  /-- R308: A doorbell write of kind 0 names a new work-queue tail, which is tested against head and old tail and accepted or refused with a queue event. Operands: whole: one aligned 64-bit write with all byte enables. -/
  | wqDoorbell (fn : Fn) (queue : BitVec 14) (index : BitVec 32) (reserved : BitVec 17) (whole : Bool)
  /-- R309: A doorbell write of kind 1 names a new completion-ring head, which is accepted or refused with head_stale. -/
  | cqDoorbell (fn : Fn) (ring : BitVec 14) (index : BitVec 32) (reserved : BitVec 17) (whole : Bool)
  /-- R608: A write of submit to a free MBOX.SLOT moves the slot to submitted so that Fleso takes its request. Operands: value: the word written; req: the request area's header. -/
  | mboxSubmit (fn : Fn) (slot : Nat) (value : Word) (whole : Bool) (req : ReqHdr)
  /-- R608: A write of release to a done MBOX.SLOT frees the slot and zeroes its response area. -/
  | mboxRelease (fn : Fn) (slot : Nat) (value : Word) (whole : Bool)
  /-- R606: A write of withdraw to a submitted MBOX.SLOT returns the slot to free without executing its command. -/
  | mboxWithdraw (fn : Fn) (slot : Nat) (value : Word) (whole : Bool)
  /-- R610: The driver writes ev_head to consume events; a value beyond ev_tail is ignored. -/
  | evHeadWrite (fn : Fn) (head : BitVec 32)
  /-- R277: Unmasking an MSI-X vector sends the message that its pending bit holds. -/
  | msixUnmask (fn : Fn) (vector : Nat)
  /-- R630: Returns the identity, shape, mode, Fleso version and role-map hash. -/
  | identify (c : Call)
  /-- R631: Returns count register words of a block, subject to the caller's scope. -/
  | regRead (c : Call) (block index : Nat) (offset : BitVec 32) (count : Nat)
  /-- R620: Writes a register under Debug authority. -/
  | regWrite (c : Call) (block index : Nat) (offset : BitVec 32) (value mask : Word)
  /-- R628: Allocates a staging buffer in segment 1 and returns its handle and address. -/
  | stageOpen (c : Call) (mib : Nat)
  /-- R629: Copies argument bytes into a staging buffer. -/
  | stageWrite (c : Call) (handle : Nat) (offset : BitVec 32) (data : List Byte)
  /-- R628: Frees a staging buffer. -/
  | stageClose (c : Call) (handle : Nat)
  /-- R798: Requests Drain, Isolated, Diagnostic or a return to service, as the transition table allows. -/
  | modeRequest (c : Call) (word : Word)
  /-- R265: Returns bytes of a report-segment area that belongs to the caller. -/
  | reportRead (c : Call) (offset : BitVec 32) (length : Nat)
  /-- R49: Sets the module ID, machine shape and bundle widths, installs default generation 1, and repeats identity checks. -/
  | machineIdentity (c : Call) (id : ModId) (pMinus1 gMinus1 mMinus1 ws wg : Nat)
  /-- R814: Declares the expected far end of one port, or declares the port unwired, and repeats that port's identity check. -/
  | portReassign (c : Call) (word : Word)
  /-- R151: Loads and checks a routing bank as the pending generation, or with adopt makes it active at once. -/
  | routeLoad (c : Call) (gen : BitVec 32) (adopt : Bool) (ref : DataRef)
  /-- R153: Schedules or cancels a routing-table swap at Machine Time T. -/
  | routeSwap (c : Call) (gen : BitVec 32) (at_ : Ticks) (cancel : Bool)
  /-- R630: Sets the ROUTE.DERAILLEUR and ROUTE.E2E fields. -/
  | routeCfg (c : Call) (derailleur e2e : Word)
  /-- R159: Writes one multicast tree-table entry atomically. -/
  | treeWrite (c : Call) (tree : Nat) (entry : BitVec 128)
  /-- R175: Sets the credit, Bellows and scheduling configuration. -/
  | flowCfg (c : Call) (tile : Option Nat) (credit bellows sched : Word)
  /-- R200: Selects queues for depth and delay sampling and places the sample ring. -/
  | sampling (c : Call) (queues : List (BitVec 32)) (epochNs : Nat) (enable : Bool) (ringEntries : Nat)
  /-- R57: Sets or clears a run of bits in the hole map. -/
  | holeSet (c : Call) (first : Nat) (count : Nat) (set : Bool)
  /-- R640: At a referenced master, steps Machine Time so that the next PPS edge falls on a whole second. -/
  | timeSet (c : Call) (seconds : Word)
  /-- R246: Sets the TIME.CFG fields. -/
  | timeCfg (c : Call) (word : Word)
  /-- R230: Sets a port's asym_ticks. -/
  | timePort (c : Call) (port : Nat) (asym : BitVec 16)
  /-- R236: Loads a Stroke table with its base into the inactive bank. -/
  | strokeLoad (c : Call) (base : Ticks) (ref : DataRef)
  /-- R244: Schedules or cancels a Stroke-table swap. -/
  | strokeSwap (c : Call) (at_ : Ticks) (cancel : Bool)
  /-- R238: Loads the Stroke admission table. -/
  | strokeAdmit (c : Call) (ref : DataRef)
  /-- R239: Sets or clears enable in STROKE.CTRL. -/
  | strokeEnable (c : Call) (enable : Bool)
  /-- R542: Creates a closed instance with its grants and shaping. Operands: grants: the ten rows of R547 without share units, in its order. -/
  | instCreate (c : Call) (port : Nat) (inst : Option Nat) (grants : List Nat) (shaping : List Word) (strokeClass : BitVec 4) (eagerLimit : Nat)
  /-- R544: Binds a closed or held instance to a virtual function, or to none. -/
  | instBind (c : Call) (inst : Nat) (vf : Option Nat) (vectors : Nat)
  /-- R548: Raises or lowers an instance's grants. Operands: pairs (row of R547, new grant). -/
  | instGrant (c : Call) (inst : Nat) (changes : List (Nat × Nat))
  /-- R819: Resets an instance and answers after the reset ends. -/
  | instReset (c : Call) (word : Word)
  /-- R559: Moves a held instance to active. -/
  | instReopen (c : Call) (inst : Nat)
  /-- R819: Returns the instance state and the counts of its latest reset. -/
  | instQuery (c : Call) (word : Word)
  /-- R546: Resets an instance, returns its grants and frees its number. -/
  | instDestroy (c : Call) (inst : Nat)
  /-- R566: Fences an active instance's new work and freezes it once its in-flight work drains. -/
  | instQuiesce (c : Call) (inst : Nat)
  /-- R567: Writes a frozen instance's image into the report segment. -/
  | instExport (c : Call) (inst : Nat)
  /-- R567: Applies an image to a closed instance, which then becomes held. -/
  | instImport (c : Call) (inst : Nat) (ref : DataRef)
  /-- R561: Configures an instance's dirty-page log, or clears its overflow. -/
  | dirtyLog (c : Call) (inst : Nat) (mode : BitVec 2) (base : Word) (k : Nat) (vaBase : Word) (clearOverflow : Bool)
  /-- R565: Returns after every page already entered in the log is globally observed. -/
  | dirtyFlush (c : Call) (inst : Nat)
  /-- R264: Exposes a module-memory segment to a set of heads. -/
  | segmentExpose (c : Call) (segment : Nat) (heads : BitVec 4)
  /-- R274: Sets a host port's HOST.CFG timeouts. -/
  | hostCfg (c : Call) (port : Nat) (word : Word)
  /-- R195: Writes one shaping-table entry. -/
  | shaping (c : Call) (inst : Nat) (cls : Nat) (entry : Word)
  /-- R293: Creates a work queue that targets a completion ring. Operands: inst: the instance the queue is created for, when the caller is no instance. -/
  | wqCreate (c : Call) (inst : Option Nat) (queue : Option Nat) (sizeCode : Nat) (base wb : Word) (ring : Nat)
  /-- R295: Creates a completion ring. -/
  | cqCreate (c : Call) (inst : Option Nat) (ring : Option Nat) (sizeCode : Nat) (base wb : Word) (vector : Nat) (irqEnable : Bool)
  /-- R323: Resumes a queue in the error state, by retry or by skip. -/
  | wqRestart (c : Call) (queue : Nat) (skip : Bool)
  /-- R332: Resumes record writing on a ring in the error state. -/
  | cqRestart (c : Call) (ring : Nat)
  /-- R335: Returns a queue's or ring's registers and clears the named sticky fields. Operands: clear: the sticky fields to clear, at their register positions. -/
  | queueStatus (c : Call) (isRing : Bool) (n : Nat) (clear : Word)
  /-- R635: Destroys a ring, or disables a queue and destroys it once its fetched work has records. -/
  | queueDestroy (c : Call) (isRing : Bool) (n : Nat)
  /-- R334: Sets a ring's irq_enable and vector. -/
  | cqSignal (c : Call) (ring : Nat) (irqEnable : Bool) (vector : Nat)
  /-- R337: Creates a matching context, and Striker places its home cell. -/
  | ctxCreate (c : Call) (inst : Option Nat) (slot postedMax unexpMax : Nat) (notify : Option Nat) (cookie hostArea : Word) (hostAreaLen : Nat) (cellLimit moduleLimit : Nat)
  /-- R340: Destroys a context and completes its posted receives with context_closed. -/
  | ctxDestroy (c : Call) (inst : Option Nat) (slot : Nat)
  /-- R379: Sets the MATCH.CFG and MATCH.INST_CFG fields. -/
  | matchCfg (c : Call) (word : Word) (instCfg : Option (Nat × Word))
  /-- R382: Writes a window entry. -/
  | windowWrite (c : Call) (inst : Option Nat) (window : Nat) (entry : BitVec 256)
  /-- R630: Allocates a Tally with its count mode, notify ring, cookie and mirror. -/
  | tallyAlloc (c : Call) (inst : Option Nat) (slot : Option Nat) (countMode : Bool) (notify : Option Nat) (cookie : Word) (mirror : Option Word)
  /-- R421: Arms a Tally with a threshold; it fires at once if the threshold is already passed. -/
  | tallyArm (c : Call) (inst : Option Nat) (slot : Nat) (threshold : Word)
  /-- R630: Returns a Tally's value and control word. -/
  | tallyRead (c : Call) (inst : Option Nat) (slot : Nat)
  /-- R630: Frees a Tally. -/
  | tallyFree (c : Call) (inst : Option Nat) (slot : Nat)
  /-- R427: Sets the REMOTE.CFG fields. -/
  | remoteCfg (c : Call) (word : Word)
  /-- R432: Creates a collective group, places shape 0 and installs it at the modules concerned. -/
  | groupCreate (c : Call) (group : BitVec 24) (listAddr : Word) (count : Nat) (tc : BitVec 2) (treeA treeB : BitVec 13) (rootHint : Option ModId) (fanMax : Nat) (pinned : Bool)
  /-- R435: Destroys a group everywhere and completes its pending collectives with group_closed. -/
  | groupDestroy (c : Call) (group : BitVec 24)
  /-- R478: Sets the COLL.CFG fields. -/
  | collCfg (c : Call) (word : Word)
  /-- R493: Sets placement limits and hints, or drains a cell. -/
  | placeHint (c : Call) (hint : Hint)
  /-- R505: Enables the placement log and places its ring. -/
  | placeLog (c : Call) (enable : Bool) (ringEntries : Nat)
  /-- R490: Returns this module's placement summary. -/
  | placeSummary (c : Call)
  /-- R506: Sets the STRIKER.CFG fields. -/
  | strikerCfg (c : Call) (word : Word)
  /-- R509: Sets and enables a translation domain's root and format. -/
  | transDomain (c : Call) (domain : Nat) (format root : Word)
  /-- R528: Invalidates a domain's translations and re-walks locked entries. -/
  | transInval (c : Call) (domain : Nat) (whole : Bool) (ranges : List (Word × Nat))
  /-- R518: Walks the named pages and installs them locked in every quadrant. -/
  | transLock (c : Call) (domain : Nat) (va : Word) (pages : Nat) (write : Bool)
  /-- R519: Unlocks translation entries. -/
  | transUnlock (c : Call) (domain : Nat) (va : Word) (pages : Nat)
  /-- R523: Sets one of a port's device ranges. -/
  | deviceRange (c : Call) (port index : Nat) (base : Word) (pages : Nat)
  /-- R537: Names a domain's translation fault log. -/
  | faultLog (c : Call) (domain : Nat) (base : Word) (size : Nat)
  /-- R570: Allocates or frees a Drawing channel and sets its max_priority. Operands: owner: an instance, or none for the caller's physical function. -/
  | drawChannel (c : Call) (channel : Option Nat) (owner : Option Nat) (maxPriority : BitVec 2) (free : Bool)
  /-- R577: Loads a channel's shadow set from a command. -/
  | drawLoad (c : Call) (args : DrawLoadArgs) (ring : Option Nat) (cookie : Word)
  /-- R598: Stops a channel's active program, clears its pending set and breaks the vises it holds. -/
  | drawStop (c : Call) (channel : Nat)
  /-- R656: Claims a vise for the caller's mailbox identity and waits at priority 1. -/
  | viseClaim (c : Call) (vise : Nat)
  /-- R656: Releases or withdraws the caller's hold on a vise. -/
  | viseRelease (c : Call) (vise : Nat)
  /-- R755: Returns QUENCH.FIRST_TIME, QUENCH.STATE and the first, sticky and rail sets. -/
  | quenchRead (c : Call)
  /-- R755: Clears Quench state by its flags and unfences the named units. -/
  | quenchClear (c : Call) (flags : Word) (sources : List Word)
  /-- R723: Sets a detector's policy word. -/
  | quenchPolicy (c : Call) (word policy : Word)
  /-- R744: Schedules a fault injection on a detector at an instant. -/
  | inject (c : Call) (ctrl : Word) (at_ : Ticks)
  /-- R760: Selects a counter's event, or configures the tagger or the firmware sampler. -/
  | counterSelect (c : Call) (word0 word1 word2 : Word)
  /-- R764: Samples a run of counters and returns them with their sample times. -/
  | counterRead (c : Call) (first count : Nat)
  /-- R633: Checks and applies a role map and fabric allowance. -/
  | rolemapLoad (c : Call) (ref : DataRef)
  /-- R639: Writes a valid Fleso image into the slot that is not running. -/
  | fwStage (c : Call) (ref : DataRef)
  /-- R641: Sets boot_slot, or starts a live activation of the staged image. -/
  | fwActivate (c : Call) (live : Bool)
  /-- R616: A Fleso request arrives as a TC3 packet and is queued with the authority of its arrival port. -/
  | mgmtCmd (port : Nat) (p : Packet)
  /-- R619: The response to a forwarded command arrives and is written into the caller's response. -/
  | mgmtResp (port : Nat) (p : Packet)
  /-- R618: A sideband MCTP request arrives; a repeated seq draws the kept response again. -/
  | mctpRequest (eid : BitVec 8) (req : ReqHdr)
  /-- R65: A whole FEC frame is decoded, and its ten flits are accepted or discarded. -/
  | fecFrameReceive (port : Nat) (frame : RxFrame)
  /-- R673: A received Freewheel block is deleted or passed through by the elastic buffer. Operands: fill: symbols held in each receive lane's elastic buffer. -/
  | freewheelBlock (port : Nat) (fill : List Nat)
  /-- R675: A received training block drives lock, polarity, lane order, deskew and width. Operands: lane: the physical receive lane. -/
  | trainingBlock (port lane : Nat) (block : TrainBlock)
  /-- R682: A receive lane loses lock outside a step and the port retrains. -/
  | laneLockLoss (port lane : Nat)
  /-- R679: A training phase exceeds its limit and training restarts from the map phase. -/
  | trainingPhaseTimeout (port : Nat)
  /-- R684: After repeated failed trainings, the 1 s wait ends and training is tried again. -/
  | trainingBackoffExpiry (port : Nat)
  /-- R681: At the switch frame, both ends move to the proposed rate and equalise. -/
  | rateStepSwitch (port : Nat)
  /-- R681: After 1 ms the rate is qualified or fails and falls back. -/
  | rateQualifyEnd (port : Nat) (uncorrectable : Bool) (ratioExceeded : Bool) (eyeWidths : List Nat)
  /-- R694: A lane's eye scan ends, and its margin may call for a step. -/
  | eyeScanComplete (port lane : Nat) (width height : BitVec 6)
  /-- R694: A lane stays below critical_margin for 1 ms and the port retrains. -/
  | marginCriticalExpiry (port lane : Nat)
  /-- R147: The tile sets shod once the port's queues are empty, all flits are acknowledged and sole_use has been clear for 1 µs. -/
  | shodSet (port : Nat)
  /-- R148: sole_use clears 1 µs after its last use. -/
  | soleUseClear (port : Nat)
  /-- R695: The requester resends its shoe request, or its shod, every 1 µs. -/
  | shoeRequestSend (port : Nat)
  /-- R695: At the begin frame, both ends send training blocks and apply the step. -/
  | shoeBeginFrame (port : Nat)
  /-- R698: Frames lock again after a step, step_done is sent, and the stream continues without replay. Operands: the changes of the receive and transmit path delays measured at the step, in 1/256 tick: of the reference lane, or between the two where the width change moves it. -/
  | shoeStepRelock (port : Nat) (rxShift txShift : Int)
  /-- R699: A step that does not regain frame lock within its limit retrains the port. -/
  | shoeStepTimeout (port : Nat)
  /-- R697: Both shods are not held within shoe_wait_ms, so Shoeing is released and deferred. -/
  | shoeWaitExpiry (port : Nat)
  /-- R696: After a refusal or a deferral, the requester asks again. -/
  | shoeRetryTimer (port : Nat)
  /-- R702: Ten µs without data flits starts an idle run of scans and deferred steps. -/
  | idleRunStart (port : Nat)
  /-- R704: Excluded lanes that stay good for 1 s are restored by a kind 3 step. -/
  | widthRestore (port : Nat)
  /-- R80: Four µs without acknowledgement of the oldest flit replays from it. -/
  | replayTimeout (port : Nat) (now : Ticks)
  /-- R174: Every 1 µs, idle lanes shrink their credit limit. -/
  | creditDecay (port : Nat)
  /-- R196: Every 256 ns, each port's Bellows factor is updated from its congestion level. -/
  | bellowsUpdate
  /-- R134: Every 256 ns, a congestion summary is sent on each usable group link. -/
  | congestionSummarySend
  /-- R216: Every 1 µs, each trained port sends a time-exchange flit. -/
  | timeExchangeSend (port : Nat)
  /-- R179: Every 1 µs, each sender sends its TC3 chunk report. -/
  | tc3ChunkReportSend (port : Nat)
  /-- R686: Hello flits are sent every 1 µs during the hello and step phases. -/
  | helloSend (port : Nat)
  /-- R212: An exchange interval ends; a missed exchange stops the port from qualifying as parent. -/
  | exchangeIntervalEnd (port : Nat)
  /-- R192: The injection scheduler chooses and admits an eligible head packet with its first hop. -/
  | injectionDecision (tc : BitVec 2)
  /-- R190: An output port chooses its next packet by class, Stroke fit and virtual time. -/
  | portEgressDecision (port : Nat)
  /-- R141: A packet that has waited route_wait_us is discarded and draws a FAULT. -/
  | routeWaitExpiry (now : Ticks)
  /-- R154: At T the pending routing bank becomes active and the old bank retiring. -/
  | routeSwapFire (now : Ticks)
  /-- R156: A retiring bank empties retire_us after its swap. -/
  | bankRetire (now : Ticks)
  /-- R167: An unacknowledged TC3 packet is resent, and at resend_limit its stream is fenced. -/
  | tc3ResendTimeout (key : StreamKey) (now : Ticks)
  /-- R168: An E2E_ACK frees acknowledged TC3 packets or synchronises a stream. -/
  | e2eAck (port : Nat) (p : Packet)
  /-- R166: An E2E_ACK is sent within 2 µs of a delivery. -/
  | e2eAckTimer (key : StreamKey)
  /-- R729: A fenced TC3 stream's source sends a sync E2E_ACK once each second. -/
  | tc3StreamSyncRetry (key : StreamKey)
  /-- R200: At each epoch boundary, one sample record is written per selected queue. -/
  | sampleEpoch (now : Ticks)
  /-- R209: A reference PPS edge is measured to steer the master's time and judge the reference. Operands: now: Machine Time at the edge; periodNs: ns since the edge before, by the 10 MHz input; tenA and tenB: cycles of that input in a second of REFA and of REFB. -/
  | ppsEdge (now : Ticks) (periodNs tenA tenB : Nat)
  /-- R208: A PPS edge that is 1 µs late, or a bad 10 MHz input, makes the reference lost. Operands: tenMhz: it is the 10 MHz input that left its range. -/
  | timeRefLoss (tenMhz : Bool)
  /-- R669: Loss of REFA or REFB moves the lanes to the other reference, or halts when both are lost. -/
  | refClockLoss (refB : Bool)
  /-- R215: A TIME_ANNOUNCE packet about a change of time class, master or parent reaches agent 0x001. -/
  | timeAnnounce (port : Nat) (p : Packet)
  /-- R231: TIME_OUT pulses at each whole second of Machine Time. -/
  | timeOutPulse (now : Ticks)
  /-- R237: A Stroke ends and the next Stroke's ports and classes come into force. -/
  | strokeBoundary (now : Ticks)
  /-- R244: At the first cycle boundary at or after T, the Stroke banks swap. -/
  | strokeSwapFire (now : Ticks)
  /-- R253: A host link reaches L0, and the port sends Device Readiness Status. Operands: allowed: the rows of R247's table that the
host's negotiation allows, bit 0 the first; width: its row of R248, 3 for none; mem: the host accepts CXL.mem; ready: the port is
ready to serve configuration requests. -/
  | cxlLinkUp (port : Nat) (allowed : BitVec 4) (width : BitVec 2) (mem ready : Bool)
  /-- R253: A configuration request is answered, or draws Retry Status before readiness. Operands: req: the request, or another access on
CXL.io that has no row of its own (assumption logs 50 and 116). -/
  | cxlConfigRequest (port : Nat) (vf : Option Nat) (req : CfgReq)
  /-- R262: A host snoop is answered in hardware from the device cache. -/
  | h2dSnoop (port : Nat) (line : Word)
  /-- R270: A CXL.mem read returns module memory, or report-window data. Operands: foreign: it comes in a PBR flit or
names a logical device other than 0 (R250); window: the request hits the report window of HDM decoder 1. -/
  | cxlMemRead (head : Nat) (foreign window : Bool) (offset : Word)
  /-- R268: A CXL.mem write is made to module memory; a write to the report window is discarded. Operands: foreign and window
as for CXL_MEM_READ. -/
  | cxlMemWrite (head : Nat) (foreign window : Bool) (offset : Word) (data : List Byte)
  /-- R268: A host's back-invalidation response releases a tracked line. -/
  | birsp (head : Nat) (line : Nat)
  /-- R268: A missing BIRsp past bi_timeout_us makes the port vanish. -/
  | biTimeout (head : Nat)
  /-- R273: A D2H request fails after host_timeout_us, and a silent host vanishes. Operands: silent: no transaction content arrived during the whole wait. -/
  | d2hTimeout (port : Nat) (tag : D2hTag) (silent : Bool)
  /-- R284: A host link goes down and the port vanishes. -/
  | hostLinkDown (port : Nat)
  /-- R284: A hot or secondary bus reset from the host makes the port vanish. -/
  | hotReset (port : Nat)
  /-- R280: An IDE integrity failure drops the flit and makes the port vanish. -/
  | ideFailure (port : Nat)
  /-- R284: Clearing Bus Master Enable or Cache_Enable makes the port vanish. Operands: cache: Cache_Enable rather than Bus Master Enable was cleared. -/
  | bmeClear (port : Nat) (cache : Bool)
  /-- R283: The host enables the port and it becomes present, which may change the mode. -/
  | portPresent (port : Nat)
  /-- R281: A virtual-function FLR resets its bound instance and frees its mailbox slots. -/
  | flrVf (port vf : Nat)
  /-- R282: A physical-function FLR resets every instance and queue on the port. -/
  | flrPf (port : Nat)
  /-- R795: Asserting PERST_N takes the host link down; its release lets the port train. -/
  | perstN (port : Nat) (high : Bool)
  /-- R795: Loss of HREFCLK makes the port run SRIS. -/
  | hrefclkLoss (port : Nat)
  /-- R271: GPF phase 1 writes back dirty cache lines and stops new writes. -/
  | gpfPhase1 (port : Nat)
  /-- R271: GPF phase 2 completes at once. -/
  | gpfPhase2 (port : Nat)
  /-- R315: The K64 issues a descriptor read once the fetch limits allow it. -/
  | descriptorFetch (wq : Nat)
  /-- R300: A descriptor read returns and head advances past the entry. -/
  | descriptorReadComplete (wq : Nat) (res : ReadResult)
  /-- R312: A NOP completes with status ok. -/
  | nop (wq : Nat)
  /-- R394: A PUT descriptor starts and sends its local data as PUT packets. -/
  | put (wq : Nat)
  /-- R395: A GET descriptor starts and sends a GET_REQ. -/
  | get (wq : Nat)
  /-- R402: An ATOMIC descriptor starts and sends an ATOMIC_REQ. -/
  | atomic (wq : Nat)
  /-- R358: A MSG_SEND starts, eagerly or by rendezvous. -/
  | msgSend (wq : Nat)
  /-- R355: A MSG_RECV posts, probes, claims or receives against the unexpected list. Operands: acc: the outcome of writing stored payload into the receive buffer. -/
  | msgRecv (wq : Nat) (acc : Access)
  /-- R372: A MSG_CANCEL cancels a posted receive or finds it too late. -/
  | msgCancel (wq : Nat)
  /-- R436: A COLLECTIVE descriptor starts a member's part of a group operation. -/
  | collective (wq : Nat)
  /-- R574: A DRAW_RUN descriptor loads a program into a channel's shadow set. -/
  | drawRun (wq : Nat)
  /-- R419: A TALLY_ADD descriptor adds to a local Tally or sends a remote add. -/
  | tallyAdd (wq : Nat)
  /-- R327: A completion record's write is acknowledged and tail advances. -/
  | recordWriteComplete (ring : Nat)
  /-- R301: A queue's or ring's write-back word is written within 1 µs of a change. -/
  | writeBackWord (isRing : Bool) (n : Nat)
  /-- R347: An eager message packet passes the order stage and is matched or stored. -/
  | msgEager (p : Packet) (acc : Access)
  /-- R361: A rendezvous announcement passes the order stage and, on a match, issues a rendezvous read. -/
  | msgRts (p : Packet)
  /-- R349: A held message draws an order query after each order_wait_us. -/
  | orderQueryTimer (key : StreamKey) (order : BitVec 32) (now : Ticks)
  /-- R351: A message held for order_abandon_ms is discarded. -/
  | orderAbandon (key : StreamKey) (order : BitVec 32) (now : Ticks)
  /-- R387: An arriving PUT packet is checked, deduplicated, written and counted. -/
  | putPacket (p : Packet) (acc : Access)
  /-- R396: A GET_REQ is checked and answered with GET_RESP packets or a RESPONSE. -/
  | getReq (p : Packet) (acc : Access)
  /-- R387: A GET_RESP is written at the requester and counted. -/
  | getResp (p : Packet) (acc : Access)
  /-- R405: An atomic, or a remote TALLY_ADD, is executed indivisibly at the target. Operands: old: the value that the
atomic cell's read of the target finds; oldPoison: it is poisoned. -/
  | atomicReq (p : Packet) (old : BitVec 128) (oldPoison : Bool) (acc : Access)
  /-- R415: The old value is written and the fetching atomic completes. -/
  | atomicResp (p : Packet) (acc : Access)
  /-- R415: A final, per-packet or order-query RESPONSE arrives at the source. -/
  | response (p : Packet)
  /-- R743: A FAULT packet is passed to the unit that holds the operation, which resends. -/
  | fault (p : Packet)
  /-- R390: Once its counts close and its writes are observed, the target applies the Tally add, makes the tombstone and responds. -/
  | operationEnd (src : Endpoint) (tag : BitVec 32)
  /-- R424: A Tally's value is written to its mirror within 1 µs of a change. -/
  | tallyMirrorWrite (tally : Nat) (acc : Access)
  /-- R391: A tombstone expires after tomb_us. -/
  | tombstoneExpiry (src : Endpoint) (tag : BitVec 32) (now : Ticks)
  /-- R413: An open entry with no arrival for open_expire_ms is discarded. -/
  | openEntryExpiry (src : Endpoint) (tag : BitVec 32) (now : Ticks)
  /-- R414: An operation without a final response completes with no_response. -/
  | opTimeout (src : Endpoint) (tag : BitVec 32) (now : Ticks)
  /-- R399: A multicast put completes once settle_us has passed with no FAULT outstanding. -/
  | multicastPutSettle (src : Endpoint) (tag : BitVec 32) (now : Ticks)
  /-- R447: A collective data packet is counted toward a child's segment contribution. -/
  | collData (p : Packet) (acc : Access)
  /-- R432: An install message makes a group record and a shape at the module. -/
  | collInstall (p : Packet)
  /-- R463: A switch moves operations k and later to the new slot. -/
  | collSwitch (p : Packet)
  /-- R470: The coordinator receives a stall report and probes the shape. -/
  | collStall (p : Packet)
  /-- R470: A probed module answers with the children it still awaits. -/
  | collProbe (p : Packet)
  /-- R470: The coordinator receives a probe answer and may probe further. -/
  | collProbeAnswer (p : Packet)
  /-- R472: A restart moves the open operations to a new slot and resends what is not final. -/
  | collRestart (p : Packet)
  /-- R471: A member module reports which segments it holds final. -/
  | collFinalQuery (p : Packet)
  /-- R471: The coordinator receives the final segments held and continues recovery. -/
  | collFinalAnswer (p : Packet)
  /-- R473: An abort completes open collectives with member_lost and breaks the group. -/
  | collAbort (p : Packet)
  /-- R450: A done message propagates upward, and at the root close is sent. -/
  | collDone (p : Packet)
  /-- R450: A close lets senders free the packets they kept for the operation. -/
  | collClose (p : Packet)
  /-- R435: A destroy frees the group record and completes pending collectives with group_closed. -/
  | collDestroy (p : Packet)
  /-- R470: coll_timeout_us passes without a result, so a stall is reported. -/
  | collTimeout (group : BitVec 24) (opSeq : BitVec 16) (now : Ticks)
  /-- R467: At start_at, the member's contribution is read. Operands: data: the contribution as read. -/
  | collStartAt (group : BitVec 24) (opSeq : BitVec 16) (inst : Nat) (now : Ticks) (data : ReadResult)
  /-- R468: At release_at, held result segments are written and the record made. -/
  | collReleaseAt (group : BitVec 24) (opSeq : BitVec 16) (inst : Nat) (now : Ticks) (acc : Access)
  /-- R492: Every 10 ms, Striker compares a fresh shape's cost with the live shape's and may re-place. Operands: newCost: the freshly placed shape's summed cost. -/
  | shapeCompare (group : BitVec 24) (now : Ticks) (newCost : Nat)
  /-- R484: At each placement epoch, Striker measures and plans migrations, demotions, Tally moves and tier grants. Operands: measured busy percent and free store bytes per cell. -/
  | placementEpoch (now : Ticks) (busy : List (Nat × Nat)) (free : List (Nat × Nat))
  /-- R496: The copy of a context ends, and its home is committed or the migration is aborted. -/
  | migrationCommit (ctx : Nat) (copyOk : Bool)
  /-- R488: A demoted payload's copy commits, and the old copy is freed. -/
  | demotionCommit (ctx : Nat)
  /-- R489: A Tally's move commits, and the adds that waited are applied at the new home. -/
  | tallyMoveCommit (tally : Nat)
  /-- R729: An unfenced cell's 1 ms self-test ends, and the cell returns as a spare or stays fenced. -/
  | cellSelfTestEnd (cell : Nat) (pass : Bool)
  /-- R520: A table-entry read returns, and the walk checks it and descends, installs, restarts or faults. -/
  | walkEntryRead (id : Nat) (entry : ReadResult)
  /-- R524: The RdOwn of an entry's line returns, and the accessed and dirty bits are set or the walk restarts. Operands: line: the 64 bytes of
the entry's line as the RdOwn returns them; the row sent again for the walk is the line's write-back. -/
  | adUpdateLine (id : Nat) (line : Line)
  /-- R528: The accesses under removed translations finish, and the invalidation responds. -/
  | invalidationDrainComplete (id : Nat)
  /-- R554: The in-flight count reaches zero, the epoch advances and the instance becomes held. -/
  | instanceResetEnd (inst : Nat)
  /-- R554: After 100 µs the reset ends, abandoning the remaining operations. -/
  | instanceResetTimeout (inst : Nat) (now : Ticks)
  /-- R556: The sweep of old-epoch work ends and sweeping clears. -/
  | epochSweepEnd (inst : Nat)
  /-- R566: A quiesced instance's in-flight count reaches zero and it becomes frozen. -/
  | instanceQuiesceComplete (inst : Nat)
  /-- R575: A checked program commits into the shadow set with a new generation. Operands: program: the program as read. -/
  | drawSetCommit (channel : Nat) (program : ReadResult)
  /-- R580: A MOVE copies a block between spaces, line by line. Operands: the channel; whether the engine grants a write beat or a read
beat (R591), each of one line; what the host answers the write of a write beat. -/
  | move (channel : Nat) (write : Bool) (wr : Access)
  /-- R585: A LOOP repeats its body and advances its bases. -/
  | loop (channel : Nat)
  /-- R586: A WAIT holds the program on a Tally, an instant or a vise claim. -/
  | wait (channel : Nat)
  /-- R588: A SIGNAL adds to a Tally, sends an interrupt, makes a record or releases a vise. -/
  | signal (channel : Nat)
  /-- R590: An END ends the program, makes its record and is the hand-over instant. -/
  | endProg (channel : Nat)
  /-- R586: The instant of a kind 1 WAIT arrives and the program goes on. -/
  | drawWaitInstant (channel : Nat) (now : Ticks)
  /-- R587: A WAIT that passes its timeout stops the program with wait_expired. -/
  | drawWaitTimeout (channel : Nat) (now : Ticks)
  /-- R650: An on-die master's claim write takes a free vise, or loses and may wait. -/
  | viseClaimWrite (stamp : BitVec 16) (vise : Nat) (word : Word)
  /-- R652: An owner's release write frees the vise, or a waiter's write withdraws its wait. -/
  | viseReleaseWrite (stamp : BitVec 16) (vise : Nat) (word : Word)
  /-- R727: Quench samples a detector event, classes it, records it and starts its reaction. Operands: events: detectors outside the modelled blocks that assert in this cycle. -/
  | detectorEvent (events : List QEvent)
  /-- R718: A detector pair with a bad rail state takes rail_class and is masked. -/
  | railFault (detector : Nat)
  /-- R724: A detector's window ends, and its count and escalated clear. -/
  | quenchWindowEnd (detector : Nat) (now : Ticks)
  /-- R744: A scheduled injection fires an event or a rail fault on its detector. -/
  | injectionFire (slot : Nat) (now : Ticks) (coincident : Bool)
  /-- R731: With halt_action set, Quench resets the module 1 s after a Halt. -/
  | haltActionReset (now : Ticks)
  /-- R808: A watchdog expiry restarts Fleso, and commands that were running end with fault. -/
  | hearthWatchdog
  /-- R771: The firmware sampler interrupts a Hearth core and writes a sample. -/
  | hsSampleTrigger (core : Nat) (pc : Word) (skid : Nat) (masked idle : Bool) (opcode : BitVec 16) (task : BitVec 32)
  /-- R778: A mains input leaves its range for 1 ms and is disconnected. -/
  | mainsInputLost (inputB : Bool)
  /-- R778: A mains input is back in range for 2 ms, ending hold-up or powering on from Off. -/
  | mainsInputPresent (inputB : Bool)
  /-- R781: At 12 ms without input, power-down begins. -/
  | holdUpPowerDown
  /-- R781: At 16 ms the rails fall and the module is Off. -/
  | railsOff
  /-- R805: RESET_N held low for 1 µs makes a module reset and enters Standby. -/
  | resetNLow
  /-- R798: RESET_N high with good rails enters Hearth boot and samples MGR_STRAP. -/
  | resetNHigh (mgrStrap : Bool)
  /-- R803: Fleso starts, sets fleso_ready, releases MOD_READY and takes commands. -/
  | flesoReady (romOk fusesOk slotAValid slotBValid : Bool)
  /-- R803: Self-test passes, the ports start training and the module enters Link bring-up. -/
  | selfTestPass (failedCells failedChannels failedPorts : List Nat) (memoryFailed : Option Nat)
  /-- R799: Two s after id_valid, the module leaves Link bring-up. -/
  | linkBringupTimeout (now : Ticks)
  /-- R801: In Drain, the in-flight count reaches zero and MODE_REQUEST 8 is answered. -/
  | drainComplete
  /-- R801: After 10 s in Drain, MODE_REQUEST 8 is answered with the remaining count. -/
  | drainTimeout (now : Ticks)
  /-- R643: The new Fleso passes self-test, returns the module to its mode and answers FW_ACTIVATE. -/
  | fwActivationReady
  /-- R644: A new Fleso that fails or is not ready in 2 s is rolled back. -/
  | fwActivationTimeout (selfTestFailed : Bool)
  /-- R791: Every 1 ms, the power, temperature and flow sensors are sampled into POWER.STATE. -/
  | sensorSample (inA inB : BitVec 12) (dieTemp coolantIn flow : BitVec 8) (memTemps : List Nat)
  /-- R786: PRESENT_N changes, and Hearth checks the assembly's power class and enables its supply. -/
  | cablePresentChange (port : Nat) (present : Bool) (milliwatts : Nat)
  /-- R786: An assembly drawing over 2.0 W for 1 ms has its supply cut. -/
  | cableOverdraw (port : Nat)
  /-- R278: An SPDM request carried by Data Object Exchange on the physical function is answered by Hearth, setting IDE keys or returning measurements. -/
  | doeSpdmRequest (port : Nat) (req : SpdmReq)
  /-- R669: A lost REFA or REFB input shows edges within range again and becomes valid for a later failover. -/
  | refClockReturn (refB : Bool)
  /-- R795: HREFCLK toggles again after a loss, and the port may use it as a common clock. -/
  | hrefclkReturn (port : Nat)
  /-- R248: A host link that cannot reach 32 GT/s ×4, or whose host declines CXL.io and CXL.cache, stays down and records a Notice. -/
  | cxlLinkTrainingFailed (port : Nat) (declined : Bool)
  /-- R707: Live clock recovery moves a lane's sampling phase, the tracked path delay changes, and a whole-tick change is reported to the servo. Operands: delta: change of the lane's path delay in 1/256 tick. -/
  | clockRecoveryPhaseMove (port lane : Nat) (rx : Bool) (delta : Int)
  /-- R501: The salvage copy of a fenced cell's store to its spare ends, object homes are rewritten and the redirect hold is replayed. Operands: objects whose words the salvage port could not correct: contexts, Tallies, reduction partials by group record and op_seq. -/
  | substitutionCopyComplete (cell : Nat) (lostContexts lostTallies : List Nat) (lostPartials : List (Nat × BitVec 16))
  /-- R490: A module that has not answered the placement-summary query within 50 µs is treated as no candidate. -/
  | placementSummaryTimeout (module : ModId)
  /-- R796: The I3C target takes a dynamic address by ENTDAA on the sideband bus. -/
  | i3cEntdaa (address : BitVec 7)
  /-- R324: A CXL.cache read of local payload or of a fragment table returns its data, possibly poisoned, and the steward checks, seals or completes accordingly. -/
  | payloadReadReturn (port : Nat) (tag : D2hTag) (res : ReadResult)
  deriving DecidableEq, Repr

end Sys2Proof
end

