-- ==== Sys2Proof/Config.lean ====
section
/-! DEFINITION. The fixed numbers of the part, and the values its spec leaves open: opaque constants, of which no
proof can know a value (assumption log 3). -/

namespace Sys2Proof.Config

/-- A draw of a hardware LFSR whose polynomial the spec does not give (R138, R491, R687), or another value the spec
leaves open; applied to the counter State.free, which each draw advances. -/
opaque freeDraw : Nat → Nat

/-- SHA-384 of a byte string (R633, R636, R645); the spec names the function and gives no values of it. -/
opaque sha384 : List Byte → BitVec 384

/-- Whether a Fleso image header's signature checks under the Merham key fused in the die (R637): the key is no part
of the spec. -/
opaque signatureValid : List Byte → Bool

/-- The fused security epoch (R637). -/
opaque fusedEpoch : Byte

/-- The image that slot A (false) or slot B (true) of the boot flash holds when the part is made. -/
opaque factoryImage : Bool → List Byte

/-- The boot ROM's version, SPDM measurement 1 (R645). -/
opaque romVersion : BitVec 384

/-- One advance of the tagger's LFSR of polynomial x^32 + x^22 + x^2 + x + 1 (R767); the spec does not say in which
form the register is built (assumption log 45). -/
opaque tagLfsrStep : BitVec 32 → BitVec 32

/-- The look-aside set of a domain and a page (R515), modulo 1,024; the spec does not give the hash. -/
opaque tlbSet : Nat → Nat → Nat

/-- Where a command's argument field stands, by command code and the model's number of the field: R612 reports the offset
of a bad argument, and the spec lays out only the commands whose arguments are register words (assumption log 7). -/
opaque argOffset : Nat → Nat → Nat

/-- The bytes of the hub identity register: vendor 0x4d, part 0x0064, revision 0x41, stepping 0 (R2). -/
def hubId : Word := 0x000000004100644d

/-- Detectors (R711). -/
def detectorCount : Nat := 1408
/-- Work queues, and completion rings (R291). -/
def queueCount : Nat := 16384
/-- Operations in flight per module (R315). -/
def opsInFlightMax : Nat := 262144
/-- Parked-completion store of one ring (R328). -/
def parkMax : Nat := 4096
/-- Fetched and not started descriptors of one queue (R315). -/
def fetchedMax : Nat := 16
/-- The retry buffer in flits (R73). -/
def retryMax : Nat := 1024
/-- The input buffer in chunks (R171). -/
def bufferChunks : Nat := 32768
/-- The input-buffer chunks of one full packet (R72). -/
def maxPacketChunks : Nat := 259
/-- Packets outstanding of one TC3 stream (R164), held ahead at the target (R165), and the whole resend store. -/
def streamMax : Nat := 64
def holdMax : Nat := 32
def resendStoreMax : Nat := 16384
/-- Open operations at a target (R386), tombstones (R391). -/
def openMax : Nat := 524288
def tombMax : Nat := 4194304
/-- Order-stage capacities (R352). -/
def streamEntryMax : Nat := 1048576
def heldMax : Nat := 262144
/-- Group records of a module (R433), open operations of a group (R441). -/
def groupMax : Nat := 8192
def openCollMax : Nat := 4
/-- Tallies of a module. -/
def tallyCount : Nat := 1048576
/-- Bytes of module memory: 512 segments of 256 MiB (R264). -/
def memBytes : Nat := 137438953472
def segBytes : Nat := 268435456
/-- Largest operation (R313). -/
def maxLength : Nat := 268435456
/-- Payload bytes of a full packet, and of a TC3 packet (R93). -/
def maxPayload : Nat := 4096
def maxPayloadTc3 : Nat := 1024

/-- The queue of the collective unit at the injection schedulers: it belongs to no instance (assumption log 58). -/
def collQueue : Nat := 1024
/-- Packets of one stream that a source has outstanding (R117). -/
def streamWindow : Nat := 16777216

/-- D2H read requests that a port keeps outstanding (R263). -/
def d2hReads : Nat := 512
/-- Lines that a head's snoop filter tracks (R268). -/
def trackedMax : Nat := 262144
/-- M2S credits of each kind that a port advertises (R269). -/
def m2sCredits : Nat := 1024
/-- Lines of a port's device coherent cache: 2 MiB (R262). -/
def cacheLines : Nat := 32768
/-- Eight bits of a port's PRBS31 generator from bit n of its output on (R674, R701): the spec names the generator and gives neither its
polynomial nor its start. -/
opaque prbs31 (port n : Nat) : Byte

end Sys2Proof.Config
end

