-- ==== Sys2Proof/Machine/State.lean ====
section
/-! DEFINITION. The state of one K64 module, as plain data. Every field's default is its value at reset, so State.reset
is the structure with nothing given. Tables are sparse: an unlisted entry holds the value its reader names. -/

namespace Sys2Proof.Machine

open Sys2Proof

/-! ### Modes, tiles, links (00, 02, 03, 04, 05, 17) -/

/-- The twelve modes in the order of R6. -/
inductive Mode where
  | off | standby | hearthBoot | linkBringup | transit | fullService | degraded | drain | isolated | diagnostic
  | firmwareUpdate | cracked
  deriving DecidableEq, Repr

/-- link_state of TILE.PORT_STATE (R679, R710). -/
inductive LinkState where
  | detect | map | align | hello | step | up | test
  deriving DecidableEq, Repr

/-- A sequenced flit kept for replay (R73): its link_seq, the flit, and when it was last sent. -/
structure KeptFlit where
  seq    : BitVec 24
  flit   : Flit
  sentAt : Ticks
  deriving DecidableEq, Repr

/-- A packet queued at an output port, at injection or for ejection: the input port it came by (none: local), the
virtual lane it came on, the instance that injected it, whether this module is where its second leg starts (R119),
when it entered (R200), the bytes behind its header that have arrived and whether that is all of them, how many of
its bytes have been sent, whether only its delivery here is left, since when injection has found it
no usable candidate, and how many chunks at its end never arrived (R146). -/
structure QPkt where
  pkt      : Packet
  inPort   : Option Nat := none
  inVl     : Nat := 0
  inst     : Option Nat := none
  legStart : Bool := false
  since    : Ticks := 0
  rest     : List Byte := []
  complete : Bool := true
  sent     : Nat := 0
  localOnly : Bool := false
  noHop    : Option Ticks := none
  short    : Nat := 0
  deriving DecidableEq, Repr

/-- TILE.LINK_RETRY and the retry machinery of one port (R73-R85); held are the packets with a flit in the retry buffer,
each with its last flit's link_seq (R145). -/
structure LinkRetry where
  nextTx    : BitVec 24 := 0
  acked     : BitVec 24 := 0
  replayRun : BitVec 4 := 0
  suspect   : Bool := false
  kept      : List KeptFlit := []
  expected  : BitVec 24 := 0
  nakFor    : Option (BitVec 24 × Ticks) := none
  ackOwed   : Nat := 0
  accepted  : Bool := false
  badRun    : Nat := 0
  frameErrs : Nat := 0
  discards  : Nat := 0
  frameBad  : Nat := 0
  lastCount : Option (BitVec 24) := none
  held      : List (BitVec 24 × QPkt) := []
  deriving DecidableEq, Repr

/-- One virtual lane at a receiver (R173, R176, R179) and the parser of its packets (R71, R94): skip while bytes are
thrown away up to the next packet start, buf the bytes of the packet being received, need its whole length (0 before
its header is whole), localTo when it is delivered at this module, discard when it is thrown away, why the FAULTs that
wait for its trailer (kind, detector, in doubt), freed those of its chunks that have left the buffer, cast the tree
entry that its header read. -/
structure RxLane where
  limit    : Nat := 0x110
  occ      : Nat := 0
  out      : Nat := 0
  granted  : BitVec 10 := 0
  arrived  : BitVec 24 := 0
  busy     : Bool := false
  skip     : Bool := true
  buf      : List Byte := []
  need     : Nat := 0
  localTo  : Bool := false
  discard  : Bool := false
  why      : List (Nat × Nat × Bool) := []
  freed    : Nat := 0
  cast     : Option (BitVec 128) := none
  deriving DecidableEq, Repr

/-- One virtual lane at a sender (R172, R176, R179). -/
structure TxLane where
  credit : Nat := 0
  last   : BitVec 10 := 0
  sent   : BitVec 24 := 0
  deriving DecidableEq, Repr

/-- What tells one head packet of a queue from the next: source, tag, offset, and when it entered the queue. -/
structure VHead where
  src    : Endpoint := 0
  tag    : BitVec 32 := 0
  offset : BitVec 32 := 0
  since  : Ticks := 0
  deriving DecidableEq, Repr

/-- One queue's tags under R185: head is the head packet whose start tag start is. -/
structure VTag where
  start      : Word := 0
  finish     : Word := 0
  emptySince : Ticks := 0
  head       : Option VHead := none
  deriving DecidableEq, Repr

/-- A virtual-time scheduler (R185): its V and its queues. -/
structure VSched where
  v : Word := 0
  q : Table VTag := []
  deriving DecidableEq, Repr

/-- The Machine Time link of one port: TILE.TIME_LINK, the exchange in progress and the far end's advertisement
(R212-R221). delays2 are the last accepted delays doubled; rxCorr and txCorr the path corrections in ticks; shifts counts
their changes (R220), and each of our send and receive times is kept with that count at its instant; prevRx the
latest exchange flit received: its ex_seq, rx_seq, rx_time, our receive time. -/
structure TimeLink where
  linkDelay  : BitVec 24 := 0
  asym       : BitVec 16 := 0
  delayJump  : BitVec 8 := 0
  reported   : BitVec 24 := 0
  delays2    : List Int := []
  jumpRun    : Nat := 0
  exSeq      : BitVec 16 := 0
  txTimes    : List (BitVec 16 × Ticks × Nat) := []
  prevRx     : Option (BitVec 16 × BitVec 16 × Ticks × Ticks × Nat) := none
  shifts     : Nat := 0
  rxCorr     : Int := 0
  txCorr     : Int := 0
  goodRun    : Nat := 0
  delivered  : Bool := false
  advClass   : BitVec 2 := 3
  advPrio    : BitVec 8 := 0
  advMaster  : ModId := 0
  advSteps   : BitVec 4 := 15
  fewerRun   : Nat := 0
  deriving DecidableEq, Repr

/-- One lane: TILE.LANE_STATUS, training and calibration (R675, R692-R704); rxPath and txPath are
in 1/256 tick (R706). -/
structure Lane where
  eyeWidth  : BitVec 6 := 0
  eyeHeight : BitVec 6 := 0
  active    : Bool := false
  excluded  : Bool := false
  inverted  : Bool := false
  physLane  : BitVec 3 := 0
  corrected : BitVec 24 := 0
  scans     : BitVec 16 := 0
  lockRun   : Nat := 0
  good      : Bool := false
  lastStep  : Nat := 0
  lastStepAt : Ticks := 0
  rxPath    : Int := 0
  txPath    : Int := 0
  restoreFails : List Ticks := []
  restoredAt : Option Ticks := none
  deriving DecidableEq, Repr

/-- A Shoeing in progress at one port (R147, R695-R700): our step when we asked, the far end's when it asked. -/
structure Shoe where
  shoeId    : BitVec 32
  own       : Option (Nat × BitVec 8 × BitVec 8) := none
  far       : Option (Nat × BitVec 8 × BitVec 8) := none
  farShod   : Bool := false
  begin_    : Option (BitVec 24) := none
  selfDone  : Bool := false
  farDone   : Bool := false
  deriving DecidableEq, Repr

/-- One tile and its fabric port: every TILE register and what stands behind it. -/
structure Tile where
  retry       : LinkRetry := {}
  rx          : Table RxLane := []
  tx          : Table TxLane := []
  reports     : List Nat := []
  -- TILE.ROUTE_STATE (R170)
  outOfRouting : Bool := true
  fenced      : Bool := false
  shoeing     : Bool := false
  shod        : Bool := false
  soleUse     : Bool := false
  soleClearAt : Option Ticks := none
  beenIn      : Bool := false
  rejoin      : Bool := false
  -- TILE.CREDIT_CFG and TILE.CREDIT_STATE (R203)
  vlFloor     : BitVec 10 := 0x110
  vlCap       : BitVec 15 := 0x5800
  portOverhead : BitVec 8 := 0x10
  nextCredit  : Option (BitVec 10 × BitVec 15 × BitVec 8) := none
  rttChunks   : BitVec 15 := 0
  rttShort    : Bool := false
  tc3Resync   : BitVec 16 := 0
  bellows     : BitVec 7 := 0x40
  gate        : Nat := 9216
  gateAt      : Ticks := 0
  -- egress
  egress      : List QPkt := []
  sentUnreturned : Nat := 0
  -- FEC frames sent (R62-R64): frame_count of the one being filled, and its flits so far
  txFrame     : BitVec 24 := 0
  txFlits     : List Flit := []
  -- bits that the port's PRBS31 generator has given (R674, R701)
  prbs        : Nat := 0
  classV      : VSched := {}
  srcV        : Table VSched := []
  -- Machine Time
  time        : TimeLink := {}
  -- TILE.PORT_STATE (R710)
  linkState   : LinkState := .detect
  inStep      : Bool := false
  rate        : BitVec 2 := 0
  width       : BitVec 2 := 0
  miswired    : Bool := false
  farIdValid  : Bool := false
  reversed    : Bool := false
  rxInverted  : BitVec 8 := 0
  lanesActive : BitVec 8 := 0
  farModule   : ModId := 0
  farPort     : BitVec 6 := 0
  farFenced   : Bool := false
  retrains    : BitVec 12 := 0
  helloSeen   : Bool := false
  -- TILE.LANE_CFG (R710)
  maxRate     : BitVec 2 := 3
  fixedRate   : Bool := false
  allowDegrade : Bool := true
  test        : Bool := false
  marginFloor : BitVec 6 := 0x0c
  criticalMargin : BitVec 6 := 0x06
  shoeWaitMs  : BitVec 8 := 0x14
  -- TILE.CAL_STATE (R710)
  shoeSteps   : BitVec 16 := 0
  deferrals   : BitVec 16 := 0
  delayReports : BitVec 16 := 0
  widthChanges : BitVec 8 := 0
  stepFailures : BitVec 8 := 0
  -- the order of eye scans (R693): the lane scanned last, and those that have just taken a step
  scanAt      : Option Nat := none
  scanFirst   : List Nat := []
  lanes       : Table Lane := []
  -- training (R679-R684)
  selfGood    : BitVec 8 := 0
  farGood     : BitVec 8 := 0
  farMapDone  : Bool := false
  farMaxRate  : BitVec 2 := 0
  syncRun     : Nat := 0
  hellos      : Nat := 0
  hellosToSend : Nat := 0
  nonce       : BitVec 16 := 0
  farNonce    : BitVec 16 := 0
  failures    : Nat := 0
  backoff     : Bool := false
  propRate    : Option (BitVec 2 × BitVec 24) := none
  prevRate    : BitVec 2 := 0
  qualifying  : Bool := false
  -- Shoeing and calibration
  shoe        : Option Shoe := none
  wantStep    : Option (Nat × BitVec 8) := none
  nextShoeId  : BitVec 32 := 0
  lastRestore : Option Ticks := none
  shoeRetry   : Bool := false
  idleRun     : Bool := false
  elastic     : List Nat := []
  freewheels  : Nat := 0
  -- cage (R786, R793)
  present     : Bool := false
  supply      : Bool := false
  overdrawn   : Bool := false
  refused     : Nat := 0
  deriving DecidableEq, Repr

/-- One routing bank (R121, R122): candidates by entry, eight 32-bit words each; an unlisted entry has none. -/
structure RouteBank where
  gen    : BitVec 32 := 0
  group  : Table (List (BitVec 32)) := []
  super  : Table (List (BitVec 32)) := []
  global : Table (List (BitVec 32)) := []
  deriving DecidableEq, Repr

/-- What the inactive bank is (ROUTE.GEN_STATE other_bank). -/
inductive BankState where
  | empty | pending | retiring
  deriving DecidableEq, Repr

/-- A far end that PORT_REASSIGN declared (R41): a module and port, or unwired. -/
inductive Declared where
  | link (far : ModId) (port : Nat)
  | unwired
  deriving DecidableEq, Repr

/-- The latest congestion summary of a member (R134). -/
structure Summary where
  at_    : Ticks
  levels : List (BitVec 4)
  deriving DecidableEq, Repr

/-- The source end of a TC3 stream (R164, R167). -/
structure StreamTx where
  key    : StreamKey
  next   : BitVec 32 := 0
  store  : List (Packet × Nat × Ticks) := []
  queue  : List Packet := []
  fenced : Bool := false
  failed : Bool := false
  deriving DecidableEq, Repr

/-- The target end of a TC3 stream (R165-R168). -/
structure StreamRx where
  key      : StreamKey
  last     : BitVec 32
  hold     : List Packet := []
  sinceAck : Nat := 0
  ackDue   : Bool := false
  deriving DecidableEq, Repr

/-- Identity, wiring, routing, multicast trees and the TC3 transport (01, 03). relook: a port has entered sole use and the
waiting packets are to be looked up again (R140). The fillings of the order stage, the operation table and the collective store, for which
packets wait at the heads of their lanes, have drawn their Notice (R353, R386, R449). -/
structure Routing where
  idValid    : Bool := false
  moduleId   : ModId := 0
  pMinus1    : BitVec 8 := 0
  gMinus1    : BitVec 5 := 0
  mMinus1    : BitVec 4 := 0
  wg         : BitVec 14 := 0
  ws         : BitVec 9 := 0
  declared   : Table Declared := []
  holes      : Table Unit := []
  bank0      : RouteBank := {}
  bank1      : RouteBank := {}
  activeGen  : BitVec 32 := 0
  activeBank : Bool := false
  otherBank  : BankState := .empty
  swapScheduled : Bool := false
  swapMissed : Bool := false
  swapAt     : Ticks := 0
  swapGen    : BitVec 32 := 0
  retireAt   : Ticks := 0
  routeWaitUs : BitVec 8 := 0x64
  nmBias     : BitVec 4 := 4
  modeTc0    : BitVec 2 := 0
  modeTc1    : BitVec 2 := 0
  modeTc2    : BitVec 2 := 2
  retireUs   : BitVec 12 := 0xc8
  timeoutUs  : BitVec 14 := 0x14
  resendLimit : BitVec 8 := 8
  trees      : Table (BitVec 128) := []
  pointers   : Table Nat := []
  summaries  : Table Summary := []
  waiting    : List QPkt := []
  relook     : Bool := false
  orderFilling : Bool := false
  tableFilling : Bool := false
  storeFilling : Bool := false
  streamsTx  : List StreamTx := []
  streamsRx  : List StreamRx := []
  arrivals   : List (Nat × Packet) := []
  mcDiscards : Nat := 0
  discards   : Nat := 0
  faultCount : Nat := 0
  deriving DecidableEq, Repr

/-- A token bucket (R193), its tokens in 1/51,200 byte, so that a tick fills it by rate. -/
structure Bucket where
  tokens : Nat := 0
  at_    : Ticks := 0
  deriving DecidableEq, Repr

/-- Bellows, egress and injection scheduling, shaping, ejection, sampling (04). -/
structure Sched where
  onLevel    : BitVec 4 := 8
  hardLevel  : BitVec 4 := 0xc
  minFactor  : BitVec 7 := 1
  tc0Weight  : BitVec 8 := 1
  tc1Weight  : BitVec 8 := 4
  ejectSpillMib : BitVec 16 := 0x400
  epochNs    : BitVec 30 := 0x186a0
  sampleEnable : Bool := false
  sampleQueues : List (BitVec 32) := []
  sampleRing : Option (Nat × Nat) := none
  sampleCount : Nat := 0
  sampleLost : Nat := 0
  sampleLast : Ticks := 0
  sampleMax  : Table (Nat × Nat × Nat) := []
  shaping    : Table Word := []
  buckets    : Table Bucket := []
  inject     : List QPkt := []
  injectV    : Table VSched := []
  eject      : Table (List QPkt) := []
  ejectFull  : Table Bool := []
  deriving DecidableEq, Repr

/-- The servo states (R224). -/
inductive Servo where
  | free | acquiring | locked | holdover
  deriving DecidableEq, Repr

/-- Machine Time, the servo, the election and Strokes (05). The servo's filtered offset, frequency and slew are held
in units of 2^-32 tick, frac the fraction of a tick beyond now (R222). passedFrom is set while a forward step fires the
events that it passes (R233), classOne once the module counts as class 1 without a reference (R210, R214). -/
structure Time where
  now        : Ticks := 0
  frac       : BitVec 32 := 0
  passedFrom : Option Ticks := none
  priority   : BitVec 8 := 0x80
  refEnable  : Bool := false
  notifyValid : Bool := false
  notifyModule : ModId := 0
  servo      : Servo := .free
  ownClass   : BitVec 2 := 3
  steps      : BitVec 4 := 15
  parent     : Option Nat := none
  refValid   : Bool := false
  stepCount  : BitVec 16 := 0
  filt       : Int := 0
  freq       : Int := 0
  slew       : Int := 0
  lockRun    : Nat := 0
  unlockRun  : Nat := 0
  classOne   : Bool := false
  masterPrio : BitVec 8 := 0x80
  masterId   : ModId := 0
  ppsRun     : Nat := 0
  ref10mOk   : Bool := false
  timeSet    : Option Word := none
  -- Strokes (R235-R245)
  strokeEnable : Bool := false
  strokeBank : Bool := false
  strokes0   : List (BitVec 128) := []
  strokes1   : List (BitVec 128) := []
  strokeBase : Ticks := 0
  strokeBaseOther : Ticks := 0
  strokeSwap : Bool := false
  strokeSwapAt : Ticks := 0
  admission  : Table (BitVec 4) := []
  strokeIdx  : Option Nat := none
  -- references (R668-R670)
  refAValid  : Bool := true
  refBValid  : Bool := true
  usesRefB   : Bool := false
  pulses     : Nat := 0
  deriving DecidableEq, Repr

/-! ### Host ports (06) -/

/-- One function's MSI-X table (R275, R277): every vector is masked until the host unmasks it (assumption log 16). -/
structure Msix where
  size    : Nat := 1
  unmasked : List Nat := []
  pending : List Nat := []
  deriving DecidableEq, Repr

/-- D2H reads that one engine waits for under a tag (R261, R263): by RdOwn or RdCurr, each with its domain (or none: a host physical
address), address and length. -/
structure D2hRead where
  tag   : D2hTag
  own   : Bool := false
  reads : List (Nat × Word × Nat)
  deriving DecidableEq, Repr

/-- A CXL.mem request that its head's port has accepted and not answered (R268-R270); window is the report window's (R265). -/
structure MemReq where
  window : Bool
  addr   : Nat
  write  : Option (List Byte)
  deriving DecidableEq, Repr

/-- One host port: HOST.PORT_STATE, HOST.CFG, configuration space, CXL registers, device cache and the CXL.mem head. d2h holds the
reads sent, d2hWait those that R263 holds back; cache the lines held Modified; lapsed a presence that R817 lets lapse; writeFailed a
write that failed under R273 since the host last answered. -/
structure HostPort where
  present    : Bool := false
  linkUp     : Bool := false
  flitMode   : BitVec 2 := 0
  rate64     : Bool := false
  width      : BitVec 2 := 0
  cacheEnabled : Bool := false
  memEnabled : Bool := false
  ideActive  : Bool := false
  lastCause  : BitVec 3 := 0
  vanishCount : BitVec 16 := 0
  hostTimeoutUs : BitVec 20 := 0x2710
  biTimeoutUs : BitVec 12 := 0x3e8
  bme        : Bool := false
  ideRequired : Bool := false
  silenced   : Bool := false
  ready      : Bool := false
  fenced     : Bool := false
  perst      : Bool := false
  sris       : Bool := false
  writesStopped : Bool := false
  d2h        : List D2hRead := []
  d2hWait    : List D2hRead := []
  m2s        : List MemReq := []
  memDeclined : Bool := false
  lapsed     : Bool := false
  writeFailed : Bool := false
  ideSkid    : Bool := false
  components : Table (BitVec 32) := []
  cache      : Table Line := []
  dirtyLost  : Nat := 0
  tracked    : List Nat := []
  biPending  : List Nat := []
  msix       : Table Msix := []
  deviceRanges : Table (Word × Nat) := []
  bar0       : Option Word := none
  vfBar0     : Option Word := none
  hdm        : Table Word := []
  ideKeys    : Table (BitVec 256 × Bool) := []
  deriving DecidableEq, Repr

/-! ### Queues and rings (07) -/

/-- A completion record before it is written (R325). -/
structure Rec where
  userData : Word := 0
  wqIndex  : BitVec 32 := 0
  queue    : BitVec 14 := 0
  recKind  : BitVec 2 := 0
  opcode   : BitVec 8 := 0
  status   : BitVec 8 := 0
  bytes    : BitVec 32 := 0
  wqHead   : BitVec 32 := 0
  time     : Ticks := 0
  result   : BitVec 256 := 0
  signal   : Bool := false
  inst     : Option Nat := none
  epoch    : BitVec 16 := 0
  deriving DecidableEq, Repr

/-- A descriptor read and not yet started (R315). -/
structure Fetched where
  index : BitVec 32
  line  : Line
  tagId : Option Nat := none
  deriving DecidableEq, Repr

/-- state of QUEUE.WQ_STATE and QUEUE.CQ_STATE (R335). -/
inductive QState where
  | disabled | running | error | fenced
  deriving DecidableEq, Repr

/-- A work queue (R291-R335). -/
structure Wq where
  head       : BitVec 32 := 0
  tail       : BitVec 32 := 0
  state      : QState := .disabled
  overrun    : Bool := false
  stale      : Bool := false
  cqWait     : Bool := false
  pfHeld     : Bool := false
  sizeCode   : BitVec 4 := 0
  cq         : BitVec 14 := 0
  inst       : BitVec 10 := 0
  errorCause : BitVec 4 := 0
  overrunCount : BitVec 16 := 0
  base       : Word := 0
  wb         : Word := 0
  owner      : Fn
  reading    : Option (BitVec 32) := none
  fetched    : List Fetched := []
  open_      : List (BitVec 32) := []
  events     : List (BitVec 8 × BitVec 32) := []
  wbDirty    : Bool := false
  destroying : Bool := false
  destroyCall : Option Call := none
  lost       : Nat := 0
  deriving DecidableEq, Repr

/-- A completion ring (R291-R335). -/
structure Cq where
  head      : BitVec 32 := 0
  tail      : BitVec 32 := 0
  state     : QState := .disabled
  headStale : Bool := false
  irqEnable : Bool := false
  sizeCode  : BitVec 4 := 0
  vector    : BitVec 11 := 0
  owed      : BitVec 21 := 0
  base      : Word := 0
  wb        : Word := 0
  owner     : Fn
  inst      : Option Nat := none
  writing   : List Rec := []
  parked    : List Rec := []
  wbDirty   : Bool := false
  sigPending : Bool := false
  deriving DecidableEq, Repr

/-! ### Source operations, target operations, Tallies (09) -/

/-- The counts of one operation at its target, or of a GET at its requester (R386, R387). -/
structure Counts where
  received : List Nat := []
  pkts     : Nat := 0
  bytes    : Nat := 0
  totals   : Option (Nat × Nat) := none
  err      : BitVec 8 := 0
  poisoned : Bool := false
  badSeals : List Nat := []
  deriving DecidableEq, Repr

/-- What a source operation is (R312), or a rendezvous read that a target's home cell issues (R361). -/
inductive OpKind where
  | put | get | atomic | msgSend | tallyAdd | rdvRead
  deriving DecidableEq, Repr

/-- An operation open at its source. chain holds the entry count of the fragment table being read; gapHeld is R343's hold,
next the next packet to send, operand the operand area of an atomic, zeroGap that the first packet's copies carry msg_gap 0 (R350),
rereads the packets whose bytes are being read again, one entry for each read. -/
structure SrcOp where
  src      : Endpoint
  tag      : BitVec 32
  kind     : OpKind
  wq       : Nat := 0
  index    : BitVec 32 := 0
  inst     : Nat := 0
  epoch    : BitVec 16 := 0
  line     : Line := 0
  dst      : Endpoint := 0
  tc       : BitVec 2 := 0
  mcast    : Bool := false
  rdv      : Bool := false
  length   : Nat := 0
  npkts    : Nat := 1
  e2eBase  : BitVec 32 := 0
  msgGap   : BitVec 9 := 0
  held     : Bool := false
  tables   : List Word := []
  frags    : List (Word × Nat) := []
  started  : Bool := false
  injected : Nat := 0
  counts   : Counts := {}
  resends  : Table Nat := []
  sealed   : List Nat := []
  rereads  : List Nat := []
  lastAt   : Ticks := 0
  fetchedAt : Ticks := 0
  tagId    : Option Nat := none
  ctx      : Nat := 0
  recvIdx  : BitVec 32 := 0
  base     : Nat := 0
  chain    : Nat := 0
  gapHeld  : Bool := false
  next     : Nat := 0
  operand  : List Byte := []
  zeroGap  : Bool := false
  deriving DecidableEq, Repr

/-- An open operation at its target (R386); for a GET its request, the packets sent and injected so far, and those whose
bytes are being read again. -/
structure OpenOp where
  src     : Endpoint
  tag     : BitVec 32
  inst    : Nat
  epoch   : BitVec 16
  opExt   : BitVec 15
  tc      : BitVec 2
  dst     : Endpoint
  mcast   : Bool := false
  counts  : Counts := {}
  closed  : Bool := false
  result  : Option (BitVec 128) := none
  lastAt  : Ticks := 0
  req     : Option Packet := none
  next    : Nat := 0
  sent    : Nat := 0
  rereads : List Nat := []
  deriving DecidableEq, Repr

/-- A tombstone (R391): the final status, the stored atomic result, a GET's request, and the response's header. -/
structure Tomb where
  src     : Endpoint
  tag     : BitVec 32
  status  : BitVec 8
  result  : Option (BitVec 128) := none
  getReq  : Option Packet := none
  dst     : Endpoint
  tc      : BitVec 2
  mcast   : Bool := false
  expires : Ticks
  inst    : Nat := 0
  word    : Word := 0
  rereads : List Nat := []
  deriving DecidableEq, Repr

/-- A Tally (R418-R427). -/
structure Tally where
  value     : Word := 0
  allocated : Bool := true
  armed     : Bool := false
  countMode : Bool := false
  cellTier  : Bool := false
  inst      : BitVec 10 := 0
  slot      : BitVec 14 := 0
  notifyRing : BitVec 14 := 0
  notifyValid : Bool := false
  mirrorValid : Bool := false
  threshold : Word := 0
  cookie    : Word := 0
  mirror    : Word := 0
  mirrorDirty : Bool := false
  addsEpoch : Nat := 0
  quiet     : Nat := 0
  home      : BitVec 2 := 0
  moving    : Option Nat := none
  heldAdds  : List Word := []
  fireRecs  : List Rec := []
  cell      : Option Nat := none
  deriving DecidableEq, Repr

/-- Remote access (09): windows by instance × 4,096 + window, operations, tombstones, Tallies, REMOTE registers. -/
structure Remote where
  windows   : Table (BitVec 256) := []
  opTags    : Table (BitVec 32) := []
  e2eNext   : List (StreamKey × BitVec 32) := []
  srcOps    : List SrcOp := []
  openOps   : List OpenOp := []
  tombs     : List Tomb := []
  tallies   : Table Tally := []
  opTimeoutMs : BitVec 14 := 0x64
  msgTimeoutMs : BitVec 14 := 0
  tombUs    : BitVec 17 := 0x7d0
  resendMax : BitVec 4 := 4
  openExpireMs : BitVec 14 := 0x64
  dupDiscards : BitVec 32 := 0
  tombEarly : BitVec 16 := 0
  expiredOpen : BitVec 16 := 0
  deriving DecidableEq, Repr

/-! ### Matching (08) -/

/-- A message as the order stage or a context holds it. -/
structure Msg where
  src      : Endpoint
  dst      : Endpoint
  tc       : BitVec 2
  tag      : BitVec 32
  key      : BitVec 32
  matchBits : Word
  rdv      : Bool
  length   : Option Nat
  packets  : List Packet := []
  counts   : Counts := {}
  headerOnly : Bool := false
  tier     : BitVec 2 := 0
  hostAt   : List (Nat × Nat) := []
  answered : Bool := false
  claim    : BitVec 16 := 0
  recordDue : Bool := false
  deriving DecidableEq, Repr

/-- A message held in the order stage (R347); one that has been released and waits for its context has its place rel in the release
order (R365). -/
structure HeldMsg where
  key   : BitVec 32
  pred  : BitVec 32
  slot  : Nat
  packets : List Packet
  since : Ticks
  queried : Ticks
  released : Bool := false
  rel   : Nat := 0
  deriving DecidableEq, Repr

/-- A stream entry of the order stage (R347). -/
structure OrderEntry where
  key     : StreamKey
  lastRel : Option (BitVec 32) := none
  held    : List HeldMsg := []
  deriving DecidableEq, Repr

/-- A receive posted, or matched and being written (R354-R362): strad is 1 while the bytes of a straddling packet are being
read from the source and 2 when they are in, asked that the rendezvous read has been issued. -/
structure Recv where
  wq        : Nat
  index     : BitVec 32
  line      : Line
  matchBits : Word
  ignore    : Word
  src       : Endpoint
  srcIgnore : Endpoint
  frags     : List (Word × Nat)
  length    : Nat
  epoch     : BitVec 16 := 0
  msg       : Option Msg := none
  counts    : Counts := {}
  wasUnexp  : Bool := false
  rndv      : Bool := false
  strad     : Nat := 0
  asked     : Bool := false
  deriving DecidableEq, Repr

/-- An input of a context in the redirect hold (R496): a packet of a released message, a started MSG_RECV with its local data,
or a started MSG_CANCEL. -/
inductive CtxInput where
  | packet (p : Packet)
  | recv (wq : Nat) (f : Fetched) (frags : List (Word × Nat))
  | cancel (wq : Nat) (f : Fetched)
  deriving DecidableEq, Repr

/-- A matching context (R336-R379) with its placement limits (R493), its steps in the epoch and in the last ones (R484), and why and
since when it moves. The first onDie posted receives stand on die, the others in the spill (R357). -/
structure Ctx where
  state     : BitVec 2 := 1
  homeCell  : BitVec 12 := 0
  notify    : Option (BitVec 14) := none
  cookie    : Word := 0
  postedMax : BitVec 27 := 0
  unexpMax  : BitVec 23 := 0
  stalls    : BitVec 16 := 0
  headerOnly : BitVec 16 := 0
  truncations : BitVec 16 := 0
  hostArea  : Word := 0
  hostAreaLen : Nat := 0
  cellLimit : Nat := 0
  moduleLimit : Nat := 0
  posted    : List Recv := []
  onDie     : Nat := 0
  unexp     : List Msg := []
  claimed   : List Msg := []
  active    : List Recv := []
  missed    : BitVec 32 := 0
  nextHandle : BitVec 16 := 0
  pin       : Option Nat := none
  quadMask  : BitVec 4 := 0xf
  noMigrate : Bool := false
  grants    : BitVec 3 := 7
  placedAt  : Ticks := 0
  moving    : Option Nat := none
  held      : List CtxInput := []
  demoting  : Option (Endpoint × BitVec 32) := none
  steps     : Nat := 0
  stepHist  : List Nat := []
  moveReason : Nat := 0
  moveShare : Nat := 0
  moveAt    : Ticks := 0
  deriving DecidableEq, Repr

/-- Matching (08). Contexts are keyed by instance × 64 + slot; chains are the MSG_RECVs whose fragment chain is being read,
rtsFails the announcements whose Seal failed once, relNext the number of messages released to a context that did not take them. -/
structure Matching where
  ctxs      : Table Ctx := []
  streams   : List OrderEntry := []
  sends     : List (StreamKey × BitVec 32) := []
  orderWaitUs : BitVec 14 := 0x32
  orderAbandonMs : BitVec 14 := 0x3e8
  postedSpillMib : BitVec 16 := 0x400
  unexpPoolMib : BitVec 16 := 0x800
  eagerLimit : Table (BitVec 17) := []
  rtsFails  : List (Endpoint × BitVec 32) := []
  chains    : List SrcOp := []
  relNext   : Nat := 0
  deriving DecidableEq, Repr

/-! ### Collectives (10) -/

/-- The exact accumulator of one element (R453): a 2,240-bit two's-complement integer and four flags. -/
structure Exact where
  a          : BitVec 2240 := 0
  nan        : Bool := false
  posInf     : Bool := false
  negInf     : Bool := false
  allNegZero : Bool := false
  deriving DecidableEq, Repr

/-- One member's part of one operation at its module; got are the result segments written. -/
structure CollPart where
  inst     : Nat
  rank     : Nat
  wq       : Nat
  index    : BitVec 32
  line     : Line
  read     : Bool := false
  data     : List Byte := []
  poisoned : Bool := false
  got      : List Nat := []
  written  : Nat := 0
  done     : Bool := false
  late     : Bool := false
  err      : BitVec 8 := 0
  epoch    : BitVec 16 := 0
  deriving DecidableEq, Repr

/-- What a node holds of one child's contribution to one segment (R447): node and child are places in the shape; stamp orders
the contributions by completion; arrived holds a prefix's packets on their way down. -/
structure CollInput where
  node     : Nat
  child    : Nat
  segment  : Nat
  lastIdx  : Option Nat := none
  bytes    : Table (List Byte) := []
  offset   : Nat := 0
  poisoned : Bool := false
  stamp    : Option Nat := none
  arrived  : List Packet := []
  deriving DecidableEq, Repr

/-- A result segment held for its members (R468); arrived holds the packets that brought it, with their arrival Seals (R103). -/
structure CollFinal where
  bytes    : List Byte
  poisoned : Bool
  arrived  : List Packet := []
  deriving DecidableEq, Repr

/-- One open operation of a group at this module: outs are the (node, segment) pairs combined, results the root's own result
segments, finals the result segments received, downs the (node, segment) pairs passed down, badSeals the packets whose Seal failed once
(sender, type_word, pkt_index), sealed the kept packets sent again for that (R107), spread the reducer cells that combine its segments
here (R458, R483). -/
structure CollOp where
  seq      : BitVec 16
  slot     : Bool
  params   : Option CollParams := none
  status   : BitVec 8 := 0
  parts    : List CollPart := []
  inputs   : List CollInput := []
  outs     : List (Nat × Nat) := []
  statusUp : List Nat := []
  results  : Table (List Byte × Bool) := []
  finals   : Table CollFinal := []
  downs    : List (Nat × Nat) := []
  kept     : List Packet := []
  resent   : Table Nat := []
  doneFrom : List Nat := []
  contributed : Bool := false
  restarted : Bool := false
  resultAt : Ticks := 0
  startedAt : Ticks := 0
  stalled  : Bool := false
  probes   : List ModId := []
  lost     : List ModId := []
  badSeals : List (ModId × Word × BitVec 16) := []
  sealed   : List Nat := []
  spread   : List Nat := []
  deriving DecidableEq, Repr

/-- A group record (R433, R478): nodes0 and nodes1 are its two shapes. placing says what a coordinator waits to place a shape
for: 1 creation, 2 re-placement, 3 restart; installing the modules whose acknowledgement is due; finalsDue and finalsHeld the
final query of a restart (R471); closed the operations closed last. -/
structure Group where
  group    : BitVec 24
  state    : BitVec 2 := 1
  coordinator : Bool := false
  coord    : ModId := 0
  members  : List Endpoint := []
  tc       : BitVec 2 := 0
  treeA    : BitVec 13 := 0
  treeB    : BitVec 13 := 0
  pinned   : Bool := false
  fanMax   : Nat := 2
  rootHint : Option ModId := none
  nodes0   : List CollNode := []
  nodes1   : List CollNode := []
  newest   : Bool := false
  nextSeq  : BitVec 16 := 0
  memberSeq : Table (BitVec 16) := []
  slot     : Bool := false
  switchAt : Option (BitVec 16 × Bool) := none
  rc       : BitVec 16 := 0
  ops      : List CollOp := []
  placing  : Nat := 0
  others   : List ModId := []
  waiting  : List ModId := []
  newSlot  : Bool := false
  installing : List ModId := []
  installed : List ModId := []
  refused  : Option (ModId × Option Endpoint) := none
  recoverSeq : BitVec 16 := 0
  avoid    : List ModId := []
  finalsDue : List ModId := []
  finalsHeld : List (ModId × List Nat) := []
  closed   : List (BitVec 16) := []
  pendingCall : Option Call := none
  better   : Nat := 0
  placedAt : Ticks := 0
  liveCost : Nat := 0
  deriving DecidableEq, Repr

/-- Collectives (10). Records are keyed by record number. -/
structure Coll where
  groups   : Table Group := []
  timeoutUs : BitVec 20 := 0x2710
  storeMib : BitVec 16 := 0x400
  restarts : BitVec 16 := 0
  stallReports : BitVec 16 := 0
  aborts   : BitVec 16 := 0
  dupDiscards : BitVec 16 := 0
  ctrlDiscards : Nat := 0
  deriving DecidableEq, Repr

/-! ### Placement (11) -/

/-- One anvil cell (R506). -/
structure Cell where
  role    : BitVec 3 := 0
  state   : BitVec 2 := 0
  busy    : BitVec 7 := 0
  free    : BitVec 16 := 0x8000
  objects : BitVec 16 := 0
  drain   : Bool := false
  busyHist : List Nat := []
  freeHist : List Nat := []
  testing : Bool := false
  fencedAt : Ticks := 0
  deriving DecidableEq, Repr

/-- A placement decision record (R505). -/
structure PlaceRec where
  time   : Ticks
  kind   : BitVec 8
  reason : BitVec 8
  object : BitVec 32
  from_  : BitVec 32
  to_     : BitVec 32
  freezeNs : BitVec 32 := 0
  share  : BitVec 32 := 0
  deriving DecidableEq, Repr

/-- Striker (11). wanted holds the roles that draining cells take next, spread the reducer cells of the latest operation's spread (R483). -/
structure Striker where
  cells    : Table Cell := []
  periodUs : BitVec 10 := 0x64
  hotPct   : BitVec 7 := 0x55
  coolPct  : BitVec 7 := 0x32
  migPerEpoch : BitVec 8 := 4
  minDwellMs : BitVec 14 := 0xa
  replaceMarginPct : BitVec 7 := 0x14
  reservePct : BitVec 7 := 0x19
  running  : Bool := false
  frozen   : Bool := false
  logEnable : Bool := false
  logLost  : BitVec 28 := 0
  logRing  : Option (Nat × Nat) := none
  log      : List PlaceRec := []
  migrations : BitVec 16 := 0
  aborted  : BitVec 16 := 0
  substitutions : BitVec 16 := 0
  objectsLost : BitVec 8 := 0
  pinsDropped : BitVec 8 := 0
  epochLast : Ticks := 0
  substituting : Table Nat := []
  wanted   : Table Nat := []
  summaries : List (ModId × Ticks × List Byte) := []
  queried  : List ModId := []
  spread   : List Nat := []
  deriving DecidableEq, Repr

/-! ### Translation (12) -/

/-- A look-aside entry (R515). -/
structure TlbEntry where
  quad    : Nat
  domain  : Nat
  va      : Word
  size    : BitVec 2
  frame   : Word
  writeOk : Bool
  dirtySeen : Bool
  locked  : Bool := false
  used    : Nat := 0
  deriving DecidableEq, Repr

/-- A walk-cache entry (R516): a non-leaf table entry by level and virtual-address prefix. -/
structure WalkCache where
  quad   : Nat
  domain : Nat
  level  : Nat
  index  : Nat
  entry  : Word
  deriving DecidableEq, Repr

/-- A walk in progress (R520); entry is the table entry whose accessed or dirty bit is being set, owned whether the device cache took its
line with the bit set (R524); lock is the lock of pages that it serves (R518, R530). -/
structure Walk where
  id     : Nat
  quad   : Nat
  domain : Nat
  va     : Word
  access : BitVec 2
  gen    : BitVec 32
  tries  : Nat := 0
  pa     : Nat
  level  : Nat
  entry  : Option Word := none
  owned  : Bool := false
  who    : BitVec 29 := 0
  which  : BitVec 32 := 0
  remote : Bool := false
  lock   : Option Nat := none
  deriving DecidableEq, Repr

/-- A fault log (R537). -/
structure FaultLog where
  base  : Word
  size  : Nat
  tail  : Nat := 0
  head  : Nat := 0
  lost  : Nat := 0
  deriving DecidableEq, Repr

/-- A lock of pages under way (R518), or the new walk of a locked entry that an invalidation removed (R530): the page that is walked,
the pages left with it, those found as (address, frame, size). call is a TRANS_LOCK's caller; inval the invalidation that waits. -/
structure LockJob where
  id     : Nat
  domain : Nat
  write  : Bool
  next   : Word
  left   : Nat := 1
  found  : List (Word × Word × BitVec 2) := []
  call   : Option Call := none
  inval  : Option Nat := none
  deriving DecidableEq, Repr

/-- An invalidation that waits for the accesses under removed translations (R528): the reads that were with the host. -/
structure Inval where
  id     : Nat
  domain : Nat
  call   : Call
  reads  : List D2hTag := []
  deriving DecidableEq, Repr

/-- Translation (12). held are the misses that wait for one of a quadrant's 64 walks (R521). An unlisted domain holds format 0x0007_0000_..., as TransFormat resets, and root zero. -/
structure Trans where
  formats  : Table Word := []
  roots    : Table Word := []
  invGen   : Table (BitVec 32) := []
  walks    : BitVec 32 := 0
  faults   : BitVec 16 := 0
  restarts : BitVec 8 := 0
  lockDrops : BitVec 8 := 0
  tlb      : List TlbEntry := []
  cache    : List WalkCache := []
  active   : List Walk := []
  held     : List Walk := []
  locks    : List LockJob := []
  nextLock : Nat := 0
  nextWalk : Nat := 0
  logs     : Table FaultLog := []
  invals   : List Inval := []
  nextInval : Nat := 0
  stamp    : Nat := 0
  deriving DecidableEq, Repr

/-! ### Instances (13) -/

/-- Instance states (R540). -/
inductive IState where
  | free | closed | active | resetting | held | frozen | destroying
  deriving DecidableEq, Repr

/-- One instance: INST registers, grants, latest reset. -/
structure Inst where
  state    : IState := .free
  port     : BitVec 2 := 0
  vf       : BitVec 8 := 0
  bound    : Bool := false
  epoch    : BitVec 16 := 0
  sweeping : Bool := false
  timedOut : Bool := false
  abandoned : BitVec 19 := 0
  resets   : BitVec 16 := 0
  cause    : BitVec 3 := 0
  stale    : BitVec 16 := 0
  logMode  : BitVec 2 := 0
  overflow : Bool := false
  logK     : BitVec 6 := 0
  overflowCount : BitVec 32 := 0
  logBase  : Word := 0
  vaBase   : Word := 0
  logTail  : Nat := 0
  logHead  : Nat := 0
  logLost  : Nat := 0
  grants   : List Nat := []
  segments : List Nat := []
  since    : Ticks := 0
  destroy  : Bool := false
  quiescing : Bool := false
  lostList : List (Nat × Nat) := []
  calls    : List (Call × BitVec 16) := []
  deriving DecidableEq, Repr

/-! ### The Drawing engine and vises (14, 16) -/

/-- channel state (R602). -/
inductive DState where
  | unallocated | idle | running | waiting | signalWait | stopping
  deriving DecidableEq, Repr

/-- An instruction set: program, bases, priority, generation, who loaded it (R571, R577). -/
structure DrawSet where
  program  : List (BitVec 128) := []
  bases    : List Word := []
  baseSpace : BitVec 4 := 0
  priority : BitVec 2 := 0
  gen      : BitVec 16 := 0
  wq       : Option (Nat × BitVec 32) := none
  line     : Line := 0
  cookie   : Word := 0
  ring     : Option Nat := none
  epoch    : BitVec 16 := 0
  deriving DecidableEq, Repr

/-- A load in progress (R575): its set without a program, the program's place, the caller of a DRAW_LOAD. -/
structure DrawLoading where
  set    : DrawSet
  space  : Bool
  addr   : Word
  length : Nat
  call   : Option Call := none
  deriving DecidableEq, Repr

/-- A source line that a read beat brought: its bytes, or the status that it stops the program with (R597). -/
structure DrawLine where
  bytes  : List Byte := []
  failed : Option (BitVec 8) := none
  deriving DecidableEq, Repr

/-- A MOVE under way (R580-R582, R592): its block, the read beats issued, the lines staged by their position in copy order, the
destination lines and bytes written; seq names it to the reads in flight. -/
structure DrawJob where
  seq      : Nat
  pc       : BitVec 8
  src      : Word
  dst      : Word
  n        : Nat
  srcSpace : Bool
  dstSpace : Bool
  down     : Bool
  issued   : Nat := 0
  lines    : Table DrawLine := []
  written  : Nat := 0
  done     : Nat := 0
  deriving DecidableEq, Repr

/-- One Drawing channel: jobs are its MOVEs not yet written whole, oldest first. owner: none unallocated; some (0, instance), (1, host port), (2, 0) for Fleso. -/
structure Chan where
  state     : DState := .unallocated
  maxPrio   : BitVec 2 := 0
  activeGen : BitVec 16 := 0
  shadowGen : BitVec 16 := 0
  owner     : BitVec 10 := 0
  ownerKind : BitVec 2 := 0
  hostPort  : BitVec 2 := 0
  pc        : BitVec 8 := 0
  jobs      : List DrawJob := []
  loops     : List (Nat × Nat) := []
  bytes     : Word := 0
  active    : Option DrawSet := none
  pending   : Option DrawSet := none
  loading   : Option DrawLoading := none
  waitSince : Ticks := 0
  preempted : Bool := false
  sawBroken : Bool := false
  faultAddr : Word := 0
  fenced    : Bool := false
  deriving DecidableEq, Repr

/-- The Drawing engine: granted is the channel that last took a beat, by kind of beat and priority (R591). -/
structure Draw where
  chans      : Table Chan := []
  preemptions : BitVec 32 := 0
  supersedes : BitVec 16 := 0
  loadErrors : BitVec 16 := 0
  granted    : Table Nat := []
  nextJob    : Nat := 0
  deriving DecidableEq, Repr

/-- One vise: owner, broken flag, grant, and the wait list in order of service (R654). -/
structure Vise where
  owner    : BitVec 16 := 0
  ownPrio  : BitVec 2 := 0
  broken   : Bool := false
  inst     : Option (BitVec 10) := none
  waiters  : List (BitVec 16 × BitVec 2) := []
  deriving DecidableEq, Repr

/-- The Vise unit. -/
structure Vises where
  vises      : Table Vise := []
  contended  : BitVec 16 := 0
  notOwner   : BitVec 16 := 0
  brokenReleases : BitVec 16 := 0
  badIdentity : BitVec 8 := 0
  boosts     : BitVec 8 := 0
  deriving DecidableEq, Repr

/-! ### Hearth and mailboxes (15) -/

/-- A response (R612): error, result words, times. -/
structure Resp where
  opcode : BitVec 16
  seq    : BitVec 32
  error  : BitVec 8
  result : List Byte
  take   : Ticks
  done   : Ticks
  deriving DecidableEq, Repr

/-- MBOX.SLOT state (R606). -/
inductive SlotState where
  | free | submitted | running | done
  deriving DecidableEq, Repr

/-- One mailbox slot with its response area (none: zero). -/
structure Slot where
  state : SlotState := .free
  seq   : BitVec 32 := 0
  resp  : Option Resp := none
  deriving DecidableEq, Repr

/-- An event of the event ring (R610). -/
structure Event where
  time   : Ticks
  code   : BitVec 16
  object : BitVec 32
  detail : BitVec 128
  deriving DecidableEq, Repr

/-- One function's mailbox; event i stands at ring position i mod 64. -/
structure Mbox where
  slots  : Table Slot := []
  evTail : BitVec 32 := 0
  evHead : BitVec 32 := 0
  ring   : Table Event := []
  lost   : BitVec 32 := 0
  deriving DecidableEq, Repr

/-- A command that waits for Fleso (R622); badAt is the offset of a header field that breaks R611. -/
structure QCmd where
  via    : Arrival
  opcode : BitVec 16
  seq    : BitVec 32
  target : ModId := 0
  forward : Bool := false
  args   : List Byte := []
  badAt  : Option Nat := none
  deriving DecidableEq, Repr

/-- A staging buffer (R628). -/
structure Staging where
  owner : Arrival
  addr  : Nat
  mib   : Nat
  deriving DecidableEq, Repr

/-- A report-segment area (R265): who owns it, its offset in segment 2, its length. -/
structure Area where
  owner  : Arrival
  offset : Nat
  length : Nat
  deriving DecidableEq, Repr

/-- Hearth, Fleso, boot flash (15). slotA and slotB are images written since the part was made; an empty one still holds the image
it was made with. roleCall is the ROLEMAP_LOAD that waits for cells to drain. Mailboxes are keyed by port × 512, plus 1 + vf for a virtual function. -/
structure Hearth where
  mode       : Mode := .hearthBoot
  ready      : Bool := false
  runningSlot : Bool := false
  bootSlot   : Bool := false
  rolledBack : Bool := false
  version    : BitVec 32 := 0
  fabricBusy : BitVec 16 := 0
  sidebandRepeats : BitVec 16 := 0
  eventsLost : BitVec 16 := 0
  rollbacks  : BitVec 16 := 0
  mboxes     : Table Mbox := []
  queue      : List QCmd := []
  fabricQueue : List QCmd := []
  running    : List (QCmd × Ticks) := []
  staging    : Table Staging := []
  areas      : List Area := []
  keptResp   : List (BitVec 8 × Resp) := []
  roleMap    : List Byte := []
  allowance  : List (BitVec 16) := []
  flashBoot  : Bool := false
  slotA      : List Byte := []
  slotB      : List Byte := []
  roleCall   : Option Call := none
  roleLeft   : Nat := 0
  leftMode   : Mode := .transit
  activating : Option Call := none
  drainCall  : Option Call := none
  returnCall : Option Call := none
  drainSince : Ticks := 0
  idSince    : Ticks := 0
  mgrStrap   : Bool := false
  coresFenced : List Nat := []
  crackRead  : Bool := false
  selfTested : Bool := false
  i3cAddr    : Option (BitVec 7) := none
  exposing   : List (Call × Nat × BitVec 4) := []
  deriving DecidableEq, Repr

/-! ### Quench (18) -/

/-- A record of the log (R739). -/
structure QRec where
  time      : Ticks
  source    : BitVec 11
  cls       : BitVec 3
  escalated : Bool
  injected  : Bool
  coincident : Bool
  rail      : Bool
  first     : Bool
  kind      : BitVec 8
  unitKind  : BitVec 4
  mode      : BitVec 8
  unit      : BitVec 32
  count     : BitVec 16
  breakCode : BitVec 8
  detail    : List Byte
  about     : Option About := none
  deriving DecidableEq, Repr

/-- A detector's window (QUENCH.COUNT). -/
structure QCount where
  count    : BitVec 16 := 0
  open_    : Bool := false
  escalated : Bool := false
  ends     : Ticks := 0
  lastRail : Bool := false
  deriving DecidableEq, Repr

/-- A unit that Quench reacts on (R714, R727): its kind's code and number; kind 0 is the module, 8 a detector's own. -/
structure QUnit where
  kind : Nat
  num  : Nat
  deriving DecidableEq, Repr

/-- A pending or fired injection (QUENCH.INJECT_CTRL, INJECT_AT). -/
structure Injection where
  detector : BitVec 11 := 0
  kind     : Bool := false
  noCount  : Bool := false
  pending  : Bool := false
  fired    : Bool := false
  coincident : Bool := false
  unit     : BitVec 12 := 0
  instant  : Ticks := 0
  deriving DecidableEq, Repr

/-- A committed copy of the crack area (R821). -/
structure Crack where
  time   : Ticks
  first  : List Nat
  sticky : List Nat
  rail   : List Nat
  records : List QRec
  seq    : BitVec 32
  deriving DecidableEq, Repr

/-- Quench. Detector sets are lists of detector numbers; raised holds the events not yet sampled (R715-R717), fenced the units
fenced with the detector each was fenced by, haltBy the detector that halted the module. -/
structure Quench where
  first     : List Nat := []
  firstTime : Ticks := 0
  firstValid : Bool := false
  sticky    : List Nat := []
  rail      : List Nat := []
  halted    : Bool := false
  haltBy    : Option Nat := none
  haltTime  : Ticks := 0
  reportModule : ModId := 0
  reportValid : Bool := false
  haltAction : Bool := false
  suppressed : BitVec 16 := 0
  railFaults : BitVec 16 := 0
  injectionsFired : BitVec 16 := 0
  coincident : BitVec 8 := 0
  breaks    : BitVec 8 := 0
  policy    : Table Word := []
  counts    : Table QCount := []
  inject    : Table Injection := []
  log       : Table QRec := []
  logTail   : BitVec 32 := 0
  logLost   : BitVec 24 := 0
  raised    : List QEvent := []
  reacting  : List (QUnit × BitVec 3) := []
  fenced    : List (QUnit × Nat) := []
  crackNew  : Option Crack := none
  crackOld  : Option Crack := none
  deriving DecidableEq, Repr

/-! ### Counters (19), power (20) -/

/-- An open tagged operation (R767-R769). -/
structure Tagged where
  id      : Nat
  queue   : Nat
  inst    : Nat
  index   : BitVec 32
  opcode  : BitVec 8
  fetched : Ticks
  translated : Ticks := 0
  packets : Nat := 0
  firstInject : Ticks := 0
  lastInject : Ticks := 0
  answered : Ticks := 0
  deriving DecidableEq, Repr

/-- Counters, tagger and firmware sampler (19). A counter is its value with the wrap bit apart. -/
structure Counters where
  values   : Table Word := []
  wrapped  : Table Bool := []
  sels     : Table Word := []
  tagCfg   : Word := 0x20000
  hsCfg    : Word := 0
  tagRing  : Word := 0
  hsRing   : Word := 0
  tagLost  : BitVec 16 := 0
  tagSkipped : BitVec 16 := 0
  hsLost   : BitVec 16 := 0
  maskedDrops : BitVec 16 := 0
  lfsr     : BitVec 32 := 1
  tagged   : List Tagged := []
  nextTag  : Nat := 0
  tagTail  : Nat := 0
  hsTail   : Nat := 0
  deriving DecidableEq, Repr

/-- Mains, sensors, sideband pins (20). -/
structure Power where
  inA     : Bool := false
  inB     : Bool := false
  holdup  : Bool := false
  holdupAt : Ticks := 0
  powerDown : Bool := false
  inAPower : BitVec 12 := 0
  inBPower : BitVec 12 := 0
  dieTemp : BitVec 8 := 0
  coolantIn : BitVec 8 := 0
  flow    : BitVec 8 := 0
  hot     : List Nat := []
  over10  : Table Nat := []
  resetN  : Bool := true
  railsOk : Bool := true
  deriving DecidableEq, Repr

/-- What the block sends out, in order: the model's own record of its outputs. A flit is recorded as it is handed to the
port's framing; frame is the FEC frame that carries ten of them, training a run of 64 training blocks on the lanes
listed, each with its seven leading symbols (R674). -/
inductive Output where
  | flit (port : Nat) (f : Flit)
  | frame (port : Nat) (symbols : List (BitVec 10))
  | freewheel (port : Nat) (perLane : List (BitVec 10))
  | training (port : Nat) (heads : List (Nat × List (BitVec 10)))
  | idle (port : Nat)
  | d2hRead (port : Nat) (tag : D2hTag) (own : Bool) (domain : Nat) (va : Word) (len : Nat)
  | hostWrite (port domain : Nat) (va : Word) (data : List Byte) (mask : Option (BitVec 64)) (poisoned : Bool)
  | physWrite (port : Nat) (pa : Word) (data : List Byte) (mask : Option (BitVec 64))
  | lineBack (port : Nat) (pa : Word) (data : Line)
  | atomicWrite (port domain : Nat) (va : Word) (size : Nat) (value : BitVec 128) (poisoned : Bool)
  | dirtyBit (port : Nat) (pa : Word) (bit : Nat)
  | record (ring : Nat) (index : BitVec 32) (r : Rec) (data : List Byte)
  | msix (fn : Fn) (vector : Nat)
  | cfgCompletion (port : Nat) (vf : Option Nat) (value : Option Word)
  | readiness (port : Nat)
  | snoopResp (port : Nat) (line : Word) (hit : Bool) (data : Option Line)
  | memData (head : Nat) (data : List Byte) (poisoned : Bool)
  | memDone (head : Nat)
  | biSnp (head line : Nat)
  | gpfDone (port phase : Nat)
  | mctp (eid : BitVec 8) (r : Resp)
  | response (via : Arrival) (r : Resp)
  | spdm (port : Nat) (index : Nat) (value : BitVec 384)
  | timeOut (at_ : Ticks)
  | boost (word : BitVec 32)
  | viseWake (identity : BitVec 16)
  | report (pkt : Packet)
  | cableSupply (port : Nat) (on : Bool)
  | modReady (released : Bool)
  | flesoRestart (slot : Bool)
  | tagRecord (bytes : List Byte)
  | f63 (pkt : Packet)
  | lineRelease (port : Nat) (pa : Word)
  deriving DecidableEq, Repr

/-- Why the block stops. -/
inductive Fault where
  /-- CXL.mem names a module-memory address beyond 128 GiB (R264): raised by cxlMemRead and cxlMemWrite. Safe: no such
  address exists. -/
  | noSuchAddress
  deriving DecidableEq, Repr

/-- Why a command has no meaning here. -/
inductive Refusal where
  /-- The command is not modelled yet: raised by exec's arms only. Safe. -/
  | notModelled (mnemonic : String)
  deriving DecidableEq, Repr

/-- One K64 module. mem is module memory in canonical form, poison the rising numbers of its poisoned 64-byte lines
(R111), free the counter of free values, out what the block has sent, pending the commands that wait. -/
structure State where
  routing  : Routing := {}
  tiles    : Table Tile := []
  sched    : Sched := {}
  time     : Time := {}
  ports    : Table HostPort := []
  wqs      : Table Wq := []
  cqs      : Table Cq := []
  remote   : Remote := {}
  matching : Matching := {}
  coll     : Coll := {}
  striker  : Striker := {}
  trans    : Trans := {}
  insts    : Table Inst := []
  draw     : Draw := {}
  vises    : Vises := {}
  hearth   : Hearth := {}
  quench   : Quench := {}
  counters : Counters := {}
  power    : Power := {}
  segments : Table (BitVec 4) := []
  mem      : List Host.Cell := []
  poison   : List Nat := []
  free     : Nat := 0
  out      : List Output := []
  pending  : List Instr := []
  deriving DecidableEq, Repr

/-- The module right after reset: every register at the value the spec gives, no command pending. -/
def State.reset : State := {}

end Sys2Proof.Machine
end

