-- ==== Sys2Proof/Machine/Ops.lean ====
section
/-! DEFINITION. Named operations over tables, sets of numbers, module memory, the clock, and the parts of State. -/

namespace Sys2Proof.Machine

open Sys2Proof

/-! ### Tables with rising keys -/

/-- The entry at key k. -/
def tget {α : Type} : Table α → Nat → Option α
  | [], _ => none
  | e :: t, k => if e.1 = k then some e.2 else tget t k

/-- Put an entry, keeping the keys rising. -/
def tset {α : Type} : Table α → Nat → α → Table α
  | [], k, v => [(k, v)]
  | e :: t, k, v =>
    if k < e.1 then (k, v) :: e :: t else if k = e.1 then (k, v) :: t else e :: tset t k v

/-- Take an entry out. -/
def tdel {α : Type} : Table α → Nat → Table α
  | [], _ => []
  | e :: t, k => if e.1 = k then tdel t k else e :: tdel t k

/-- The entry at key k, or d where none is listed. -/
def tgetD {α : Type} (t : Table α) (k : Nat) (d : α) : α := (tget t k).getD d

/-- Change the entry at key k, which reads as d where none is listed. -/
def tmod {α : Type} (t : Table α) (k : Nat) (d : α) (f : α → α) : Table α := tset t k (f (tgetD t k d))

/-- Change every entry. -/
def tmap {α β : Type} (t : Table α) (f : Nat → α → β) : Table β := t.map fun e => (e.1, f e.1 e.2)

/-! ### Rising lists of numbers -/

/-- Put a number into a rising list. -/
def nset : List Nat → Nat → List Nat
  | [], k => [k]
  | e :: t, k => if k < e then k :: e :: t else if k = e then e :: t else e :: nset t k

/-- Take a number out. -/
def ndel (l : List Nat) (k : Nat) : List Nat := l.filter (· != k)

/-- Every number of the second list put into the first. -/
def nunion (l m : List Nat) : List Nat := m.foldl nset l

/-! ### Module memory (R264, R16): canonical cells, an unlisted byte reads 0 (assumption log 8) -/

/-- One byte of memory. -/
def memGet : List Host.Cell → Nat → Byte
  | [], _ => 0
  | c :: m, a => if c.1 = a then c.2 else memGet m a

/-- Write one byte; writing 0 removes the entry. -/
def memSet : List Host.Cell → Nat → Byte → List Host.Cell
  | [], a, b => if b = 0 then [] else [(a, b)]
  | c :: m, a, b =>
    if a < c.1 then (if b = 0 then c :: m else (a, b) :: c :: m)
    else if a = c.1 then (if b = 0 then m else (a, b) :: m)
    else c :: memSet m a b

/-- n bytes from a on. -/
def memRead (m : List Host.Cell) : Nat → Nat → List Byte
  | _, 0 => []
  | a, n + 1 => memGet m a :: memRead m (a + 1) n

/-- Write bytes from a on. -/
def memWrite (m : List Host.Cell) : Nat → List Byte → List Host.Cell
  | _, [] => m
  | a, b :: bs => memWrite (memSet m a b) (a + 1) bs

/-- Every listed address stands above lo, addresses rise, and no listed byte is 0. -/
def memCanonFrom : Nat → List Host.Cell → Bool
  | _, [] => true
  | lo, c :: m => decide (lo ≤ c.1) && (c.2 != 0) && memCanonFrom (c.1 + 1) m

/-- The canonical form of module memory. -/
def Memory.wf (m : List Host.Cell) : Bool := memCanonFrom 0 m

/-- The 64-byte lines that n bytes from a touch (R111). -/
def linesOf (a n : Nat) : List Nat :=
  if n = 0 then [] else (List.range ((a + n - 1) / 64 + 1 - a / 64)).map (a / 64 + ·)

/-- Whether n bytes from a cover all of line l. -/
def coversLine (a n l : Nat) : Bool := decide (a ≤ l * 64 ∧ l * 64 + 64 ≤ a + n)

/-- The poisoned lines after a write of n bytes from a (R111): a poisoned write poisons every line it touches, a clean
one clears only the lines it covers whole. -/
def poisonAfter (p : List Nat) (a n : Nat) (poisoned : Bool) : List Nat :=
  (linesOf a n).foldl (fun l k => if poisoned then nset l k else if coversLine a n k then ndel l k else l) p

/-- Write bytes into module memory; poison follows R111. -/
def State.storeMem (s : State) (a : Nat) (bs : List Byte) (poisoned : Bool) : State :=
  { s with mem := memWrite s.mem a bs, poison := poisonAfter s.poison a bs.length poisoned }

/-- Whether a poisoned line lies under n bytes from a. -/
def State.memPoisoned (s : State) (a n : Nat) : Bool := (linesOf a n).any fun l => s.poison.contains l

/-- Zero n bytes of module memory. -/
def State.zeroMem (s : State) (a n : Nat) : State :=
  { s with mem := s.mem.filter fun c => c.1 < a || a + n ≤ c.1 }

/-! ### The clock, the output, free values, Quench's inputs -/

/-- Machine Time is at least t: a clock never steps back for a timer (R204, assumption log 2). -/
def State.advance (s : State) (t : Ticks) : State :=
  if s.time.now.toNat < t.toNat then { s with time := { s.time with now := t } } else s

/-- One tick in the servo's unit of 2^-32 tick. -/
def servoUnit : Int := 4294967296

/-- Clamp to plus or minus b. -/
def clampTo (b x : Int) : Int := max (-b) (min b x)

/-- 200 ppm and 100 ppm of 64 ticks a cycle, in 2^-32 tick a cycle (R222, R223). -/
def ppm200 : Int := 54975581
def ppm100 : Int := 27487790

/-- The servo's adjustment, in 2^-32 tick a cycle (R222, R223). -/
def Time.adjustment (t : Time) : Int := clampTo ppm200 (t.freq + t.slew)

/-- One cycle of the 1 GHz time clock (R222): 64 ticks and the adjustment, whose fraction is kept. -/
def State.tick (s : State) : State :=
  let n := (s.time.frac.toNat : Int) + 64 * servoUnit + s.time.adjustment
  { s with time := { s.time with now := s.time.now + BitVec.ofInt 64 (n / servoUnit), frac := BitVec.ofInt 32 (n % servoUnit) } }

/-- Whether a selection counts an event of a code, unit and class (R757). -/
def selCounts (sel : Word) (code unit tc : Nat) : Bool :=
  bits sel 15 0 == code && (bit sel 28 || bits sel 27 16 == unit) && (bit sel 31 || bits sel 30 29 == tc)

/-- Add n to a counter; event counters wrap at 48 bits, byte counters at 64, and the wrap stays noted (R766). -/
def Counters.add (c : Counters) (k n : Nat) : Counters :=
  let top := if k < 2048 then 2 ^ 48 else 2 ^ 64
  let v := (tgetD c.values k 0).toNat + n
  { c with values := tset c.values k (BitVec.ofNat 64 (v % top)), wrapped := if top ≤ v then tset c.wrapped k true else c.wrapped }

/-- Count n events, or bytes, of a code, unit and class (R756-R759). -/
def State.count (s : State) (code unit tc n : Nat) : State :=
  if n = 0 || !s.counters.sels.any fun e => selCounts e.2 code unit tc then s
  else { s with counters := (s.counters.sels.filter fun e => selCounts e.2 code unit tc).foldl (fun c e => c.add e.1 n) s.counters }

/-- Count what an output is to the counters: data flits, host bytes read and written, CXL.mem data. -/
def State.countOut (s : State) (o : Output) : State :=
  match o with
  | .flit p f => if f.flitType = 1 ∨ f.flitType = 2 then s.count 0x0010 p (f.vl.toNat / 8) 1 else s
  | .d2hRead p _ _ _ _ n => s.count 0x8010 p 0 n
  | .hostWrite p _ _ bs _ _ => s.count 0x8011 p 0 bs.length
  | .physWrite p _ bs _ => s.count 0x8011 p 0 bs.length
  | .lineBack p _ _ => s.count 0x8011 p 0 64
  | .atomicWrite p _ _ n _ _ => s.count 0x8011 p 0 n
  | .record r _ _ _ => s.count 0x8011 (((tget s.cqs r).map fun c => c.owner.port).getD 0) 0 64
  | .memData h bs _ => s.count 0x8012 h 0 bs.length
  | _ => s

/-- Send something out. -/
def State.emit (s : State) (o : Output) : State := { s.countOut o with out := s.out ++ [o] }

/-- Take the next free value below n (assumption log 3). -/
def State.drawFree (s : State) (n : Nat) : Nat × State :=
  (Config.freeDraw s.free % n, { s with free := s.free + 1 })

/-- A detector asserts in this cycle (R715): Quench samples it at the next DETECTOR_EVENT. A Seal mismatch of an instance is counted. -/
def State.raise (s : State) (e : QEvent) : State :=
  let s := if e.source = 1280 then (e.inst.map fun i => s.count 0x0052 i 0 1).getD s else s
  { s with quench := { s.quench with raised := s.quench.raised ++ [{ e with time := s.time.now }] } }

/-- A Mend in progress on fabric port p is over (R733): its replayed item is accepted, or the port is Up again. -/
def State.mendOver (s : State) (p : Nat) : State :=
  { s with quench := { s.quench with reacting := s.quench.reacting.filter fun r => r != ({ kind := 1, num := p }, 1) } }

/-- Whether the data path stands still: after a Halt (R731), and from the 12 ms point of a power loss on (R781). -/
def State.stopped (s : State) : Bool := s.quench.halted || s.power.powerDown

/-- A detector asserts, naming a unit. -/
def State.raiseAt (s : State) (source unit : Nat) : State := s.raise { source, unit }

/-! ### Parts of State: an unlisted entry of a table is at its reset value -/

/-- Tile p. -/
def State.tile (s : State) (p : Nat) : Tile := tgetD s.tiles p {}
/-- Change tile p. -/
def State.modTile (s : State) (p : Nat) (f : Tile → Tile) : State := { s with tiles := tmod s.tiles p {} f }
/-- Host port p. -/
def State.port (s : State) (p : Nat) : HostPort := tgetD s.ports p {}
/-- Change host port p. -/
def State.modPort (s : State) (p : Nat) (f : HostPort → HostPort) : State := { s with ports := tmod s.ports p {} f }
/-- Work queue q, where it exists. -/
def State.wq (s : State) (q : Nat) : Option Wq := tget s.wqs q
/-- Change work queue q, where it exists. -/
def State.modWq (s : State) (q : Nat) (f : Wq → Wq) : State :=
  match tget s.wqs q with
  | none => s
  | some w => { s with wqs := tset s.wqs q (f w) }
/-- Change completion ring r, where it exists. -/
def State.modCq (s : State) (r : Nat) (f : Cq → Cq) : State :=
  match tget s.cqs r with
  | none => s
  | some c => { s with cqs := tset s.cqs r (f c) }
/-- Instance i. -/
def State.inst (s : State) (i : Nat) : Inst := tgetD s.insts i {}
/-- Change instance i. -/
def State.modInst (s : State) (i : Nat) (f : Inst → Inst) : State := { s with insts := tmod s.insts i {} f }
/-- The key of a function's mailbox and MSI-X table: port × 512, plus 1 + vf for a virtual function. -/
def fnKey (f : Fn) : Nat :=
  match f.vf with
  | none => f.port * 512
  | some v => f.port * 512 + 1 + v
/-- The mailbox of a function. -/
def State.mbox (s : State) (f : Fn) : Mbox := tgetD s.hearth.mboxes (fnKey f) {}
/-- Change the mailbox of a function. -/
def State.modMbox (s : State) (f : Fn) (g : Mbox → Mbox) : State :=
  { s with hearth := { s.hearth with mboxes := tmod s.hearth.mboxes (fnKey f) {} g } }
/-- Tally t. -/
def State.tally (s : State) (t : Nat) : Tally := tgetD s.remote.tallies t { allocated := false }
/-- Change Tally t. -/
def State.modTally (s : State) (t : Nat) (f : Tally → Tally) : State :=
  { s with remote := { s.remote with tallies := tmod s.remote.tallies t { allocated := false } f } }
/-- Change matching context k, where it exists. -/
def State.modCtx (s : State) (k : Nat) (f : Ctx → Ctx) : State :=
  match tget s.matching.ctxs k with
  | none => s
  | some c => { s with matching := { s.matching with ctxs := tset s.matching.ctxs k (f c) } }
/-- Cell n of Striker's table. -/
def State.cell (s : State) (n : Nat) : Cell := tgetD s.striker.cells n {}
/-- Change cell n. -/
def State.modCell (s : State) (n : Nat) (f : Cell → Cell) : State :=
  { s with striker := { s.striker with cells := tmod s.striker.cells n {} f } }
/-- Drawing channel n. -/
def State.chan (s : State) (n : Nat) : Chan := tgetD s.draw.chans n {}
/-- Change Drawing channel n. -/
def State.modChan (s : State) (n : Nat) (f : Chan → Chan) : State :=
  { s with draw := { s.draw with chans := tmod s.draw.chans n {} f } }
/-- Vise n. -/
def State.vise (s : State) (n : Nat) : Vise := tgetD s.vises.vises n {}
/-- Change vise n. -/
def State.modVise (s : State) (n : Nat) (f : Vise → Vise) : State :=
  { s with vises := { s.vises with vises := tmod s.vises.vises n {} f } }
/-- Change group record r, where it exists. -/
def State.modGroup (s : State) (r : Nat) (f : Group → Group) : State :=
  match tget s.coll.groups r with
  | none => s
  | some g => { s with coll := { s.coll with groups := tset s.coll.groups r (f g) } }

/-! ### Back-invalidation (R268) -/

/-- The lines under n bytes from a that some head's snoop filter tracks. -/
def State.trackedLines (s : State) (a n : Nat) : List Nat :=
  (linesOf a n).filter fun l => (List.range 4).any fun h => (s.port h).tracked.contains l

/-- Send head h a BISnp for a line that it tracks, unless one is outstanding or 256 are. -/
def State.biSnoop (s : State) (h l : Nat) : State :=
  let p := s.port h
  if p.tracked.contains l && !p.biPending.contains l && p.biPending.length < 256 then
    (s.modPort h fun p => { p with biPending := p.biPending ++ [l] }).emit (.biSnp h l)
  else s

/-- Send the BISnps that an access to lines needs, but for head but (4: none). -/
def State.snoopOut (s : State) (but : Nat) (lines : List Nat) : State :=
  lines.foldl (fun s l => ((List.range 4).filter (· != but)).foldl (fun s h => s.biSnoop h l) s) s

end Sys2Proof.Machine
end

