-- ==== Sys2Proof/Machine/Flags.lean ====
section
/-! DEFINITION. The check values and the codes: flit CRC (R67), Seal (R98), wire statuses (R92), completion statuses. -/

namespace Sys2Proof.Machine

open Sys2Proof

/-- One bit of the reflected CRC-32 (polynomial 0x1edc_6f41 reflected is 0x82f6_3b78, R67). -/
def crc32Bit (c : BitVec 32) : BitVec 32 := if bit c 0 then (c >>> 1) ^^^ 0x82f63b78#32 else c >>> 1

/-- One byte of the CRC-32. -/
def crc32Byte (c : BitVec 32) (b : Byte) : BitVec 32 :=
  Nat.repeat crc32Bit 8 (c ^^^ b.zeroExtend 32)

/-- The flit CRC of R67. -/
def crc32 (bs : List Byte) : BitVec 32 := (bs.foldl crc32Byte 0xffffffff#32) ^^^ 0xffffffff#32

/-- One bit of the CRC-64 (R98). -/
def crc64Bit (c : Word) : Word := if bit c 63 then (c <<< 1) ^^^ 0x42f0e1eba9ea3693#64 else c <<< 1

/-- One byte of the CRC-64, most significant bit first. -/
def crc64Byte (c : Word) (b : Byte) : Word := Nat.repeat crc64Bit 8 (c ^^^ (b.zeroExtend 64 <<< 56))

/-- The CRC-64 of R98. -/
def crc64 (bs : List Byte) : Word := bs.foldl crc64Byte 0

/-- R92's wire statuses. -/
def wsOk : BitVec 8 := 0x00
def wsNoEndpoint : BitVec 8 := 0x01
def wsTargetReset : BitVec 8 := 0x02
def wsSealMismatch : BitVec 8 := 0x03
def wsAccessDenied : BitVec 8 := 0x04
def wsOutOfBounds : BitVec 8 := 0x05
def wsTranslationFault : BitVec 8 := 0x06
def wsPoisoned : BitVec 8 := 0x07
def wsMemoryFailed : BitVec 8 := 0x0a

end Sys2Proof.Machine
end

