-- ==== Sys2Proof/Machine/Operands.lean ====
section
/-! DEFINITION. The wire and memory layouts: little-endian bytes (R16), packet headers and trailers (R86, R89), flits
(R66, R68), the Seal's input (R99, R100), and the checks of a header (R88, R93). -/

namespace Sys2Proof.Machine

open Sys2Proof

/-! ### Bytes and fields -/

/-- n bytes of a number, least significant first (R16). -/
def leBytes : Nat → Nat → List Byte
  | 0, _ => []
  | n + 1, v => BitVec.ofNat 8 v :: leBytes n (v / 256)

/-- The number that bytes spell, least significant first (R16). -/
def leNat : List Byte → Nat
  | [] => 0
  | b :: bs => b.toNat + 256 * leNat bs

/-- Put fields (width, value) side by side, the first at bit 0. -/
def packFields : List (Nat × Nat) → Nat
  | [] => 0
  | (w, v) :: fs => v % 2 ^ w + 2 ^ w * packFields fs

/-- The field of width w at bit lo of a number. -/
def fieldAt (v lo w : Nat) : Nat := v / 2 ^ lo % 2 ^ w

/-- n bytes at offset o of a byte string, missing bytes read as zero. -/
def sliceBytes (bs : List Byte) (o n : Nat) : List Byte :=
  let t := (bs.drop o).take n
  t ++ List.replicate (n - t.length) 0

/-- The little-endian number in n bytes at offset o. -/
def leAt (bs : List Byte) (o n : Nat) : Nat := leNat (sliceBytes bs o n)

/-! ### Packets -/

/-- Chunks of a packet with n payload bytes (R72). -/
def packetChunks (n : Nat) : Nat := 3 + ceilDiv n 16

/-- Chunks of a packet. -/
def chunksOf (p : Packet) : Nat := packetChunks p.payloadLen.toNat

/-- The four header words of R86 as one number. -/
def headerNat (p : Packet) : Nat :=
  let r := p.resv.toNat
  packFields
    [ (5, p.pktType.toNat), (2, p.tc.toNat), (3, p.hopStage.toNat), (1, bnat p.nonminimal), (1, bnat p.viaDone),
      (1, bnat p.mcast), (1, bnat p.gen), (1, bnat p.addrForm), (1, fieldAt r 0 1), (13, p.payloadLen.toNat),
      (3, fieldAt r 1 3), (29, p.dst.toNat), (3, fieldAt r 4 3),
      (29, p.src.toNat), (3, fieldAt r 7 3), (17, p.via.toNat), (15, p.opExt.toNat),
      (32, p.opTag.toNat), (32, p.opOffset.toNat), (64, p.typeWord.toNat) ]

/-- The trailer of R89 as one number. -/
def trailerNat (p : Packet) : Nat :=
  packFields
    [ (64, p.sealWord.toNat), (32, p.e2eSeq.toNat), (16, p.pktIndex.toNat), (1, bnat p.first), (1, bnat p.last),
      (1, bnat p.poisoned), (1, bnat p.resent), (12, p.resvT.toNat) ]

/-- The bytes of a packet on the wire: header, payload padded under R72, trailer. -/
def packetBytes (p : Packet) : List Byte :=
  leBytes 32 (headerNat p) ++ sliceBytes p.payload 0 (16 * ceilDiv p.payloadLen.toNat 16) ++ leBytes 16 (trailerNat p)

/-- The header that 32 bytes spell (R86). -/
def headerOf (bs : List Byte) : Packet :=
  let h := leAt bs 0 32
  let f := fieldAt h
  { pktType := f 0 5, tc := f 5 2, hopStage := f 7 3, nonminimal := f 10 1 == 1, viaDone := f 11 1 == 1,
    mcast := f 12 1 == 1, gen := f 13 1 == 1, addrForm := f 14 1 == 1,
    resv := f 15 1 + 2 * f 29 3 + 16 * f 61 3 + 128 * f 93 3,
    payloadLen := f 16 13, dst := f 32 29, src := f 64 29, via := f 96 17, opExt := f 113 15,
    opTag := f 128 32, opOffset := f 160 32, typeWord := f 192 64 }

/-- The packet that a whole packet's bytes spell. -/
def packetOf (bs : List Byte) : Packet :=
  let p := headerOf bs
  let t := leAt bs (32 + 16 * ceilDiv p.payloadLen.toNat 16) 16
  let f := fieldAt t
  { p with payload := sliceBytes bs 32 p.payloadLen.toNat, sealWord := f 0 64, e2eSeq := f 64 32, pktIndex := f 96 16,
           first := f 112 1 == 1, last := f 113 1 == 1, poisoned := f 114 1 == 1, resent := f 115 1 == 1,
           resvT := f 116 12 }

/-- The seal offset (R100). -/
def sealOffset (p : Packet) : Word :=
  if p.pktType = 0x01 ∨ p.pktType = 0x03 ∨ p.pktType = 0x04 ∨ p.pktType = 0x05
  then p.typeWord + p.opOffset.zeroExtend 64 else p.opOffset.zeroExtend 64

/-- The Seal of a packet: CRC-64 of the 16-byte seal header and the payload (R98, R99). -/
def sealOf (p : Packet) : Word :=
  crc64 (leBytes 4 p.dst.toNat ++ leBytes 2 p.payloadLen.toNat ++ leBytes 2 0 ++ leBytes 8 (sealOffset p).toNat ++
    sliceBytes p.payload 0 p.payloadLen.toNat)

/-- A packet with its Seal (R101). -/
def Packet.seal_ (p : Packet) : Packet := { p with sealWord := sealOf p }

/-- Whether a packet's Seal checks. -/
def sealOk (p : Packet) : Bool := p.sealWord == sealOf p

/-- A truncated packet has an all-zero trailer (R105). -/
def isTruncated (p : Packet) : Bool := trailerNat p == 0

/-- A module-form address (R87). -/
def moduleAddr (m : ModId) (agent : Nat) : Endpoint := m.zeroExtend 29 <<< 12 ||| BitVec.ofNat 29 (agent % 4096)

/-- The module of an endpoint or module-form address (R53, R87). -/
def addrModule (e : Endpoint) : ModId := BitVec.ofNat 17 (bits e 28 12)
/-- The host port of an endpoint (R53). -/
def addrPort (e : Endpoint) : Nat := bits e 11 10
/-- The instance of an endpoint (R53). -/
def addrInst (e : Endpoint) : Nat := bits e 9 0
/-- The agent of a module-form address (R87). -/
def addrAgent (e : Endpoint) : Nat := bits e 11 0

/-- The endpoint of an instance on a host port of module m (R53). -/
def endpointOf (m : ModId) (port inst : Nat) : Endpoint :=
  m.zeroExtend 29 <<< 12 ||| BitVec.ofNat 29 (port % 4 * 1024 + inst % 1024)

/-- The packet types of R91. -/
def typeKnown (t : BitVec 5) : Bool := (1 ≤ t.toNat && t.toNat ≤ 0x0a) || (0x10 ≤ t.toNat && t.toNat ≤ 0x14)

/-- Whether R91 allows a class for a type. -/
def classAllowed (t : BitVec 5) (tc : BitVec 2) : Bool :=
  if 0x0a ≤ t.toNat then tc == 3 else tc != 3

/-- R88: a packet in module form has tc 3, but for a unicast COLL_DATA packet, which is in module form and to agent 3. -/
def formOk (p : Packet) : Bool :=
  if p.pktType == 0x09 && !p.mcast then p.addrForm && addrAgent p.dst == 3 else !p.addrForm || p.tc == 3

/-- The stream of a packet (R116): a module-form one is that of the two modules, and a multicast one that of its tree. -/
def streamKeyOf (p : Packet) (viaF63 : Bool) : StreamKey :=
  if p.addrForm then
    { src := moduleAddr (addrModule p.src) 0, dst := moduleAddr (addrModule p.dst) 0, tc := p.tc, viaF63, form := 1 }
  else { src := p.src, dst := p.dst, tc := p.tc, viaF63, form := if p.mcast then 2 else 0 }

/-- A malformed header on virtual lane vl (R93). -/
def headerMalformed (p : Packet) (vl : Nat) : Bool :=
  p.resv != 0 || !typeKnown p.pktType || !classAllowed p.pktType p.tc || decide (4096 < p.payloadLen.toNat) ||
  (p.tc == 3 && decide (1024 < p.payloadLen.toNat)) || p.tc.toNat * 8 + p.hopStage.toNat != vl || !formOk p

/-! ### Flits -/

/-- The 12 header bytes of a flit (R68). -/
def flitHeader (f : Flit) : List Byte :=
  leBytes 12 (packFields
    [ (4, f.flitType.toNat), (5, f.vl.toNat), (4, f.validChunks.toNat), (4, f.firstStart.toNat), (1, bnat f.ackValid),
      (24, f.linkSeq.toNat), (24, f.ackSeq.toNat), (5, f.creditVl.toNat), (10, f.creditCount.toNat),
      (15, f.reserved.toNat) ])

/-- The CRC a flit should carry (R66, R67). -/
def flitCrc (f : Flit) : BitVec 32 := crc32 (flitHeader f ++ sliceBytes f.body 0 240)

/-- A flit with its CRC. -/
def flitSealed (f : Flit) : Flit := { f with crc := flitCrc f }

/-- Whether a flit passes its CRC check. -/
def flitOk (f : Flit) : Bool := f.crc == flitCrc f

end Sys2Proof.Machine
end

