-- ==== Sys2Proof/Machine/Arith.lean ====
section
/-! DEFINITION. Arithmetic of the atomic operations (R406-R408) and of the reductions (R455-R460): integers and IEEE 754
binary formats, by exact integers rounded once. -/

namespace Sys2Proof.Machine

open Sys2Proof

/-- A binary format: exponent and fraction bits. -/
structure Fmt where
  e : Nat
  m : Nat
  deriving DecidableEq, Repr

def fp16 : Fmt := { e := 5, m := 10 }
def bf16 : Fmt := { e := 8, m := 7 }
def fp32 : Fmt := { e := 8, m := 23 }
def fp64 : Fmt := { e := 11, m := 52 }

/-- Width of a format in bits. -/
def Fmt.width (f : Fmt) : Nat := 1 + f.e + f.m
/-- The encoding of +infinity. -/
def Fmt.inf (f : Fmt) : Nat := (2 ^ f.e - 1) * 2 ^ f.m
/-- The default quiet NaN (R408). -/
def Fmt.qnan (f : Fmt) : Nat := f.inf + 2 ^ (f.m - 1)
/-- The sign bit of an encoding. -/
def Fmt.neg (f : Fmt) (v : Nat) : Bool := v.testBit (f.e + f.m)
/-- The encoding without its sign. -/
def Fmt.mag (f : Fmt) (v : Nat) : Nat := v % 2 ^ (f.e + f.m)
/-- Whether an encoding is a NaN. -/
def Fmt.isNan (f : Fmt) (v : Nat) : Bool := decide (f.inf < f.mag v)
/-- Whether it is an infinity. -/
def Fmt.isInf (f : Fmt) (v : Nat) : Bool := f.mag v == f.inf

/-- The value of a finite encoding's magnitude in units of the least subnormal. -/
def Fmt.units (f : Fmt) (mag : Nat) : Nat :=
  let x := mag / 2 ^ f.m
  if x = 0 then mag else (mag % 2 ^ f.m + 2 ^ f.m) * 2 ^ (x - 1)

/-- The value of a finite encoding in units of the least subnormal. -/
def Fmt.value (f : Fmt) (v : Nat) : Int := if f.neg v then -(f.units (f.mag v) : Int) else f.units (f.mag v)

/-- Round a number of 2^-k units of the least subnormal to an encoding's magnitude: to nearest, ties to even; overflow is
infinity. -/
def Fmt.roundMag (f : Fmt) (k n : Nat) : Nat :=
  let l := if n = 0 then 0 else Nat.log2 n
  let sh := if l ≤ f.m + k then k else l - f.m
  let q := n / 2 ^ sh
  let r := n % 2 ^ sh
  let up := decide (2 ^ sh < 2 * r) || (2 * r == 2 ^ sh && q % 2 == 1)
  min f.inf ((sh - k) * 2 ^ f.m + q + bnat up)

/-- Round a signed number of 2^-k units; zero takes the sign given. -/
def Fmt.round (f : Fmt) (k : Nat) (v : Int) (zeroNeg : Bool) : Nat :=
  let s := if v = 0 then zeroNeg else decide (v < 0)
  bnat s * 2 ^ (f.e + f.m) + f.roundMag k v.natAbs

/-- IEEE 754 addition, to nearest even (R408). -/
def Fmt.add (f : Fmt) (a b : Nat) : Nat :=
  if f.isNan a || f.isNan b then f.qnan
  else if f.isInf a then (if f.isInf b && f.neg a != f.neg b then f.qnan else a)
  else if f.isInf b then b
  else f.round 0 (f.value a + f.value b) (f.neg a && f.neg b && f.mag a == 0 && f.mag b == 0)

/-- A total order key of non-NaN encodings, -0 below +0. -/
def Fmt.key (f : Fmt) (v : Nat) : Int := if f.neg v then -(f.mag v : Int) - 1 else f.mag v

/-- minimum of IEEE 754-2019 (R408). -/
def Fmt.minimum (f : Fmt) (a b : Nat) : Nat :=
  if f.isNan a || f.isNan b then f.qnan else if f.key b < f.key a then b else a
/-- maximum of IEEE 754-2019 (R408). -/
def Fmt.maximum (f : Fmt) (a b : Nat) : Nat :=
  if f.isNan a || f.isNan b then f.qnan else if f.key a < f.key b then b else a

/-- The signed value of a w-bit number. -/
def signedOf (w v : Nat) : Int := if v < 2 ^ (w - 1) then v else (v : Int) - 2 ^ w

/-- Least of two w-bit integers, signed or not. -/
def intMin (signed : Bool) (w a b : Nat) : Nat :=
  if signed then (if signedOf w b < signedOf w a then b else a) else min a b
/-- Greatest of two w-bit integers, signed or not. -/
def intMax (signed : Bool) (w a b : Nat) : Nat :=
  if signed then (if signedOf w a < signedOf w b then b else a) else max a b

/-! ### Atomics -/

/-- Size of an atype in bytes (R407); 0 for no type. -/
def atypeSize (t : Nat) : Nat :=
  match t with
  | 0 => 4 | 1 => 4 | 2 => 8 | 3 => 8 | 4 => 16 | 5 => 4 | 6 => 8
  | _ => 0

/-- The pairs of R407; TALLY_ADD is valid with uint64. -/
def atomicPair (aop t : Nat) : Bool :=
  match t with
  | 0 => aop ≤ 6
  | 1 => aop ≤ 6
  | 2 => aop ≤ 7
  | 3 => aop ≤ 7 || aop == 0x10
  | 4 => aop == 6 || aop == 7
  | 5 => aop == 0 || aop == 4 || aop == 5 || aop == 6
  | 6 => aop == 0 || aop == 4 || aop == 5 || aop == 6
  | _ => false

/-- R406, R408: the new value at the address, from the old value v, operand x and compare value c. -/
def atomicResult (aop t v x c : Nat) : Nat :=
  let w := 8 * atypeSize t
  let v := v % 2 ^ w
  let x := x % 2 ^ w
  let c := c % 2 ^ w
  let signed := t == 0 || t == 2
  let f := if t = 5 then fp32 else fp64
  let fp := t == 5 || t == 6
  match aop with
  | 0 => if fp then f.add v x else (v + x) % 2 ^ w
  | 1 => v &&& x
  | 2 => v ||| x
  | 3 => v ^^^ x
  | 4 => if fp then f.minimum v x else intMin signed w v x
  | 5 => if fp then f.maximum v x else intMax signed w v x
  | 6 => x
  | 7 => if v = c then x else v
  | _ => v

end Sys2Proof.Machine
end

