-- ==== Sys2Proof/Machine/Exact.lean ====
section
/-! DEFINITION. The exact accumulator (R453-R457) and the combination of contributions (R437, R438, R451, R452). -/

namespace Sys2Proof.Machine

open Sys2Proof

/-- Size of a dtype (R438). -/
def dtypeSize (d : Nat) : Nat :=
  match d with
  | 0 => 4 | 1 => 4 | 2 => 8 | 3 => 8 | 4 => 2 | 5 => 2 | 6 => 4
  | _ => 8
/-- Whether a dtype is floating-point. -/
def dtypeFloat (d : Nat) : Bool := 4 ≤ d && d ≤ 7
/-- The format of a floating-point dtype. -/
def dtypeFmt (d : Nat) : Fmt := if d = 4 then bf16 else if d = 5 then fp16 else if d = 6 then fp32 else fp64

/-- Bits of a format's unit below 2^-1074: the least subnormal is 2^-1074 × 2^k (R453). -/
def Fmt.shift (f : Fmt) : Nat := 1074 - (2 ^ (f.e - 1) - 2 + f.m)

/-- R453: one value as an accumulator. -/
def exactOf (f : Fmt) (v : Nat) : Exact :=
  if f.isNan v then { nan := true }
  else if f.isInf v then (if f.neg v then { negInf := true } else { posInf := true })
  else { a := BitVec.ofInt 2240 (f.value v * 2 ^ f.shift), allNegZero := f.mag v == 0 && f.neg v }

/-- R454: combine two accumulators. -/
def Exact.add (x y : Exact) : Exact :=
  { a := x.a + y.a, nan := x.nan || y.nan, posInf := x.posInf || y.posInf, negInf := x.negInf || y.negInf,
    allNegZero := x.allNegZero && y.allNegZero }

/-- R455: convert an accumulator to a format. -/
def Exact.toFmt (f : Fmt) (x : Exact) : Nat :=
  if x.nan || (x.posInf && x.negInf) then f.qnan
  else if x.posInf then f.inf
  else if x.negInf then f.inf + 2 ^ (f.e + f.m)
  else f.round f.shift x.a.toInt x.allNegZero

/-- Word w of an accumulator (R456). -/
def Exact.word (x : Exact) (w : Nat) : Nat := x.a.toNat / 2 ^ (64 * w) % 2 ^ 64

/-- Words that a record keeps from the top: those that repeat the sign below them go; n words are looked at (R456). -/
def Exact.top (x : Exact) : Nat → Nat
  | 0 => 0
  | 1 => 1
  | n + 2 =>
    let hi := x.word (n + 1)
    let sign := (x.word n).testBit 63
    if (hi = 0 ∧ sign = false) ∨ (hi = 2 ^ 64 - 1 ∧ sign = true) then x.top (n + 1) else n + 2

/-- Zero words at the bottom of an accumulator, below n. -/
def Exact.low (x : Exact) (n : Nat) : Nat := ((List.range n).takeWhile fun w => x.word w == 0).length

/-- The record of an accumulator in its shortest form (R456). -/
def Exact.bytes (x : Exact) : List Byte :=
  let zero := x.a == 0
  let top := x.top 35
  let low := if zero then 0 else x.low top
  let n := if zero then 0 else top - low
  leBytes 8 (packFields [(6, low), (6, n), (1, bnat x.nan), (1, bnat x.posInf), (1, bnat x.negInf), (1, bnat x.allNegZero)]) ++
  (List.range n).flatMap fun i => leBytes 8 (x.word (low + i))

/-- The records in a byte string, at most n of them; none where one is malformed (R457). -/
def exactsOf : Nat → List Byte → Option (List Exact)
  | 0, _ => some []
  | n + 1, bs =>
    if bs.isEmpty then some []
    else
      let h := leAt bs 0 8
      let low := fieldAt h 0 6
      let cnt := fieldAt h 6 6
      if 35 < low + cnt ∨ fieldAt h 16 48 ≠ 0 then none
      else
        let v := leAt bs 8 (8 * cnt)
        let neg := cnt != 0 && v.testBit (64 * cnt - 1)
        let a : Int := (if neg then (v : Int) - 2 ^ (64 * cnt) else v) * 2 ^ (64 * low)
        let x : Exact := { a := BitVec.ofInt 2240 a, nan := fieldAt h 12 1 == 1, posInf := fieldAt h 13 1 == 1,
                           negInf := fieldAt h 14 1 == 1, allNegZero := fieldAt h 15 1 == 1 }
        (exactsOf n (bs.drop (8 + 8 * cnt))).map fun l => x :: l

/-- Elements of a byte string, of s bytes each. -/
def elemsOf (s : Nat) (bs : List Byte) : List Nat := (List.range (bs.length / s)).map fun i => leAt bs (s * i) s

/-- One reduction of two elements (R438, R451, R452). -/
def reduceElem (d r a b : Nat) : Nat :=
  let w := 8 * dtypeSize d
  let signed := d == 0 || d == 2
  let f := dtypeFmt d
  let fp := dtypeFloat d
  match r with
  | 0 => if fp then f.add a b else (a + b) % 2 ^ w
  | 1 => if fp then f.minimum a b else intMin signed w a b
  | 2 => if fp then f.maximum a b else intMax signed w a b
  | 3 => a &&& b
  | 4 => a ||| b
  | _ => a ^^^ b

end Sys2Proof.Machine

namespace Sys2Proof

open Sys2Proof.Machine

/-- Whether an operation reduces: reduce, allreduce, reduce_scatter, scan (R437). -/
def CollParams.reduces (p : CollParams) : Bool := p.op == 2 || p.op == 3 || p.op == 4 || p.op == 6

/-- A member's elements as they travel: as they are, or as exact records (R453, R456). -/
def CollParams.lift (p : CollParams) (bs : List Byte) : List Byte :=
  if p.exact_ then (elemsOf (dtypeSize p.dtype.toNat) bs).flatMap fun v => (exactOf (dtypeFmt p.dtype.toNat) v).bytes else bs

/-- Combine two partials of a segment; an empty one is no partial (R451, R452, R454). -/
def CollParams.combine (p : CollParams) (a b : List Byte) : List Byte :=
  if a.isEmpty then b
  else if b.isEmpty then a
  else if p.exact_ then
    match exactsOf a.length a, exactsOf b.length b with
    | some x, some y => (x.zip y).flatMap fun e => (e.1.add e.2).bytes
    | _, _ => a
  else
    let s := dtypeSize p.dtype.toNat
    ((elemsOf s a).zip (elemsOf s b)).flatMap fun e => leBytes s (reduceElem p.dtype.toNat p.redOp.toNat e.1 e.2)

/-- The result of a partial (R455): exact records are converted. -/
def CollParams.finish (p : CollParams) (bs : List Byte) : List Byte :=
  if p.exact_ then
    match exactsOf bs.length bs with
    | some l => l.flatMap fun x => leBytes (dtypeSize p.dtype.toNat) (x.toFmt (dtypeFmt p.dtype.toNat))
    | none => []
  else bs

/-- Elements that a partial holds. -/
def CollParams.elems (p : CollParams) (bs : List Byte) : Nat :=
  if p.exact_ then ((exactsOf bs.length bs).map List.length).getD 0 else bs.length / dtypeSize p.dtype.toNat

end Sys2Proof
end

