-- ==== Sys2Proof/Machine/Fec.lean ====
section
/-! DEFINITION. FEC frames (R62-R65) and Freewheel blocks (R671): the bytes of a flit, the frame's message and control field,
the RS(544,514) code, and what a received frame holds. -/

namespace Sys2Proof.Machine

open Sys2Proof

/-! ### A flit's 256 bytes (R66) -/

/-- The bytes of a flit (R66): header, body, CRC. -/
def flitBytes (f : Flit) : List Byte := flitHeader f ++ sliceBytes f.body 0 240 ++ leBytes 4 f.crc.toNat

/-- The flit that 256 bytes spell (R66, R68). -/
def flitOf (bs : List Byte) : Flit :=
  let f := fieldAt (leAt bs 0 12)
  { flitType := f 0 4, vl := f 4 5, validChunks := f 9 4, firstStart := f 13 4, ackValid := f 17 1 == 1, linkSeq := f 18 24,
    ackSeq := f 42 24, creditVl := f 66 5, creditCount := f 71 10, reserved := f 81 15,
    body := sliceBytes bs 12 240, crc := leAt bs 252 4 }

/-! ### The Reed-Solomon code of IEEE 802.3 (R62; assumption log 126) -/

/-- An element of GF(2^10), built on x^10 + x^3 + 1. -/
abbrev Gf := BitVec 10

/-- Times the primitive element. -/
def gfDouble (a : Gf) : Gf := if bit a 9 then (a <<< 1) ^^^ 9#10 else a <<< 1

/-- The product in GF(2^10): n bits of b are left, the lowest first. -/
def gfMulBits : Nat → Gf → Gf → Gf
  | 0, _, _ => 0
  | n + 1, a, b => (if bit b 0 then a else 0) ^^^ gfMulBits n (gfDouble a) (b >>> 1)

/-- The product in GF(2^10). -/
def gfMul (a b : Gf) : Gf := gfMulBits 10 a b

/-- A polynomial, highest coefficient first and without its leading 1, times (x - r). -/
def timesRoot (p : List Gf) (r : Gf) : List Gf :=
  ((1#10 :: p).zip (p ++ [0])).map fun (e : Gf × Gf) => gfMul e.1 r ^^^ e.2

/-- The roots 1, a, …, a^(n-1) of the generator, a the primitive element. -/
def gfPowers : Nat → Gf → List Gf
  | 0, _ => []
  | n + 1, a => a :: gfPowers n (gfDouble a)

/-- The generator polynomial of degree 30 without its leading 1, highest coefficient first. -/
def rsGenerator : List Gf := (gfPowers 30 1).foldl timesRoot []

/-- One message symbol enters the 30-symbol division register, highest first. -/
def rsStep (reg : List Gf) (m : Gf) : List Gf :=
  let q := m ^^^ reg.headD 0
  ((reg.drop 1 ++ [0]).zip rsGenerator).map fun (e : Gf × Gf) => e.1 ^^^ gfMul q e.2

/-- The 30 parity symbols of a codeword's 514 message symbols, in the order sent. -/
def rsParity (ms : List Gf) : List Gf := ms.foldl rsStep (List.replicate 30 0)

/-- Codeword c's message symbols: symbol i of the frame belongs to codeword i mod 4 (R63). -/
def ofCodeword (syms : List Gf) (c : Nat) : List Gf := (syms.zipIdx.filter fun (e : Gf × Nat) => e.2 % 4 == c).map (·.1)

/-! ### Frames (R63, R64) -/

/-! ### Training blocks (R674) -/

/-- The marker of a training block. -/
def trainMarker : List (BitVec 10) := [0x3e0, 0x3e0, 0x01f, 0x01f]

/-- The seven leading symbols of a training block that physical lane j sends. -/
def trainHead (j : Nat) (maxRate : BitVec 2) (rxGood : BitVec 8) (mapDone : Bool) (phase : BitVec 2) : List (BitVec 10) :=
  trainMarker ++ [BitVec.ofNat 10 (packFields [(3, j), (2, maxRate.toNat)]), BitVec.ofNat 10 (packFields [(8, rxGood.toNat), (1, bnat mapDone)]),
    phase.zeroExtend 10]

end Sys2Proof.Machine

namespace Sys2Proof

open Sys2Proof.Machine

/-- Whether the marker arrives complemented: the lane's polarity is inverted (R675). -/
def TrainBlock.inverted (b : TrainBlock) : Bool := b.symbols.take 4 == trainMarker.map (~~~ ·)
/-- Whether the marker is there, in either polarity (R675). -/
def TrainBlock.marked (b : TrainBlock) : Bool := b.symbols.take 4 == trainMarker || b.inverted
/-- Symbol k, its polarity put right. -/
def TrainBlock.symbol (b : TrainBlock) (k : Nat) : BitVec 10 :=
  let x := b.symbols.getD k 0
  if b.inverted then ~~~x else x
/-- The physical lane that sent it. -/
def TrainBlock.lane (b : TrainBlock) : BitVec 3 := BitVec.ofNat 3 (bits (b.symbol 4) 2 0)
/-- max_rate of the far end. -/
def TrainBlock.maxRate (b : TrainBlock) : BitVec 2 := BitVec.ofNat 2 (bits (b.symbol 4) 4 3)
/-- The far end's rx_good mask. -/
def TrainBlock.rxGood (b : TrainBlock) : BitVec 8 := BitVec.ofNat 8 (bits (b.symbol 5) 7 0)
/-- The far end's map_done. -/
def TrainBlock.mapDone (b : TrainBlock) : Bool := bit (b.symbol 5) 8
/-- Its phase: 0 map, 1 equalise, 2 excluded lane, 3 test. -/
def TrainBlock.phase (b : TrainBlock) : BitVec 2 := BitVec.ofNat 2 (bits (b.symbol 6) 1 0)

end Sys2Proof

namespace Sys2Proof.Machine

open Sys2Proof

/-- The 10-bit symbols of a message of n symbols, the first in bits [9:0] (R16). -/
def symbolsOf (message : List Byte) (n : Nat) : List Gf :=
  let m := leNat message
  (List.range n).map fun i => BitVec.ofNat 10 (m / 2 ^ (10 * i))

/-- The frame control field (R64). -/
def frameControlField (count : BitVec 24) : List Byte := leBytes 10 (packFields [(8, 0xb5), (24, count.toNat), (48, 0)])

/-- The 2,570 message bytes of a frame (R63): its control field and ten flits. -/
def frameMessage (count : BitVec 24) (flits : List Flit) : List Byte := frameControlField count ++ flits.flatMap flitBytes

/-- The 2,176 symbols of a frame: 2,056 of the message, then each parity symbol of the four codewords in turn. -/
def frameSymbols (message : List Byte) : List Gf :=
  let ms := symbolsOf message 2056
  let ps := (List.range 4).map fun c => rsParity (ofCodeword ms c)
  ms ++ (List.range 30).flatMap fun j => ps.map fun p => p.getD j 0

/-- frame_sync of a received frame. -/
def rxSync (f : RxFrame) : BitVec 8 := BitVec.ofNat 8 (leAt f.message 0 1)
/-- frame_count of a received frame. -/
def rxCount (f : RxFrame) : BitVec 24 := BitVec.ofNat 24 (leAt f.message 1 3)
/-- The ten flits of a received frame. -/
def rxFlits (f : RxFrame) : List Flit := (List.range 10).map fun i => flitOf (sliceBytes f.message (10 + 256 * i) 256)

/-- Symbol errors of codeword c. -/
def codeErrs (f : RxFrame) (c : Nat) : Nat := (f.errors.filter fun e => e.1 % 4 == c).length

/-- Whether some codeword of a frame is uncorrectable: more than 15 of its symbols are wrong (R62). -/
def uncorrectable (f : RxFrame) : Bool := (List.range 4).any fun c => decide (15 < codeErrs f c)

/-! ### Freewheel blocks (R671) -/

/-- Active lanes of a width code. -/
def lanesOfWidth (w : BitVec 2) : Nat := if w = 0 then 8 else if w = 1 then 4 else 2

/-- One lane's symbols of a Freewheel block over n lanes (R671). -/
def freewheelSymbols (n : Nat) : List Gf := 0x1e7#10 :: List.replicate (272 / n - 1) 0x2b4#10

end Sys2Proof.Machine
end

