-- ==== Sys2Proof/Machine/Net.lean ====
section
/-! DEFINITION. Shared operations of the fabric: wiring and identity (01), port conditions, lookup and choice of a hop,
multicast, the TC3 transport (03), the queues a packet stands in (04), FAULT packets (18, R742). -/

namespace Sys2Proof.Machine

open Sys2Proof

/-! ### Shape, wiring, identity (R32-R46) -/

/-- The far end the wiring rules give a port (R37). -/
inductive FarEnd where
  | management
  | unwired
  | link (far : ModId) (port : Nat)
  | spare (far : ModId) (port : Nat)
  deriving DecidableEq, Repr

/-- A module ID from supergroup, group and member (R32). -/
def modIdOf (sg g m : Nat) : ModId := BitVec.ofNat 17 (sg * 512 + g * 16 + m)
/-- The supergroup of a module ID (R32). -/
def idSuper (i : ModId) : Nat := bits i 16 9
/-- The group of a module ID (R32). -/
def idGroup (i : ModId) : Nat := bits i 8 4
/-- The member of a module ID (R32). -/
def idMember (i : ModId) : Nat := bits i 3 0

/-- R37's far_end for shape (P, G, M) and widths ws, wg, at module (sg, g, m), port p. -/
def farEnd (P G M ws wg sg g m p : Nat) : FarEnd :=
  if p = 63 then .management
  else if p ≤ 14 then
    if M ≤ 1 then .unwired
    else
      let c := 15 / (M - 1)
      if c * (M - 1) ≤ p then .unwired
      else
        let q := p % (M - 1)
        let k := p / (M - 1)
        .link (modIdOf sg g ((m + q + 1) % M)) (k * (M - 1) + (M - 2 - q))
  else if p ≤ 38 then
    if G ≤ 1 then .unwired
    else
      let i := (p - 15) * M + m
      if i < ws * (G - 1) then
        let d := i / ws + 1
        let s2 := (G - 1 - d) * ws + i % ws
        .link (modIdOf sg ((g + d) % G) (s2 % M)) (15 + s2 / M)
      else
        let g2 := g ^^^ (i - ws * (G - 1) + 1)
        if G ≤ g2 then .unwired else .spare (modIdOf sg g2 m) p
  else
    if P ≤ 1 then .unwired
    else
      let u := (p - 39) * G * M + m * G + g
      if u < wg * (P - 1) then
        let d := u / wg + 1
        let u2 := (P - 1 - d) * wg + u % wg
        .link (modIdOf ((sg + d) % P) (u2 % G) (u2 % (G * M) / G)) (39 + u2 / (G * M))
      else
        let s2 := sg ^^^ (u - wg * (P - 1) + 1)
        if P ≤ s2 then .unwired else .spare (modIdOf s2 g m) p

/-- Whether an ID is valid in the shape (P, G, M) (R33). -/
def idValidIn (P G M : Nat) (i : ModId) : Bool := idSuper i < P && idGroup i < G && idMember i < M

/-- Whether an ID is valid in this module's shape (R33). -/
def Routing.valid (r : Routing) (i : ModId) : Bool :=
  idValidIn (r.pMinus1.toNat + 1) (r.gMinus1.toNat + 1) (r.mMinus1.toNat + 1) i

/-- The expected far end of port p: R37's, or the one a PORT_REASSIGN declared (R41). -/
def Routing.expected (r : Routing) (p : Nat) : FarEnd :=
  match tget r.declared p with
  | some .unwired => .unwired
  | some (.link far fp) => .link far fp
  | none =>
    farEnd (r.pMinus1.toNat + 1) (r.gMinus1.toNat + 1) (r.mMinus1.toNat + 1) r.ws.toNat r.wg.toNat
      (idSuper r.moduleId) (idGroup r.moduleId) (idMember r.moduleId) p

/-- The module and port of a far end, a spare's included. -/
def FarEnd.end_ : FarEnd → Option (ModId × Nat)
  | .link m p => some (m, p)
  | .spare m p => some (m, p)
  | _ => none

/-- The far end as a module, no spare (R124, R125). -/
def FarEnd.module : FarEnd → Option ModId
  | .link m _ => some m
  | _ => none

/-- Whether the far end's latest hello names the expected far end (R43). -/
def identityMatches (r : Routing) (t : Tile) (p : Nat) : Bool :=
  match (r.expected p).end_ with
  | some (m, fp) => t.farModule == m && t.farPort.toNat == fp
  | none => false

/-! ### Congestion and port conditions (R133, R143, R667) -/

/-- Four times the effective width of a port (R667). -/
def width4 (t : Tile) : Nat :=
  (if t.width = 0 then 8 else if t.width = 1 then 4 else 2) * 2 ^ t.rate.toNat / 2

/-- Bytes of TC0-TC2 packets queued in the crossbar for a port. -/
def queuedBytes (t : Tile) : Nat :=
  t.egress.foldl (fun n q => if q.pkt.tc = 3 then n else n + (16 * chunksOf q.pkt - q.sent)) 0

/-- The congestion level of a port (R133). -/
def levelOf (t : Tile) : Nat := min 15 ((queuedBytes t + t.sentUnreturned) / 32768)

/-- The level of port p. -/
def State.level (s : State) (p : Nat) : Nat := levelOf (s.tile p)

/-- Whether a port may take a new packet of a class (R143). -/
def portUsable (t : Tile) (tc : BitVec 2) : Bool :=
  !t.outOfRouting && !t.fenced && (tc == 3 || !t.retry.suspect) && (!t.shoeing || t.soleUse)

/-- The same, were the port not Shoeing (R148). -/
def portUsableSole (t : Tile) (tc : BitVec 2) : Bool := portUsable { t with shoeing := false } tc

/-- The tier rank of a port (R127). -/
def tierRank (p : Nat) : Nat := if p ≤ 14 then 1 else if p ≤ 38 then 2 else 3

/-- The rank of an arrival: 0 at injection. -/
def arrivalRank : Option Nat → Nat
  | none => 0
  | some p => tierRank p

/-- The new hop stage on port p (R127). -/
def nextStage (s rank p : Nat) : Nat := if rank < tierRank p then s else s + 1

/-! ### Routing tables (R121-R135) -/

/-- Kind of a candidate (R122). -/
def candKind (w : BitVec 32) : Nat := bits w 1 0
/-- exit_port of a candidate. -/
def candExit (w : BitVec 32) : Nat := bits w 7 2
/-- member of a candidate. -/
def candMember (w : BitVec 32) : Nat := bits w 11 8
/-- group of a candidate. -/
def candGroup (w : BitVec 32) : Nat := bits w 16 12

/-- The bank of a generation bit (R150). -/
def Routing.bank (r : Routing) (g : Bool) : RouteBank := if g then r.bank1 else r.bank0
/-- Set a bank. -/
def Routing.setBank (r : Routing) (g : Bool) (b : RouteBank) : Routing :=
  if g then { r with bank1 := b } else { r with bank0 := b }

/-- Whether a spare port is promoted (R40). -/
def Routing.promoted (r : Routing) (p : Nat) : Bool :=
  let names := fun (b : RouteBank) =>
    [b.group, b.super, b.global].any fun t => t.any fun e => e.2.any fun w => candKind w == 1 && candExit w == p
  names (r.bank r.activeBank) || (r.otherBank != .empty && names (r.bank !r.activeBank))

/-- Whether a port may carry routed packets: any but an unpromoted spare (R39, R40). -/
def Routing.carries (r : Routing) (p : Nat) : Bool :=
  match r.expected p with
  | .spare _ _ => r.promoted p
  | _ => true

/-- The entry that a lookup of a target uses: its number (group table 0-15, supergroup 16-47, global 48-303) and its
candidates (R121). -/
def Routing.entry (r : Routing) (b : RouteBank) (t : ModId) : Nat × List (BitVec 32) :=
  if idSuper t ≠ idSuper r.moduleId then (48 + idSuper t, tgetD b.global (idSuper t) [])
  else if idGroup t ≠ idGroup r.moduleId then (16 + idGroup t, tgetD b.super (idGroup t) [])
  else (idMember t, tgetD b.group (idMember t) [])

/-- The level a member's latest summary reports for a port: 15 when it is over 2 us old (R134). -/
def State.summaryLevel (s : State) (member p : Nat) : Nat :=
  match tget s.routing.summaries member with
  | none => 15
  | some m => if us 2 < (s.time.now - m.at_).toNat then 15 else (m.levels.getD p 15).toNat

/-- Of (index, port, cost) entries the one of least cost; a tie goes to the first at or after the pointer (R135). -/
def pickLeast (ptr : Nat) (l : List (Nat × Nat × Nat)) : Option (Nat × Nat × Nat) :=
  match l.map (fun e => e.2.2) with
  | [] => none
  | c :: cs =>
    let best := cs.foldl min c
    let tied := l.filter fun e => e.2.2 == best
    match tied.find? (fun e => decide (ptr ≤ e.1)) with
    | some e => some e
    | none => tied.head?

/-- Number the candidates of an entry. -/
def numbered {α : Type} (l : List α) : List (Nat × α) := l.zipIdx.map fun e => (e.2, e.1)

/-- First hop and cost of a kind 1 or kind 2 candidate, when ok allows the hop (R123, R132). -/
def State.cand12 (s : State) (b : RouteBank) (ok : Nat → Bool) (w : BitVec 32) : Option (Nat × Nat) :=
  if candKind w = 1 then
    (if ok (candExit w) then some (candExit w, s.level (candExit w)) else none)
  else if candKind w = 2 then
    let direct := (numbered (tgetD b.group (candMember w) [])).filter fun e => candKind e.2 == 1 && ok (candExit e.2)
    match pickLeast 0 (direct.map fun e => (e.1, candExit e.2, s.level (candExit e.2))) with
    | some (_, p, l) => some (p, l + s.summaryLevel (candMember w) (candExit w))
    | none => none
  else none

/-- First hop, cost and eligibility of any candidate (R123, R130, R132). -/
def State.candHop (s : State) (b : RouteBank) (ok elig : Nat → Bool) (ptr3 : Nat → Nat) (w : BitVec 32) :
    Option (Nat × Nat × Bool) :=
  if candKind w = 3 then
    let inner := (numbered (tgetD b.super (candGroup w) [])).filterMap fun e =>
      (s.cand12 b ok e.2).map fun h => (e.1, h.1, h.2)
    let el := inner.filter fun e => elig e.2.1
    match pickLeast (ptr3 (candGroup w)) (if el.isEmpty then inner else el) with
    | some (_, p, c) => some (p, c + 4, !el.isEmpty)
    | none => none
  else (s.cand12 b ok w).map fun h => (h.1, h.2, elig h.1)

/-- The pointer's key: tile (64 for injection), bank, entry. -/
def pointerKey (tile : Nat) (bank : Bool) (entry : Nat) : Nat := tile * 1024 + bnat bank * 512 + entry

/-- The crc of R135 rule 1. -/
def routeCrc (p : Packet) : Nat := (crc32 (leBytes 4 p.src.toNat ++ leBytes 4 p.dst.toNat)).toNat

/-- R135: the candidate chosen among an entry's, as (index, port, cost). -/
def State.choose (s : State) (bank : Bool) (tile : Nat) (ent : Nat × List (BitVec 32)) (ok elig : Nat → Bool)
    (determ : Bool) (p : Packet) : Option (Nat × Nat × Nat) :=
  let b := s.routing.bank bank
  let ptr := fun e => tgetD s.routing.pointers (pointerKey tile bank e) 0
  let hops := (numbered ent.2).filterMap fun e =>
    (s.candHop b ok elig (fun g => ptr (16 + g)) e.2).map fun h => (e.1, h.1, h.2.1, h.2.2)
  let strip := fun (e : Nat × Nat × Nat × Bool) => (e.1, e.2.1, e.2.2.1)
  let el := hops.filter fun e => e.2.2.2
  if el.isEmpty then pickLeast (ptr ent.1) (hops.map strip)
  else if determ then ((el.map strip)[routeCrc p % el.length]?)
  else pickLeast (ptr ent.1) (el.map strip)

/-- Whether a class routes in deterministic minimal mode (R137). -/
def Routing.mode (r : Routing) (tc : BitVec 2) : BitVec 2 :=
  if tc = 0 then r.modeTc0 else if tc = 1 then r.modeTc1 else if tc = 2 then r.modeTc2 else 1

/-- The bank that routes a packet (R155), and its bit; a packet injected here takes the active one. -/
def Routing.bankFor (r : Routing) (injected gen : Bool) : Bool :=
  if injected then r.activeBank
  else if gen = r.activeBank ∨ r.otherBank ≠ .empty then gen else r.activeBank

/-- What a lookup decides. -/
inductive Route where
  | out (p : Nat)
  | here
  | wait
  | drop
  deriving DecidableEq, Repr

/-- A Shoeing port enters sole use (R148): it is usable again, so waiting packets are to be looked up (R140). -/
def State.enterSole (s : State) (o : Nat) : State :=
  let s := if (s.tile o).soleUse then s else { s with routing := { s.routing with relook := true } }
  s.modTile o fun t => { t with soleUse := true, soleClearAt := none }

/-- The hop toward a target for a packet with arrival rank and stage (R129-R135, R148): the state with the pointer
advanced or sole_use set, and the port; none when the packet waits; the Bool says that R129 leaves it no candidate. R135
gives the pointer's advance under rule 2; the model advances it after a rule 1 choice too, and leaves the inner
supergroup entry's pointer of a kind 3 candidate where it is (DESIGN CHOICE, assumption log 104). -/
def State.hopToward (s : State) (bank : Bool) (q : QPkt) (target : ModId) : State × Option Nat × Bool :=
  let p := q.pkt
  let rank := arrivalRank q.inPort
  let ent := s.routing.entry (s.routing.bank bank) target
  let tile := q.inPort.getD 64
  let stageOk := fun o => decide (nextStage p.hopStage.toNat rank o ≤ 7)
  let elig := fun o => q.inPort.isNone || q.legStart || tierRank o != rank
  let determ := s.routing.mode p.tc == 2
  let sel := fun ok => s.choose bank tile ent ok elig determ p
  match sel fun o => portUsable (s.tile o) p.tc && stageOk o with
  | some (i, o, _) =>
    let s := if candKind (ent.2.getD i 0) = 2 then s.count 0x0021 o p.tc.toNat 1 else s
    ({ s with routing := { s.routing with pointers := tset s.routing.pointers (pointerKey tile bank ent.1) ((i + 1) % 8) } },
      some o, false)
  | none =>
    let b := s.routing.bank bank
    let sole := (ent.2.filterMap fun w =>
      (s.candHop b (fun o => portUsableSole (s.tile o) p.tc && stageOk o) elig (fun _ => 0) w).map fun h => h.1).eraseDups
    match sole with
    | [o] => (s.enterSole o, some o, false)
    | _ => (s, none, !ent.2.isEmpty && (sel stageOk).isNone)

/-- A lookup (R119, R127, R136, R139, R155): the decision, the packet as it leaves, and the state. A packet that finds no
hop toward via turns to dst at that lookup, without a wait under R140 before it: R139 does not say how long the packet
must have waited (DESIGN CHOICE, assumption log 105). -/
def State.lookup (s : State) (q : QPkt) : State × Route × QPkt :=
  let r := s.routing
  let arrive := q.pkt.nonminimal && !q.pkt.viaDone && q.pkt.via == r.moduleId
  let q := if arrive then { q with pkt := { q.pkt with viaDone := true }, legStart := true } else q
  let bank := r.bankFor q.inPort.isNone q.pkt.gen
  let rank := arrivalRank q.inPort
  let go := fun (s : State) (q : QPkt) (o : Nat) =>
    (s, Route.out o, { q with pkt := { q.pkt with gen := bank, hopStage := nextStage q.pkt.hopStage.toNat rank o } })
  let viaFirst := q.pkt.nonminimal && !q.pkt.viaDone
  let toVia := if viaFirst then s.hopToward bank q q.pkt.via else (s, none, false)
  match toVia with
  | (s, some o, _) => go s q o
  | (s, none, _) =>
    let q := if viaFirst then { q with pkt := { q.pkt with viaDone := true }, legStart := true } else q
    if addrModule q.pkt.dst = r.moduleId then (s, .here, q)
    else match s.hopToward bank q (addrModule q.pkt.dst) with
      | (s, some o, _) => go s q o
      | (s, none, stuck) => (s, if stuck then .drop else .wait, q)

/-! ### Sending: egress queues, the TC3 transport (R164-R168) -/

/-- A selected queue's maxima are brought up to date (R200, R201): depth seen, and for a packet that leaves its wait. -/
def State.noteQueue (s : State) (qid depth : Nat) (left : Option Ticks) : State :=
  if s.sched.sampleEnable && s.sched.sampleQueues.any (fun q => q.toNat == qid) then
    let m := tgetD s.sched.sampleMax qid (0, 0, 0)
    let m := match left with
      | some since => (max m.1 depth, max m.2.1 ((s.time.now - since).toNat / 64), m.2.2 + 1)
      | none => (max m.1 depth, m.2.1, m.2.2)
    { s with sched := { s.sched with sampleMax := tset s.sched.sampleMax qid m } }
  else s

/-- Bytes of a list of queued packets. -/
def bytesQueued (l : List QPkt) : Nat := (l.map fun q => 16 * chunksOf q.pkt).foldl (· + ·) 0

/-- The virtual lane of a packet (R96). -/
def laneOf (p : Packet) : Nat := p.tc.toNat * 8 + p.hopStage.toNat

/-- queue_id of an injection queue, a port's lane, a host port's ejection queue (R201). -/
def qidInject (inst tc : Nat) : Nat := inst * 4 + tc
def qidPort (p v : Nat) : Nat := 0x10000000 + p * 32 + v
def qidEject (h : Nat) : Nat := 0x20000000 + h

/-- Queue a packet at an output port. -/
def State.enqueue (s : State) (p : Nat) (q : QPkt) : State :=
  let s := s.modTile p fun t => { t with egress := t.egress ++ [{ q with since := s.time.now, noHop := none }] }
  let v := laneOf q.pkt
  s.noteQueue (qidPort p v) (bytesQueued ((s.tile p).egress.filter fun x => laneOf x.pkt == v)) none

/-- Route a packet of this module's TC3 transport: on F63 for a stream keyed there (R617), else by the tables; it waits
when no candidate is usable (R140). -/
def State.sendOut (s : State) (viaF63 : Bool) (p : Packet) : State :=
  let q : QPkt := { pkt := p, since := s.time.now }
  if viaF63 then s.enqueue 63 q
  else
    match s.lookup q with
    | (s, .out o, q) => s.enqueue o q
    | (s, _, q) => { s with routing := { s.routing with waiting := s.routing.waiting ++ [q] } }

/-- A TC3 stream's source end. -/
def Routing.txStream (r : Routing) (k : StreamKey) : StreamTx := (r.streamsTx.find? fun x => x.key == k).getD { key := k }

/-- Put a stream's source end back. -/
def Routing.setTx (r : Routing) (x : StreamTx) : Routing :=
  if r.streamsTx.any (fun y => y.key == x.key)
  then { r with streamsTx := r.streamsTx.map fun y => if y.key == x.key then x else y }
  else { r with streamsTx := r.streamsTx ++ [x] }

/-- Packets in the resend store (R164). -/
def Routing.stored (r : Routing) : Nat := (r.streamsTx.map fun x => x.store.length).foldl (· + ·) 0

/-- Send waiting packets of a stream while its 64 and the store's 16,384 allow (R164); n bounds the loop. -/
def State.pumpStream (s : State) (k : StreamKey) : Nat → State
  | 0 => s
  | n + 1 =>
    let x := s.routing.txStream k
    match x.queue with
    | [] => s
    | p :: ps =>
      if x.fenced || Config.streamMax ≤ x.store.length then s
      else if Config.resendStoreMax ≤ s.routing.stored then s.raiseAt 1249 0
      else
        let p := Packet.seal_ { p with e2eSeq := x.next }
        let x := { x with next := x.next + 1, queue := ps, store := x.store ++ [(p, 0, s.time.now)] }
        (({ s with routing := s.routing.setTx x }).sendOut k.viaF63 p).pumpStream k n

/-- Let every stream go on that waits for room in the resend store (R164). -/
def State.pumpStreams (s : State) : State := s.routing.streamsTx.foldl (fun s x => s.pumpStream x.key 64) s

/-- Offer a TC3 packet to its stream: a fenced stream discards it (R167); to this module itself it goes at once
(R120). -/
def State.sendTc3 (s : State) (viaF63 : Bool) (p : Packet) : State :=
  let k := streamKeyOf p viaF63
  if !viaF63 && addrModule p.dst == s.routing.moduleId then
    { s with routing := { s.routing with arrivals := s.routing.arrivals ++ [(64, Packet.seal_ p)] } }
  else
    let x := s.routing.txStream k
    if x.fenced then { s with routing := { s.routing with discards := s.routing.discards + 1 } }
    else ({ s with routing := s.routing.setTx { x with queue := x.queue ++ [p] } }).pumpStream k 64

/-- A TC3 packet from this module's agent to another module's (R87). -/
def State.agentPacket (s : State) (type : BitVec 5) (to_ : ModId) (agent : Nat) (word : Word) (payload : List Byte) :
    Packet :=
  { pktType := type, tc := 3, addrForm := true, payloadLen := BitVec.ofNat 13 payload.length,
    dst := moduleAddr to_ agent, src := moduleAddr s.routing.moduleId agent, typeWord := word, payload,
    first := true, last := true }

/-! ### FAULT packets and discards (R142, R163, R742) -/

/-- The 32-byte payload of a FAULT of kind 1 or 3 (R742). -/
def faultPayload (kind : Nat) (inDoubt : Bool) (p : Packet) (now : Ticks) : List Byte :=
  leBytes 1 kind ++ leBytes 1 (bnat inDoubt) ++ leBytes 1 p.tc.toNat ++ leBytes 1 p.pktType.toNat ++
  leBytes 4 p.src.toNat ++ leBytes 4 p.opTag.toNat ++ leBytes 2 p.pktIndex.toNat ++ leBytes 2 0 ++
  leBytes 4 p.e2eSeq.toNat ++ leBytes 4 p.dst.toNat ++ leBytes 8 now.toNat

/-- Where a FAULT about a packet goes (R742): the tree's root for a multicast copy, by the entry its header read or else the
present one, the module that a COLL_DATA's op_tag names, else the module of its src. Tree 0 has no root: its FAULT goes
where the root field of the entry at index 0 points (DESIGN CHOICE, assumption log 106). -/
def State.faultTarget (s : State) (kind : Nat) (p : Packet) : ModId :=
  if kind = 3 then BitVec.ofNat 17 (bits (p.cast.getD (tgetD s.routing.trees (bits p.dst 28 16) 0)) 80 64)
  else if p.pktType = 0x09 then BitVec.ofNat 17 (bits p.opTag 16 0)
  else addrModule p.src

/-- Send a FAULT of kind 1 or 3 for a TC0-TC2 packet (R742); det 0x7ff names no detector. -/
def State.sendFault (s : State) (kind det : Nat) (inDoubt : Bool) (p : Packet) : State :=
  if p.tc = 3 then s
  else s.sendTc3 false (s.agentPacket 0x12 (s.faultTarget kind p) 2 (BitVec.ofNat 64 det) (faultPayload kind inDoubt p s.time.now))

/-! ### Input lanes (R173, R174, R181) -/

/-- Virtual lane v of a port's receiver; unlisted it holds vl_floor. -/
def Tile.rxLane (t : Tile) (v : Nat) : RxLane := tgetD t.rx v { limit := t.vlFloor.toNat }
/-- Change a receiver's lane. -/
def Tile.modRx (t : Tile) (v : Nat) (f : RxLane → RxLane) : Tile := { t with rx := tset t.rx v (f (t.rxLane v)) }
/-- A sender's lane. -/
def Tile.txLane (t : Tile) (v : Nat) : TxLane := tgetD t.tx v {}
/-- Change a sender's lane. -/
def Tile.modTx (t : Tile) (v : Nat) (f : TxLane → TxLane) : Tile := { t with tx := tset t.tx v (f (t.txLane v)) }

/-- pool_free of R174. -/
def Tile.poolFree (t : Tile) : Nat :=
  Config.bufferChunks - ((List.range 32).map fun v =>
    let l := t.rxLane v
    max l.limit (l.occ + l.out)).foldl (· + ·) 0

/-- Chunks leave the input buffer (R174). -/
def State.release (s : State) (inPort : Option Nat) (v chunks : Nat) : State :=
  match inPort with
  | none => s
  | some p => s.modTile p fun t => t.modRx v fun l => { l with occ := l.occ - chunks }

/-! ### Discards (R141, R142, R162, R163) -/

/-- Copies of a multicast packet still queued anywhere, one that waits to be delivered here included (R162). -/
def State.copiesLeft (s : State) (q : QPkt) : Bool :=
  let same := fun (c : QPkt) =>
    c.pkt.mcast && c.inPort == q.inPort && c.inVl == q.inVl && c.pkt.src == q.pkt.src && c.pkt.opTag == q.pkt.opTag &&
    c.pkt.opOffset == q.pkt.opOffset && c.pkt.typeWord == q.pkt.typeWord
  s.tiles.any (fun e => e.2.egress.any same) || s.routing.waiting.any same

/-- A lane throws away the rest of the packet it is receiving, whose chunks so far leave the buffer. -/
def RxLane.drop (l : RxLane) : RxLane :=
  { l with discard := true, occ := l.occ - (l.buf.length / 16 - l.freed), freed := l.buf.length / 16 }

/-- A queued packet, taken off its queue, needs its input buffer no more (R162, R173): a whole one frees what it still
holds, of one still arriving the lane drops the rest; a multicast packet holds it while a copy is left. -/
def State.freeIn (s : State) (q : QPkt) : State :=
  match q.inPort with
  | none => s
  | some i =>
    if q.pkt.mcast && s.copiesLeft q then s
    else if q.complete then s.release (some i) q.inVl (chunksOf q.pkt - q.short - (if q.pkt.mcast then 0 else q.sent / 16))
    else s.modTile i fun t => t.modRx q.inVl fun l => if l.localTo then l else l.drop

/-- The FAULT of a discarded packet (R142): at once, or when its trailer is in, which holds what a FAULT names. -/
def State.faultFor (s : State) (kind det : Nat) (inDoubt : Bool) (q : QPkt) : State :=
  if q.complete then s.sendFault kind det inDoubt q.pkt
  else
    match q.inPort with
    | none => s
    | some i => s.modTile i fun t => t.modRx q.inVl fun l => { l with why := l.why ++ [(kind, det, inDoubt)] }

/-- Discard a packet on tile t: counted, detector 16t + 10 (R141), FAULT (R142). Multicast copies take kind 3. -/
def State.discardAt (s : State) (t : Nat) (q : QPkt) : State :=
  let kind := if q.pkt.mcast then 3 else 1
  let s := { s with routing := { s.routing with discards := s.routing.discards + 1 } }
  (s.raise { source := 16 * t + 10, unit := t, detail := faultPayload kind false q.pkt s.time.now }).faultFor kind (16 * t + 10) false q

/-- A truncated packet that came by a port is discarded and counted with the discards of R94 (R105). -/
def State.countTruncated (s : State) (port : Nat) : State :=
  s.modTile port fun t => { t with retry := { t.retry with discards := t.retry.discards + 1 } }

/-! ### Delivery at this module (R105, R110, R120, R165-R168, R198, R199) -/

/-- Bytes queued for a host port. -/
def Sched.ejectBytes (c : Sched) (h : Nat) : Nat :=
  ((tgetD c.eject h []).map fun q => 16 * chunksOf q.pkt).foldl (· + ·) 0

/-- Room of a host port's ejection queue and spill (R198). -/
def Sched.ejectRoom (c : Sched) : Nat := 2097152 + c.ejectSpillMib.toNat * 1048576

/-- Send an E2E_ACK of a stream (R166, R168); flags: op_ext. -/
def State.sendAck (s : State) (k : StreamKey) (value : BitVec 32) (flags : BitVec 15) : State :=
  s.sendOut k.viaF63 (Packet.seal_
    { pktType := 0x14, tc := 3, addrForm := true, dst := k.src, src := k.dst, opExt := flags,
      typeWord := value.zeroExtend 64, first := true, last := true })

/-- Deliver one TC3 packet to its agent. -/
def State.toAgent (s : State) (port : Nat) (p : Packet) : State :=
  { s with routing := { s.routing with arrivals := s.routing.arrivals ++ [(port, p)] } }

/-- Put a stream's target end back. -/
def Routing.setRx (r : Routing) (x : StreamRx) : Routing :=
  if r.streamsRx.any (fun y => y.key == x.key)
  then { r with streamsRx := r.streamsRx.map fun y => if y.key == x.key then x else y }
  else { r with streamsRx := r.streamsRx ++ [x] }

/-- Deliver packet p of stream x to its agent (R165), with the E2E_ACK that every eighth delivery draws (R166). -/
def State.deliverTc3 (s : State) (port : Nat) (x : StreamRx) (p : Packet) : State × StreamRx :=
  let n := x.sinceAck + 1
  let x := { x with last := p.e2eSeq, hold := x.hold.erase p, sinceAck := n % 8, ackDue := n != 8 }
  let s := s.toAgent port p
  (if n = 8 then s.sendAck x.key x.last 0 else s, x)

/-- Deliver held packets that follow (R165); n bounds the loop. -/
def State.drainHold (s : State) (port : Nat) : Nat → StreamRx → State × StreamRx
  | 0, x => (s, x)
  | n + 1, x =>
    match x.hold.find? (fun p => p.e2eSeq == x.last + 1) with
    | none => (s, x)
    | some p =>
      let (s, x) := s.deliverTc3 port x p
      s.drainHold port n x

/-- A whole TC3 packet at its target (R110, R165, R166, R168). Its type says to which agent it goes: the spec does not say
what becomes of one whose agent number is another's or reserved, and the model does not read that number (DESIGN CHOICE,
assumption log 107). The want_sync reply of a target without state has no value to name; its type_word is 0 (DESIGN
CHOICE, assumption log 108). -/
def State.receiveTc3 (s : State) (port : Nat) (p : Packet) : State :=
  let k := streamKeyOf p (port == 63)
  if isTruncated p then s.countTruncated port
  else if !sealOk p then s
  else if p.pktType = 0x14 then s.toAgent port p
  else
    match s.routing.streamsRx.find? (fun x => x.key == k) with
    | none =>
      if p.e2eSeq = 0 then
        let (s, x) := s.deliverTc3 port { key := k, last := 0 } p
        { s with routing := s.routing.setRx x }
      else s.sendAck k 0 2
    | some x =>
      let d := (p.e2eSeq - x.last).toNat
      if d = 1 then
        let (s, x) := s.deliverTc3 port x p
        let (s, x) := s.drainHold port Config.holdMax x
        { s with routing := s.routing.setRx x }
      else if 2 ≤ d ∧ d < 2 ^ 31 then
        if x.hold.any (fun h => h.e2eSeq == p.e2eSeq) then s.sendAck k x.last 0
        else if d ≤ Config.holdMax + 1 then { s with routing := s.routing.setRx { x with hold := x.hold ++ [p] } } else s
      else s.sendAck k x.last 0

/-! ### What a packet needs at its target before it is taken (R353, R386, R498) -/

/-- A matching context. -/
def State.ctx (s : State) (k : Nat) : Option Ctx := tget s.matching.ctxs k
/-- The stream of a message packet. -/
def streamOf (p : Packet) : StreamKey := { src := p.src, dst := p.dst, tc := p.tc }
/-- The order key of a message packet's message (R342). -/
def orderKey (p : Packet) : BitVec 32 := p.e2eSeq - p.pktIndex.zeroExtend 32
/-- Context number of a message packet (R336, R341). -/
def ctxKey (p : Packet) : Nat := addrInst p.dst * 64 + bits p.opExt 14 9
/-- Whether a packet is a message's. -/
def isMsg (p : Packet) : Bool := p.pktType == 0x06 || p.pktType == 0x07
/-- Whether a packet opens an operation at its target (R386). -/
def opensOp (p : Packet) : Bool := p.pktType == 0x01 || p.pktType == 0x02 || p.pktType == 0x04
/-- A stream entry. -/
def State.orderEntry (s : State) (k : StreamKey) : Option OrderEntry := s.matching.streams.find? fun e => e.key == k
/-- Messages held in the order stage (R352). -/
def State.heldCount (s : State) : Nat := (s.matching.streams.map fun e => e.held.length).foldl (· + ·) 0
/-- The open entry of an operation at its target. -/
def State.openOp (s : State) (src : Endpoint) (tag : BitVec 32) : Option OpenOp :=
  s.remote.openOps.find? fun o => o.src == src && o.tag == tag
/-- The tombstone of an operation. -/
def State.tomb (s : State) (src : Endpoint) (tag : BitVec 32) : Option Tomb :=
  s.remote.tombs.find? fun t => t.src == src && t.tag == tag
/-- The packets in the ejection queues. -/
def State.ejected (s : State) : List Packet := s.sched.eject.flatMap fun e => e.2.map (·.pkt)

/-- Whether the order stage needs no new place for a message packet: its message is held there, released, or over. -/
def State.orderKnown (s : State) (p : Packet) : Bool :=
  (s.tomb p.src p.opTag).isSome ||
  ((s.orderEntry (streamOf p)).map fun e =>
    e.held.any (fun h => h.key == orderKey p) || (e.lastRel.map fun l => serialLe (orderKey p) l).getD false).getD false

/-- Whether an arriving message packet finds no place in the order stage (R353). Packets in the ejection queues have their places
(DESIGN CHOICE, assumption log 120). -/
def State.orderFull (s : State) (p : Packet) : Bool :=
  let mine := ((s.ejected.filter fun x => isMsg x && !s.orderKnown x).map fun x => (streamOf x, orderKey x)).eraseDups
  let streams := (mine.map (·.1)).eraseDups
  let room := Config.streamEntryMax - s.matching.streams.length +
    (s.matching.streams.filter fun e => e.held.isEmpty && !streams.contains e.key).length
  !s.orderKnown p && !mine.contains (streamOf p, orderKey p) &&
  (((s.orderEntry (streamOf p)).isNone && !streams.contains (streamOf p) &&
      decide (room ≤ (streams.filter fun k => (s.orderEntry k).isNone).length)) ||
   decide (Config.heldMax ≤ s.heldCount + mine.length))

/-- Whether the order stage has a place again. -/
def State.orderRoom (s : State) : Bool :=
  decide (s.heldCount < Config.heldMax) &&
  (decide (s.matching.streams.length < Config.streamEntryMax) || s.matching.streams.any fun e => e.held.isEmpty)

/-- Whether a packet's new operation finds the operation table full (R386); packets in the ejection queues have their entries
(assumption log 120). -/
def State.tableFull (s : State) (p : Packet) : Bool :=
  let fresh := fun (x : Packet) => (s.openOp x.src x.opTag).isNone && (s.tomb x.src x.opTag).isNone
  let mine := ((s.ejected.filter fun x => opensOp x && fresh x).map fun x => (x.src, x.opTag)).eraseDups
  fresh p && !mine.contains (p.src, p.opTag) && decide (Config.openMax ≤ s.remote.openOps.length + mine.length)

/-- Whether the redirect hold of a packet's context is full (R498). -/
def State.holdFull (s : State) (k : Nat) : Bool := ((s.ctx k).map fun c => c.moving.isSome && decide (512 ≤ c.held.length)).getD false

/-- Bytes of a complete contribution, its packets in pkt_index order. -/
def CollInput.all (x : CollInput) : List Byte := x.bytes.flatMap (·.2)
/-- Bytes in the collective store (R449). -/
def State.collUsed (s : State) : Nat :=
  let sum := fun (l : List Nat) => l.foldl (· + ·) 0
  sum (s.coll.groups.map fun e => sum (e.2.ops.map fun o =>
    sum (o.inputs.map fun y => y.all.length) + sum (o.results.map fun x => x.2.1.length) + sum (o.finals.map fun x => x.2.bytes.length)))
/-- Bytes of the store. -/
def State.collStore (s : State) : Nat := s.coll.storeMib.toNat * 1048576
/-- Whether a COLL_DATA packet finds the collective store full (R449); packets already with the collective unit have their room
(assumption log 120). -/
def State.collFull (s : State) (p : Packet) : Bool :=
  let mine := (s.routing.arrivals.filter fun e => e.2.pktType == 0x09).map fun e => e.2.payload.length
  decide (s.collStore < s.collUsed + mine.foldl (· + ·) 0 + p.payload.length)

/-- Whether a packet must wait at the head of its virtual lane for a store at its target (R353, R386, R449, R498), with the Notice once
per filling. -/
def State.laneHeld (s : State) (p : Packet) : State × Bool :=
  if isMsg p then
    if s.orderFull p then
      (if s.routing.orderFilling then s else ({ s with routing := { s.routing with orderFilling := true } }).raiseAt 1250 0, true)
    else (s, s.holdFull (ctxKey p))
  else if p.pktType == 0x09 then
    if s.collFull p then (if s.routing.storeFilling then s else ({ s with routing := { s.routing with storeFilling := true } }).raiseAt 1297 0, true)
    else (s, false)
  else if opensOp p && s.tableFull p then
    (if s.routing.tableFilling then s else ({ s with routing := { s.routing with tableFilling := true } }).raiseAt 1250 0, true)
  else (s, false)

/-- Queue a packet for its host port (R198), or none when queue and spill are full (R199). Full means that this packet does
not fit: a smaller one is still taken and ends the filling (DESIGN CHOICE, assumption log 109). -/
def State.ejectTo (s : State) (h : Nat) (q : QPkt) : State × Bool :=
  if s.sched.ejectBytes h + 16 * chunksOf q.pkt ≤ s.sched.ejectRoom then
    let s := { s with sched := { s.sched with eject := tmod s.sched.eject h [] (· ++ [{ q with since := s.time.now }]),
                                              ejectFull := tdel s.sched.ejectFull h } }
    (s.noteQueue (qidEject h) (s.sched.ejectBytes h) none, true)
  else if tgetD s.sched.ejectFull h false then (s, false)
  else (({ s with sched := { s.sched with ejectFull := tset s.sched.ejectFull h true } }).raiseAt (1024 + 32 * h + 12) h, false)

/-- Deliver a whole packet at this module; false when it must wait for ejection room. A truncated packet is discarded
and counted (R105). A multicast PUT goes to the tree's deliver_instance, COLL_DATA to the collective unit (R446). -/
def State.deliver (s : State) (q : QPkt) : State × Bool :=
  let p := q.pkt
  let rel := fun (s : State) => s.freeIn q
  if p.tc = 3 then (rel (s.receiveTc3 (q.inPort.getD 64) p), true)
  else if isTruncated p then (rel (match q.inPort with
    | some i => s.countTruncated i
    | none => s), true)
  else if p.pktType = 0x09 then
    match s.laneHeld p with
    | (s, true) => (s, false)
    | (s, false) => (rel (s.toAgent (q.inPort.getD 64) p), true)
  else
    let h := if p.mcast then (s.inst (bits (p.cast.getD (tgetD s.routing.trees (bits p.dst 28 16) 0)) 91 82)).port.toNat else addrPort p.dst
    match s.laneHeld p with
    | (s, true) => (s, false)
    | (s, false) => match s.ejectTo h q with
      | (s, true) => (rel s, true)
      | (s, false) => (s, false)

/-! ### Multicast (R158-R163) -/

/-- The tree entry that a packet names; tree 0 is the group-only tree, whose entry gives no ports and no members (R159). -/
def State.treeOf (s : State) (dst : Endpoint) : BitVec 128 :=
  let e := tgetD s.routing.trees (bits dst 28 16) 0
  if bits dst 28 16 = 0 then (e >>> 64) <<< 64 else e

/-- Whether this module may inject on the tree that a dst names (R161): the tree's entry is valid and, but for tree 0, this is its root. -/
def State.castOk (s : State) (dst : Endpoint) : Bool :=
  bit (s.treeOf dst) 81 && (bits dst 28 16 == 0 || bits (s.treeOf dst) 80 64 == s.routing.moduleId.toNat)

/-- The group port toward a member: the lowest usable one whose far end it is, else the lowest, else the one that R37's
procedure gives the member, should a PORT_REASSIGN have taken its far end away (R41). A member outside the shape has no
group port, and gets no copy: R160 does not say what its bit means (DESIGN CHOICE, assumption log 110). -/
def State.groupPort (s : State) (tc : BitVec 2) (m : Nat) : Option Nat :=
  let toward := fun (r : Routing) => (List.range 15).filter fun p =>
    match (r.expected p).end_ with
    | some (i, _) => idMember i == m
    | none => false
  let ps := toward s.routing
  match ps.find? (fun p => portUsableSole (s.tile p) tc) with
  | some p => some p
  | none => ps.head?.orElse fun _ => (toward { s.routing with declared := [] }).head?

/-- The output ports of a multicast packet here, and whether it is delivered here (R160). -/
def State.fanPorts (s : State) (q : QPkt) : List Nat × Bool :=
  let e := q.pkt.cast.getD (s.treeOf q.pkt.dst)
  let group := match q.inPort with
    | some p => decide (p ≤ 14)
    | none => false
  if group then ([], true)
  else
    let outs := ((List.range 48).filter fun i => bit e i).map (15 + ·)
    let mask := if q.inPort.isNone then bits q.pkt.dst 15 0 else bits e 63 48
    let self := idMember s.routing.moduleId
    let members := (List.range 16).filter fun m => mask.testBit m && m != self
    (outs ++ members.filterMap (s.groupPort q.pkt.tc), mask.testBit self)

/-- Send one copy of a multicast packet (R127, R162, R163); a Shoeing port enters sole use (R148). -/
def State.sendCopy (s : State) (q : QPkt) (o : Nat) : State :=
  let st := nextStage q.pkt.hopStage.toNat (arrivalRank q.inPort) o
  let c := { q with pkt := { q.pkt with hopStage := BitVec.ofNat 3 st } }
  if 7 < st || !portUsableSole (s.tile o) q.pkt.tc || !s.routing.carries o || s.routing.expected o == .unwired then
    ({ s.count 0x0023 o q.pkt.tc.toNat 1 with routing := { s.routing with mcDiscards := s.routing.mcDiscards + 1 } }).discardAt o q
  else (if (s.tile o).shoeing then s.enterSole o else s).enqueue o c

/-! ### Placing a packet (R136, R140, R144) -/

/-- Mark a packet's input lane for delivery here once it is whole; the lane keeps the tree entry of its lookup (R159). -/
def State.markLocal (s : State) (q : QPkt) : State :=
  match q.inPort with
  | some i => s.modTile i fun t => t.modRx q.inVl fun l => { l with localTo := true, cast := q.pkt.cast }
  | none => s

/-- Deliver a whole packet, or answer it back to wait for ejection room. -/
def State.deliverOrWait (s : State) (q : QPkt) : State × Option QPkt :=
  match s.deliver q with
  | (s, true) => (s, none)
  | (s, false) => (s, some { q with localOnly := true })

/-- Look a packet up and queue, deliver, discard or keep it: none when it found its place, else the packet that waits. An
incomplete packet for this module is left to its input lane. A multicast packet keeps the tree entry that its header reads
here (R159), and its last copy releases its input buffer (R162). -/
def State.place (s : State) (q : QPkt) : State × Option QPkt :=
  if q.localOnly then s.deliverOrWait q
  else if q.pkt.mcast then
    let q := { q with pkt := { q.pkt with cast := some (s.treeOf q.pkt.dst) } }
    let (outs, self) := s.fanPorts q
    let s := if self && !q.complete then s.markLocal q else s
    let s := outs.foldl (fun s o => s.sendCopy q o) s
    if self then (if q.complete then s.deliverOrWait q else (s, none)) else (s.freeIn q, none)
  else
    match s.lookup q with
    | (s, .out o, q') => (s.enqueue o q', none)
    | (s, .here, q') => if q.complete then s.deliverOrWait q' else (s.markLocal q', none)
    | (s, .wait, q') => (s, some q')
    | (s, .drop, _) =>
      let t := q.inPort.getD 0
      (((s.count 0x0022 t q.pkt.tc.toNat 1).discardAt t q).freeIn q, none)

/-- Whether two queued packets share an input lane. -/
def sameLane (a b : QPkt) : Bool := a.inPort.isSome && a.inPort == b.inPort && a.inVl == b.inVl

/-- Try every waiting packet again, oldest first; one behind another of its lane stays (R140). -/
def State.retryList (s : State) : List QPkt → List QPkt → State × List QPkt
  | [], kept => (s, kept)
  | q :: qs, kept =>
    if kept.any (sameLane q) then s.retryList qs (kept ++ [{ q with since := s.time.now }])
    else
      match s.place q with
      | (s, none) => s.retryList qs kept
      | (s, some q') => s.retryList qs (kept ++ [q'])

/-- Look up the waiting packets once. -/
def State.retryOnce (s : State) : State :=
  let ws := s.routing.waiting
  let (s, kept) := ({ s with routing := { s.routing with waiting := [], relook := false } }).retryList ws []
  { s with routing := { s.routing with waiting := kept ++ s.routing.waiting } }

/-- Look up the waiting packets while ports enter sole use; n bounds the loop. -/
def State.relookLoop : Nat → State → State
  | 0, s => s
  | n + 1, s => if s.routing.relook then s.retryOnce.relookLoop n else s

/-- Look up the waiting packets again if a port has entered sole use (R140, R148). -/
def State.relook (s : State) : State := s.relookLoop 64

/-- Look up the waiting packets again, at a change of port state or a generation swap (R140). -/
def State.retryWaiting (s : State) : State := s.retryOnce.relook

/-- A packet at an output whose port is now unusable to its class, no byte of it sent (R144). -/
def strandedAt (t : Tile) (q : QPkt) : Bool :=
  q.sent == 0 && (t.outOfRouting || t.fenced || (q.pkt.tc != 3 && t.retry.suspect))

/-- Return stranded packets to the Derailleur (R144), discard stranded copies (R163), look waiting packets up again. A
packet is routed again with its arrival port and hop stage. -/
def State.settle (s : State) : State :=
  let lost := s.tiles.flatMap fun e =>
    if e.1 = 63 then [] else (e.2.egress.filter (strandedAt e.2)).map fun q => (e.1, q)
  let s := { s with tiles := tmap s.tiles fun i t =>
    if i = 63 then t else { t with egress := t.egress.filter fun q => !strandedAt t q } }
  let s := lost.foldl (fun s e =>
    let q := e.2
    if q.pkt.mcast then
      (({ s.count 0x0023 e.1 q.pkt.tc.toNat 1 with routing := { s.routing with mcDiscards := s.routing.mcDiscards + 1 } }).discardAt e.1 q).freeIn q
    else
      let q := { q with pkt := { q.pkt with hopStage := BitVec.ofNat 3 (if q.inPort.isNone then 0 else q.inVl % 8) } }
      match s.place q with
      | (s, none) => s
      | (s, some w) => { s with routing := { s.routing with waiting := s.routing.waiting ++ [{ w with since := s.time.now }] } }) s
  s.retryWaiting

/-! ### Leaving routing (R144-R146), the identity check (R43-R46) -/

/-- End the packets partly received on a port (R146, R180): those of the chosen lanes. A forwarded part is
completed with zeros and an all-zero trailer, and what has come in of it stays in the buffer until it is sent; a part not
forwarded is discarded. -/
def State.endPartial (s : State) (p : Nat) (lanes : Nat → Bool) : State :=
  let mine := fun (q : QPkt) => q.inPort == some p && lanes q.inVl && !q.complete
  let fin := fun (q : QPkt) =>
    { q with complete := true, pkt := { q.pkt with sealWord := 0, e2eSeq := 0, pktIndex := 0, first := false, last := false,
                                                    poisoned := false, resent := false, resvT := 0 },
             short := chunksOf q.pkt - (2 + q.rest.length / 16),
             rest := sliceBytes q.rest 0 (16 * ceilDiv q.pkt.payloadLen.toNat 16) ++ List.replicate 16 0 }
  let forwarded := fun i => s.tiles.any fun e => e.2.egress.any fun q => mine q && q.inVl == i && q.sent != 0
  let s := { s with
    tiles := tmap s.tiles fun _ t =>
      { t with egress := t.egress.filterMap fun q =>
          if mine q then (if q.sent = 0 then none else some (fin q)) else some q },
    routing := { s.routing with waiting := s.routing.waiting.filter fun q => !mine q } }
  s.modTile p fun t => { t with rx := tmap t.rx fun i l =>
    if (lanes i) && !l.buf.isEmpty then
      { l with occ := if forwarded i then l.occ else l.occ - (l.buf.length / 16 - l.freed), buf := [], need := 0, localTo := false,
               discard := false, why := [], freed := 0, cast := none, skip := true }
    else if (lanes i) then { l with skip := true } else l }

/-- The sending side of a port that is fenced or leaves routing (R145): packets partly sent, or with an unacknowledged
flit, are discarded as in doubt and draw FAULTs naming detector det. -/
def State.doubtAll (s : State) (p det : Nat) : State :=
  let t := s.tile p
  let qs := t.egress.filter fun q => q.sent != 0
  let s := s.modTile p fun t =>
    { t with egress := t.egress.filter (fun q => q.sent == 0), retry := { t.retry with held := [], kept := [] } }
  let s := (t.retry.held.map (·.2) ++ qs).foldl (fun s k =>
    if k.pkt.tc = 3 then s
    else ({ s with routing := { s.routing with discards := s.routing.discards + 1 } }).faultFor (if k.pkt.mcast then 3 else 1) det true k) s
  qs.foldl (fun s q => s.freeIn q) s

/-- A port leaves routing (R143-R146). -/
def State.leaveRouting (s : State) (p det : Nat) : State :=
  if (s.tile p).outOfRouting then s
  else
    let s := s.modTile p fun t => { t with outOfRouting := true }
    ((s.doubtAll p det).endPartial p fun _ => true).settle

/-- Whether a port passes its identity check and may carry routed packets: up, identified at both ends, as expected, far
end not fenced (R43, R143). F63 has no check (R30). -/
def State.passes (s : State) (p : Nat) : Bool :=
  let t := s.tile p
  if p = 63 then t.linkState == .up
  else t.linkState == .up && s.routing.idValid && t.farIdValid && !t.farFenced && identityMatches s.routing t p

/-- The detail of an identity check's record (R820). -/
def identityDetail (r : Routing) (t : Tile) (p : Nat) : List Byte :=
  let e := ((r.expected p).end_).getD (0, 0)
  leBytes 4 (packFields [(17, e.1.toNat), (6, e.2)]) ++
  leBytes 4 (packFields [(17, t.farModule.toNat), (6, t.farPort.toNat), (1, bnat t.farIdValid)])

/-- The identity check of a port (R43-R46). A check of a trained link that fails sets miswired and records its Notice; miswired
clears when a check passes, or when the far end reports id_valid = 0, trained or not. Then the port joins, rejoins at the next generation, or leaves. -/
def State.checkIdentity (s : State) (p : Nat) : State :=
  let t := s.tile p
  if p = 63 then s.modTile p fun t => { t with outOfRouting := t.linkState != .up }
  else
    let judged := t.linkState == .up && t.helloSeen
    let same := identityMatches s.routing t p
    let wrong := judged && s.routing.idValid && t.farIdValid && s.routing.expected p != .unwired && !same
    let right := (t.helloSeen && !t.farIdValid) || (judged && s.routing.idValid && same)
    let s := s.modTile p fun t => { t with miswired := wrong || (t.miswired && !right) }
    let s := if wrong then s.raise { source := 16 * p + 3, unit := p, detail := identityDetail s.routing t p } else s
    if s.passes p && !t.fenced then
      if !t.outOfRouting then s
      else if t.beenIn then s.modTile p fun t => { t with rejoin := true }
      else (s.modTile p fun t => { t with outOfRouting := false, beenIn := true, rejoin := false }).settle
    else (s.modTile p fun t => { t with rejoin := false }).leaveRouting p 0x7ff

/-- Links that passed rejoin when a generation becomes active (R45). -/
def State.rejoinAll (s : State) : State :=
  ({ s with tiles := tmap s.tiles fun i t =>
      if t.rejoin && !t.fenced && s.passes i then { t with rejoin := false, outOfRouting := false, beenIn := true } else t }).settle

end Sys2Proof.Machine
end

