-- ==== Sys2Proof/Machine/Events.lean ====
section
/-! DEFINITION. Interrupts (R275-R277), the event rings (R610), responses (R608, R612, R616, R618), and modes
(R6, R288, R728, R798, R799). -/

namespace Sys2Proof.Machine

open Sys2Proof

/-! ### MSI-X -/

/-- Whether a host port meets R283's conditions. -/
def portMeets (p : HostPort) : Bool := p.linkUp && p.cacheEnabled && p.bme && !p.fenced && !p.ideRequired && !p.silenced

/-- Whether the module can write to the host of a port: the port meets R283 and GPF has not stopped it (R271, R286). -/
def State.canWrite (s : State) (p : Nat) : Bool := portMeets (s.port p) && !(s.port p).writesStopped

/-- Whether a message can leave for a port's host: the link is up with Bus Master Enable set, and the host is neither fenced nor given up
as silent. -/
def HostPort.talks (p : HostPort) : Bool := p.linkUp && p.bme && !p.fenced && !p.silenced

/-- The MSI-X table of a function. -/
def State.msix (s : State) (f : Fn) : Msix := tgetD (s.port f.port).msix (fnKey f) {}

/-- Entries of a function's MSI-X table (R275): 2,048 for a physical function. -/
def State.msixSize (s : State) (f : Fn) : Nat := if f.vf.isNone then 2048 else (s.msix f).size

/-- Signal a vector (R277): sent when unmasked, pending otherwise. A vector beyond the table, and a port that no message can leave, send
nothing. -/
def State.signal (s : State) (f : Fn) (v : Nat) : State :=
  if s.msixSize f ≤ v then s
  else if (s.msix f).unmasked.contains v then (if (s.port f.port).talks then s.emit (.msix f v) else s)
  else s.modPort f.port fun p =>
    { p with msix := tmod p.msix (fnKey f) {} fun m => { m with pending := nset m.pending v } }

/-! ### Event rings -/

/-- Write one event at the ring's tail (R610). -/
def Mbox.put (m : Mbox) (e : Event) : Mbox :=
  { m with ring := tset m.ring (m.evTail.toNat % 64) e, evTail := m.evTail + 1 }

/-- Whether a ring has a free position (R610). -/
def Mbox.hasRoom (m : Mbox) : Bool := decide ((m.evTail - m.evHead).toNat < 64)

/-- Write an event on a function's ring, or count it lost (R610). -/
def State.event (s : State) (f : Fn) (code : BitVec 16) (object : BitVec 32) (detail : BitVec 128) : State :=
  let m := s.mbox f
  if m.hasRoom then (s.modMbox f fun m => m.put { time := s.time.now, code, object, detail }).signal f 0
  else { s.modMbox f fun m => { m with lost := m.lost + 1 } with
    hearth := { (s.modMbox f fun m => { m with lost := m.lost + 1 }).hearth with eventsLost := satInc s.hearth.eventsLost } }

/-- Every function: the physical function and the 256 virtual functions of each host port (R254). -/
def allFns : List Fn :=
  (List.range 4).flatMap fun p => { port := p, vf := none } :: (List.range 256).map fun v => { port := p, vf := some v }

/-- An event to every function. -/
def State.eventAll (s : State) (code : BitVec 16) (object : BitVec 32) (detail : BitVec 128) : State :=
  allFns.foldl (fun s f => s.event f code object detail) s

/-- H0's physical function. -/
def fnH0 : Fn := { port := 0, vf := none }

/-- An event to the Manager: H0's physical function when MGR_STRAP selects it (R255). -/
def State.eventManager (s : State) (code : BitVec 16) (object : BitVec 32) (detail : BitVec 128) : State :=
  if s.hearth.mgrStrap then s.event fnH0 code object detail else s

/-! ### Responses -/

/-- The bytes of a response (R612). -/
def respBytes (r : Resp) : List Byte :=
  leBytes 2 r.opcode.toNat ++ leBytes 2 r.result.length ++ leBytes 4 r.seq.toNat ++ leBytes 1 r.error.toNat ++
  leBytes 7 0 ++ leBytes 8 r.take.toNat ++ leBytes 8 r.done.toNat ++ r.result

/-- Deliver a response to its arrival point: a running mailbox slot becomes done and vector 0 is signalled (R608), a
fabric caller gets a MGMT_RESP (R616, R617), the sideband a message that is kept (R618). -/
def State.respond (s : State) (via : Arrival) (r : Resp) : State :=
  match via with
  | .mailbox f slot =>
    match tget (s.mbox f).slots slot with
    | some sl =>
      if sl.state = .running ∧ sl.seq = r.seq then
        (s.modMbox f fun m => { m with slots := tset m.slots slot { sl with state := .done, resp := some r } }).signal f 0
      else s
    | none => s
  | .f63 src =>
    s.sendTc3 true { s.agentPacket 0x11 0 0 (r.seq.zeroExtend 64) (respBytes r) with dst := src }
  | .fabric _ src =>
    s.sendTc3 false { s.agentPacket 0x11 0 0 (r.seq.zeroExtend 64) (respBytes r) with dst := src }
  | .sideband eid =>
    let mine := s.hearth.keptResp.filter fun e => e.1 == eid
    let others := s.hearth.keptResp.filter fun e => e.1 != eid
    ({ s with hearth := { s.hearth with keptResp := others ++ (mine ++ [(eid, r)]).drop (mine.length + 1 - 16) } }).emit
      (.mctp eid r)
  | .debug => s.emit (.response via r)

/-- Whether two commands name one caller and seq. -/
def sameCaller (q : QCmd) (via : Arrival) (seq : BitVec 32) : Bool := q.via == via && q.seq == seq

/-- Answer a command that was taken (R612): the take time comes from the running list, which loses the command. -/
def State.answer (s : State) (via : Arrival) (seq : BitVec 32) (op : BitVec 16) (e : BitVec 8) (result : List Byte) : State :=
  let r := s.hearth.running.find? fun x => sameCaller x.1 via seq
  let take := match r with
    | some x => x.2
    | none => s.time.now
  let s := match r with
    | some x => { s with hearth := { s.hearth with running := s.hearth.running.erase x } }
    | none => s
  s.respond via { opcode := op, seq, error := e, result, take, done := s.time.now }

/-! ### Modes -/

/-- The code of a mode, 1-12 in the order of R6. -/
def modeCode : Mode → Nat
  | .off => 1 | .standby => 2 | .hearthBoot => 3 | .linkBringup => 4 | .transit => 5 | .fullService => 6
  | .degraded => 7 | .drain => 8 | .isolated => 9 | .diagnostic => 10 | .firmwareUpdate => 11 | .cracked => 12

/-- Enter a mode and write event 0x0001 (R800, R610). -/
def State.setMode (s : State) (m : Mode) : State :=
  if s.hearth.mode = m then s
  else
    let old := s.hearth.mode
    ({ s with hearth := { s.hearth with mode := m } }).eventAll 0x0001 0 (BitVec.ofNat 128 (modeCode old + 256 * modeCode m))

/-- Whether some host port is present. -/
def State.anyPresent (s : State) : Bool := s.ports.any fun e => e.2.present

/-- Whether a hardware unit is fenced: kinds 1 to 5 of R727. -/
def State.hwFenced (s : State) : Bool := s.quench.fenced.any fun u => 1 ≤ u.1.kind && u.1.kind ≤ 5

/-- Whether a fabric port trains: from Link bring-up on (R803), but for the ports that a Halt, a crack or a power-down idles
(R731, R732, R781). An assembly without supply leaves its port in Detect (R786). -/
def State.fabricTrains (s : State) (p : Nat) : Bool :=
  let t := s.tile p
  p < 64 && !t.overdrawn && t.refused == 0 && (!s.quench.halted || p == 63) && !s.power.powerDown &&
  match s.hearth.mode with
  | .off | .standby | .hearthBoot | .cracked => false
  | _ => true

/-- The service mode that R288 and R728 choose. -/
def State.serviceMode (s : State) : Mode :=
  if !s.anyPresent then .transit else if s.hwFenced then .degraded else .fullService

/-- Whether a mode is Transit, Full service or Degraded service. -/
def isService (m : Mode) : Bool := m == .transit || m == .fullService || m == .degraded

/-- R288 and R728 while in a service mode: presence and fences move the module between Transit, Full service and
Degraded service. -/
def State.adjustMode (s : State) : State := if isService s.hearth.mode then s.setMode s.serviceMode else s

/-- Enter the service mode that R288 and R728 choose; the ports that meet R283's conditions are present again (R817). -/
def State.enterService (s : State) : State :=
  let s := { s with ports := tmap s.ports fun _ p => { p with present := portMeets p, lapsed := false } }
  s.setMode s.serviceMode

/-- Leave presence without vanishing, on entry to Isolated or Diagnostic (R817). -/
def State.lapsePresence (s : State) : State :=
  { s with ports := tmap s.ports fun _ p => { p with present := false, lapsed := p.lapsed || p.present } }

/-- Each trained port of F0-F62 is to send 8 hellos (R683, R802). -/
def State.announce (s : State) : State :=
  { s with tiles := tmap s.tiles fun p t => if p < 63 ∧ t.linkState = .up then { t with hellosToSend := 8 } else t }

/-- Whether a port no longer holds the module in Link bring-up (R799): its expected far end is no module, or it is up and
passed, miswired, or failed three trainings in a row. -/
def State.portSettled (s : State) (p : Nat) : Bool :=
  match (s.routing.expected p).module with
  | none => true
  | some _ => s.passes p || (s.tile p).miswired || 3 ≤ (s.tile p).failures

/-- The module leaves Link bring-up for a service mode, and a MODE_REQUEST 0 that brought it there is answered (R799, R802). -/
def State.leaveBringup (s : State) : State :=
  let s := s.enterService
  match s.hearth.returnCall with
  | none => s
  | some c =>
    ({ s with hearth := { s.hearth with returnCall := none } }).answer c.via c.seq 0x0007 0 (leBytes 8 (modeCode s.hearth.mode))

/-- The module leaves Link bring-up once no port holds it there (R799). -/
def State.bringupExit (s : State) : State :=
  if s.hearth.mode = .linkBringup ∧ s.routing.idValid ∧ (List.range 63).all s.portSettled then s.leaveBringup else s

end Sys2Proof.Machine
end

