-- ==== Sys2Proof/Machine/Vise.lean ====
section
/-! DEFINITION. Vise locks (16): claims, releases, wait lists, hand-over, boosts, broken holders; and the instruction words
of Drawing programs (R578), which a hand-over may let go on. -/

namespace Sys2Proof.Machine

open Sys2Proof

/-! ### Instruction words (R578) -/

/-- Field of a Drawing instruction. -/
def instrField (w : BitVec 128) (lo n : Nat) : Nat := fieldAt w.toNat lo n
/-- Opcode: 1 MOVE, 2 LOOP, 3 WAIT, 4 SIGNAL, 5 END. -/
def instrOp (w : BitVec 128) : Nat := instrField w 0 4
/-- kind of a WAIT or SIGNAL. -/
def instrKind (w : BitVec 128) : Nat := instrField w 4 2
/-- target of a WAIT or SIGNAL. -/
def instrTarget (w : BitVec 128) : Nat := instrField w 8 14
/-- value of a WAIT or SIGNAL. -/
def instrValue (w : BitVec 128) : Word := BitVec.ofNat 64 (instrField w 64 64)

/-- The instruction at a channel's program counter. -/
def Chan.current (c : Chan) : Option (BitVec 128) := c.active.bind fun a => a.program[c.pc.toNat]?

/-- A held WAIT ends: the program goes on with the next instruction. -/
def Chan.goOn (c : Chan) : Chan := { c with state := .running, pc := c.pc + 1 }

/-! ### Identities (R647) -/

/-- Identity of a cell. -/
def idCell (n : Nat) : BitVec 16 := BitVec.ofNat 16 (0x1000 + n)
/-- Identity of an instance's mailbox. -/
def idMailbox (i : Nat) : BitVec 16 := BitVec.ofNat 16 (0x8000 + i)
/-- Identity of a physical function. -/
def idPf (p : Nat) : BitVec 16 := BitVec.ofNat 16 (0x8400 + p)
/-- Identity of a Hearth core. -/
def idCore (k : Nat) : BitVec 16 := BitVec.ofNat 16 (0xc000 + k)
/-- Identity of a Drawing channel. -/
def idChan (c : Nat) : BitVec 16 := BitVec.ofNat 16 (0xd000 + c)
/-- Whether an identity is a Hearth core's. -/
def isCore (i : BitVec 16) : Bool := 0xc000 ≤ i.toNat && i.toNat ≤ 0xc007
/-- Whether an identity is a Drawing channel's. -/
def isChan (i : BitVec 16) : Bool := 0xd000 ≤ i.toNat && i.toNat ≤ 0xd0ff
/-- Whether an identity is an instance mailbox's. -/
def isMailbox (i : BitVec 16) : Bool := 0x8000 ≤ i.toNat && i.toNat ≤ 0x83ff

/-- Whether a vise accepts claims of an identity (R649). -/
def State.viseScope (s : State) (v : Vise) (id : BitVec 16) : Bool :=
  let ch := s.chan (id.toNat - 0xd000)
  let instChan := isChan id && ch.ownerKind == 0 && ch.state != .unallocated
  match v.inst with
  | some i =>
    (isMailbox id && id == idMailbox i.toNat) || (instChan && ch.owner == i) || isCore id ||
    (0x1000 ≤ id.toNat && id.toNat ≤ 0x1fff)
  | none => !(isMailbox id || instChan)

/-! ### The unit (R650-R663) -/

/-- The effective priority of a vise (R657). -/
def Vise.eff (v : Vise) : BitVec 2 :=
  match v.waiters with
  | [] => v.ownPrio
  | w :: _ => if w.2.toNat < v.ownPrio.toNat then v.ownPrio else w.2

/-- Put a waiter into a wait list (R654): by priority, then by time of entry. -/
def insertWaiter (id : BitVec 16) (prio : BitVec 2) : List (BitVec 16 × BitVec 2) → List (BitVec 16 × BitVec 2)
  | [] => [(id, prio)]
  | w :: ws => if w.2.toNat < prio.toNat then (id, prio) :: w :: ws else w :: insertWaiter id prio ws

/-- The boost event of R658, when the owner is a Hearth core and the effective priority of vise n changed from old. -/
def State.boost (s : State) (n : Nat) (old : BitVec 2) : State :=
  let v := s.vise n
  if isCore v.owner && v.eff != old then
    let w := packFields [(12, n), (3, v.owner.toNat % 8), (1, 0), (2, v.eff.toNat), (1, bnat (v.eff == v.ownPrio))]
    ({ s with vises := { s.vises with boosts := satInc s.vises.boosts } }).emit (.boost (BitVec.ofNat 32 w))
  else s

/-- Withdraw a wait of an identity on vise n, without an event (R652, R653). -/
def State.withdraw (s : State) (n : Nat) (id : BitVec 16) : State :=
  let old := (s.vise n).eff
  (s.modVise n fun v => { v with waiters := v.waiters.filter fun w => w.1 != id }).boost n old

/-- The functions of an identity's event ring (R655): an instance's function, or a physical function. -/
def State.fnOfIdentity (s : State) (id : BitVec 16) : Option Fn :=
  if isMailbox id then
    let x := s.inst (id.toNat - 0x8000)
    some { port := x.port.toNat, vf := if x.bound then some x.vf.toNat else none }
  else if 0x8400 ≤ id.toNat ∧ id.toNat ≤ 0x8403 then some { port := id.toNat - 0x8400, vf := none }
  else none

/-- The new owner learns of the hand-over (R655). -/
def State.tellOwner (s : State) (n : Nat) (id : BitVec 16) (broken : Bool) : State :=
  if isChan id then
    s.modChan (id.toNat - 0xd000) fun c =>
      match c.current with
      | some w => if c.state = .waiting ∧ instrOp w = 3 ∧ instrKind w = 2 then { c.goOn with sawBroken := c.sawBroken || broken } else c
      | none => c
  else
    match s.fnOfIdentity id with
    | some f => s.event f 0x0008 (BitVec.ofNat 32 n) (BitVec.ofNat 128 (bnat broken))
    | none => s.emit (.viseWake id)

/-- The owner of vise n lets go (R655, R661): the first waiter owns it, or it is free. -/
def State.handOver (s : State) (n : Nat) (broken : Bool) : State :=
  match (s.vise n).waiters with
  | [] => s.modVise n fun v => { v with owner := 0, ownPrio := 0, broken }
  | w :: ws => (s.modVise n fun v => { v with owner := w.1, ownPrio := w.2, broken, waiters := ws }).tellOwner n w.1 broken

/-- Claim vise n (R650, R653). The scope of R649 is checked before. -/
def State.claim (s : State) (n : Nat) (id : BitVec 16) (wait : Bool) (prio : BitVec 2) : State :=
  let v := s.vise n
  if v.owner = 0 then s.modVise n fun v => { v with owner := id, ownPrio := prio }
  else if v.owner = id then s
  else
    let s := { s.count 0x0071 0 0 1 with vises := { s.vises with contended := satInc s.vises.contended } }
    if !wait || v.waiters.any (fun w => w.1 == id) then s
    else
      let s := (s.vises.vises.filter fun e => e.2.waiters.any fun w => w.1 == id).foldl (fun s e => s.withdraw e.1 id) s
      (s.modVise n fun v => { v with waiters := insertWaiter id prio v.waiters }).boost n v.eff

/-- A claim or release that R649 or R652 turns away. -/
def State.notOwner (s : State) : State := { s with vises := { s.vises with notOwner := satInc s.vises.notOwner } }

/-- Release vise n, or withdraw from it (R652). -/
def State.releaseVise (s : State) (n : Nat) (id : BitVec 16) : State :=
  let v := s.vise n
  if v.owner = id ∧ id ≠ 0 then s.handOver n false
  else if v.waiters.any fun w => w.1 == id then s.withdraw n id
  else s.notOwner

/-- Release with the broken flag every vise that an identity holds, and withdraw its waits (R660, R661). -/
def State.breakIdentity (s : State) (id : BitVec 16) : State :=
  let s := (s.vises.vises.filter fun e => e.2.waiters.any fun w => w.1 == id).foldl (fun s e => s.withdraw e.1 id) s
  (s.vises.vises.filter fun e => e.2.owner == id).foldl
    (fun s e => ({ s with vises := { s.vises with brokenReleases := satInc s.vises.brokenReleases } }).handOver e.1 true) s

/-- Whether an identity holds a vise. -/
def State.holdsVise (s : State) (id : BitVec 16) : Bool := s.vises.vises.any fun e => e.2.owner == id

/-- A fault breaks an identity: where it holds a vise, the condition of R753 row 10 fails with detector det. -/
def State.breakByFault (s : State) (id : BitVec 16) (det unit : Nat) : State :=
  let held := s.holdsVise id
  let s := s.breakIdentity id
  if held then s.raise { source := det, unit, kind := 2, breakCode := 10 } else s

/-- Every vise and every wait of one identity passes to another, unbroken and in place (R662). -/
def State.passVises (s : State) (from_ to_ : BitVec 16) : State :=
  { s with vises := { s.vises with vises := tmap s.vises.vises fun _ v =>
      { v with owner := if v.owner = from_ then to_ else v.owner
               waiters := v.waiters.map fun w => if w.1 = from_ then (to_, w.2) else w } } }

/-- Write VISE.CLAIM as an on-die master (R648-R652). -/
def State.viseWrite (s : State) (stamp : BitVec 16) (n : Nat) (word : Word) : State :=
  if 4096 ≤ n then s
  else if bits word 15 0 ≠ stamp.toNat then
    ({ s with vises := { s.vises with badIdentity := satInc s.vises.badIdentity } }).raiseAt 1314 0
  else if bit word 16 then s.releaseVise n stamp
  else if s.viseScope (s.vise n) stamp then s.claim n stamp (bit word 17) (BitVec.ofNat 2 (bits word 19 18))
  else s.notOwner

/-- R650: a claim write. -/
def execViseClaimWrite (stamp : BitVec 16) (vise : Nat) (word : Word) (s : State) : Host.Outcome State Fault Refusal :=
  .next (s.viseWrite stamp vise word)

/-- R652: a release write. -/
def execViseReleaseWrite (stamp : BitVec 16) (vise : Nat) (word : Word) (s : State) : Host.Outcome State Fault Refusal :=
  .next (s.viseWrite stamp vise word)

end Sys2Proof.Machine
end

