-- ==== Sys2Proof/Machine/Time.lean ====
section
/-! DEFINITION. Machine Time: the election (R210-R215), the servo (R222-R228), Strokes (R235-R244), and their events. -/

namespace Sys2Proof.Machine

open Sys2Proof

/-! ### Election -/

/-- A master's tuple as one number, lower is better: class, priority, module ID (R210). -/
def masterKey (c : BitVec 2) (prio : BitVec 8) (i : ModId) : Nat := (c.toNat * 256 + prio.toNat) * 131072 + i.toNat

/-- The key of a port's advertised master. -/
def TimeLink.key (l : TimeLink) : Nat := masterKey l.advClass l.advPrio l.advMaster

/-- This module's own class (R210, R211, R214): 3 without identity. -/
def State.selfClass (s : State) : BitVec 2 :=
  if !s.routing.idValid then 3 else if s.time.refValid then 0 else if s.time.classOne then 1 else 2

/-- Whether a port qualifies as parent (R212). -/
def State.qualifiesNow (s : State) (p : Nat) : Bool :=
  let t := s.tile p
  t.linkState == .up && !t.fenced && (!s.routing.idValid || identityMatches s.routing t p && t.farIdValid) &&
  t.time.advSteps != 15 && decide (8 ≤ t.time.goodRun)

/-- The order of qualifying ports (R212): master, steps, link_delay, port. -/
def betterPort (a b : Nat × TimeLink) : Bool :=
  let ka := (a.2.key, a.2.advSteps.toNat, a.2.linkDelay.toNat, a.1)
  let kb := (b.2.key, b.2.advSteps.toNat, b.2.linkDelay.toNat, b.1)
  decide (ka.1 < kb.1 ∨ ka.1 = kb.1 ∧ (ka.2.1 < kb.2.1 ∨ ka.2.1 = kb.2.1 ∧
    (ka.2.2.1 < kb.2.2.1 ∨ ka.2.2.1 = kb.2.2.1 ∧ ka.2.2.2 < kb.2.2.2)))

/-- The best qualifying port of a list. -/
def bestPort : List (Nat × TimeLink) → Option (Nat × TimeLink)
  | [] => none
  | a :: l =>
    match bestPort l with
    | none => some a
    | some b => if betterPort b a then some b else some a

/-- The ports that qualify as parent (R212). -/
def State.qualifying (s : State) : List (Nat × TimeLink) :=
  (List.range 64).filterMap fun p => if s.qualifiesNow p then some (p, (s.tile p).time) else none

/-- The port that R213 leaves as parent, or none when this module is master: a better master than the present parent's,
or the same master with fewer steps for 64 exchanges, takes its place. -/
def State.chooseParent (s : State) : Option (Nat × TimeLink) :=
  let links := s.qualifying
  let own := masterKey s.selfClass s.time.priority s.routing.moduleId
  match bestPort links with
  | none => none
  | some b =>
    if s.routing.idValid && decide (own ≤ b.2.key) then none
    else
      match links.find? (fun e => s.time.parent == some e.1) with
      | none => some b
      | some cur =>
        if b.2.key < cur.2.key then some b
        else
          match bestPort (links.filter fun e => e.2.key == cur.2.key && decide (e.2.advSteps.toNat < cur.2.advSteps.toNat ∧ 64 ≤ e.2.fewerRun)) with
          | some e => some e
          | none => some cur

/-- Servo state after the parent is known (R224): a parent that comes to qualify starts ACQUIRING; LOCKED without one
goes to HOLDOVER; a master without a reference is in HOLDOVER when class 1 and FREE when class 2. -/
def servoAfter (old : Servo) (had has refMaster classOne : Bool) : Servo :=
  if has then (if had then old else .acquiring)
  else if refMaster then (if old == .locked || old == .acquiring then old else .acquiring)
  else if had && old == .locked then .holdover
  else if classOne then .holdover else .free

/-- The 16-byte payload of a TIME_ANNOUNCE (R215). -/
def announcePayload (t : Time) : List Byte :=
  leBytes 1 t.ownClass.toNat ++ leBytes 1 t.steps.toNat ++ leBytes 1 (t.parent.getD 0xff) ++
  leBytes 1 0 ++ leBytes 4 t.masterId.toNat ++ leBytes 8 (BitVec.ofInt 64 (t.filt / 4294967296)).toNat

/-- A follower that is LOCKED and loses its last qualifying port, and a master with a valid reference, count as class 1 from then on
(R210, R214). -/
def State.noteClassOne (s : State) : State :=
  let alone := s.time.parent.isSome && s.time.servo == .locked && s.qualifying.isEmpty
  { s with time := { s.time with classOne := s.time.classOne || s.time.refValid && s.routing.idValid || alone } }

/-- What an election makes of Machine Time's state (R211-R214, R224): the parent, the master, the class, and the servo's state. -/
def State.elected (s : State) : Time :=
  let old := s.time
  let pick := s.chooseParent
  let new : Time := match pick with
    | some (p, l) =>
      { old with parent := some p, steps := if s.routing.idValid then satInc l.advSteps else 15,
                 ownClass := if s.routing.idValid then l.advClass else 3, masterPrio := l.advPrio, masterId := l.advMaster }
    | none =>
      { old with parent := none, steps := if s.routing.idValid then 0 else 15, ownClass := s.selfClass,
                 masterPrio := old.priority, masterId := s.routing.moduleId }
  let servo := servoAfter old.servo old.parent.isSome pick.isSome (pick.isNone && old.refValid && s.routing.idValid) old.classOne
  let new := if servo = .acquiring ∧ old.servo ≠ .acquiring then { new with servo, lockRun := 0, unlockRun := 0 } else { new with servo }
  let new := if new.servo = .holdover then { new with slew := 0 } else new
  match pick with
  | some (_, l) => { new with classOne := new.classOne || (new.servo == .locked && decide (l.advClass.toNat ≤ 1)) }
  | none => new

/-- Elect master and parent again (R211-R215); a change is announced to notify_module. A module counts as class 1 from
when it is class 0, is LOCKED to a class 0 or 1 master, or loses every qualifying port while LOCKED (R210, R214). A new
parent starts every count of fewer steps again (R213), and a servo that starts ACQUIRING its count of exchanges (R224). -/
def State.elect (s : State) : State :=
  let s := s.noteClassOne
  let old := s.time
  let new := s.elected
  let changed := new.ownClass != old.ownClass || new.masterId != old.masterId || new.parent != old.parent
  let s := { s with
    time := new,
    tiles := if new.parent == old.parent then s.tiles else tmap s.tiles fun _ t => { t with time := { t.time with fewerRun := 0 } } }
  if changed && new.notifyValid then
    s.sendTc3 false { s.agentPacket 0x13 new.notifyModule 1 s.time.now (announcePayload new) with
      src := moduleAddr s.routing.moduleId 1 }
  else s

/-! ### Servo -/

/-- A step of Machine Time to now (R227, R233, R234): counted; a Mend outside Hearth boot and Link bring-up; a backward step
closes the fault-count windows, and a forward one notes where it began, for the events that it passes. -/
def State.stepTime (s : State) (to_ : Ticks) : State :=
  let back := decide (to_.toNat < s.time.now.toNat)
  let s := { s with
    time := { s.time with now := to_, filt := 0, servo := .acquiring, lockRun := 0, unlockRun := 0,
                          stepCount := satInc s.time.stepCount,
                          passedFrom := if back then s.time.passedFrom else s.time.passedFrom.orElse fun _ => some s.time.now },
    quench := if back then { s.quench with counts := tmap s.quench.counts fun _ c =>
        if c.open_ then { c with open_ := false, count := 0, escalated := false } else c } else s.quench }
  if s.hearth.mode = .hearthBoot ∨ s.hearth.mode = .linkBringup then s else s.raiseAt 1232 0

/-- The servo takes an accepted offset, in 2^-32 tick, with its integral divisor 1 / ki (R223, R224, R226, R227). Its
rates are in ticks a cycle of the 1 GHz time clock, so filt / 1000 ns is filt / 1000 of them (assumption log 25). -/
def State.servoTake (s : State) (o divisor : Int) : State :=
  let t := s.time
  let filt := t.filt + (o - t.filt) / 8
  if 64000 * servoUnit < filt.natAbs then s.stepTime (t.now + BitVec.ofInt 64 (filt / servoUnit))
  else
    let inLock := decide ((filt.natAbs : Int) ≤ 256 * servoUnit)
    let outLock := decide (512 * servoUnit < (filt.natAbs : Int))
    let lockRun := if inLock then t.lockRun + 1 else 0
    let unlockRun := if outLock then t.unlockRun + 1 else 0
    let servo : Servo := match t.servo with
      | .acquiring => if 64 ≤ lockRun then .locked else .acquiring
      | .locked => if 16 ≤ unlockRun then .acquiring else .locked
      | x => x
    { s with time := { t with filt, freq := clampTo ppm200 (t.freq + filt / divisor),
                              slew := clampTo ppm100 (filt / 1000), servo, lockRun, unlockRun,
                              classOne := t.classOne || (servo == .locked && decide (t.ownClass.toNat ≤ 1)) } }

/-- Whether TC2 injection is allowed (R228). -/
def Time.tc2Open (t : Time) (idValid : Bool) : Bool :=
  !t.strokeEnable || t.servo == .locked || (t.steps == 0 && idValid)

/-! ### Strokes -/

/-- Entries of the active Stroke bank. -/
def Time.strokes (t : Time) : List (BitVec 128) := if t.strokeBank then t.strokes1 else t.strokes0
/-- Entries of the inactive bank. -/
def Time.strokesOther (t : Time) : List (BitVec 128) := if t.strokeBank then t.strokes0 else t.strokes1
/-- Length of a Stroke (R235). -/
def strokeLen (e : BitVec 128) : Nat := bits e 39 0
/-- Cycle of a table (R236). -/
def strokeCycle (l : List (BitVec 128)) : Nat := (l.map strokeLen).foldl (· + ·) 0

/-- Walk into the cycle (R237): index and the ticks left of the Stroke in force. -/
def strokeWalk : List (BitVec 128) → Nat → Nat → Option (Nat × Nat)
  | [], _, _ => none
  | e :: l, i, r => if r < strokeLen e then some (i, strokeLen e - r) else strokeWalk l (i + 1) (r - strokeLen e)

/-- The Stroke in force: its index and the ticks to its end; none before the base (R237). -/
def Time.strokeAt (t : Time) (at_ : Ticks) : Option (Nat × Nat) :=
  let c := strokeCycle t.strokes
  if at_.toNat < t.strokeBase.toNat ∨ c = 0 then none
  else strokeWalk t.strokes 0 ((at_.toNat - t.strokeBase.toNat) % c)

/-- Whether a port may send a TC2 packet of tx ticks now, and for an injected one of a Stroke class (R239-R242). -/
def Time.strokeFits (t : Time) (port tx : Nat) (cls : Option (BitVec 4)) : Bool :=
  !t.strokeEnable ||
  match t.strokeAt t.now with
  | none => false
  | some (i, left) =>
    let e := t.strokes.getD i 0
    bit e (64 + port) && decide (tx ≤ left) &&
    match cls with
    | none => true
    | some c => bit e (40 + c.toNat)

/-- Whether the active table opens a port in some entry (R243). -/
def Time.strokeOpens (t : Time) (port : Nat) : Bool := !t.strokeEnable || t.strokes.any fun e => bit e (64 + port)

/-- tx_ticks of a packet (R241) for a port of effective width e4 / 4. -/
def txTicks (chunks e4 : Nat) : Nat := (ceilDiv chunks 15 + 1) * (2624 / max 1 e4)

/-! ### Events of the time unit -/

/-- The reference is lost (R208, R214): a Notice, and the election follows. -/
def State.loseReference (s : State) : State :=
  if s.time.refValid then (({ s with time := { s.time with refValid := false, ppsRun := 0 } }).raiseAt 1233 0).elect
  else { s with time := { s.time with ppsRun := 0 } }

/-- Offset of the nearest whole second to an instant, in ticks (R205, R209). -/
def secondOffset (now : Ticks) : Int :=
  let r := now.toNat % secTicks
  if 2 * r ≤ secTicks then -(r : Int) else (secTicks : Int) - r

/-- A PPS edge at its instant (R208, R209): it judges the reference, the 10 MHz input against the lane reference in use
(R670), steers a master (R223), carries out a TIME_SET (R640). -/
def State.takePps (s : State) (periodNs tenA tenB : Nat) : State :=
  let ten := if s.time.usesRefB then tenB else tenA
  let tenOk := decide (9999900 ≤ ten ∧ ten ≤ 10000100)
  let run := if decide (999999000 ≤ periodNs ∧ periodNs ≤ 1000001000) then s.time.ppsRun + 1 else 1
  let s := { s with time := { s.time with ref10mOk := tenOk } }
  if s.time.refValid && (!tenOk || decide (1000001000 ≤ periodNs)) then s.loseReference
  else
    let valid := s.time.refEnable && tenOk && decide (3 ≤ run)
    let s := ({ s with time := { s.time with ppsRun := run, refValid := s.time.refValid || valid } }).elect
    if !(s.time.refValid && s.time.parent.isNone && s.routing.idValid) then s
    else
      match s.time.timeSet with
      | some sec =>
        let s := s.stepTime (BitVec.ofNat 64 (sec.toNat * secTicks))
        let done := s.hearth.running.filter fun c => c.1.opcode == 0x0201
        let s := { s with time := { s.time with timeSet := none },
                          hearth := { s.hearth with running := s.hearth.running.filter fun c => c.1.opcode != 0x0201 } }
        done.foldl (fun (s : State) (c : QCmd × Ticks) =>
          s.respond c.1.via { opcode := 0x0201, seq := c.1.seq, error := 0, result := leBytes 8 s.time.now.toNat,
                              take := c.2, done := s.time.now }) s
      | none => s.servoTake (secondOffset s.time.now * servoUnit) 16

/-- R208, R214: the reference is lost: a late PPS edge, or a 10 MHz input out of its range. -/
def execTimeRefLoss (tenMhz : Bool) (s : State) : Host.Outcome State Fault Refusal :=
  .next (if tenMhz then { s with time := { s.time with ref10mOk := false } } else s).loseReference

/-- R669: a lane reference is lost: the lanes move to the other, or with both lost Quench halts. -/
def execRefClockLoss (refB : Bool) (s : State) : Host.Outcome State Fault Refusal :=
  let t := if refB then { s.time with refBValid := false } else { s.time with refAValid := false }
  if !t.refAValid && !t.refBValid then .next (({ s with time := t }).raiseAt 1236 0)
  else if t.usesRefB == refB then
    .next (({ s with time := { t with usesRefB := !refB } }).raiseAt (if refB then 1235 else 1234) 0)
  else .next { s with time := t }

/-- R669: a lost reference shows edges in range again; the lanes stay where they are. -/
def execRefClockReturn (refB : Bool) (s : State) : Host.Outcome State Fault Refusal :=
  .next { s with time := if refB then { s.time with refBValid := true } else { s.time with refAValid := true } }

/-- Whether two packets are the same on the wire: the contents beside a packet are left out (assumption logs 56, 57). -/
def samePacket (p q : Packet) : Bool := { p with ctrl := none, coll := none } == { q with ctrl := none, coll := none }

/-- Whether a packet waits for its agent. -/
def State.hasArrival (s : State) (p : Packet) : Bool := s.routing.arrivals.any fun e => samePacket e.2 p

/-- A packet is taken by its agent. -/
def State.takeArrival (s : State) (p : Packet) : State :=
  { s with routing := { s.routing with arrivals := s.routing.arrivals.eraseP fun e => samePacket e.2 p } }

/-- R215: a TIME_ANNOUNCE reaches agent 1, which passes it out to the software that asked for it. -/
def execTimeAnnounce (_port : Nat) (p : Packet) (s : State) : Host.Outcome State Fault Refusal :=
  if !s.hasArrival p || p.pktType != 0x13 then .next s else .next ((s.takeArrival p).emit (.report p))

/-- R231, R233: TIME_OUT pulses once Machine Time is at or past a whole second that has not pulsed; pulses holds the
last one. -/
def execTimeOutPulse (now : Ticks) (s : State) : Host.Outcome State Fault Refusal :=
  let s := s.advance now
  let sec := s.time.now.toNat / secTicks
  if s.time.pulses < sec then
    .next ({ s with time := { s.time with pulses := sec } }.emit (.timeOut s.time.now))
  else .next s

/-- R237: the Stroke in force changes. -/
def execStrokeBoundary (now : Ticks) (s : State) : Host.Outcome State Fault Refusal :=
  let s := s.advance now
  .next { s with time := { s.time with strokeIdx := (s.time.strokeAt s.time.now).map (·.1) } }

/-- R244: at the first cycle boundary of the active table at or after T, the Stroke banks swap. -/
def execStrokeSwapFire (now : Ticks) (s : State) : Host.Outcome State Fault Refusal :=
  let s := s.advance now
  let t := s.time
  let c := strokeCycle t.strokes
  let boundary := if c = 0 ∨ t.strokeSwapAt.toNat ≤ t.strokeBase.toNat then max t.strokeSwapAt.toNat (if c = 0 then 0 else t.strokeBase.toNat)
    else t.strokeBase.toNat + ceilDiv (t.strokeSwapAt.toNat - t.strokeBase.toNat) c * c
  if t.strokeSwap && decide (boundary ≤ t.now.toNat) then
    let t := { t with strokeSwap := false, strokeBank := !t.strokeBank, strokeBase := t.strokeBaseOther, strokeBaseOther := t.strokeBase }
    .next { s with time := { t with strokeIdx := (t.strokeAt t.now).map (·.1) } }
  else .next s

end Sys2Proof.Machine
end

