-- ==== Sys2Proof/Machine/Wire.lean ====
section
/-! DEFINITION. One fabric port on the wire: sending flits with their credit and acknowledgement fields (R76, R176, R177),
replay (R73-R83), retraining (R682-R684), training to Up (R73, R181), link-management bodies (R686-R690). -/

namespace Sys2Proof.Machine

open Sys2Proof

/-! ### Credit reports -/

/-- Chunks a receiver may still grant on a lane (R174). -/
def RxLane.grant (l : RxLane) : Nat := l.limit - (l.occ + l.out)

/-- The lane to report next (R177): none of the last nine; the largest grant, lowest lane on a tie; with no grant the one
reported longest ago. A lane never reported counts as reported longer ago than any other, the lowest of several first
(DESIGN CHOICE, assumption log 111). -/
def Tile.reportLane (t : Tile) : Nat :=
  let free := (List.range 32).filter fun v => !(t.reports.take 9).contains v
  let best := free.foldl (fun (b : Nat × Nat) v => if b.2 < (t.rxLane v).grant then (v, (t.rxLane v).grant) else b) (0, 0)
  if 0 < best.2 then best.1
  else
    match free.find? (fun v => !t.reports.contains v) with
    | some v => v
    | none => (t.reports.filter free.contains).getLast?.getD 0

/-- The credit fields of the next flit (R176): the lane, its cumulative count, and the tile with the grant issued. -/
def Tile.report (t : Tile) : Nat × BitVec 10 × Tile :=
  let v := t.reportLane
  let k := min 255 (t.rxLane v).grant
  let t := t.modRx v fun l => { l with granted := l.granted + BitVec.ofNat 10 k, out := l.out + k }
  (v, (t.rxLane v).granted, { t with reports := v :: t.reports.erase v })

/-! ### Sending a flit -/

/-- A flit takes its place in the frame that the port is filling; the tenth closes the frame, which leaves with its
frame_count (R62-R64), and a Freewheel block follows the frames whose count mod 512 is 511 (R672). -/
def State.putFlit (s : State) (p : Nat) (f : Flit) : State :=
  let t := s.tile p
  let s := s.emit (.flit p f)
  let fs := t.txFlits ++ [f]
  if fs.length < 10 then s.modTile p fun t => { t with txFlits := fs }
  else
    let s := (s.modTile p fun t => { t with txFlits := [], txFrame := t.txFrame + 1 }).emit (.frame p (frameSymbols (frameMessage t.txFrame fs)))
    if t.txFrame.toNat % 512 = 511 then s.emit (.freewheel p (freewheelSymbols (lanesOfWidth t.width))) else s

/-- Fill the fields that every flit carries, and send it. A sequenced flit that is new takes the next link_seq and is
kept for replay (R73). -/
def State.sendFlit (s : State) (p : Nat) (f : Flit) : State :=
  let (v, c, t) := (s.tile p).report
  let r := t.retry
  let f : Flit := { f with creditVl := BitVec.ofNat 5 v, creditCount := c }
  let f : Flit := if f.flitType = 3 then { f with ackValid := false, ackSeq := r.expected }
    else { f with ackValid := r.accepted, ackSeq := if r.accepted then r.expected - 1 else 0 }
  let f := flitSealed (if f.flitType = 1 then { f with linkSeq := r.nextTx } else f)
  let r := if f.flitType = 1 then
      { r with nextTx := r.nextTx + 1, kept := r.kept ++ [{ seq := r.nextTx, flit := f, sentAt := s.time.now }] } else r
  let r := if f.flitType = 3 then r else { r with ackOwed := 0 }
  (s.modTile p fun _ => { t with retry := r }).putFlit p f

/-- Send a kept flit again, its fields filled anew (R79, R176). -/
def State.resendFlit (s : State) (p : Nat) (k : KeptFlit) : State :=
  let (v, c, t) := (s.tile p).report
  let r := t.retry
  let f := flitSealed { k.flit with creditVl := BitVec.ofNat 5 v, creditCount := c, ackValid := r.accepted,
                                    ackSeq := if r.accepted then r.expected - 1 else 0 }
  let r := { r with ackOwed := 0,
                    kept := r.kept.map fun x => if x.seq = k.seq then { k with flit := f, sentAt := s.time.now } else x }
  (s.modTile p fun _ => { t with retry := r }).putFlit p f

/-- Idle flits fill n places (R69), their bodies the continuing output of the PRBS31 generator (R701). -/
def State.sendIdle (s : State) (p : Nat) : Nat → State
  | 0 => s
  | n + 1 =>
    let k := (s.tile p).prbs
    ((s.modTile p fun t => { t with prbs := k + 1920 }).sendFlit p { body := (List.range 240).map fun i => Config.prbs31 p (k + 8 * i) }).sendIdle p n

/-- Idle flits fill the port's frame up, which leaves (R62). -/
def State.closeFrame (s : State) (p : Nat) : State := s.sendIdle p (10 - (s.tile p).txFlits.length)

/-- A frame part way filled leaves before the port stops sending frames. -/
def State.endFrames (s : State) (p : Nat) : State := if (s.tile p).txFlits.isEmpty then s else s.closeFrame p

/-- A link-management flit (R686): kind and body. -/
def State.sendLink (s : State) (p kind : Nat) (body : List Byte) : State :=
  s.sendFlit p { flitType := 5, body := leBytes 1 kind ++ body }

/-! ### Training, retraining -/

/-- Lanes of a width group (R678) as a mask, with its width code. -/
def widthGroups : List (Nat × BitVec 2) := [(0xff, 0), (0x0f, 1), (0xf0, 1), (0x03, 2), (0x0c, 2), (0x30, 2), (0xc0, 2)]

/-- The first group whose lanes are good in both masks; only x8 when narrower is not allowed (R678). -/
def chooseWidth (allow : Bool) (a b : BitVec 8) : Option (Nat × BitVec 2) :=
  (if allow then widthGroups else widthGroups.take 1).find? fun g => g.1 &&& (a &&& b).toNat == g.1

/-- The physical lane of a logical lane (R676). -/
def Tile.physical (t : Tile) (k : Nat) : Nat := if t.reversed then 7 - k else k

/-- A run of 64 training blocks on physical lanes (R674); the PRBS31 generator goes on through their 265 other symbols. -/
def State.trainLanes (s : State) (p : Nat) (phase : BitVec 2) (lanes : List Nat) : State :=
  let t := s.tile p
  let done := (chooseWidth t.allowDegrade t.selfGood t.farGood).isSome
  (s.modTile p fun t => { t with prbs := t.prbs + 64 * 2650 }).emit
    (.training p (lanes.map fun j => (j, trainHead j t.maxRate t.selfGood done phase)))

/-- Send training blocks for a port, in a phase (R674): a run of 64 on every lane, and the Freewheel block that follows it (R672). -/
def State.sendTraining (s : State) (p : Nat) (phase : BitVec 2) : State :=
  ((s.endFrames p).trainLanes p phase (List.range 8)).emit (.freewheel p (freewheelSymbols 8))

/-- The excluded lanes go on sending training blocks, in phase 2 (R704). -/
def State.trainExcluded (s : State) (p : Nat) : State :=
  let t := s.tile p
  let l := ((List.range 8).filter fun k => !bit t.lanesActive k).map t.physical
  if l.isEmpty then s else s.trainLanes p 2 l

/-- Put a port at the start of the map phase at rate 0 (R683). -/
def State.startMap (s : State) (p : Nat) : State :=
  let s := s.endFrames p
  (s.modTile p fun t =>
    { t with linkState := .map, rate := 0, inStep := false,
             selfGood := 0, farGood := 0, farMapDone := false, syncRun := 0, hellos := 0, hellosToSend := 0, helloSeen := false,
             propRate := none, qualifying := false, shoe := none, shoeing := false, shod := false, soleUse := false,
             shoeRetry := false, idleRun := false, scanAt := none, scanFirst := [],
             retry := { t.retry with frameBad := 0, lastCount := none, badRun := 0 },
             lanes := tmap t.lanes fun _ l => { l with lockRun := 0, good := false, active := false, restoreFails := [] } }).sendTraining p 0

/-- A trained port retrains (R682, R683): out of routing at once, F63's vises broken (R660), retrains counted, a Mend on the given detector (none for
a Quench fence), the map phase begun, the election held again without the port. det is what FAULTs name (R742). -/
def State.retrain (s : State) (p : Nat) (event : Option Nat) (det : Nat) : State :=
  let s := match event with
    | some e => s.raiseAt e p
    | none => s
  let s := (s.sendLink p 5 []).leaveRouting p det
  let s := if p = 63 then s.breakByFault 0x8404 (event.getD (16 * 63 + 1)) p else s
  let s := s.modTile p fun t => { t with retrains := satInc t.retrains, time := { t.time with goodRun := 0, delivered := false } }
  (s.startMap p).elect

/-- The port reaches Up (R679): retry, credit and delay state clear (R73, R181, R709), a held configuration takes effect
(R175), the identity check decides on routing, and the module may leave Link bring-up (R799). -/
def State.reachUp (s : State) (p : Nat) : State :=
  let s := s.modTile p fun t =>
    let t := match t.nextCredit with
      | some (f, c, o) => { t with vlFloor := f, vlCap := c, portOverhead := o, nextCredit := none }
      | none => t
    { t with linkState := .up, failures := 0, backoff := false, retry := {}, tx := [], reports := [], sentUnreturned := 0,
             rx := tmap t.rx fun _ l => { limit := t.vlFloor.toNat, occ := l.occ },
             time := { asym := t.time.asym, delayJump := t.time.delayJump, rxCorr := t.time.rxCorr, txCorr := t.time.txCorr } }
  ((s.mendOver p).checkIdentity p).bringupExit

/-! ### Replay (R75, R78-R83) -/

/-- A replay from the oldest kept flit on (R79-R81): replay_run counts; at 3 the port turns retry-suspect, at 8 a Fence is
recorded and the link retrains (R83). -/
def State.replay (s : State) (p : Nat) : State :=
  let ks := (s.tile p).retry.kept
  if ks.isEmpty then s
  else
    let s := ks.foldl (fun s k => s.resendFlit p k) (s.count 0x0012 p 0 1)
    let s := s.modTile p fun t => { t with retry := { t.retry with replayRun := satInc t.retry.replayRun } }
    let r := (s.tile p).retry
    if r.replayRun = 8 then s.retrain p (some (16 * p + 1)) (16 * p + 1)
    else if 3 ≤ r.replayRun.toNat ∧ !r.suspect then
      ((s.modTile p fun t => { t with retry := { t.retry with suspect := true } }).raiseAt (16 * p + 13) p).settle
    else s

/-- A cumulative acknowledgement of every flit before seq (R73, R79, R81, R83). -/
def State.ackBefore (s : State) (p : Nat) (seq : BitVec 24) : State :=
  let r := (s.tile p).retry
  let kept := r.kept.filter fun k => !serialLt k.seq seq
  let freed := decide (kept.length < r.kept.length)
  let was := r.suspect
  if !freed then s
  else
    let s := s.modTile p fun t =>
      { t with retry := { t.retry with kept, held := t.retry.held.filter fun h => !serialLt h.1 seq,
                                       acked := seq - 1, replayRun := 0, suspect := false } }
    if was then s.settle else s

/-- One replay request for the next expected flit, at most once in 4 us for one value (R75), none in a step (R698). -/
def State.nak (s : State) (p : Nat) : State :=
  let t := s.tile p
  let again := match t.retry.nakFor with
    | some (v, at_) => v == t.retry.expected && decide ((s.time.now - at_).toNat < us 4)
    | none => false
  if t.inStep || again || t.linkState != .up then s
  else (s.modTile p fun t => { t with retry := { t.retry with nakFor := some (t.retry.expected, s.time.now) } }).sendFlit p { flitType := 3 }

/-! ### Bodies -/

/-- The body of a hello behind its kind byte (R687). In requested Isolation it reports id_valid = 0 (R802). -/
def State.helloBody (s : State) (p : Nat) : List Byte :=
  let t := s.tile p
  let r := s.routing
  let valid := r.idValid && s.hearth.mode != .isolated
  leBytes 3 0 ++ leBytes 4 (packFields [(17, r.moduleId.toNat), (1, bnat valid), (6, p), (2, t.maxRate.toNat)]) ++
  leBytes 1 t.selfGood.toNat ++ leBytes 1 (packFields [(1, bnat (4 ≤ t.syncRun)), (1, bnat t.fenced)]) ++
  leBytes 1 (match t.propRate with
    | some (c, _) => packFields [(2, c.toNat), (1, 1)]
    | none => 0) ++ leBytes 1 0 ++
  leBytes 4 (match t.propRate with
    | some (_, f) => f.toNat
    | none => 0) ++ leBytes 2 t.nonce.toNat

/-- The body of a congestion summary behind its kind byte (R688). -/
def State.summaryBody (s : State) : List Byte :=
  leBytes 1 (idMember s.routing.moduleId) ++
  leBytes 24 (packFields ((List.range 48).map fun i => (4, s.level (15 + i)))) ++
  leBytes 8 (packFields ((List.range 15).map fun i => (4, s.level i)))

/-- The body of a TC3 chunk report behind its kind byte (R689). -/
def Tile.chunkBody (t : Tile) : List Byte :=
  leBytes 3 0 ++ (List.range 8).flatMap fun i => leBytes 3 (t.txLane (24 + i)).sent.toNat

/-- Send a shoe flit (R690): action, and the step it speaks of. -/
def State.sendShoe (s : State) (p action : Nat) (step : Nat × BitVec 8 × BitVec 8) (id : BitVec 32) (frame : BitVec 24) : State :=
  s.sendLink p 4 (leBytes 1 action ++ leBytes 1 step.1 ++ leBytes 1 0 ++ leBytes 4 id.toNat ++ leBytes 1 step.2.1.toNat ++
    leBytes 1 step.2.2.toNat ++ leBytes 2 0 ++ leBytes 4 frame.toNat)

/-- The body of a time-exchange flit (R216). -/
def State.exchangeBody (s : State) (p : Nat) (seq : BitVec 16) : List Byte :=
  let l := (s.tile p).time
  let prev := ((l.txTimes.find? fun e => e.1 == seq - 1).map (·.2.1)).getD 0
  let (rxSeq, rxTime) := match l.prevRx with
    | some (m, _, _, a2, _) => (m, a2)
    | none => (0, 0)
  leBytes 2 seq.toNat ++ leBytes 2 rxSeq.toNat ++ leBytes 8 prev.toNat ++ leBytes 8 rxTime.toNat ++
  leBytes 4 (packFields [(17, s.time.masterId.toNat), (2, s.time.ownClass.toNat), (4, s.time.steps.toNat)]) ++
  leBytes 1 s.time.masterPrio.toNat ++ leBytes 7 0 ++ leBytes 8 (l.asym.signExtend 64).toNat ++ leBytes 8 0

/-! ### Exchanges (R218-R221) and credit sizing (R182) -/

/-- rtt_chunks of R182 for a delay in ticks. -/
def rttChunksFor (t : Tile) : Nat := ceilDiv (375 * width4 t * (2 * t.time.linkDelay.toNat + 19200)) 65536

/-- The tile recomputes rtt_chunks; a need above vl_cap is a Notice (R182). A need above the field's 15 bits reads as
32,767 (DESIGN CHOICE, assumption log 112). -/
def State.resize (s : State) (p : Nat) : State :=
  let n := rttChunksFor (s.tile p)
  let short := decide ((s.tile p).vlCap.toNat < n)
  let was := (s.tile p).rttShort
  let s := s.modTile p fun t => { t with rttChunks := BitVec.ofNat 15 (min n 32767), rttShort := short }
  if short && !was then s.raiseAt (16 * p + 13) p else s

/-- The mean of doubled delays, to the nearest tick (R219). -/
def meanDelay (l : List Int) : Nat :=
  if l.isEmpty then 0 else ((l.foldl (· + ·) 0 + l.length) / (2 * l.length : Int)).toNat

/-- Accept a doubled delay (R219, R221): a jump of 64 ticks or more is discarded and counted; the sixteenth in a row is
adopted with a Notice. The Bool says whether the exchange counts. -/
def State.takeDelay (s : State) (p : Nat) (d2 : Int) : State × Bool :=
  let l := (s.tile p).time
  let jump := !l.delays2.isEmpty && decide (128 ≤ (d2 - 2 * (l.linkDelay.toNat : Int)).natAbs)
  if jump && l.jumpRun + 1 < 16 then
    (s.modTile p fun t => { t with time := { t.time with delayJump := satInc l.delayJump, jumpRun := l.jumpRun + 1 } }, false)
  else
    let ds := if jump then [d2] else (l.delays2 ++ [d2]).drop (l.delays2.length + 1 - 16)
    let mean := BitVec.ofNat 24 (meanDelay ds)
    let report := decide (64 ≤ ((mean.toNat : Int) - (l.reported.toNat : Int)).natAbs)
    let s := s.modTile p fun t =>
      { t with time := { t.time with delays2 := ds, linkDelay := mean, jumpRun := 0,
                                     delayJump := if jump then satInc l.delayJump else l.delayJump,
                                     reported := if report then mean else l.reported } }
    let s := if jump then s.raiseAt (16 * p + 14) p else s
    (if report then s.resize p else s, !jump)

/-- A time-exchange flit arrives (R212, R213, R217-R221, R223): the advertisement, the offset and delay of the exchange
it completes, and on the parent port the servo. An exchange whose timestamps straddle a path shift is discarded. -/
def State.exchange (s : State) (p : Nat) (b : List Byte) : State :=
  let f := fun o n => leAt b o n
  let l := (s.tile p).time
  let seq : BitVec 16 := BitVec.ofNat 16 (f 0 2)
  let word := f 20 4
  let a2 := s.time.now - BitVec.ofInt 64 l.rxCorr
  let old := l.prevRx
  let master : ModId := BitVec.ofNat 17 (fieldAt word 0 17)
  let cls : BitVec 2 := BitVec.ofNat 2 (fieldAt word 17 2)
  let steps : BitVec 4 := BitVec.ofNat 4 (fieldAt word 19 4)
  let prio : BitVec 8 := BitVec.ofNat 8 (f 24 1)
  let fewer := s.time.parent.any fun q =>
    let x := (s.tile q).time
    q != p && masterKey cls prio master == x.key && decide (steps.toNat < x.advSteps.toNat)
  let s := s.modTile p fun t =>
    { t with time := { t.time with
        advMaster := master, advClass := cls, advSteps := steps, advPrio := prio,
        fewerRun := if fewer then t.time.fewerRun + 1 else 0,
        prevRx := some (seq, BitVec.ofNat 16 (f 2 2), BitVec.ofNat 64 (f 12 8), a2, l.shifts) } }
  match old with
  | none => s.elect
  | some (m, n, b1, a2, shifts2) =>
    match l.txTimes.find? (fun e => e.1 == n) with
    | none => s.elect
    | some (_, a1, shifts1) =>
      if seq != m + 1 || shifts1 != shifts2 then s.elect
      else
        let s := s.modTile p fun t => { t with time := { t.time with delivered := true } }
        let b2 : Ticks := BitVec.ofNat 64 (f 4 8)
        let up := (b1 - a1).toInt
        let down := (a2 - b2).toInt
        let asym2 := l.asym.toInt - (BitVec.ofNat 64 (f 32 8)).toInt
        match s.takeDelay p (up + down) with
        | (s, false) => s.elect
        | (s, true) =>
          let s := s.elect
          if s.time.parent = some p then s.servoTake ((up - down + asym2) * 2147483648) 4096 else s

end Sys2Proof.Machine
end

