-- ==== Sys2Proof/Machine/Link.lean ====
section
/-! DEFINITION. Commands of a fabric port's lanes and link layer: frames received, training, rate steps, eye scans, Shoeing,
and the periodic flits (02, 03, 04, 05, 17). -/

namespace Sys2Proof.Machine

open Sys2Proof

/-! ### Packets out of data flits (R71, R93, R94, R119) -/

/-- Give arriving bytes to every queued piece of the packet that port p's lane v is receiving; the last bytes complete it
with the trailer's fields. -/
def State.feedQueued (s : State) (p v : Nat) (c : List Byte) (whole : Option Packet) : State :=
  let f := fun (q : QPkt) =>
    if q.inPort = some p ∧ q.inVl = v ∧ !q.complete then
      let q := { q with rest := q.rest ++ c }
      match whole with
      | none => q
      | some w =>
        { q with complete := true,
                 pkt := { q.pkt with payload := w.payload, sealWord := w.sealWord, e2eSeq := w.e2eSeq, pktIndex := w.pktIndex,
                                     first := w.first, last := w.last, poisoned := w.poisoned, resent := w.resent,
                                     resvT := w.resvT } }
    else q
  { s with
    tiles := tmap s.tiles fun _ t => { t with egress := t.egress.map f },
    routing := { s.routing with waiting := s.routing.waiting.map f } }

/-- A header is whole (R94, R119): discard it, or place its packet. A packet with mcast = 1 that may not be multicast is
discarded and counted (R158), and a TC0-TC2 one draws the FAULT of R142 at its end. -/
def State.headerIn (s : State) (p v : Nat) (hdr : Packet) : State :=
  if headerMalformed hdr v then
    (s.modTile p fun t =>
      { t with retry := { t.retry with discards := t.retry.discards + 1 },
               rx := (t.modRx v fun l => { l with skip := true, buf := [], need := 0, occ := l.occ - 2 }).rx }).raiseAt (16 * p + 9) p
  else
    let badCast := hdr.mcast && (hdr.addrForm || hdr.tc == 3 || (hdr.pktType != 0x01 && hdr.pktType != 0x09))
    let bad63 := p == 63 && hdr.tc != 3
    let s := s.modTile p fun t => t.modRx v fun l => { l with need := 16 * chunksOf hdr, localTo := p == 63 && !bad63 }
    let away := fun (s : State) (why : List (Nat × Nat × Bool)) => s.modTile p fun t => t.modRx v fun l => { l.drop with why }
    if bad63 then
      (away { s with routing := { s.routing with discards := s.routing.discards + 1 } } []).raiseAt 1017 63
    else if badCast then
      away { s.count 0x0023 p (v / 8) 1 with routing := { s.routing with mcDiscards := s.routing.mcDiscards + 1 } } [(1, 0x7ff, false)]
    else if p = 63 then s
    else
      let q : QPkt := { pkt := hdr, inPort := some p, inVl := v, since := s.time.now, complete := false }
      if s.routing.waiting.any (sameLane q) then { s with routing := { s.routing with waiting := s.routing.waiting ++ [q] } }
      else
        match s.place q with
        | (s, none) => s
        | (s, some w) => { s with routing := { s.routing with waiting := s.routing.waiting ++ [w] } }

/-- The last chunk of a packet is in: complete its queued pieces, send the FAULTs that its discards owe, deliver it here. -/
def State.packetIn (s : State) (p v : Nat) (c bytes : List Byte) : State :=
  let l := (s.tile p).rxLane v
  let w := { packetOf bytes with cast := l.cast }
  let s := s.count 0x8001 p (v / 8) (48 + w.payloadLen.toNat)
  let s := s.feedQueued p v c (some w)
  let s := s.modTile p fun t => t.modRx v fun l =>
    { l with buf := [], need := 0, localTo := false, discard := false, why := [], freed := 0, cast := none }
  let s := l.why.foldl (fun s e => s.sendFault e.1 e.2.1 e.2.2 w) s
  if l.localTo && !l.discard then
    let q : QPkt := { pkt := w, inPort := some p, inVl := v, since := s.time.now }
    match s.deliverOrWait q with
    | (s, none) => s
    | (s, some x) => { s with routing := { s.routing with waiting := s.routing.waiting ++ [x] } }
  else s

/-- One chunk of a lane's bytes. -/
def State.feedChunk (s : State) (p v : Nat) (c : List Byte) : State :=
  let l := (s.tile p).rxLane v
  if l.skip then s.release (some p) v 1
  else
    let buf := l.buf ++ c
    let s := s.modTile p fun t => t.modRx v fun l =>
      if l.discard then { l with buf, occ := l.occ - 1, freed := l.freed + 1 } else { l with buf }
    if l.need = 0 then
      (if buf.length = 32 then s.headerIn p v (headerOf buf) else s)
    else if buf.length = l.need then s.packetIn p v c buf
    else s.feedQueued p v c none

/-- Cut bytes into n chunks of 16. -/
def chunksIn : Nat → List Byte → List (List Byte)
  | 0, _ => []
  | n + 1, bs => bs.take 16 :: chunksIn n (bs.drop 16)

/-- Accept the body of a data flit (R71, R94, R174): credit accounting, then its chunks in order. A skipping lane resumes
at first_start. -/
def State.acceptBody (s : State) (p : Nat) (f : Flit) : State :=
  let v := f.vl.toNat
  let n := f.validChunks.toNat
  let s := (s.count 0x0011 p (v / 8) 1).modTile p fun t =>
    let t := t.modRx v fun l => { l with occ := l.occ + n, out := l.out - n, arrived := l.arrived + BitVec.ofNat 24 n, busy := true }
    let l := t.rxLane v
    if l.out < 259 ∧ l.limit < t.vlCap.toNat ∧ 512 ≤ t.poolFree
    then t.modRx v fun l => { l with limit := min t.vlCap.toNat (l.limit + 512) } else t
  let cs := chunksIn n (sliceBytes f.body 0 240)
  let fs := f.firstStart.toNat
  if ((s.tile p).rxLane v).skip then
    if fs = 15 then s.release (some p) v n
    else
      let s := (s.release (some p) v (min fs n)).modTile p fun t => t.modRx v fun l => { l with skip := false, buf := [], need := 0 }
      (cs.drop fs).foldl (fun s c => s.feedChunk p v c) s
  else cs.foldl (fun s c => s.feedChunk p v c) s

/-! ### The fields and the kinds of a flit -/

/-- The credit field (R176). -/
def State.takeCredit (s : State) (p : Nat) (f : Flit) : State :=
  s.modTile p fun t =>
    let v := f.creditVl.toNat
    let d := (f.creditCount - (t.txLane v).last).toNat
    { t.modTx v (fun l => { l with credit := l.credit + d, last := f.creditCount }) with
      sentUnreturned := if v < 24 then t.sentUnreturned - 16 * d else t.sentUnreturned }

/-- The acknowledgement field (R70, R78, R79): an acknowledgement of an unsent flit, or a replay request beyond the next,
is a link protocol error. -/
def State.takeAck (s : State) (p : Nat) (f : Flit) : State :=
  let r := (s.tile p).retry
  if f.flitType = 3 then
    if serialLt r.nextTx f.ackSeq then s.retrain p (some (16 * p + 2)) (16 * p + 2)
    else
      let s := s.ackBefore p f.ackSeq
      match (s.tile p).retry.kept with
      | k :: _ => if k.seq = f.ackSeq then s.replay p else s
      | [] => s
  else if f.ackValid then
    if serialLt f.ackSeq r.nextTx then s.ackBefore p (f.ackSeq + 1)
    else s.retrain p (some (16 * p + 2)) (16 * p + 2)
  else s

/-- The rate both ends may reach (R681). -/
def Tile.agreed (t : Tile) : BitVec 2 := if t.farMaxRate.toNat < t.maxRate.toNat then t.farMaxRate else t.maxRate

/-- The next rate to propose (R681): straight to the agreed one when fixed_rate is set. -/
def Tile.nextRate (t : Tile) : BitVec 2 := if t.fixedRate then t.agreed else t.rate + 1

/-- Whether this end leads (R681): the lower of (id_valid, module, port, nonce), id_valid = 1 counting as lower. -/
def State.leads (s : State) (p : Nat) : Bool :=
  let t := s.tile p
  let key := fun (v : Bool) (m : ModId) (q : Nat) (n : BitVec 16) => ((bnat (!v) * 131072 + m.toNat) * 64 + q) * 65536 + n.toNat
  decide (key (s.routing.idValid && s.hearth.mode != .isolated) s.routing.moduleId p t.nonce < key t.farIdValid t.farModule t.farPort.toNat t.farNonce)

/-- The hello phase or a rate step is over: on to the next step, or Up (R679, R681). -/
def State.stepOrUp (s : State) (p : Nat) : State :=
  let t := s.tile p
  if t.rate.toNat < t.agreed.toNat then s.modTile p fun t => { t with linkState := .step, propRate := none, qualifying := false }
  else s.reachUp p

/-- A hello (R42-R46, R679, R681, R687). -/
def State.hello (s : State) (p : Nat) (b : List Byte) : State :=
  let w := leAt b 4 4
  let old := s.tile p
  let flags := leAt b 9 1
  let prop := leAt b 10 1
  let s := s.modTile p fun t =>
    { t with helloSeen := true, farModule := BitVec.ofNat 17 (fieldAt w 0 17), farIdValid := fieldAt w 17 1 == 1,
             farPort := BitVec.ofNat 6 (fieldAt w 18 6), farMaxRate := BitVec.ofNat 2 (fieldAt w 24 2),
             farGood := BitVec.ofNat 8 (leAt b 8 1), farFenced := fieldAt flags 1 1 == 1,
             farNonce := BitVec.ofNat 16 (leAt b 16 2),
             propRate := if fieldAt prop 2 1 = 1 ∧ t.linkState = .step ∧ !t.qualifying
               then some (BitVec.ofNat 2 (fieldAt prop 0 2), BitVec.ofNat 24 (leAt b 12 3)) else t.propRate,
             hellos := if t.linkState = .hello then t.hellos + 1 else t.hellos }
  let t := s.tile p
  let s := if !old.helloSeen || t.farModule != old.farModule || t.farIdValid != old.farIdValid || t.farPort != old.farPort ||
      t.farFenced != old.farFenced then s.checkIdentity p else s
  let s := if t.linkState = .hello ∧ 8 ≤ t.hellos then s.stepOrUp p else s
  s.elect.bringupExit

/-- A congestion summary (R134, R688). -/
def State.takeSummary (s : State) (b : List Byte) : State :=
  let a := leAt b 2 24
  let g := leAt b 26 8
  let levels := ((List.range 15).map fun i => BitVec.ofNat 4 (fieldAt g (4 * i) 4)) ++
    ((List.range 48).map fun i => BitVec.ofNat 4 (fieldAt a (4 * i) 4))
  let all := tset s.routing.summaries (leAt b 1 1 % 16) { at_ := s.time.now, levels }
  { s with routing := { s.routing with summaries := all } }

/-- A TC3 chunk report (R179). -/
def State.takeChunks (s : State) (p : Nat) (b : List Byte) : State :=
  s.modTile p fun t => (List.range 8).foldl (fun t i =>
    let v := 24 + i
    let rep : BitVec 24 := BitVec.ofNat 24 (leAt b (4 + 3 * i) 3)
    let lost := (rep - (t.rxLane v).arrived).toNat
    if lost = 0 then t
    else { t.modRx v (fun l => { l with out := l.out - lost, arrived := rep }) with tc3Resync := satInc t.tc3Resync }) t

/-! ### Shoeing (R695-R700) -/

/-- A Shoeing ends: shoeing and shod clear, the port is usable again (R147 steps 6 and 7). -/
def State.clearShoe (s : State) (p : Nat) : State :=
  (s.modTile p fun t => { t with shoe := none, shoeing := false, shod := false, soleUse := false, inStep := false }).settle

/-- Ask for a step (R695 step 1). -/
def State.startShoe (s : State) (p : Nat) : State :=
  let t := s.tile p
  match t.wantStep, t.shoe with
  | some (kind, lanes), none =>
    if t.linkState = .up then
      let (preset, s) := if kind = 1 then s.drawFree 16 else (0, s)
      let step := (kind, lanes, BitVec.ofNat 8 preset)
      (s.modTile p fun t =>
        { t with shoe := some { shoeId := t.nextShoeId, own := some step }, nextShoeId := t.nextShoeId + 1, shoeing := true,
                 shoeRetry := false }).sendShoe p 1 step t.nextShoeId 0
    else s
  | _, _ => s

/-- The lane mask of a width code for lanes. -/
def widthCode (mask : BitVec 8) : BitVec 2 :=
  ((widthGroups.find? fun g => g.1 == mask.toNat).map (·.2)).getD 0

/-- Lanes of a tile take the active set of a mask (R703). -/
def Tile.activate (t : Tile) (mask : BitVec 8) : Tile :=
  { t with lanesActive := mask, width := widthCode mask,
           lanes := (List.range 8).foldl (fun ls k =>
             tmod ls k {} fun l => { l with active := bit mask k, excluded := !bit mask k }) t.lanes }

/-- Both step_done are held (R695 step 7, R705): counts, lanes stepped, width changed with its Notice, Shoeing cleared. -/
def State.shoeFinish (s : State) (p : Nat) : State :=
  match (s.tile p).shoe with
  | none => s
  | some sh =>
    if !(sh.selfDone && sh.farDone) then s
    else
      let widths := ([sh.own, sh.far].filterMap id).filter fun x => x.1 == 3
      let s := s.modTile p fun t =>
        let t := { t with shoeSteps := satInc t.shoeSteps }
        let t := match sh.own with
          | some (k, m, _) =>
            { t with wantStep := none, scanFirst := (List.range 8).filter (fun i => bit m i || k = 3),
                     lanes := tmap t.lanes fun i l => if bit m i || k = 3 then { l with lastStep := k, lastStepAt := s.time.now } else l }
          | none => t
        match widths with
        | [] => t
        | (_, m, _) :: _ =>
          let t' := t.activate m
          { t' with widthChanges := satInc t.widthChanges,
                    lanes := tmap t'.lanes fun i l =>
                      if l.active && !bit t.lanesActive i then { l with restoredAt := some s.time.now } else l }
      let s := if widths.isEmpty then s else ((s.raiseAt (16 * p + 13) p).resize p).trainExcluded p
      s.clearShoe p

/-- Send begin when the requester holds its own shod and the far end's (R695 step 4). -/
def State.shoeBegin (s : State) (p : Nat) : State :=
  let t := s.tile p
  match t.shoe with
  | some sh =>
    match sh.own with
    | some step =>
      if t.shod && sh.farShod && sh.begin_.isNone then
        let frame := t.txFrame + 32
        (s.modTile p fun t => { t with shoe := some { sh with begin_ := some frame } }).sendShoe p 3 step sh.shoeId frame
      else s
    | none => s
  | none => s

/-- A shoe flit (R690, R695-R700). -/
def State.shoeFlit (s : State) (p : Nat) (b : List Byte) : State :=
  let t := s.tile p
  let action := leAt b 1 1
  let step : Nat × BitVec 8 × BitVec 8 := (leAt b 2 1, BitVec.ofNat 8 (leAt b 8 1), BitVec.ofNat 8 (leAt b 9 1))
  let sid : BitVec 32 := BitVec.ofNat 32 (leAt b 4 4)
  let set := fun (f : Shoe → Shoe) => s.modTile p fun t => { t with shoe := t.shoe.map f }
  match action with
  | 1 =>
    match t.shoe with
    | some _ => set fun sh => { sh with far := some step }
    | none =>
      let busy := (s.tiles.filter fun e => e.2.shoeing).length
      if 2 ≤ busy || t.fenced || t.linkState != .up then s.sendShoe p 5 step sid 0
      else s.modTile p fun t => { t with shoe := some { shoeId := sid, far := some step }, shoeing := true }
  | 2 => (set fun sh => { sh with farShod := true }).shoeBegin p
  | 3 =>
    let frame : BitVec 24 := BitVec.ofNat 24 (leAt b 12 3)
    set fun sh => { sh with begin_ := match sh.begin_ with
      | some x => some (if serialLt frame x then frame else x)
      | none => some frame }
  | 4 => (set fun sh => { sh with farDone := true }).shoeFinish p
  | 5 =>
    match t.shoe with
    | some sh => if sh.own.isSome then (s.clearShoe p).modTile p fun t => { t with shoeRetry := true } else s
    | none => s
  | 6 => if t.shoe.isSome then s.clearShoe p else s
  | _ => s

/-! ### Receiving a frame -/

/-- A link-management flit (R686). -/
def State.linkFlit (s : State) (p : Nat) (b : List Byte) : State :=
  match leAt b 0 1 with
  | 1 => s.hello p b
  | 2 => s.takeSummary b
  | 3 => s.takeChunks p b
  | 4 => s.shoeFlit p b
  | 5 => if (s.tile p).linkState = .up then s.retrain p (some (16 * p + 12)) (16 * p + 12) else s
  | _ => (s.modTile p fun t => { t with retry := { t.retry with discards := t.retry.discards + 1 } }).raiseAt (16 * p + 9) p

/-- A flit that fails, or n flits of a bad frame (R74, R84, R178, R180): TC3 packets end, a replay request, and after more
than 30 in a row a retrain. -/
def State.badFlits (s : State) (p n : Nat) : State :=
  let s := (s.modTile p fun t => { t with retry := { t.retry with badRun := if t.inStep then 0 else t.retry.badRun + n } }).raiseAt (16 * p) p
  let s := (s.endPartial p fun v => 24 ≤ v).nak p
  if 30 < (s.tile p).retry.badRun && (s.tile p).linkState == .up then s.retrain p (some (16 * p + 11)) (16 * p + 11) else s

/-- A flit whose CRC passes (R69, R70, R74, R84). -/
def State.goodFlit (s : State) (p : Nat) (f : Flit) : State :=
  let s := s.modTile p fun t => { t with retry := { t.retry with badRun := 0 } }
  let s := if (s.tile p).linkState = .up then (s.takeCredit p f).takeAck p f else s
  let t := s.tile p
  let up := t.linkState == .up
  match f.flitType.toNat with
  | 0 | 3 => s
  | 1 =>
    if !up || t.fenced then s
    else if f.linkSeq = t.retry.expected then
      (s.modTile p fun t => { t with idleRun := false, retry := { t.retry with expected := t.retry.expected + 1, accepted := true,
                                                                               ackOwed := t.retry.ackOwed + 1 } }).mendOver p |>.acceptBody p f
    else (s.modTile p fun t => { t with retry := { t.retry with discards := t.retry.discards + 1 } }).nak p
  | 2 => if !up || t.fenced then s else (s.modTile p fun t => { t with idleRun := false }).acceptBody p f
  | 4 => if up then s.exchange p (sliceBytes f.body 0 240) else s
  | 5 => s.linkFlit p (sliceBytes f.body 0 240)
  | _ => (s.modTile p fun t => { t with retry := { t.retry with discards := t.retry.discards + 1 } }).raiseAt (16 * p + 9) p

/-- The frame control field (R64, R682): four frames in a row with a wrong frame_sync or frame_count retrain a trained
port; four with frame_sync right end the align phase (R679). -/
def State.frameControl (s : State) (p : Nat) (f : RxFrame) : State :=
  let t := s.tile p
  let okCount := match t.retry.lastCount with
    | some c => rxCount f == c + 1
    | none => true
  let sync := rxSync f == 0xb5
  let bad := if (sync && okCount) || t.inStep then 0 else t.retry.frameBad + 1
  let s := s.modTile p fun t =>
    { t with retry := { t.retry with frameBad := bad, lastCount := some (rxCount f) },
             syncRun := if sync then t.syncRun + 1 else 0 }
  if t.linkState = .up ∧ 4 ≤ bad then s.retrain p (some (16 * p + 12)) (16 * p + 12)
  else if t.linkState = .align ∧ 4 ≤ (s.tile p).syncRun then
    let (n, s) := s.drawFree 65536
    s.modTile p fun t => { t with linkState := .hello, hellos := 0, nonce := BitVec.ofNat 16 n }
  else s

/-- The frame in progress leaves, filled up with idle flits: both directions of a trained link run at one rate, so a frame
goes out for each that comes in (R62; assumption log 22). -/
def State.frameOut (s : State) (p : Nat) : State :=
  let t := s.tile p
  if t.inStep || t.linkState == .detect || t.linkState == .map || t.linkState == .test then s else s.closeFrame p

/-- A whole FEC frame (R65). Ports that train without frames ignore it; in test only its symbol errors count (R685). An
accepted sequenced flit is acknowledged by the frame that goes out at the latest (R76). -/
def State.frameIn (s : State) (port : Nat) (frame : RxFrame) : State :=
  let t := s.tile port
  if t.linkState = .detect ∨ t.linkState = .map then s
  else
    let s := s.modTile port fun t =>
      { t with lanes := frame.laneErrs.foldl (fun ls e => tmod ls e.1 {} fun l => { l with corrected := satAdd l.corrected e.2 }) t.lanes }
    if t.linkState = .test then s
    else
      let s := s.frameControl port frame
      let s := if uncorrectable frame then
          ((s.count 0x0013 port 0 1).modTile port fun t => { t with retry := { t.retry with frameErrs := t.retry.frameErrs + 1 } }).badFlits port 10
        else (rxFlits frame).foldl (fun s f => if flitOk f then s.goodFlit port f else s.badFlits port 1) s
      s.relook.frameOut port

/-- R673: at a Freewheel block each lane's elastic buffer of 512 symbols drops the block when more than half full. -/
def execFreewheelBlock (port : Nat) (fill : List Nat) (s : State) : Host.Outcome State Fault Refusal :=
  let t := s.tile port
  let per := 272 / lanesOfWidth t.width
  .next ((if fill.any (256 < ·) then s.count 0x0014 port 0 1 else s).modTile port fun t =>
    { t with freewheels := t.freewheels + 1, elastic := fill.map fun n => if 256 < n then n - per else n })

/-! ### Training -/

/-- Locked lanes of a tile as (physical, carried number). -/
def Tile.locked (t : Tile) : List (Nat × Nat) :=
  t.lanes.filterMap fun e => if 16 ≤ e.2.lockRun then some (e.1, e.2.physLane.toNat) else none

/-- The map phase judges lane order and width (R676, R678, R679): a pattern that is neither straight nor reversed is a
lane-order fault; when no lane is part way to lock and both ends are done the align phase begins, and with it the frames, or in Diagnostic
the test that the port's test bit asks for (R685). -/
def State.judgeMap (s : State) (p : Nat) : State :=
  let t := s.tile p
  let lk := t.locked
  let straight := lk.all fun e => e.2 == e.1
  let rev := lk.all fun e => e.2 == 7 - e.1
  if lk.isEmpty then s
  else if !straight && !rev then s.raiseAt (16 * p + 13) p
  else
    let good := lk.foldl (fun m e => if (tgetD t.lanes e.1 {}).good then m ||| 2 ^ e.2 else m) 0
    let s := s.modTile p fun t => { t with reversed := !straight, selfGood := BitVec.ofNat 8 good }
    let t := s.tile p
    let settled := t.lanes.all fun e => e.2.lockRun == 0 || 16 ≤ e.2.lockRun
    match chooseWidth t.allowDegrade t.selfGood t.farGood with
    | some (m, w) =>
      if settled && t.farMapDone then
        if s.hearth.mode == .diagnostic && t.test then
          (s.modTile p fun t => { t.activate (BitVec.ofNat 8 m) with linkState := .test, rate := t.maxRate }).trainLanes p 3 (List.range 8)
        else
          ((s.modTile p fun t => { t.activate (BitVec.ofNat 8 m) with linkState := .align, width := w, syncRun := 0 }).trainExcluded p).closeFrame p
      else s
    | none => s

/-- R674, R675: a training block on a physical receive lane; one without the marker breaks the lane's run. On a trained port, phases 0 and 1 mean that the far end retrains;
phase 2 is an excluded lane's (R704). -/
def execTrainingBlock (port lane : Nat) (block : TrainBlock) (s : State) : Host.Outcome State Fault Refusal :=
  let t := s.tile port
  let mark := fun (t : Tile) =>
    { t with farGood := if block.marked then block.rxGood else t.farGood,
             farMapDone := if block.marked then block.mapDone else t.farMapDone,
             farMaxRate := if block.marked then block.maxRate else t.farMaxRate,
             rxInverted := if !block.marked then t.rxInverted else if block.inverted then t.rxInverted ||| BitVec.ofNat 8 (2 ^ lane)
               else t.rxInverted &&& ~~~(BitVec.ofNat 8 (2 ^ lane)),
             lanes := tmod t.lanes lane {} fun l =>
               if block.marked then
                 { l with lockRun := l.lockRun + 1, inverted := block.inverted, physLane := block.lane, good := decide (block.skewNs ≤ 16) }
               else { l with lockRun := 0, good := false } }
  match t.linkState with
  | .detect =>
    let s := if s.fabricTrains port then s.modTile port mark else s
    .next (if s.fabricTrains port && 16 ≤ (tgetD (s.tile port).lanes lane {}).lockRun
      then ((s.modTile port fun t => { t with linkState := .map }).sendTraining port 0).judgeMap port else s)
  | .map => if t.backoff then .next s else .next ((s.modTile port mark).judgeMap port)
  | .test => .next s
  | _ =>
    if !block.marked then .next s
    else if block.phase = 2 then
      .next (s.modTile port fun t => { t with lanes := tmod t.lanes lane {} fun l => { l with lockRun := l.lockRun + 1, good := true } })
    else if t.inStep || t.qualifying || t.linkState != .up then .next s
    else .next (s.retrain port (some (16 * port + 12)) (16 * port + 12))

/-- R682: a receive lane loses lock outside a step: an active lane's port retrains, an excluded lane starts again. -/
def execLaneLockLoss (port lane : Nat) (s : State) : Host.Outcome State Fault Refusal :=
  let t := s.tile port
  if (tgetD t.lanes lane {}).excluded then
    .next (s.modTile port fun t => { t with lanes := tmod t.lanes lane {} fun l => { l with lockRun := 0, good := false } })
  else if t.linkState = .up ∧ !t.inStep then .next (s.retrain port (some (16 * port + 12)) (16 * port + 12))
  else .next (s.modTile port fun t => { t with lanes := tmod t.lanes lane {} fun l => { l with lockRun := 0, good := false } })

/-- R679, R684: a phase exceeds its limit; the third failure in a row, and every hundredth after it, is a Notice, and each
further attempt waits. -/
def execTrainingPhaseTimeout (port : Nat) (s : State) : Host.Outcome State Fault Refusal :=
  let t := s.tile port
  if t.linkState = .map ∨ t.linkState = .align ∨ t.linkState = .hello ∨ t.linkState = .step then
    let n := t.failures + 1
    let s := (s.modTile port fun t => { t with failures := n, backoff := decide (3 ≤ n) }).startMap port
    let s := if n = 3 ∨ (3 < n ∧ (n - 3) % 100 = 0) then s.raiseAt (16 * port + 13) port else s
    .next s.bringupExit
  else .next s

/-- R684: the 1 s wait ends and training is tried again. -/
def execTrainingBackoffExpiry (port : Nat) (s : State) : Host.Outcome State Fault Refusal :=
  .next (if (s.tile port).backoff then (s.modTile port fun t => { t with backoff := false }).startMap port else s)

/-- R681: at the switch frame both ends move to the proposed rate and equalise. -/
def execRateStepSwitch (port : Nat) (s : State) : Host.Outcome State Fault Refusal :=
  let t := s.tile port
  match t.propRate with
  | some (c, _) =>
    if t.linkState = .step then
      .next ((s.modTile port fun t => { t with prevRate := t.rate, rate := c, propRate := none, qualifying := true, syncRun := 0 }).sendTraining port 1)
    else .next s
  | none => .next s

/-- R681: the qualifying time ends: the rate holds, or the port falls back with a Notice and stepping ends. -/
def execRateQualifyEnd (port : Nat) (uncorrectable ratioExceeded : Bool) (eyeWidths : List Nat) (s : State) :
    Host.Outcome State Fault Refusal :=
  let t := s.tile port
  if !t.qualifying || t.linkState != .step then .next s
  else if !uncorrectable && !ratioExceeded && eyeWidths.all (fun w => t.marginFloor.toNat ≤ w) then
    .next ((s.modTile port fun t => { t with qualifying := false }).stepOrUp port)
  else
    .next (((s.modTile port fun t => { t with qualifying := false, rate := t.prevRate }).raiseAt
      (16 * port + 13) port).reachUp port)

/-! ### Margins -/

/-- The widest group without a lane whose lanes are all good (R703), other than the present set. -/
def Tile.without (t : Tile) (lane : Nat) : Option Nat :=
  (widthGroups.find? fun g => !g.1.testBit lane && g.1 &&& (t.selfGood &&& t.farGood).toNat == g.1 && g.1 != t.lanesActive.toNat).map (·.1)

/-- Whether a lane's scan may end now (R693): active lanes are scanned one at a time in ascending order, one that has just taken a step
next, all at once in an idle run; an excluded lane on its training blocks. -/
def Tile.scans (t : Tile) (lane : Nat) : Bool :=
  let active := (List.range 8).filter fun k => bit t.lanesActive k
  let next := match t.scanFirst.find? active.contains with
    | some k => some k
    | none => (active.find? fun k => (t.scanAt.map fun a => decide (a < k)).getD true).or active.head?
  (tgetD t.lanes lane {}).excluded || (active.contains lane && (t.idleRun || next == some lane))

/-- R692-R694: an eye scan ends; its margin may call for a step. In an idle run a lane within 4 of the floor takes a kind 1 step
at most once in 10 s (R702); a lane that falls below within 1 min of being restored counts a failure (R704). -/
def execEyeScanComplete (port lane : Nat) (width height : BitVec 6) (s : State) : Host.Outcome State Fault Refusal :=
  if !(s.tile port).scans lane then .next s else
  let t := s.tile port
  let l := tgetD t.lanes lane {}
  let now := s.time.now
  let below := decide (width.toNat < t.marginFloor.toNat)
  let failed := below && (match l.restoredAt with
    | some r => decide ((now - r).toNat < 60 * secTicks)
    | none => false)
  let since := (now - l.lastStepAt).toNat
  let kind : Option (Nat × Nat) :=
    if !l.active then none
    else if below then
      match l.lastStep, (if t.allowDegrade then t.without lane else none) with
      | 1, _ => some (2, 2 ^ lane)
      | 2, some m => some (3, m)
      | _, _ => if l.lastStepAt = 0 ∨ ms 100 ≤ since then some (1, 2 ^ lane) else none
    else if t.idleRun && decide (width.toNat < t.marginFloor.toNat + 4) && (l.lastStepAt == 0 || 10 * secTicks ≤ since)
      then some (1, 2 ^ lane) else none
  let s := s.modTile port fun t =>
    { t with scanAt := if l.active then some lane else t.scanAt, scanFirst := t.scanFirst.erase lane, lanes := tmod t.lanes lane {} fun l =>
        { l with eyeWidth := width, eyeHeight := height, scans := l.scans + 1, lastStep := if below then l.lastStep else 0,
                 restoreFails := if failed then l.restoreFails ++ [now] else l.restoreFails,
                 restoredAt := if failed then none else l.restoredAt } }
  match kind with
  | none => .next s
  | some (k, m) => .next ((s.modTile port fun t => { t with wantStep := some (k, BitVec.ofNat 8 m) }).startShoe port)

/-- R694: a lane stays below critical_margin for 1 ms and its port retrains. -/
def execMarginCriticalExpiry (port lane : Nat) (s : State) : Host.Outcome State Fault Refusal :=
  let t := s.tile port
  if t.linkState = .up ∧ (tgetD t.lanes lane {}).eyeWidth.toNat < t.criticalMargin.toNat
  then .next (s.retrain port (some (16 * port + 12)) (16 * port + 12)) else .next s

/-! ### Shoeing commands -/

/-- R147: the tile sets shod when its queues are empty, every sequenced flit is acknowledged and sole_use is clear. -/
def execShodSet (port : Nat) (s : State) : Host.Outcome State Fault Refusal :=
  let t := s.tile port
  match t.shoe with
  | some sh =>
    if t.shoeing && !t.shod && t.egress.isEmpty && t.retry.kept.isEmpty && !t.soleUse &&
        t.soleClearAt.all fun a => decide (us 1 ≤ (s.time.now - a).toNat) then
      let step := (sh.own.orElse fun _ => sh.far).getD (0, 0, 0)
      .next (((s.modTile port fun t => { t with shod := true }).sendShoe port 2 step sh.shoeId 0).shoeBegin port)
    else .next s
  | none => .next s

/-- R148: sole_use clears 1 us after its last use. -/
def execSoleUseClear (port : Nat) (s : State) : Host.Outcome State Fault Refusal :=
  .next (if (s.tile port).egress.isEmpty
    then s.modTile port fun t => { t with soleUse := false, soleClearAt := some s.time.now } else s)

/-- R695: the requester repeats its request, or a port that is shod its shod, every 1 us. -/
def execShoeRequestSend (port : Nat) (s : State) : Host.Outcome State Fault Refusal :=
  let t := s.tile port
  match t.shoe with
  | some sh =>
    if t.inStep then .next s
    else if t.shod then .next (s.sendShoe port 2 ((sh.own.orElse fun _ => sh.far).getD (0, 0, 0)) sh.shoeId 0)
    else
      match sh.own with
      | some step => .next (s.sendShoe port 1 step sh.shoeId 0)
      | none => .next s
  | none => .next s

/-- R695, R698: at the begin frame both ends send training blocks and apply the step; a tile that is not shod defers it
(R149). -/
def execShoeBeginFrame (port : Nat) (s : State) : Host.Outcome State Fault Refusal :=
  match (s.tile port).shoe with
  | some sh =>
    if sh.begin_.isSome && (s.tile port).shod && !(s.tile port).inStep
    then .next ((s.modTile port fun t => { t with inStep := true }).sendTraining port 1) else .next s
  | none => .next s

/-- Path delays change by whole ticks (R220, R706): the path's correction and the count of shifts; the tile recomputes
rtt_chunks (R182). -/
def State.pathShift (s : State) (p : Nat) (rx tx : Int) : State :=
  if rx = 0 ∧ tx = 0 then s
  else
    (s.modTile p fun t =>
      { t with delayReports := satInc t.delayReports,
               time := { t.time with rxCorr := t.time.rxCorr + rx, txCorr := t.time.txCorr + tx, shifts := t.time.shifts + 1 } }).resize p

/-- The reference lane of a set of active lanes: the lowest (R706). -/
def refLane (active : BitVec 8) : Nat := ((List.range 8).find? fun k => bit active k).getD 0

/-- A path delay in 1/256 tick, rounded to the nearest tick (R706). -/
def toTick (x : Int) : Int := (x + 128) / 256

/-- A step has moved the tracked delays by rx and tx, in 1/256 tick (R706, R707): of the reference lane, or, where the width change moves it,
between the new reference lane and the old. What changes in whole ticks is reported. -/
def State.stepShift (s : State) (p : Nat) (rx tx : Int) : State :=
  let t := s.tile p
  let steps := (t.shoe.map fun sh => [sh.own, sh.far].filterMap id).getD []
  let old := tgetD t.lanes (refLane t.lanesActive) {}
  let n := refLane (((steps.find? fun x => x.1 == 3).map (·.2.1)).getD t.lanesActive)
  let s := s.modTile p fun t => { t with lanes := tmod t.lanes n {} fun l => { l with rxPath := old.rxPath + rx, txPath := old.txPath + tx } }
  s.pathShift p (toTick (old.rxPath + rx) - toTick old.rxPath) (toTick (old.txPath + tx) - toTick old.txPath)

/-- R698: frames lock again after a step: the path-delay changes are reported (R707), step_done is sent. -/
def execShoeStepRelock (port : Nat) (rxShift txShift : Int) (s : State) : Host.Outcome State Fault Refusal :=
  match (s.tile port).shoe with
  | some sh =>
    if (s.tile port).inStep && !sh.selfDone then
      let s := (s.stepShift port rxShift txShift).modTile port fun t => { t with shoe := some { sh with selfDone := true } }
      .next ((s.sendShoe port 4 ((sh.own.orElse fun _ => sh.far).getD (0, 0, 0)) sh.shoeId 0).shoeFinish port)
    else .next s
  | none => .next s

/-- R699: a step that does not regain frame lock is counted and retrains the port. -/
def execShoeStepTimeout (port : Nat) (s : State) : Host.Outcome State Fault Refusal :=
  .next (if (s.tile port).inStep then (s.modTile port fun t => { t with stepFailures := satInc t.stepFailures }).retrain port (some (16 * port + 12)) (16 * port + 12) else s)

/-- R697: both shods are not held within shoe_wait_ms: the requester releases, defers and asks again. -/
def execShoeWaitExpiry (port : Nat) (s : State) : Host.Outcome State Fault Refusal :=
  match (s.tile port).shoe with
  | some sh =>
    match sh.own with
    | some step =>
      if (s.tile port).inStep || (sh.farShod && (s.tile port).shod) then .next s
      else .next (((s.sendShoe port 6 step sh.shoeId 0).clearShoe port).modTile port fun t =>
        { t with deferrals := satInc t.deferrals, shoeRetry := true })
    | none => .next s
  | none => .next s

/-- R696: after a refusal or a deferral the requester asks again. -/
def execShoeRetryTimer (port : Nat) (s : State) : Host.Outcome State Fault Refusal :=
  .next (if (s.tile port).shoeRetry then s.startShoe port else s)

/-- R702: an idle run starts; a deferred step is requested at once. -/
def execIdleRunStart (port : Nat) (s : State) : Host.Outcome State Fault Refusal :=
  if (s.tile port).linkState = .up then
    let s := s.modTile port fun t => { t with idleRun := true }
    .next (if (s.tile port).shoeRetry then s.startShoe port else s)
  else .next s

/-- Three failed restorations of a lane within 1 h (R704). -/
def restoreBarred (l : Lane) : Bool :=
  match l.restoreFails.reverse with
  | c :: _ :: a :: _ => decide ((c - a).toNat ≤ 3600 * secTicks)
  | _ => false

/-- R704: excluded lanes that stayed good are restored by a kind 3 step, at most once in 10 s. -/
def execWidthRestore (port : Nat) (s : State) : Host.Outcome State Fault Refusal :=
  let t := s.tile port
  let okLane := fun k =>
    let l := tgetD t.lanes k {}
    l.active || (l.excluded && l.good && t.marginFloor.toNat + 4 ≤ l.eyeWidth.toNat && !restoreBarred l)
  let wider := widthGroups.find? fun g =>
    g.1 != t.lanesActive.toNat && g.1 &&& t.lanesActive.toNat == t.lanesActive.toNat &&
    (List.range 8).all fun k => !g.1.testBit k || okLane k
  let due := match t.lastRestore with
    | some r => decide (10 * secTicks ≤ (s.time.now - r).toNat)
    | none => true
  match wider with
  | some g =>
    if due && t.linkState == .up && t.lanesActive != 0 then
      .next ((s.modTile port fun t => { t with wantStep := some (3, BitVec.ofNat 8 g.1), lastRestore := some s.time.now }).startShoe port)
    else .next s
  | none => .next s

/-- R707: live clock recovery moves a lane's sampling phase; a change of the reference lane's delay, rounded to the tick,
is reported. -/
def execClockRecoveryPhaseMove (port lane : Nat) (rx : Bool) (delta : Int) (s : State) : Host.Outcome State Fault Refusal :=
  let t := s.tile port
  let l := tgetD t.lanes lane {}
  let old := if rx then l.rxPath else l.txPath
  let new := old + delta
  let change := toTick new - toTick old
  let isRef := bit t.lanesActive lane && refLane t.lanesActive == lane
  let s := s.modTile port fun t =>
    { t with lanes := tset t.lanes lane (if rx then { l with rxPath := new } else { l with txPath := new }) }
  .next (if isRef then (if rx then s.pathShift port change 0 else s.pathShift port 0 change) else s)

/-! ### Timers of the link -/

/-- R80: 4 us without acknowledgement of the oldest flit replays from it. -/
def execReplayTimeout (port : Nat) (now : Ticks) (s : State) : Host.Outcome State Fault Refusal :=
  let s := s.advance now
  let t := s.tile port
  match t.retry.kept with
  | k :: _ => .next (if us 4 ≤ (s.time.now - k.sentAt).toNat ∧ t.linkState = .up ∧ !t.inStep then s.replay port else s)
  | [] => .next s

/-- R174: every 1 us, a lane that accepted no flit shrinks its limit. -/
def execCreditDecay (port : Nat) (s : State) : Host.Outcome State Fault Refusal :=
  .next (s.modTile port fun t =>
    { t with rx := tmap t.rx fun _ l => if l.busy then { l with busy := false } else { l with limit := max t.vlFloor.toNat (l.limit - 512) } })

/-- R196: the Bellows factor of one port after an update at its level. -/
def bellowsNext (onLevel hardLevel : BitVec 4) (minFactor f : BitVec 7) (lvl : Nat) : BitVec 7 :=
  if hardLevel.toNat ≤ lvl then BitVec.ofNat 7 (max minFactor.toNat (f.toNat / 2))
  else if onLevel.toNat ≤ lvl then BitVec.ofNat 7 (max minFactor.toNat (f.toNat - 4))
  else BitVec.ofNat 7 (min 64 (f.toNat + 1))

/-- The Bellows gate filled up to now (R196): f / 64 × e / 8 × 200 bytes a ns, at most 9,216. The gate counts in bytes. -/
def gateFill (t : Tile) (now : Ticks) : Nat :=
  min 9216 (t.gate + (now - t.gateAt).toNat * t.bellows.toNat * width4 t * 200 / (64 * 32 * 64))

/-- R196: every 256 ns each port's factor is updated from its level; the gate is brought up to date at the old factor. -/
def execBellowsUpdate (s : State) : Host.Outcome State Fault Refusal :=
  let c := s.sched
  .next { s with tiles := tmap s.tiles fun _ t =>
    { t with gate := gateFill t s.time.now, gateAt := s.time.now,
             bellows := bellowsNext c.onLevel c.hardLevel c.minFactor t.bellows (levelOf t) } }

/-- R134: a congestion summary on each usable group link. R134 names no class for "usable"; the model takes TC3's rows of
R143, so a retry-suspect link still sends (DESIGN CHOICE, assumption log 113). -/
def execCongestionSummarySend (s : State) : Host.Outcome State Fault Refusal :=
  let b := s.summaryBody
  .next ((List.range 15).foldl (fun s p => if portUsable (s.tile p) 3 then s.sendLink p 2 b else s) s)

/-- R216: a trained port sends a time-exchange flit; its send time is kept (R217). -/
def execTimeExchangeSend (port : Nat) (s : State) : Host.Outcome State Fault Refusal :=
  let t := s.tile port
  if t.linkState != .up || t.inStep then .next s
  else
    let n := t.time.exSeq
    let at_ := s.time.now + BitVec.ofInt 64 t.time.txCorr
    let b := s.exchangeBody port n
    let s := s.modTile port fun t => { t with time := { t.time with exSeq := n + 1, txTimes := ((n, at_, t.time.shifts) :: t.time.txTimes).take 16 } }
    .next (s.sendFlit port { flitType := 4, body := b })

/-- R179: a sender's TC3 chunk report. -/
def execTc3ChunkReportSend (port : Nat) (s : State) : Host.Outcome State Fault Refusal :=
  .next (if (s.tile port).linkState = .up ∧ !(s.tile port).inStep then s.sendLink port 3 (s.tile port).chunkBody else s)

/-- R686: hellos in the hello and step phases, and eight after an identity change; the leading end proposes the next rate
(R681). -/
def execHelloSend (port : Nat) (s : State) : Host.Outcome State Fault Refusal :=
  let t := s.tile port
  if t.linkState = .hello then .next (s.sendLink port 1 (s.helloBody port))
  else if t.linkState = .step then
    let s := if s.leads port && t.propRate.isNone && !t.qualifying && t.rate.toNat < t.agreed.toNat
      then s.modTile port fun t => { t with propRate := some (t.nextRate, t.txFrame + 64) } else s
    .next (s.sendLink port 1 (s.helloBody port))
  else if 0 < t.hellosToSend then
    .next ((s.modTile port fun t => { t with hellosToSend := t.hellosToSend - 1 }).sendLink port 1 (s.helloBody port))
  else .next s

/-- R212: an exchange interval ends; one without an exchange ends the run of eight. -/
def execExchangeIntervalEnd (port : Nat) (s : State) : Host.Outcome State Fault Refusal :=
  .next (s.modTile port fun t =>
    { t with time := { t.time with delivered := false, goodRun := if t.time.delivered then min 8 (t.time.goodRun + 1) else 0 } }).elect

end Sys2Proof.Machine
end

