-- ==== Sys2Proof/Machine/Flow.lean ====
section
/-! DEFINITION. Arbitration (R183-R193), Bellows gates (R197), egress (R190), the Derailleur at injection (R138), and the
timers of routing, of the TC3 transport and of sampling (03, 04). -/

namespace Sys2Proof.Machine

open Sys2Proof

/-! ### Virtual time (R185-R189) -/

/-- What tells a queued packet from the one before it at a queue's head. -/
def headOf (q : QPkt) : VHead := { src := q.pkt.src, tag := q.pkt.opTag, offset := q.pkt.opOffset, since := q.since }

/-- The start tag of a queue with head h (R185, R186): the one fixed for this head, or that of a new head. A queue whose
last head left undecided was not empty in between. -/
def VSched.startOf (v : VSched) (k : Nat) (h : VHead) : Word :=
  let t := tgetD v.q k {}
  if t.head = some h then t.start
  else if t.head.isNone && decide (t.emptySince.toNat + ms 1 ≤ h.since.toNat) then v.v
  else if serialLt v.v t.finish then t.finish else v.v

/-- The least start among (queue, head), the lowest queue number on a tie; starts compare serially (R187). -/
def VSched.pick (v : VSched) : List (Nat × VHead) → Option (Nat × Word)
  | [] => none
  | (k, h) :: l =>
    match v.pick l with
    | none => some (k, v.startOf k h)
    | some (k', w) =>
      let u := v.startOf k h
      if serialLt w u ∨ (w = u ∧ k' < k) then some (k', w) else some (k, u)

/-- Fix the start tags of the queues that have a head (R185); a queue seen without one, or suspended (R189), holds no start. -/
def VSched.fix (v : VSched) (now : Ticks) (heads : List (Nat × VHead)) : VSched :=
  let seen := tmap v.q fun k t =>
    if t.head.isSome && !(heads.any fun h => h.1 == k) then { t with head := none, emptySince := now } else t
  { v with q := heads.foldl (fun q h =>
      let t := tgetD v.q h.1 {}
      tset q h.1 { t with start := v.startOf h.1 h.2, head := some h.2 }) seen }

/-- Charge the chosen queue (R185). -/
def VSched.charge (v : VSched) (k : Nat) (start : Word) (len weight : Nat) (now : Ticks) : VSched :=
  { v := start,
    q := tmod v.q k {} fun t =>
      { t with finish := start + BitVec.ofNat 64 (len * 65536 / max 1 weight), head := none, emptySince := now } }

/-- The counted length of a packet on a port (R183). -/
def countedLen (t : Tile) (p : Packet) : Nat := 16 * chunksOf p + t.portOverhead.toNat

/-- First element of each class of a list, keyed by f. -/
def headsBy (f : QPkt → Nat) : List QPkt → List Nat → List (Nat × QPkt)
  | [], _ => []
  | q :: l, seen => if seen.contains (f q) then headsBy f l seen else (f q, q) :: headsBy f l (f q :: seen)

/-! ### The Derailleur (R138) -/

/-- Ports of the tier an entry stands for. -/
def tierPorts (entry : Nat) : List Nat :=
  if entry < 16 then List.range 15 else if entry < 48 then (List.range 24).map (15 + ·) else (List.range 24).map (39 + ·)

/-- Ports that a candidate names (R138). -/
def namedPorts (b : RouteBank) (w : BitVec 32) : List Nat :=
  let direct := fun (l : List (BitVec 32)) => (l.filter fun x => candKind x == 1).map candExit
  match candKind w with
  | 1 => [candExit w]
  | 2 => direct (tgetD b.group (candMember w) [])
  | 3 => (tgetD b.super (candGroup w) []).flatMap fun x =>
      if candKind x = 1 then [candExit x] else if candKind x = 2 then direct (tgetD b.group (candMember x) []) else []
  | _ => []

/-- Hop limits of R61: minimal and non-minimal. -/
def hopLimits (a b : ModId) : Nat × Nat :=
  if idSuper a ≠ idSuper b then (7, 14) else if idGroup a ≠ idGroup b then (3, 6) else (1, 2)

/-- The injection hop of a unicast packet: the Derailleur's choice in mode 0 (R138), else R135's. -/
def State.injectHop (s : State) (q : QPkt) : State × Route × QPkt :=
  let r := s.routing
  let p := q.pkt
  if r.mode p.tc ≠ 0 ∨ addrModule p.dst = r.moduleId then s.lookup q
  else
    let bank := r.activeBank
    let b := r.bank bank
    let ent := r.entry b (addrModule p.dst)
    let ok := fun o => portUsable (s.tile o) p.tc
    let cmin := (s.choose bank 64 ent ok (fun _ => true) false p).map fun c => c.2.2
    let named := ent.2.flatMap (namedPorts b)
    let free := (tierPorts ent.1).filter fun o =>
      ok o && !named.contains o &&
      match r.expected o with
      | .link _ _ => true
      | .spare _ _ => r.promoted o
      | _ => false
    if free.isEmpty then s.lookup q
    else
      let (i, s) := s.drawFree free.length
      let one := free.getD i 0
      let rest := free.erase one
      let (j, s) := if rest.isEmpty then (0, s) else s.drawFree rest.length
      let two := rest.getD j one
      let o := if s.level two < s.level one then two else one
      let (hmin, hnm) := hopLimits r.moduleId (addrModule p.dst)
      let minimal := match cmin with
        | some c => decide (c * hmin ≤ s.level o * hnm + r.nmBias.toNat)
        | none => false
      if minimal then s.lookup q
      else
        match (r.expected o).end_ with
        | some (v, _) => (s.count 0x0020 o p.tc.toNat 1, .out o, { q with pkt := { p with nonminimal := true, via := v, gen := bank, hopStage := 0 } })
        | none => s.lookup q

/-! ### Injection (R191-R193, R197, R228, R240) -/

/-- Shaping of an instance and class (R195): rate 0, share 1 where nothing is written. -/
def Sched.shape (c : Sched) (inst tc : Nat) : Word := tgetD c.shaping (inst * 4 + tc) 0x0000010000000000
/-- Share (R195). -/
def shapeShare (w : Word) : Nat := bits w 55 40

/-- A token bucket brought up to now (R193). -/
def Sched.bucket (c : Sched) (inst tc : Nat) (now : Ticks) : Nat :=
  let w := c.shape inst tc
  let b := tgetD c.buckets (inst * 4 + tc) {}
  min (bits w 39 24 * 256 * 51200) (b.tokens + (now - b.at_).toNat * bits w 23 0)

/-- Note that a packet of an operation has been injected: at its source (R414, R768), or at the responder of a GET
(R396). -/
def State.noteInjected (s : State) (p : Packet) : State :=
  let now := s.time.now
  let s := s.count 0x8030 (addrInst p.src) p.tc.toNat p.payloadLen.toNat
  if p.pktType = 0x03 then
    { s with remote := { s.remote with openOps := s.remote.openOps.map fun o =>
        if o.src == p.dst && o.tag == p.opTag then { o with sent := o.sent + bnat (!p.resent) } else o } }
  else if p.pktType = 0x05 ∨ p.pktType = 0x08 ∨ p.pktType = 0x09 then s
  else
    let tag := (s.remote.srcOps.find? fun o => o.src == p.src && o.tag == p.opTag).bind (·.tagId)
    let s := { s with remote := { s.remote with srcOps := s.remote.srcOps.map fun o =>
      if o.src == p.src && o.tag == p.opTag then { o with injected := o.injected + bnat (!p.resent), lastAt := now } else o } }
    match tag with
    | none => s
    | some i => { s with counters := { s.counters with tagged := s.counters.tagged.map fun t =>
        if t.id = i then { t with packets := t.packets + 1, firstInject := if t.packets = 0 then now else t.firstInject, lastInject := now }
        else t } }

/-- Queue a packet of an instance for injection (R191). One for this module goes straight to its host port (R120). -/
def State.inject (s : State) (inst : Nat) (p : Packet) : State :=
  if addrModule p.dst = s.routing.moduleId ∧ !p.mcast then
    match (s.noteInjected p).deliverOrWait { pkt := p, since := s.time.now } with
    | (s, none) => s
    | (s, some q) => { s with routing := { s.routing with waiting := s.routing.waiting ++ [q] } }
  else
    let q : QPkt := { pkt := p, inst := some inst, since := s.time.now }
    let s := { s with sched := { s.sched with inject := s.sched.inject ++ [q] } }
    s.noteQueue (qidInject inst p.tc.toNat)
      (bytesQueued (s.sched.inject.filter fun q => q.inst == some inst && q.pkt.tc == p.tc)) none

/-- Whether a head may be injected on port o (R192, R193, R197). -/
def State.mayInject (s : State) (inst : Nat) (p : Packet) (o : Nat) : Bool :=
  let t := s.tile o
  let n := countedLen t p
  let w := s.sched.shape inst p.tc.toNat
  shapeShare w != 0 && (bits w 23 0 == 0 || decide (n * 51200 ≤ s.sched.bucket inst p.tc.toNat s.time.now)) &&
  (p.tc == 2 || decide (n ≤ gateFill t s.time.now))

/-- Stroke admission at injection (R228, R239, R240). -/
def State.strokeAdmits (s : State) (inst : Nat) : Bool :=
  let t := s.time
  !t.strokeEnable || (t.tc2Open s.routing.idValid &&
    match t.strokeAt t.now with
    | none => false
    | some (i, _) => bit (t.strokes.getD i 0) (40 + (tgetD t.admission inst 0).toNat))

/-- A head of an instance is admitted with first hop o: it leaves its queue, and the bucket, the gate and the scheduler are
charged the counted length on that port (R184, R185, R193). -/
def State.chargeInject (s : State) (inst : Nat) (q : QPkt) (o : Nat) (start : Word) : State :=
  let p := q.pkt
  let n := countedLen (s.tile o) p
  let w := s.sched.shape inst p.tc.toNat
  let now := s.time.now
  let key := inst * 4 + p.tc.toNat
  let s := { s with sched := { s.sched with
    inject := s.sched.inject.erase q,
    buckets := if bits w 23 0 = 0 then s.sched.buckets
      else tset s.sched.buckets key { tokens := s.sched.bucket inst p.tc.toNat now - n * 51200, at_ := now },
    injectV := tmod s.sched.injectV p.tc.toNat {} fun v => v.charge inst start n (shapeShare w) now } }
  let s := if p.tc = 2 then s
    else s.modTile o fun t => { t with gate := gateFill t now - n, gateAt := now }
  s.noteQueue (qidInject inst p.tc.toNat) 0 (some q.since)

/-- Admit a unicast head on its first hop. -/
def State.injectNow (s : State) (inst : Nat) (q q' : QPkt) (o : Nat) (start : Word) : State :=
  ((s.chargeInject inst q o start).enqueue o q').noteInjected q.pkt

/-- Admit a multicast head: it takes the active generation's bit (R150) and its copies fan out; a local copy without
room waits (R199). -/
def State.injectCast (s : State) (inst : Nat) (q : QPkt) (o : Nat) (start : Word) : State :=
  let s := s.chargeInject inst q o start
  let s := match s.place { q with pkt := { q.pkt with gen := s.routing.activeBank }, since := s.time.now } with
    | (s, none) => s
    | (s, some w) => { s with routing := { s.routing with waiting := s.routing.waiting ++ [w] } }
  s.noteInjected q.pkt

/-! ### Egress (R71, R72, R172, R190, R240-R242) -/

/-- The wire bytes of a queued packet that are at hand. -/
def queuedWire (q : QPkt) : List Byte := if q.inPort.isNone then packetBytes q.pkt else leBytes 32 (headerNat q.pkt) ++ q.rest

/-- The unacknowledged flits leave room for a new sequenced one, and the port is not retry-suspect (R73, R82). -/
def mayFlit (t : Tile) (tc : BitVec 2) : Bool :=
  tc == 3 || (!t.retry.suspect && decide (t.retry.kept.length < Config.retryMax))

/-- Take up to n chunks at hand of a queued packet for the port's next flit: they leave the input buffer as they go (R174),
and the whole packet leaves the queue (R162), held with that flit's link_seq until it is acknowledged (R145). The
answer: the packet as it stays, its chunks. -/
def State.takeBytes (s : State) (p : Nat) (q : QPkt) (n : Nat) : State × QPkt × List Byte :=
  let v := laneOf q.pkt
  let seqd := q.pkt.tc != 3
  let bs := ((queuedWire q).drop q.sent).take (16 * n)
  let k := bs.length / 16
  let q' := { q with sent := q.sent + 16 * k }
  let done := decide (16 * chunksOf q.pkt ≤ q'.sent)
  let s := s.modTile p fun t =>
    { t.modTx v (fun l => { l with sent := l.sent + BitVec.ofNat 24 k }) with
             egress := if done then t.egress.erase q else t.egress.map fun x => if x == q then q' else x,
             idleRun := false,
             sentUnreturned := if seqd then t.sentUnreturned + 16 * k else t.sentUnreturned,
             retry := if done && seqd then { t.retry with held := t.retry.held ++ [(t.retry.nextTx, q')] } else t.retry }
  let s := if done then (s.noteQueue (qidPort p v) 0 (some q.since)).count 0x8000 p q.pkt.tc.toNat (48 + q.pkt.payloadLen.toNat) else s
  let s :=
    if q.pkt.mcast then (if done then s.freeIn q' else s)
    else
      let here := chunksOf q.pkt - q.short
      let freed := min (q'.sent / 16) here - min (q.sent / 16) here
      match q.inPort with
      | none => s
      | some i => s.modTile i fun t => t.modRx q.inVl fun l =>
          { l with occ := l.occ - freed, freed := if q.complete then l.freed else l.freed + freed }
  (s, q', bs.take (16 * k))

/-- Whether a new packet may start on a port (R172, R190, R82, R73, R240). -/
def State.mayStart (s : State) (p : Nat) (q : QPkt) : Bool :=
  let t := s.tile p
  let v := laneOf q.pkt
  let e4 := match q.inPort with
    | some i => if q.complete then width4 t else min (width4 t) (width4 (s.tile i))
    | none => width4 t
  let cls := q.inst.map fun i => tgetD s.time.admission i 0
  q.sent == 0 && !(t.egress.any fun x => x.sent != 0 && laneOf x.pkt == v) &&
  decide (chunksOf q.pkt ≤ (t.txLane v).credit) &&
  mayFlit t q.pkt.tc &&
  (q.pkt.tc != 2 || s.time.strokeFits p (txTicks (chunksOf q.pkt) e4) cls)

/-- Source queue of a packet at an output: its input port, 64 for local injection (R190). -/
def sourceOf (q : QPkt) : Nat := q.inPort.getD 64

/-- The next packet of a port by R190, with the port's schedulers after the choice. -/
def State.choosePacket (s : State) (p : Nat) : Option QPkt × Tile :=
  let t := s.tile p
  let ok := s.mayStart p
  match t.egress.find? (fun q => q.pkt.tc == 3 && ok q) with
  | some q => (some q, t)
  | none =>
    match (headsBy (fun q => laneOf q.pkt) (t.egress.filter fun q => q.pkt.tc == 2) []).find? (fun e => ok e.2) with
    | some e => (some e.2, t)
    | none =>
      let heads := fun (tc : BitVec 2) => headsBy sourceOf (t.egress.filter fun q => q.pkt.tc == tc && q.sent == 0) []
      let classes : List (BitVec 2) := [0, 1]
      let weight := fun (tc : BitVec 2) => if tc = 0 then s.sched.tc0Weight.toNat else s.sched.tc1Weight.toNat
      let src := fun (tc : BitVec 2) => (tgetD t.srcV tc.toNat {}).fix s.time.now ((heads tc).map fun h => (h.1, headOf h.2))
      let pick := fun (tc : BitVec 2) =>
        let r := (heads tc).filter fun h => ok h.2
        ((src tc).pick (r.map fun h => (h.1, headOf h.2))).bind fun k =>
          (r.find? fun h => h.1 == k.1).map fun h => (k.1, k.2, h.2)
      let present := classes.filter fun tc => !(heads tc).isEmpty && weight tc != 0
      let head := fun (tc : BitVec 2) => ((heads tc).map fun h => headOf h.2).headD {}
      let cv := t.classV.fix s.time.now (present.map fun tc => (tc.toNat, head tc))
      let t := { t with classV := cv, srcV := present.foldl (fun m tc => tset m tc.toNat (src tc)) t.srcV }
      let ready := present.filter fun tc => (pick tc).isSome
      match cv.pick (ready.map fun tc => (tc.toNat, head tc)) with
      | none => (none, t)
      | some (k, start) =>
        let tc : BitVec 2 := BitVec.ofNat 2 k
        match pick tc with
        | none => (none, t)
        | some (sk, ss, q) =>
          let n := countedLen t q.pkt
          (some q, { t with classV := cv.charge k start n (weight tc) s.time.now,
                            srcV := tset t.srcV k ((src tc).charge sk ss n 1 s.time.now) })

/-- The packet that R190 starts next on a port, charged its credit (R172); none when there is none, or when it is not of
lane only. -/
def State.startNext (s : State) (p : Nat) (only : Option Nat) : State × Option QPkt :=
  match s.choosePacket p with
  | (none, t) => (s.modTile p fun _ => t, none)
  | (some q, t) =>
    let v := laneOf q.pkt
    if only.all (· == v) then
      (s.modTile p fun _ => t.modTx v fun l => { l with credit := l.credit - chunksOf q.pkt }, some q)
    else (s, none)

/-- Fill a flit's body (R71): chunks of packet q behind those of acc, and when it ends the beginning of the next packet of
the same lane, if R190 chooses one. n bounds the packets of one flit, and fs is the chunk at which the first
of them begins. The answer: the packet that goes on in the next flit, the body, first_start. -/
def State.fillFlit (s : State) (p : Nat) : Nat → QPkt → List Byte → Nat → State × Option QPkt × List Byte × Nat
  | 0, q, acc, fs => (s, some q, acc, fs)
  | n + 1, q, acc, fs =>
    let at_ := acc.length / 16
    let (s, q', bs) := s.takeBytes p q (15 - at_)
    let fs := if q.sent = 0 ∧ fs = 15 then at_ else fs
    let acc := acc ++ bs
    if q'.sent < 16 * chunksOf q.pkt then (s, some q', acc, fs)
    else if 15 ≤ acc.length / 16 then (s, none, acc, fs)
    else
      match s.startNext p (some (laneOf q.pkt)) with
      | (s, none) => (s, none, acc, fs)
      | (s, some r) => s.fillFlit p n r acc fs

/-- Send flits of a queued packet, and of those that begin behind it, while bytes are at hand; n bounds the flits. -/
def State.pump (s : State) (p : Nat) : Nat → QPkt → State
  | 0, _ => s
  | n + 1, q =>
    if !mayFlit (s.tile p) q.pkt.tc || decide ((queuedWire q).length < q.sent + 16) then s
    else
      let v := laneOf q.pkt
      let (s, next, bs, fs) := s.fillFlit p 5 q [] 15
      let s := s.sendFlit p { flitType := if q.pkt.tc = 3 then 2 else 1, vl := BitVec.ofNat 5 v,
                              validChunks := BitVec.ofNat 4 (bs.length / 16), firstStart := BitVec.ofNat 4 fs, body := bs }
      match next with
      | some r => s.pump p n r
      | none => s

/-- R190: the port goes on with a packet part way out whose bytes have come in, or chooses the next one. A retry-suspect
port starts no new sequenced flit (R82). -/
def execPortEgressDecision (port : Nat) (s : State) : Host.Outcome State Fault Refusal :=
  let t := s.tile port
  if t.linkState != .up || t.inStep || t.fenced then .next s
  else
    let part := t.egress.find? fun q =>
      q.sent != 0 && decide (q.sent + 16 ≤ (queuedWire q).length) && mayFlit t q.pkt.tc
    match part with
    | some q => .next (s.pump port 20 q)
    | none =>
      match s.startNext port none with
      | (s, none) => .next s
      | (s, some q) => .next (s.pump port 20 q)

/-! ### Timers of routing -/

/-- Tile a waiting packet's discard counts on (R141). -/
def State.waitTile (s : State) (q : QPkt) : Nat :=
  match q.inPort with
  | some p => p
  | none =>
    let r := s.routing
    let w := (r.entry (r.bank r.activeBank) (addrModule q.pkt.dst)).2.headD 0
    candExit w

/-- R141, R243: packets that waited route_wait_us with no usable candidate, or at an output whose Stroke table never
opens it, are discarded with a FAULT. -/
def execRouteWaitExpiry (now : Ticks) (s : State) : Host.Outcome State Fault Refusal :=
  let s := s.advance now
  let late := fun (since : Ticks) => decide (us s.routing.routeWaitUs.toNat ≤ (s.time.now - since).toNat)
  let behind := fun (l : List QPkt) (q : QPkt) => (l.takeWhile (· != q)).any (sameLane q)
  let ws := s.routing.waiting
  let goneW := ws.filter fun q => !q.localOnly && late q.since && !behind ws q
  let goneI := s.sched.inject.filter fun q => match q.noHop with
    | some t => late t
    | none => false
  let goneE := s.tiles.flatMap fun e => (e.2.egress.filter fun q =>
    q.sent == 0 && q.pkt.tc == 2 && late q.since && !s.time.strokeOpens e.1).map fun q => (e.1, q)
  let s := { s with
    routing := { s.routing with waiting := ws.filter fun q => !goneW.contains q },
    sched := { s.sched with inject := s.sched.inject.filter fun q => !goneI.contains q },
    tiles := tmap s.tiles fun i t => { t with egress := t.egress.filter fun q => !goneE.contains (i, q) } }
  let drop := fun (s : State) (q : QPkt) (t : Nat) => ((s.count 0x0022 t q.pkt.tc.toNat 1).discardAt t q).freeIn q
  let s := goneW.foldl (fun s q => drop s q (s.waitTile q)) s
  let s := goneI.foldl (fun s q => drop s q (s.waitTile q)) s
  let s := goneE.foldl (fun s e => drop s e.2 e.1) s
  .next (if goneW.isEmpty then s else s.retryWaiting)

/-- R154, R157: at T the pending bank becomes active and the old one retiring; with no bank pending of the next
generation the swap is missed. -/
def execRouteSwapFire (now : Ticks) (s : State) : Host.Outcome State Fault Refusal :=
  let s := s.advance now
  let r := s.routing
  if r.swapScheduled && decide (r.swapAt.toNat ≤ s.time.now.toNat) then
    let g := r.activeGen + 1
    if r.otherBank = .pending ∧ (r.bank !r.activeBank).gen = g then
      let r := { r with swapScheduled := false, activeGen := g, activeBank := !r.activeBank, otherBank := .retiring,
                        retireAt := s.time.now + BitVec.ofNat 64 (us r.retireUs.toNat) }
      .next ((({ s with routing := r }).eventManager 0x0003 g 0).rejoinAll)
    else
      .next ((({ s with routing := { r with swapScheduled := false, swapMissed := true } }).raiseAt 1237 0).eventManager 0x0004 r.swapGen 0)
  else .next s

/-- R156: the retiring bank empties. -/
def execBankRetire (now : Ticks) (s : State) : Host.Outcome State Fault Refusal :=
  let s := s.advance now
  let r := s.routing
  if r.otherBank = .retiring ∧ r.retireAt.toNat ≤ s.time.now.toNat then
    .next { s with routing := { r.setBank (!r.activeBank) {} with otherBank := .empty } }
  else .next s

/-! ### The TC3 transport -/

/-- The sync E2E_ACK of a source (R168): one less than the oldest unacknowledged e2e_seq, or the newest sent. -/
def State.sendSync (s : State) (k : StreamKey) : State :=
  let x := s.routing.txStream k
  let v := match x.store with
    | (p, _, _) :: _ => p.e2eSeq - 1
    | [] => x.next - 1
  s.sendAck { k with src := k.dst, dst := k.src } v 1

/-- R168, R729: an E2E_ACK frees acknowledged packets, asks for or makes a sync, and unfences a fenced stream. -/
def execE2eAck (port : Nat) (p : Packet) (s : State) : Host.Outcome State Fault Refusal :=
  if !s.hasArrival p || p.pktType != 0x14 then .next s
  else
  let s := s.takeArrival p
  let value : BitVec 32 := BitVec.ofNat 32 (bits p.typeWord 31 0)
  let f63 := port == 63
  if bit p.opExt 0 then
    let k := streamKeyOf p f63
    .next (({ s with routing := s.routing.setRx { key := k, last := value } }).sendAck k value 0)
  else
    let k := streamKeyOf { p with src := p.dst, dst := p.src } f63
    let x := s.routing.txStream k
    if bit p.opExt 1 || !serialLt value x.next then .next (s.sendSync k)
    else
      let s' := { s with routing := s.routing.setTx { x with
        fenced := false, store := x.store.filter fun e => serialLt value e.1.e2eSeq } }
      let s' := if x.fenced then s'.raise { source := 1248, unit := (addrModule k.dst).toNat, kind := 1 } else s'
      .next s'.pumpStreams

/-- R166: the E2E_ACK that a delivery owes. -/
def execE2eAckTimer (key : StreamKey) (s : State) : Host.Outcome State Fault Refusal :=
  match s.routing.streamsRx.find? (fun x => x.key == key) with
  | some x =>
    if x.ackDue then .next (({ s with routing := s.routing.setRx { x with ackDue := false, sinceAck := 0 } }).sendAck key x.last 0)
    else .next s
  | none => .next s

/-- R729: a fenced stream's source sends a sync E2E_ACK once each second. -/
def execTc3StreamSyncRetry (key : StreamKey) (s : State) : Host.Outcome State Fault Refusal :=
  .next (if (s.routing.txStream key).fenced then s.sendSync key else s)

/-! ### Sampling (R200-R202) -/

/-- Packets of a queue_id. -/
def State.queueOf (s : State) (qid : Nat) : List QPkt :=
  let k := qid % 0x10000000
  match qid / 0x10000000 with
  | 0 => s.sched.inject.filter fun q => q.inst == some (k / 4) && q.pkt.tc.toNat == k % 4
  | 1 => (s.tile (k / 32)).egress.filter fun q => laneOf q.pkt == k % 32
  | 2 => tgetD s.sched.eject k []
  | _ => []

/-- The maxima of an epoch that begins now (R201): of each selected queue, the depth that stands in it. -/
def State.standing (s : State) (queues : List (BitVec 32)) : Table (Nat × Nat × Nat) :=
  queues.foldl (fun m q => tset m q.toNat (bytesQueued (s.queueOf q.toNat), 0, 0)) []

/-- Address of the report segment (R603). -/
def reportBase : Nat := 0x20000000

/-- R200, R201, R202: at the latest epoch boundary one record per selected queue, or a lost one when the ring is full. -/
def execSampleEpoch (now : Ticks) (s : State) : Host.Outcome State Fault Refusal :=
  let s := s.advance now
  let c := s.sched
  let step := 64 * c.epochNs.toNat
  let boundary := s.time.now.toNat / max 1 step * step
  if !c.sampleEnable || boundary ≤ c.sampleLast.toNat then .next s
  else
    let sat := fun (n : Nat) => min n 0xffffffff
    let s := c.sampleQueues.foldl (fun s q =>
      let l := s.queueOf q.toNat
      let m := tgetD c.sampleMax q.toNat (0, 0, 0)
      let depth := bytesQueued l
      let delay := match l with
        | h :: _ => (s.time.now - h.since).toNat / 64
        | [] => 0
      let bs := leBytes 8 boundary ++ leBytes 4 q.toNat ++ leBytes 4 (sat depth) ++ leBytes 4 (sat (max m.1 depth)) ++
        leBytes 4 (sat delay) ++ leBytes 4 (sat m.2.1) ++ leBytes 4 (sat m.2.2)
      match s.sched.sampleRing with
      | some (off, n) =>
        if s.sched.sampleCount < n then
          { s.storeMem (reportBase + off + 32 * s.sched.sampleCount) bs false with
            sched := { s.sched with sampleCount := s.sched.sampleCount + 1 } }
        else { s with sched := { s.sched with sampleLost := s.sched.sampleLost + 1 } }
      | none => { s with sched := { s.sched with sampleLost := s.sched.sampleLost + 1 } }) s
    .next { s with sched := { s.sched with sampleLast := BitVec.ofNat 64 boundary, sampleMax := s.standing c.sampleQueues } }

end Sys2Proof.Machine
end

