-- ==== Sys2Proof/Machine/Fleso.lean ====
section
/-! DEFINITION. Fleso's command interface (15): authority, taking and answering, mailboxes, MGMT_CMD, MCTP. -/

namespace Sys2Proof.Machine

open Sys2Proof

/-! ### Authority (R10, R255, R289, R615) -/

/-- The authority that an arrival point holds. -/
inductive Auth where
  | manager
  | host (port : Nat)
  | inst (i : Nat)
  | fabric
  | debug
  | none
  deriving DecidableEq, Repr

/-- The instance bound to virtual function v of port p. -/
def State.boundInst (s : State) (p v : Nat) : Option Nat :=
  (s.insts.find? fun e => e.2.bound && e.2.port.toNat == p && e.2.vf.toNat == v).map (·.1)

/-- Whether H0's physical function holds Manager authority: by its strap, while H0 is present, or through the lapse of its presence while
it meets R283's other conditions (R255, R289, R817). -/
def State.h0Manager (s : State) : Bool :=
  let p := s.port 0
  s.hearth.mgrStrap && (p.present || (p.lapsed && portMeets p))

/-- The authority of an arrival point (R615). -/
def State.authOf (s : State) (via : Arrival) : Auth :=
  match via with
  | .mailbox f _ =>
    match f.vf with
    | some v =>
      match s.boundInst f.port v with
      | some i => .inst i
      | none => .none
    | none => if f.port = 0 ∧ s.h0Manager then .manager else .host f.port
  | .f63 _ => .manager
  | .sideband _ => .manager
  | .fabric _ _ => .fabric
  | .debug => .debug

/-- Manager authority, or Debug's, which accepts all that Manager does (R620). -/
def Auth.isM : Auth → Bool
  | .manager => true
  | .debug => true
  | _ => false
/-- Manager or Host. -/
def Auth.isMH : Auth → Bool
  | .host _ => true
  | a => a.isM
/-- Manager or Instance. -/
def Auth.isMI : Auth → Bool
  | .inst _ => true
  | a => a.isM
/-- Manager, Host or Instance. -/
def Auth.isMHI : Auth → Bool
  | .inst _ => true
  | a => a.isMH

/-- Whether Fabric authority accepts a command: its code stands in the active fabric allowance (R620). -/
def State.fabricMay (s : State) (op : BitVec 16) : Bool := s.hearth.allowance.contains op

/-- The command codes of R630. -/
def knownOps : List Nat :=
  [0x0001, 0x0002, 0x0003, 0x0004, 0x0005, 0x0006, 0x0007, 0x0008,
   0x0101, 0x0102, 0x0103, 0x0104, 0x0105, 0x0106, 0x0107, 0x0108, 0x0109,
   0x0201, 0x0202, 0x0203, 0x0204, 0x0205, 0x0206, 0x0207] ++
  (List.range 15).map (0x0301 + ·) ++ (List.range 7).map (0x0401 + ·) ++ (List.range 9).map (0x0501 + ·) ++
  (List.range 7).map (0x0601 + ·) ++ (List.range 6).map (0x0701 + ·) ++ (List.range 5).map (0x0801 + ·) ++
  (List.range 6).map (0x0901 + ·) ++ (List.range 3).map (0x0a01 + ·)

/-! ### Scope (R550, R620) -/

/-- Whether an authority reaches an instance (R550, R620). -/
def State.reaches (s : State) (a : Auth) (i : Nat) : Bool :=
  match a with
  | .manager => true
  | .debug => true
  | .host p => (s.inst i).port.toNat == p && (s.inst i).state != .free
  | .inst j => i == j
  | _ => false

/-- Whether an authority reaches an object of an owner and holding instance. -/
def State.reachesObj (s : State) (a : Auth) (c : Call) (owner : Fn) (inst : Option Nat) : Bool :=
  match a with
  | .manager => true
  | .debug => true
  | .host _ =>
    (match c.via with
      | .mailbox f _ => f == owner
      | _ => false) ||
    match inst with
      | some i => s.reaches a i
      | none => false
  | .inst j => inst == some j
  | _ => false

/-- The holder of what a caller creates: the caller's own instance, the one it names, or none for the physical
function; none at all when it may not name it. -/
def State.holder (s : State) (a : Auth) (inst : Option Nat) : Option (Option Nat) :=
  match a, inst with
  | .inst j, none => some (some j)
  | .inst j, some i => if i = j then some (some j) else none
  | a, some i => if s.reaches a i then some (some i) else none
  | _, none => some none

/-! ### D2H reads (R261, R263) -/

/-- The D2H requests of a read: one for each 64-byte line it touches. -/
def D2hRead.count (r : D2hRead) : Nat := (r.reads.map fun x => (linesOf x.2.1.toNat x.2.2).length).foldl (· + ·) 0

/-- The D2H read requests that a port has outstanding (R263). -/
def HostPort.readsOut (p : HostPort) : Nat := (p.d2h.map D2hRead.count).foldl (· + ·) 0

/-- Whether a read of a tag is outstanding. -/
def State.reading (s : State) (p : Nat) (t : D2hTag) : Bool := (s.port p).d2h.any fun r => r.tag == t

/-- Send the reads that wait for room under the 512 of R263, oldest first; n bounds the loop. -/
def State.sendReads (s : State) (p : Nat) : Nat → State
  | 0 => s
  | n + 1 =>
    match (s.port p).d2hWait with
    | [] => s
    | r :: rs =>
      if Config.d2hReads < (s.port p).readsOut + r.count then s
      else
        let s := s.modPort p fun h => { h with d2h := h.d2h ++ [r], d2hWait := rs }
        (r.reads.foldl (fun (s : State) x => s.emit (.d2hRead p r.tag r.own x.1 x.2.1 x.2.2)) s).sendReads p n

/-- Ask a port for a D2H read. -/
def State.addD2h (s : State) (p : Nat) (r : D2hRead) : State :=
  (s.modPort p fun h => { h with d2hWait := h.d2hWait ++ [r] }).sendReads p ((s.port p).d2hWait.length + 1)

/-- A read has been answered, or is wanted no more: what it held back follows. -/
def State.dropD2h (s : State) (p : Nat) (t : D2hTag) : State :=
  (s.modPort p fun h =>
    if h.d2h.any (fun r => r.tag == t) then { h with d2h := h.d2h.eraseP (fun r => r.tag == t) }
    else { h with d2hWait := h.d2hWait.eraseP (fun r => r.tag == t) }).sendReads p (s.port p).d2hWait.length

/-! ### Error codes (R621) -/

def eNoAuthority : BitVec 8 := 0x02
def eBadArgument : BitVec 8 := 0x03
def eWrongMode : BitVec 8 := 0x04
def eWrongState : BitVec 8 := 0x05
def eGrantExhausted : BitVec 8 := 0x06
def ePoolExhausted : BitVec 8 := 0x07
def eNoObject : BitVec 8 := 0x08
def eUnreachable : BitVec 8 := 0x09
def eTableRejected : BitVec 8 := 0x0a
def eTooSoon : BitVec 8 := 0x0b
def eWrongGeneration : BitVec 8 := 0x0c
def eImageRejected : BitVec 8 := 0x0d
def eRefusedByPeer : BitVec 8 := 0x0f
def eFault : BitVec 8 := 0x10

/-- What a command's effect answers: an error (0 is ok) with result or detail bytes, bad_argument for a field whose offset the
spec does not give (Config.argOffset), or nothing yet. -/
inductive Reply where
  | done (error : BitVec 8) (result : List Byte)
  | bad (field : Nat)
  | later
  deriving DecidableEq, Repr

/-- The answer ok with no result. -/
def Reply.ok : Reply := .done 0 []
/-- The answer ok with a result. -/
def Reply.res (bs : List Byte) : Reply := .done 0 bs
/-- An error without detail. -/
def Reply.err (e : BitVec 8) : Reply := .done e []
/-- An error with its 16 bytes of detail (R612). -/
def Reply.errD (e : BitVec 8) (bs : List Byte) : Reply := .done e (sliceBytes bs 0 16)
/-- bad_argument at a known argument offset: a command whose arguments are register words (R614). -/
def Reply.badAt (offset : Nat) : Reply := .errD eBadArgument (leBytes 2 offset)
/-- The byte of the first field that fails, of (fails, lowest bit) pairs. -/
def firstBad (l : List (Bool × Nat)) : Option Nat := (l.find? (·.1)).map fun e => e.2 / 8
/-- grant_exhausted for a row of R547. -/
def Reply.grant (row : Nat) : Reply := .errD eGrantExhausted (leBytes 1 row)
/-- pool_exhausted for a row of R547. -/
def Reply.pool (row : Nat) : Reply := .errD ePoolExhausted (leBytes 1 row)

/-! ### Answering -/

/-- Apply a reply. -/
def State.reply (s : State) (c : Call) (op : BitVec 16) : Reply → State
  | .done e bs => s.answer c.via c.seq op e bs
  | .bad f => s.answer c.via c.seq op eBadArgument (sliceBytes (leBytes 2 (Config.argOffset op.toNat f)) 0 16)
  | .later => s

/-! ### Taking (R622-R625) -/

/-- Whether two commands arrive at one arrival point. -/
def sameArrival : Arrival → Arrival → Bool
  | .mailbox f _, .mailbox g _ => f == g
  | .f63 _, .f63 _ => true
  | .fabric _ _, .fabric _ _ => true
  | .sideband _, .sideband _ => true
  | .debug, .debug => true
  | _, _ => false

/-- Whether Fleso takes commands in the module's mode (R623); one that is about to be replaced finishes those it has (R643). -/
def State.takes (s : State) : Bool :=
  s.hearth.ready && s.hearth.activating.isNone &&
  match s.hearth.mode with
  | .off | .standby | .cracked | .firmwareUpdate => false
  | _ => true

/-- Whether the mode turns this command away (R623): Hearth boot and Link bring-up take Manager and Debug commands, and
IDENTIFY. -/
def State.modeRefuses (s : State) (a : Auth) (op : BitVec 16) : Bool :=
  (s.hearth.mode == .hearthBoot || s.hearth.mode == .linkBringup) && !a.isM && op != 0x0001

/-- A command is taken (R608): it leaves its queue, is running, and so is its slot. -/
def State.take (s : State) (q : QCmd) : State :=
  let h := s.hearth
  let s := s.count 0x0090 0 0 1
  let s := { s with hearth := { h with queue := h.queue.erase q, fabricQueue := h.fabricQueue.erase q,
                                       running := h.running ++ [(q, s.time.now)] } }
  match q.via with
  | .mailbox f slot => s.modMbox f fun m =>
      { m with slots := tmod m.slots slot {} fun x => { x with state := .running } }
  | _ => s

/-- The commands that wait, each arrival point's in order. -/
def Hearth.waiting (h : Hearth) : List QCmd := h.queue ++ h.fabricQueue

/-- Whether Fleso answers a command from its header alone: it breaks R611, its code is not in R630, or it is for another
module (R619). -/
def State.headerOnly (s : State) (q : QCmd) : Bool :=
  q.badAt.isSome || !knownOps.contains q.opcode.toNat || (q.forward && q.target != s.routing.moduleId)

/-- The waiting command that a command row names, where it may be taken: the oldest of its arrival point, TRANS_INVAL
(0x0702) ahead of all (R624, R625). The Debug port, usable in Diagnostic only, has no queue (R615). -/
def State.front (s : State) (via : Arrival) (seq : BitVec 32) (op : BitVec 16) : Option QCmd :=
  let w := s.hearth.waiting
  let inval := fun (q : QCmd) => q.opcode == 0x0702 && !s.headerOnly q
  let fit := fun (q : QCmd) => sameCaller q via seq && q.opcode == op && !s.headerOnly q
  if !s.takes then none
  else if via = .debug then (if s.hearth.mode = .diagnostic then some { via, opcode := op, seq } else none)
  else if op = 0x0702 then w.find? fit
  else if w.any inval then none
  else match w.find? fun q => sameArrival q.via via with
    | some q => if fit q then some q else none
    | none => none

/-- The request bytes of a command (R611). -/
def requestBytes (q : QCmd) : List Byte :=
  leBytes 2 q.opcode.toNat ++ leBytes 2 q.args.length ++ leBytes 4 q.seq.toNat ++ leBytes 8 0 ++ q.args

/-- Answer one command by its header (R611, R619, R621, R623). -/
def State.serveHeader (s : State) (q : QCmd) : State :=
  let a := s.authOf q.via
  let fin := fun (s : State) (e : BitVec 8) (d : List Byte) => s.answer q.via q.seq q.opcode e d
  let s := s.take q
  if s.modeRefuses a q.opcode then fin s eWrongMode (sliceBytes (leBytes 1 (modeCode s.hearth.mode)) 0 16)
  else
    match q.badAt with
    | some o => fin s eBadArgument (sliceBytes (leBytes 2 o) 0 16)
    | none =>
      if !knownOps.contains q.opcode.toNat then fin s 0x01 []
      else if !a.isM then fin s eNoAuthority []
      else if s.quench.halted then fin s eWrongState []
      else
        let p := s.agentPacket 0x10 q.target 0 (q.seq.zeroExtend 64) (requestBytes q)
        if (s.routing.txStream { src := p.src, dst := p.dst, tc := 3 }).fenced then
          fin s eUnreachable (sliceBytes (leBytes 4 q.target.toNat) 0 16)
        else s.sendTc3 false p

/-- Answer every command that heads its arrival point and that its header alone decides; n bounds the loop. -/
def State.serveHeads (s : State) : Nat → State
  | 0 => s
  | n + 1 =>
    if !s.takes then s
    else
      let w := s.hearth.waiting
      match w.find? (fun q => s.headerOnly q && (w.find? fun x => sameArrival x.via q.via) == some q) with
      | none => s
      | some q => (s.serveHeader q).serveHeads n

/-- fleso_ready, and the MOD_READY pin that follows it (R796). -/
def State.setReady (s : State) (on : Bool) : State :=
  if s.hearth.ready = on then s else ({ s with hearth := { s.hearth with ready := on } }).emit (.modReady on)

/-- Step 1 of R643: once every other running command is finished, the module enters Firmware update, and Hearth restarts on the staged
slot. -/
def State.activate (s : State) : State :=
  let h := s.hearth
  match h.activating with
  | none => s
  | some c =>
    if h.mode = .firmwareUpdate ∨ h.running.any fun x => !sameCaller x.1 c.via c.seq then s
    else
      ((({ s with hearth := { h with leftMode := h.mode } }).setMode .firmwareUpdate).setReady false).emit (.flesoRestart (!h.runningSlot))

/-- Serve what waits, or the activation that waits for the commands that run. -/
def State.serve (s : State) : State := (s.serveHeads (s.hearth.waiting.length + 1)).activate

/-- The commands that Fleso takes after a Halt (R731). -/
def haltOps : List (BitVec 16) := [0x0001, 0x0002, 0x0901, 0x0902, 0x0906]

/-- One Fleso command (R10, R22, R613, R623): taken when it heads its arrival point, checked for mode, authority and
layout, then its effect and its answer. A command that does not wait, or not first, changes nothing. Which error answers a command that
has several the spec does not say: DESIGN CHOICE, wrong_mode, then no_authority, then wrong_state after a Halt, then bad_argument
(assumption log 103). -/
def State.fleso (s : State) (c : Call) (op : BitVec 16) (may : Auth → Bool) (body : Auth → State → State × Reply) :
    Host.Outcome State Fault Refusal :=
  match s.front c.via c.seq op with
  | none => .next s
  | some q =>
    let a := s.authOf c.via
    let s := s.take q
    if s.modeRefuses a op then
      .next (s.reply c op (.errD eWrongMode (leBytes 1 (modeCode s.hearth.mode)))).serve
    else if !may a then .next (s.reply c op (.err eNoAuthority)).serve
    else if s.quench.halted && !haltOps.contains op then .next (s.reply c op (.err eWrongState)).serve
    else
      match c.malformed with
      | some o => .next (s.reply c op (.badAt o.toNat)).serve
      | none =>
        let r := body a s
        .next (r.1.reply c op r.2).serve

/-- The image in a slot of the boot flash (R636). -/
def Hearth.slotImage (h : Hearth) (b : Bool) : List Byte :=
  let x := if b then h.slotB else h.slotA
  if x.isEmpty then Config.factoryImage b else x

/-! ### Mailboxes (R605-R610) -/

/-- A header field that breaks R611, by its offset: reserved bits, or arg_len against the 1,008 bytes there are. -/
def badHeader (r : ReqHdr) : Option Nat :=
  if r.reserved ≠ 0 then some (if bits r.reserved 5 0 ≠ 0 then 2 else if bits r.reserved 19 6 ≠ 0 then 8 else 12)
  else if 1008 < r.argLen.toNat then some 2
  else none

/-- A command as it waits. -/
def qcmdOf (via : Arrival) (r : ReqHdr) : QCmd :=
  { via, opcode := r.opcode, seq := r.seq, target := r.target, forward := r.forward, args := r.args, badAt := badHeader r }

/-- Slots of a function's mailbox (R606). -/
def slotsOf (f : Fn) : Nat := if f.vf.isNone then 30 else 4

/-- Whether a slot write asks for exactly one action, at bit b of 2, 3, 4, as R607 wants it. -/
def slotWrite (f : Fn) (slot : Nat) (value : Word) (whole : Bool) (b : Nat) : Bool :=
  whole && slot < slotsOf f && bits value 4 2 == 2 ^ (b - 2)

/-- The Notice of a write that R23 or R607 discards. -/
def State.badWrite (s : State) : State := s.raiseAt 1228 0

/-- A slot of a mailbox. -/
def State.slot (s : State) (f : Fn) (n : Nat) : Slot := tgetD (s.mbox f).slots n {}
/-- Change a slot. -/
def State.setSlot (s : State) (f : Fn) (n : Nat) (x : Slot) : State :=
  s.modMbox f fun m => { m with slots := tset m.slots n x }

/-- R607, R608: submit moves a free slot to submitted; the command waits for Fleso. -/
def execMboxSubmit (fn : Fn) (slot : Nat) (value : Word) (whole : Bool) (req : ReqHdr) (s : State) :
    Host.Outcome State Fault Refusal :=
  let x := s.slot fn slot
  if slotWrite fn slot value whole 2 ∧ x.state = .free then
    let s := s.setSlot fn slot { x with state := .submitted, seq := req.seq }
    .next ({ s with hearth := { s.hearth with queue := s.hearth.queue ++ [qcmdOf (.mailbox fn slot) req] } }).serve
  else .next s.badWrite

/-- R608: release frees a done slot and zeroes its response area. -/
def execMboxRelease (fn : Fn) (slot : Nat) (value : Word) (whole : Bool) (s : State) : Host.Outcome State Fault Refusal :=
  let x := s.slot fn slot
  if slotWrite fn slot value whole 3 ∧ x.state = .done then
    .next (s.setSlot fn slot { x with state := .free, resp := none })
  else .next s.badWrite

/-- R606: withdraw returns a submitted slot to free, its command unexecuted. -/
def execMboxWithdraw (fn : Fn) (slot : Nat) (value : Word) (whole : Bool) (s : State) : Host.Outcome State Fault Refusal :=
  let x := s.slot fn slot
  if slotWrite fn slot value whole 4 ∧ x.state = .submitted then
    let s := s.setSlot fn slot { x with state := .free }
    .next ({ s with hearth := { s.hearth with queue := s.hearth.queue.filter fun q => q.via != Arrival.mailbox fn slot } }).serve
  else .next s.badWrite

/-- R610: the driver consumes events; a head beyond ev_tail is ignored. Event 0x0007 takes the first free position when
events were lost. -/
def execEvHeadWrite (fn : Fn) (head : BitVec 32) (s : State) : Host.Outcome State Fault Refusal :=
  let m := s.mbox fn
  if (m.evTail - m.evHead).toNat < (head - m.evHead).toNat then .next s
  else
    let m := { m with evHead := head }
    if m.lost ≠ 0 && m.hasRoom then
      let e : Event := { time := s.time.now, code := 0x0007, object := 0, detail := m.lost.zeroExtend 128 }
      .next ((s.modMbox fn fun _ => { m.put e with lost := 0 }).signal fn 0)
    else .next (s.modMbox fn fun _ => m)

/-- A function's slots are freed (R609): submitted commands are withdrawn, the responses of running ones discarded, its
staging buffers freed (R628). -/
def State.freeSlots (s : State) (f : Fn) : State :=
  let mine := fun (a : Arrival) => sameArrival a (.mailbox f 0)
  let s := s.modMbox f fun m => { m with slots := [] }
  { s with hearth := { s.hearth with
      queue := s.hearth.queue.filter (fun q => !mine q.via),
      staging := s.hearth.staging.filter (fun e => !mine e.2.owner) } }

/-! ### MGMT_CMD, MGMT_RESP, the sideband (R616-R619, R622) -/

/-- The request that a MGMT_CMD's payload holds (R611, R616). -/
def reqOf (bs : List Byte) : ReqHdr :=
  let h := leAt bs 0 16
  { opcode := BitVec.ofNat 16 h, argLen := BitVec.ofNat 10 (fieldAt h 16 10), seq := BitVec.ofNat 32 (fieldAt h 32 32),
    target := BitVec.ofNat 17 (fieldAt h 64 17), forward := fieldAt h 81 1 == 1,
    reserved := BitVec.ofNat 52 (packFields [(6, fieldAt h 26 6), (14, fieldAt h 82 14), (32, fieldAt h 96 32)]),
    args := bs.drop 16 }

/-- R616, R622: a Fleso request arrives for agent 0. On F0-F62 a full fabric queue answers busy. -/
def execMgmtCmd (port : Nat) (p : Packet) (s : State) : Host.Outcome State Fault Refusal :=
  if !s.routing.arrivals.contains (port, p) || p.pktType != 0x10 then .next s
  else
    let s := s.takeArrival p
    let r := reqOf p.payload
    let via := if port = 63 then Arrival.f63 p.src else .fabric port p.src
    let q := qcmdOf via r
    let q := if q.badAt.isNone ∧ r.argLen.toNat ≠ r.args.length then { q with badAt := some 2 } else q
    let h := s.hearth
    if port = 63 then .next ({ s with hearth := { h with queue := h.queue ++ [q] } }).serve
    else if h.fabricQueue.length < 1024 then .next ({ s with hearth := { h with fabricQueue := h.fabricQueue ++ [q] } }).serve
    else .next (({ s with hearth := { h with fabricBusy := satInc h.fabricBusy } }).answer via r.seq r.opcode 0x0e [])

/-- The response that a MGMT_RESP's payload holds (R612). -/
def respOf (bs : List Byte) : Resp :=
  { opcode := BitVec.ofNat 16 (leAt bs 0 2), seq := BitVec.ofNat 32 (leAt bs 4 4), error := BitVec.ofNat 8 (leAt bs 8 1),
    result := sliceBytes bs 32 (leAt bs 2 2 % 1024), take := BitVec.ofNat 64 (leAt bs 16 8),
    done := BitVec.ofNat 64 (leAt bs 24 8) }

/-- R618: a sideband request; a kept seq draws its kept response again. -/
def execMctpRequest (eid : BitVec 8) (req : ReqHdr) (s : State) : Host.Outcome State Fault Refusal :=
  match s.hearth.keptResp.find? fun e => e.1 == eid && e.2.seq == req.seq with
  | some e =>
    .next (({ s with hearth := { s.hearth with sidebandRepeats := satInc s.hearth.sidebandRepeats } }).emit (.mctp eid e.2))
  | none =>
    .next ({ s with hearth := { s.hearth with queue := s.hearth.queue ++ [qcmdOf (.sideband eid) req] } }).serve

end Sys2Proof.Machine
end

