-- ==== Sys2Proof/Machine/Windows.lean ====
section
/-! DEFINITION. What a function's BAR0 holds (R23, R257-R260, R304, R605-R612): its regions, and what a host reads there. -/

namespace Sys2Proof.Machine

open Sys2Proof

/-- The regions of a BAR0 (R257, R258). -/
inductive Window where
  | identity | doorbell | mailbox | component | device | msixTable | msixPba
  deriving DecidableEq, Repr

/-- The regions of a physical or virtual function's BAR0 as (offset, size, region) (R257, R258, R605). -/
def regions (vf : Bool) : List (Nat × Nat × Window) :=
  if vf then
    [(0x0000, 0x1000, .identity), (0x1000, 0x1000, .doorbell), (0x2000, 0x3000, .mailbox), (0x8000, 0x1000, .msixTable), (0xc000, 0x20, .msixPba)]
  else
    [(0x0000, 0x1000, .identity), (0x1000, 0x1000, .doorbell), (0x10000, 0x10000, .mailbox), (0x100000, 0x10000, .component),
     (0x200000, 0x1000, .device), (0x1000000, 0x8000, .msixTable), (0x1008000, 0x100, .msixPba)]

/-- The region of an offset in BAR0, with the offset in it; none where BAR0 is undefined. -/
def windowOf (f : Fn) (o : Nat) : Option (Window × Nat) :=
  ((regions f.vf.isSome).find? fun r => decide (r.1 ≤ o ∧ o < r.1 + r.2.1)).map fun r => (r.2.2, o - r.1)

/-! ### The identity and status page -/

/-- HUB.MODULE_ID (R47). -/
def State.moduleIdWord (s : State) : Nat := s.routing.moduleId.toNat + 2 ^ 31 * bnat s.routing.idValid

/-- HUB.MACHINE_SHAPE (R48). -/
def State.shapeWord (s : State) : Nat :=
  let r := s.routing
  packFields [(4, r.mMinus1.toNat), (4, 0), (5, r.gMinus1.toNat), (3, 0), (8, r.pMinus1.toNat), (8, 0), (9, r.ws.toNat), (7, 0), (14, r.wg.toNat)]

/-- HOST.PORT_STATE as a function reads it (R260). -/
def State.portStateWord (s : State) (f : Fn) : Nat :=
  let h := s.port f.port
  packFields [(1, bnat h.present), (1, bnat h.linkUp), (2, h.flitMode.toNat), (1, bnat h.rate64), (2, h.width.toNat), (1, bnat h.cacheEnabled),
    (1, bnat h.memEnabled), (1, bnat h.ideActive), (1, bnat (f == fnH0 && s.h0Manager)), (3, h.lastCause.toNat), (2, f.port), (16, h.vanishCount.toNat)]

/-- The identity and status page of a function (R206, R259). -/
def State.pageReg (s : State) (f : Fn) (off : Nat) : Option Nat :=
  match off with
  | 0x00 => some Config.hubId.toNat
  | 0x08 => some s.moduleIdWord
  | 0x10 => some s.shapeWord
  | 0x18 => some s.time.now.toNat
  | 0x20 => some (s.portStateWord f)
  | _ => none

/-! ### The mailbox (R605, R606, R610) -/

/-- authority of MBOX.INFO. -/
def authCode : Auth → Nat
  | .manager => 1
  | .host _ => 2
  | .inst _ => 3
  | _ => 0

/-- MBOX.INFO. -/
def State.mboxInfo (s : State) (f : Fn) : Nat :=
  let h := s.hearth
  packFields [(5, slotsOf f), (1, bnat h.ready), (3, authCode (s.authOf (.mailbox f 0))), (4, if h.ready then modeCode h.mode else 0), (19, 0),
    (32, h.version.toNat)]

/-- MBOX.SLOT. -/
def Slot.word (x : Slot) : Nat :=
  let code := match x.state with
    | .free => 0
    | .submitted => 1
    | .running => 2
    | .done => 3
  packFields [(2, code), (14, 0), (32, x.seq.toNat)]

/-- The 32 bytes of an event (R610). -/
def Event.bytes (e : Event) : List Byte :=
  leBytes 8 e.time.toNat ++ leBytes 2 e.code.toNat ++ leBytes 2 0 ++ leBytes 4 e.object.toNat ++ leBytes 16 e.detail.toNat

/-- The 8 bytes of a mailbox at an offset; a request area holds what the driver wrote, which no command carries (assumption log 116). -/
def State.mboxWord (s : State) (f : Fn) (o : Nat) : Nat × State :=
  let m := s.mbox f
  let slot := (o - 0x1000) / 0x800
  if o = 0 then (s.mboxInfo f, s)
  else if o = 8 then (m.evTail.toNat + 2 ^ 32 * m.evHead.toNat, s)
  else if 0x100 ≤ o ∧ o < 0x100 + 8 * slotsOf f then ((tgetD m.slots ((o - 0x100) / 8) {}).word, s)
  else if 0x800 ≤ o ∧ o < 0x1000 then (((tget m.ring ((o - 0x800) / 32)).map fun e => leAt e.bytes (o % 32) 8).getD 0, s)
  else if 0x1000 ≤ o ∧ slot < slotsOf f then
    if o % 0x800 < 0x400 then s.drawFree (2 ^ 64)
    else ((((tgetD m.slots slot {}).resp).map fun r => leAt (respBytes r) (o % 0x400) 8).getD 0, s)
  else (0, s)

/-! ### Reads and writes of BAR0 -/

/-- The 8 bytes that a host reads at an aligned offset of a function's BAR0 (R23, R206, R259); a register that software only writes reads
zero. A vector's address and data are the host's own writes, which no command carries. -/
def State.barWord (s : State) (f : Fn) (o : Nat) : Nat × State :=
  let m := s.msix f
  match windowOf f o with
  | some (.identity, i) => ((s.pageReg f i).getD 0, s)
  | some (.mailbox, i) => s.mboxWord f i
  | some (.component, _) | some (.device, _) =>
    let c := (s.port f.port).components
    ((tgetD c o 0).toNat + 2 ^ 32 * (tgetD c (o + 4) 0).toNat, s)
  | some (.msixTable, i) =>
    if s.msixSize f ≤ i / 16 then (0, s)
    else if i % 16 = 0 then s.drawFree (2 ^ 64)
    else
      let (d, s) := s.drawFree (2 ^ 32)
      (d + 2 ^ 32 * bnat (!m.unmasked.contains (i / 16)), s)
  | some (.msixPba, i) => (((List.range 64).map fun k => if m.pending.contains (8 * i + k) then 2 ^ k else 0).foldl (· + ·) 0, s)
  | some (.doorbell, _) | none => (0, s)

/-- A host's read of 8 or of 4 bytes (R206): the half of a fresh sample. -/
def State.barRead (s : State) (f : Fn) (o : Nat) (wide : Bool) : Nat × State :=
  let (v, s) := s.barWord f (o / 8 * 8)
  (if wide then v else if o / 4 % 2 = 0 then v % 2 ^ 32 else v / 2 ^ 32, s)

/-- Whether a write at an offset of BAR0 is a row's own: the doorbell register, MBOX.SLOT and ev_head, a vector's control word, a CXL
component or device register. -/
def rowOfWrite (f : Fn) (o : Nat) : Bool :=
  match windowOf f o with
  | some (.doorbell, i) => i < 8
  | some (.mailbox, i) => (decide (12 ≤ i ∧ i < 16) || decide (0x100 ≤ i ∧ i < 0x100 + 8 * slotsOf f)) || decide (0x1000 ≤ i ∧ i % 0x800 < 0x400)
  | some (.msixTable, _) | some (.component, _) | some (.device, _) => true
  | _ => false

/-- R23: a write to an undefined offset, or to a register without a row of its own, is discarded with a Notice. -/
def execRegisterWriteUndefined (fn : Fn) (offset : BitVec 32) (s : State) : Host.Outcome State Fault Refusal :=
  .next (if rowOfWrite fn offset.toNat then s else s.badWrite)

end Sys2Proof.Machine
end

