-- ==== Sys2Proof/Machine/Walk.lean ====
section
/-! DEFINITION. Address translation (12): formats, look-aside entries, walks, accessed and dirty bits, fault logs. -/

namespace Sys2Proof.Machine

open Sys2Proof

/-- TRANS.FORMAT at reset (R539). -/
def formatReset : Word :=
  BitVec.ofNat 64 (packFields [(3, 4), (6, 0), (6, 1), (1, 0), (6, 2), (1, 0), (6, 5), (6, 6), (6, 7), (6, 0), (1, 0), (1, 0), (3, 7)])

/-- The format of a domain. -/
def State.format (s : State) (d : Nat) : Word := tgetD s.trans.formats d formatReset
/-- levels. -/
def fLevels (f : Word) : Nat := bits f 2 0
/-- enabled. -/
def fEnabled (f : Word) : Bool := bit f 52
/-- The physical frame of a domain's top-level table. -/
def State.root (s : State) (d : Nat) : Nat := bits (tgetD s.trans.roots d 0) 51 12 * 4096

/-- The host port that carries a domain's accesses (R507). -/
def State.domainPort (s : State) (d : Nat) : Nat := if d < 1024 then (s.inst d).port.toNat else d - 1024

/-- The index of a virtual address at a level (R510). -/
def vaIndex (va : Word) (level : Nat) : Nat := va.toNat / 2 ^ (12 + 9 * (level - 1)) % 512

/-- Whether an address keeps R511 for a format. -/
def vaOk (f : Word) (va : Word) : Bool :=
  let w := 12 + 9 * fLevels f
  let top := va.toNat / 2 ^ (w - 1)
  top == 0 || top == 2 ^ (65 - w) - 1

/-- Bytes of a leaf by its size code. -/
def pageBytes (size : BitVec 2) : Nat := 4096 * 512 ^ size.toNat

/-- Whether a look-aside entry covers an address. -/
def TlbEntry.covers (e : TlbEntry) (d : Nat) (va : Word) : Bool :=
  e.domain == d && e.va.toNat / pageBytes e.size == va.toNat / pageBytes e.size

/-- The host addresses that the module itself answers, as (base, bytes), seen from port p (R523): BAR0 of the physical and of the
virtual functions of every port (R257, R258), and the ranges of p's HDM decoders: the exposed segments and the report window
(R265-R267). -/
def State.ownRanges (s : State) (p : Nat) : List (Nat × Nat) :=
  s.ports.flatMap (fun e => (e.2.bar0.toList.map fun b => (b.toNat, 0x4000000)) ++ (e.2.vfBar0.toList.map fun b => (b.toNat, 256 * 0x10000))) ++
  (s.port p).hdm.map fun e => (e.2.toNat, (if e.1 = 0 then s.segments.countP fun g => bit g.2 p else 1) * Config.segBytes)

/-- Whether a physical address lies in a device range of a port, a BAR0 of the module or an HDM range of the port (R523). -/
def State.inDevice (s : State) (p pa n : Nat) : Bool :=
  ((s.port p).deviceRanges.any fun r => pa < r.2.1.toNat + 4096 * r.2.2 && r.2.1.toNat < pa + n) ||
  (s.ownRanges p).any fun r => pa < r.1 + r.2 && r.1 < pa + n

/-! ### D2H writes (R261, R271, R286) -/

/-- The writes that bytes at an address take, by 64-byte line: address, bytes, and the byte mask of a line that they do not fill. -/
def lineWrites (a : Nat) (bs : List Byte) : List (Nat × List Byte × Option (BitVec 64)) :=
  (linesOf a bs.length).map fun l =>
    let lo := max a (64 * l)
    let n := min (a + bs.length) (64 * l + 64) - lo
    (lo, sliceBytes bs (lo - a) n, if n = 64 then none else some (BitVec.ofNat 64 ((2 ^ n - 1) * 2 ^ (lo - 64 * l))))

/-- Write bytes to host memory: WOWrInvF for a whole line, WOWrInv with a mask else. Nothing goes to a host that is absent, or that has
begun GPF. -/
def State.writeLines (s : State) (port domain : Nat) (va : Word) (bs : List Byte) (poisoned : Bool) : State :=
  if !s.canWrite port then s
  else (lineWrites va.toNat bs).foldl (fun (s : State) x => s.emit (.hostWrite port domain (BitVec.ofNat 64 x.1) x.2.1 x.2.2 poisoned)) s

/-- The same at a host physical address. -/
def State.writePhys (s : State) (port : Nat) (pa : Word) (bs : List Byte) : State :=
  if !s.canWrite port then s
  else (lineWrites pa.toNat bs).foldl (fun (s : State) x => s.emit (.physWrite port (BitVec.ofNat 64 x.1) x.2.1 x.2.2)) s

/-- A line that RdOwn took enters the device cache Modified (R262); a full cache writes its first line back. -/
def State.cacheLine (s : State) (port line : Nat) (data : Line) : State :=
  let c := (s.port port).cache
  let s := if c.length < Config.cacheLines || (tget c line).isSome then s else match c with
    | [] => s
    | x :: _ => (s.modPort port fun p => { p with cache := tdel p.cache x.1 }).emit (.lineBack port (BitVec.ofNat 64 (64 * x.1)) x.2)
  s.modPort port fun p => { p with cache := tset p.cache line data }

/-- Write a line of the device cache back, where the cache still holds it (R261, R262). -/
def State.lineBack (s : State) (port line : Nat) : State :=
  match tget (s.port port).cache line with
  | none => s
  | some d => (s.modPort port fun p => { p with cache := tdel p.cache line }).emit (.lineBack port (BitVec.ofNat 64 (64 * line)) d)

/-- A D2H request failed under R273: the Mend; the port's silence may follow. -/
def State.noteFailed (s : State) (port : Nat) : State :=
  (s.modPort port fun p => { p with writeFailed := true }).raiseAt (1024 + 32 * port + 2) port

/-- Note the outcome of an access to host memory. -/
def State.noteAccess (s : State) (port : Nat) (acc : Access) : State := if acc = .failed then s.noteFailed port else s

/-- Note the outcome of a read of host memory. -/
def State.noteRead (s : State) (port : Nat) (res : ReadResult) : State := if res = .failed then s.noteFailed port else s

/-! ### Fault logs (R537, R538) -/

/-- The 32-byte record of R538's table. -/
def faultBytes (w : Walk) (cause : BitVec 8) (level : Nat) (now : Ticks) : List Byte :=
  leBytes 8 w.va.toNat ++ leBytes 8 now.toNat ++ leBytes 2 w.domain ++ leBytes 1 cause.toNat ++
  leBytes 1 (packFields [(2, w.access.toNat), (1, bnat w.remote), (3, level)]) ++ leBytes 4 w.who.toNat ++
  leBytes 4 w.which.toNat ++ leBytes 4 0

/-- Log a fault in its domain's log (R537); a full log makes the K64 read head again, whose value is the host's (assumption
log 49). The log is written through the domain itself (R508): where that faults, the fault only counts as lost (R538). -/
def State.logFault (s : State) (w : Walk) (cause : BitVec 8) (level : Nat) : State :=
  match tget s.trans.logs w.domain with
  | none => s
  | some l =>
    let p := s.domainPort w.domain
    let put := fun (s : State) (l : FaultLog) => { s with trans := { s.trans with logs := tset s.trans.logs w.domain l } }
    let f := s.format w.domain
    let full := decide (l.size ≤ l.tail - l.head)
    let (d, s) := if full then s.drawFree (l.tail - l.head + 1) else (0, s)
    let l := { l with head := l.head + d }
    if !fEnabled f ∨ !vaOk f l.base then put s { l with lost := l.lost + 1 }
    else if l.tail - l.head < l.size then
      let at_ := l.base + BitVec.ofNat 64 (64 + 32 * (l.tail % l.size))
      let s := s.writeLines p w.domain at_ (faultBytes w cause level s.time.now) false
      put (s.writeLines p w.domain l.base (leBytes 8 (l.tail + 1)) false) { l with tail := l.tail + 1 }
    else
      put (s.writeLines p w.domain (l.base + 16) (leBytes 8 (l.lost + 1)) false) { l with lost := l.lost + 1 }

/-! ### Walks (R516-R526) -/

/-- Change a walk. -/
def State.setWalk (s : State) (w : Walk) : State :=
  { s with trans := { s.trans with active := s.trans.active.map fun x => if x.id = w.id then w else x } }

/-- End a walk. -/
def State.endWalk (s : State) (id : Nat) : State :=
  { s with trans := { s.trans with active := s.trans.active.filter fun x => x.id != id } }

/-- A page of a lock faults (R518, R530): a TRANS_LOCK is refused whole; a locked entry that an invalidation removed is gone. -/
def State.lockFail (s : State) (id : Nat) (cause : BitVec 8) : State :=
  match s.trans.locks.find? fun j => j.id == id with
  | none => s
  | some j =>
    let s := { s with trans := { s.trans with locks := s.trans.locks.filter fun x => x.id != id } }
    match j.call with
    | some c => s.answer c.via c.seq 0x0703 eFault (leBytes 8 cause.toNat ++ leBytes 8 j.next.toNat)
    | none =>
      let s := { s with trans := { s.trans with lockDrops := satInc s.trans.lockDrops } }
      let s := s.raise { source := 1328, inst := if j.domain < 1024 then some j.domain else none, addr := some j.next }
      let x := s.inst j.domain
      s.signal (if j.domain < 1024 then { port := x.port.toNat, vf := if x.bound then some x.vf.toNat else none }
                else { port := j.domain - 1024, vf := none }) 1

/-- A walk that serves a lock fails it. -/
def State.failLock (s : State) (w : Walk) (cause : BitVec 8) : State :=
  match w.lock with
  | some id => s.lockFail id cause
  | none => s

/-- A walk faults (R517, R536): nothing is installed, the fault is counted and logged. -/
def State.walkFault (s : State) (w : Walk) (cause : BitVec 8) (level : Nat) : State :=
  let s := s.endWalk w.id
  let s := if w.domain < 1024 then s.count 0x0062 w.domain 0 1 else s
  (({ s with trans := { s.trans with faults := satInc s.trans.faults } }).logFault w cause level).failLock w cause

/-- inv_gen of a quadrant. -/
def State.invGen (s : State) (q : Nat) : BitVec 32 := tgetD s.trans.invGen q 0

/-- The check of R514: the fault cause of an entry. -/
def entryFault (f : Word) (e : Word) (access : BitVec 2) : Option (BitVec 8) :=
  if !bit e (bits f 8 3) then some 1
  else if bit f 22 && !bit e (bits f 21 16) then some 3
  else if access ≠ 0 ∧ bit e (bits f 14 9) = bit f 15 then some 2
  else none

/-- Frame address of an entry (R512). -/
def entryFrame (e : Word) : Nat := bits e 51 12 * 4096

/-- The descent that the walk cache allows: level and table address to read next; n bounds the loop. -/
def State.cached (s : State) (f : Word) (w : Walk) : Nat → Nat → Nat → Nat × Nat
  | 0, level, pa => (level, pa)
  | n + 1, level, pa =>
    match s.trans.cache.find? fun c => c.quad == w.quad && c.domain == w.domain && c.level == level &&
        c.index == w.va.toNat / 2 ^ (12 + 9 * (level - 1)) with
    | none => (level, pa)
    | some c => if (entryFault f c.entry w.access).isSome then (level, pa) else s.cached f w n (level - 1) (entryFrame c.entry)

/-- Read the table entry of a walk's level, or fault on a device region (R520, R523). -/
def State.readEntry (s : State) (w : Walk) : State :=
  let at_ := w.pa + 8 * vaIndex w.va w.level
  let p := s.domainPort w.domain
  if s.inDevice p at_ 8 then s.walkFault w 6 w.level
  else (s.setWalk w).addD2h p { tag := .walk w.id, reads := [(w.domain, BitVec.ofNat 64 (at_ / 64 * 64), 64)] }

/-- Begin a walk's procedure at its root, or where the walk cache lets it begin (R516, R520). -/
def State.walkFrom (s : State) (w : Walk) : State :=
  let f := s.format w.domain
  let (level, pa) := s.cached f w 4 (fLevels f) (s.root w.domain)
  s.readEntry { w with gen := s.invGen w.quad, level, pa, entry := none, owned := false }

/-- Restart a walk (R524, R526). -/
def State.walkRestart (s : State) (w : Walk) : State :=
  ({ s with trans := { s.trans with restarts := satInc s.trans.restarts } }).walkFrom w

/-- Walks outstanding in a quadrant. -/
def State.walksIn (s : State) (q : Nat) : Nat := s.trans.active.countP fun x => x.quad == q

/-- Begin a walk, or hold it while its quadrant has 64 (R521). -/
def State.beginWalk (s : State) (w : Walk) : State :=
  if 64 ≤ s.walksIn w.quad then { s with trans := { s.trans with held := s.trans.held ++ [w] } }
  else ({ s with trans := { s.trans with walks := satInc s.trans.walks, active := s.trans.active ++ [w] } }).walkFrom w

/-- Begin the walks that a quadrant has room for again; n bounds the loop. -/
def State.startHeld (s : State) : Nat → State
  | 0 => s
  | n + 1 =>
    match s.trans.held.find? fun w => decide (s.walksIn w.quad < 64) with
    | none => s
    | some w => (({ s with trans := { s.trans with held := s.trans.held.erase w } }).beginWalk w).startHeld n

/-- Look an address up for an access (R515, R516, R521, R525); a miss begins a walk, or waits for one for its page that is under
way. -/
def State.touchPage (s : State) (d : Nat) (va : Word) (access : BitVec 2) (who : BitVec 29) (which : BitVec 32) (remote : Bool) : State :=
  let f := s.format d
  let (q, s) := s.drawFree 4
  let s := if d < 1024 then s.count 0x0060 d 0 1 else s
  let w : Walk := { id := s.trans.nextWalk, quad := q, domain := d, va, access, gen := s.invGen q, pa := 0, level := 0, who, which, remote }
  if !fEnabled f then s.logFault w 10 0
  else if !vaOk f va then s.logFault w 7 0
  else
    match s.trans.tlb.find? fun e => e.quad == q && e.covers d va && (access == 0 || (e.writeOk && e.dirtySeen)) with
    | some e =>
      { s with trans := { s.trans with
          stamp := s.trans.stamp + 1,
          tlb := s.trans.tlb.map fun x => if x = e then { x with used := s.trans.stamp } else x } }
    | none =>
      let s := if d < 1024 then s.count 0x0061 d 0 1 else s
      if (s.trans.active ++ s.trans.held).any fun x => x.quad == q && x.domain == d && x.va.toNat / 4096 == va.toNat / 4096 && x.access == access
      then s
      else ({ s with trans := { s.trans with nextWalk := s.trans.nextWalk + 1 } }).beginWalk w

/-- Look up every page of an access. -/
def State.touch (s : State) (d : Nat) (va : Word) (len : Nat) (access : BitVec 2) (who : BitVec 29) (which : BitVec 32) (remote : Bool) : State :=
  if len = 0 then s
  else
    let first := va.toNat / 4096
    let last := (va.toNat + len - 1) / 4096
    (List.range (last + 1 - first)).foldl (fun s i => s.touchPage d (BitVec.ofNat 64 ((first + i) * 4096)) access who which remote) s

/-- Put a look-aside entry in, evicting the least recently used unlocked way of a full set (R515, R516); a locked entry of the page stays
locked (R519). -/
def State.install (s : State) (e : TlbEntry) : State :=
  let set_ := fun (x : TlbEntry) => Config.tlbSet x.domain (x.va.toNat / pageBytes x.size) % 1024
  let same := fun (x : TlbEntry) => x.quad == e.quad && x.domain == e.domain && x.size == e.size && x.va == e.va
  let locked := e.locked || s.trans.tlb.any fun x => same x && x.locked
  let others := s.trans.tlb.filter fun x => !same x
  let ways := others.filter fun x => x.quad == e.quad && set_ x == set_ e
  let evict := (ways.filter (!·.locked)).foldl (fun (m : Option TlbEntry) x =>
    match m with
    | some y => if x.used < y.used then some x else m
    | none => some x) none
  let kept := if ways.length < 16 then others else match evict with
    | some v => others.erase v
    | none => others
  { s with trans := { s.trans with stamp := s.trans.stamp + 1, tlb := kept ++ [{ e with locked, used := s.trans.stamp }] } }

/-- The look-aside entry that a walk's leaf makes. -/
def Walk.entryOf (w : Walk) (f e : Word) : TlbEntry :=
  let size : BitVec 2 := BitVec.ofNat 2 (w.level - 1)
  { quad := w.quad, domain := w.domain, va := BitVec.ofNat 64 (w.va.toNat / pageBytes size * pageBytes size), size,
    frame := BitVec.ofNat 64 (entryFrame e), writeOk := w.access != 0,
    dirtySeen := w.access != 0 || bit e (bits f 34 29) }

/-- An instance's grant of a row of R547. -/
def State.grant (s : State) (i row : Nat) : Nat := (s.inst i).grants.getD row (if row = 8 then 1 else 0)

/-- Locked entries of a quadrant. -/
def State.lockedIn (s : State) (q : Nat) : Nat := (s.trans.tlb.filter fun e => e.quad == q && e.locked).length

/-- Walk the next page of a lock (R518, R530). -/
def State.lockWalk (s : State) (j : LockJob) : State :=
  let (q, s) := s.drawFree 4
  let w : Walk := { id := s.trans.nextWalk, quad := q, domain := j.domain, va := j.next, access := if j.write then 1 else 0, gen := s.invGen q,
                    pa := 0, level := 0, lock := some j.id }
  let f := s.format j.domain
  if !fEnabled f then (s.logFault w 10 0).lockFail j.id 10
  else if !vaOk f j.next then (s.logFault w 7 0).lockFail j.id 7
  else ({ s with trans := { s.trans with nextWalk := s.trans.nextWalk + 1 } }).beginWalk w

/-- Why a lock of the pages found is refused (R518, R547): the grant of entries, 4,096 in a quadrant, 8 ways in a set. -/
def State.lockRefused (s : State) (domain : Nat) (l : List (Word × Word × BitVec 2)) : Option Reply :=
  let isNew := fun (e : Word × Word × BitVec 2) =>
    !(s.trans.tlb.any fun x => x.quad == 0 && x.domain == domain && x.locked && x.va == e.1 && x.size == e.2.2)
  let fresh := l.filter isNew
  let mine := (s.trans.tlb.filter fun e => e.domain == domain && e.locked && e.quad == 0).length
  let setOf := fun (d : Nat) (v : Word) (z : BitVec 2) => Config.tlbSet d (v.toNat / pageBytes z) % 1024
  let crowded := l.any fun e =>
    decide (8 < (fresh.filter fun x => setOf domain x.1 x.2.2 == setOf domain e.1 e.2.2).length +
      (s.trans.tlb.filter fun x => x.quad == 0 && x.locked && setOf x.domain x.va x.size == setOf domain e.1 e.2.2).length)
  if domain < 1024 ∧ s.grant domain 6 < mine + fresh.length then some (.grant 6)
  else if 4096 < s.lockedIn 0 + fresh.length ∨ crowded then some (.pool 6)
  else none

/-- Install pages locked, in all four quadrants. -/
def State.lockPages (s : State) (j : LockJob) : State :=
  j.found.foldl (fun (s : State) e => (List.range 4).foldl (fun (s : State) q =>
    s.install { quad := q, domain := j.domain, va := e.1, size := e.2.2, frame := e.2.1, writeOk := j.write, dirtySeen := j.write, locked := true }) s) s

/-- A page of a lock is found: the next one is walked; with the last one the pages are locked, or the whole command refused (R518). -/
def State.lockFound (s : State) (id : Nat) (e : TlbEntry) : State :=
  match s.trans.locks.find? fun j => j.id == id with
  | none => s
  | some j =>
    let j := { j with next := BitVec.ofNat 64 (e.va.toNat + pageBytes e.size), left := j.left - 1, found := j.found ++ [(e.va, e.frame, e.size)] }
    if j.left ≠ 0 then ({ s with trans := { s.trans with locks := s.trans.locks.map fun (x : LockJob) => if x.id = id then j else x } }).lockWalk j
    else
      let s := { s with trans := { s.trans with locks := s.trans.locks.filter fun x => x.id != id } }
      match j.call with
      | none => s.lockPages j
      | some c =>
        match s.lockRefused j.domain j.found with
        | some r => s.reply c 0x0703 r
        | none => (s.lockPages j).answer c.via c.seq 0x0703 0 []

/-- A walk ends at its leaf: what it found is installed (R520), or goes to the lock that it serves. -/
def State.walkDone (s : State) (w : Walk) (e : TlbEntry) : State :=
  match w.lock with
  | some id => (s.endWalk w.id).lockFound id e
  | none => (s.endWalk w.id).install e

/-- A non-leaf entry is passed: cached (R516), and the next level is read. -/
def State.descend (s : State) (w : Walk) (e : Word) : State :=
  let c : WalkCache := { quad := w.quad, domain := w.domain, level := w.level, index := w.va.toNat / 2 ^ (12 + 9 * (w.level - 1)), entry := e }
  let mine := s.trans.cache.filter fun x => x.quad == w.quad
  let (i, s) := if 256 ≤ mine.length then s.drawFree 256 else (0, s)
  let kept := if 256 ≤ mine.length then (match mine[i]? with
    | some x => s.trans.cache.erase x
    | none => s.trans.cache) else s.trans.cache
  let s := { s with trans := { s.trans with cache := kept ++ [c] } }
  s.readEntry { w with pa := entryFrame e, level := w.level - 1, entry := none, owned := false }

/-- The bits of a leaf or table entry that a walk must set (R520, R524). -/
def neededBits (f e : Word) (leaf : Bool) (access : BitVec 2) : Word :=
  let a : Word := 1#64 <<< bits f 28 23
  let d : Word := 1#64 <<< bits f 34 29
  if leaf then (a ||| (if access ≠ 0 then d else 0)) &&& ~~~e
  else if bit f 48 then a &&& ~~~e else 0

/-- Whether an entry of a level is a leaf (R512). -/
def isLeaf (f e : Word) (level : Nat) : Bool := level == 1 || bit e (bits f 40 35)

/-- The checks of a leaf (R512, R513, R523): its fault cause. -/
def State.leafFault (s : State) (w : Walk) (f e : Word) : Option (BitVec 8) :=
  let n := 4096 * 512 ^ (w.level - 1)
  if 4 ≤ w.level ∨ !bit f (49 + (w.level - 1)) ∨ entryFrame e % n ≠ 0 then some 11
  else if (bit f 47 && bit e (bits f 46 41)) || s.inDevice (s.domainPort w.domain) (entryFrame e) n then some 6
  else none

/-- What a walk's end lets go on: the walks that were held, and the commands that a lock kept waiting. -/
def State.resumeWalks (s : State) : State := (s.startHeld s.trans.held.length).serve

/-- A table-entry read returns (R520-R523). A domain disabled meanwhile ends the walk (R509). -/
def State.entryIn (s : State) (id : Nat) (entry : ReadResult) : State :=
  match s.trans.active.find? fun w => w.id == id && w.entry.isNone && s.reading (s.domainPort w.domain) (.walk id) with
  | none => s
  | some w =>
    let s := (s.dropD2h (s.domainPort w.domain) (.walk id)).noteRead (s.domainPort w.domain) entry
    if !fEnabled (s.format w.domain) then s.walkFault w 10 0
    else
      match entry with
      | .failed => s.walkFault w 4 w.level
      | .fault _ => s.walkFault w 4 w.level
      | .data bs poisoned =>
        let f := s.format w.domain
        let e : Word := BitVec.ofNat 64 (leAt bs 0 8)
        if poisoned then s.walkFault w 5 w.level
        else
          match entryFault f e w.access with
          | some c => s.walkFault w c w.level
          | none =>
            let leaf := isLeaf f e w.level
            match (if leaf then s.leafFault w f e else none) with
            | some c => s.walkFault w c w.level
            | none =>
              if neededBits f e leaf w.access ≠ 0 then
                let p := s.domainPort w.domain
                let at_ := w.pa + 8 * vaIndex w.va w.level
                (s.setWalk { w with entry := some e }).addD2h p
                  { tag := .adLine id, own := true, reads := [(w.domain, BitVec.ofNat 64 (at_ / 64 * 64), 64)] }
              else if w.gen ≠ s.invGen w.quad then s.walkRestart w
              else if leaf then s.walkDone w (w.entryOf f e)
              else s.descend w e

/-- R520-R523: a table-entry read returns. -/
def execWalkEntryRead (id : Nat) (entry : ReadResult) (s : State) : Host.Outcome State Fault Refusal :=
  .next (s.entryIn id entry).resumeWalks

/-- The 8-byte entry at index i of a line. -/
def lineEntry (l : Line) (i : Nat) : Word := BitVec.ofNat 64 (fieldAt l.toNat (64 * i) 64)

/-- The RdOwn of an entry's line returns (R524, R534): an entry that changed releases the line and restarts the walk, faulting at the
eighth try; else the bits are set in the line, which the device cache holds Modified until it is written back (R262). -/
def State.adOwned (s : State) (p : Nat) (w : Walk) (line : Line) : State :=
  let at_ := w.pa + 8 * vaIndex w.va w.level
  let i := at_ % 64 / 8
  let e := w.entry.getD 0
  let f := s.format w.domain
  if !fEnabled f then (s.emit (.lineRelease p (BitVec.ofNat 64 (at_ / 64 * 64)))).walkFault w 10 0
  else if lineEntry line i ≠ e then
    let s := s.emit (.lineRelease p (BitVec.ofNat 64 (at_ / 64 * 64)))
    let w := { w with tries := w.tries + 1 }
    if w.tries = 8 then s.walkFault w 9 w.level else s.walkRestart w
  else
    let e' := e ||| neededBits f e (isLeaf f e w.level) w.access
    (s.setWalk { w with entry := some e', owned := true }).cacheLine p (at_ / 64)
      (BitVec.ofNat 512 (line.toNat - e.toNat * 2 ^ (64 * i) + e'.toNat * 2 ^ (64 * i)))

/-- The line is written back, unless a snoop already has, and the walk goes on (R524, R526). -/
def State.adDone (s : State) (p : Nat) (w : Walk) : State :=
  let e := w.entry.getD 0
  let f := s.format w.domain
  let s := s.lineBack p ((w.pa + 8 * vaIndex w.va w.level) / 64)
  if !fEnabled f then s.walkFault w 10 0
  else if w.gen ≠ s.invGen w.quad then s.walkRestart w
  else if isLeaf f e w.level then s.walkDone w (w.entryOf f e)
  else s.descend w e

/-- R524, R526, R534: the RdOwn of an entry's line returns; then the line is written back, and the walk goes on. -/
def execAdUpdateLine (id : Nat) (line : Line) (s : State) : Host.Outcome State Fault Refusal :=
  match s.trans.active.find? fun w => w.id == id && w.entry.isSome with
  | none => .next s
  | some w =>
    let p := s.domainPort w.domain
    if w.owned then .next (s.adDone p w).resumeWalks
    else if s.reading p (.adLine id) then .next ((s.dropD2h p (.adLine id)).adOwned p w line).resumeWalks
    else .next s

/-- Remove a domain's entries, locked ones included (R519), and its walk-cache entries. -/
def State.dropDomain (s : State) (d : Nat) : State :=
  { s with trans := { s.trans with
      tlb := s.trans.tlb.filter (fun e => e.domain != d), cache := s.trans.cache.filter (fun e => e.domain != d) } }

/-- Disable a domain (R509). -/
def State.disableDomain (s : State) (d : Nat) : State :=
  (({ s with trans := { s.trans with formats := tset s.trans.formats d (s.format d &&& ~~~(1#64 <<< 52)) } }).dropDomain d)

/-- Read host memory through a domain: the lookup, the D2H read outstanding (R261, R263). -/
def State.hostRead (s : State) (port : Nat) (tag : D2hTag) (domain : Nat) (va : Word) (len : Nat) (who : BitVec 29) (which : BitVec 32) : State :=
  (s.touch domain va len 0 who which false).addD2h port { tag, reads := [(domain, va, len)] }

/-- Write host memory through a domain. -/
def State.hostPut (s : State) (port domain : Nat) (va : Word) (bs : List Byte) (poisoned : Bool) (who : BitVec 29)
    (which : BitVec 32) (remote : Bool) : State :=
  (s.touch domain va bs.length 1 who which remote).writeLines port domain va bs poisoned

end Sys2Proof.Machine
end

