-- ==== Sys2Proof/Machine/Rings.lean ====
section
/-! DEFINITION. Work queues, completion rings, doorbells (07), and the tagger's records (R767-R770). -/

namespace Sys2Proof.Machine

open Sys2Proof

/-! ### Sizes, owners, ports -/

/-- Entries of a ring (R294). -/
def ringSize (code : BitVec 4) : Nat := 64 * 2 ^ code.toNat

/-- Occupancy of a work queue (R297). -/
def Wq.occ (w : Wq) : Nat := (w.tail - w.head).toNat

/-- Occupancy of a completion ring (R297), the records whose write is not acknowledged included (assumption log 41). -/
def Cq.occ (c : Cq) : Nat := (c.tail - c.head).toNat + c.writing.length

/-- Parked records (R328): a queue event that waits is none (R331). -/
def Cq.parkedCount (c : Cq) : Nat := (c.parked.filter fun r => r.recKind != 1).length

/-- may_fetch of R330; a ring in error gives its records no position, so that fetching stops once they fill the park (R332). -/
def Cq.mayFetch (c : Cq) : Bool :=
  decide (c.occ + c.parkedCount + c.owed.toNat < ringSize c.sizeCode + Config.parkMax) &&
  (c.state != .error || decide (c.parkedCount + c.owed.toNat < Config.parkMax))

/-- A completion ring. -/
def State.cq (s : State) (r : Nat) : Option Cq := tget s.cqs r

/-- The translation domain of a work queue (R507): its instance's, or the physical function's. -/
def Wq.domain (w : Wq) : Nat := if w.pfHeld then 1024 + w.owner.port else w.inst.toNat
/-- The translation domain of a completion ring. -/
def Cq.domain (c : Cq) : Nat :=
  match c.inst with
  | some i => i
  | none => 1024 + c.owner.port

/-- The instance of a work queue. -/
def Wq.instOf (w : Wq) : Option Nat := if w.pfHeld then none else some w.inst.toNat

/-- Operations in flight in the module (R315). -/
def State.opsInFlight (s : State) : Nat := (s.wqs.map fun e => e.2.open_.length).foldl (· + ·) 0

/-- Packets of an instance that arrive and are held in the module's engines: in its port's ejection queue or in the order
stage. -/
def State.heldPackets (s : State) (i : Nat) : Nat :=
  let ofPkt := fun (p : Packet) => !p.addrForm && !p.mcast && addrInst p.dst == i
  ((s.sched.eject.map fun e => (e.2.filter fun q => ofPkt q.pkt).length).foldl (· + ·) 0) +
  ((s.matching.streams.map fun x => if addrInst x.key.dst = i then (x.held.map fun h => h.packets.length).foldl (· + ·) 0 else 0).foldl (· + ·) 0)

/-- The in-flight count of INST.STATE: fetched descriptors without a record, and incoming packets held here. -/
def State.inFlight (s : State) (i : Nat) : Nat :=
  ((s.wqs.map fun e => if e.2.instOf = some i then e.2.open_.length else 0).foldl (· + ·) 0) + s.heldPackets i

/-! ### Record rings in module memory: a 64-byte header, then records (R537, R770) -/

/-- Append a record to a ring at base with 2^k records; the new tail, or none when it is full and lost counts. -/
def State.ringAppend (s : State) (base k tail : Nat) (rec_ : List Byte) : State × Option Nat :=
  let head := leNat (memRead s.mem (base + 8) 8)
  if tail - head < 2 ^ k then
    let s := s.storeMem (base + 64 + rec_.length * (tail % 2 ^ k)) rec_ false
    (s.storeMem base (leBytes 8 (tail + 1)) false, some (tail + 1))
  else (s.storeMem (base + 16) (leBytes 8 (leNat (memRead s.mem (base + 16) 8) + 1)) false, none)

/-! ### The tagger (R767-R769) -/

/-- Decide on a fetched descriptor (R767, R768). -/
def State.tagFetch (s : State) (q inst : Nat) (index : BitVec 32) (opcode : BitVec 8) : State × Option Nat :=
  let c := s.counters
  let w := c.tagCfg
  if !bit w 0 || !(bit w 16 || bits w 15 6 == inst) then (s, none)
  else
    let l := Config.tagLfsrStep c.lfsr
    let c := { c with lfsr := l }
    if l.toNat % 2 ^ bits w 5 1 ≠ 0 then ({ s with counters := c }, none)
    else if 64 ≤ c.tagged.length then ({ s with counters := { c with tagSkipped := satInc c.tagSkipped } }, none)
    else
      let t : Tagged := { id := c.nextTag, queue := q, inst, index, opcode, fetched := s.time.now }
      ({ s with counters := { c with nextTag := c.nextTag + 1, tagged := c.tagged ++ [t] } }, some c.nextTag)

/-- Change an open tagged operation, named by queue and index. -/
def State.modTag (s : State) (q : Nat) (index : BitVec 32) (f : Tagged → Tagged) : State :=
  { s with counters := { s.counters with tagged := s.counters.tagged.map fun t =>
      if t.queue = q ∧ t.index = index then f t else t } }

/-- The 64-byte record of R769. -/
def tagBytes (t : Tagged) (status : BitVec 8) (recorded : Ticks) : List Byte :=
  leBytes 8 t.fetched.toNat ++ leBytes 2 t.queue ++ leBytes 2 t.inst ++ leBytes 4 t.index.toNat ++
  leBytes 1 t.opcode.toNat ++ leBytes 1 status.toNat ++ leBytes 2 0 ++ leBytes 4 (t.packets % 131072) ++
  leBytes 8 t.translated.toNat ++ leBytes 8 t.firstInject.toNat ++ leBytes 8 t.lastInject.toNat ++
  leBytes 8 t.answered.toNat ++ leBytes 8 recorded.toNat

/-- A tagged operation's record is made (R769): its stage record goes to the tag ring, or is lost (R770). -/
def State.tagDone (s : State) (q : Nat) (index : BitVec 32) (status : BitVec 8) : State :=
  match s.counters.tagged.find? fun t => t.queue == q && t.index == index with
  | none => s
  | some t =>
    let s := { s with counters := { s.counters with tagged := s.counters.tagged.erase t } }
    let w := s.counters.tagRing
    if bits w 36 0 = 0 then s
    else
      match s.ringAppend (bits w 36 0) (bits w 41 37) s.counters.tagTail (tagBytes t status s.time.now) with
      | (s, some n) => { s with counters := { s.counters with tagTail := n } }
      | (s, none) => { s with counters := { s.counters with tagLost := satInc s.counters.tagLost } }

/-! ### Records (R325-R333) -/

/-- The 64 bytes of a record (R325). -/
def Rec.bytes64 (r : Rec) : List Byte :=
  leBytes 8 r.userData.toNat ++ leBytes 4 r.wqIndex.toNat ++ leBytes 2 (r.queue.toNat + 2 ^ 14 * r.recKind.toNat) ++ leBytes 1 r.opcode.toNat ++
  leBytes 1 r.status.toNat ++ leBytes 4 r.bytes.toNat ++ leBytes 4 r.wqHead.toNat ++ leBytes 8 r.time.toNat ++ leBytes 32 r.result.toNat

/-- Whether a ring has a free position to which the module can write now. -/
def State.ringReady (s : State) (c : Cq) : Bool :=
  !s.quench.halted && c.state == .running && decide (c.occ < ringSize c.sizeCode) && s.canWrite c.owner.port

/-- A queue event as it is written: count and head of this moment (R331). -/
def State.fillEvent (s : State) (r : Rec) : Rec × State :=
  if r.recKind ≠ 1 then (r, s)
  else
    match s.wq r.queue.toNat with
    | none => (r, s)
    | some w =>
      let n := ((w.events.find? fun e => e.1 == r.status).map (·.2)).getD r.bytes
      ({ r with bytes := n, wqIndex := w.head, wqHead := w.head },
       s.modWq r.queue.toNat fun w => { w with events := w.events.filter fun e => e.1 != r.status })

/-- Whether a record belongs to an earlier epoch (R333). -/
def State.stale (s : State) (inst : Option Nat) (epoch : BitVec 16) : Bool :=
  match inst with
  | some i => (s.inst i).epoch != epoch
  | none => false

/-- Count a discarded event of an earlier epoch (R555). -/
def State.countStale (s : State) (inst : Option Nat) : State :=
  match inst with
  | some i => s.modInst i fun x => { x with stale := satInc x.stale }
  | none => s

/-- Write parked records while the ring has positions (R329), but for those of an earlier epoch (R333); n bounds the loop. -/
def State.drainRing (s : State) (ring : Nat) : Nat → State
  | 0 => s
  | n + 1 =>
    match s.cq ring with
    | none => s
    | some c =>
      match c.parked with
      | [] => s
      | r :: rs =>
        if s.stale r.inst r.epoch then ((s.modCq ring fun c => { c with parked := rs }).countStale r.inst).drainRing ring n
        else if s.ringReady c then
          let (r, s) := s.fillEvent r
          let at_ := c.tail + BitVec.ofNat 32 c.writing.length
          let s := s.modCq ring fun c => { c with parked := rs, writing := c.writing ++ [r], wbDirty := true }
          let va := c.base + BitVec.ofNat 64 (64 * (at_.toNat % ringSize c.sizeCode))
          ((s.touch c.domain va 64 1 (r.queue.zeroExtend 29) r.wqIndex false).emit (.record ring at_ r r.bytes64)).drainRing ring n
        else s

/-- Drain what is parked. -/
def State.drain (s : State) (ring : Nat) : State :=
  match s.cq ring with
  | none => s
  | some c => s.drainRing ring c.parked.length

/-- Make a record on a ring: written at once, or parked behind what is parked (R327-R329); one of an earlier epoch is
discarded (R333); while the module is halted none is made (R731). -/
def State.makeRec (s : State) (ring : Nat) (r : Rec) : State :=
  if s.quench.halted then s
  else if s.stale r.inst r.epoch then s.countStale r.inst
  else
    let parks := (s.cq ring).any fun c => !(c.parked.isEmpty && s.ringReady c)
    let s := if parks then (r.inst.map fun i => s.count 0x0031 i 0 1).getD s else s
    (s.modCq ring fun c => { c with parked := c.parked ++ [r], wbDirty := true }).drain ring

/-- Set or clear cq_wait of every queue that targets a ring, by R330's test. -/
def State.updateWait (s : State) (ring : Nat) : State :=
  match s.cq ring with
  | none => s
  | some c => { s with wqs := tmap s.wqs fun _ w => if w.cq.toNat = ring then { w with cqWait := !c.mayFetch } else w }

/-- Change owed of a ring (R330). -/
def State.owe (s : State) (ring : Nat) (d : Int) : State :=
  (s.modCq ring fun c => { c with owed := BitVec.ofNat 21 (c.owed.toNat + d).toNat }).updateWait ring

/-- A queue event (R331): a repeat of a pending code counts, a new one takes its place in the ring's order. -/
def State.queueEvent (s : State) (q : Nat) (code : BitVec 8) (count : BitVec 32) : State :=
  match s.wq q with
  | none => s
  | some w =>
    if w.events.any (fun e => e.1 == code) then
      s.modWq q fun w => { w with events := w.events.map fun e => if e.1 = code then (e.1, e.2 + count) else e }
    else
      let r : Rec := { queue := BitVec.ofNat 14 q, recKind := 1, status := code, bytes := count, time := s.time.now,
                       signal := true, inst := w.instOf,
                       epoch := (w.instOf.map fun i => (s.inst i).epoch).getD 0 }
      (s.modWq q fun w => { w with events := w.events ++ [(code, count)] }).makeRec w.cq.toNat r

/-! ### Descriptors (R311-R314) -/

/-- Field of width w at bit lo of a descriptor. -/
def lf (l : Line) (lo w : Nat) : Nat := fieldAt l.toNat lo w
/-- opcode. -/
def dOp (l : Line) : Nat := lf l 0 8
/-- frag. -/
def dFrag (l : Line) : Bool := bit l 8
/-- quiet. -/
def dQuiet (l : Line) : Bool := bit l 9
/-- fence. -/
def dFence (l : Line) : Bool := bit l 10
/-- irq. -/
def dIrq (l : Line) : Bool := bit l 11
/-- length. -/
def dLen (l : Line) : Nat := lf l 32 29
/-- user_data. -/
def dUser (l : Line) : Word := BitVec.ofNat 64 (lf l 64 64)
/-- local_addr. -/
def dAddr (l : Line) : Word := BitVec.ofNat 64 (lf l 128 64)

/-- The status of a descriptor that is malformed by its common fields (R313, R326). -/
def malformedCommon (l : Line) : Option (BitVec 8) :=
  if 0x0a ≤ dOp l then some 0x10
  else if lf l 12 4 ≠ 0 ∨ lf l 25 7 ≠ 0 ∨ lf l 61 3 ≠ 0 then some 0x11
  else if Config.maxLength < dLen l then some 0x12
  else if dFrag l ∧ (lf l 16 9 = 0 ∨ 256 < lf l 16 9) then some 0x12
  else if !dFrag l ∧ lf l 16 9 ≠ 0 then some 0x12
  else if dFrag l ∧ (dAddr l).toNat % 16 ≠ 0 then some 0x12
  else none

/-- Code of a queue's state (R335). -/
def qstateCode : QState → Nat
  | .disabled => 0 | .running => 1 | .error => 2 | .fenced => 3

/-- The write-back word of a work queue (R301). -/
def Wq.wbWord (w : Wq) : Nat := w.head.toNat + 2 ^ 32 * qstateCode w.state
/-- The write-back word of a completion ring (R302). -/
def Cq.wbWord (c : Cq) : Nat := c.tail.toNat + 2 ^ 32 * c.parkedCount

/-- Write a queue's write-back word, where it is behind and its host can be written (R301). -/
def State.writeBackWq (s : State) (n : Nat) : State :=
  match s.wq n with
  | none => s
  | some w =>
    if !w.wbDirty || !s.canWrite w.owner.port then s
    else (s.modWq n fun w => { w with wbDirty := false }).hostPut w.owner.port w.domain w.wb (leBytes 8 w.wbWord) false (BitVec.ofNat 29 n) w.head false

/-- The same for a ring (R302); its signal follows the word that covers its records (R334). -/
def State.writeBackCq (s : State) (n : Nat) : State :=
  match s.cq n with
  | none => s
  | some c =>
    if !c.wbDirty || !s.canWrite c.owner.port then s
    else
      let s := (s.modCq n fun c => { c with wbDirty := false, sigPending := false }).hostPut
        c.owner.port c.domain c.wb (leBytes 8 c.wbWord) false 0 0 false
      if c.sigPending then s.signal c.owner c.vector.toNat else s

/-- A destroyed queue is gone once nothing it fetched lacks its record, its last word written (R301); the call that destroys it is
answered (R635). -/
def State.queueGone (s : State) (q : Nat) : State :=
  match s.wq q with
  | none => s
  | some w =>
    let pend := match s.cq w.cq.toNat with
      | some c => (c.writing ++ c.parked).any fun r => r.recKind == 0 && r.queue.toNat == q
      | none => false
    if w.destroying && w.open_.isEmpty && w.reading.isNone && !pend then
      let s := s.writeBackWq q
      let s := { s with wqs := tdel s.wqs q }
      match w.destroyCall with
      | some c => s.answer c.via c.seq 0x0406 0 []
      | none => s
    else s

/-- An operation of a queue completes (R314, R320, R327, R330, R416): it leaves the open list, its record is made unless
quiet suppresses it, owed falls. One that is no longer open changes nothing. -/
def State.complete (s : State) (q : Nat) (index : BitVec 32) (line : Line) (epoch : BitVec 16) (status : BitVec 8)
    (bytes : Nat) (result : BitVec 256) : State :=
  match s.wq q with
  | none => s
  | some w =>
    if !w.open_.contains index then s
    else
      let r : Rec := { userData := dUser line, wqIndex := index, queue := BitVec.ofNat 14 q,
                       opcode := BitVec.ofNat 8 (dOp line), status, bytes := BitVec.ofNat 32 bytes, wqHead := w.head,
                       time := s.time.now, result, signal := dIrq line, inst := w.instOf, epoch }
      let s := s.modWq q fun w => { w with open_ := w.open_.erase index }
      let s := s.owe w.cq.toNat (-1)
      let s := if dQuiet line ∧ status = 0 then s else s.makeRec w.cq.toNat r
      ((s.updateWait w.cq.toNat).tagDone q index status).queueGone q

/-- The queue stops in the error state at a descriptor (R321, R322): everything fetched at or after it is discarded. -/
def State.queueError (s : State) (q : Nat) (index : BitVec 32) (cause : BitVec 4) : State :=
  match s.wq q with
  | none => s
  | some w =>
    let gone := fun (i : BitVec 32) => !serialLt i index
    let lost := (w.open_.filter gone).length + bnat w.reading.isSome
    let s := s.modWq q fun w =>
      { w with state := .error, head := index, errorCause := cause, reading := none, wbDirty := true,
               open_ := w.open_.filter (fun i => !gone i), fetched := w.fetched.filter fun f => !gone f.index }
    let s := { s with counters := { s.counters with tagged := s.counters.tagged.filter fun t =>
                 !(t.queue == q && gone t.index) } }
    let s := s.owe w.cq.toNat (-(lost : Int))
    let s := s.queueEvent q 0x42 1
    s.raise { source := 1024 + 32 * w.owner.port + 10, unit := w.owner.port, inst := w.instOf, addr := some (w.base + BitVec.ofNat 64 (64 * (index.toNat % ringSize w.sizeCode))) }

/-! ### Doorbells (R304-R310) -/

/-- A discarded or refused doorbell's Notice (R305, R306, R309), which names the function and the queue. -/
def State.badDoorbell (s : State) (fn : Fn) (queue : BitVec 14) : State :=
  s.raise { source := 1024 + 32 * fn.port + 8, unit := fn.port, inst := fn.vf.bind fun v => s.boundInst fn.port v,
            about := some (.doorbell fn queue) }

/-- Count a refused doorbell of a function's instance. -/
def State.refusedBell (s : State) (fn : Fn) : State := ((fn.vf.bind fun v => s.boundInst fn.port v).map fun i => s.count 0x0032 i 0 1).getD s

/-- R305, R306, R308: a work-queue doorbell. -/
def execWqDoorbell (fn : Fn) (queue : BitVec 14) (index : BitVec 32) (reserved : BitVec 17) (whole : Bool) (s : State) :
    Host.Outcome State Fault Refusal :=
  match s.wq queue.toNat with
  | none => .next ((s.refusedBell fn).badDoorbell fn queue)
  | some w =>
    if s.quench.halted then .next s
    else if !whole || reserved != 0 || w.owner != fn || w.state == .disabled || w.state == .fenced then .next ((s.refusedBell fn).badDoorbell fn queue)
    else if ringSize w.sizeCode < (index - w.head).toNat then
      .next (((s.refusedBell fn).modWq queue.toNat fun w => { w with overrun := true, overrunCount := satInc w.overrunCount }).queueEvent queue.toNat 0x40 1)
    else if (index - w.head).toNat < (w.tail - w.head).toNat then
      .next (((s.refusedBell fn).modWq queue.toNat fun w => { w with stale := true }).queueEvent queue.toNat 0x41 1)
    else .next (s.modWq queue.toNat fun w => { w with tail := index })

/-- R377: a notify ring with a free position takes the record of the arrivals that were missed. -/
def State.missedArrivals (s : State) (ring : Nat) : State :=
  s.matching.ctxs.foldl (fun s (e : Nat × Ctx) =>
    if e.2.notify = some (BitVec.ofNat 14 ring) ∧ e.2.missed ≠ 0 then
      match s.cq ring with
      | some c =>
        if s.ringReady c && c.parked.isEmpty then
          let r : Rec := { userData := e.2.cookie, recKind := 2, status := 0x29, bytes := e.2.missed, time := s.time.now,
                           result := BitVec.ofNat 256 (e.1 * 2 ^ 128), signal := true, inst := some (e.1 / 64),
                           epoch := (s.inst (e.1 / 64)).epoch }
          (s.modCtx e.1 fun x => { x with missed := 0 }).makeRec ring r
        else s
      | none => s
    else s) s

/-- R309: a completion-ring doorbell; parked records, missed arrivals and fetching follow the space it frees. -/
def execCqDoorbell (fn : Fn) (ring : BitVec 14) (index : BitVec 32) (reserved : BitVec 17) (whole : Bool) (s : State) :
    Host.Outcome State Fault Refusal :=
  match s.cq ring.toNat with
  | none => .next (s.badDoorbell fn ring)
  | some c =>
    if s.quench.halted then .next s
    else if !whole || reserved != 0 || c.owner != fn || c.state == .disabled then .next (s.badDoorbell fn ring)
    else if (index - c.head).toNat ≤ (c.tail - c.head).toNat then
      let s := s.modCq ring.toNat fun c => { c with head := index }
      .next (((s.drain ring.toNat).missedArrivals ring.toNat).updateWait ring.toNat)
    else .next ((s.modCq ring.toNat fun c => { c with headStale := true }).badDoorbell fn ring)

/-! ### Fetching (R300, R315, R330) -/

/-- Whether the modes let a queue fetch: not in Drain, nor in a live activation begun in Drain (R801), nor after a
Halt. -/
def State.fetchMode (s : State) : Bool :=
  s.hearth.mode != .drain && !(s.hearth.mode == .firmwareUpdate && s.hearth.leftMode == .drain) && !s.stopped

/-- R315, R330: the module reads the next descriptor of a queue, one read of a queue at a time. -/
def execDescriptorFetch (wq : Nat) (s : State) : Host.Outcome State Fault Refusal :=
  match s.wq wq with
  | none => .next s
  | some w =>
    match s.cq w.cq.toNat with
    | none => .next s
    | some c =>
      let p := s.port w.owner.port
      if w.state != .running || w.destroying || w.reading.isSome || w.occ == 0 || Config.fetchedMax ≤ w.fetched.length ||
         Config.opsInFlightMax ≤ s.opsInFlight || !p.present || Config.d2hReads ≤ p.readsOut || !s.fetchMode then .next s
      else if !c.mayFetch then .next (s.updateWait w.cq.toNat)
      else
        let va := w.base + BitVec.ofNat 64 (64 * (w.head.toNat % ringSize w.sizeCode))
        let s := (s.modWq wq fun w => { w with reading := some w.head }).owe w.cq.toNat 1
        .next (s.hostRead w.owner.port (.descriptor wq w.head) w.domain va 64 (BitVec.ofNat 29 wq) w.head)

/-- The line that 64 bytes spell. -/
def lineOf (bs : List Byte) : Line := BitVec.ofNat 512 (leAt bs 0 64)

/-- R299, R300, R313, R320, R321: a descriptor read returns. -/
def execDescriptorReadComplete (wq : Nat) (res : ReadResult) (s : State) : Host.Outcome State Fault Refusal :=
  match s.wq wq with
  | none => .next s
  | some w =>
    match w.reading with
    | none => .next s
    | some i =>
      let s := (s.dropD2h w.owner.port (.descriptor wq i)).noteRead w.owner.port res
      match res with
      | .failed => .next (s.queueError wq i 1)
      | .fault _ => .next (s.queueError wq i 1)
      | .data bs poisoned =>
        if poisoned then .next (s.queueError wq i 3)
        else
          let l := lineOf bs
          let s := (w.instOf.map fun k => s.count 0x0030 k 0 1).getD s
          let (s, t) := s.tagFetch wq w.inst.toNat i (BitVec.ofNat 8 (dOp l))
          let s := s.modWq wq fun w =>
            { w with reading := none, head := i + 1, wbDirty := true, open_ := w.open_ ++ [i] }
          match malformedCommon l with
          | some st => .next (s.complete wq i l ((w.instOf.map fun k => (s.inst k).epoch).getD 0) st 0 0)
          | none => .next (s.modWq wq fun w => { w with fetched := w.fetched ++ [{ index := i, line := l, tagId := t }] })

/-! ### Starting (R314) -/

/-- Opcodes whose operation takes an op_tag: PUT, GET, ATOMIC, MSG_SEND, TALLY_ADD. -/
def takesTag (op : Nat) : Bool := op == 1 || op == 2 || op == 3 || op == 4 || op == 9

/-- R810: the next op_tag of an endpoint lies less than 2^31 ahead of every one still open at its source. -/
def State.tagRoom (s : State) (inst : Option Nat) : Bool :=
  inst.all fun i => s.remote.srcOps.all fun o =>
    o.inst != i || decide ((tgetD s.remote.opTags i 0 - o.tag).toNat < 2 ^ 31)

/-- The descriptor of a queue that may start now, with opcode op: the oldest fetched one, behind no operation that still
reads its fragment chain and no program load (R575), with fence behind none that lacks completion, and with room for its op_tag (R810). -/
def State.startable (s : State) (q op : Nat) : Option (Wq × Fetched) :=
  match s.wq q with
  | none => none
  | some w =>
    match w.fetched with
    | [] => none
    | f :: _ =>
      let chain := (s.remote.srcOps.any fun o => o.wq == q && o.held) || (s.matching.chains.any fun o => o.wq == q) ||
        s.draw.chans.any fun e => ((e.2.loading.bind fun l => l.set.wq).map (·.1)) == some q
      if dOp f.line = op ∧ !chain ∧ !s.quench.halted ∧ (!dFence f.line ∨ w.open_.all fun i => !serialLt i f.index) ∧
          (!takesTag op || s.tagRoom w.instOf)
      then some (w, f) else none

/-- Take the started descriptor off its queue. -/
def State.started (s : State) (q : Nat) : State := s.modWq q fun w => { w with fetched := w.fetched.drop 1 }

/-- The epoch of a queue's work. -/
def State.epochOf (s : State) (w : Wq) : BitVec 16 := (w.instOf.map fun i => (s.inst i).epoch).getD 0

/-- R312: a NOP completes with status ok. -/
def execNop (wq : Nat) (s : State) : Host.Outcome State Fault Refusal :=
  match s.startable wq 0x00 with
  | none => .next s
  | some (w, f) => .next ((s.started wq).complete wq f.index f.line (s.epochOf w) 0 0 0)

/-! ### Writes to the host -/

/-- R327: the oldest record write of a ring is acknowledged; tail advances, and its signal is due (R334). -/
def execRecordWriteComplete (ring : Nat) (s : State) : Host.Outcome State Fault Refusal :=
  match s.cq ring with
  | none => .next s
  | some c =>
    match c.writing with
    | [] => .next s
    | r :: rs =>
      let s := s.modCq ring fun c =>
        { c with writing := rs, tail := c.tail + 1, wbDirty := true, sigPending := c.sigPending || (r.signal && c.irqEnable) }
      .next (if r.recKind = 0 then s.queueGone r.queue.toNat else s)

/-- R301, R302, R334: a write-back word is written; the ring's signal follows the word that covers its records. -/
def execWriteBackWord (isRing : Bool) (n : Nat) (s : State) : Host.Outcome State Fault Refusal :=
  .next (if isRing then s.writeBackCq n else s.writeBackWq n)

/-- Whether two records are queue events of one code of one queue (R331). -/
def sameEvent (a b : Rec) : Bool := a.recKind == 1 && b.recKind == 1 && a.queue == b.queue && a.status == b.status

/-- Take back a record whose write did not end: an arrival record is counted (R377), a queue event pends again with its count (R331). -/
def State.takeBack (s : State) (r : Rec) : State :=
  if r.recKind = 2 then
    s.modCtx (fieldAt r.result.toNat 128 16) fun x => { x with missed := x.missed + (if r.status = 0x29 then r.bytes else 1) }
  else if r.recKind = 1 ∧ !s.stale r.inst r.epoch then
    s.modWq r.queue.toNat fun w =>
      { w with events := if w.events.any (fun e => e.1 == r.status) then w.events.map fun e => if e.1 = r.status then (e.1, e.2 + r.bytes) else e
                         else w.events ++ [(r.status, r.bytes)] }
  else s

/-- The record writes in flight on a ring did not end: what they wrote waits at the front of the park, each event once. -/
def State.unwrite (s : State) (ring : Nat) : State :=
  match s.cq ring with
  | none => s
  | some c =>
    let back := c.writing.filter fun r => r.recKind != 2
    c.writing.foldl (fun (s : State) r => s.takeBack r) (s.modCq ring fun c =>
      { c with writing := [], parked := (back ++ c.parked).foldl (fun l r => if l.any (sameEvent r) then l else l ++ [r]) [] })

/-- A record write fails (R332): the ring is in error, and what it was writing waits at the front of the park. -/
def State.ringError (s : State) (ring : Nat) : State :=
  match s.cq ring with
  | none => s
  | some c =>
    if c.writing.isEmpty then s
    else
      ((s.unwrite ring).modCq ring fun c => { c with state := .error }).raise
        { source := 1024 + 32 * c.owner.port + 9, unit := c.owner.port, inst := c.inst }

/-! ### Queue commands (R293-R295, R323, R332, R334, R335, R635) -/

/-- The owner of what an arrival point creates (R292): its function; for a caller with none and a named instance, the
function that drives that instance. -/
def State.creator (s : State) (c : Call) (inst : Option Nat) : Option Fn :=
  match c.via with
  | .mailbox f _ => some f
  | _ =>
    match inst with
    | none => none
    | some i =>
      let x := s.inst i
      if x.state = .free then none
      else some { port := x.port.toNat, vf := if x.bound then some x.vf.toNat else none }

/-- The lowest number below n that a table does not list. -/
def freeKey {α : Type} (t : Table α) (n : Nat) : Option Nat := (List.range (min n (t.length + 1))).find? fun k => (tget t k).isNone

/-- Work queues that an instance holds, and rings. -/
def State.wqsOf (s : State) (i : Nat) : Nat := (s.wqs.filter fun e => e.2.instOf == some i).length
/-- Rings that an instance holds. -/
def State.cqsOf (s : State) (i : Nat) : Nat := (s.cqs.filter fun e => e.2.inst == some i).length

/-- Whether a base or write-back address breaks R295's alignment; the answer that says so. -/
def misaligned (base wb : Word) : Option Reply :=
  if base.toNat % 4096 ≠ 0 then some (.bad 8) else if wb.toNat % 8 ≠ 0 then some (.bad 16) else none

/-- R293-R295, R338: create a work queue. -/
def execWqCreate (c : Call) (inst : Option Nat) (queue : Option Nat) (sizeCode : Nat) (base wb : Word) (ring : Nat) (s : State) :
    Host.Outcome State Fault Refusal :=
  s.fleso c 0x0401 (·.isMHI) fun a s =>
    match s.holder a inst, s.creator c inst with
    | none, _ => (s, .err eNoAuthority)
    | _, none => (s, .err eNoAuthority)
    | some h, some owner =>
      if 14 < sizeCode then (s, .bad 3)
      else
        match misaligned base wb with
        | some r => (s, r)
        | none =>
          match s.cq ring with
          | none => (s, .err eNoObject)
          | some r =>
            if !s.reachesObj a c r.owner r.inst then (s, .err eNoAuthority)
            else if r.owner ≠ owner then (s, .bad 4)
            else if s.matching.ctxs.any fun e => e.2.notify == some (BitVec.ofNat 14 ring) then (s, .err eWrongState)
            else if (h.map fun i => decide (s.grant i 0 ≤ s.wqsOf i)).getD false then (s, .grant 0)
            else
              match (match queue with
                     | some q => if q < Config.queueCount then some q else none
                     | none => freeKey s.wqs Config.queueCount) with
              | none => (s, if queue.isSome then .bad 0 else .pool 0)
              | some q =>
                if (s.wq q).isSome then (s, .err eWrongState)
                else
                  let w : Wq := { state := .running, pfHeld := h.isNone, sizeCode := BitVec.ofNat 4 sizeCode,
                                  cq := BitVec.ofNat 14 ring, inst := BitVec.ofNat 10 (h.getD owner.port),
                                  base, wb, owner, wbDirty := true }
                  (({ s with wqs := tset s.wqs q w }).updateWait ring, .res (leBytes 8 q))

/-- R294, R295: create a completion ring; its vector is 2 or above (R276). -/
def execCqCreate (c : Call) (inst : Option Nat) (ring : Option Nat) (sizeCode : Nat) (base wb : Word) (vector : Nat) (irqEnable : Bool)
    (s : State) : Host.Outcome State Fault Refusal :=
  s.fleso c 0x0402 (·.isMHI) fun a s =>
    match s.holder a inst, s.creator c inst with
    | none, _ => (s, .err eNoAuthority)
    | _, none => (s, .err eNoAuthority)
    | some h, some owner =>
      if 14 < sizeCode then (s, .bad 3)
      else if vector < 2 ∨ 2048 ≤ vector then (s, .bad 4)
      else
        match misaligned base wb with
        | some r => (s, r)
        | none =>
          if (h.map fun i => decide (s.grant i 1 ≤ s.cqsOf i)).getD false then (s, .grant 1)
          else
            match (match ring with
                   | some q => if q < Config.queueCount then some q else none
                   | none => freeKey s.cqs Config.queueCount) with
            | none => (s, if ring.isSome then .bad 0 else .pool 1)
            | some q =>
              if (s.cq q).isSome then (s, .err eWrongState)
              else
                let r : Cq := { state := .running, irqEnable, sizeCode := BitVec.ofNat 4 sizeCode,
                                vector := BitVec.ofNat 11 vector, base, wb, owner, inst := h, wbDirty := true }
                ({ s with cqs := tset s.cqs q r }, .res (leBytes 8 q))

/-- R323: restart a queue in error, by retry or by skip. -/
def execWqRestart (c : Call) (queue : Nat) (skip : Bool) (s : State) : Host.Outcome State Fault Refusal :=
  s.fleso c 0x0403 (·.isMHI) fun a s =>
    match s.wq queue with
    | none => (s, .err eNoObject)
    | some w =>
      if !s.reachesObj a c w.owner w.instOf then (s, .err eNoAuthority)
      else if w.state ≠ .error then (s, .err eWrongState)
      else if skip then
        let i := w.head
        let s := s.modWq queue fun w =>
          { w with state := .running, errorCause := 0, head := i + 1, wbDirty := true, open_ := w.open_ ++ [i] }
        ((s.owe w.cq.toNat 1).complete queue i 0 (s.epochOf w) 0x18 0 0, .ok)
      else
        (s.modWq queue fun w => { w with state := .running, errorCause := 0, wbDirty := true }, .ok)

/-- R332: restart a ring in error at its unadvanced tail. -/
def execCqRestart (c : Call) (ring : Nat) (s : State) : Host.Outcome State Fault Refusal :=
  s.fleso c 0x0404 (·.isMHI) fun a s =>
    match s.cq ring with
    | none => (s, .err eNoObject)
    | some r =>
      if !s.reachesObj a c r.owner r.inst then (s, .err eNoAuthority)
      else if r.state ≠ .error then (s, .err eWrongState)
      else ((((s.modCq ring fun c => { c with state := .running }).drain ring).missedArrivals ring).updateWait ring, .ok)

/-- QUEUE.WQ_STATE (R335). -/
def Wq.stateWord (w : Wq) : Nat :=
  packFields [(2, qstateCode w.state), (1, bnat w.overrun), (1, bnat w.stale), (1, bnat w.cqWait), (1, bnat w.pfHeld), (2, 0),
    (4, w.sizeCode.toNat), (14, w.cq.toNat), (10, if w.pfHeld then w.owner.port else w.inst.toNat),
    (4, w.errorCause.toNat), (16, w.overrunCount.toNat)]
/-- QUEUE.WQ_INDEX. -/
def Wq.indexWord (w : Wq) : Nat := w.head.toNat + 2 ^ 32 * w.tail.toNat
/-- QUEUE.CQ_STATE (R335). -/
def Cq.stateWord (c : Cq) : Nat :=
  packFields [(2, qstateCode c.state), (1, bnat c.headStale), (1, bnat c.irqEnable), (4, c.sizeCode.toNat),
    (11, c.vector.toNat), (13, c.parkedCount), (21, c.owed.toNat)]
/-- QUEUE.CQ_INDEX. -/
def Cq.indexWord (c : Cq) : Nat := c.head.toNat + 2 ^ 32 * c.tail.toNat

/-- R335: return a queue's or ring's four registers and clear the named sticky fields. -/
def execQueueStatus (c : Call) (isRing : Bool) (n : Nat) (clear : Word) (s : State) : Host.Outcome State Fault Refusal :=
  s.fleso c 0x0405 (·.isMHI) fun a s =>
    if isRing then
      match s.cq n with
      | none => (s, .err eNoObject)
      | some r =>
        if !s.reachesObj a c r.owner r.inst then (s, .err eNoAuthority)
        else if clear &&& 0xfffffffffffffffb#64 ≠ 0 then (s, .bad 8)
        else
          (s.modCq n fun c => { c with headStale := c.headStale && !bit clear 2 },
           .res (leBytes 8 r.indexWord ++ leBytes 8 r.stateWord ++ leBytes 8 r.base.toNat ++ leBytes 8 r.wb.toNat))
    else
      match s.wq n with
      | none => (s, .err eNoObject)
      | some w =>
        if !s.reachesObj a c w.owner w.instOf then (s, .err eNoAuthority)
        else if clear &&& 0xfffffffffffffff3#64 ≠ 0 then (s, .bad 8)
        else
          (s.modWq n fun w => { w with overrun := w.overrun && !bit clear 2, stale := w.stale && !bit clear 3 },
           .res (leBytes 8 w.indexWord ++ leBytes 8 w.stateWord ++ leBytes 8 w.base.toNat ++ leBytes 8 w.wb.toNat))

/-- R635: destroy a ring that nothing targets, or disable a queue that goes once its fetched work has records. -/
def execQueueDestroy (c : Call) (isRing : Bool) (n : Nat) (s : State) : Host.Outcome State Fault Refusal :=
  s.fleso c 0x0406 (·.isMHI) fun a s =>
    if isRing then
      match s.cq n with
      | none => (s, .err eNoObject)
      | some r =>
        if !s.reachesObj a c r.owner r.inst then (s, .err eNoAuthority)
        else if s.wqs.any fun e => e.2.cq.toNat == n then (s, .err eWrongState)
        else
          let s := s.writeBackCq n
          ({ s with cqs := tdel s.cqs n }, .ok)
    else
      match s.wq n with
      | none => (s, .err eNoObject)
      | some w =>
        if !s.reachesObj a c w.owner w.instOf then (s, .err eNoAuthority)
        else if w.destroying then (s, .err eWrongState)
        else
          let owed := bnat w.reading.isSome
          let s := s.modWq n fun w => { w with state := .disabled, destroying := true, destroyCall := some c, reading := none, wbDirty := true }
          ((s.owe w.cq.toNat (-(owed : Int))).queueGone n, .later)

/-- R334: set a ring's irq_enable and vector. -/
def execCqSignal (c : Call) (ring : Nat) (irqEnable : Bool) (vector : Nat) (s : State) : Host.Outcome State Fault Refusal :=
  s.fleso c 0x0407 (·.isMHI) fun a s =>
    match s.cq ring with
    | none => (s, .err eNoObject)
    | some r =>
      if !s.reachesObj a c r.owner r.inst then (s, .err eNoAuthority)
      else if vector < 2 ∨ 2048 ≤ vector then (s, .bad 4)
      else (s.modCq ring fun c => { c with irqEnable, vector := BitVec.ofNat 11 vector }, .ok)

end Sys2Proof.Machine
end

