-- ==== Sys2Proof/Machine/Tally.lean ====
section
/-! DEFINITION. Tallies (R418-R424, R427) and the dirty-page log (R425, R560-R565). -/

namespace Sys2Proof.Machine

open Sys2Proof

/-! ### The dirty-page log -/

/-- Enter one page in an instance's log (R560-R563); a ring that looks full makes the K64 read head again, whose value is
software's (assumption log 49). -/
def State.logPage (s : State) (i : Nat) (page : Nat) : State :=
  let x := s.inst i
  let p := x.port.toNat
  let k := x.logK.toNat
  let over_ := fun (s : State) =>
    (s.modInst i fun x => { x with overflow := true, overflowCount := satInc x.overflowCount }).raise
      { source := 1330, inst := some i, addr := some (BitVec.ofNat 64 (page * 4096)) }
  if x.logMode = 1 then
    let first := x.vaBase.toNat / 4096
    if first ≤ page ∧ page < first + 2 ^ k then (if s.canWrite p then s.emit (.dirtyBit p x.logBase (page - first)) else s) else over_ s
  else if x.logMode = 2 then
    let full := decide (2 ^ k ≤ x.logTail - x.logHead)
    let (d, s) := if full then s.drawFree (x.logTail - x.logHead + 1) else (0, s)
    let head := x.logHead + d
    if x.logTail - head < 2 ^ k then
      let s := s.writePhys p (x.logBase + BitVec.ofNat 64 (64 + 8 * (x.logTail % 2 ^ k))) (leBytes 8 (page % 2 ^ 45))
      (s.writePhys p x.logBase (leBytes 8 (x.logTail + 1))).modInst i fun x => { x with logTail := x.logTail + 1, logHead := head }
    else
      let s := s.writePhys p (x.logBase + 16) (leBytes 8 (x.logLost + 1))
      over_ (s.modInst i fun x => { x with logLost := x.logLost + 1, logHead := head })
  else s

/-- Enter every page that a write of len bytes at va touches (R425). -/
def State.logPages (s : State) (i : Nat) (va : Word) (len : Nat) : State :=
  if len = 0 then s
  else
    let first := va.toNat / 4096
    (List.range ((va.toNat + len - 1) / 4096 + 1 - first)).foldl (fun s k => s.logPage i (first + k)) s

/-! ### Adds, arming, firing -/

/-- The Tally in a slot of an instance. -/
def State.tallyNo (s : State) (i slot : Nat) : Option Nat :=
  (s.remote.tallies.find? fun e => e.2.allocated && e.2.inst.toNat == i && e.2.slot.toNat == slot).map (·.1)

/-- Whether (value - threshold) mod 2^64 is less than 2^63 (R421, R586). -/
def reached (value threshold : Word) : Bool := !bit (value - threshold) 63

/-- The record of a Tally that fires (R422). -/
def State.fireRec (s : State) (n : Nat) (t : Tally) : Rec :=
  { userData := t.cookie, opcode := 0x09, time := s.time.now,
    result := BitVec.ofNat 256 (packFields [(64, t.value.toNat), (32, n), (1, 1)]),
    signal := true, inst := some t.inst.toNat, epoch := (s.inst t.inst.toNat).epoch }

/-- An armed Tally at or past its threshold fires: it is disarmed, and its record is made, after the mirror write that
carries the value where there is a mirror (R421, R422, R424). -/
def State.fire (s : State) (n : Nat) : State :=
  let t := s.tally n
  if t.armed && reached t.value t.threshold then
    let s := s.modTally n fun t => { t with armed := false }
    if !t.notifyValid then s
    else
      let r := s.fireRec n t
      let s := s.owe t.notifyRing.toNat (-1)
      if t.mirrorValid then s.modTally n fun t => { t with fireRecs := t.fireRecs ++ [r], mirrorDirty := true }
      else s.makeRec t.notifyRing.toNat r
  else s

/-- Drawing channels that wait on a Tally test it (R586, kind 0). -/
def State.wakeTally (s : State) (n : Nat) : State :=
  let t := s.tally n
  { s with draw := { s.draw with chans := tmap s.draw.chans fun _ c =>
      match c.current with
      | some w =>
        if c.state = .waiting ∧ instrOp w = 3 ∧ instrKind w = 0 ∧ c.ownerKind = 0 ∧ c.owner = t.inst ∧
           instrTarget w = t.slot.toNat ∧ reached t.value (instrValue w) then c.goOn else c
      | none => c } }

/-- Add to a Tally at its home (R418); while it moves the add waits (R489). -/
def State.tallyAdd (s : State) (n : Nat) (amount : Word) : State :=
  if s.quench.halted then s
  else if (s.tally n).moving.isSome then s.modTally n fun t => { t with heldAdds := t.heldAdds ++ [amount] }
  else
    let s := s.modTally n fun t => { t with value := t.value + amount, addsEpoch := t.addsEpoch + 1, mirrorDirty := t.mirrorValid }
    (s.fire n).wakeTally n

/-- Arm a Tally (R421, R423): it counts as owed on its notify ring until it fires, at once where the value is past. -/
def State.arm (s : State) (n : Nat) (threshold : Word) : State :=
  let t := s.tally n
  let s := s.modTally n fun t => { t with armed := true, threshold }
  let s := if t.notifyValid ∧ !t.armed then s.owe t.notifyRing.toNat 1 else s
  s.fire n

/-- The amount of a completion (R418): 1, or the bytes. -/
def Tally.amount (t : Tally) (bytes : Nat) : Word := if t.countMode then BitVec.ofNat 64 bytes else 1

/-- Disarm a Tally and pay back what its ring owed (R423). -/
def State.disarm (s : State) (n : Nat) : State :=
  let t := s.tally n
  let s := if t.armed ∧ t.notifyValid then s.owe t.notifyRing.toNat (-1) else s
  s.modTally n fun t => { t with armed := false }

/-- R424: a Tally's value is written to its mirror; records that waited for the write follow. A write that fails is
skipped (R536). -/
def execTallyMirrorWrite (tally : Nat) (acc : Access) (s : State) : Host.Outcome State Fault Refusal :=
  let t := s.tally tally
  let i := t.inst.toNat
  let p := (s.inst i).port.toNat
  if !t.allocated || !t.mirrorValid || !t.mirrorDirty || !s.canWrite p then .next s
  else
    let s := (s.logPages i t.mirror 8).noteAccess p acc
    let s := match acc with
      | .ok => s.hostPut p i t.mirror (leBytes 8 t.value.toNat) false 0 0 false
      | _ => s
    let s := s.modTally tally fun t => { t with mirrorDirty := false, fireRecs := [] }
    .next (t.fireRecs.foldl (fun s r => s.makeRec t.notifyRing.toNat r) s)

/-! ### Commands -/

/-- TALLY.CTRL (R427). -/
def Tally.ctrl (t : Tally) : Nat :=
  if !t.allocated then 0
  else packFields [(1, 1), (1, bnat t.armed), (1, bnat t.countMode), (1, bnat (!t.cellTier)), (10, t.inst.toNat), (14, t.slot.toNat),
    (14, t.notifyRing.toNat), (1, bnat t.notifyValid), (1, bnat t.mirrorValid)]

/-- Tallies that an instance holds. -/
def State.talliesOf (s : State) (i : Nat) : Nat := (s.remote.tallies.filter fun e => e.2.allocated && e.2.inst.toNat == i).length

/-- The slots of an instance's Tallies, as a table. -/
def State.tallySlots (s : State) (i : Nat) : List Nat :=
  (s.remote.tallies.filter fun e => e.2.allocated && e.2.inst.toNat == i).map fun e => e.2.slot.toNat

/-- The instance that a Manager's or an instance's command is for: its own, or the one named. -/
def State.forInst (s : State) (a : Auth) (inst : Option Nat) : Option Nat × Reply :=
  match s.holder a inst with
  | none => (none, .err eNoAuthority)
  | some none => (none, .bad 0)
  | some (some i) => if (s.inst i).state = .free then (none, .err eNoObject) else (some i, .ok)

/-- R630, R423: allocate a Tally in a slot of an instance. -/
def execTallyAlloc (c : Call) (inst : Option Nat) (slot : Option Nat) (countMode : Bool) (notify : Option Nat) (cookie : Word)
    (mirror : Option Word) (s : State) : Host.Outcome State Fault Refusal :=
  s.fleso c 0x0505 (·.isMI) fun a s =>
    match s.forInst a inst with
    | (none, r) => (s, r)
    | (some i, _) =>
      let used := s.tallySlots i
      match (match slot with
             | some n => if n < 16384 then some n else none
             | none => (List.range (used.length + 1)).find? fun k => !used.contains k) with
      | none => (s, .bad 2)
      | some n =>
        let ring := notify.map s.cq
        if used.contains n then (s, .err eWrongState)
        else if (mirror.map fun m => m.toNat % 8 != 0).getD false then (s, .bad 24)
        else if ring = some none then (s, .err eNoObject)
        else if (ring.map fun r => (r.map fun q => q.inst != some i).getD true).getD false then (s, .err eNoAuthority)
        else if (notify.map fun r => s.matching.ctxs.any fun e => e.2.notify == some (BitVec.ofNat 14 r)).getD false then
          (s, .err eWrongState)
        else if s.grant i 3 ≤ s.talliesOf i then (s, .grant 3)
        else
          match freeKey s.remote.tallies Config.tallyCount with
          | none => (s, .pool 3)
          | some t =>
            let x : Tally := { countMode, inst := BitVec.ofNat 10 i, slot := BitVec.ofNat 14 n,
                               notifyRing := BitVec.ofNat 14 (notify.getD 0), notifyValid := notify.isSome,
                               mirrorValid := mirror.isSome, cookie, mirror := mirror.getD 0, mirrorDirty := mirror.isSome }
            ({ s with remote := { s.remote with tallies := tset s.remote.tallies t x } }, .res (leBytes 8 n ++ leBytes 8 t))

/-- R421, R423: arm a Tally; the result is its value at arming. -/
def execTallyArm (c : Call) (inst : Option Nat) (slot : Nat) (threshold : Word) (s : State) : Host.Outcome State Fault Refusal :=
  s.fleso c 0x0506 (·.isMI) fun a s =>
    match s.forInst a inst with
    | (none, r) => (s, r)
    | (some i, _) =>
      match s.tallyNo i slot with
      | none => (s, .err eNoObject)
      | some n => (s.arm n threshold, .res (leBytes 8 (s.tally n).value.toNat))

/-- R630: a Tally's value and control word. -/
def execTallyRead (c : Call) (inst : Option Nat) (slot : Nat) (s : State) : Host.Outcome State Fault Refusal :=
  s.fleso c 0x0507 (·.isMHI) fun a s =>
    match s.forInst a inst with
    | (none, r) => (s, r)
    | (some i, _) =>
      match s.tallyNo i slot with
      | none => (s, .err eNoObject)
      | some n => (s, .res (leBytes 8 (s.tally n).value.toNat ++ leBytes 8 (s.tally n).ctrl))

/-- R630: free a Tally. -/
def execTallyFree (c : Call) (inst : Option Nat) (slot : Nat) (s : State) : Host.Outcome State Fault Refusal :=
  s.fleso c 0x0508 (·.isMI) fun a s =>
    match s.forInst a inst with
    | (none, r) => (s, r)
    | (some i, _) =>
      match s.tallyNo i slot with
      | none => (s, .err eNoObject)
      | some n =>
        let t := s.tally n
        let s := t.fireRecs.foldl (fun s r => s.makeRec t.notifyRing.toNat r) (s.disarm n)
        ({ s with remote := { s.remote with tallies := tdel s.remote.tallies n } }, .ok)

/-- R427: set REMOTE.CFG within its ranges. -/
def execRemoteCfg (c : Call) (word : Word) (s : State) : Host.Outcome State Fault Refusal :=
  s.fleso c 0x0509 (·.isM) fun _ s =>
    let op := bits word 13 0
    let msg := bits word 27 14
    let tomb := bits word 44 28
    let rmax := bits word 48 45
    let exp := bits word 62 49
    match firstBad [(decide (op < 1 ∨ 10000 < op), 0), (decide (10000 < msg), 14), (decide (tomb < 100 ∨ 100000 < tomb), 28),
        (decide (rmax < 1), 45), (decide (exp < 1 ∨ 10000 < exp), 49), (bit word 63, 63)] with
    | some o => (s, .badAt o)
    | none =>
      ({ s with remote := { s.remote with
          opTimeoutMs := BitVec.ofNat 14 op, msgTimeoutMs := BitVec.ofNat 14 msg, tombUs := BitVec.ofNat 17 tomb,
          resendMax := BitVec.ofNat 4 rmax, openExpireMs := BitVec.ofNat 14 exp } }, .ok)

end Sys2Proof.Machine
end

