-- ==== Sys2Proof/Machine/Trans.lean ====
section
/-! DEFINITION. The commands of translation (12): domains, invalidation, locks, device ranges, fault logs. -/

namespace Sys2Proof.Machine

open Sys2Proof

/-- Whether an authority reaches a domain (R509, R527): an instance's own, a host's own function's and those of its
instances. -/
def State.reachesDomain (s : State) (a : Auth) (d : Nat) : Bool :=
  match a with
  | .manager => true
  | .debug => true
  | .host p => d == 1024 + p || (d < 1024 && s.reaches a d)
  | .inst i => d == i
  | _ => false

/-- R509: set a domain's root and format, and enable it; a held instance's waits for the reopen. -/
def execTransDomain (c : Call) (domain : Nat) (format root : Word) (s : State) : Host.Outcome State Fault Refusal :=
  s.fleso c 0x0701 (·.isMH) fun a s =>
    if 1028 ≤ domain then (s, .bad 0)
    else if !s.reachesDomain a domain then (s, .err eNoAuthority)
    else if domain < 1024 ∧ (s.inst domain).state = .free then (s, .err eNoObject)
    else if fLevels format < 3 ∨ 5 < fLevels format ∨ bits format 63 53 ≠ 0 then (s, .bad 8)
    else if bits root 11 0 ≠ 0 ∨ bits root 63 52 ≠ 0 then (s, .bad 16)
    else
      let on : Word := 1#64 <<< 52
      let held := decide (domain < 1024) && (s.inst domain).state == .held
      let f := if held then format &&& ~~~on else format ||| on
      ({ s with trans := { s.trans with formats := tset s.trans.formats domain f, roots := tset s.trans.roots domain root } }, .ok)

/-- Whether an entry's page overlaps one of the ranges (address, 4 KiB pages) (R527, R528). -/
def overlaps (e : TlbEntry) (ranges : List (Word × Nat)) : Bool :=
  ranges.any fun r => r.1.toNat / 4096 * 4096 < e.va.toNat + pageBytes e.size && e.va.toNat < r.1.toNat / 4096 * 4096 + 4096 * r.2

/-- Whether a read that is with the host is an access to one of the ranges (R528); the reads of a walk are none. -/
def D2hRead.under (r : D2hRead) (domain : Nat) (whole : Bool) (ranges : List (Word × Nat)) : Bool :=
  match r.tag with
  | .walk _ | .adLine _ => false
  | _ => r.reads.any fun x => x.1 == domain && (whole || ranges.any fun g =>
      x.2.1.toNat < g.1.toNat / 4096 * 4096 + 4096 * g.2 && g.1.toNat / 4096 * 4096 < x.2.1.toNat + x.2.2)

/-- Walk anew the locked entries that an invalidation removed (R530). -/
def State.rewalk (s : State) (inval : Nat) (l : List TlbEntry) : State :=
  l.foldl (fun (s : State) e =>
    let j : LockJob := { id := s.trans.nextLock, domain := e.domain, write := e.writeOk, next := e.va, inval := some inval }
    ({ s with trans := { s.trans with nextLock := s.trans.nextLock + 1, locks := s.trans.locks ++ [j] } }).lockWalk j) s

/-- R527, R528, R530: invalidate; the response follows the new walks of step 2 and the drain of step 3. -/
def execTransInval (c : Call) (domain : Nat) (whole : Bool) (ranges : List (Word × Nat)) (s : State) :
    Host.Outcome State Fault Refusal :=
  s.fleso c 0x0702 (·.isMHI) fun a s =>
    if 1028 ≤ domain then (s, .bad 0)
    else if !s.reachesDomain a domain then (s, .err eNoAuthority)
    else if !whole && (ranges.isEmpty || decide (16 < ranges.length) || ranges.any fun r => r.2 == 0 || decide (2 ^ 36 < r.2)) then (s, .bad 8)
    else
      let hit := fun (e : TlbEntry) => e.domain == domain && (whole || overlaps e ranges)
      let locked := s.trans.tlb.filter fun e => hit e && e.locked && e.quad == 0
      let id := s.trans.nextInval
      let reads := ((s.port (s.domainPort domain)).d2h.filter fun r => r.under domain whole ranges).map (·.tag)
      let t := s.trans
      let s := { s with trans := { t with
          tlb := t.tlb.filter (fun e => !hit e), cache := t.cache.filter (fun e => e.domain != domain),
          invGen := (List.range 4).foldl (fun g q => tset g q (tgetD g q 0 + 1)) t.invGen,
          invals := t.invals ++ [({ id, domain, call := c, reads } : Inval)], nextInval := id + 1 } }
      (s.rewalk id locked, .later)

/-- R528, R531: the accesses under removed translations have finished and the locked entries have their new walks; the oldest
invalidation of its domain responds. -/
def execInvalidationDrainComplete (id : Nat) (s : State) : Host.Outcome State Fault Refusal :=
  match s.trans.invals.find? fun v => v.id == id with
  | none => .next s
  | some v =>
    if s.trans.invals.any (fun x => x.domain == v.domain && decide (x.id < id)) || s.trans.locks.any (fun j => j.inval == some id) ||
        v.reads.any (fun t => s.reading (s.domainPort v.domain) t) then .next s
    else
      let s := { s with trans := { s.trans with invals := s.trans.invals.filter fun x => x.id != id } }
      .next (s.answer v.call.via v.call.seq 0x0702 0 []).serve

/-- R518: walk the named pages; once all are walked they are installed, locked, in every quadrant. -/
def execTransLock (c : Call) (domain : Nat) (va : Word) (pages : Nat) (write : Bool) (s : State) : Host.Outcome State Fault Refusal :=
  s.fleso c 0x0703 (·.isMHI) fun a s =>
    if 1028 ≤ domain then (s, .bad 0)
    else if !s.reachesDomain a domain then (s, .err eNoAuthority)
    else if pages < 1 ∨ 256 < pages then (s, .bad 16)
    else
      let j : LockJob := { id := s.trans.nextLock, domain, write, next := va, left := pages, call := some c }
      (({ s with trans := { s.trans with nextLock := s.trans.nextLock + 1, locks := s.trans.locks ++ [j] } }).lockWalk j, .later)

/-- R519: unlock entries, which then age like any other. -/
def execTransUnlock (c : Call) (domain : Nat) (va : Word) (pages : Nat) (s : State) : Host.Outcome State Fault Refusal :=
  s.fleso c 0x0704 (·.isMHI) fun a s =>
    if 1028 ≤ domain then (s, .bad 0)
    else if !s.reachesDomain a domain then (s, .err eNoAuthority)
    else if pages < 1 ∨ 256 < pages then (s, .bad 16)
    else
      let hit := fun (e : TlbEntry) => e.domain == domain && e.va.toNat < va.toNat / pageBytes e.size * pageBytes e.size + pages * pageBytes e.size &&
        decide (va.toNat / pageBytes e.size * pageBytes e.size ≤ e.va.toNat)
      ({ s with trans := { s.trans with tlb := s.trans.tlb.map fun e => if hit e then { e with locked := false } else e } }, .ok)

/-- R523: set one of a port's device ranges; no pages clears it. -/
def execDeviceRange (c : Call) (port index : Nat) (base : Word) (pages : Nat) (s : State) : Host.Outcome State Fault Refusal :=
  s.fleso c 0x0705 (·.isMH) fun a s =>
    if 4 ≤ port then (s, .bad 0)
    else if !(a.isM || a == .host port) then (s, .err eNoAuthority)
    else if 64 ≤ index then (s, .bad 1)
    else if base.toNat % 4096 ≠ 0 then (s, .bad 8)
    else
      (s.modPort port fun p => { p with deviceRanges := if pages = 0 then tdel p.deviceRanges index else tset p.deviceRanges index (base, pages) }, .ok)

/-- R537: name a domain's fault log. -/
def execFaultLog (c : Call) (domain : Nat) (base : Word) (size : Nat) (s : State) : Host.Outcome State Fault Refusal :=
  s.fleso c 0x0706 (·.isMHI) fun a s =>
    if 1028 ≤ domain then (s, .bad 0)
    else if !s.reachesDomain a domain then (s, .err eNoAuthority)
    else if base.toNat % 4096 ≠ 0 then (s, .bad 8)
    else if !((List.range 11).map fun k => 2 ^ (6 + k)).contains size then (s, .bad 16)
    else ({ s with trans := { s.trans with logs := tset s.trans.logs domain { base, size } } }, .ok)

end Sys2Proof.Machine
end

