-- ==== Sys2Proof/Machine/Draw.lean ====
section
/-! DEFINITION. The Drawing engine (14) and the vise commands (16). -/

namespace Sys2Proof.Machine

open Sys2Proof

/-! ### Channels, owners, spaces (R570-R573) -/

/-- The owning function of a channel: an instance's, or a physical one. -/
def State.chanFn (s : State) (c : Chan) : Fn :=
  if c.ownerKind = 0 then
    let x := s.inst c.owner.toNat
    { port := x.port.toNat, vf := if x.bound then some x.vf.toNat else none }
  else { port := c.hostPort.toNat, vf := none }

/-- The instance that owns a channel. -/
def Chan.instOf (c : Chan) : Option Nat := if c.ownerKind = 0 then some c.owner.toNat else none

/-- A channel's translation domain. -/
def Chan.domain (c : Chan) : Nat := if c.ownerKind = 0 then c.owner.toNat else 1024 + c.hostPort.toNat

/-- Whether an authority reaches a channel (R570, R598). -/
def State.reachesChan (s : State) (a : Auth) (c : Chan) : Bool :=
  match a with
  | .manager => true
  | .debug => true
  | .host p => (c.ownerKind == 1 && c.hostPort.toNat == p) || (c.ownerKind == 0 && s.reaches a c.owner.toNat)
  | .inst i => c.ownerKind == 0 && c.owner.toNat == i
  | _ => false

/-- Bytes of a channel's space 1 (R572). -/
def State.space1Bytes (s : State) (c : Chan) : Nat :=
  if c.ownerKind = 2 then Config.memBytes
  else if c.ownerKind = 0 then (s.inst c.owner.toNat).segments.length * Config.segBytes else 0

/-- Module-memory address of an offset of a channel's space 1. -/
def State.space1 (s : State) (c : Chan) (o : Nat) : Nat :=
  if c.ownerKind = 2 then o
  else ((s.inst c.owner.toNat).segments.getD (o / Config.segBytes) 0) * Config.segBytes + o % Config.segBytes

/-- n bytes of a channel's space 1. -/
def State.space1Read (s : State) (c : Chan) (o n : Nat) : List Byte := (List.range n).map fun i => memGet s.mem (s.space1 c (o + i))

/-- Whether a poisoned line lies under n bytes of a channel's space 1. -/
def State.space1Poisoned (s : State) (c : Chan) (o n : Nat) : Bool :=
  (linesOf o n).any fun l => s.poison.contains (s.space1 c (l * 64) / 64)

/-- Write bytes into a channel's space 1, line by line. -/
def State.space1Write (s : State) (c : Chan) (o : Nat) (bs : List Byte) : State :=
  (linesOf o bs.length).foldl (fun (s : State) l =>
    let from_ := max o (l * 64)
    let upto := min (o + bs.length) (l * 64 + 64)
    s.storeMem (s.space1 c from_) ((bs.drop (from_ - o)).take (upto - from_)) false) s

/-! ### Records and hand-over (R590, R594, R600) -/

/-- op_result of a DRAW_RUN or SIGNAL record (R600). -/
def drawResult (gen : BitVec 16) (pc : Nat) (mid : Bool) (c : Chan) (fault bytes : Word) : BitVec 256 :=
  BitVec.ofNat 256 (packFields [(16, gen.toNat), (8, pc), (1, bnat mid), (1, bnat c.preempted), (1, bnat c.sawBroken), (5, 0), (32, 0),
    (64, fault.toNat), (64, bytes.toNat)])

/-- bytes of a Drawing record. -/
def drawBytes (b : Word) : Nat := min b.toNat 0xffffffff

/-- The record of a set (R577, R590, R597). -/
def State.setRecord (s : State) (c : Chan) (x : DrawSet) (status : BitVec 8) (pc : Nat) (fault bytes : Word) : State :=
  let res := drawResult x.gen pc false c fault bytes
  match x.wq with
  | some (q, i) => s.complete q i x.line x.epoch status (drawBytes bytes) res
  | none =>
    match x.ring with
    | some r => s.makeRec r
        { userData := x.cookie, opcode := 0x08, status, bytes := BitVec.ofNat 32 (drawBytes bytes), time := s.time.now,
          result := res, signal := true, inst := c.instOf, epoch := x.epoch }
    | none => s

/-- A channel that is idle takes its pending set (R594). -/
def State.takeSet (s : State) (n : Nat) : State :=
  s.modChan n fun c =>
    match c.state, c.pending with
    | .idle, some x =>
      { c with state := .running, active := some x, pending := none, activeGen := x.gen, pc := 0, jobs := [], loops := [],
               bytes := 0, preempted := false, sawBroken := false, faultAddr := 0 }
    | _, _ => c

/-- A program over: its staged lines are gone, and its reads that the port has not yet sent are wanted no more (R597, R598). -/
def State.dropJobs (s : State) (n : Nat) : State :=
  (s.modPort (s.chanFn (s.chan n)).port fun p =>
    { p with d2hWait := p.d2hWait.filter fun r => match r.tag with | .draw m _ _ => m != n | _ => true }).modChan n
    fun c => { c with jobs := [] }

/-- A program ends or stops with a status: its record, then the hand-over (R590, R594, R597). -/
def State.endSet (s : State) (n : Nat) (status : BitVec 8) (fault : Word) : State :=
  let c := s.chan n
  match c.active with
  | none => s
  | some x =>
    let s := s.setRecord c x status c.pc.toNat fault c.bytes
    ((s.modChan n fun c => { c with state := .idle, active := none, faultAddr := fault, loops := [] }).dropJobs n).takeSet n

/-! ### Loading (R574-R579) -/

/-- Whether an instruction breaks R579; last is that it is the last one, i its index. -/
def instrBad (w : BitVec 128) (i : Nat) (last : Bool) : Bool :=
  let f := instrField w
  match instrOp w with
  | 1 => decide (Config.maxLength < f 88 29) || f 118 10 != 0 || last
  | 2 => decide (i ≤ f 4 8) || f 12 32 == 0 || last
  | 3 => f 4 2 == 3 || f 6 2 != 0 || f 22 10 != 0 || (f 4 2 == 2 && (f 20 2 != 0 || f 64 64 != 0)) || last
  | 4 => f 6 2 != 0 || f 22 42 != 0 || (f 4 2 == 1 && decide (f 8 14 < 2)) || (f 4 2 == 3 && f 20 2 != 0) ||
         ((f 4 2 == 1 || f 4 2 == 3) && f 64 64 != 0) || last
  | 5 => f 4 124 != 0
  | _ => true

/-- The instructions that bytes spell. -/
def programOf (bs : List Byte) : List (BitVec 128) := (List.range (bs.length / 16)).map fun i => BitVec.ofNat 128 (leAt bs (16 * i) 16)

/-- Whether a program is malformed (R579). -/
def programBad (p : List (BitVec 128)) : Bool := p.isEmpty || p.zipIdx.any fun e => instrBad e.1 e.2 (e.2 + 1 == p.length)

/-- A superseded set (R576). -/
def State.supersede (s : State) (c : Chan) (x : DrawSet) : State :=
  ({ s with draw := { s.draw with supersedes := satInc s.draw.supersedes } }).setRecord c x 0x2e 0 0 0

/-- A load begins (R575, R576): with replace, a pending or loading set is superseded. -/
def State.beginLoad (s : State) (n : Nat) (l : DrawLoading) : State :=
  let c := s.chan n
  let s := match c.pending with
    | some x => s.supersede c x
    | none => s
  let s := match c.loading with
    | some o =>
      let s := (s.supersede c o.set).dropD2h (s.chanFn c).port (.drawProgram n)
      match o.call with
      | some k => s.answer k.via k.seq 0x0802 eWrongState []
      | none => s
    | none => s
  let s := s.modChan n fun c => { c with pending := none, loading := some l }
  if l.space then s
  else s.hostRead (s.chanFn c).port (.drawProgram n) c.domain l.addr l.length 0 0

/-- A DRAW_RUN's load fields (R574). -/
def drawArgs (l : Line) : DrawLoadArgs :=
  { channel := lf l 192 8, priority := BitVec.ofNat 2 (lf l 200 2), replace := lf l 202 1 == 1, progSpace := lf l 203 1 == 1,
    baseSpace := BitVec.ofNat 4 (lf l 204 4), bases := (List.range 4).map fun i => BitVec.ofNat 64 (lf l (256 + 64 * i) 64),
    addr := dAddr l, length := dLen l }

/-- Whether a load's address and length keep R574. -/
def loadShape (a : DrawLoadArgs) : Bool :=
  a.addr.toNat % 16 == 0 && a.length % 16 == 0 && decide (16 ≤ a.length ∧ a.length ≤ 4096)

/-- The set that a load makes. -/
def setOf (a : DrawLoadArgs) : DrawSet := { bases := a.bases, baseSpace := a.baseSpace, priority := a.priority }

/-- R574-R576: a DRAW_RUN begins its load; with replace 0 it waits while a set is pending or loading. -/
def execDrawRun (wq : Nat) (s : State) : Host.Outcome State Fault Refusal :=
  match s.startable wq 0x08 with
  | none => .next s
  | some (w, f) =>
    let l := f.line
    let a := drawArgs l
    let c := s.chan a.channel
    let fin := fun (st : BitVec 8) => (s.started wq).complete wq f.index l (s.epochOf w) st 0 0
    let mine := c.state != .unallocated && ((c.ownerKind == 0 && w.instOf == some c.owner.toNat) ||
      (c.ownerKind == 1 && w.pfHeld && w.owner.port == c.hostPort.toNat))
    if lf l 208 48 ≠ 0 then .next (fin 0x11)
    else if dFrag l || !loadShape a then .next (fin 0x12)
    else if !mine then .next (fin 0x04)
    else if !a.replace && (c.pending.isSome || c.loading.isSome) then .next s
    else
      let x := { setOf a with wq := some (wq, f.index), line := l, epoch := s.epochOf w }
      .next ((s.started wq).beginLoad a.channel { set := x, space := a.progSpace, addr := a.addr, length := a.length })

/-- R577: load a channel's shadow set from a command. -/
def execDrawLoad (c : Call) (args : DrawLoadArgs) (ring : Option Nat) (cookie : Word) (s : State) : Host.Outcome State Fault Refusal :=
  s.fleso c 0x0802 (·.isMHI) fun a s =>
    let ch := s.chan args.channel
    if 256 ≤ args.channel then (s, .bad 0)
    else if ch.state = .unallocated then (s, .err eNoObject)
    else if !s.reachesChan a ch then (s, .err eNoAuthority)
    else if !loadShape args || args.bases.length != 4 then (s, .bad 8)
    else
      let r := ring.map s.cq
      if r = some none then (s, .err eNoObject)
      else if (r.map fun q => (q.map fun q => q.inst != ch.instOf || !s.reachesObj a c q.owner q.inst).getD true).getD false then (s, .err eNoAuthority)
      else if !args.replace && (ch.pending.isSome || ch.loading.isSome) then (s, .err eWrongState)
      else
        let x := { setOf args with cookie, ring, epoch := (ch.instOf.map fun i => (s.inst i).epoch).getD 0 }
        (s.beginLoad args.channel { set := x, space := args.progSpace, addr := args.addr, length := args.length, call := some c }, .later)

/-- A load fails (R597): its record or its command's error; no set is committed, a pending one stands. -/
def State.loadFailed (s : State) (n : Nat) (l : DrawLoading) (status : BitVec 8) (e : BitVec 8) (detail : List Byte) : State :=
  let c := s.chan n
  let s := { s.modChan n fun c => { c with loading := none } with draw := { (s.modChan n fun c => { c with loading := none }).draw with loadErrors := satInc s.draw.loadErrors } }
  match l.call with
  | some k => (s.answer k.via k.seq 0x0802 e detail).serve
  | none => s.setRecord c l.set status 0 0 0

/-- R575, R579: the program as read is checked and committed. A program in space 1 is read here. -/
def execDrawSetCommit (channel : Nat) (program : ReadResult) (s : State) : Host.Outcome State Fault Refusal :=
  let c := s.chan channel
  match (if s.quench.halted then none else c.loading) with
  | none => .next s
  | some l =>
    let s := (s.dropD2h (s.chanFn c).port (.drawProgram channel)).noteRead (s.chanFn c).port program
    let o := l.addr.toNat
    let res : Option ReadResult :=
      if !l.space then some program
      else if s.space1Bytes c < o + l.length then none
      else some (.data (s.space1Read c o l.length) (s.space1Poisoned c o l.length))
    match res with
    | none => .next (s.loadFailed channel l 0x05 eBadArgument (sliceBytes (leBytes 2 8) 0 16))
    | some .failed => .next (s.loadFailed channel l 0x2b eFault (sliceBytes (leBytes 1 4) 0 16))
    | some (.fault cause) => .next (s.loadFailed channel l 0x06 eFault (sliceBytes (leBytes 8 cause.toNat ++ leBytes 8 o) 0 16))
    | some (.data bs poisoned) =>
      let p := programOf (bs.take l.length)
      if poisoned then .next (s.loadFailed channel l 0x2b eFault (sliceBytes (leBytes 1 5) 0 16))
      else if programBad p || p.length * 16 != l.length then .next (s.loadFailed channel l 0x2a eBadArgument (sliceBytes (leBytes 2 8) 0 16))
      else
        let g := c.shadowGen + 1
        let x := { l.set with program := p, gen := g, priority := if c.maxPrio.toNat < l.set.priority.toNat then c.maxPrio else l.set.priority }
        let s := (s.modChan channel fun c => { c with loading := none, shadowGen := g, pending := some x }).takeSet channel
        match l.call with
        | some k => .next (s.answer k.via k.seq 0x0802 0 (leBytes 8 g.toNat)).serve
        | none => .next s

/-! ### MOVE (R580-R584, R591-R593, R597) -/

/-- Source lines, rounded outward (R581). -/
def DrawJob.srcLines (j : DrawJob) : Nat := (j.src.toNat % 64 + j.n + 63) / 64

/-- Destination lines, rounded outward (R581). -/
def DrawJob.dstLines (j : DrawJob) : Nat := (j.dst.toNat % 64 + j.n + 63) / 64

/-- The line, counted from the lowest of total, at position k in copy order (R582). -/
def DrawJob.place (j : DrawJob) (total k : Nat) : Nat := if j.down then total - 1 - k else k

/-- Address of the source line at position k in copy order. -/
def DrawJob.srcAddr (j : DrawJob) (k : Nat) : Word := BitVec.ofNat 64 ((j.src.toNat / 64 + j.place j.srcLines k) * 64)

/-- The bytes of the block, from an offset to one past the last, in the next destination line. -/
def DrawJob.part (j : DrawJob) : Nat × Nat :=
  let l := j.place j.dstLines j.written
  (l * 64 - j.dst.toNat % 64, min j.n (l * 64 + 64 - j.dst.toNat % 64))

/-- Positions in copy order of the source lines that the next destination line needs. -/
def DrawJob.needs (j : DrawJob) : List Nat :=
  let o := j.src.toNat % 64
  let lines := (List.range ((o + j.part.2 - 1) / 64 + 1 - (o + j.part.1) / 64)).map ((o + j.part.1) / 64 + ·)
  if j.down then lines.reverse.map (j.srcLines - 1 - ·) else lines

/-- Staging lines that a MOVE takes: those issued and not yet used up (R591, R593). -/
def DrawJob.used (j : DrawJob) : Nat := j.issued - j.needs.headD 0

/-- The first line that the next destination line needs and that is not there whole: absent, or failed. -/
def DrawJob.firstBad (j : DrawJob) : Option Nat :=
  j.needs.find? fun k => ((tget j.lines k).map fun l => l.failed.isSome).getD true

/-- Whether the next destination line is staged as far as it can be (R591). -/
def DrawJob.writable (j : DrawJob) : Bool := (j.firstBad.map fun k => (tget j.lines k).isSome).getD true

/-- The bytes of the next destination line that come from lines before the failing one (R597). -/
def DrawJob.good (j : DrawJob) : Nat × Nat :=
  let (a, b) := j.part
  match j.firstBad with
  | none => (a, b)
  | some k =>
    let l := j.place j.srcLines k
    if j.down then (max a (min b (l * 64 + 64 - j.src.toNat % 64)), b) else (a, min b (max a (l * 64 - j.src.toNat % 64)))

/-- The staged byte at an offset of the block (R582). -/
def DrawJob.byte (j : DrawJob) (o : Nat) : Byte :=
  let at_ := j.src.toNat % 64 + o
  ((tget j.lines (j.place j.srcLines (at_ / 64))).map fun l => l.bytes.getD (at_ % 64) 0).getD 0

/-- Hold a MOVE's progress in its channel: a new one comes last. -/
def Chan.putJob (c : Chan) (j : DrawJob) : Chan :=
  { c with jobs := if c.jobs.any fun x => x.seq == j.seq then c.jobs.map fun x => if x.seq = j.seq then j else x else c.jobs ++ [j] }

/-- Staging lines that a channel's MOVEs take, those in flight among them. -/
def Chan.used (c : Chan) : Nat := (c.jobs.map DrawJob.used).sum

/-- Whether a line that failed is staged: the program stops at it, and reads no further. -/
def Chan.stops (c : Chan) : Bool := c.jobs.any fun j => j.lines.any fun l => l.2.failed.isSome

/-- The MOVE that an instruction of a set begins (R580, R582). -/
def moveJob (x : DrawSet) (w : BitVec 128) (pc : BitVec 8) (seq : Nat) : DrawJob :=
  let f := instrField w
  let src := x.bases.getD (f 4 2) 0 + BitVec.ofNat 64 (f 8 40)
  let dst := x.bases.getD (f 6 2) 0 + BitVec.ofNat 64 (f 48 40)
  let srcSpace := x.baseSpace.getLsbD (f 4 2)
  let dstSpace := x.baseSpace.getLsbD (f 6 2)
  { seq, pc, src, dst, n := f 88 29, srcSpace, dstSpace,
    down := srcSpace == dstSpace && decide (src.toNat < dst.toNat ∧ dst.toNat < src.toNat + f 88 29) }

/-- The MOVE of which a channel has a line left to read and a free staging line (R591); with order it begins only once every earlier
write of the program is made. -/
def State.readJob (s : State) (c : Chan) : Option DrawJob :=
  match c.active, c.current with
  | some x, some w =>
    if c.state ≠ .running ∨ instrOp w ≠ 1 ∨ instrField w 88 29 = 0 ∨ c.stops ∨ 64 ≤ c.used then none
    else
      match c.jobs.getLast? with
      | some j =>
        if j.issued < j.srcLines then some j
        else if instrField w 117 1 = 1 then none else some (moveJob x w c.pc s.draw.nextJob)
      | none => some (moveJob x w c.pc s.draw.nextJob)
  | _, _ => none

/-- The MOVE whose next line in copy order a channel has staged (R591): the oldest that is not written whole. Writes go on in a WAIT
(R586). -/
def Chan.writeJob (c : Chan) : Option DrawJob :=
  if c.state ≠ .running ∧ c.state ≠ .waiting then none else c.jobs.head?.filter DrawJob.writable

/-- The lines of module memory that some head tracks under a channel's next beat: the beat waits for them (R266, R268, R584). -/
def State.beatHeld (s : State) (c : Chan) (write : Bool) : List Nat :=
  match (if write then c.writeJob else s.readJob c) with
  | none => []
  | some j =>
    let (space, o) := if write then (j.dstSpace, j.dst.toNat + j.good.1) else (j.srcSpace, (j.srcAddr j.issued).toNat)
    if !space ∨ s.space1Bytes c ≤ o then [] else s.trackedLines (s.space1 c o) 1

/-- The priority at which a channel takes beats: its active one, or the effective one of a vise that it holds, if higher (R591, R659). -/
def State.beatPrio (s : State) (n : Nat) (c : Chan) : Option Nat :=
  c.active.map fun x => ((s.vises.vises.filter fun e => e.2.owner == idChan n).map fun e => e.2.eff.toNat).foldl max x.priority.toNat

/-- Channels that may take a beat, with their priorities (R591). -/
def State.eligible (s : State) (write : Bool) : List (Nat × Nat) :=
  s.draw.chans.filterMap fun e =>
    if (if write then e.2.writeJob else s.readJob e.2).isSome && (s.beatHeld e.2 write).isEmpty then
      (s.beatPrio e.1 e.2).map fun p => (e.1, p)
    else none

/-- Key of the rotation of a kind of beat within a priority. -/
def beatKey (write : Bool) (prio : Nat) : Nat := bnat write * 4 + prio

/-- R591: the channel of highest priority below a bound that a beat goes to, by the rotation within its priority; the bound goes down
by one at a time. -/
def State.pickBeat (s : State) (write : Bool) (l : List (Nat × Nat)) : Nat → Option Nat
  | 0 => none
  | p + 1 =>
    let here := (l.filter fun e => e.2 == p).map (·.1)
    let last := (tget s.draw.granted (beatKey write p)).getD 255
    match (here.find? fun n => decide (last < n)).or here.head? with
    | some n => some n
    | none => s.pickBeat write l p

/-- R591, R592: a channel takes a beat; the eligible channel of lower priority that would have had it loses it. -/
def State.grantBeat (s : State) (write : Bool) (n prio : Nat) : State :=
  let lost := s.pickBeat write (s.eligible write) prio
  let s := { s with draw := { s.draw with granted := tset s.draw.granted (beatKey write prio) n } }
  match lost with
  | none => s
  | some m => { s.modChan m fun c => { c with preempted := true } with
      draw := { (s.modChan m fun c => { c with preempted := true }).draw with preemptions := satInc s.draw.preemptions } }

/-- The status that a read of a host line leaves, with its bytes (R597). -/
def drawLine (res : ReadResult) : DrawLine :=
  match res with
  | .data bs false => { bytes := sliceBytes bs 0 64 }
  | .data _ true => { failed := some 0x07 }
  | .fault _ => { failed := some 0x06 }
  | .failed => { failed := some 0x17 }

/-- A line of space 1 as a read beat finds it (R581, R597). -/
def State.space1Line (s : State) (c : Chan) (o : Nat) : DrawLine :=
  if s.space1Bytes c < o + 64 then { failed := some 0x05 }
  else if s.space1Poisoned c o 64 then { failed := some 0x07 }
  else { bytes := s.space1Read c o 64 }

/-- R581, R591: a read beat: the line is read whole; the last one lets the next instruction begin (R580). -/
def State.readBeat (s : State) (n : Nat) (j : DrawJob) : State :=
  let c := s.chan n
  let at_ := j.srcAddr j.issued
  let s := s.count 0x0070 n 0 1
  let s := if j.srcSpace then s else s.hostRead (s.chanFn c).port (.draw n j.seq j.issued) c.domain at_ 64 0 0
  let lines := if j.srcSpace then tset j.lines j.issued (s.space1Line c at_.toNat) else j.lines
  let s := { s with draw := { s.draw with nextJob := max s.draw.nextJob (j.seq + 1) } }
  s.modChan n fun c => { c.putJob { j with issued := j.issued + 1, lines } with pc := if j.issued + 1 = j.srcLines then c.pc + 1 else c.pc }

/-- R582, R592: a read that was in flight lands in its channel's staging buffer, or finds its program over. -/
def State.drawIn (s : State) (n seq k : Nat) (res : ReadResult) : State :=
  match (s.chan n).jobs.find? fun j => j.seq == seq with
  | none => s
  | some j => s.modChan n fun c => c.putJob { j with lines := tset j.lines k (drawLine res) }

/-- R285: the reads in flight to a port that vanished bring nothing: they fail as those of R273. -/
def State.drawLost (s : State) (port : Nat) : State :=
  { s with draw := { s.draw with chans := s.draw.chans.map fun e =>
      if (s.chanFn e.2).port = port then
        (e.1, { e.2 with jobs := e.2.jobs.map fun j => { j with
          lines := (List.range j.issued).foldl (fun (t : Table DrawLine) k =>
            if j.needs.headD 0 ≤ k ∧ (tget t k).isNone then tset t k (drawLine .failed) else t) j.lines } })
      else e } }

/-- Write a MOVE's bytes at its destination (R581, R584). -/
def State.moveWrite (s : State) (c : Chan) (space : Bool) (dst : Word) (bs : List Byte) : State :=
  if bs.isEmpty then s
  else if space then s.space1Write c dst.toNat bs
  else
    let s := match c.instOf with
      | some i => s.logPages i dst bs.length
      | none => s
    s.hostPut (s.chanFn c).port c.domain dst bs false 0 0 false

/-- A MOVE's program stops at it (R597). -/
def State.stopMove (s : State) (n : Nat) (j : DrawJob) (status : BitVec 8) (at_ : Word) : State :=
  (s.modChan n fun c => { c with pc := j.pc }).endSet n status at_

/-- A MOVE has its next line written: the staging lines that no later line needs are free, and a MOVE written whole is done. -/
def Chan.lineDone (c : Chan) (j : DrawJob) (k : Nat) : Chan :=
  let j := { j with written := j.written + 1, done := j.done + k }
  if j.written = j.dstLines then { c with jobs := c.jobs.filter fun x => x.seq != j.seq }
  else c.putJob { j with lines := j.lines.filter fun l => j.needs.headD 0 ≤ l.1 }

/-- R581, R582, R597: a write beat: the next line in copy order is written with what its lines brought, or the program stops there. -/
def State.writeBeat (s : State) (n : Nat) (j : DrawJob) (wr : Access) : State :=
  let c := s.chan n
  let (a, b) := j.good
  let at_ := j.dst + BitVec.ofNat 64 a
  let acc := if j.dstSpace ∨ a = b then .ok else wr
  if j.dstSpace ∧ a ≠ b ∧ s.space1Bytes c < at_.toNat + (b - a) then s.stopMove n j 0x05 at_
  else
    match acc with
    | .fault _ => s.stopMove n j 0x06 at_
    | .failed =>
      ((s.noteAccess (s.chanFn c).port .failed).raise { source := 1313, unit := 0, inst := c.instOf, addr := some at_ }).stopMove n j 0x2f at_
    | .ok =>
      let s := s.moveWrite c j.dstSpace at_ ((List.range (b - a)).map fun i => j.byte (a + i))
      let s := (s.count 0x0070 n 0 (if a = b then 0 else 1)).count 0x8040 n 0 (b - a)
      let s := s.modChan n fun c => { c with bytes := c.bytes + BitVec.ofNat 64 (b - a) }
      match j.firstBad with
      | none => s.modChan n fun c => c.lineDone j (b - a)
      | some k =>
        let first := j.srcAddr k
        s.stopMove n j (((tget j.lines k).bind DrawLine.failed).getD 0) (if j.place j.srcLines k = 0 then j.src else first)

/-- R580-R584, R591-R593, R597: the engine grants a read or a write beat for a channel's MOVE. A beat that another channel takes, by
priority or rotation, is granted when that channel's own command comes. A MOVE of length 0 needs none. wr is what the host answers
a write. -/
def execMove (channel : Nat) (write : Bool) (wr : Access) (s : State) : Host.Outcome State Fault Refusal :=
  let c := s.chan channel
  if s.quench.halted then .next s
  else if !write ∧ c.state = .running ∧ (c.current.map fun w => instrOp w == 1 && instrField w 88 29 == 0).getD false then
    .next (s.modChan channel fun c => { c with pc := c.pc + 1 })
  else if !(s.beatHeld c write).isEmpty then .next (s.snoopOut 4 (s.beatHeld c write))
  else if s.pickBeat write (s.eligible write) 4 ≠ some channel then .next s
  else
    let s := s.grantBeat write channel ((s.beatPrio channel c).getD 0)
    match (if write then c.writeJob else s.readJob c) with
    | none => .next s
    | some j => .next (if write then s.writeBeat channel j wr else s.readBeat channel j)

/-! ### LOOP, WAIT, SIGNAL, END (R585-R590) -/

/-- Sign-extended 40-bit stride. -/
def stride (v : Nat) : Word := (BitVec.ofNat 40 v).signExtend 64

/-- An instruction that fails stops its program once the writes of the MOVEs before it are made: their effects stand (R597). -/
def State.failAt (s : State) (n : Nat) (status : BitVec 8) : State := if (s.chan n).jobs.isEmpty then s.endSet n status 0 else s

/-- R585: a LOOP. -/
def execLoop (channel : Nat) (s : State) : Host.Outcome State Fault Refusal :=
  let c := s.chan channel
  match c.active, c.current with
  | some x, some w =>
    if s.quench.halted ∨ c.state ≠ .running ∨ instrOp w ≠ 2 then .next s
    else
      let f := instrField w
      let i := c.pc.toNat
      let top := match c.loops with
        | t :: _ => t.1 == i
        | [] => false
      if !top && decide (4 ≤ c.loops.length) then .next (s.failAt channel 0x2a)
      else
        let loops := if top then c.loops else (i, f 12 32 - 1) :: c.loops
        match loops with
        | [] => .next s
        | t :: ts =>
          if t.2 = 0 then .next (s.modChan channel fun c => { c with loops := ts, pc := c.pc + 1 })
          else
            let add := fun (bs : List Word) (k : Nat) (d : Word) => bs.set k (bs.getD k 0 + d)
            let bases := add (add x.bases (f 44 2) (stride (f 48 40))) (f 46 2) (stride (f 88 40))
            .next (s.modChan channel fun c =>
              { c with loops := (t.1, t.2 - 1) :: ts, pc := BitVec.ofNat 8 (f 4 8), active := some { x with bases } })
  | _, _ => .next s

/-- R586: a WAIT begins: it ends at once where its condition holds. -/
def execWait (channel : Nat) (s : State) : Host.Outcome State Fault Refusal :=
  let c := s.chan channel
  match c.active, c.current with
  | some x, some w =>
    if s.quench.halted ∨ c.state ≠ .running ∨ instrOp w ≠ 3 then .next s
    else
      let hold := fun (s : State) => s.modChan channel fun c => { c with state := .waiting, waitSince := s.time.now }
      let go := fun (s : State) => s.modChan channel Chan.goOn
      match instrKind w with
      | 0 =>
        match c.instOf.bind fun i => s.tallyNo i (instrTarget w) with
        | none => .next (s.failAt channel 0x04)
        | some t =>
          if (s.tally t).moving.isNone && reached (s.tally t).value (instrValue w) then .next (go s) else .next (hold s)
      | 1 => if (instrValue w).toNat ≤ s.time.now.toNat then .next (go s) else .next (hold s)
      | _ =>
        let v := instrTarget w % 4096
        let id := idChan channel
        if !s.viseScope (s.vise v) id then .next (if c.jobs.isEmpty then s.notOwner.endSet channel 0x04 0 else s)
        else
          let s := s.claim v id true x.priority
          if (s.vise v).owner = id then
            .next (s.modChan channel fun c => { c.goOn with sawBroken := c.sawBroken || (s.vise v).broken })
          else .next (hold s)
  | _, _ => .next s

/-- R231, R586: the instant of a kind 1 WAIT has come. -/
def execDrawWaitInstant (channel : Nat) (now : Ticks) (s : State) : Host.Outcome State Fault Refusal :=
  let s := s.advance now
  let c := s.chan channel
  match c.current with
  | some w =>
    if !s.quench.halted ∧ c.state = .waiting ∧ instrOp w = 3 ∧ instrKind w = 1 ∧ (instrValue w).toNat ≤ s.time.now.toNat then
      .next (s.modChan channel Chan.goOn)
    else .next s
  | none => .next s

/-- R587: a WAIT of kind 0 or 2 that passes its timeout stops the program. -/
def execDrawWaitTimeout (channel : Nat) (now : Ticks) (s : State) : Host.Outcome State Fault Refusal :=
  let s := s.advance now
  let c := s.chan channel
  match c.current with
  | some w =>
    let t := instrField w 32 32
    if !s.quench.halted ∧ c.state = .waiting ∧ instrOp w = 3 ∧ instrKind w ≠ 1 ∧ t ≠ 0 ∧ us t ≤ (s.time.now - c.waitSince).toNat ∧ c.jobs = [] then
      let s := if instrKind w = 2 then s.withdraw (instrTarget w % 4096) (idChan channel) else s
      .next (s.endSet channel 0x2c 0)
    else .next s
  | none => .next s

/-- R588, R589: a SIGNAL runs, or its record waits for room. -/
def execSignal (channel : Nat) (s : State) : Host.Outcome State Fault Refusal :=
  let c := s.chan channel
  match c.active, c.current with
  | some x, some w =>
    if s.quench.halted ∨ (c.state ≠ .running ∧ c.state ≠ .signalWait) ∨ instrOp w ≠ 4 ∨ c.jobs ≠ [] then .next s
    else
      let go := fun (s : State) => s.modChan channel Chan.goOn
      let deny := s.endSet channel 0x04 0
      match instrKind w with
      | 0 =>
        match c.instOf.bind fun i => s.tallyNo i (instrTarget w) with
        | none => .next deny
        | some t => .next (go (s.tallyAdd t (instrValue w)))
      | 1 =>
        let f := s.chanFn c
        if s.msixSize f ≤ instrTarget w then .next deny else .next (go (s.signal f (instrTarget w)))
      | 2 =>
        let r := instrTarget w
        match s.cq r with
        | none => .next deny
        | some q =>
          let notify := s.matching.ctxs.any fun e => e.2.notify == some (BitVec.ofNat 14 r)
          if q.inst ≠ c.instOf ∨ (c.ownerKind = 1 ∧ q.owner ≠ s.chanFn c) ∨ notify then .next deny
          else if !q.mayFetch then .next (s.modChan channel fun c => { c with state := .signalWait })
          else
            let rec_ : Rec :=
              { userData := instrValue w, opcode := 0x08, bytes := BitVec.ofNat 32 (drawBytes c.bytes), time := s.time.now
                queue := BitVec.ofNat 14 ((x.wq.map (·.1)).getD 0), wqIndex := (x.wq.map (·.2)).getD 0
                result := drawResult x.gen c.pc.toNat true c 0 c.bytes, signal := true, inst := c.instOf, epoch := x.epoch }
            .next (go (s.makeRec r rec_))
      | _ =>
        let v := instrTarget w % 4096
        if (s.vise v).owner ≠ idChan channel then .next deny else .next (go (s.releaseVise v (idChan channel)))
  | _, _ => .next s

/-- R590, R594: an END ends the program and hands over. -/
def execEndProg (channel : Nat) (s : State) : Host.Outcome State Fault Refusal :=
  let c := s.chan channel
  match c.current with
  | some w => if !s.quench.halted ∧ c.state = .running ∧ instrOp w = 5 ∧ c.jobs = [] then .next (s.endSet channel 0x00 0) else .next s
  | none => .next s

/-! ### Stopping -/

/-- Stop a channel (R598): active and pending programs end with draw_stopped, its vises break. -/
def State.stopChan (s : State) (n : Nat) : State :=
  let c := s.chan n
  let s := s.modChan n fun c => { c with pending := none }
  let s := s.endSet n 0x2d 0
  let s := match c.pending with
    | some x => s.setRecord c x 0x2d 0 0 0
    | none => s
  s.breakIdentity (idChan n)

/-- Instance reset stops an owned channel without records (R552, R599). -/
def State.dropChan (s : State) (n : Nat) : State :=
  (((s.dropD2h (s.chanFn (s.chan n)).port (.drawProgram n)).modChan n fun c => { c with state := .idle, active := none, pending := none, loading := none, loops := [] }).dropJobs n).breakIdentity (idChan n)

/-- R598: stop a channel. -/
def execDrawStop (c : Call) (channel : Nat) (s : State) : Host.Outcome State Fault Refusal :=
  s.fleso c 0x0803 (·.isMHI) fun a s =>
    let ch := s.chan channel
    if 256 ≤ channel then (s, .bad 0)
    else if ch.state = .unallocated then (s, .err eNoObject)
    else if !s.reachesChan a ch then (s, .err eNoAuthority)
    else (s.stopChan channel, .ok)

/-- Channels that an instance owns. -/
def State.chansOf (s : State) (i : Nat) : List Nat :=
  (s.draw.chans.filter fun e => e.2.state != .unallocated && e.2.ownerKind == 0 && e.2.owner.toNat == i).map (·.1)

/-- R570: allocate or free a channel. Under Instance or Host authority max_priority is taken from the grant, of which R547 states no
number: it is a free value (log entry 99). -/
def execDrawChannel (c : Call) (channel : Option Nat) (owner : Option Nat) (maxPriority : BitVec 2) (free : Bool) (s : State) :
    Host.Outcome State Fault Refusal :=
  s.fleso c 0x0801 (·.isMHI) fun a s =>
    if (channel.map fun n => decide (256 ≤ n)).getD false then (s, .bad 0)
    else if free then
      match channel with
      | none => (s, .bad 0)
      | some n =>
        let ch := s.chan n
        if ch.state = .unallocated then (s, .err eNoObject)
        else if !s.reachesChan a ch then (s, .err eNoAuthority)
        else if ch.state ≠ .idle ∨ ch.pending.isSome ∨ ch.loading.isSome then (s, .err eWrongState)
        else (s.modChan n fun c => { c with state := .unallocated }, .res (leBytes 8 n))
    else
      match s.holder a owner with
      | none => (s, .err eNoAuthority)
      | some h =>
        let fn := match c.via with
          | .mailbox f _ => some f.port
          | _ => none
        if h.isNone ∧ fn.isNone then (s, .err eNoAuthority)
        else if (h.map fun i => (s.inst i).state == .free).getD false then (s, .err eNoObject)
        else if (h.map fun i => decide (s.grant i 4 ≤ (s.chansOf i).length)).getD false then (s, .grant 4)
        else
          let ok := fun (n : Nat) => (s.chan n).state == .unallocated && !(s.chan n).fenced
          match (match channel with
                 | some n => some n
                 | none => (List.range 256).find? ok) with
          | none => (s, .pool 4)
          | some n =>
            if !ok n then (s, .err eWrongState)
            else
              let (prio, s) := if a.isM then (maxPriority, s) else
                let (k, s) := s.drawFree 4
                (BitVec.ofNat 2 k, s)
              let port := (h.map fun i => (s.inst i).port.toNat).getD (fn.getD 0)
              (s.modChan n fun c =>
                { ({} : Chan) with state := .idle, maxPrio := prio, owner := BitVec.ofNat 10 (h.getD 0), ownerKind := if h.isSome then 0 else 1,
                                   hostPort := BitVec.ofNat 2 port, activeGen := c.activeGen, shadowGen := c.shadowGen },
               .res (leBytes 8 n))

/-! ### Vise commands (R656) -/

/-- The vise identity of a caller (R647). -/
def State.callerIdentity (s : State) (via : Arrival) : BitVec 16 :=
  match via with
  | .mailbox f _ =>
    match f.vf with
    | some v => idMailbox ((s.boundInst f.port v).getD 0)
    | none => idPf f.port
  | .f63 _ => 0x8404
  | .sideband _ => 0x8405
  | .debug => 0x8406
  | .fabric _ _ => 0

/-- R656: claim a vise for the caller's identity, waiting at priority 1; the result is the owner and the broken flag. -/
def execViseClaim (c : Call) (vise : Nat) (s : State) : Host.Outcome State Fault Refusal :=
  s.fleso c 0x0804 (·.isMHI) fun _ s =>
    let id := s.callerIdentity c.via
    if 4096 ≤ vise then (s, .bad 0)
    else if !s.viseScope (s.vise vise) id then (s.notOwner, .err eNoAuthority)
    else
      let s := s.claim vise id true 1
      (s, .res (leBytes 8 (s.vise vise).owner.toNat ++ leBytes 8 (bnat (s.vise vise).broken)))

/-- R656: release or withdraw. -/
def execViseRelease (c : Call) (vise : Nat) (s : State) : Host.Outcome State Fault Refusal :=
  s.fleso c 0x0805 (·.isMHI) fun _ s =>
    let id := s.callerIdentity c.via
    let v := s.vise vise
    if 4096 ≤ vise then (s, .bad 0)
    else if v.owner = id ∨ v.waiters.any (fun w => w.1 == id) then (s.releaseVise vise id, .ok)
    else (s.notOwner, .err eNoAuthority)

end Sys2Proof.Machine
end

