-- ==== Sys2Proof/Machine/Remote.lean ====
section
/-! DEFINITION. Remote access (09): operations at their source, windows, the counts at a target, puts, gets, atomics, remote
Tally adds; fragment chains (R316-R319). -/

namespace Sys2Proof.Machine

open Sys2Proof

/-! ### Packets that left the ejection queue (R198) -/

/-- Packets that wait for ejection room try again (R199). -/
def State.retryLocal (s : State) : State :=
  let ws := s.routing.waiting.filter (·.localOnly)
  if ws.isEmpty then s
  else
    let (s, kept) := ({ s with routing := { s.routing with waiting := s.routing.waiting.filter fun q => !q.localOnly } }).retryList ws []
    { s with routing := { s.routing with waiting := kept ++ s.routing.waiting } }

/-- The order stage, the operation table or the collective store may have room again: a filling that is over ends, and packets that wait
for it are tried again (R353, R386, R449, R498). -/
def State.unfill (s : State) : State :=
  ({ s with routing := { s.routing with
    orderFilling := s.routing.orderFilling && !s.orderRoom
    tableFilling := s.routing.tableFilling && decide (Config.openMax ≤ s.remote.openOps.length)
    storeFilling := s.routing.storeFilling && decide (s.collStore ≤ s.collUsed) } }).retryLocal

/-- The host port at the head of whose ejection queue a packet stands; packets leave in arrival order (R198). -/
def State.ejectHead (s : State) (p : Packet) : Option Nat :=
  if s.quench.halted then none
  else (s.sched.eject.find? fun e => e.2.head?.map (·.pkt) == some p).map (·.1)

/-- A host port's oldest packet leaves its ejection queue. -/
def State.takeEject (s : State) (h : Nat) : State :=
  match tgetD s.sched.eject h [] with
  | [] => s
  | q :: qs =>
    let s := { s with sched := { s.sched with eject := if qs.isEmpty then tdel s.sched.eject h else tset s.sched.eject h qs } }
    (s.noteQueue (qidEject h) 0 (some q.since)).retryLocal

/-! ### Numbers (R116, R385) -/

/-- The next n numbers of a stream. -/
def State.nextE2e (s : State) (k : StreamKey) (n : Nat) : BitVec 32 × State :=
  match s.remote.e2eNext.find? fun e => e.1 == k with
  | none => (0, { s with remote := { s.remote with e2eNext := s.remote.e2eNext ++ [(k, BitVec.ofNat 32 n)] } })
  | some (_, v) =>
    (v, { s with remote := { s.remote with e2eNext := s.remote.e2eNext.map fun e =>
      if e.1 = k then (k, v + BitVec.ofNat 32 n) else e } })

/-- The next op_tag of an instance's endpoint. -/
def State.nextTag (s : State) (inst : Nat) : BitVec 32 × State :=
  let v := tgetD s.remote.opTags inst 0
  (v, { s with remote := { s.remote with opTags := tset s.remote.opTags inst (v + 1) } })

/-! ### Open operations at their source -/

/-- An operation open at its source. -/
def State.srcOp (s : State) (src : Endpoint) (tag : BitVec 32) : Option SrcOp :=
  s.remote.srcOps.find? fun o => o.src == src && o.tag == tag
/-- Put an operation back. -/
def State.setSrc (s : State) (o : SrcOp) : State :=
  { s with remote := { s.remote with srcOps := s.remote.srcOps.map fun x => if x.src = o.src ∧ x.tag = o.tag then o else x } }
/-- Take an operation out. -/
def State.dropSrc (s : State) (o : SrcOp) : State :=
  { s with remote := { s.remote with srcOps := s.remote.srcOps.filter fun x => !(x.src == o.src && x.tag == o.tag) } }

/-- Whether an operation's epoch is over (R555). -/
def State.srcStale (s : State) (o : SrcOp) : Bool :=
  match s.wq o.wq with
  | some w => s.stale w.instOf o.epoch
  | none => (s.inst o.inst).epoch != o.epoch

/-- Host port and translation domain of an operation's local data. -/
def State.placeOf (s : State) (o : SrcOp) : Nat × Nat :=
  match s.wq o.wq with
  | some w => (w.owner.port, w.domain)
  | none => ((s.inst o.inst).port.toNat, o.inst)

/-- The pieces of local data that hold n bytes from operation offset o (R317). -/
def pieces : List (Word × Nat) → Nat → Nat → List (Word × Nat)
  | [], _, _ => []
  | (a, l) :: fs, o, n =>
    if n = 0 then []
    else if l ≤ o then pieces fs (o - l) n
    else
      let k := min n (l - o)
      (a + BitVec.ofNat 64 o, k) :: pieces fs 0 (n - k)

/-- Read n bytes of an operation's local data at an offset, under one outstanding read (R112, R261). -/
def State.readLocal (s : State) (o : SrcOp) (tag : D2hTag) (off n : Nat) : State :=
  let (p, d) := s.placeOf o
  let l := pieces o.frags off n
  (l.foldl (fun (s : State) (c : Word × Nat) => s.touch d c.1 c.2 0 o.src o.tag false) s).addD2h p
    { tag, reads := l.map fun c => (d, c.1, c.2) }

/-- Write bytes into local data: every piece's pages are logged, then written (R425). -/
def State.writePieces (s : State) (port domain : Nat) (inst : Option Nat) (who : Endpoint) (which : BitVec 32) (poisoned : Bool) :
    List (Word × Nat) → List Byte → State
  | [], _ => s
  | c :: cs, bs =>
    let s := match inst with
      | some i => s.logPages i c.1 c.2
      | none => s
    (s.hostPut port domain c.1 (bs.take c.2) poisoned who which false).writePieces port domain inst who which poisoned cs (bs.drop c.2)

/-- Write bytes at an operation offset of an operation's local data. -/
def State.writeLocal (s : State) (o : SrcOp) (off : Nat) (bs : List Byte) (poisoned : Bool) : State :=
  let (p, d) := s.placeOf o
  let inst := if d < 1024 then some d else none
  let s := (inst.map fun i => s.count 0x8031 i o.tc.toNat bs.length).getD s
  s.writePieces p d inst o.src o.tag poisoned (pieces o.frags off bs.length) bs

/-! ### Packets of an operation (R99, R101, R394, R395, R404, R419, R341, R344) -/

/-- local_tally of a PUT, GET or ATOMIC (R393). -/
def localTally (l : Line) : Option Nat := if dOp l ≤ 3 && bit l 334 then some (lf l 320 14) else none

/-- The 48 bytes of an ATOMIC_REQ (R404, R419), from the descriptor and, for inline = 0, the operand area. -/
def atomicPayload (l : Line) (area : List Byte) : List Byte :=
  if dOp l = 9 then
    leBytes 1 0x10 ++ leBytes 1 3 ++ leBytes 1 (2 * lf l 291 1) ++ leBytes 13 0 ++ leBytes 16 (lf l 192 64) ++
    leBytes 16 (if bit l 291 then lf l 320 64 else 0)
  else
    leBytes 1 (lf l 296 8) ++ leBytes 1 (lf l 336 4) ++ leBytes 1 (lf l 344 1) ++ leBytes 13 0 ++
    (if bit l 345 then leBytes 16 (lf l 384 64) ++ leBytes 16 (lf l 448 64) else sliceBytes area 0 32)

/-- Packet i of an operation, sealed over its bytes. -/
def SrcOp.packet (o : SrcOp) (i : Nat) (bs : List Byte) (poisoned resent : Bool) : Packet :=
  let l := o.line
  let base : Packet :=
    { tc := o.tc, mcast := o.mcast, dst := o.dst, src := o.src, opTag := o.tag, e2eSeq := o.e2eBase + BitVec.ofNat 32 i,
      pktIndex := BitVec.ofNat 16 i, first := i == 0, last := i + 1 == o.npkts, poisoned, resent }
  let put := fun (p : Packet) (bs : List Byte) => Packet.seal_ { p with payload := bs, payloadLen := BitVec.ofNat 13 bs.length }
  match o.kind with
  | .put => put { base with pktType := 0x01, opOffset := BitVec.ofNat 32 (4096 * i), typeWord := BitVec.ofNat 64 (lf l 192 64),
                            opExt := BitVec.ofNat 15 (lf l 304 15) } bs
  | .get => put { base with pktType := 0x02, typeWord := BitVec.ofNat 64 (lf l 192 64), opExt := BitVec.ofNat 15 (lf l 304 15) }
              (leBytes 4 o.length ++ leBytes 4 0 ++ leBytes 8 0)
  | .rdvRead => put { base with pktType := 0x02, typeWord := BitVec.ofNat 64 (lf l 192 64) }
              (leBytes 4 o.length ++ leBytes 4 0 ++ leBytes 8 o.base)
  | .atomic => put { base with pktType := 0x04, typeWord := BitVec.ofNat 64 (lf l 192 64), opExt := BitVec.ofNat 15 (lf l 304 15) }
              (atomicPayload l o.operand)
  | .tallyAdd => put { base with pktType := 0x04, opExt := BitVec.ofNat 15 (lf l 304 14 + 2 ^ 14) } (atomicPayload l [])
  | .msgSend =>
    let ext : BitVec 15 := BitVec.ofNat 15 ((if o.zeroGap && resent && i == 0 then 0 else o.msgGap.toNat) + 512 * lf l 288 6)
    if o.rdv then put { base with pktType := 0x07, typeWord := BitVec.ofNat 64 (lf l 192 64), opExt := ext }
                    (leBytes 4 o.length ++ leBytes 12 0)
    else put { base with pktType := 0x06, opOffset := BitVec.ofNat 32 (4096 * i), typeWord := BitVec.ofNat 64 (lf l 192 64), opExt := ext } bs

/-- Bytes of packet i. -/
def SrcOp.bytesOf (o : SrcOp) (i : Nat) : Nat := min 4096 (o.length - 4096 * i)

/-- Whether packet i carries bytes read from local data: how many, and where they stand. -/
def SrcOp.needs (o : SrcOp) (i : Nat) : Option (Nat × Nat) :=
  match o.kind with
  | .put => if o.bytesOf i = 0 then none else some (4096 * i, o.bytesOf i)
  | .msgSend => if o.rdv || o.bytesOf i == 0 then none else some (4096 * i, o.bytesOf i)
  | .atomic => if bit o.line 345 then none else some (0, 32)
  | _ => none

/-- Send packet i of an operation, or read its bytes first (R394, R409). -/
def State.sendPacket (s : State) (o : SrcOp) (i : Nat) (resent : Bool) : State :=
  match o.needs i with
  | some (off, n) => s.readLocal o (.payload o.src o.tag (BitVec.ofNat 16 i)) off n
  | none => s.inject o.inst (o.packet i [] false resent)

/-- An operation injects its first packet, or reads its bytes; its packets go in ascending pkt_index (R394). -/
def State.launch (s : State) (o : SrcOp) : State :=
  (s.setSrc { o with started := true, next := 1, lastAt := s.time.now }).sendPacket { o with started := true, next := 1 } 0 false

/-! ### Completion at the source (R415, R416) -/

/-- Messages of a stream that R343 holds back go once every earlier one has completed. -/
def State.releaseSends (s : State) (k : StreamKey) : State :=
  let mine := s.remote.srcOps.filter fun o => o.kind == .msgSend && { src := o.src, dst := o.dst, tc := o.tc : StreamKey } == k
  match mine with
  | [] => s
  | o :: _ => if o.gapHeld && !o.held then s.launch { o with gapHeld := false, msgGap := 0 } else s

/-- The local Tally increment (R416, R418). -/
def State.addLocal (s : State) (w : Option Nat) (l : Line) (bytes : Nat) : State :=
  match w, localTally l with
  | some i, some slot =>
    match s.tallyNo i slot with
    | some n => s.tallyAdd n ((s.tally n).amount bytes)
    | none => s
  | _, _ => s

/-- The instance of a queue. -/
def State.wqInst (s : State) (q : Nat) : Option Nat := (s.wq q).bind (·.instOf)

/-- An operation completes at its source: its local Tally increment, then its record (R416); one of an earlier epoch is
left to the sweep (R555). -/
def State.finishSrc (s : State) (o : SrcOp) (status : BitVec 8) (bytes : Nat) (result : BitVec 256) : State :=
  if s.srcStale o then s.countStale (some o.inst)
  else
    let n := if status = 0 ∨ status = 7 then bytes else 0
    let s := (s.dropSrc o).addLocal (s.wqInst o.wq) o.line n
    let s := s.complete o.wq o.index o.line o.epoch status n result
    if o.kind = .msgSend then s.releaseSends { src := o.src, dst := o.dst, tc := o.tc } else s

/-- The bytes that a completion reports (R416): an atomic's are its type's. -/
def SrcOp.done_ (o : SrcOp) : Nat :=
  match o.kind with
  | .atomic => atypeSize (lf o.line 336 4)
  | .tallyAdd => 0
  | _ => o.length

/-! ### Starting (R56, R126, R161, R316-R319, R385) -/

/-- Whether the source refuses a destination with unreachable (R56, R126, R161, R397). -/
def State.unreachable (s : State) (dst : Endpoint) (mcast : Bool) : Bool :=
  let r := s.routing
  if mcast then
    !s.castOk dst
  else
    let m := addrModule dst
    !r.valid m || (tget r.holes m.toNat).isSome || (m != r.moduleId && (r.entry (r.bank r.activeBank) m).2.isEmpty)

/-- The source endpoint of a queue's operations: its instance's. A queue that a physical function holds has no instance; the
instance number of its operations is a free value (assumption log 54). -/
def State.srcOf (s : State) (w : Wq) : Nat × Endpoint × State :=
  match w.instOf with
  | some i => (i, endpointOf s.routing.moduleId (s.inst i).port.toNat i, s)
  | none =>
    let (i, s) := s.drawFree 1024
    (i, endpointOf s.routing.moduleId w.owner.port i, s)

/-- Read a fragment table of n entries. -/
def State.readTable (s : State) (o : SrcOp) (a : Word) (n : Nat) : State :=
  let o := { o with held := true, tables := o.tables ++ [a], chain := n }
  let (p, d) := s.placeOf o
  (s.setSrc o).hostRead p (.fragTable o.src o.tag) d a (16 * n) o.src o.tag

/-- Begin an operation: its tag and stream numbers, then its chain or its first packet. -/
def State.beginOp (s : State) (q : Nat) (w : Wq) (f : Fetched) (i : Nat) (src : Endpoint) (o : SrcOp) : State :=
  let l := f.line
  let (tag, s) := s.nextTag i
  let (e2e, s) := s.nextE2e { src, dst := o.dst, tc := o.tc, form := if o.mcast then 2 else 0 } o.npkts
  let o := { o with src, tag, wq := q, index := f.index, inst := i, epoch := s.epochOf w, line := l, e2eBase := e2e, tagId := f.tagId,
                    lastAt := s.time.now, fetchedAt := s.time.now, frags := [(dAddr l, dLen l)] }
  let s := { s with remote := { s.remote with srcOps := s.remote.srcOps ++ [o] } }
  if dFrag l then s.readTable { o with frags := [] } (dAddr l) (lf l 16 9)
  else if o.gapHeld then s else s.launch o

/-- What one fragment table says: its fragments and the next table, or the status of R319's first case. -/
def tableScan : List (List Byte) → Nat → List Word → List (Word × Nat) → Except (BitVec 8) (List (Word × Nat) × Option (Word × Nat))
  | [], _, _, acc => .ok (acc, none)
  | e :: es, left, seen, acc =>
    let v := leNat e
    let a : Word := BitVec.ofNat 64 v
    let n := fieldAt v 64 29
    if fieldAt v 93 3 ≠ 0 ∨ fieldAt v 97 31 ≠ 0 ∨ n = 0 then .error 0x13
    else if fieldAt v 96 1 = 1 then
      if left ≠ 1 ∨ 256 < n ∨ a.toNat % 16 ≠ 0 then .error 0x13
      else if seen.contains a then .error 0x15
      else if 64 ≤ seen.length then .error 0x14
      else .ok (acc, some (a, n))
    else if Config.maxLength < n then .error 0x13
    else tableScan es (left - 1) seen (acc ++ [(a, n)])

/-- The 16-byte entries of n. -/
def entriesOf (bs : List Byte) (n : Nat) : List (List Byte) := (List.range n).map fun i => sliceBytes bs (16 * i) 16

/-- R316-R319: a table of an operation's chain has been read. -/
def State.chainRead (s : State) (o : SrcOp) (bs : List Byte) : State :=
  match tableScan (entriesOf bs o.chain) o.chain o.tables o.frags with
  | .error st => s.finishSrc o st 0 0
  | .ok (fr, some (a, n)) => s.readTable { o with frags := fr } a n
  | .ok (fr, none) =>
    if (fr.map (·.2)).foldl (· + ·) 0 ≠ o.length then s.finishSrc o 0x16 0 0
    else
      let o := { o with frags := fr, held := false }
      if o.gapHeld then (s.setSrc o).releaseSends { src := o.src, dst := o.dst, tc := o.tc } else (s.setSrc o).launch o

/-! ### PUT, GET, ATOMIC, TALLY_ADD (R393-R404, R419, R420) -/

/-- Whether a field that PUT, GET and ATOMIC share, or one that the opcode leaves zero, breaks R393. -/
def remoteReserved (l : Line) : Bool :=
  let op := dOp l
  let inline_ := bit l 345
  lf l 252 4 != 0 || lf l 285 3 != 0 || lf l 288 2 == 3 || lf l 291 5 != 0 || bit l 319 || bit l 335 || lf l 340 4 != 0 ||
  lf l 346 6 != 0 || lf l 352 32 != 0 || (op != 1 && bit l 290) ||
  (if op = 3 then (!inline_ && lf l 384 64 != 0) || (lf l 448 64 != 0 && !(inline_ && lf l 296 8 == 7))
   else lf l 296 8 != 0 || lf l 336 4 != 0 || lf l 344 2 != 0 || lf l 384 128 != 0)

/-- R402: the form of an ATOMIC descriptor. -/
def atomicForm (l : Line) : Bool :=
  !dFrag l &&
  if bit l 345 then
    atypeSize (lf l 336 4) ≤ 8 && (if bit l 344 then dLen l == 8 && (dAddr l).toNat % 8 == 0 else dLen l == 0 && dAddr l == 0)
  else dLen l == 48 && (dAddr l).toNat % 16 == 0

/-- The status that ends a PUT, GET or ATOMIC before anything is sent; the Bool says that its Tally is added to (R403, R416,
R420). -/
def State.refusal (s : State) (w : Wq) (l : Line) : Option (BitVec 8 × Bool) :=
  let t := lf l 336 4
  let aop := lf l 296 8
  let badTally := match localTally l with
    | none => false
    | some slot => (w.instOf.bind fun i => s.tallyNo i slot).isNone
  if remoteReserved l then some (0x11, false)
  else if dOp l = 3 ∧ !atomicForm l then some (0x12, false)
  else if dOp l = 3 ∧ (!atomicPair aop t ∨ aop = 0x10) then some (0x31, true)
  else if dOp l = 3 ∧ lf l 192 48 % atypeSize t ≠ 0 then some (0x30, true)
  else if badTally then some (0x32, false)
  else if s.unreachable (BitVec.ofNat 29 (lf l 256 29)) (bit l 290) then some (0x08, true)
  else none

/-- Complete a descriptor that starts nothing. -/
def State.refuse (s : State) (q : Nat) (w : Wq) (f : Fetched) (status : BitVec 8) (tally : Bool) : State :=
  (if tally then s.addLocal w.instOf f.line 0 else s).complete q f.index f.line (s.epochOf w) status 0 0

/-- Start a PUT, GET or ATOMIC. -/
def State.startRemote (s : State) (q op : Nat) (kind : OpKind) : State :=
  match s.startable q op with
  | none => s
  | some (w, f) =>
    let l := f.line
    let s := s.started q
    match s.refusal w l with
    | some (st, t) => s.refuse q w f st t
    | none =>
      let (i, src, s) := s.srcOf w
      let o : SrcOp :=
        { src := 0, tag := 0, kind, dst := BitVec.ofNat 29 (lf l 256 29), tc := BitVec.ofNat 2 (lf l 288 2), mcast := bit l 290
          length := dLen l, npkts := if kind = .put then max 1 (ceilDiv (dLen l) 4096) else 1 }
      s.beginOp q w f i src o

/-- R394, R397: a PUT starts. -/
def execPut (wq : Nat) (s : State) : Host.Outcome State Fault Refusal := .next (s.startRemote wq 1 .put)
/-- R395: a GET starts. -/
def execGet (wq : Nat) (s : State) : Host.Outcome State Fault Refusal := .next (s.startRemote wq 2 .get)
/-- R402: an ATOMIC starts. -/
def execAtomic (wq : Nat) (s : State) : Host.Outcome State Fault Refusal := .next (s.startRemote wq 3 .atomic)

/-- R419, R420: a TALLY_ADD adds here, or sends a remote add. -/
def execTallyAdd (wq : Nat) (s : State) : Host.Outcome State Fault Refusal :=
  match s.startable wq 9 with
  | none => .next s
  | some (w, f) =>
    let l := f.line
    let s := s.started wq
    if lf l 285 3 ≠ 0 ∨ lf l 288 2 = 3 ∨ lf l 292 12 ≠ 0 ∨ lf l 318 2 ≠ 0 ∨ lf l 384 128 ≠ 0 then .next (s.refuse wq w f 0x11 false)
    else if dLen l ≠ 0 ∨ dAddr l ≠ 0 ∨ dFrag l then .next (s.refuse wq w f 0x12 false)
    else if bit l 290 then
      match w.instOf.bind fun i => s.tallyNo i (lf l 304 14) with
      | none => .next (s.refuse wq w f 0x32 false)
      | some n =>
        let v := (s.tally n).value + BitVec.ofNat 64 (lf l 192 64)
        let s := s.tallyAdd n (BitVec.ofNat 64 (lf l 192 64))
        let s := if bit l 291 then s.arm n (BitVec.ofNat 64 (lf l 320 64)) else s
        .next (s.complete wq f.index l (s.epochOf w) 0 0 (v.zeroExtend 256))
    else if s.unreachable (BitVec.ofNat 29 (lf l 256 29)) false then .next (s.refuse wq w f 0x08 false)
    else
      let (i, src, s) := s.srcOf w
      .next (s.beginOp wq w f i src
      { src := 0, tag := 0, kind := .tallyAdd, dst := BitVec.ofNat 29 (lf l 256 29), tc := BitVec.ofNat 2 (lf l 288 2) })

/-! ### Responses (R390-R392) -/

/-- Send a RESPONSE for an operation to the endpoint that sent it. -/
def State.sendResponse (s : State) (from_ to_ : Endpoint) (tc : BitVec 2) (tag : BitVec 32) (word : Word) (resent : Bool) : State :=
  let (e, s) := s.nextE2e { src := from_, dst := to_, tc } 1
  s.inject (addrInst from_) (Packet.seal_
    { pktType := 0x08, tc, dst := to_, src := from_, opTag := tag, typeWord := word, e2eSeq := e, first := true, last := true, resent })

/-- Send an ATOMIC_RESP (R404), poisoned where the atomic was (R111). -/
def State.sendAtomicResp (s : State) (from_ to_ : Endpoint) (tc : BitVec 2) (tag : BitVec 32) (v : BitVec 128) (poisoned resent : Bool) : State :=
  let (e, s) := s.nextE2e { src := from_, dst := to_, tc } 1
  s.inject (addrInst from_) (Packet.seal_
    { pktType := 0x05, tc, dst := to_, src := from_, opTag := tag, payload := leBytes 16 v.toNat, payloadLen := 16, e2eSeq := e,
      first := true, last := true, poisoned, resent })

/-- type_word of a per-packet RESPONSE (R392). -/
def perPacket (status : BitVec 8) (idx : BitVec 16) : Word := BitVec.ofNat 64 (status.toNat + 1024 + 65536 * idx.toNat)

/-! ### Target operations (R383-R392) -/

/-- Put an entry in, or back. -/
def State.setOpen (s : State) (e : OpenOp) : State :=
  let l := s.remote.openOps
  let known := l.any fun x => x.src == e.src && x.tag == e.tag
  let l := if known then l.map (fun x => if x.src = e.src ∧ x.tag = e.tag then e else x) else l ++ [e]
  { s with remote := { s.remote with openOps := l } }
/-- Take an entry out. -/
def State.dropOpen (s : State) (src : Endpoint) (tag : BitVec 32) : State :=
  { s with remote := { s.remote with openOps := s.remote.openOps.filter fun x => !(x.src == src && x.tag == tag) } }
/-- Put a tombstone back. -/
def State.setTomb (s : State) (t : Tomb) : State :=
  { s with remote := { s.remote with tombs := s.remote.tombs.map fun x => if x.src = t.src ∧ x.tag = t.tag then t else x } }

/-- Make a tombstone for tomb_us; a full store loses its oldest (R391). -/
def State.addTomb (s : State) (t : Tomb) : State :=
  let t := { t with expires := s.time.now + BitVec.ofNat 64 (us s.remote.tombUs.toNat) }
  let s := (s.dropOpen t.src t.tag).count 0x0050 t.inst 0 1
  if s.remote.tombs.length < Config.tombMax then { s with remote := { s.remote with tombs := s.remote.tombs ++ [t] } }
  else
    ({ s with remote := { s.remote with tombs := s.remote.tombs.drop 1 ++ [t], tombEarly := satInc s.remote.tombEarly } }).raiseAt 1281 0

/-- Count a duplicate (R387). -/
def State.countDup (s : State) (p : Packet) : State :=
  { s.count 0x0051 (addrInst p.dst) 0 1 with remote := { s.remote with dupDiscards := satInc s.remote.dupDiscards } }

/-- Packets of a GET's answer. -/
def getPackets (req : Packet) : Nat := max 1 (ceilDiv (leAt req.payload 0 4) 4096)
/-- Read length of a GET_REQ. -/
def getLen (req : Packet) : Nat := leAt req.payload 0 4 % 2 ^ 29
/-- dest_base of a GET_REQ (R395). -/
def getBase (req : Packet) : Nat := leAt req.payload 8 8

/-- GET_RESP i of a request, of the bytes read (R396). -/
def getRespPacket (req : Packet) (dst : Endpoint) (i : Nat) (bs : List Byte) (e2e : BitVec 32) (poisoned resent : Bool) : Packet :=
  Packet.seal_
    { pktType := 0x03, tc := req.tc, dst := req.src, src := dst, opTag := req.opTag, opOffset := BitVec.ofNat 32 (4096 * i),
      typeWord := BitVec.ofNat 64 (getBase req), payload := bs, payloadLen := BitVec.ofNat 13 bs.length, e2eSeq := e2e,
      pktIndex := BitVec.ofNat 16 i, first := i == 0, last := i + 1 == getPackets req, poisoned, resent }

/-- Send GET_RESP i. -/
def State.sendGetResp (s : State) (req : Packet) (i : Nat) (bs : List Byte) (poisoned resent : Bool) : State :=
  let (e, s) := s.nextE2e { src := req.dst, dst := req.src, tc := req.tc } 1
  s.inject (addrInst req.dst) (getRespPacket req req.dst i bs e poisoned resent)

/-- A window entry (R381). -/
def State.window (s : State) (inst win : Nat) : BitVec 256 := tgetD s.remote.windows (inst * 4096 + win) 0

/-- Read the bytes of GET_RESP i from a window or, for a rendezvous read, from the pending send's local data (R360, R396). -/
def State.readForGet (s : State) (req : Packet) (i : Nat) (resent : Bool) : State :=
  let n := min 4096 (getLen req - 4096 * i)
  let tag : D2hTag := .respond req.src req.opTag (BitVec.ofNat 16 i)
  if bit req.typeWord 63 then
    match s.srcOp req.dst (BitVec.ofNat 32 (bits req.typeWord 59 28)) with
    | some o => s.readLocal o tag (bits req.typeWord 27 0 + 4096 * i) n
    | none => s
  else
    let inst := addrInst req.dst
    let w := s.window inst (bits req.typeWord 59 48)
    let off := bits req.typeWord 47 0 + 4096 * i
    if bit w 113 then
      let a := bits w 63 0 + off
      s.sendGetResp req i (memRead s.mem a n) (s.memPoisoned a n) resent
    else s.hostRead (s.inst inst).port.toNat tag inst (BitVec.ofNat 64 (bits w 63 0 + off)) n req.src req.opTag

/-- Whether GET_RESP i is read from module memory at once. -/
def State.getLocal (s : State) (req : Packet) : Bool :=
  !bit req.typeWord 63 && bit (s.window (addrInst req.dst) (bits req.typeWord 59 48)) 113

/-- Send what can be read at once of a GET's answer, from packet i on, or begin its next read; n bounds the loop. -/
def State.serveGet (s : State) (req : Packet) : Nat → Nat → State
  | 0, _ => s
  | n + 1, i =>
    if getPackets req ≤ i then s
    else if s.getLocal req then (s.readForGet req i false).serveGet req n (i + 1)
    else s.readForGet req i false

/-- The tracked lines that GET_RESP i's read of module memory must wait for (R266, R268). -/
def State.packetHeld (s : State) (req : Packet) (i : Nat) : List Nat :=
  s.trackedLines (bits (s.window (addrInst req.dst) (bits req.typeWord 59 48)) 63 0 + bits req.typeWord 47 0 + 4096 * i) (min 4096 (getLen req - 4096 * i))

/-- Send packets of a GET's answer from module memory again; those that a head still holds a line of are left. -/
def State.rereadLocal (s : State) (req : Packet) (l : List Nat) : State × List Nat :=
  l.foldl (fun (x : State × List Nat) i =>
    let held := x.1.packetHeld req i
    if held.isEmpty then (x.1.readForGet req i true, x.2) else (x.1.snoopOut 4 held, x.2 ++ [i])) (s, [])

/-- Send a tombstone's stored response again (R387, R411). -/
def State.sendStored (s : State) (t : Tomb) : State :=
  if t.mcast then s
  else
    match t.result, t.getReq with
    | some v, _ => s.sendAtomicResp t.dst t.src t.tc t.tag v (t.status == wsPoisoned) true
    | none, some req =>
      if (t.status = 0 ∨ t.status = 7) ∧ getLen req ≠ 0 then
        if s.getLocal req then
          let (s, left) := s.rereadLocal req (List.range (getPackets req))
          s.setTomb { t with rereads := left }
        else (s.setTomb { t with rereads := List.range (getPackets req) }).readForGet req 0 true
      else s.sendResponse t.dst t.src t.tc t.tag t.word true
    | none, none => s.sendResponse t.dst t.src t.tc t.tag t.word true

/-- The tree entry that a delivered multicast packet's header read (R159). -/
def State.castEntry (s : State) (p : Packet) : BitVec 128 := p.cast.getD (s.treeOf p.dst)

/-- Instance of a packet at its target: a multicast PUT's is its tree's (R398). -/
def State.targetInst (s : State) (p : Packet) : Nat := if p.mcast then bits (s.castEntry p) 91 82 else addrInst p.dst

/-- Orders 1 and 2 of R383: the refusal. -/
def State.refusedAt (s : State) (p : Packet) : Option (BitVec 8) :=
  let i := s.targetInst p
  let x := s.inst i
  if x.state = .free ∨ (!p.mcast ∧ x.port.toNat ≠ addrPort p.dst) then some wsNoEndpoint
  else if x.state ≠ .active ∨ x.quiescing then some wsTargetReset
  else none

/-- Orders 3 and 4 of R383 for n bytes at a packet's window offset; perm is the permission's bit: the error. -/
def State.windowError (s : State) (p : Packet) (perm off n align : Nat) : Option (BitVec 8) :=
  let i := s.targetInst p
  let w := s.window i (bits p.typeWord 59 48)
  let src := bits w 156 128
  let ign := bits w 188 160
  let tallyOk := !bit p.opExt 14 || (s.tallyNo i (bits p.opExt 13 0)).isSome
  if !bit w 117 || ((p.src.toNat ^^^ src) &&& (2 ^ 29 - 1 - ign)) != 0 || !bit w perm || !tallyOk then some wsAccessDenied
  else if bits w 112 64 < off + n ∨ (bits w 63 0 + off) % align ≠ 0 then some wsOutOfBounds
  else none

/-- The Notice of a multicast put refused or in error at a receiving module (R398). -/
def State.mcastNotice (s : State) (p : Packet) : State := s.raise { source := 1284, inst := some (s.targetInst p) }

/-- A refusal ends the operation at once (R383, R387): tombstone and RESPONSE, or a Notice for a multicast put. -/
def State.refuseOp (s : State) (p : Packet) (status : BitVec 8) : State :=
  let word := status.zeroExtend 64
  let s := s.addTomb { src := p.src, tag := p.opTag, status, dst := p.dst, tc := p.tc, mcast := p.mcast, expires := 0,
                       inst := s.targetInst p, word }
  if p.mcast then s.mcastNotice p else s.sendResponse p.dst p.src p.tc p.opTag word false

/-- Count an arrival (R387): its packet is received; the totals follow the last packet. -/
def Counts.take (c : Counts) (p : Packet) : Counts :=
  { c with received := nset c.received p.pktIndex.toNat, pkts := c.pkts + 1, bytes := c.bytes + p.payloadLen.toNat,
           poisoned := c.poisoned || p.poisoned,
           totals := if p.last then some (p.pktIndex.toNat + 1, p.opOffset.toNat + p.payloadLen.toNat) else c.totals }
/-- The counts close (R387). -/
def Counts.closes (c : Counts) : Bool := c.totals == some (c.pkts, c.bytes)
/-- R388: a second last packet, or one beyond the totals. -/
def Counts.beyond (c : Counts) (p : Packet) : Bool :=
  match c.totals with
  | none => false
  | some (n, b) => p.last || decide (n ≤ p.pktIndex.toNat) || decide (b < p.opOffset.toNat + p.payloadLen.toNat)
/-- Record an error; the first one stays. -/
def Counts.fail (c : Counts) (st : BitVec 8) : Counts := if c.err = 0 then { c with err := st } else c
/-- The final status (R390). -/
def Counts.status (c : Counts) : BitVec 8 := if c.err ≠ 0 then c.err else if c.poisoned then wsPoisoned else 0

/-- A Seal mismatch at a target or requester (R107, R109): the state with its Mend and per-packet answer, and whether it is
the packet's second. -/
def State.sealFails (s : State) (p : Packet) (c : Counts) : State × Counts × Bool :=
  let again := c.badSeals.contains p.pktIndex.toNat
  let s := s.raise { source := 1280, inst := some (s.targetInst p), breakCode := if again then 4 else 0 }
  if again then (s, c, true)
  else
    let s := if p.mcast then s.sendFault 3 1280 false p
      else s.sendResponse p.dst p.src p.tc p.opTag (perPacket wsSealMismatch p.pktIndex) false
    (s, { c with badSeals := nset c.badSeals p.pktIndex.toNat }, false)

/-- The entry of a packet's operation, made where there is none. -/
def State.entryFor (s : State) (p : Packet) : OpenOp :=
  match s.openOp p.src p.opTag with
  | some e => { e with lastAt := s.time.now }
  | none =>
    let i := s.targetInst p
    { src := p.src, tag := p.opTag, inst := i, epoch := (s.inst i).epoch, opExt := p.opExt, tc := p.tc, dst := p.dst, mcast := p.mcast,
      lastAt := s.time.now }

/-- Write a packet's bytes into a window: module memory, or the instance's host memory with its pages logged (R387, R425). -/
def State.writeWindow (s : State) (p : Packet) (off : Nat) (bs : List Byte) (poisoned : Bool) : State :=
  let i := s.targetInst p
  let s := s.count 0x8031 i p.tc.toNat bs.length
  let w := s.window i (bits p.typeWord 59 48)
  let a := bits w 63 0 + off
  if bit w 113 then s.storeMem a bs poisoned
  else (s.logPages i (BitVec.ofNat 64 a) bs.length).hostPut (s.inst i).port.toNat i (BitVec.ofNat 64 a) bs poisoned p.src p.opTag true

/-- The outcome of an access as an error (R383 order 5, R816); a module-memory window has no translation. -/
def accessError (tier1 : Bool) : Access → Option (BitVec 8)
  | .ok => none
  | .fault _ => if tier1 then none else some wsTranslationFault
  | .failed => some wsMemoryFailed

/-- End an operation out of bounds (R388). -/
def State.endBeyond (s : State) (p : Packet) : State :=
  (s.raise { source := 1285, inst := some (s.targetInst p) }).refuseOp p wsOutOfBounds

/-- R387: an arriving PUT packet. -/
def State.acceptPut (s : State) (p : Packet) (acc : Access) : State :=
  match s.tomb p.src p.opTag with
  | some t => let s := s.countDup p
              if p.resent then s.sendStored t else s
  | none =>
    match s.refusedAt p with
    | some st => s.refuseOp p st
    | none =>
      let off := bits p.typeWord 47 0 + p.opOffset.toNat
      let tier1 := bit (s.window (s.targetInst p) (bits p.typeWord 59 48)) 113
      let e := s.entryFor p
      if e.counts.received.contains p.pktIndex.toNat then s.countDup p
      else if e.counts.beyond p then s.endBeyond p
      else
        let bad := match s.windowError p 115 off p.payloadLen.toNat 1 with
          | some st => some st
          | none => match acc with
            | .fault _ => accessError tier1 acc
            | _ => none
        if bad.isNone && !sealOk p then
          match s.sealFails p e.counts with
          | (s, _, true) => s.refuseOp p wsSealMismatch
          | (s, c, false) => s.setOpen { e with counts := c }
        else
          let (s, c) := match bad with
            | some st => (s, e.counts.fail st)
            | none => match accessError tier1 acc with
              | some st => let s := if tier1 then s else s.noteAccess (s.inst (s.targetInst p)).port.toNat acc
                (if tier1 then s else s.logPages (s.targetInst p) (BitVec.ofNat 64 (bits (s.window (s.targetInst p) (bits p.typeWord 59 48)) 63 0 + off)) p.payloadLen.toNat, e.counts.fail st)
              | none => (s.writeWindow p off p.payload p.poisoned, e.counts)
          let c := c.take p
          s.setOpen { e with counts := c, closed := c.closes }

/-- The tracked lines that a packet's write into module memory must wait for (R268). -/
def State.awaitsSnoop (s : State) (p : Packet) (perm n align : Nat) : List Nat :=
  let w := s.window (s.targetInst p) (bits p.typeWord 59 48)
  let off := bits p.typeWord 47 0 + p.opOffset.toNat
  if !bit w 113 || (s.tomb p.src p.opTag).isSome || (s.refusedAt p).isSome || (s.windowError p perm off n align).isSome ||
    (s.entryFor p).counts.received.contains p.pktIndex.toNat then []
  else s.trackedLines (bits w 63 0 + off) n

/-- R387, R398: a PUT packet leaves the ejection queue and is taken; a multicast copy that no instance here receives is
discarded. -/
def execPutPacket (p : Packet) (acc : Access) (s : State) : Host.Outcome State Fault Refusal :=
  match s.ejectHead p with
  | none => .next s
  | some h =>
    if p.pktType ≠ 0x01 then .next s
    else if !(s.awaitsSnoop p 115 p.payloadLen.toNat 1).isEmpty then
      .next (s.snoopOut 4 (s.awaitsSnoop p 115 p.payloadLen.toNat 1))
    else
      let s := s.takeEject h
      if p.mcast ∧ (!bit (s.castEntry p) 92 ∨ (s.inst (s.targetInst p)).state = .free) then
        .next (({ s with routing := { s.routing with discards := s.routing.discards + 1 } }).raiseAt 1284 0)
      else .next (s.acceptPut p acc).unfill

/-- An atomic's write to host memory: RdOwn of the line, held Modified for the atomic alone, then its write-back (R261, R262, R405). -/
def State.ownedWrite (s : State) (port domain : Nat) (va : Word) (n : Nat) (v : BitVec 128) (poisoned : Bool) : State :=
  if !s.canWrite port then s
  else (s.emit (.d2hRead port .write true domain va n)).emit (.atomicWrite port domain va n v poisoned)

/-- R383, R405-R408: an atomic, or a remote TALLY_ADD, is executed on what its target holds. -/
def State.acceptAtomic (s : State) (p : Packet) (old : BitVec 128) (oldPoison : Bool) (acc : Access) : State :=
  let aop := leAt p.payload 0 1
  let t := leAt p.payload 1 1
  let flags := leAt p.payload 2 1
  let i := s.targetInst p
  match s.tomb p.src p.opTag with
  | some tb => let s := s.countDup p
               if p.resent then s.sendStored tb else s
  | none =>
    match s.refusedAt p with
    | some st => s.refuseOp p st
    | none =>
      let e := s.entryFor p
      let off := bits p.typeWord 47 0
      let w := s.window i (bits p.typeWord 59 48)
      let tier1 := bit w 113
      let n := atypeSize t
      let badPair := !atomicPair aop t || (flags % 4 / 2 == 1 && aop != 0x10)
      let bad := if aop = 0x10 then
          (if badPair || !bit p.opExt 14 || (s.tallyNo i (bits p.opExt 13 0)).isNone then some wsAccessDenied else none)
        else match s.windowError p 116 off n (max 1 n) with
          | some st => if badPair then some wsAccessDenied else some st
          | none => if badPair then some wsAccessDenied else match acc with
            | .fault _ => accessError tier1 acc
            | _ => none
      if e.counts.received.contains p.pktIndex.toNat then s.countDup p
      else if bad.isNone && !sealOk p then
        match s.sealFails p e.counts with
        | (s, _, true) => s.refuseOp p wsSealMismatch
        | (s, c, false) => s.setOpen { e with counts := c }
      else
        let c := { (e.counts.take p) with bytes := n }
        match bad with
        | some st => s.setOpen { e with counts := c.fail st, closed := true }
        | none =>
          if aop = 0x10 then
            match s.tallyNo i (bits p.opExt 13 0) with
            | none => s
            | some k =>
              let s := s.tallyAdd k (BitVec.ofNat 64 (leAt p.payload 16 8))
              let s := if flags % 4 / 2 = 1 then s.arm k (BitVec.ofNat 64 (leAt p.payload 32 8)) else s
              s.setOpen { e with counts := c, closed := true, opExt := 0 }
          else
            let a := bits w 63 0 + off
            let s := if tier1 then s else (s.logPages i (BitVec.ofNat 64 a) n).noteAccess (s.inst i).port.toNat acc
            match accessError tier1 acc with
            | some st => s.setOpen { e with counts := c.fail st, closed := true }
            | none =>
              let v := if tier1 then leNat (memRead s.mem a n) else old.toNat % 2 ^ (8 * n)
              let v' := atomicResult aop t v (leAt p.payload 16 16) (leAt p.payload 32 16)
              let dirty := p.poisoned || (if tier1 then s.memPoisoned a n else oldPoison)
              let s := if tier1 then s.storeMem a (leBytes n v') dirty
                else (s.touch i (BitVec.ofNat 64 a) n 1 p.src p.opTag true).ownedWrite (s.inst i).port.toNat i (BitVec.ofNat 64 a) n (BitVec.ofNat 128 v') dirty
              s.setOpen { e with counts := { c with poisoned := dirty }, closed := true, result := if flags % 2 = 1 then some (BitVec.ofNat 128 v) else none }

/-- R405: an ATOMIC_REQ leaves the ejection queue and is executed. -/
def execAtomicReq (p : Packet) (old : BitVec 128) (oldPoison : Bool) (acc : Access) (s : State) : Host.Outcome State Fault Refusal :=
  match s.ejectHead p with
  | none => .next s
  | some h =>
    if p.pktType ≠ 0x04 then .next s
    else
      let n := atypeSize (leAt p.payload 1 1)
      let held := if leAt p.payload 0 1 = 0x10 then [] else s.awaitsSnoop p 116 n (max 1 n)
      .next (if held.isEmpty then ((s.takeEject h).acceptAtomic p old oldPoison acc).unfill else s.snoopOut 4 held)

/-! ### The end at the target, expiries (R390, R391, R413) -/

/-- R390: the target ends an operation whose counts have closed: its Tally, its tombstone, its response. -/
def execOperationEnd (src : Endpoint) (tag : BitVec 32) (s : State) : Host.Outcome State Fault Refusal :=
  match (if s.quench.halted then none else s.openOp src tag) with
  | none => .next s
  | some e =>
    let gone := match e.req with
      | some r => decide (getPackets r ≤ e.sent) || getLen r == 0 || e.counts.err != 0
      | none => true
    if !e.closed || !gone then .next s
    else if (s.inst e.inst).epoch ≠ e.epoch then .next ((s.dropOpen src tag).countStale (some e.inst)).unfill
    else
      let st := e.counts.status
      let ok := st = 0 ∨ st = 7
      let bytes := match e.req with
        | some r => getLen r
        | none => e.counts.bytes
      let s := if ok ∧ bit e.opExt 14 then
          (match s.tallyNo e.inst (bits e.opExt 13 0) with
           | some n => s.tallyAdd n ((s.tally n).amount bytes)
           | none => s)
        else s
      let word : Word := st.zeroExtend 64
      let result := if ok then e.result else none
      let s := s.addTomb { src, tag, status := st, result, getReq := e.req, dst := e.dst, tc := e.tc, mcast := e.mcast, expires := 0,
                           inst := e.inst, word }
      if e.mcast then .next (if ok then s else s.raise { source := 1284, inst := some e.inst }).unfill
      else
        .next (match result, e.req with
        | some v, _ => s.sendAtomicResp e.dst src e.tc tag v (st == wsPoisoned) false
        | none, some r => if ok ∧ getLen r ≠ 0 then s else s.sendResponse e.dst src e.tc tag word false
        | none, none => s.sendResponse e.dst src e.tc tag word false).unfill

/-- R391: a tombstone expires. -/
def execTombstoneExpiry (src : Endpoint) (tag : BitVec 32) (now : Ticks) (s : State) : Host.Outcome State Fault Refusal :=
  let s := s.advance now
  match s.tomb src tag with
  | none => .next s
  | some t =>
    if s.time.now.toNat < t.expires.toNat then .next s
    else .next { s with remote := { s.remote with tombs := s.remote.tombs.filter fun x => !(x.src == src && x.tag == tag) } }

/-- R413: an open entry without arrivals for open_expire_ms is discarded. -/
def execOpenEntryExpiry (src : Endpoint) (tag : BitVec 32) (now : Ticks) (s : State) : Host.Outcome State Fault Refusal :=
  let s := s.advance now
  match s.openOp src tag with
  | none => .next s
  | some e =>
    if e.closed || decide ((s.time.now - e.lastAt).toNat < ms s.remote.openExpireMs.toNat) then .next s
    else
      let s := s.dropOpen src tag
      .next (({ s with remote := { s.remote with expiredOpen := satInc s.remote.expiredOpen } }).raise
        { source := 1282, inst := some e.inst, about := some (.source src tag) }).unfill

/-- Whether a copy of an operation's packets is still queued in this module. -/
def State.opQueued (s : State) (src : Endpoint) (tag : BitVec 32) : Bool :=
  let mine := fun (q : QPkt) => q.pkt.src == src && q.pkt.opTag == tag && q.pkt.pktType == 0x01
  s.sched.inject.any mine || s.routing.waiting.any mine || s.tiles.any fun e => e.2.egress.any mine

/-- settle_us of R399, in ticks. -/
def State.settle_ (s : State) : Nat := us (s.routing.routeWaitUs.toNat + 4 * s.routing.timeoutUs.toNat)

/-- R399: a multicast put completes. -/
def execMulticastPutSettle (src : Endpoint) (tag : BitVec 32) (now : Ticks) (s : State) : Host.Outcome State Fault Refusal :=
  let s := s.advance now
  match s.srcOp src tag with
  | none => .next s
  | some o =>
    if !o.mcast || o.held || o.injected < o.npkts || !o.rereads.isEmpty || s.opQueued src tag ||
       decide ((s.time.now - o.lastAt).toNat < s.settle_) then .next s
    else .next (s.finishSrc o 0 o.length 0)

end Sys2Proof.Machine
end

