-- ==== Sys2Proof/Machine/Place.lean ====
section
/-! DEFINITION. Placement of contexts and payload (11): choice of a home cell, tier grants, the placement log. -/

namespace Sys2Proof.Machine

open Sys2Proof

/-- Quadrant of a cell (R479, R480). -/
def cellQuad (n : Nat) : Nat :=
  let t := n / 64
  2 * (t / 8 / 4) + t % 8 / 4

/-- Cells of a role that are not fenced. -/
def State.cellsOf (s : State) (role : Nat) : List (Nat × Cell) :=
  s.striker.cells.filter fun e => e.2.role.toNat == role && e.2.state != 2 && !e.2.drain

/-- The least busy of a list of cells; a tie goes to the lowest number. -/
def leastBusy : List (Nat × Cell) → Option Nat
  | [] => none
  | e :: es => match es.foldl (fun (m : Nat × Nat) x => if x.2.busy.toNat < m.2 then (x.1, x.2.busy.toNat) else m) (e.1, e.2.busy.toNat) with
    | (n, _) => some n

/-- R485, R493, R494, R504: a context's home cell, and whether a limit left no choice. -/
def State.homeFor (s : State) (pin : Option Nat) (mask : BitVec 4) : Nat × Bool :=
  let cells := s.cellsOf 1
  let inMask := fun (e : Nat × Cell) => bit mask (cellQuad e.1)
  let allowed := cells.filter inMask
  let roomy := allowed.filter fun e => 4096 ≤ e.2.free.toNat
  match pin with
  | some n => (n, false)
  | none =>
    if s.striker.frozen then
      (((roomy.head?.map (·.1)).getD ((allowed.head?.map (·.1)).getD ((cells.head?.map (·.1)).getD 0))), allowed.isEmpty)
    else
      match leastBusy roomy with
      | some n => (n, false)
      | none => match leastBusy allowed with
        | some n => (n, false)
        | none => ((leastBusy cells).getD 0, true)

/-- The 32 bytes of a placement record (R505). -/
def placeBytes (r : PlaceRec) : List Byte :=
  leBytes 8 r.time.toNat ++ leBytes 1 r.kind.toNat ++ leBytes 1 r.reason.toNat ++ leBytes 2 0 ++ leBytes 4 r.object.toNat ++
  leBytes 4 r.from_.toNat ++ leBytes 4 r.to_.toNat ++ leBytes 4 r.freezeNs.toNat ++ leBytes 4 r.share.toNat

/-- Write a placement record, or count it lost (R505). -/
def State.logPlace (s : State) (kind reason object from_ to_ freezeNs share : Nat) : State :=
  if !s.striker.logEnable then s
  else
    match s.striker.logRing with
    | none => s
    | some (off, entries) =>
      let r : PlaceRec := { time := s.time.now, kind := BitVec.ofNat 8 kind, reason := BitVec.ofNat 8 reason, object := BitVec.ofNat 32 object,
                            from_ := BitVec.ofNat 32 from_, to_ := BitVec.ofNat 32 to_, freezeNs := BitVec.ofNat 32 freezeNs,
                            share := BitVec.ofNat 32 share }
      match s.ringAppend (reportBase + off) (Nat.log2 entries) s.striker.log.length (placeBytes r) with
      | (s, some _) => { s with striker := { s.striker with log := s.striker.log ++ [r] } }
      | (s, none) => { s with striker := { s.striker with logLost := satInc s.striker.logLost } }

/-- No former cell or root. -/
def noPlace : Nat := 0xffffffff

/-- Payload bytes that a context holds in a tier. -/
def Ctx.tierBytes (c : Ctx) (t : BitVec 2) : Nat :=
  ((c.unexp ++ c.claimed).map fun m => if m.tier = t ∧ !m.rdv then (m.packets.map fun p => p.payloadLen.toNat).foldl (· + ·) 0 else 0).foldl (· + ·) 0

/-- Bytes of the module's unexpected pool in use. -/
def State.poolUsed (s : State) : Nat := (s.matching.ctxs.map fun e => e.2.tierBytes 1).foldl (· + ·) 0
/-- Bytes of a cell's 32 KiB store that unexpected payload uses (R487). -/
def State.cellUsed (s : State) (cell : Nat) : Nat :=
  (s.matching.ctxs.map fun e => if e.2.homeCell.toNat = cell then e.2.tierBytes 0 else 0).foldl (· + ·) 0
/-- Bytes of the pool (R379). -/
def State.poolSize (s : State) : Nat := s.matching.unexpPoolMib.toNat * 1048576

/-- Bytes that a cell's store keeps in reserve (R487-R489). -/
def State.reserve (s : State) : Nat := s.striker.reservePct.toNat * 32768 / 100

/-- R487: the tiers granted to a context: cell (bit 0), module (bit 1), host (bit 2). -/
def State.tierGrant (s : State) (c : Ctx) : BitVec 3 :=
  let cellOk := decide (s.reserve + c.tierBytes 0 ≤ (s.cell c.homeCell.toNat).free.toNat) && c.cellLimit != 0
  let modOk := decide (c.tierBytes 1 < c.moduleLimit) && decide (s.poolUsed < s.poolSize)
  BitVec.ofNat 3 (bnat cellOk + 2 * bnat modOk + 4 * bnat (c.hostAreaLen != 0))

/-- Whether a tier can take n more bytes within the context's limit (R363, R487). -/
def State.tierTakes (s : State) (c : Ctx) (t : BitVec 2) (n : Nat) : Bool :=
  if t = 0 then decide (c.tierBytes 0 + n ≤ c.cellLimit) && decide (s.cellUsed c.homeCell.toNat + n ≤ 32768)
  else if t = 1 then decide (c.tierBytes 1 + n ≤ c.moduleLimit) && decide (s.poolUsed + n ≤ s.poolSize)
  else decide (c.tierBytes 2 + n ≤ c.hostAreaLen)

/-- The host-area bytes that n bytes of payload take: whole 64-byte units (R487). -/
def hostUnits (n : Nat) : Nat := max 64 (ceilDiv n 64 * 64)

/-- First fit of n bytes in a context's host area, in 64-byte units (R487), beside what messages of its lists and matched messages not yet
read back hold there. -/
def Ctx.hostFit (c : Ctx) (n : Nat) : Option Nat :=
  let need := hostUnits n
  let used := ((c.unexp ++ c.claimed).flatMap fun m => m.hostAt) ++ c.active.flatMap fun r => (r.msg.map (·.hostAt)).getD []
  let free := fun (a : Nat) => a + need ≤ c.hostAreaLen && used.all fun u => u.1 + u.2 ≤ a || a + need ≤ u.1
  (0 :: used.map fun u => u.1 + u.2).foldl (fun (b : Option Nat) a => if free a then (match b with
    | some x => some (min x a)
    | none => some a) else b) none

end Sys2Proof.Machine
end

