-- ==== Sys2Proof/Machine/Matching.lean ====
section
/-! DEFINITION. Tagged message matching (08): the order stage, contexts, receives, eager and rendezvous messages. -/

namespace Sys2Proof.Machine

open Sys2Proof

/-! ### Contexts and records -/

/-- op_result of a MSG_RECV or arrival record (R375, R376). -/
def matchResult (mb : Word) (src : Endpoint) (len last rndv unexp : Nat) : BitVec 256 :=
  BitVec.ofNat 256 (packFields [(64, mb.toNat), (32, src.toNat), (32, len), (32, last), (1, rndv), (1, unexp)])

/-- An arrival record on a context's notify ring, if it has space; else the arrival is counted, and one record of the
missed arrivals comes before any later one (R376, R377). -/
def State.arrivalRec (s : State) (k : Nat) (status : BitVec 8) (result : BitVec 256) : State :=
  match s.ctx k with
  | none => s
  | some c =>
    match c.notify with
    | none => s
    | some r =>
      let s := s.missedArrivals r.toNat
      let missed := ((s.ctx k).map (·.missed)).getD 0
      let room := match s.cq r.toNat with
        | some q => s.ringReady q && q.parked.isEmpty
        | none => false
      if room && missed == 0 then
        s.makeRec r.toNat { userData := c.cookie, recKind := 2, status, time := s.time.now, result, signal := true, inst := some (k / 64),
                            epoch := (s.inst (k / 64)).epoch }
      else s.modCtx k fun c => { c with missed := c.missed + 1 }

/-- The arrival record of a message whose length is known (R376). -/
def State.arrived (s : State) (k : Nat) (m : Msg) : State :=
  s.arrivalRec k 0 (matchResult m.matchBits m.src (m.length.getD 0) k 0 0)

/-! ### The posted lists: on die and spilled (R357, R366, R367) -/

/-- Posted receives that stand on the die of a cell. -/
def State.dieUsed (s : State) (cell : Nat) : Nat :=
  (s.matching.ctxs.map fun e => if e.2.homeCell.toNat = cell then e.2.onDie else 0).foldl (· + ·) 0
/-- Posted receives that a cell's die still takes: 512 for a cell, 1,048,576 for the module (R367). -/
def State.dieRoom (s : State) (cell : Nat) : Nat :=
  min (512 - s.dieUsed cell) (1048576 - (s.matching.ctxs.map fun e => e.2.onDie).foldl (· + ·) 0)
/-- Receives in the module's posted spill, and the spill's size (R367). -/
def State.spillUsed (s : State) : Nat := (s.matching.ctxs.map fun e => e.2.posted.length - e.2.onDie).foldl (· + ·) 0
def State.spillSize (s : State) : Nat := min 67108864 (s.matching.postedSpillMib.toNat * 16384)

/-- A cell moves spilled entries back on die in posting order (R357), contexts in ascending number (DESIGN CHOICE, assumption log 121). -/
def State.refill (s : State) (cell : Nat) : State :=
  s.matching.ctxs.foldl (fun (s : State) e =>
    if e.2.homeCell.toNat ≠ cell then s
    else s.modCtx e.1 fun c => { c with onDie := min c.posted.length (c.onDie + s.dieRoom cell) }) s

/-- Append a receive to a posted list: on die behind no spilled one, else in the spill; none when neither has room (R357, R366). -/
def State.post (s : State) (k : Nat) (c : Ctx) (r : Recv) : Option State :=
  if c.postedMax.toNat ≤ c.posted.length then none
  else if c.onDie = c.posted.length ∧ 0 < s.dieRoom c.homeCell.toNat then
    some (s.modCtx k fun c => { c with posted := c.posted ++ [r], onDie := c.onDie + 1 })
  else if s.spillUsed < s.spillSize then some (s.modCtx k fun c => { c with posted := c.posted ++ [r] })
  else none

/-- A receive leaves a posted list. -/
def State.unpost (s : State) (k : Nat) (r : Recv) : State :=
  match s.ctx k with
  | none => s
  | some c => (s.modCtx k fun c => { c with posted := c.posted.erase r,
                                            onDie := if c.posted.idxOf r < c.onDie then c.onDie - 1 else c.onDie }).refill c.homeCell.toNat

/-- Whether a message matches a posted receive (R354). -/
def matchesRecv (mb : Word) (src : Endpoint) (r : Recv) : Bool :=
  (mb ^^^ r.matchBits) &&& ~~~r.ignore == 0 && (src ^^^ r.src) &&& ~~~r.srcIgnore == 0

/-- Whether two messages are one. -/
def sameMsg (m : Msg) (src : Endpoint) (tag : BitVec 32) : Bool := m.src == src && m.tag == tag

/-- The final RESPONSE of a message (R345, R346), with its tombstone. -/
def State.finalResp (s : State) (m : Msg) (status : BitVec 8) (stored : Bool) : State :=
  let word : Word := BitVec.ofNat 64 (status.toNat + 512 * bnat stored)
  (s.addTomb { src := m.src, tag := m.tag, status, dst := m.dst, tc := m.tc, expires := 0, inst := addrInst m.dst, word }).sendResponse
    m.dst m.src m.tc m.tag word false

/-- Put an active receive back. -/
def Ctx.setActive (c : Ctx) (r : Recv) : Ctx :=
  { c with active := c.active.map fun x => if x.wq = r.wq ∧ x.index = r.index then r else x }
/-- Take one out; a closing context without any is gone (R340). -/
def State.dropActive (s : State) (k : Nat) (r : Recv) : State :=
  let s := s.modCtx k fun c => { c with active := c.active.filter fun x => !(x.wq == r.wq && x.index == r.index) }
  match s.ctx k with
  | some c => if c.state = 3 ∧ c.active.isEmpty then { s with matching := { s.matching with ctxs := tdel s.matching.ctxs k } } else s
  | none => s

/-! ### Completing a receive (R359, R361, R362, R374, R375) -/

/-- A matched receive completes; answer: whether the sender gets a final RESPONSE that it has not had. -/
def State.endRecv (s : State) (k : Nat) (r : Recv) (answer : Bool) : State :=
  match r.msg with
  | none => s
  | some m =>
    let len := m.length.getD r.counts.bytes
    let cut := decide (r.length < len)
    let st := if r.counts.err ≠ 0 then r.counts.err else if cut then 0x20 else r.counts.status
    let bytes := if r.counts.err ≠ 0 then 0 else min len r.length
    let s := s.dropActive k r
    let s := if cut ∧ r.counts.err = 0 then s.modCtx k fun c => { c with truncations := satInc c.truncations } else s
    let s := if answer ∧ !m.answered then
      s.finalResp m (if r.counts.err ≠ 0 then r.counts.err else if cut then 0 else r.counts.status) false else s
    s.complete r.wq r.index r.line r.epoch st bytes (matchResult m.matchBits m.src len 0 (bnat r.rndv) (bnat r.wasUnexp))

/-- A receive whose counts are complete, and whose straddling bytes are in, completes (R359, R362). -/
def State.checkRecv (s : State) (k : Nat) (r : Recv) : State :=
  match r.msg with
  | none => s
  | some m => if !m.rdv && !m.headerOnly && r.counts.closes && r.strad != 1 then s.endRecv k r true else s

/-- Begin a rendezvous read (R360, R361) of n bytes at offset off of a message's send buffer, into the receive's buffer. -/
def State.readRdv (s : State) (k : Nat) (r : Recv) (m : Msg) (off n : Nat) : State :=
  let inst := k / 64
  let (tag, s) := s.nextTag inst
  let (e2e, s) := s.nextE2e { src := m.dst, dst := m.src, tc := m.tc } 1
  let tw := 2 ^ 63 + m.tag.toNat * 2 ^ 28 + off
  let o : SrcOp := { src := m.dst, tag, kind := .rdvRead, wq := r.wq, index := r.index, inst, epoch := r.epoch,
                     line := BitVec.ofNat 512 (tw * 2 ^ 192), dst := m.src, tc := m.tc, length := n, e2eBase := e2e, frags := r.frags,
                     lastAt := s.time.now, fetchedAt := s.time.now, ctx := k, recvIdx := r.index, base := off }
  ({ s with remote := { s.remote with srcOps := s.remote.srcOps ++ [o] } }).launch o

/-- Issue the rendezvous read of a matched message that is announced, or held as a header only, once its length is known. -/
def State.askRdv (s : State) (k : Nat) (r : Recv) : State :=
  match r.msg with
  | none => s
  | some m =>
    if r.asked || !(m.rdv || m.headerOnly) then s
    else
      match m.length with
      | none => s
      | some len =>
        let r := { r with asked := true, rndv := true }
        (s.modCtx k fun c => c.setActive r).readRdv k r m 0 (min len r.length)

/-- A rendezvous read ends, with a status (R361, R362, R816); wire says that the source or the data decided it, so that the
sender gets its final RESPONSE. -/
def State.endRdv (s : State) (o : SrcOp) (status : BitVec 8) (wire : Bool) : State :=
  let s := s.dropSrc o
  match s.ctx o.ctx with
  | none => s
  | some c =>
    match c.active.find? fun r => r.wq == o.wq && r.index == o.index with
    | none => s
    | some r =>
      if s.srcStale o then s.countStale (some o.inst)
      else
        let c := if status = wsPoisoned then { r.counts with poisoned := true }
          else if status = 0 then r.counts else r.counts.fail status
        let r := { r with counts := c, rndv := true }
        if r.strad = 1 then
          let r := { r with strad := 2 }
          (s.modCtx o.ctx fun c => c.setActive r).checkRecv o.ctx r
        else s.endRecv o.ctx r wire

/-! ### Writing eager packets (R359, R362, R364) -/

/-- Count a packet of a message: its length once its last packet is known, the arrival record that waited for it (R376). -/
def State.noteLast (s : State) (k : Nat) (m : Msg) (p : Packet) : State × Msg :=
  if p.last then
    let m := { m with length := some (p.opOffset.toNat + p.payloadLen.toNat) }
    if m.recordDue then (s.arrived k m, { m with recordDue := false }) else (s, m)
  else (s, m)

/-- Host port, domain and instance of a receive's buffer. -/
def State.recvPlace (s : State) (k : Nat) (r : Recv) : Nat × Nat × Option Nat :=
  match s.wq r.wq with
  | some w => (w.owner.port, w.domain, w.instOf)
  | none => ((s.inst (k / 64)).port.toNat, k / 64, some (k / 64))

/-- A packet of a matched message whose bytes cannot be had counts as received, and its error is the receive's (R816). -/
def State.recvFailed (s : State) (k : Nat) (r : Recv) (p : Packet) (status : BitVec 8) : State :=
  match r.msg with
  | none => s
  | some m =>
    let (s, m) := s.noteLast k m p
    let r := { r with msg := some m, counts := (r.counts.fail status).take p }
    (s.modCtx k fun c => c.setActive r).checkRecv k r

/-- One packet of a matched eager message (R359, R362); acc is the outcome of its write. -/
def State.recvPacket (s : State) (k : Nat) (r : Recv) (p : Packet) (acc : Access) : State :=
  match r.msg with
  | none => s
  | some m =>
    let off := p.opOffset.toNat
    let n := p.payloadLen.toNat
    let put := fun (s : State) (r : Recv) => s.modCtx k fun c => c.setActive r
    if r.counts.received.contains p.pktIndex.toNat then s.countDup p
    else if m.headerOnly then
      let (s, m) := s.noteLast k m p
      let r := { r with msg := some m, counts := { r.counts with received := nset r.counts.received p.pktIndex.toNat } }
      (put s r).askRdv k r
    else if off + n ≤ r.length then
      if !sealOk p then
        let s := s.raise { source := 1280, inst := some (k / 64), breakCode := if r.counts.badSeals.contains p.pktIndex.toNat then 4 else 0 }
        if m.answered || r.counts.badSeals.contains p.pktIndex.toNat then
          s.endRecv k { r with counts := r.counts.fail wsSealMismatch } true
        else
          let r := { r with counts := { r.counts with badSeals := nset r.counts.badSeals p.pktIndex.toNat } }
          (put s r).sendResponse p.dst p.src p.tc p.opTag (perPacket wsSealMismatch p.pktIndex) false
      else
        let (s, m) := s.noteLast k m p
        let (port, d, inst) := s.recvPlace k r
        let s := s.noteAccess port acc
        let (s, c) := match accessError false acc with
          | some st => (s, r.counts.fail st)
          | none => ((s.count 0x8031 (k / 64) p.tc.toNat n).writePieces port d inst p.src p.opTag p.poisoned (pieces r.frags off n) p.payload, r.counts)
        let r := { r with msg := some m, counts := c.take p }
        (put s r).checkRecv k r
    else
      let (s, m) := s.noteLast k m p
      let straddles := decide (off < r.length)
      let r := { r with msg := some m, counts := { (r.counts.take p) with poisoned := r.counts.poisoned }, strad := if straddles then 1 else r.strad }
      let s := put s r
      if straddles then s.readRdv k r m off (r.length - off) else s.checkRecv k r

/-- The matched receive of a descriptor. -/
def State.activeOf (s : State) (k wq : Nat) (index : BitVec 32) : Option Recv :=
  (s.ctx k).bind fun c => c.active.find? fun x => x.wq == wq && x.index == index

/-- A stored packet has been read back from the host area: it is written as it came back, under its arrival Seal (R104, R364); poison of
the lines read goes with it (R111), and a read that failed is the receive's error. -/
def State.storedIn (s : State) (k wq : Nat) (index : BitVec 32) (pkt : Nat) (res : ReadResult) (acc : Access) : State :=
  match s.activeOf k wq index with
  | none => s
  | some r =>
    match r.msg with
    | none => s
    | some m =>
      match (m.packets.zip m.hostAt).find? fun e => e.1.pktIndex.toNat == pkt with
      | none => s
      | some (p, a) =>
        let r := { r with msg := some { m with packets := m.packets.erase p, hostAt := m.hostAt.erase a } }
        let s := s.modCtx k fun c => c.setActive r
        match res with
        | .data bs dirty =>
          let p := { p with payload := sliceBytes bs 0 p.payloadLen.toNat }
          s.recvPacket k r (if dirty && sealOk p && !p.poisoned then Packet.seal_ { p with poisoned := true } else p) acc
        | .fault _ => s.recvFailed k r p wsTranslationFault
        | .failed => s.recvFailed k r p wsMemoryFailed

/-- A receive takes a message (R355): its stored packets are written, or its rendezvous read begins. What stands in the context's host
area is read back first (R364, R104). -/
def State.bind_ (s : State) (k : Nat) (r : Recv) (m : Msg) (unexp : Bool) (acc : Access) : State :=
  let away := m.tier == 2 && !m.rdv && !m.headerOnly
  let r := { r with msg := some { m with packets := if away then m.packets else [] }, wasUnexp := unexp }
  let s := s.modCtx k fun c => { c with active := c.active ++ [r] }
  if m.rdv || m.headerOnly then s.askRdv k r
  else if away then
    let i := k / 64
    let area := ((s.ctx k).map (·.hostArea)).getD 0
    (m.packets.zip m.hostAt).foldl (fun (s : State) (e : Packet × Nat × Nat) =>
      if e.1.payloadLen = 0 then s.storedIn k r.wq r.index e.1.pktIndex.toNat (.data [] false) acc
      else s.hostRead (s.inst i).port.toNat (.stored k r.wq r.index e.1.pktIndex) i (area + BitVec.ofNat 64 e.2.1) e.1.payloadLen.toNat m.src m.tag) s
  else
    m.packets.foldl (fun (s : State) p =>
      match s.activeOf k r.wq r.index with
      | some r => s.recvPacket k r p acc
      | none => s) s

/-! ### Storing unexpected messages (R363) -/

/-- A message becomes a header only. -/
def State.headerOnly_ (s : State) (k : Nat) (m : Msg) : State × Msg :=
  (s.modCtx k fun c => { c with headerOnly := satInc c.headerOnly }, { m with headerOnly := true, packets := [], hostAt := [] })

/-- Put a packet of an unexpected eager message into its tier; ctx is the context without the message. A host-area write that
fails makes it a header only (R536). -/
def State.storePacket (s : State) (k : Nat) (c : Ctx) (m : Msg) (p : Packet) (acc : Access) : State × Msg :=
  if m.counts.received.contains p.pktIndex.toNat then (s.countDup p, m)
  else
    let first := m.counts.received.isEmpty
    let n := p.payloadLen.toNat
    let m := { m with counts := { (m.counts.take p) with err := m.counts.err } }
    let (s, m) := s.noteLast k m p
    if m.headerOnly then (s, m)
    else
      let need := if first then p.opOffset.toNat + n else n
      let with_ := { c with unexp := c.unexp ++ [m] }
      let tier := if first then
          (([0, 1, 2] : List (BitVec 2)).find? fun t => bit c.grants t.toNat && s.tierTakes with_ t need)
        else if s.tierTakes with_ m.tier n then some m.tier else none
      match tier with
      | none => s.headerOnly_ k m
      | some t =>
        if t = 2 then
          match with_.hostFit n, acc with
          | none, _ => s.headerOnly_ k m
          | some a, .ok =>
            let i := k / 64
            let s := s.hostPut (s.inst i).port.toNat i (c.hostArea + BitVec.ofNat 64 a) p.payload p.poisoned p.src p.opTag true
            (s, { m with tier := t, packets := m.packets ++ [p], hostAt := m.hostAt ++ [(a, hostUnits n)] })
          | some _, _ => (s.modCtx k fun c => { c with grants := c.grants &&& 3 }).headerOnly_ k m
        else (s, { m with tier := t, packets := m.packets ++ [p] })

/-- A message whose whole payload is stored gets its final RESPONSE with stored = 1 (R346). -/
def State.answerStored (s : State) (m : Msg) : State × Msg :=
  if !m.rdv && !m.headerOnly && !m.answered && m.counts.closes then (s.finalResp m m.counts.status true, { m with answered := true }) else (s, m)

/-- Add a packet to a message of the unexpected or claimed list. -/
def State.addStored (s : State) (k : Nat) (c : Ctx) (m : Msg) (p : Packet) (acc : Access) : State :=
  let not_ := fun (x : Msg) => !(sameMsg x m.src m.tag)
  let (s, m') := s.storePacket k { c with unexp := c.unexp.filter not_, claimed := c.claimed.filter not_ } m p acc
  let (s, m') := s.answerStored m'
  let put := fun (x : Msg) => if sameMsg x m.src m.tag then m' else x
  s.modCtx k fun c => { c with unexp := c.unexp.map put, claimed := c.claimed.map put }

/-- The message that a packet makes known. -/
def msgOf (p : Packet) : Msg :=
  { src := p.src, dst := p.dst, tc := p.tc, tag := p.opTag, key := orderKey p, matchBits := p.typeWord,
    rdv := p.pktType == 0x07, length := if p.pktType = 0x07 then some (leAt p.payload 0 4 % 2 ^ 29) else none }

/-- A message without a receive joins the unexpected list (R355, R363, R365, R376). -/
def State.joinUnexp (s : State) (k : Nat) (m : Msg) (ps : List Packet) (acc : Access) : State :=
  let (s, m) := if m.rdv then (s.arrived k m, m) else (s, { m with recordDue := true })
  let s := (s.count 0x0042 (k / 64) 0 1).modCtx k fun c => { c with unexp := c.unexp ++ [m] }
  let s := if m.rdv then s else ps.foldl (fun (s : State) p =>
    match s.ctx k with
    | none => s
    | some c => match c.unexp.find? fun x => sameMsg x m.src m.tag with
      | some x => s.addStored k c x p acc
      | none => s) s
  match s.ctx k with
  | some c =>
    if c.state = 1 ∧ c.unexpMax.toNat ≤ c.unexp.length + c.claimed.length then
      ((s.modCtx k fun c => { c with state := 2, stalls := satInc c.stalls }).raise { source := 1265, inst := some (k / 64) }).arrivalRec
        k 0x28 (matchResult 0 0 0 k 0 0)
    else s
  | none => s

/-- A released message reaches its context (R340, R355). -/
def State.newMsg (s : State) (k : Nat) (ps : List Packet) (acc : Access) : State :=
  match ps with
  | [] => s
  | p :: _ =>
    let m := msgOf p
    match s.ctx k with
    | none => s.finalResp m wsNoEndpoint false
    | some c =>
      if c.state = 3 then s.finalResp m wsNoEndpoint false
      else
        match c.posted.find? fun r => matchesRecv m.matchBits m.src r with
        | some r =>
          (s.unpost k r).bind_ k r { m with packets := ps } false acc
        | none => s.joinUnexp k m ps acc

/-- Whether a context knows a message. -/
def Ctx.knows (c : Ctx) (src : Endpoint) (tag : BitVec 32) : Bool :=
  c.active.any (fun r => (r.msg.map fun m => sameMsg m src tag).getD false) || c.unexp.any (fun m => sameMsg m src tag) ||
  c.claimed.any fun m => sameMsg m src tag

/-- Packets of a released message are applied to its context. -/
def State.applyPackets (s : State) (k : Nat) (ps : List Packet) (acc : Access) : State :=
  match ps with
  | [] => s
  | p :: _ =>
    let known := ((s.ctx k).map fun c => c.knows p.src p.opTag).getD false
    let s := s.modCtx k fun c => { c with steps := c.steps + ps.length }
    if !known then s.newMsg k ps acc
    else ps.foldl (fun (s : State) p =>
      match s.ctx k with
      | none => s
      | some c =>
        match c.active.find? fun r => (r.msg.map fun m => sameMsg m p.src p.opTag).getD false with
        | some r => s.recvPacket k r p acc
        | none =>
          match (c.unexp ++ c.claimed).find? fun m => sameMsg m p.src p.opTag with
          | some m => if m.rdv then s.countDup p else s.addStored k c m p acc
          | none => s) s

/-- Packets pass to their context, or into the redirect hold while it moves (R496). -/
def State.passPackets (s : State) (k : Nat) (ps : List Packet) (acc : Access) : State :=
  match s.ctx k with
  | some c => if c.moving.isSome then s.modCtx k fun c => { c with held := c.held ++ ps.map .packet } else s.applyPackets k ps acc
  | none => s.applyPackets k ps acc

/-! ### The order stage (R347-R353) -/

/-- Put an entry in, as the most recently used. -/
def State.setEntry (s : State) (e : OrderEntry) : State :=
  { s with matching := { s.matching with streams := (s.matching.streams.filter fun x => x.key != e.key) ++ [e] } }

/-- Make room for a new entry: the least recently used one without a message goes (R353). -/
def State.evictEntry (s : State) : State :=
  if s.matching.streams.length < Config.streamEntryMax then s
  else match s.matching.streams.find? fun e => e.held.isEmpty with
    | some e => { s with matching := { s.matching with streams := s.matching.streams.erase e } }
    | none => s

/-- Unexpected and claimed messages whose headers the module holds (R367). -/
def State.headers (s : State) : Nat := (s.matching.ctxs.map fun e => e.2.unexp.length + e.2.claimed.length).foldl (· + ·) 0

/-- Whether a context takes no new message now: it is stalled (R365), or the message would join the unexpected list and the module's
8,388,608 headers are in use (R367; DESIGN CHOICE, assumption log 118). -/
def State.blocked (s : State) (k : Nat) (ps : List Packet) : Bool :=
  match s.ctx k, ps with
  | some c, p :: _ => !c.knows p.src p.opTag &&
      (c.state == 2 || (decide (8388608 ≤ s.headers) && !c.posted.any fun r => matchesRecv p.typeWord p.src r))
  | _, _ => false

/-- Released messages that wait for their contexts, with their entries. -/
def State.waits (s : State) : List (StreamKey × HeldMsg) :=
  s.matching.streams.flatMap fun e => (e.held.filter fun h => h.released).map fun h => (e.key, h)

/-- The context of a held message. -/
def waitCtx (w : StreamKey × HeldMsg) : Nat := addrInst w.1.dst * 64 + w.2.slot

/-- Release a message with its packets: to its context, or held on for a context that does not take it yet, behind the messages that
wait for it (R347, R365). A message that waits already keeps its place. -/
def State.passOrStall (s : State) (e : OrderEntry) (h : HeldMsg) (acc : Access) : State :=
  let k := addrInst e.key.dst * 64 + h.slot
  let known := ((s.ctx k).map fun c => (h.packets.head?.map fun p => c.knows p.src p.opTag).getD false).getD false
  if s.blocked k h.packets || (!known && s.waits.any fun w => waitCtx w == k) then
    match s.orderEntry e.key with
    | some e =>
      if e.held.any fun x => x.released && x.key == h.key then
        s.setEntry { e with held := e.held.map fun x => if x.released && x.key == h.key then { x with packets := x.packets ++ h.packets } else x }
      else
        let s := { s with matching := { s.matching with relNext := s.matching.relNext + 1 } }
        s.setEntry { e with held := e.held ++ [{ h with released := true, rel := s.matching.relNext, since := s.time.now }] }
    | none => s
  else s.passPackets k h.packets acc

/-- R347's release, and of the held messages that follow; n bounds the loop. -/
def State.release_ (s : State) (key : StreamKey) (h : HeldMsg) (acc : Access) : Nat → State
  | 0 => s
  | n + 1 =>
    match s.orderEntry key with
    | none => s
    | some e =>
      let e := { e with lastRel := some h.key, held := e.held.filter fun x => x.key != h.key }
      let s := ((s.setEntry e).count 0x0040 (addrInst key.dst) 0 1).passOrStall e h acc
      match s.orderEntry key with
      | none => s
      | some e =>
        match e.held.find? fun x => !x.released && x.pred == h.key with
        | some m => s.release_ key m acc n
        | none => s

/-- Send the query for a held message (R349). -/
def State.query (s : State) (key : StreamKey) (tag : BitVec 32) : State := s.sendResponse key.dst key.src key.tc tag 256 false

/-- R347: a message packet in the order stage. -/
def State.order (s : State) (p : Packet) (acc : Access) : State :=
  let sk := streamOf p
  let key := orderKey p
  let gap := bits p.opExt 8 0
  let slot := bits p.opExt 14 9
  let h : HeldMsg := { key, pred := key - BitVec.ofNat 32 gap, slot, packets := [p], since := s.time.now, queried := s.time.now }
  match s.orderEntry sk with
  | some e =>
    match e.held.find? fun x => x.key == key with
    | some x =>
      let x' := { x with packets := if x.packets.any fun q => q.pktIndex == p.pktIndex then x.packets else x.packets ++ [p] }
      if gap = 0 ∧ !x.released then s.release_ sk x' acc (e.held.length + 1)
      else s.setEntry { e with held := e.held.map fun y => if y.key = key then x' else y }
    | none =>
      if (e.lastRel.map fun l => serialLe key l).getD false then s.passPackets (ctxKey p) [p] acc
      else if gap = 0 ∨ e.lastRel = some (key - BitVec.ofNat 32 gap) then s.release_ sk h acc (e.held.length + 1)
      else (s.count 0x0041 (addrInst sk.dst) 0 1).setEntry { e with held := e.held ++ [h] }
  | none =>
    let s := s.evictEntry
    if gap = 0 then (s.setEntry { key := sk }).release_ sk h acc 1
    else ((s.count 0x0041 (addrInst sk.dst) 0 1).setEntry { key := sk, held := [h] }).query sk p.opTag

/-- Messages that wait for contexts are accepted in release order, each context's one after another, once it takes them (R365); n bounds
the loop. -/
def State.letIn (s : State) (acc : Access) : Nat → State
  | 0 => s
  | n + 1 =>
    let waits := s.waits
    let heads := waits.filter fun w => waits.all fun x => waitCtx x != waitCtx w || decide (w.2.rel ≤ x.2.rel)
    match (heads.filter fun w => !s.blocked (waitCtx w) w.2.packets).foldl (fun (b : Option (StreamKey × HeldMsg)) w =>
        match b with
        | some x => if w.2.rel < x.2.rel then some w else b
        | none => some w) none with
    | none => s
    | some (key, h) =>
      let s := { s with matching := { s.matching with streams := s.matching.streams.map fun (x : OrderEntry) =>
        if x.key = key then { x with held := x.held.filter fun y => !(y.released && y.key == h.key) } else x } }
      (s.passPackets (waitCtx (key, h)) h.packets acc).letIn acc n

/-- A receive took an unexpected or claimed message: the context leaves stalled (R365), and what waited is accepted. -/
def State.leaveStall (s : State) (k : Nat) (acc : Access) : State :=
  (s.modCtx k fun c => if c.state = 2 then { c with state := 1 } else c).letIn acc (s.heldCount + 1)

/-- A message packet at its target: duplicates, refusals (R55, R341, R541), an announcement's Seal, then the order stage. -/
def State.msgIn (s : State) (p : Packet) (acc : Access) : State :=
  match s.tomb p.src p.opTag with
  | some t => let s := s.countDup p
              if p.resent then s.sendStored t else s
  | none =>
    match s.refusedAt p with
    | some st => s.refuseOp p st
    | none =>
      if p.pktType = 0x07 ∧ !sealOk p then
        let again := s.matching.rtsFails.contains (p.src, p.opTag)
        let s := s.raise { source := 1280, inst := some (s.targetInst p), breakCode := if again then 4 else 0 }
        if again then
          ({ s with matching := { s.matching with rtsFails := s.matching.rtsFails.erase (p.src, p.opTag) } }).refuseOp p wsSealMismatch
        else
          ({ s with matching := { s.matching with rtsFails := s.matching.rtsFails ++ [(p.src, p.opTag)] } }).sendResponse
            p.dst p.src p.tc p.opTag (perPacket wsSealMismatch p.pktIndex) false
      else ({ s with matching := { s.matching with rtsFails := s.matching.rtsFails.erase (p.src, p.opTag) } }).order p acc

/-- A message packet leaves the ejection queue, unless its context's redirect hold is full (R498). -/
def State.msgRow (s : State) (p : Packet) (type : BitVec 5) (acc : Access) : State :=
  match s.ejectHead p with
  | none => s
  | some h =>
    if p.pktType ≠ type ∨ s.holdFull (ctxKey p) then s
    else ((s.takeEject h).msgIn p acc).unfill

/-- R347: an eager message packet. -/
def execMsgEager (p : Packet) (acc : Access) (s : State) : Host.Outcome State Fault Refusal := .next (s.msgRow p 0x06 acc)
/-- R361: a rendezvous announcement. -/
def execMsgRts (p : Packet) (s : State) : Host.Outcome State Fault Refusal := .next (s.msgRow p 0x07 .ok)

/-- R349: a held message draws a query after order_wait_us, and again each order_wait_us. -/
def execOrderQueryTimer (key : StreamKey) (order : BitVec 32) (now : Ticks) (s : State) : Host.Outcome State Fault Refusal :=
  let s := s.advance now
  match s.orderEntry key with
  | none => .next s
  | some e =>
    match e.held.find? fun h => h.key == order && !h.released with
    | none => .next s
    | some h =>
      if (s.time.now - h.queried).toNat < us s.matching.orderWaitUs.toNat then .next s
      else
        let s := { s with matching := { s.matching with streams := s.matching.streams.map fun (x : OrderEntry) =>
          if x.key = key then { x with held := x.held.map fun y => if y.key = order then { y with queried := s.time.now } else y } else x } }
        .next (match h.packets with
          | p :: _ => s.query key p.opTag
          | [] => s)

/-- R351: a message held for order_abandon_ms is discarded. -/
def execOrderAbandon (key : StreamKey) (order : BitVec 32) (now : Ticks) (s : State) : Host.Outcome State Fault Refusal :=
  let s := s.advance now
  match s.orderEntry key with
  | none => .next s
  | some e =>
    match e.held.find? fun h => h.key == order && !h.released with
    | none => .next s
    | some h =>
      if (s.time.now - h.since).toNat < ms s.matching.orderAbandonMs.toNat then .next s
      else
        .next (({ s with matching := { s.matching with streams := s.matching.streams.map fun (x : OrderEntry) =>
          if x.key = key then { x with held := x.held.filter fun y => y.key != order } else x } }).raise
          { source := 1264, inst := some (addrInst key.dst), about := some (.stream key.src key.dst key.tc) }).unfill

/-! ### MSG_SEND (R341-R344, R358, R368) -/

/-- R358, R368: a MSG_SEND starts, eagerly or by rendezvous. -/
def execMsgSend (wq : Nat) (s : State) : Host.Outcome State Fault Refusal :=
  match s.startable wq 4 with
  | none => .next s
  | some (w, f) =>
    let l := f.line
    let s := s.started wq
    let dst : Endpoint := BitVec.ofNat 29 (lf l 256 29)
    let tc : BitVec 2 := BitVec.ofNat 2 (lf l 294 2)
    if lf l 285 3 ≠ 0 ∨ tc = 3 ∨ lf l 297 7 ≠ 0 ∨ lf l 304 208 ≠ 0 then .next (s.refuse wq w f 0x11 false)
    else if s.unreachable dst false then .next (s.refuse wq w f 0x08 false)
    else
      let limit := (w.instOf.map fun i => (tgetD s.matching.eagerLimit i 0x2000).toNat).getD 0x2000
      let rdv := bit l 296 || decide (limit < dLen l)
      let n := if rdv then 1 else max 1 (ceilDiv (dLen l) 4096)
      let (i, src, s) := s.srcOf w
      let sk : StreamKey := { src, dst, tc }
      let key : BitVec 32 := ((s.remote.e2eNext.find? fun (e : StreamKey × BitVec 32) => e.1 == sk).map (·.2)).getD 0
      let prev := (s.matching.sends.find? fun (e : StreamKey × BitVec 32) => e.1 == sk).map (·.2)
      let dist := (prev.map fun p => (key - p).toNat).getD 0
      let earlier := s.remote.srcOps.any fun o => o.kind == .msgSend && o.src == src && o.dst == dst && o.tc == tc
      let far := decide (511 < dist)
      let s := { s with matching := { s.matching with sends := (s.matching.sends.filter fun (e : StreamKey × BitVec 32) => e.1 != sk) ++ [(sk, key)] } }
      let o : SrcOp :=
        { src := 0, tag := 0, kind := .msgSend, dst, tc, length := dLen l, npkts := n, rdv
          msgGap := if far then 0 else BitVec.ofNat 9 dist, gapHeld := far && earlier }
      .next (s.beginOp wq w f i src o)

/-! ### MSG_RECV and MSG_CANCEL (R355, R366, R369-R372) -/

/-- Fields of a MSG_RECV (R369). -/
def rMode (l : Line) : Nat := lf l 390 2
/-- Whether a MSG_RECV is malformed (R370), and by what. -/
def recvBad (l : Line) : Option (BitVec 8) :=
  let m := rMode l
  if lf l 349 3 ≠ 0 ∨ lf l 381 3 ≠ 0 ∨ lf l 392 24 ≠ 0 ∨ lf l 448 64 ≠ 0 ∨ (m ≠ 3 ∧ lf l 416 32 ≠ 0) ∨
     (m = 3 ∧ (lf l 192 192 ≠ 0)) then some 0x11
  else if (m = 1 ∨ m = 2) ∧ (dLen l ≠ 0 ∨ dAddr l ≠ 0 ∨ dFrag l) then some 0x12
  else none

/-- The receive that a MSG_RECV offers. -/
def State.recvOf (s : State) (q : Nat) (w : Wq) (f : Fetched) (frags : List (Word × Nat)) : Recv :=
  let l := f.line
  { wq := q, index := f.index, line := l, matchBits := BitVec.ofNat 64 (lf l 192 64), ignore := BitVec.ofNat 64 (lf l 256 64),
    src := BitVec.ofNat 29 (lf l 320 29), srcIgnore := BitVec.ofNat 29 (lf l 352 29), frags, length := dLen l, epoch := s.epochOf w }

/-- A handle that no claimed message of the context has (R371); n bounds the search. -/
def Ctx.freeHandle (c : Ctx) (h : BitVec 16) : Nat → BitVec 16
  | 0 => h
  | n + 1 => if c.claimed.any fun m => m.claim == h then c.freeHandle (h + 1) n else h

/-- A started MSG_RECV reaches its context (R355, R366, R369-R371). -/
def State.applyRecv (s : State) (q : Nat) (f : Fetched) (frags : List (Word × Nat)) (acc : Access) : State :=
  match s.wq q with
  | none => s
  | some w =>
    let l := f.line
    let fin := fun (s : State) (st : BitVec 8) (res : BitVec 256) => s.complete q f.index l (s.epochOf w) st 0 res
    match w.instOf with
    | none => fin s 0x27 0
    | some i =>
      let k := i * 64 + lf l 384 6
      match s.ctx k with
      | none => fin s 0x27 0
      | some c =>
        if c.state = 3 then fin s 0x27 0
        else
          let s := s.modCtx k fun c => { c with steps := c.steps + 1 }
          let r := s.recvOf q w f frags
          let found := c.unexp.find? fun m => matchesRecv m.matchBits m.src r
          if rMode l = 3 then
            let hit := if lf l 432 16 = k then c.claimed.find? fun m => m.claim.toNat == lf l 416 16 else none
            match hit with
            | none => fin s 0x26 0
            | some m => ((s.modCtx k fun c => { c with claimed := c.claimed.erase m }).bind_ k r m true acc).leaveStall k acc
          else
            match found with
            | none =>
              if rMode l ≠ 0 then fin s 0x22 0
              else match s.post k c r with
                | none => fin s 0x21 0
                | some s => s.letIn acc (s.heldCount + 1)
            | some m =>
              let len := m.length.getD m.counts.bytes
              if rMode l = 1 then fin s 0 (matchResult m.matchBits m.src len 0 (bnat m.rdv) 1)
              else if rMode l = 2 then
                let h := c.freeHandle c.nextHandle c.claimed.length
                let s := s.modCtx k fun c =>
                  { c with unexp := c.unexp.erase m, claimed := c.claimed ++ [{ m with claim := h }], nextHandle := h + 1 }
                fin s 0 (matchResult m.matchBits m.src len (k * 65536 + h.toNat) (bnat m.rdv) 1)
              else ((s.modCtx k fun c => { c with unexp := c.unexp.erase m }).bind_ k r m true acc).leaveStall k acc

/-- Send a started receive to its context, or into the redirect hold (R496); an instance in reset takes none (R552). -/
def State.recvIn (s : State) (q : Nat) (f : Fetched) (frags : List (Word × Nat)) (acc : Access) : State :=
  let k := ((s.wq q).bind (·.instOf)).map fun i => i * 64 + lf f.line 384 6
  let moving := ((k.bind s.ctx).map fun c => c.moving.isSome).getD false
  match k with
  | some k => if moving then s.modCtx k fun c => { c with held := c.held ++ [.recv q f frags] } else s.applyRecv q f frags acc
  | none => s.applyRecv q f frags acc

/-- R355, R369: a MSG_RECV starts. One with a fragment chain waits until its chain has been read (R318). -/
def execMsgRecv (wq : Nat) (acc : Access) (s : State) : Host.Outcome State Fault Refusal :=
  match s.startable wq 5 with
  | none => .next s
  | some (w, f) =>
    let l := f.line
    let k := (w.instOf.getD 0) * 64 + lf l 384 6
    if s.holdFull k then .next s
    else
      let s := s.started wq
      match recvBad l with
      | some st => .next (s.refuse wq w f st false)
      | none =>
        if dFrag l then
          let o : SrcOp := { src := 0, tag := 0, kind := .rdvRead, wq, index := f.index, line := l, length := dLen l,
                             tables := [dAddr l], chain := lf l 16 9, epoch := s.epochOf w }
          .next (({ s with matching := { s.matching with chains := s.matching.chains ++ [o] } }).hostRead
            w.owner.port (.chain wq f.index) w.domain (dAddr l) (16 * lf l 16 9) 0 f.index)
        else .next (s.recvIn wq f [(dAddr l, dLen l)] acc)

/-- A table of a MSG_RECV's chain has been read (R316-R319, R321). -/
def State.recvChain (s : State) (wq : Nat) (index : BitVec 32) (res : ReadResult) : State :=
  match s.matching.chains.find? fun o => o.wq == wq && o.index == index, s.wq wq with
  | some o, some w =>
    let drop := fun (s : State) => { s with matching := { s.matching with chains := s.matching.chains.erase o } }
    let f : Fetched := { index, line := o.line }
    match res with
    | .data bs false =>
      match tableScan (entriesOf bs o.chain) o.chain o.tables o.frags with
      | .error st => (drop s).complete wq index o.line o.epoch st 0 0
      | .ok (fr, some (a, n)) =>
        let o' := { o with frags := fr, tables := o.tables ++ [a], chain := n }
        ({ s with matching := { s.matching with chains := s.matching.chains.map fun x => if x = o then o' else x } }).hostRead
          w.owner.port (.chain wq index) w.domain a (16 * n) 0 index
      | .ok (fr, none) =>
        if (fr.map (·.2)).foldl (· + ·) 0 ≠ o.length then (drop s).complete wq index o.line o.epoch 0x16 0 0
        else (drop s).recvIn wq f fr .ok
    | .data _ true => (drop s).queueError wq index 3
    | _ => (drop s).queueError wq index 2
  | _, _ => s

/-- A started MSG_CANCEL reaches its context (R372). -/
def State.applyCancel (s : State) (q : Nat) (f : Fetched) : State :=
  match s.wq q with
  | none => s
  | some w =>
    let l := f.line
    let fin := fun (s : State) (st : BitVec 8) => s.complete q f.index l (s.epochOf w) st 0 0
    let q2 := lf l 192 14
    let idx : BitVec 32 := BitVec.ofNat 32 (lf l 224 32)
    match s.wq q2 with
    | none => fin s 0x24
    | some w2 =>
      if w2.owner ≠ w.owner then fin s 0x04
      else
        match s.matching.ctxs.find? fun e => e.2.posted.any fun r => r.wq == q2 && r.index == idx with
        | none => fin s 0x24
        | some (k, c) =>
          match c.posted.find? fun r => r.wq == q2 && r.index == idx with
          | none => fin s 0x24
          | some r =>
            let s := (s.unpost k r).modCtx k fun c => { c with steps := c.steps + 1 }
            fin (s.complete r.wq r.index r.line r.epoch 0x23 0 0) 0

/-- Whether a context's redirect hold keeps a receive. -/
def Ctx.holdsRecv (c : Ctx) (q : Nat) (idx : BitVec 32) : Bool :=
  c.held.any fun i => match i with
    | .recv w f _ => w == q && f.index == idx
    | _ => false

/-- Whether the receive that a cancel in queue q names has been fetched and comes to its context yet: its fragment chain is being read, or
it stands in another queue behind no cancel. The cancel waits for it (DESIGN CHOICE, assumption log 119). -/
def State.onItsWay (s : State) (q q2 : Nat) (idx : BitVec 32) : Bool :=
  (s.matching.chains.any fun o => o.wq == q2 && o.index == idx) ||
  (q != q2 && match s.wq q2 with
    | some w => (w.fetched.any fun f => f.index == idx) && ((w.fetched.takeWhile fun f => f.index != idx).all fun f => dOp f.line != 6)
    | none => false)

/-- R372: a MSG_CANCEL starts. -/
def execMsgCancel (wq : Nat) (s : State) : Host.Outcome State Fault Refusal :=
  match s.startable wq 6 with
  | none => .next s
  | some (w, f) =>
    let l := f.line
    let q2 := lf l 192 14
    let idx : BitVec 32 := BitVec.ofNat 32 (lf l 224 32)
    let k := (s.matching.ctxs.find? fun e => (e.2.posted.any fun r => r.wq == q2 && r.index == idx) || e.2.holdsRecv q2 idx).map (·.1)
    let moving := ((k.bind s.ctx).map fun c => c.moving.isSome).getD false
    if (moving && s.holdFull (k.getD 0)) || s.onItsWay wq q2 idx then .next s
    else
      let s := s.started wq
      if lf l 206 18 ≠ 0 ∨ lf l 256 256 ≠ 0 then .next (s.refuse wq w f 0x11 false)
      else if dLen l ≠ 0 ∨ dAddr l ≠ 0 ∨ dFrag l then .next (s.refuse wq w f 0x12 false)
      else if moving then .next (s.modCtx (k.getD 0) fun c => { c with held := c.held ++ [.cancel wq f] })
      else .next (s.applyCancel wq f)

/-- Apply one input of the redirect hold (R496, R497). -/
def State.applyInput (s : State) (k : Nat) : CtxInput → State
  | .packet p =>
    match s.orderEntry (streamOf p) with
    | some e => s.passOrStall e { key := orderKey p, pred := 0, slot := k % 64, packets := [p], since := s.time.now, queried := s.time.now } .ok
    | none => s.applyPackets k [p] .ok
  | .recv q f fr => s.applyRecv q f fr .ok
  | .cancel q f => s.applyCancel q f

/-- Replay a context's redirect hold in arrival order (R496). -/
def State.replayHold (s : State) (k : Nat) : State :=
  match s.ctx k with
  | none => s
  | some c => c.held.foldl (fun (s : State) i => s.applyInput k i) (s.modCtx k fun c => { c with held := [] })

/-! ### Context commands (R337, R338, R340, R379) -/

/-- Contexts that an instance holds. -/
def State.ctxsOf (s : State) (i : Nat) : Nat := (s.matching.ctxs.filter fun e => e.1 / 64 == i).length

/-- R337, R338, R485: create a matching context. -/
def execCtxCreate (c : Call) (inst : Option Nat) (slot postedMax unexpMax : Nat) (notify : Option Nat) (cookie hostArea : Word)
    (hostAreaLen cellLimit moduleLimit : Nat) (s : State) : Host.Outcome State Fault Refusal :=
  s.fleso c 0x0501 (·.isMI) fun a s =>
    match s.forInst a inst with
    | (none, r) => (s, r)
    | (some i, _) =>
      if 64 ≤ slot then (s, .bad 2)
      else if postedMax = 0 ∨ 67108864 < postedMax then (s, .bad 8)
      else if unexpMax = 0 ∨ 4194304 < unexpMax then (s, .bad 12)
      else if (notify.map fun r => decide (Config.queueCount ≤ r)).getD false then (s, .bad 4)
      else if hostArea.toNat % 4096 ≠ 0 then (s, .bad 24)
      else if hostAreaLen % 4096 ≠ 0 ∨ 2 ^ 34 < hostAreaLen then (s, .bad 32)
      else
        let k := i * 64 + slot
        let ring := notify.map s.cq
        if (s.ctx k).isSome then (s, .err eWrongState)
        else if ring = some none then (s, .err eNoObject)
        else if (ring.map fun r => (r.map fun q => q.inst != some i).getD true).getD false then (s, .err eNoAuthority)
        else if (notify.map fun r => s.wqs.any fun e => e.2.cq.toNat == r).getD false then (s, .err eWrongState)
        else if s.grant i 2 ≤ s.ctxsOf i then (s, .grant 2)
        else
          let (cell, forced) := s.homeFor none 0xf
          let x : Ctx := { homeCell := BitVec.ofNat 12 cell, notify := notify.map (BitVec.ofNat 14 ·), cookie,
                           postedMax := BitVec.ofNat 27 postedMax, unexpMax := BitVec.ofNat 23 unexpMax, hostArea, hostAreaLen,
                           cellLimit, moduleLimit, placedAt := s.time.now }
          let s := { s with matching := { s.matching with ctxs := tset s.matching.ctxs k { x with grants := s.tierGrant x } } }
          ((s.modCell cell fun c => { c with objects := satInc c.objects }).logPlace 1 (if forced then 2 else 0) k noPlace cell 0 0,
           .res (leBytes 8 k))

/-- Destroy a context (R340): posted receives complete with context_closed, what waits for it draws no-endpoint; matched receives
go on. What a redirect hold has kept (R496) finds the context closed. -/
def State.closeCtx (s : State) (k : Nat) (records : Bool) : State :=
  match s.ctx k with
  | none => s
  | some c =>
    let s := s.modCell c.homeCell.toNat fun x => { x with objects := x.objects - 1 }
    let s := (s.modCtx k fun c => { c with posted := [], onDie := 0, unexp := [], claimed := [], state := 3, moving := none, held := [] }).refill c.homeCell.toNat
    let s := if records then c.posted.foldl (fun (s : State) r => s.complete r.wq r.index r.line r.epoch 0x25 0 0) s else s
    let waits := s.matching.streams.flatMap fun e =>
      e.held.filter fun h => h.released && addrInst e.key.dst * 64 + h.slot == k
    let s := { s with matching := { s.matching with streams := s.matching.streams.map fun e =>
      { e with held := e.held.filter fun h => !(h.released && addrInst e.key.dst * 64 + h.slot == k) } } }
    let s := waits.foldl (fun (s : State) h => match h.packets with
      | p :: _ => s.finalResp (msgOf p) wsNoEndpoint false
      | [] => s) s
    let s := if records then c.held.foldl (fun (s : State) i => s.applyInput k i) s else s
    match s.ctx k with
    | some c => (if c.active.isEmpty then { s with matching := { s.matching with ctxs := tdel s.matching.ctxs k } } else s).letIn .ok (s.heldCount + 1) |>.unfill
    | none => s

/-- R340: destroy a context. -/
def execCtxDestroy (c : Call) (inst : Option Nat) (slot : Nat) (s : State) : Host.Outcome State Fault Refusal :=
  s.fleso c 0x0502 (·.isMI) fun a s =>
    match s.forInst a inst with
    | (none, r) => (s, r)
    | (some i, _) =>
      if 64 ≤ slot then (s, .bad 2)
      else match s.ctx (i * 64 + slot) with
        | none => (s, .err eNoObject)
        | some x => if x.state = 3 then (s, .err eNoObject) else (s.closeCtx (i * 64 + slot) true, .ok)

/-- R379: set MATCH.CFG, or an instance's eager_limit, within their ranges. -/
def execMatchCfg (c : Call) (word : Word) (instCfg : Option (Nat × Word)) (s : State) : Host.Outcome State Fault Refusal :=
  s.fleso c 0x0503 (·.isM) fun _ s =>
    let wait := bits word 13 0
    let ab := bits word 27 14
    let spill := bits word 43 28
    let pool := bits word 59 44
    match firstBad [(decide (wait < 10 ∨ 10000 < wait), 0), (decide (ab < 1 ∨ 10000 < ab), 14), (decide (4096 < spill), 28),
        (decide (8192 < pool), 44), (bits word 63 60 != 0, 60)] with
    | some o => (s, .badAt o)
    | none =>
      let badInst := match instCfg with
        | none => false
        | some (i, w) => decide (1024 ≤ i) || decide (65536 < bits w 16 0) || bits w 63 17 != 0
      if badInst then (s, .bad 8)
      else
        ({ s with matching := { s.matching with
            orderWaitUs := BitVec.ofNat 14 wait, orderAbandonMs := BitVec.ofNat 14 ab, postedSpillMib := BitVec.ofNat 16 spill,
            unexpPoolMib := BitVec.ofNat 16 pool,
            eagerLimit := match instCfg with
              | none => s.matching.eagerLimit
              | some (i, w) => tset s.matching.eagerLimit i (BitVec.ofNat 17 (bits w 16 0)) } }, .ok)

end Sys2Proof.Machine
end

