-- ==== Sys2Proof/Machine/Response.lean ====
section
/-! DEFINITION. Reads of remote memory and their answers, RESPONSE packets, timeouts at the source, and the returns of payload
and fragment-table reads (09, R107, R324, R345, R349, R360). -/

namespace Sys2Proof.Machine

open Sys2Proof

/-! ### GET_REQ (R360, R383, R396) -/

/-- The error of a rendezvous read (R360). -/
def State.rdvError (s : State) (p : Packet) : Option (BitVec 8) :=
  match s.srcOp p.dst (BitVec.ofNat 32 (bits p.typeWord 59 28)) with
  | none => some wsNoEndpoint
  | some o =>
    if o.kind ≠ .msgSend ∨ !o.started ∨ bits p.typeWord 62 60 ≠ 0 then some wsNoEndpoint
    else if o.length < bits p.typeWord 27 0 + getLen p then some wsOutOfBounds else none

/-- R387, R396: an arriving GET_REQ. -/
def State.acceptGet (s : State) (p : Packet) (acc : Access) : State :=
  match s.tomb p.src p.opTag with
  | some t => let s := s.countDup p
              if p.resent then s.sendStored t else s
  | none =>
    match s.refusedAt p with
    | some st => s.refuseOp p st
    | none =>
      let e := s.entryFor p
      let rdv := bit p.typeWord 63
      let tier1 := bit (s.window (s.targetInst p) (bits p.typeWord 59 48)) 113
      let bad := if rdv then s.rdvError p
        else match s.windowError p 114 (bits p.typeWord 47 0) (getLen p) 1 with
          | some st => some st
          | none => accessError tier1 acc
      if e.counts.received.contains 0 then s.countDup p
      else if bad.isNone && !sealOk p then
        match s.sealFails p e.counts with
        | (s, _, true) => s.refuseOp p wsSealMismatch
        | (s, c, false) => s.setOpen { e with counts := c }
      else
        let c := { e.counts with received := [0], pkts := 1, totals := some (1, getLen p), bytes := getLen p }
        match bad with
        | some st => s.setOpen { e with counts := c.fail st, closed := true, req := some p }
        | none =>
          let s := s.setOpen { e with counts := c, closed := true, req := some p, next := if s.getLocal p then getPackets p else 1 }
          let s := if rdv then
              { s with remote := { s.remote with srcOps := s.remote.srcOps.map fun o =>
                if o.src = p.dst ∧ o.tag.toNat = bits p.typeWord 59 28 then { o with lastAt := s.time.now } else o } }
            else s
          if getLen p = 0 then s else s.serveGet p (getPackets p) 0

/-- The tracked lines that a GET's read of module memory must wait for: a head may hold them modified (R266, R268). -/
def State.getHeld (s : State) (p : Packet) : List Nat :=
  if !s.getLocal p || (s.tomb p.src p.opTag).isSome || (s.refusedAt p).isSome || (s.windowError p 114 (bits p.typeWord 47 0) (getLen p) 1).isSome ||
    (s.entryFor p).counts.received.contains 0 then []
  else s.trackedLines (bits (s.window (s.targetInst p) (bits p.typeWord 59 48)) 63 0 + bits p.typeWord 47 0) (getLen p)

/-- R396: a GET_REQ leaves the ejection queue once no head holds a line that it reads. -/
def execGetReq (p : Packet) (acc : Access) (s : State) : Host.Outcome State Fault Refusal :=
  match s.ejectHead p with
  | none => .next s
  | some h =>
    if p.pktType ≠ 0x02 then .next s
    else
      let held := s.getHeld p
      .next (if held.isEmpty then ((s.takeEject h).acceptGet p acc).unfill else s.snoopOut 4 held)

/-! ### Answers at the requester (R387, R411, R415, R816) -/

/-- The operation that an answer belongs to, with the time of its latest response packet (R414). -/
def State.answered (s : State) (p : Packet) : Option SrcOp := (s.srcOp p.dst p.opTag).map fun o => { o with lastAt := s.time.now }

/-- Note the answer of a tagged operation (R769). -/
def State.noteAnswer (s : State) (o : SrcOp) : State := s.modTag o.wq o.index fun t => { t with answered := s.time.now }

/-- A read's counts have closed, or an error ended it. -/
def State.endRead (s : State) (o : SrcOp) (status : BitVec 8) : State :=
  if o.kind = .rdvRead then s.endRdv o status true else (s.noteAnswer o).finishSrc o status o.length 0

/-- R387, R396: a GET_RESP is written at the requester and counted. -/
def execGetResp (p : Packet) (acc : Access) (s : State) : Host.Outcome State Fault Refusal :=
  match s.ejectHead p with
  | none => .next s
  | some h =>
    if p.pktType ≠ 0x03 then .next s
    else
      let s := s.takeEject h
      match s.answered p with
      | none => .next (s.countDup p)
      | some o =>
        if s.srcStale o then .next (s.countStale (some o.inst))
        else if !(o.kind == .get || o.kind == .rdvRead) || o.counts.received.contains p.pktIndex.toNat then .next ((s.setSrc o).countDup p)
        else if o.counts.beyond p then .next ((s.raise { source := 1285, inst := some o.inst }).endRead o wsOutOfBounds)
        else if !sealOk p then
          match s.sealFails p o.counts with
          | (s, _, true) => .next (s.endRead o wsSealMismatch)
          | (s, c, false) => .next (s.setSrc { o with counts := c })
        else
          let off := p.typeWord.toNat + p.opOffset.toNat
          let s := s.noteAccess (s.placeOf o).1 acc
          let (s, c) := match accessError false acc with
            | some st => (s, o.counts.fail st)
            | none => (s.writeLocal o off p.payload p.poisoned, o.counts)
          let o := { o with counts := c.take p }
          let s := s.setSrc o
          .next (if o.counts.closes then s.endRead o o.counts.status else s)

/-- R415, R816: the old value is written, and the fetching atomic completes. -/
def execAtomicResp (p : Packet) (acc : Access) (s : State) : Host.Outcome State Fault Refusal :=
  match s.ejectHead p with
  | none => .next s
  | some h =>
    if p.pktType ≠ 0x05 then .next s
    else
      let s := s.takeEject h
      match s.answered p with
      | none => .next (s.countDup p)
      | some o =>
        let old := leAt p.payload 0 16
        if s.srcStale o then .next (s.countStale (some o.inst))
        else if o.kind != .atomic || !bit o.line 344 then .next (s.countDup p)
        else if !sealOk p then
          match s.sealFails p o.counts with
          | (s, _, true) => .next (s.finishSrc o wsSealMismatch 0 0)
          | (s, c, false) => .next (s.setSrc { o with counts := c })
        else
          let s := s.noteAccess (s.placeOf o).1 acc
          let (s, st) := match accessError false acc with
            | some st => (s, st)
            | none => (s.writeLocal o (if bit o.line 345 then 0 else 32) (leBytes (if bit o.line 345 then 8 else 16) old) p.poisoned,
                       if p.poisoned then wsPoisoned else 0)
          .next ((s.noteAnswer o).finishSrc o st o.done_ (BitVec.ofNat 256 old))

/-- Send packet i of a source operation again, its bytes read again (R409). -/
def State.resendSrc (s : State) (o : SrcOp) (i : Nat) : State :=
  match o.needs i with
  | some _ => (s.setSrc { o with rereads := o.rereads ++ [i] }).sendPacket o i true
  | none => (s.setSrc o).sendPacket o i true

/-- Send GET_RESP i, or the stored answer, of an operation served here again (R411). -/
def State.resendAnswer (s : State) (src : Endpoint) (tag : BitVec 32) (i : Nat) (isGet : Bool) : State :=
  match s.openOp src tag, s.tomb src tag with
  | some e, _ =>
    match e.req with
    | some r =>
      if isGet ∧ i < e.next then
        if s.getLocal r then
          let (s, left) := s.rereadLocal r [i]
          s.setOpen { e with rereads := left.foldl nset e.rereads }
        else (s.setOpen { e with rereads := e.rereads ++ [i] }).readForGet r i true
      else s
    | none => s
  | none, some t =>
    match t.getReq with
    | some r =>
      if isGet ∧ (t.status = 0 ∨ t.status = 7) ∧ getLen r ≠ 0 then
        if s.getLocal r then
          let (s, left) := s.rereadLocal r [i]
          s.setTomb { t with rereads := left.foldl nset t.rereads }
        else (s.setTomb { t with rereads := t.rereads ++ [i] }).readForGet r i true
      else s.sendStored t
    | none => s.sendStored t
  | none, none => s

/-- Send the packets from module memory whose lines no head holds any more. -/
def State.resumeReads (s : State) : State :=
  let s := s.remote.openOps.foldl (fun (s : State) e => match e.req with
    | some r => if s.getLocal r && !e.rereads.isEmpty then
        let (s, left) := s.rereadLocal r e.rereads
        s.setOpen { e with rereads := left }
      else s
    | none => s) s
  s.remote.tombs.foldl (fun (s : State) t => match t.getReq with
    | some r => if s.getLocal r && !t.rereads.isEmpty then
        let (s, left) := s.rereadLocal r t.rereads
        s.setTomb { t with rereads := left }
      else s
    | none => s) s

/-- Messages of an operation's stream that started before it and are open (R343, R350). -/
def State.earlierSend (s : State) (o : SrcOp) : Bool :=
  (s.remote.srcOps.takeWhile fun x => !(x.src == o.src && x.tag == o.tag)).any fun x =>
    x.kind == .msgSend && x.src == o.src && x.dst == o.dst && x.tc == o.tc

/-- The kept COLL_DATA packets that a RESPONSE of R107 names (assumption log 122): record, operation, packet. -/
def State.collNamed (s : State) (p : Packet) : List (Nat × BitVec 16 × Packet) :=
  let self := s.routing.moduleId
  if !bit p.typeWord 10 || p.opTag.toNat != self.toNat || p.dst != moduleAddr self 3 || addrAgent p.src != 3 then []
  else s.coll.groups.flatMap fun e => e.2.ops.flatMap fun o =>
    (o.kept.filter fun q => q.pktIndex.toNat == bits p.typeWord 31 16 && q.opOffset == p.opOffset &&
      (if q.mcast then e.2.members.any (fun x => addrModule x == addrModule p.src) else addrModule q.dst == addrModule p.src) &&
      !o.sealed.contains (q.e2eSeq.toNat * 131072 + (addrModule p.src).toNat)).map fun q => (e.1, o.seq, q)

/-- Send a kept COLL_DATA packet again to the module that found its Seal bad, once (R107, R448, R450); one that went by a tree goes by
unicast. -/
def State.collResend (s : State) (r : Nat) (seq : BitVec 16) (q : Packet) (to_ : ModId) : State :=
  let s := s.modGroup r fun g => { g with ops := g.ops.map fun o =>
    if o.seq = seq then { o with sealed := o.sealed ++ [q.e2eSeq.toNat * 131072 + to_.toNat] } else o }
  if !q.mcast then s.inject Config.collQueue (Packet.seal_ { q with resent := true })
  else
    let self := s.routing.moduleId
    let (e, s) := s.nextE2e { src := moduleAddr self 0, dst := moduleAddr to_ 0, tc := q.tc, form := 1 } 1
    let q := Packet.seal_ { q with mcast := false, addrForm := true, dst := moduleAddr to_ 3, e2eSeq := e, resent := true }
    (s.modGroup r fun g => { g with ops := g.ops.map fun o => if o.seq = seq then { o with kept := o.kept ++ [q] } else o }).inject Config.collQueue q

/-- R107, R345, R349, R350, R392, R411, R415, R448: a RESPONSE arrives at the source. -/
def execResponse (p : Packet) (s : State) : Host.Outcome State Fault Refusal :=
  match s.ejectHead p with
  | none => .next s
  | some h =>
    if p.pktType ≠ 0x08 then .next s
    else
      let s := s.takeEject h
      let status : BitVec 8 := BitVec.ofNat 8 p.typeWord.toNat
      let i := bits p.typeWord 31 16
      if !sealOk p then .next ((s.raise { source := 1280, inst := some (addrInst p.dst) }).sendFault 1 1280 false p)
      else if !(s.collNamed p).isEmpty then
        .next ((s.collNamed p).foldl (fun (s : State) e => s.collResend e.1 e.2.1 e.2.2 (addrModule p.src)) s)
      else
        match s.answered p with
        | none => .next (if bit p.typeWord 10 then s.resendAnswer p.src p.opTag i true else s)
        | some o =>
          if s.srcStale o then .next (s.countStale (some o.inst))
          else if bit p.typeWord 10 then
            .next (if o.npkts ≤ i ∨ o.sealed.contains i then s.setSrc o
              else s.resendSrc { o with sealed := nset o.sealed i } i)
          else if o.kind = .msgSend ∧ bit p.typeWord 8 then
            .next (if s.earlierSend o ∨ !o.started then s.setSrc o else s.resendSrc { o with zeroGap := true } 0)
          else if o.mcast then .next (s.setSrc o)
          else if o.kind = .rdvRead then .next (s.endRdv o status true)
          else .next ((s.noteAnswer o).finishSrc o status o.done_ 0)

/-- R414: an operation without a final response completes with no_response. -/
def execOpTimeout (src : Endpoint) (tag : BitVec 32) (now : Ticks) (s : State) : Host.Outcome State Fault Refusal :=
  let s := s.advance now
  match s.srcOp src tag with
  | none => .next s
  | some o =>
    let limit := if o.kind = .msgSend then s.remote.msgTimeoutMs.toNat else s.remote.opTimeoutMs.toNat
    if o.mcast || o.held || o.injected < o.npkts || limit == 0 || decide ((s.time.now - o.lastAt).toNat < ms limit) then .next s
    else
      let s := s.raise { source := 1287, inst := some o.inst, about := some (.source src tag) }
      .next (if o.kind = .rdvRead then s.endRdv o 0x34 false else s.finishSrc o 0x34 0 0)

/-! ### Returns of reads (R111, R316-R319, R321, R324, R816) -/

/-- A read of a source operation's local payload returns. -/
def State.payloadIn (s : State) (o : SrcOp) (i : Nat) (res : ReadResult) : State :=
  if s.srcStale o then s.countStale (some o.inst)
  else
    let again := o.rereads.contains i
    let o : SrcOp := { o with rereads := o.rereads.erase i }
    match res with
    | .fault _ => (s.setSrc o).finishSrc o wsTranslationFault 0 0
    | .failed => (s.setSrc o).finishSrc o 0x17 0 0
    | .data bs poisoned =>
      let o : SrcOp := { o with operand := if o.kind = .atomic then bs else o.operand }
      let n := match o.needs i with
        | some (_, n) => n
        | none => 0
      let pkt := o.packet i (sliceBytes bs 0 n) poisoned again
      let more := !again && decide (o.next < o.npkts) && decide (i + 1 = o.next)
      let o : SrcOp := { o with next := if more then o.next + 1 else o.next }
      let s := (s.setSrc o).modTag o.wq o.index fun t => { t with translated := s.time.now }
      let s := s.inject o.inst pkt
      if more then
        match s.srcOp o.src o.tag with
        | some o => s.sendPacket o (i + 1) false
        | none => s
      else s

/-- A read for a GET's answer returns: the packet goes, and the next read begins; a failed one ends the GET (R383, R816). -/
def State.respondIn (s : State) (src : Endpoint) (tag : BitVec 32) (i : Nat) (res : ReadResult) : State :=
  match s.openOp src tag with
  | some e =>
    match e.req with
    | none => s
    | some r =>
      if (s.inst e.inst).epoch ≠ e.epoch then s.countStale (some e.inst)
      else
        let again := e.rereads.contains i
        let e := { e with rereads := e.rereads.erase i }
        match res with
        | .fault _ => s.setOpen { e with counts := e.counts.fail wsTranslationFault }
        | .failed => s.setOpen { e with counts := e.counts.fail wsMemoryFailed }
        | .data bs poisoned =>
          let n := min 4096 (getLen r - 4096 * i)
          let next := !again && decide (i + 1 = e.next) && decide (e.next < getPackets r)
          let s := s.setOpen { e with counts := { e.counts with poisoned := e.counts.poisoned || poisoned }, next := if next then e.next + 1 else e.next }
          let s := s.sendGetResp r i (sliceBytes bs 0 n) poisoned again
          if next then s.readForGet r (i + 1) false else s
  | none =>
    match s.tomb src tag with
    | none => s
    | some t =>
      match t.getReq, res with
      | some r, .data bs poisoned =>
        if t.rereads.contains i then
          let t := { t with rereads := t.rereads.erase i }
          let s := (s.setTomb t).sendGetResp r i (sliceBytes bs 0 (min 4096 (getLen r - 4096 * i))) poisoned true
          match t.rereads with
          | j :: _ => if j = i + 1 then s.readForGet r j true else s
          | [] => s
        else s
      | _, _ => s

/-- A fragment table could not be read (R321): the queue stops, and the messages behind a send that is lost so may go (R343). -/
def State.tableLost (s : State) (o : SrcOp) (cause : BitVec 4) : State :=
  let s := (s.dropSrc o).queueError o.wq o.index cause
  if o.kind = .msgSend then s.releaseSends { src := o.src, dst := o.dst, tc := o.tc } else s

/-- R316-R319, R321, R324: a read of payload or of a fragment table that is with the host returns (R263). -/
def execPayloadReadReturn (port : Nat) (tag : D2hTag) (res : ReadResult) (s : State) : Host.Outcome State Fault Refusal :=
  if !s.reading port tag then .next s
  else
    let s := s.noteRead port res
    match tag with
    | .fragTable src t =>
      match s.srcOp src t with
      | none => .next (s.dropD2h port tag)
      | some o =>
        let s := s.dropD2h port tag
        if s.srcStale o then .next (s.countStale (some o.inst))
        else
          match res with
          | .data bs false => .next (s.chainRead o bs)
          | .data _ true => .next (s.tableLost o 3)
          | _ => .next (s.tableLost o 2)
    | .chain wq index => .next ((s.dropD2h port tag).recvChain wq index res)
    | .payload src t i =>
      match s.srcOp src t with
      | none => .next (s.dropD2h port tag)
      | some o => .next ((s.dropD2h port tag).payloadIn o i.toNat res)
    | .respond src t i => .next ((s.dropD2h port tag).respondIn src t i.toNat res)
    | .draw n seq k => .next ((s.dropD2h port tag).drawIn n seq k res)
    | .stored k wq index i => .next ((s.dropD2h port tag).storedIn k wq index i.toNat res .ok)
    | _ => .next s

end Sys2Proof.Machine
end

