-- ==== Sys2Proof/Machine/Coll.lean ====
section
/-! DEFINITION. Collectives at a module (10): the COLLECTIVE descriptor, contributions, combination at a node, the way up and
down a shape, delivery to members, the COLL_DATA row and its timers. -/

namespace Sys2Proof.Machine

open Sys2Proof

/-! ### Group records, shapes, ranks (R429, R433, R461) -/

/-- The record of a group, with its number. -/
def State.groupRec (s : State) (g : BitVec 24) : Option (Nat × Group) := s.coll.groups.find? fun e => e.2.group == g
/-- The shape in a slot. -/
def Group.nodes (g : Group) (slot : Bool) : List CollNode := if slot then g.nodes1 else g.nodes0
/-- The multicast tree of a slot. -/
def Group.tree (g : Group) (slot : Bool) : Nat := (if slot then g.treeB else g.treeA).toNat
/-- The root of a shape. -/
def rootOf (l : List CollNode) : ModId := ((l.find? fun n => n.parent.isNone).map (·.module)).getD 0
/-- The member modules, ascending. -/
def Group.modules (g : Group) : List ModId := (g.members.map addrModule).eraseDups
/-- Ranks on a module: the first, and one past the last (R429). -/
def Group.ranksOn (g : Group) (m : ModId) : Nat × Nat :=
  let lo := (g.members.takeWhile fun e => (addrModule e).toNat < m.toNat).length
  (lo, lo + (g.members.filter fun e => addrModule e == m).length)
/-- The rank range that each node of a shape covers. -/
def Group.ranges (g : Group) (l : List CollNode) : List (Nat × Nat) :=
  l.foldl (fun acc n =>
    acc ++ [match n.children with
      | [] => g.ranksOn n.module
      | c :: cs => ((acc.getD c (0, 0)).1, (acc.getD (cs.getLastD c) (0, 0)).2)]) []
/-- The slot in which operation seq runs (R463). -/
def Group.slotFor (g : Group) (seq : BitVec 16) : Bool :=
  match g.switchAt with
  | some (k, sl) => if serialLe k seq then sl else g.slot
  | none => g.slot
/-- An open operation. -/
def Group.op (g : Group) (seq : BitVec 16) : Option CollOp := g.ops.find? fun o => o.seq == seq
/-- An operation of a group record. -/
def State.collOp (s : State) (r : Nat) (seq : BitVec 16) : Option (Group × CollOp) :=
  match tget s.coll.groups r with
  | none => none
  | some g => (g.op seq).map fun o => (g, o)
/-- Change an operation. -/
def State.modOp (s : State) (r : Nat) (seq : BitVec 16) (f : CollOp → CollOp) : State :=
  s.modGroup r fun g => { g with ops := g.ops.map fun o => if o.seq = seq then f o else o }
/-- The reducer cell of this module that combines a segment of an operation (R458, R482). -/
def CollOp.cellFor (o : CollOp) (seg : Nat) : Option Nat := o.spread[seg % o.spread.length]?

/-- Make an operation's entry where there is none. Striker sets its spread now: the module's reducer cells, to which its segments go in turn
(R458, R483; the order is a DESIGN CHOICE, assumption log 123); a frozen Striker leaves its latest one. -/
def State.ensureOp (s : State) (r : Nat) (seq : BitVec 16) (slot : Bool) : State :=
  if (s.collOp r seq).isSome then s
  else
    let spread : List Nat := if s.striker.frozen then s.striker.spread else (s.cellsOf 4).map (·.1)
    ({ s with striker := { s.striker with spread } }).modGroup r fun g => { g with ops := g.ops ++ [({ seq, slot, spread } : CollOp)] }

/-! ### Lengths and segments (R437, R445) -/

end Sys2Proof.Machine

namespace Sys2Proof

open Sys2Proof.Machine

/-- Bytes that an operation of n members combines or moves. -/
def CollParams.total (p : CollParams) (n : Nat) : Nat :=
  if p.op = 0 then 0 else if p.op = 5 then n * p.length else p.length
end Sys2Proof

namespace Sys2Proof.Machine

open Sys2Proof

/-- Segments of t bytes. -/
def segCount (t : Nat) : Nat := max 1 (ceilDiv t 4096)
/-- Bytes of segment i of t bytes. -/
def segLen (t i : Nat) : Nat := min 4096 (t - 4096 * i)
end Sys2Proof.Machine

namespace Sys2Proof

open Sys2Proof.Machine

/-- Bytes of one member's block in a reduce_scatter. -/
def CollParams.block (p : CollParams) (n : Nat) : Nat := p.length / n
/-- Whether the root scatters blocks (phase 2). -/
def CollParams.scatters (p : CollParams) : Bool := p.op == 4 && p.length != 0
/-- What a node covering ranks lo to hi contributes to segment i: its first byte, and how many. -/
def CollParams.expect (p : CollParams) (n : Nat) (range : Nat × Nat) (i : Nat) : Nat × Nat :=
  let t := p.total n
  let k := segLen t i
  if p.reduces then (4096 * i, k)
  else if p.op = 1 then (4096 * i, if range.1 ≤ p.root ∧ p.root < range.2 then k else 0)
  else if p.op = 5 then
    let a := max (range.1 * p.length) (4096 * i)
    (a, min (range.2 * p.length) (4096 * i + k) - a)
  else (4096 * i, 0)
/-- Result segments that a member receives. -/
def CollParams.resultSegs (p : CollParams) (n : Nat) : Nat :=
  if p.scatters then segCount (p.block n) else segCount (p.total n)

end Sys2Proof

namespace Sys2Proof.Machine

open Sys2Proof

/-! ### COLL_DATA packets (R446, R450, R456) -/

/-- Cut exact records into packets of whole records, at most 4,096 bytes each: the bytes and records of each. -/
def cutRecords : List (List Byte) → List Byte → Nat → List (List Byte × Nat)
  | [], cur, n => [(cur, n)]
  | x :: xs, cur, n => if 4096 < cur.length + x.length then (cur, n) :: cutRecords xs x 1 else cutRecords xs (cur ++ x) (n + 1)

end Sys2Proof.Machine

namespace Sys2Proof

open Sys2Proof.Machine

/-- The payloads of a segment's packets, with the records in each. -/
def CollParams.cut (p : CollParams) (records : Bool) (bs : List Byte) : List (List Byte × Nat) :=
  if records && p.exact_ then cutRecords (((exactsOf bs.length bs).getD []).map Exact.bytes) [] 0 else [(bs, 0)]

end Sys2Proof

namespace Sys2Proof.Machine

open Sys2Proof

/-- type_word of R446. -/
def collWord (g : BitVec 24) (seq : BitVec 16) (slot : Bool) (phase seg : Nat) : Word :=
  BitVec.ofNat 64 (packFields [(24, g.toNat), (16, seq.toNat), (1, bnat slot), (3, phase), (4, 0), (16, seg)])

/-- Send a segment's packets and keep them (R450): offset is the first element or byte; tree, a multicast tree and its mask. -/
def State.collSend (s : State) (r : Nat) (seq : BitVec 16) (to_ : ModId) (tree : Option (Nat × Nat)) (phase seg offset : Nat)
    (records : Bool) (bs : List Byte) (poisoned : Bool) : State :=
  match s.collOp r seq with
  | none => s
  | some (g, o) =>
    let self := s.routing.moduleId
    let par : CollParams := (o.params.getD { op := 0, dtype := 0, redOp := 0, exact_ := false, root := 0, length := 0 })
    let par := { par with status := o.status }
    let parts := par.cut records bs
    let dst := match tree with
      | some (t, mask) => BitVec.ofNat 29 (65536 * t + mask)
      | none => moduleAddr to_ 3
    let src := moduleAddr self 3
    let (e2e, s) := s.nextE2e (match tree with
      | some _ => { src, dst, tc := g.tc, form := 2 }
      | none => { src := moduleAddr self 0, dst := moduleAddr to_ 0, tc := g.tc, form := 1 }) parts.length
    let send := fun (acc : State × Nat × Nat) (x : List Byte × Nat) =>
      let (s, j, off) := acc
      let pkt := Packet.seal_
        { pktType := 0x09, tc := g.tc, addrForm := tree.isNone, mcast := tree.isSome, dst, src, opTag := self.zeroExtend 32
          opOffset := BitVec.ofNat 32 off, typeWord := collWord g.group seq o.slot phase seg
          opExt := BitVec.ofNat 15 (if records ∧ par.exact_ then x.2 + 1024 else 0), payload := x.1
          payloadLen := BitVec.ofNat 13 x.1.length, pktIndex := BitVec.ofNat 16 j, first := j == 0
          last := j + 1 == parts.length, e2eSeq := e2e + BitVec.ofNat 32 j, poisoned, coll := some par }
      ((s.modOp r seq fun o => { o with kept := o.kept ++ [pkt] }).inject Config.collQueue pkt, j + 1, off + x.2)
    (parts.foldl send (s, 0, offset)).1

end Sys2Proof.Machine

namespace Sys2Proof

open Sys2Proof.Machine

/-- op_offset of segment i: elements of a reduction, bytes of the others. -/
def CollParams.offset (p : CollParams) (byte : Nat) : Nat := if p.reduces then byte / dtypeSize p.dtype.toNat else byte

end Sys2Proof

namespace Sys2Proof.Machine

open Sys2Proof

/-! ### Records of the members (R468, R476, R477) -/

/-- op_result of R477. -/
def collResult (g : Group) (o : CollOp) (p : CollPart) : BitVec 256 :=
  BitVec.ofNat 256 (packFields [(16, o.seq.toNat), (1, bnat p.late), (1, bnat o.restarted), (14, 0),
    (17, (rootOf (g.nodes o.slot)).toNat), (15, 0), (64, o.resultAt.toNat)])

/-- Change the part of an instance. -/
def State.modPart (s : State) (r : Nat) (seq : BitVec 16) (inst : Nat) (f : CollPart → CollPart) : State :=
  s.modOp r seq fun o => { o with parts := o.parts.map fun p => if p.inst = inst then f p else p }

/-- A member's part ends with its record. -/
def State.endPart (s : State) (r : Nat) (seq : BitVec 16) (p : CollPart) (status : BitVec 8) : State :=
  match s.collOp r seq with
  | none => s
  | some (g, o) =>
    let s := s.modPart r seq p.inst fun p => { p with done := true, err := status }
    if (s.inst p.inst).epoch ≠ p.epoch then s.countStale (some p.inst)
    else s.complete p.wq p.index p.line p.epoch status p.written (collResult g o p)

/-! ### Done and close (R450) -/

/-- Send a COLL_CTRL packet (R434 and its table). -/
def State.sendCtrl (s : State) (to_ : ModId) (c : CollCtrl) : State :=
  s.sendTc3 false { s.agentPacket 0x0a to_ 3 0 [] with opExt := c.kind.zeroExtend 15, ctrl := some c }

/-- A COLL_CTRL content of a kind about an operation. -/
def ctrlOf (kind : BitVec 4) (g : BitVec 24) (seq : BitVec 16) : CollCtrl :=
  { kind, group := g, opSeq := seq, slot := false, rc := 0, modules := [], segs := [], lost := 0, install := none }

/-- The modules of a shape. -/
def shapeModules (l : List CollNode) : List ModId := (l.map (·.module)).eraseDups

/-- Close an operation: senders free the packets they kept, and its entry goes once its parts are done. -/
def State.closeOp (s : State) (r : Nat) (seq : BitVec 16) : State :=
  s.modGroup r fun g => { g with ops := g.ops.filter fun o => o.seq != seq || o.parts.any fun p => !p.done
                                 closed := (seq :: g.closed).take 8 }

/-- Place c of the shape is done: its parent's module is told, and a node here passes that on once all its children are; the root
closes. n bounds the climb. -/
def State.collDone (s : State) (r : Nat) (seq : BitVec 16) : Nat → Nat → State
  | 0, _ => s
  | n + 1, c =>
    match s.collOp r seq with
    | none => s
    | some (g, o) =>
      let l := g.nodes o.slot
      let self := s.routing.moduleId
      match l[c]? with
      | none => s
      | some x =>
        if o.doneFrom.contains c then s
        else
          let o := { o with doneFrom := nset o.doneFrom c }
          let s := s.modOp r seq fun _ => o
          match x.parent with
          | none =>
            (((shapeModules l).filter (· != self)).foldl (fun (s : State) m => s.sendCtrl m (ctrlOf 0xa g.group seq)) s).closeOp r seq
          | some p =>
            match l[p]? with
            | none => s
            | some y =>
              if y.module ≠ self then s.sendCtrl y.module (ctrlOf 0x9 g.group seq)
              else if y.children.all fun k => o.doneFrom.contains k then s.collDone r seq n p else s

/-- The leaf of a module in a shape. -/
def leafOf (l : List CollNode) (m : ModId) : Option Nat := l.findIdx? fun n => n.module == m && n.children.isEmpty

/-- Once every local part is done, the module's leaf is done. -/
def State.checkDone (s : State) (r : Nat) (seq : BitVec 16) : State :=
  match s.collOp r seq with
  | none => s
  | some (g, o) =>
    let (lo, hi) := g.ranksOn s.routing.moduleId
    if lo = hi ∨ o.parts.length < hi - lo ∨ o.parts.any (fun p => !p.done) then s
    else
      match leafOf (g.nodes o.slot) s.routing.moduleId with
      | none => s
      | some i => s.collDone r seq (g.nodes o.slot).length i

/-! ### A Seal that fails (R106, R107, R109, R448) -/

/-- The RESPONSE of R107 for a COLL_DATA packet. R88 keeps it in endpoint form: its addresses are the packet's, turned round. It names the
packet by the sender's op_tag, pkt_index and op_offset (DESIGN CHOICE, assumption log 122). -/
def State.collAnswer (s : State) (p : Packet) : State :=
  let from_ := moduleAddr s.routing.moduleId 3
  let (e, s) := s.nextE2e { src := from_, dst := p.src, tc := p.tc } 1
  s.inject Config.collQueue (Packet.seal_
    { pktType := 0x08, tc := p.tc, dst := p.src, src := from_, opTag := p.opTag, opOffset := p.opOffset
      typeWord := perPacket wsSealMismatch p.pktIndex, e2eSeq := e, first := true, last := true })

/-- A COLL_DATA packet whose Seal fails: a Mend, and for the first failure the RESPONSE (R107); the Bool says that it failed before. -/
def State.collSealNote (s : State) (r : Nat) (seq : BitVec 16) (p : Packet) : State × Bool :=
  let key : ModId × Word × BitVec 16 := (BitVec.ofNat 17 p.opTag.toNat, p.typeWord, p.pktIndex)
  let again := ((s.collOp r seq).map fun e => e.2.badSeals.contains key).getD false
  let s := s.raise { source := 1280, breakCode := if again then 4 else 0 }
  if again then (s, true)
  else ((s.modOp r seq fun o => { o with badSeals := o.badSeals ++ [key] }).collAnswer p, false)

/-- An operation ends here with a status on its way down: the parts here end, and the member modules below the nodes here are told. -/
def State.collDownFail (s : State) (r : Nat) (seq : BitVec 16) (status : BitVec 8) : State :=
  match s.collOp r seq with
  | none => s
  | some (g, o) =>
    let self := s.routing.moduleId
    let l := g.nodes o.slot
    let rg := g.ranges l
    let below := ((numbered l).filter fun e => e.2.module == self && !e.2.children.isEmpty).map fun e => rg.getD e.1 (0, 0)
    let mods := (((numbered g.members).filter fun e => below.any fun b => decide (b.1 ≤ e.1) && decide (e.1 < b.2)).map fun e => addrModule e.2).eraseDups
    let s := s.modOp r seq fun o => { o with status }
    let s := (mods.filter (· != self)).foldl (fun (s : State) m => s.collSend r seq m none 1 0 0 false [] false) s
    (o.parts.foldl (fun (s : State) q => if q.done then s else s.endPart r seq q status) s).checkDone r seq

/-! ### A member's result (R437, R443, R468, R469) -/

/-- recv_addr of a COLLECTIVE descriptor, and its other late fields (R436). -/
def recvAddr (l : Line) : Word := BitVec.ofNat 64 (lf l 320 64)
def startAt (l : Line) : Word := BitVec.ofNat 64 (lf l 384 64)
def releaseAt (l : Line) : Word := BitVec.ofNat 64 (lf l 448 64)

/-- Whether an instant of a descriptor has come; 0 is at once (R467, R468). -/
def State.instantCome (s : State) (t : Word) : Bool := t == 0 || t.toNat ≤ s.time.now.toNat

/-- The bytes of a result segment that a part writes, by its key in finals (R437, R455, R459): for a reduce only root_rank's
member writes, for a reduce_scatter its own block, for a scan the prefix with the members up to it. -/
def partBytes (par : CollParams) (parts : List CollPart) (p : CollPart) (seg : Nat) (bs : List Byte) : List Byte :=
  let t := par.length
  if par.op = 2 then (if p.rank = par.root then bs else [])
  else if par.op = 6 then
    let upTo := (List.range (p.rank + 1)).filterMap fun k => parts.find? fun q => q.rank == k
    par.finish (upTo.foldl (fun a q => par.combine a (par.lift (sliceBytes q.data (4096 * seg) (segLen t seg)))) bs)
  else bs

/-- The segment of a part that a key of finals is, if it is the part's. -/
def partSeg (par : CollParams) (p : CollPart) (key : Nat) : Option Nat :=
  if par.scatters then (if key / 65536 = p.rank then some (key % 65536) else none) else some key

/-- Write one result segment to a member (R468, R469, R816), whose part is complete when all are written. What was held with an arrival Seal
is checked first (R104): a segment that fails is asked for again (R107). -/
def State.giveSeg (s : State) (r : Nat) (seq : BitVec 16) (inst key : Nat) (acc : Access) (arrival : Bool) : State :=
  match s.collOp r seq with
  | none => s
  | some (g, o) =>
    match o.parts.find? (fun p => p.inst == inst), o.params, tget o.finals key with
    | some p, some par, some fin =>
      match partSeg par p key with
      | none => s
      | some seg =>
        if p.done || p.got.contains seg || !s.instantCome (releaseAt p.line) then s
        else if fin.arrived.any fun q => !sealOk q then
          (fin.arrived.filter fun q => !sealOk q).foldl (fun (s : State) q => match s.collSealNote r seq q with
            | (s, false) => s
            | (s, true) => s.collDownFail r seq wsSealMismatch) (s.modOp r seq fun o => { o with finals := tdel o.finals key })
        else
          let poisoned := fin.poisoned
          let bytes := partBytes par o.parts p seg fin.bytes
          let late := p.late || (arrival && releaseAt p.line != 0 && (releaseAt p.line).toNat < s.time.now.toNat)
          let fail : BitVec 8 := if bytes.isEmpty then 0 else (accessError false acc).getD (if poisoned then wsPoisoned else 0)
          let wrote := !bytes.isEmpty && (acc == .ok)
          let s := if bytes.isEmpty then s else s.noteAccess (s.inst inst).port.toNat acc
          let s := if wrote then
              match s.wq p.wq with
              | some w => (s.count 0x8031 inst (((tget s.coll.groups r).map fun g => g.tc.toNat).getD 0) bytes.length).writePieces w.owner.port w.domain w.instOf (endpointOf s.routing.moduleId w.owner.port inst) p.index poisoned
                  [(recvAddr p.line + BitVec.ofNat 64 (4096 * seg), bytes.length)] bytes
              | none => s
            else s
          let p : CollPart :=
            { p with got := nset p.got seg, late, written := if wrote then p.written + bytes.length else p.written
                     err := if p.err = 0 then fail else p.err }
          let s := s.modPart r seq inst fun _ => p
          if p.got.length = par.resultSegs g.members.length then s.endPart r seq p p.err else s
    | _, _, _ => s

/-- The result segments at hand are written to a member whose release_at has come. -/
def State.giveAll (s : State) (r : Nat) (seq : BitVec 16) (inst : Nat) (acc : Access) (arrival : Option Nat) : State :=
  match s.collOp r seq with
  | none => s
  | some (_, o) => o.finals.foldl (fun (s : State) (e : Nat × CollFinal) => s.giveSeg r seq inst e.1 acc (arrival == some e.1)) s

/-! ### Down (R437, R459, R465) -/

/-- A result segment reaches this module: kept, and written to each local member (R447, R468); one held already is counted. -/
def State.collDeliver (s : State) (r : Nat) (seq : BitVec 16) (key : Nat) (bs : List Byte) (poisoned : Bool) (from_ : List Packet) (acc : Access) : State :=
  match s.collOp r seq with
  | none => s
  | some (_, o) =>
    if (tget o.finals key).isSome then s
    else
      let s := s.modOp r seq fun o => { o with finals := tset o.finals key { bytes := bs, poisoned, arrived := from_ }, resultAt := s.time.now }
      (o.parts.foldl (fun (s : State) p => s.giveSeg r seq p.inst key acc true) s).checkDone r seq

/-- Pass a down segment from a node to its children (R465), each child's module once; a child at this module passes it on; n
bounds the descent. A reduce's data goes only toward root_rank's module. -/
def State.collDown (s : State) (r : Nat) (seq : BitVec 16) (seg : Nat) (bs : List Byte) (poisoned : Bool) (from_ : List Packet) (acc : Access) : Nat → Nat → State
  | 0, _ => s
  | n + 1, i =>
    match s.collOp r seq with
    | none => s
    | some (g, o) =>
      let l := g.nodes o.slot
      let self := s.routing.moduleId
      match l[i]?, o.params with
      | some x, some par =>
        if o.downs.contains (i, seg) then s
        else
          let s := s.modOp r seq fun o => { o with downs := o.downs ++ [(i, seg)] }
          if x.children.isEmpty then s.collDeliver r seq seg bs poisoned from_ acc
          else
            let rg := g.ranges l
            let toRoot := fun (c : Nat) => let q := rg.getD c (0, 0); par.op != 2 || (decide (q.1 ≤ par.root) && decide (par.root < q.2))
            let far := (x.children.filter fun c => ((l[c]?).map (·.module)) != some self)
            let mods := (far.filterMap fun c => (l[c]?).map (·.module)).eraseDups
            let s := mods.foldl (fun (s : State) m =>
              let data := far.any fun c => ((l[c]?).map (·.module)) == some m && toRoot c
              s.collSend r seq m none 1 seg (par.offset (4096 * seg)) false (if data then bs else []) (poisoned && data)) s
            (x.children.filter fun c => ((l[c]?).map (·.module)) == some self).foldl
              (fun (s : State) c => s.collDown r seq seg (if toRoot c then bs else []) poisoned (if toRoot c then from_ else []) acc n c) s
      | _, _ => s

/-- The member mask of a group of modules for a multicast (R158). -/
def groupMask (ms : List ModId) (like : ModId) : Nat :=
  ms.foldl (fun (m : Nat) x => if idSuper x = idSuper like ∧ idGroup x = idGroup like then m ||| 2 ^ idMember x else m) 0

/-- The root sends a result segment down (R465): once on its tree where the group has trees, else to its children. -/
def State.collRootDown (s : State) (r : Nat) (seq : BitVec 16) (root seg : Nat) (bs : List Byte) (poisoned : Bool) (acc : Access) : State :=
  match s.collOp r seq with
  | none => s
  | some (g, o) =>
    let self := s.routing.moduleId
    match o.params with
    | none => s
    | some par =>
      if g.tree o.slot = 0 then s.collDown r seq seg bs poisoned [] acc (g.nodes o.slot).length root
      else if !s.castOk (65536 * g.tree o.slot) then s.modOp r seq fun o => { o with status := if o.status = 0 then 0x08 else o.status }
      else if o.downs.contains (root, seg) then s
      else
        let s := s.modOp r seq fun o => { o with downs := o.downs ++ [(root, seg)] }
        let others := g.modules.filter (· != self)
        let s := if others.isEmpty then s
          else s.collSend r seq self (some (g.tree o.slot, groupMask others self)) 1 seg (par.offset (4096 * seg)) false bs poisoned
        if g.modules.contains self then s.collDeliver r seq seg bs poisoned [] acc else s

/-- The bytes from a on that the root's finished segments hold, if they are all finished. -/
def CollOp.finished (o : CollOp) (a n : Nat) : Option (List Byte × Bool) :=
  if n = 0 then some ([], false)
  else
    (List.range ((a + n - 1) / 4096 + 1 - a / 4096)).foldl (fun (acc : Option (List Byte × Bool)) k =>
      let i := a / 4096 + k
      match acc, tget o.results i with
      | some (bs, po), some (x, p) =>
        let lo := max a (4096 * i)
        let hi := min (a + n) (4096 * (i + 1))
        some (bs ++ sliceBytes x (lo - 4096 * i) (hi - lo), po || p)
      | _, _ => none) (some ([], false))

/-- The root scatters the block segments that are finished, each to its rank's module (phase 2). -/
def State.collScatter (s : State) (r : Nat) (seq : BitVec 16) (root : Nat) (acc : Access) : State :=
  match s.collOp r seq with
  | none => s
  | some (g, o) =>
    match o.params with
    | none => s
    | some par =>
      let self := s.routing.moduleId
      let b := par.block g.members.length
      let todo := (numbered g.members).flatMap fun e => (List.range (segCount b)).map fun i => (e.1, i, addrModule e.2)
      todo.foldl (fun (s : State) (t : Nat × Nat × ModId) =>
        let key := t.1 * 65536 + t.2.1
        match s.collOp r seq with
        | none => s
        | some (_, o) =>
          if o.downs.contains (root, key) then s
          else
            let at_ := t.1 * b + 4096 * t.2.1
            match o.finished at_ (segLen b t.2.1) with
            | none => s
            | some (bs, po) =>
              let s := s.modOp r seq fun o => { o with downs := o.downs ++ [(root, key)] }
              if t.2.2 = self then s.collDeliver r seq key bs po [] acc
              else s.collSend r seq t.2.2 none 2 t.2.1 at_ false bs po) s

/-- R459, the scan's way down (phase 3): each child is sent the combination of all lower ranks outside it; n bounds the
descent. -/
def State.collPrefix (s : State) (r : Nat) (seq : BitVec 16) (seg : Nat) (pre : List Byte) (poisoned : Bool) (from_ : List Packet) (acc : Access) : Nat → Nat → State
  | 0, _ => s
  | n + 1, i =>
    match s.collOp r seq with
    | none => s
    | some (g, o) =>
      let l := g.nodes o.slot
      let self := s.routing.moduleId
      match l[i]?, o.params with
      | some x, some par =>
        if o.downs.contains (i, seg) then s
        else
          let s := s.modOp r seq fun o => { o with downs := o.downs ++ [(i, seg)] }
          if x.children.isEmpty then s.collDeliver r seq seg pre poisoned from_ acc
          else
            (x.children.foldl (fun (a : State × List Byte × Bool) c =>
              let (s, pre, po) := a
              let m := ((l[c]?).map (·.module)).getD 0
              let s := if m = self then s.collPrefix r seq seg pre po (if x.children.head? = some c then from_ else []) acc n c
                else s.collSend r seq m none 3 seg (par.offset (4096 * seg)) true pre po
              match o.inputs.find? fun y => y.node == i && y.child == c && y.segment == seg with
              | some y => (s, par.combine pre y.all, po || y.poisoned)
              | none => (s, pre, po)) (s, pre, poisoned)).1
      | _, _ => s

/-- The root finishes a segment and starts its way down (R437, R455, R459). -/
def State.collRoot (s : State) (r : Nat) (seq : BitVec 16) (root seg : Nat) (bs : List Byte) (poisoned : Bool) (acc : Access) : State :=
  match s.collOp r seq with
  | none => s
  | some (g, o) =>
    match o.params with
    | none => s
    | some par =>
      if par.op = 6 then s.collPrefix r seq seg [] false [] acc (g.nodes o.slot).length root
      else
        let bs := if par.reduces then par.finish bs else bs
        if par.scatters then
          (s.modOp r seq fun o => { o with results := tset o.results seg (bs, poisoned) }).collScatter r seq root acc
        else s.collRootDown r seq root seg bs poisoned acc

/-! ### Up (R440, R447-R449, R451-R457) -/

/-- Whether every child of a node has contributed to a segment. -/
def CollOp.allIn (o : CollOp) (l : List CollNode) (i seg : Nat) : Bool :=
  (((l[i]?).map (·.children)).getD []).all fun c =>
    o.inputs.any fun y => y.node == i && y.child == c && y.segment == seg && y.stamp.isSome

/-- Stamps given so far: the order of completion of R452. -/
def CollOp.stamps (o : CollOp) : Nat := (o.inputs.filter fun y => y.stamp.isSome).length

/-- Insert by stamp. -/
def insertInput (y : CollInput) : List CollInput → List CollInput
  | [] => [y]
  | z :: zs => if y.stamp.getD 0 < z.stamp.getD 0 then y :: z :: zs else z :: insertInput y zs

/-- What a node makes of its children's contributions to a segment: in rank order for a scan and an allgather, else in the
order of completion (R448, R452). -/
def CollOp.merge (o : CollOp) (par : CollParams) (l : List CollNode) (i seg : Nat) : List Byte × Bool :=
  let kids := ((l[i]?).map (·.children)).getD []
  let ins := kids.filterMap fun c => o.inputs.find? fun y => y.node == i && y.child == c && y.segment == seg
  let ins := if par.op = 6 ∨ par.op = 5 then ins else ins.foldl (fun a y => insertInput y a) []
  (ins.foldl (fun a y => if par.reduces then par.combine a y.all else a ++ y.all) [], ins.any (·.poisoned))

/-- A node's partial of a segment goes to its parent: within this module as an input, else in packets; the root finishes it. n
bounds the climb. A node frees its inputs once combined, but for a scan's, which its way down needs. -/
def State.collUp (s : State) (r : Nat) (seq : BitVec 16) (seg : Nat) (acc : Access) : Nat → Nat → List Byte → Bool → State
  | 0, _, _, _ => s
  | n + 1, i, bs, poisoned =>
    match s.collOp r seq with
    | none => s
    | some (g, o) =>
      let l := g.nodes o.slot
      match l[i]?, o.params with
      | some x, some par =>
        match x.parent with
        | none => s.collRoot r seq i seg bs poisoned acc
        | some p =>
          let off := (par.expect g.members.length ((g.ranges l).getD i (0, 0)) seg).1
          let pm := ((l[p]?).map (·.module)).getD 0
          if pm ≠ s.routing.moduleId then s.collSend r seq pm none 0 seg (par.offset off) true bs poisoned
          else
            let y : CollInput := { node := p, child := i, segment := seg, lastIdx := some 0, bytes := [(0, bs)], offset := off, poisoned
                                   stamp := some o.stamps }
            let o := { o with inputs := o.inputs ++ [y] }
            if o.outs.contains (p, seg) || !o.allIn l p seg || o.status ≠ 0 then s.modOp r seq fun _ => o
            else
              let (m, po) := o.merge par l p seg
              let o := { o with outs := o.outs ++ [(p, seg)]
                                inputs := o.inputs.map fun y => if y.node = p ∧ y.segment = seg ∧ par.op ≠ 6 then { y with bytes := [] } else y }
              (s.modOp r seq fun _ => o).collUp r seq seg acc n p m po
      | _, _ => s

/-- A node combines a segment once every child's contribution is complete (R448). -/
def State.collTry (s : State) (r : Nat) (seq : BitVec 16) (i seg : Nat) (acc : Access) : State :=
  match s.collOp r seq with
  | none => s
  | some (g, o) =>
    let l := g.nodes o.slot
    match o.params with
    | none => s
    | some par =>
      if o.status ≠ 0 ∨ o.outs.contains (i, seg) ∨ !o.allIn l i seg then s
      else
        let (m, po) := o.merge par l i seg
        let o := { o with outs := o.outs ++ [(i, seg)]
                          inputs := o.inputs.map fun y => if y.node = i ∧ y.segment = seg ∧ par.op ≠ 6 then { y with bytes := [] } else y }
        (s.modOp r seq fun _ => o).collUp r seq seg acc l.length i m po

/-- The contribution of this module's members to a segment (R437, R440, R452): the members in starting order, for a scan and an
allgather in rank order. -/
def CollOp.local_ (o : CollOp) (par : CollParams) (n : Nat) (range : Nat × Nat) (seg : Nat) : List Byte × Bool :=
  let ranked := (List.range (range.2 - range.1)).filterMap fun k => o.parts.find? fun p => p.rank == range.1 + k
  let t := par.total n
  if par.reduces then
    let ps := if par.op = 6 then ranked else o.parts
    (ps.foldl (fun a p => par.combine a (par.lift (sliceBytes p.data (4096 * seg) (segLen t seg)))) [], ps.any (·.poisoned))
  else if par.op = 1 then
    match o.parts.find? fun p => p.rank == par.root with
    | some p => (sliceBytes p.data (4096 * seg) (segLen t seg), p.poisoned)
    | none => ([], false)
  else if par.op = 5 then
    ranked.foldl (fun (a : List Byte × Bool) p =>
      let (at_, k) := par.expect n (p.rank, p.rank + 1) seg
      (a.1 ++ sliceBytes p.data (at_ - p.rank * par.length) k, a.2 || (p.poisoned && k != 0))) ([], false)
  else ([], false)

/-- The status of an ended operation travels up from each node here that has heard of all its children, and from the root to
every member module (R442, R457). -/
def State.collStatus (s : State) (r : Nat) (seq : BitVec 16) : State :=
  match s.collOp r seq with
  | none => s
  | some (g, o) =>
    if o.status = 0 then s
    else
      let l := g.nodes o.slot
      let self := s.routing.moduleId
      let (lo, hi) := g.ranksOn self
      let root := fun (s : State) =>
        let s := (g.modules.filter (· != self)).foldl (fun (s : State) m => s.collSend r seq m none 1 0 0 false [] false) s
        match s.collOp r seq with
        | none => s
        | some (_, o) => (o.parts.foldl (fun (s : State) p => if p.done then s else s.endPart r seq p o.status) s).checkDone r seq
      (numbered l).foldl (fun (s : State) (e : Nat × CollNode) =>
        match s.collOp r seq with
        | none => s
        | some (_, o) =>
          let heard := if e.2.children.isEmpty then decide (hi - lo ≤ o.parts.length) && o.parts.all (fun p => p.read || p.done)
            else e.2.children.all fun c => o.inputs.any fun y => y.node == e.1 && y.child == c
          if e.2.module ≠ self ∨ o.statusUp.contains e.1 ∨ !heard then s
          else
            let s := s.modOp r seq fun o => { o with statusUp := nset o.statusUp e.1 }
            match e.2.parent with
            | none => root s
            | some p =>
              let pm := ((l[p]?).map (·.module)).getD 0
              if pm = self then s.modOp r seq fun o =>
                { o with inputs := o.inputs ++ [{ node := p, child := e.1, segment := 0, lastIdx := some 0 }] }
              else s.collSend r seq pm none 0 0 0 false [] false) s

/-- Whether this module holds a result segment final, so that it need not be sent again (R472). -/
def CollOp.isFinal (o : CollOp) (par : CollParams) (seg : Nat) : Bool := par.op != 4 && par.op != 6 && (tget o.finals seg).isSome

/-- A member module contributes once all its members have started and been read (R440): every segment not final here. -/
def State.contribute (s : State) (r : Nat) (seq : BitVec 16) (acc : Access) : State :=
  match s.collOp r seq with
  | none => s
  | some (g, o) =>
    let self := s.routing.moduleId
    let (lo, hi) := g.ranksOn self
    match o.params, leafOf (g.nodes o.slot) self with
    | some par, some leaf =>
      if o.contributed || o.parts.length < hi - lo || o.parts.any (fun p => !p.read) then s
      else if o.status ≠ 0 then s.collStatus r seq
      else
        let n := g.members.length
        let s := s.modOp r seq fun o => { o with contributed := true, startedAt := s.time.now }
        (List.range (segCount (par.total n))).foldl (fun (s : State) seg =>
          if o.isFinal par seg then s
          else
            let (bs, po) := o.local_ par n (lo, hi) seg
            s.collUp r seq seg acc (g.nodes o.slot).length leaf bs po) s
    | _, _ => s

/-! ### The COLLECTIVE descriptor (R436-R441) -/

/-- The fields that every member must agree on (R442). -/
def collParams (l : Line) : CollParams :=
  let op := lf l 224 4
  let ex := bit l 240 && lf l 236 4 == 0 && dtypeFloat (lf l 232 4)
  { op := BitVec.ofNat 4 op, dtype := BitVec.ofNat 4 (lf l 232 4), redOp := BitVec.ofNat 4 (lf l 236 4), exact_ := ex, root := lf l 256 19
    length := if op = 1 then lf l 288 29 else dLen l }

/-- A reserved field or value (R436, R437). -/
def collReserved (l : Line) : Bool :=
  let op := lf l 224 4
  let plain := op == 0 || op == 1 || op == 5
  lf l 216 8 != 0 || lf l 228 4 != 0 || lf l 241 15 != 0 || lf l 275 13 != 0 || lf l 317 3 != 0 || decide (7 ≤ op) ||
  (plain && (lf l 232 8 != 0 || bit l 240)) || (op != 1 && op != 2 && lf l 256 19 != 0)

/-- R438. -/
def collBadReduction (l : Line) : Bool :=
  let op := lf l 224 4
  let d := lf l 232 4
  let red := lf l 236 4
  (op == 2 || op == 3 || op == 4 || op == 6) && (decide (8 ≤ d) || decide (6 ≤ red) || (decide (3 ≤ red) && dtypeFloat d))

/-- The length relation of R437, for rank k of n members. -/
def collLengths (l : Line) (k n : Nat) : Bool :=
  let sz := dtypeSize (lf l 232 4)
  let len := dLen l
  let rl := lf l 288 29
  let root := lf l 256 19
  !dFrag l && decide (len ≤ Config.maxLength) && decide (rl ≤ Config.maxLength) && decide (root < n) &&
  match lf l 224 4 with
  | 0 => len == 0 && rl == 0
  | 1 => len == (if k = root then rl else 0)
  | 2 => len % sz == 0 && rl == (if k = root then len else 0)
  | 3 => len % sz == 0 && rl == len
  | 4 => len == n * rl && rl % sz == 0
  | 5 => rl == n * len
  | _ => len % sz == 0 && rl == len

/-- Rank of an endpoint. -/
def Group.rank (g : Group) (e : Endpoint) : Option Nat := g.members.findIdx? (· == e)

/-- Open operations of a group, as R441 counts them. -/
def Group.openCount (g : Group) : Nat := (g.ops.filter fun o => o.parts.any fun p => !p.done).length

/-- R436-R441: a COLLECTIVE starts its member's part. -/
def execCollective (wq : Nat) (s : State) : Host.Outcome State Fault Refusal :=
  match s.startable wq 7 with
  | none => .next s
  | some (w, f) =>
    let l := f.line
    let (i, e) := match w.instOf with
      | some i => (i, some (endpointOf s.routing.moduleId (s.inst i).port.toNat i))
      | none => (0, none)
    let stop := fun (st : BitVec 8) => Host.Outcome.next ((s.started wq).refuse wq w f st false)
    if collReserved l then stop 0x11
    else if collBadReduction l then stop 0x39
    else
      match s.groupRec (BitVec.ofNat 24 (lf l 192 24)) with
      | none => stop 0x38
      | some (r, g) =>
        match e.bind g.rank with
        | none => stop 0x38
        | some k =>
          if g.state = 3 then stop 0x3c
          else if !collLengths l k g.members.length then stop 0x12
          else
            let seq := tgetD g.memberSeq i 0
            let known := (g.op seq).any fun o => !o.parts.isEmpty
            if !known ∧ Config.openCollMax ≤ g.openCount then .next s
            else
              let s := s.started wq
              let par := collParams l
              let s := s.ensureOp r seq (g.slotFor seq)
              let s := s.modGroup r fun g =>
                { g with memberSeq := tset g.memberSeq i (seq + 1), nextSeq := if serialLt g.nextSeq (seq + 1) then seq + 1 else g.nextSeq }
              let now0 := dLen l == 0 && s.instantCome (startAt l)
              let part : CollPart := { inst := i, rank := k, wq, index := f.index, line := l, read := now0, epoch := s.epochOf w }
              let s := s.modOp r seq fun o =>
                { o with parts := o.parts ++ [part], startedAt := s.time.now
                         params := some (o.params.getD par)
                         status := if o.status = 0 ∧ (o.params.getD par) ≠ par then 0x3a else o.status }
              .next ((s.contribute r seq .ok).collStatus r seq)

/-- R467, R324, R453: at start_at, or at once when it has passed, the member's contribution is read (R232). -/
def execCollStartAt (group : BitVec 24) (opSeq : BitVec 16) (inst : Nat) (now : Ticks) (data : ReadResult) (s : State) :
    Host.Outcome State Fault Refusal :=
  let s := s.advance now
  match s.groupRec group with
  | none => .next s
  | some (r, g) =>
    match (g.op opSeq).bind fun o => o.parts.find? fun p => p.inst == inst with
    | none => .next s
    | some p =>
      if s.quench.halted || p.read || p.done || !s.instantCome (startAt p.line) then .next s
      else if (s.inst inst).epoch ≠ p.epoch then .next (s.countStale (some inst))
      else
        match s.wq p.wq with
        | none => .next s
        | some w =>
          let n := dLen p.line
          let s := if n = 0 then s
            else (s.touch w.domain (dAddr p.line) n 0 (endpointOf s.routing.moduleId w.owner.port inst) p.index false).emit
              (.d2hRead w.owner.port (.other inst) false w.domain (dAddr p.line) n)
          let s := if n = 0 then s else s.noteRead w.owner.port data
          match (if n = 0 then .data [] false else data : ReadResult) with
          | .data bs poisoned =>
            let s := s.modPart r opSeq inst fun p => { p with read := true, data := sliceBytes bs 0 n, poisoned }
            .next ((s.contribute r opSeq .ok).collStatus r opSeq)
          | .fault _ => .next (((s.endPart r opSeq p wsTranslationFault).collStatus r opSeq).checkDone r opSeq)
          | .failed => .next (((s.endPart r opSeq p 0x17).collStatus r opSeq).checkDone r opSeq)

/-- R468: at release_at, the held segments are written and the record made. -/
def execCollReleaseAt (group : BitVec 24) (opSeq : BitVec 16) (inst : Nat) (now : Ticks) (acc : Access) (s : State) :
    Host.Outcome State Fault Refusal :=
  let s := s.advance now
  match s.groupRec group with
  | none => .next s
  | some (r, _) => .next (if s.quench.halted then s else ((s.giveAll r opSeq inst acc none).checkDone r opSeq).unfill)

/-! ### COLL_DATA arrives (R106, R107, R447-R449, R457) -/

/-- Count a duplicate (R447). -/
def State.collDup (s : State) : State := { s with coll := { s.coll with dupDiscards := satInc s.coll.dupDiscards } }

/-- Whether a contribution is complete: every packet up to the last, and all its elements or bytes (R447). -/
def CollInput.complete (y : CollInput) (par : CollParams) (want : Nat) : Bool :=
  match y.lastIdx with
  | none => false
  | some k => y.bytes.length == k + 1 &&
      (if par.exact_ then par.elems y.all * dtypeSize par.dtype.toNat == want else y.all.length == want)

/-- Whether an exact payload is malformed (R457). -/
def malformedExact (p : Packet) : Bool := bit p.opExt 10 && (exactsOf p.payload.length p.payload).isNone

/-- An up packet (phase 0): counted toward the contribution of the first child of a node here whose module is the sender and whose
contribution to the segment is not complete. -/
def State.collInput (s : State) (r : Nat) (seq : BitVec 16) (p : Packet) (par : CollParams) (acc : Access) : State :=
  match s.collOp r seq with
  | none => s
  | some (g, o) =>
    let l := g.nodes o.slot
    let self := s.routing.moduleId
    let from_ : ModId := BitVec.ofNat 17 p.opTag.toNat
    let seg := bits p.typeWord 63 48
    let edges := (numbered l).flatMap fun e => if e.2.module = self then (e.2.children.filter fun c =>
      ((l[c]?).map (·.module)) == some from_).map fun c => (e.1, c) else []
    let input := fun (e : Nat × Nat) => (o.inputs.find? fun y => y.node == e.1 && y.child == e.2 && y.segment == seg).getD
      { node := e.1, child := e.2, segment := seg, offset := p.opOffset.toNat }
    match edges.find? fun e => (input e).stamp.isNone && !((input e).bytes.any fun b => b.1 == p.pktIndex.toNat) with
    | none => s.collDup
    | some e =>
      let y := input e
      let y := { y with bytes := tset y.bytes p.pktIndex.toNat p.payload, poisoned := y.poisoned || p.poisoned
                        lastIdx := if p.last then some p.pktIndex.toNat else y.lastIdx }
      let agree := o.params.getD { par with status := 0 }
      let bad := malformedExact p
      let st : BitVec 8 := if par.status ≠ 0 then par.status else if agree ≠ { par with status := 0 } ∨ bad then 0x3a else 0
      let s := if bad then s.raise { source := 1302 } else s
      let want := (par.expect g.members.length ((g.ranges l).getD e.2 (0, 0)) seg).2
      let y := if st = 0 ∧ y.complete par want then { y with stamp := some o.stamps } else y
      let rest := o.inputs.filter fun z => !(z.node == e.1 && z.child == e.2 && z.segment == seg)
      let s := s.modOp r seq fun o =>
        { o with inputs := rest ++ [y], params := some agree, status := if o.status = 0 then st else o.status }
      (s.collTry r seq e.1 seg acc).collStatus r seq

/-- A down, scatter or prefix packet: to the nodes here whose parent is at the sender, and to the local members. A reduce's empty
segment goes to those nodes only; a prefix may take several packets. -/
def State.collResultIn (s : State) (r : Nat) (seq : BitVec 16) (p : Packet) (par : CollParams) (acc : Access) : State :=
  match s.collOp r seq with
  | none => s
  | some (g, o) =>
    let l := g.nodes o.slot
    let self := s.routing.moduleId
    let from_ : ModId := BitVec.ofNat 17 p.opTag.toNat
    let seg := bits p.typeWord 63 48
    let phase := bits p.typeWord 43 41
    let s := if o.params.isNone then s.modOp r seq fun o => { o with params := some { par with status := 0 } } else s
    let mine := (numbered l).filter fun e => e.2.module == self && (e.2.parent.bind fun q => (l[q]?).map (·.module)) == some from_
    let fresh := mine.filter fun e => !o.downs.contains (e.1, seg)
    if par.status ≠ 0 then
      let s := s.modOp r seq fun o => { o with status := par.status }
      (o.parts.foldl (fun (s : State) q => if q.done then s else s.endPart r seq q par.status) s).checkDone r seq
    else if phase = 1 then
      let held := o.parts.isEmpty || (tget o.finals seg).isSome
      if p.mcast ∨ g.tree o.slot ≠ 0 ∨ fresh.isEmpty then
        (if held then s.collDup else s.collDeliver r seq seg p.payload p.poisoned [p] acc)
      else
        let s := fresh.foldl (fun (s : State) e => s.collDown r seq seg p.payload p.poisoned [p] acc l.length e.1) s
        if o.parts.isEmpty ∨ (par.op = 2 ∧ p.payload.isEmpty) then s else s.collDeliver r seq seg p.payload p.poisoned [p] acc
    else if phase = 2 then
      let b := par.block g.members.length
      let key := p.opOffset.toNat / max 1 b * 65536 + seg
      if (tget o.finals key).isSome then s.collDup else s.collDeliver r seq key p.payload p.poisoned [p] acc
    else if fresh.isEmpty then s.collDup
    else
      fresh.foldl (fun (s : State) e =>
        match s.collOp r seq with
        | none => s
        | some (_, o) =>
          let mine := fun (z : CollInput) => z.node == e.1 && z.child == e.1 && z.segment == seg
          let y := (o.inputs.find? mine).getD { node := e.1, child := e.1, segment := seg }
          let y := { y with bytes := tset y.bytes p.pktIndex.toNat p.payload, poisoned := y.poisoned || p.poisoned
                            lastIdx := if p.last then some p.pktIndex.toNat else y.lastIdx
                            arrived := (y.arrived.filter fun q => q.pktIndex != p.pktIndex) ++ [p] }
          let whole := y.lastIdx == some (y.bytes.length - 1)
          let s := s.modOp r seq fun o => { o with inputs := (o.inputs.filter fun z => !mine z) ++ (if whole then [] else [y]) }
          if whole then s.collPrefix r seq seg y.all y.poisoned y.arrived acc l.length e.1 else s) s

/-- The second failure of a contribution's Seal (R109): the operation ends with seal-mismatch; the child counts as heard. -/
def State.collUpFail (s : State) (r : Nat) (seq : BitVec 16) (p : Packet) : State :=
  match s.collOp r seq with
  | none => s
  | some (g, o) =>
    let l := g.nodes o.slot
    let from_ : ModId := BitVec.ofNat 17 p.opTag.toNat
    let seg := bits p.typeWord 63 48
    let edges := (numbered l).flatMap fun e => if e.2.module = s.routing.moduleId then (e.2.children.filter fun c =>
      ((l[c]?).map (·.module)) == some from_).map fun c => (e.1, c) else []
    let new := (edges.filter fun e => !o.inputs.any fun y => y.node == e.1 && y.child == e.2).map fun e =>
      ({ node := e.1, child := e.2, segment := seg } : CollInput)
    (s.modOp r seq fun o => { o with inputs := o.inputs ++ new, status := if o.status = 0 then wsSealMismatch else o.status }).collStatus r seq

/-- A COLL_DATA packet whose Seal fails on arrival at the unit that combines it or passes it on (R106, R107, R109). -/
def State.collSealBad (s : State) (r : Nat) (seq : BitVec 16) (p : Packet) : State :=
  match s.collSealNote r seq p with
  | (s, false) => s
  | (s, true) => if bits p.typeWord 43 41 = 0 then s.collUpFail r seq p else s.collDownFail r seq wsSealMismatch

/-- Discard a COLL_DATA packet. -/
def State.collDiscard (s : State) : State := { s with routing := { s.routing with discards := s.routing.discards + 1 } }

/-- R88, R106, R107, R447-R449, R457: a COLL_DATA packet reaches the collective unit. One that is not in its group's class is discarded; a
packet for a slot to which this module has not yet moved waits for the restart. -/
def execCollData (p : Packet) (acc : Access) (s : State) : Host.Outcome State Fault Refusal :=
  if s.quench.halted || !s.hasArrival p || p.pktType != 0x09 then .next s
  else
    let seq : BitVec 16 := BitVec.ofNat 16 (bits p.typeWord 39 24)
    let slot := bit p.typeWord 40
    match s.groupRec (BitVec.ofNat 24 (bits p.typeWord 23 0)), p.coll with
    | some (r, g), some par =>
      let moved := (g.op seq).any fun o => o.slot != slot
      if moved && !((g.op seq).any fun o => o.restarted) then .next s
      else
        let s := s.takeArrival p
        if g.closed.contains seq then .next s.collDup.unfill
        else if moved || g.state == 3 || p.tc != g.tc then .next s.collDiscard.unfill
        else
          let s := s.ensureOp r seq slot
          .next (if !sealOk p then s.collSealBad r seq p
            else if bits p.typeWord 43 41 = 0 then s.collInput r seq p par acc
            else s.collResultIn r seq p par acc).unfill
    | _, _ => .next (s.takeArrival p).collDiscard.unfill

end Sys2Proof.Machine
end

