-- ==== Sys2Proof/Machine/CollCtrl.lean ====
section
/-! DEFINITION. Collectives between modules (10): COLL_CTRL packets, shapes and their placement (R461, R462, R490-R492), group
commands, stalls, probes, restarts, aborts. -/

namespace Sys2Proof.Machine

open Sys2Proof

/-! ### The placement summary (R490) -/

/-- Mean of a list of numbers, rounded down. -/
def meanOf (l : List Nat) : Nat := if l.isEmpty then 0 else l.foldl (· + ·) 0 / l.length

/-- Mean congestion level of ports lo to hi. -/
def State.meanLevel (s : State) (lo hi : Nat) : Nat := meanOf ((List.range (hi + 1 - lo)).map fun i => s.level (lo + i))

/-- This module's placement summary (R490). -/
def State.summaryBytes (s : State) : List Byte :=
  let busy := meanOf ((s.striker.cells.filter fun e => e.2.role == 4).map fun e => e.2.busy.toNat)
  let free := if s.collStore = 0 then 0 else 100 - min 100 (100 * s.collUsed / s.collStore)
  leBytes 4 (packFields [(17, s.routing.moduleId.toNat), (4, modeCode s.hearth.mode)]) ++ leBytes 1 busy ++ leBytes 1 free ++
  leBytes 1 (s.meanLevel 0 14) ++ leBytes 1 (s.meanLevel 15 38) ++ leBytes 1 (s.meanLevel 39 62) ++ leBytes 7 0

/-- A summary that is still valid (R490): this module's own, or one that arrived within 1 ms. -/
def State.summaryOf (s : State) (m : ModId) : Option (List Byte) :=
  if m = s.routing.moduleId then some s.summaryBytes
  else (s.striker.summaries.find? fun e => e.1 == m && decide ((s.time.now - e.2.1).toNat ≤ ms 1)).map (·.2.2)

/-- Whether a summary shows a module fit to be a node: Transit, Full service or Degraded service (R461). -/
def summaryFit (b : List Byte) : Bool := 5 ≤ fieldAt (leAt b 0 4) 17 4 && fieldAt (leAt b 0 4) 17 4 ≤ 7

/-- cost(m) of R491 for a run at level 0, 1 or 2. -/
def summaryCost (b : List Byte) (lvl : Nat) : Nat :=
  4 * (leAt b (6 + lvl) 1 % 16) + leAt b 4 1 / 10 + (100 - leAt b 5 1) / 10

/-! ### Building a shape (R461, R462, R491, R504) -/

/-- Cut a list into runs of at most f; n bounds them. -/
def runsOf (f : Nat) : Nat → List Nat → List (List Nat)
  | 0, _ => []
  | n + 1, l => if l.isEmpty then [] else l.take f :: runsOf f n (l.drop f)

/-- A shape being built: its nodes, the summed cost of its runs, and the drawn candidates of the runs to come. -/
structure Build where
  nodes : List CollNode
  cost  : Nat
  draws : List (List ModId)
  deriving DecidableEq, Repr

/-- The node of a run: the fit candidate of least cost, a tie to the lowest module ID; while Striker is frozen, or with no fit
candidate, the lowest module that holds a child. -/
def State.runNode (s : State) (lvl : Nat) (avoid held drawn : List ModId) : ModId × Nat :=
  let low := fun (l : List ModId) => match l with
    | [] => (0 : ModId)
    | m :: ms => ms.foldl (fun (a : ModId) b => if b.toNat < a.toNat then b else a) m
  let ok := held.filter fun m => !avoid.contains m
  let base := low (if ok.isEmpty then held else ok)
  if s.striker.frozen then (base, 0)
  else
    let cands := (held ++ drawn).filterMap fun m =>
      if avoid.contains m then none
      else match s.summaryOf m with
        | some b => if summaryFit b then some (m, summaryCost b lvl) else none
        | none => none
    match cands with
    | [] => (base, 0)
    | c :: cs => cs.foldl (fun (a : ModId × Nat) b => if b.2 < a.2 ∨ (b.2 = a.2 ∧ b.1.toNat < a.1.toNat) then b else a) c

/-- Combine a unit's children in runs until one node stands for it (R461); n bounds the rounds. -/
def State.combineUnit (s : State) (lvl fan : Nat) (avoid : List ModId) : Nat → Build → List Nat → Build × Nat
  | 0, b, kids => (b, kids.headD 0)
  | n + 1, b, kids =>
    if kids.length ≤ 1 then (b, kids.headD 0)
    else
      let (b, next) := (runsOf fan kids.length kids).foldl (fun (acc : Build × List Nat) run =>
        let (b, next) := acc
        let held := run.filterMap fun k => (b.nodes[k]?).map (·.module)
        let (m, c) := s.runNode lvl avoid held (b.draws.headD [])
        ({ nodes := b.nodes ++ [{ module := m, parent := none, children := run }], cost := b.cost + c, draws := b.draws.drop 1 },
          next ++ [b.nodes.length])) (b, [])
      s.combineUnit lvl fan avoid n b next

/-- Group places by the unit of their module, in order. -/
def unitsOf (f : ModId → Nat) (nodes : List CollNode) (kids : List Nat) : List (List Nat) :=
  let key := fun (k : Nat) => ((nodes[k]?).map fun x => f x.module).getD 0
  ((kids.map key).eraseDups).map fun u => kids.filter fun k => key k == u

/-- One level over its units: what stands for each. -/
def State.buildLevel (s : State) (lvl fan : Nat) (avoid : List ModId) (b : Build) (units : List (List Nat)) : Build × List Nat :=
  units.foldl (fun (acc : Build × List Nat) kids =>
    let (b, top) := s.combineUnit lvl fan avoid kids.length acc.1 kids
    (b, acc.2 ++ [top])) (b, [])

/-- Whether a module lies in the smallest level that holds every member. -/
def inLevel (ms : List ModId) (m : ModId) : Bool :=
  let sg := (ms.map idSuper).eraseDups
  let gr := (ms.map fun x => (idSuper x, idGroup x)).eraseDups
  if gr.length = 1 then gr == [(idSuper m, idGroup m)] else if sg.length = 1 then sg == [idSuper m] else true

/-- Give every node its parent. -/
def setParents (l : List CollNode) : List CollNode :=
  (numbered l).map fun e => { e.2 with parent := l.findIdx? fun y => y.children.contains e.1 }

/-- A shape for a group, and its cost (R461, R462). -/
def State.buildShape (s : State) (g : Group) : List CollNode × Nat :=
  let ms := g.modules
  let leaves : List CollNode := ms.map fun m => { module := m, parent := none, children := [] }
  let draws := runsOf 16 g.others.length (g.others.map (·.toNat))
  let b : Build := { nodes := leaves, cost := 0, draws := draws.map fun d => d.map fun x => (BitVec.ofNat 17 x : ModId) }
  let (b, l1) := s.buildLevel 0 g.fanMax g.avoid b (unitsOf (fun m => m.toNat / 16) b.nodes (List.range ms.length))
  let (b, l2) := s.buildLevel 1 g.fanMax g.avoid b (unitsOf idSuper b.nodes l1)
  let (b, _) := s.buildLevel 2 g.fanMax g.avoid b (unitsOf (fun _ => 0) b.nodes l2)
  let nodes := setParents b.nodes
  let hint := match g.rootHint with
    | some h => if inLevel ms h ∧ !g.avoid.contains h then some h else none
    | none => none
  (nodes.map fun x => match x.parent, hint, x.children with
    | none, some h, _ :: _ => { x with module := h }
    | _, _, _ => x, b.cost)

/-- Runs of a level over units of given sizes: how many nodes each unit's combination makes; n bounds the rounds. -/
def runCount (fan : Nat) : Nat → Nat → Nat
  | 0, _ => 0
  | n + 1, k => if k ≤ 1 then 0 else ceilDiv k fan + runCount fan n (ceilDiv k fan)

/-- The units in which a shape's runs lie, in the order in which buildShape meets them: a module of each unit and its level. -/
def runUnits (g : Group) : List (Nat × ModId) :=
  let ms := g.modules
  let each := fun (lvl : Nat) (f : ModId → Nat) (xs : List ModId) =>
    ((xs.map f).eraseDups).flatMap fun u =>
      let inU := xs.filter fun x => f x == u
      List.replicate (runCount g.fanMax inU.length inU.length) (lvl, inU.headD 0)
  let groups := ((ms.map fun m => m.toNat / 16).eraseDups).map fun k => (BitVec.ofNat 17 (16 * k) : ModId)
  let supers := ((ms.map idSuper).eraseDups).map fun k => (BitVec.ofNat 17 (512 * k) : ModId)
  each 0 (fun m => m.toNat / 16) ms ++ each 1 idSuper groups ++ each 2 (fun _ => 0) supers

/-- Draw one of the modules of a unit (R491); the LFSR's values are free (assumption log 3). -/
def State.drawModule (s : State) (lvl : Nat) (m : ModId) : ModId × State :=
  let r := s.routing
  let (M, G, P) := (r.mMinus1.toNat + 1, r.gMinus1.toNat + 1, r.pMinus1.toNat + 1)
  let (i, s) := s.drawFree (M * G * P)
  let mem := i % M
  let gr := i / M % G
  let sg := i / (M * G)
  (if lvl = 0 then modIdOf (idSuper m) (idGroup m) mem else if lvl = 1 then modIdOf (idSuper m) gr mem else modIdOf sg gr mem, s)

/-- The 16 other candidates of each run (R491), in order. -/
def State.drawOthers (s : State) (g : Group) : List ModId × State :=
  (runUnits g).foldl (fun (acc : List ModId × State) u =>
    (List.range 16).foldl (fun (acc : List ModId × State) _ =>
      let (m, s) := acc.2.drawModule u.1 u.2
      (acc.1 ++ [m], s)) acc) ([], s)

/-- Whether this module's TC3 stream to another is fenced (R167). -/
def State.fencedTo (s : State) (m : ModId) : Bool :=
  (s.routing.txStream { src := moduleAddr s.routing.moduleId 0, dst := moduleAddr m 0, tc := 3, form := 1 }).fenced

/-- Modules that hold, or are to hold, a record with given shapes (R433). -/
def Group.holders (g : Group) : List ModId := (g.coord :: g.modules ++ shapeModules g.nodes0 ++ shapeModules g.nodes1).eraseDups

/-! ### Aborts (R469, R473, R474) and destruction -/

/-- Complete the open parts of a group with a status. -/
def State.endOps (s : State) (r : Nat) (status : BitVec 8) : State :=
  match tget s.coll.groups r with
  | none => s
  | some g => g.ops.foldl (fun (s : State) o => o.parts.foldl (fun (s : State) p =>
      if p.done then s else s.endPart r o.seq p status) s) s

/-- R473 at one module: its open COLLECTIVEs end with member_lost, and the record is broken. -/
def State.abortHere (s : State) (r : Nat) (lost : ModId) : State :=
  match tget s.coll.groups r with
  | none => s
  | some g =>
    if g.state = 3 then s
    else
      let s := (s.endOps r 0x3b).modGroup r fun g => { g with state := 3, ops := [] }
      ({ s with coll := { s.coll with aborts := satInc s.coll.aborts } }).raise
        { source := 1296, unit := g.group.toNat, detail := leBytes 4 g.group.toNat ++ leBytes 4 lost.toNat }

/-- The coordinator aborts a group at every member module (R471, R473). -/
def State.abortGroup (s : State) (r : Nat) (lost : ModId) : State :=
  match tget s.coll.groups r with
  | none => s
  | some g =>
    let s := s.abortHere r lost
    (g.modules.filter fun m => m != s.routing.moduleId).foldl (fun (s : State) m => s.sendCtrl m { ctrlOf 0x8 g.group 0 with lost }) s

/-- R469: a member here is lost (its instance reset, or its host port vanished): the group is aborted here, and the coordinator
aborts it elsewhere. -/
def State.memberLost (s : State) (inst : Nat) : State :=
  let self := s.routing.moduleId
  let e := endpointOf self (s.inst inst).port.toNat inst
  s.coll.groups.foldl (fun (s : State) x =>
    if !x.2.members.contains e ∨ x.2.state = 3 then s
    else if x.2.coordinator then s.abortGroup x.1 self
    else (s.abortHere x.1 self).sendCtrl x.2.coord { ctrlOf 0x8 x.2.group 0 with lost := self }) s

/-! ### The end of an installation (R432, R463, R471) -/

/-- The end of an installation: the command's answer, a switch, or a restart (R432, R463, R471). -/
def State.installed (s : State) (r : Nat) : State :=
  match tget s.coll.groups r with
  | none => s
  | some g =>
    match g.refused with
    | some (m, e) =>
      if g.placing = 1 then
        let s := g.installed.foldl (fun (s : State) x => s.sendCtrl x (ctrlOf 0xb g.group 0)) s
        let s := match g.pendingCall with
          | some c => s.reply c 0x0601 (match e with
            | some e => .errD eRefusedByPeer (leBytes 4 m.toNat ++ leBytes 4 e.toNat)
            | none => .errD eUnreachable (leBytes 4 m.toNat))
          | none => s
        if g.installed.contains s.routing.moduleId then s.modGroup r fun g => { g with placing := 0, pendingCall := none }
        else { s with coll := { s.coll with groups := tdel s.coll.groups r } }
      else if g.placing = 3 then (s.modGroup r fun g => { g with placing := 0 }).abortGroup r m
      else s.modGroup r fun g => { g with placing := 0, refused := none }
    | none =>
      let s' := s.modGroup r fun g => { g with placing := 0, better := 0, newest := g.newSlot, avoid := [] }
      if g.placing = 1 then
        match g.pendingCall with
        | some c => (s'.modGroup r fun g => { g with pendingCall := none }).reply c 0x0601 .ok
        | none => s'
      else if g.placing = 2 then
        g.modules.foldl (fun (s : State) m => s.sendCtrl m { ctrlOf 0x1 g.group (g.nextSeq + 4) with slot := g.newSlot }) s'
      else
        g.holders.foldl (fun (s : State) m => s.sendCtrl m { ctrlOf 0x5 g.group g.recoverSeq with slot := g.newSlot, rc := g.rc }) s'

/-- A module's install is settled: accepted, refused with an endpoint, or unreachable (R167). -/
def State.ackIn (s : State) (r : Nat) (m : ModId) (refused : Option (Option Endpoint)) : State :=
  match tget s.coll.groups r with
  | none => s
  | some g =>
    if !g.installing.contains m then s
    else
      let s := s.modGroup r fun g =>
        { g with installing := g.installing.filter (· != m), installed := if refused.isNone then g.installed ++ [m] else g.installed
                 refused := match g.refused, refused with
                  | some x, _ => some x
                  | none, some e => some (m, e)
                  | none, none => none }
      if g.installing.all (· == m) then s.installed r else s

/-! ### Installing (R432, R463) -/

/-- The shape's multicast tree entry for a module (R159, R463): the root, the members of the module's group, and output ports
that the spec does not say how to choose: none where all members lie in the root's group, else free (assumption log 59). -/
def State.treeEntry (s : State) (g : Group) (nodes : List CollNode) (m : ModId) : Nat × State :=
  let root := rootOf nodes
  let oneGroup := g.modules.all fun x => x.toNat / 16 == root.toNat / 16
  let (ports, s) := if oneGroup then (0, s) else s.drawFree (2 ^ 48)
  (packFields [(48, ports), (16, groupMask g.modules m), (17, root.toNat), (1, 1)], s)

/-- Send the installs of a new shape, and destroy at the modules that the overwritten shape leaves without a part. One offered to a fenced
stream is unreachable at once (R167). -/
def State.sendInstalls (s : State) (r : Nat) (g : Group) (slot : Bool) (nodes : List CollNode) : State :=
  let old := g.holders
  let g := if slot then { g with nodes1 := nodes } else { g with nodes0 := nodes }
  let concerned := (g.coord :: g.modules ++ shapeModules nodes).eraseDups
  let gone := old.filter fun m => !g.holders.contains m
  let g := { g with installing := concerned, installed := [], refused := none, newSlot := slot, waiting := [] }
  let s := { s with coll := { s.coll with groups := tset s.coll.groups r g } }
  let s := gone.foldl (fun (s : State) m => s.sendCtrl m (ctrlOf 0xb g.group 0)) s
  let s := concerned.foldl (fun (s : State) m =>
    let (trees, s) := if g.tree slot = 0 then ([], s)
      else
        let (e, s) := s.treeEntry g nodes m
        ([(g.tree slot, BitVec.ofNat 128 e)], s)
    let ins : CollInstall :=
      { members := g.members, coord := g.coord, tc := g.tc, treeA := g.treeA, treeB := g.treeB, pinned := g.pinned, fanMax := g.fanMax
        slot, nodes, trees }
    s.sendCtrl m { ctrlOf 0 g.group 0 with slot, rc := g.rc, install := some ins }) s
  (concerned.filter s.fencedTo).foldl (fun (s : State) m => s.ackIn r m (some none)) s

/-- Place the shape that a coordinator's group waits for, and install it (R432, R463, R471). -/
def State.placeShape (s : State) (r : Nat) : State :=
  match tget s.coll.groups r with
  | none => s
  | some g =>
    let slot := if g.placing = 1 then false else g.newSlot
    let (nodes, cost) := s.buildShape g
    let old := if g.placing = 1 then noPlace else (rootOf (g.nodes g.slot)).toNat
    let reason := if g.placing = 1 then 0 else if g.placing = 2 then 1 else 5
    let s := s.logPlace 6 reason g.group.toNat old (rootOf nodes).toNat 0 0
    s.sendInstalls r { g with liveCost := cost, placedAt := s.time.now } slot nodes

/-- A Fleso query for a module's placement summary (R490). -/
def State.querySummary (s : State) (m : ModId) : State :=
  let p := s.agentPacket 0x10 m 0 0 (requestBytes { via := .debug, opcode := 0x0606, seq := 0 })
  ({ s with striker := { s.striker with queried := (s.striker.queried.filter (· != m)) ++ [m] } }).sendTc3 false p

/-- Begin to place a shape: ask the modules whose state is wanted, or place at once when all is known or Striker is frozen. -/
def State.beginPlacing (s : State) (r placing : Nat) : State :=
  match tget s.coll.groups r with
  | none => s
  | some g =>
    let (others, s) := if s.striker.frozen then ([], s) else s.drawOthers g
    let want := ((g.modules ++ others).eraseDups).filter fun m =>
      m != s.routing.moduleId && !g.avoid.contains m && s.routing.valid m && (s.summaryOf m).isNone
    let want := if s.striker.frozen then [] else want
    let s := s.modGroup r fun g => { g with placing, others, waiting := want }
    let s := want.foldl (fun (s : State) m => if s.striker.queried.contains m then s else s.querySummary m) s
    if want.isEmpty then s.placeShape r else s

/-- A module's summary has come, or will not: the groups that waited for it alone go on. -/
def State.summaryKnown (s : State) (m : ModId) : State :=
  s.coll.groups.foldl (fun (s : State) e =>
    if e.2.waiting.contains m then
      let s := s.modGroup e.1 fun g => { g with waiting := g.waiting.filter (· != m) }
      if e.2.waiting.all (· == m) then s.placeShape e.1 else s
    else s) s

/-! ### Group commands (R430-R435, R478) -/

/-- R430-R432: create a group; its answer follows the last acknowledgement. -/
def execGroupCreate (c : Call) (group : BitVec 24) (listAddr : Word) (count : Nat) (tc : BitVec 2) (treeA treeB : BitVec 13)
    (rootHint : Option ModId) (fanMax : Nat) (pinned : Bool) (s : State) : Host.Outcome State Fault Refusal :=
  s.fleso c 0x0601 (·.isM) fun _ s =>
    let a := listAddr.toNat
    let list := (List.range count).map fun i => leNat (memRead s.mem (a + 4 * i) 4)
    let rising := (list.zip (list.drop 1)).all fun e => e.1 < e.2
    let ms : List Endpoint := list.map fun v => BitVec.ofNat 29 v
    if group = 0 then (s, .bad 0)
    else if count < 1 ∨ 524288 < count then (s, .bad 4)
    else if a % 4096 ≠ 0 ∨ Config.memBytes < a + 4 * count ∨ !rising ∨ list.any (fun v => 2 ^ 29 ≤ v) ∨
        ms.any (fun e => !s.routing.valid (addrModule e)) then (s, .bad 8)
    else if tc = 3 then (s, .bad 16)
    else if fanMax < 2 ∨ 64 < fanMax then (s, .bad 17)
    else if (treeA = 0) ≠ (treeB = 0) ∨ (treeA = treeB ∧ treeA ≠ 0) then (s, .bad 24)
    else if ms.all (fun e => addrModule e != s.routing.moduleId) then (s, .bad 8)
    else if (s.groupRec group).isSome then (s, .err eWrongState)
    else
      match freeKey s.coll.groups Config.groupMax with
      | none => (s, .err ePoolExhausted)
      | some r =>
        let g : Group :=
          { group, coordinator := true, coord := s.routing.moduleId, members := ms, tc, treeA, treeB, pinned, fanMax, rootHint
            pendingCall := some c }
        (({ s with coll := { s.coll with groups := tset s.coll.groups r g } }).beginPlacing r 1, .later)

/-- R435: destroy a group. -/
def execGroupDestroy (c : Call) (group : BitVec 24) (s : State) : Host.Outcome State Fault Refusal :=
  s.fleso c 0x0602 (·.isM) fun _ s =>
    match s.groupRec group with
    | none => (s, .err eNoObject)
    | some (_, g) =>
      if !g.coordinator || g.pendingCall.isSome then (s, .err eWrongState)
      else (g.holders.foldl (fun (s : State) m => s.sendCtrl m (ctrlOf 0xb group 0)) s, .ok)

/-- R478: set COLL.CFG within its ranges. -/
def execCollCfg (c : Call) (word : Word) (s : State) : Host.Outcome State Fault Refusal :=
  s.fleso c 0x0603 (·.isM) fun _ s =>
    let t := bits word 19 0
    let m := bits word 35 20
    match firstBad [(decide (t < 10 ∨ 1000000 < t), 0), (decide (8192 < m), 20), (bits word 63 36 != 0, 36)] with
    | some o => (s, .badAt o)
    | none => ({ s with coll := { s.coll with timeoutUs := BitVec.ofNat 20 t, storeMib := BitVec.ofNat 16 m } }, .ok)

/-! ### Acceptance (R434) -/

/-- Whether a COLL_CTRL packet is accepted, for a group whose record is given. An abort that names its own sender, a member module,
is a report to the coordinator (assumption log 60). -/
def ctrlAccepted (g : Option Group) (from_ : ModId) (c : CollCtrl) : Bool :=
  match g with
  | none => c.kind == 0 && (c.install.map (·.coord)) == some from_
  | some g =>
    if c.kind = 0 ∨ c.kind = 1 ∨ c.kind = 5 ∨ c.kind = 0xb then g.coord == from_
    else if c.kind = 8 then g.coord == from_ || (g.coordinator && c.lost == from_ && g.modules.contains from_)
    else c.kind.toNat ≤ 0xa && (g.holders.contains from_ || g.installing.contains from_)

/-- Take a COLL_CTRL packet of one kind: the module it comes from, its content and the record; none when it waits for nothing here,
or is discarded, counted and noted (R434). -/
def State.ctrlRow (s : State) (kind : BitVec 4) (p : Packet) (f : State → ModId → CollCtrl → State) : Host.Outcome State Fault Refusal :=
  if s.quench.halted || !s.hasArrival p || p.pktType != 0x0a then .next s
  else
    match p.ctrl with
    | none => .next s
    | some c =>
      let known := c.kind.toNat ≤ 0xb
      if known ∧ c.kind ≠ kind then .next s
      else
        let s := s.takeArrival p
        let from_ := addrModule p.src
        if known ∧ ctrlAccepted ((s.groupRec c.group).map (·.2)) from_ c then .next (f s from_ c)
        else .next (({ s with coll := { s.coll with ctrlDiscards := s.coll.ctrlDiscards + 1 } }).raise { source := 1301 })

/-! ### Install, switch, destroy (R432, R433, R435, R463) -/

/-- The endpoint that makes a member module refuse an install: one listed on it that is no existing instance under its host
port (R432). -/
def State.absentMember (s : State) (members : List Endpoint) : Option Endpoint :=
  members.find? fun e => addrModule e == s.routing.moduleId &&
    ((s.inst (addrInst e)).state == .free || (s.inst (addrInst e)).port.toNat != addrPort e)

/-- Acknowledge an install (assumption log 57). -/
def State.ackInstall (s : State) (to_ : ModId) (g : BitVec 24) (refused : Option Endpoint) : State :=
  s.sendCtrl to_ { ctrlOf 0x4 g 0 with ack := some refused }

/-- R432, R433, R463: an install makes or updates a group record, or is refused. -/
def execCollInstall (p : Packet) (s : State) : Host.Outcome State Fault Refusal :=
  s.ctrlRow 0 p fun s from_ c =>
    match c.install with
    | none => s
    | some ins =>
      let mine := ins.members.filter fun e => addrModule e == s.routing.moduleId
      match s.absentMember ins.members with
      | some e => s.ackInstall from_ c.group (some e)
      | none =>
        let rec_ := match s.groupRec c.group with
          | some (r, g) => some (r, g)
          | none => (freeKey s.coll.groups Config.groupMax).map fun r =>
            (r, ({ group := c.group, coord := ins.coord, members := ins.members, tc := ins.tc, treeA := ins.treeA, treeB := ins.treeB
                   pinned := ins.pinned, fanMax := ins.fanMax, rc := c.rc, slot := ins.slot } : Group))
        match rec_ with
        | none => s.ackInstall from_ c.group (some (mine.headD 0))
        | some (r, g) =>
          let g := if ins.slot then { g with nodes1 := ins.nodes, newest := true } else { g with nodes0 := ins.nodes, newest := false }
          let s := { s with coll := { s.coll with groups := tset s.coll.groups r g },
                            routing := { s.routing with trees := ins.trees.foldl (fun (t : Table (BitVec 128)) (e : Nat × BitVec 128) => tset t e.1 e.2) s.routing.trees } }
          s.ackInstall from_ c.group none

/-- R463: operations k and later use the new slot. -/
def execCollSwitch (p : Packet) (s : State) : Host.Outcome State Fault Refusal :=
  s.ctrlRow 1 p fun s _ c =>
    match s.groupRec c.group with
    | none => s
    | some (r, _) => s.modGroup r fun g =>
      { g with slot := g.slotFor (c.opSeq - 1), switchAt := some (c.opSeq, c.slot) }

/-- R435: the record is freed, and pending COLLECTIVEs complete with group_closed. -/
def execCollDestroy (p : Packet) (s : State) : Host.Outcome State Fault Refusal :=
  s.ctrlRow 0xb p fun s _ c =>
    match s.groupRec c.group with
    | none => s
    | some (r, _) =>
      let s := s.endOps r 0x3d
      { s with coll := { s.coll with groups := tdel s.coll.groups r } }

/-- R473: an abort reaches this module; the coordinator passes a member module's own on. -/
def execCollAbort (p : Packet) (s : State) : Host.Outcome State Fault Refusal :=
  s.ctrlRow 0x8 p fun s _ c =>
    match s.groupRec c.group with
    | none => s
    | some (r, g) => if g.coordinator then s.abortGroup r c.lost else s.abortHere r c.lost

/-! ### Done and close (R450) -/

/-- R450: a child is done. -/
def execCollDone (p : Packet) (s : State) : Host.Outcome State Fault Refusal :=
  s.ctrlRow 0x9 p fun s from_ c =>
    match s.groupRec c.group with
    | none => s
    | some (r, g) =>
      match g.op c.opSeq with
      | none => s
      | some o =>
        let l := g.nodes o.slot
        let self := s.routing.moduleId
        match (numbered l).find? fun e => e.2.module == from_ && !o.doneFrom.contains e.1 &&
            (e.2.parent.bind fun q => (l[q]?).map (·.module)) == some self with
        | none => s
        | some e => s.collDone r c.opSeq l.length e.1

/-- R450: senders free the packets they kept. -/
def execCollClose (p : Packet) (s : State) : Host.Outcome State Fault Refusal :=
  s.ctrlRow 0xa p fun s _ c =>
    match s.groupRec c.group with
    | none => s
    | some (r, _) => s.closeOp r c.opSeq

/-! ### Stalls and probes (R470) -/

/-- Count a stall (R478). -/
def State.countStall (s : State) : State := { s with coll := { s.coll with stallReports := satInc s.coll.stallReports } }

/-- R470: a member module that has contributed reports a stall, every coll_timeout_us. -/
def execCollTimeout (group : BitVec 24) (opSeq : BitVec 16) (now : Ticks) (s : State) : Host.Outcome State Fault Refusal :=
  let s := s.advance now
  match s.groupRec group with
  | none => .next s
  | some (r, g) =>
    match g.op opSeq with
    | none => .next s
    | some o =>
      if s.quench.halted || !o.contributed || o.parts.all (·.done) || decide ((s.time.now - o.startedAt).toNat < us s.coll.timeoutUs.toNat) then .next s
      else
        let s := s.modOp r opSeq fun o => { o with startedAt := s.time.now, stalled := true }
        .next (s.countStall.sendCtrl g.coord (ctrlOf 0x2 group opSeq))

/-- recover(k) of R471 for a module found lost, or a partial lost with none (R502): an abort when it holds a member, else the final
query. A member module that the query cannot reach is lost too (R167). -/
def State.recover (s : State) (r : Nat) (seq : BitVec 16) (lost : Option ModId) : State :=
  match tget s.coll.groups r with
  | none => s
  | some g =>
    if g.state = 3 then s
    else
      match (g.modules.filter fun x => lost == some x || s.fencedTo x).head? with
      | some x => s.abortGroup r x
      | none =>
      let again := g.state == 2
      let s := s.modGroup r fun g =>
        { g with state := 2, rc := if again then g.rc else g.rc + 1, recoverSeq := if again then g.recoverSeq else seq
                 avoid := (lost.toList ++ g.avoid).eraseDups, finalsDue := if again then g.finalsDue else g.modules
                 finalsHeld := if again then g.finalsHeld else [] }
      if again then s
      else g.modules.foldl (fun (s : State) x => s.sendCtrl x (ctrlOf 0x6 g.group seq)) s

/-- Probe modules that have not been probed for an operation; one to which the stream is fenced is lost at once (R470). -/
def State.probe (s : State) (r : Nat) (seq : BitVec 16) (ms : List ModId) : State :=
  match s.collOp r seq with
  | none => s
  | some (g, o) =>
    let new := (ms.eraseDups).filter fun m => !o.probes.contains m
    let s := s.modOp r seq fun o => { o with probes := o.probes ++ new }
    let s := new.foldl (fun (s : State) m => s.sendCtrl m (ctrlOf 0x3 g.group seq)) s
    match new.find? s.fencedTo with
    | some m => s.recover r seq (some m)
    | none => s

/-- A node has lost partials of an operation with a cell (R502): it discards those that it holds, and the coordinator restarts the operation
(R471). No kind of COLL_CTRL says so; the node sends a stall marked so (DESIGN CHOICE, assumption log 124). -/
def State.partialLost (s : State) (r : Nat) (seq : BitVec 16) : State :=
  match s.collOp r seq with
  | none => s
  | some (g, _) =>
    let s := s.modOp r seq fun o => { o with inputs := [], results := [] }
    if g.coordinator then s.recover r seq none else s.sendCtrl g.coord { ctrlOf 0x2 g.group seq with partialLost := true }

/-- R470, R502: the coordinator counts a stall and probes the root and every node of the shape. -/
def execCollStall (p : Packet) (s : State) : Host.Outcome State Fault Refusal :=
  s.ctrlRow 0x2 p fun s _ c =>
    match s.groupRec c.group with
    | none => s
    | some (r, g) =>
      if !g.coordinator then s
      else
        let s := s.countStall.ensureOp r c.opSeq (g.slotFor c.opSeq)
        let l := g.nodes (((g.op c.opSeq).map (·.slot)).getD (g.slotFor c.opSeq))
        let s := s.modOp r c.opSeq fun o => { o with probes := [] }
        if c.partialLost then s.recover r c.opSeq none
        else s.probe r c.opSeq (rootOf l :: (l.filter fun x => !x.children.isEmpty).map (·.module))

/-- The modules of the children that the nodes here still await for an operation (R470). -/
def awaited (g : Group) (self : ModId) (slot : Bool) (o : Option CollOp) : List ModId :=
  let l := g.nodes slot
  let segs := (o.bind (·.params)).map fun par => segCount (par.total g.members.length)
  (((numbered l).flatMap fun e =>
    if e.2.module ≠ self then []
    else e.2.children.filterMap fun k =>
      let got := match o, segs with
        | some o, some n => (List.range n).all fun i => o.inputs.any fun y => y.node == e.1 && y.child == k && y.segment == i && y.stamp.isSome
        | _, _ => false
      if got then none else (l[k]?).map (·.module))).eraseDups

/-- R470: a probed module answers. -/
def execCollProbe (p : Packet) (s : State) : Host.Outcome State Fault Refusal :=
  s.ctrlRow 0x3 p fun s from_ c =>
    match s.groupRec c.group with
    | none => s
    | some (_, g) =>
      let o := g.op c.opSeq
      let slot := (o.map (·.slot)).getD (g.slotFor c.opSeq)
      s.sendCtrl from_ { ctrlOf 0x4 c.group c.opSeq with modules := awaited g s.routing.moduleId slot o }

/-! ### Recovery (R471, R472) -/

/-- What R471 does once every final answer is in: spread the final segments, place a new shape in the other slot. -/
def State.recoverOn (s : State) (r : Nat) : State :=
  match tget s.coll.groups r with
  | none => s
  | some g =>
    let segs := nunion [] (g.finalsHeld.flatMap (·.2))
    let s := segs.foldl (fun (s : State) i =>
      let have_ := (g.finalsHeld.filter fun e => e.2.contains i).map (·.1)
      let holder := have_.foldl (fun (a : ModId) b => if b.toNat < a.toNat then b else a) (have_.headD 0)
      let lacking := g.modules.filter fun m => !have_.contains m
      if lacking.isEmpty then s
      else s.sendCtrl holder { ctrlOf 0x7 g.group g.recoverSeq with segs := [i], modules := lacking }) s
    let slot := ((g.op g.recoverSeq).map fun o => !o.slot).getD !g.slot
    (s.modGroup r fun g => { g with newSlot := slot, finalsHeld := [] }).beginPlacing r 3

/-- R471: a member module reports the segments it holds final. A reduce's are at root_rank's module. -/
def execCollFinalQuery (p : Packet) (s : State) : Host.Outcome State Fault Refusal :=
  s.ctrlRow 0x6 p fun s from_ c =>
    match s.groupRec c.group with
    | none => s
    | some (_, g) =>
      let segs := match g.op c.opSeq with
        | some o =>
          match o.params with
          | some par =>
            let (lo, hi) := g.ranksOn s.routing.moduleId
            if par.op = 4 ∨ par.op = 6 ∨ (par.op = 2 ∧ !(decide (lo ≤ par.root) && decide (par.root < hi))) then []
            else o.finals.map (·.1)
          | none => []
        | none => []
      s.sendCtrl from_ { ctrlOf 0x7 c.group c.opSeq with segs }

/-- R471: the coordinator receives the final segments held; a member module told by it sends segments to those that lack
them. -/
def execCollFinalAnswer (p : Packet) (s : State) : Host.Outcome State Fault Refusal :=
  s.ctrlRow 0x7 p fun s from_ c =>
    match s.groupRec c.group with
    | none => s
    | some (r, g) =>
      if !c.modules.isEmpty then
        match g.op c.opSeq with
        | none => s
        | some o => c.segs.foldl (fun (s : State) i =>
            match tget o.finals i with
            | none => s
            | some fin =>
              let off := ((o.params.map fun par => par.offset (4096 * i))).getD 0
              (c.modules.filter (· != s.routing.moduleId)).foldl (fun (s : State) m => s.collSend r c.opSeq m none 1 i off false fin.bytes fin.poisoned) s) s
      else if !g.coordinator || g.recoverSeq != c.opSeq || !g.finalsDue.contains from_ then s
      else
        let s := s.modGroup r fun g =>
          { g with finalsDue := g.finalsDue.filter (· != from_), finalsHeld := g.finalsHeld ++ [(from_, c.segs)] }
        if g.finalsDue.all (· == from_) then s.recoverOn r else s

/-- R472: a restart moves an operation and the later open ones to a slot. Members that are not done are read again; what they
had is sent again but for segments held final. -/
def execCollRestart (p : Packet) (s : State) : Host.Outcome State Fault Refusal :=
  s.ctrlRow 0x5 p fun s _ c =>
    match s.groupRec c.group with
    | none => s
    | some (r, g) =>
      if c.rc.toNat ≤ g.rc.toNat ∧ !(g.coordinator ∧ g.state = 2) then s
      else
        let moved := fun (o : CollOp) => serialLe c.opSeq o.seq
        let s := s.modGroup r fun g =>
          { g with rc := c.rc, slot := c.slot, switchAt := none, state := if g.state = 2 then 1 else g.state
                   ops := g.ops.map fun o => if !moved o then o else
                     let fresh : CollOp :=
                       { o with slot := c.slot, inputs := [], outs := [], statusUp := [], results := [], downs := [], kept := [], resent := [], badSeals := [], sealed := []
                                doneFrom := [], restarted := true, stalled := false, probes := [], contributed := false
                                parts := o.parts.map fun p => if p.done then { p with read := true }
                                  else if dLen p.line = 0 ∧ s.instantCome (startAt p.line) then p else { p with read := false, data := [] } }
                     let all := match o.params with
                       | some par => (List.range (segCount (par.total g.members.length))).all fun i => o.isFinal par i
                       | none => false
                     if all then { fresh with contributed := o.contributed, parts := o.parts } else fresh }
        let s := { s with coll := { s.coll with restarts := satInc s.coll.restarts } }
        let ops := (((tget s.coll.groups r).map (·.ops)).getD []).filter moved
        ops.foldl (fun (s : State) o => ((s.contribute r o.seq .ok).collStatus r o.seq).checkDone r o.seq) s

/-- R470, R432: a probe answer, or the acknowledgement of an install. -/
def execCollProbeAnswer (p : Packet) (s : State) : Host.Outcome State Fault Refusal :=
  s.ctrlRow 0x4 p fun s from_ c =>
    match s.groupRec c.group with
    | none => s
    | some (r, g) =>
      if !g.coordinator then s
      else
        match c.ack with
        | some refused => s.ackIn r from_ (refused.map some)
        | none => s.probe r c.opSeq c.modules

/-- The coordinator's TC3 stream to a module is fenced (R470, R471): operations whose stall probed it are recovered, an install to
it is refused with no endpoint, a final query to it ends. At a member module, R474. -/
def State.collFenced (s : State) (m : ModId) : State :=
  s.coll.groups.foldl (fun (s : State) e =>
    let g := e.2
    if g.coordinator then
      let s := match g.ops.find? fun o => o.probes.contains m with
        | some o => s.recover e.1 o.seq (some m)
        | none => s
      let s := s.ackIn e.1 m (some none)
      if g.finalsDue.contains m then s.abortGroup e.1 m else s
    else if g.coord = m ∧ g.state ≠ 3 ∧ g.ops.any (fun o => o.stalled && o.parts.any fun p => !p.done) then s.abortHere e.1 m
    else s) s

/-! ### Re-placement between operations (R463, R464, R492) -/

/-- R492: compare a fresh shape's cost with the live shape's every 10 ms; two in a row re-place the tree, at most once per
100 ms, when no operation is open on the slot to be overwritten (R464). -/
def execShapeCompare (group : BitVec 24) (now : Ticks) (newCost : Nat) (s : State) : Host.Outcome State Fault Refusal :=
  let s := s.advance now
  match s.groupRec group with
  | none => .next s
  | some (r, g) =>
    if s.quench.halted || !g.coordinator || g.pinned || g.state != 1 || g.placing != 0 || !g.installing.isEmpty || s.striker.frozen then .next s
    else
      let better := decide (newCost * 100 ≤ g.liveCost * (100 - s.striker.replaceMarginPct.toNat)) && decide (newCost < g.liveCost)
      let run := if better then g.better + 1 else 0
      let s := s.modGroup r fun g => { g with better := run }
      let free := !(g.slotFor (g.nextSeq + 4))
      if 2 ≤ run ∧ ms 100 ≤ (s.time.now - g.placedAt).toNat ∧ !(g.ops.any fun o => o.slot == free) then
        .next ((s.modGroup r fun g => { g with newSlot := free, better := 0 }).beginPlacing r 2)
      else .next s

end Sys2Proof.Machine
end

