-- ==== Sys2Proof/Machine/Report.lean ====
section
/-! DEFINITION. Report-segment areas (R265), staging buffers and data references (R627-R629), the sample ring (R200-R202), the
placement log's command (R505), FAULT packets (R743) and the resends of TC3 (R167). -/

namespace Sys2Proof.Machine

open Sys2Proof

/-! ### Areas of the report segment (R265, R603) -/

/-- First fit of n bytes among used (offset, length) stretches of a segment, in units of 4 KiB (assumption log 61). -/
def firstFit (used : List (Nat × Nat)) (unit size n : Nat) : Option Nat :=
  let starts := 0 :: used.map fun u => ceilDiv (u.1 + u.2) unit * unit
  let free := fun (a : Nat) => a + n ≤ size && used.all fun u => u.1 + u.2 ≤ a || a + n ≤ u.1
  starts.foldl (fun (b : Option Nat) a => if free a then (match b with
    | some x => some (min x a)
    | none => some a) else b) none

/-- Take an area of n zeroed bytes for an arrival point: its offset. -/
def State.allocArea (s : State) (via : Arrival) (n : Nat) : Option (Nat × State) :=
  (firstFit (s.hearth.areas.map fun a => (a.offset, a.length)) 4096 Config.segBytes n).map fun o =>
    (o, { s.zeroMem (reportBase + o) n with hearth := { s.hearth with areas := s.hearth.areas ++ [{ owner := via, offset := o, length := n }] } })

/-- Give an area back. -/
def State.freeArea (s : State) (offset : Nat) : State :=
  { s with hearth := { s.hearth with areas := s.hearth.areas.filter fun a => a.offset != offset } }

/-- R265: REPORT_READ. -/
def execReportRead (c : Call) (offset : BitVec 32) (length : Nat) (s : State) : Host.Outcome State Fault Refusal :=
  s.fleso c 0x0008 (·.isMHI) fun _ s =>
    let o := offset.toNat
    if length < 1 ∨ 992 < length then (s, .bad 4)
    else if s.hearth.areas.any fun a => sameArrival a.owner c.via && decide (a.offset ≤ o) && decide (o + length ≤ a.offset + a.length) then
      (s, .res (memRead s.mem (reportBase + o) length))
    else (s, .err eNoAuthority)

/-! ### Staging and data references (R627-R629) -/

/-- Base of the staging segment (R603). -/
def stagingBase : Nat := 0x10000000

/-- The head of an arrival point. -/
def Arrival.head : Arrival → Option Nat
  | .mailbox f _ => some f.port
  | _ => none

/-- The head masks of a segment (R264): an unlisted one is internal. -/
def State.exposed (s : State) (seg : Nat) : BitVec 4 := tgetD s.segments seg 0

/-- Whether a data reference is valid for a caller (R627). -/
def State.refOk (s : State) (via : Arrival) (r : DataRef) : Bool :=
  let a := r.addr.toNat
  let n := r.len.toNat
  let head := match Arrival.head via with
    | some h => decide (0 < n) && decide (a + n ≤ Config.memBytes) &&
        (List.range ((a + n - 1) / Config.segBytes + 1 - a / Config.segBytes)).all fun i => bit (s.exposed (a / Config.segBytes + i)) h
    | none => false
  let staged := s.hearth.staging.any fun e => sameArrival e.2.owner via && decide (e.2.addr ≤ a) && decide (a + n ≤ e.2.addr + e.2.mib * 1048576)
  r.zero == 0 && a % 64 == 0 && (head || staged)

/-- The bytes that a reference names. -/
def State.refBytes (s : State) (r : DataRef) : List Byte := memRead s.mem r.addr.toNat r.len.toNat

/-- R628: open a staging buffer. -/
def execStageOpen (c : Call) (mib : Nat) (s : State) : Host.Outcome State Fault Refusal :=
  s.fleso c 0x0004 (·.isMH) fun _ s =>
    if mib < 1 ∨ 64 < mib then (s, .bad 0)
    else
      match freeKey s.hearth.staging 32, firstFit (s.hearth.staging.map fun e => (e.2.addr - stagingBase, e.2.mib * 1048576)) 1048576 Config.segBytes (mib * 1048576) with
      | some h, some o =>
        ({ s with hearth := { s.hearth with staging := tset s.hearth.staging h { owner := c.via, addr := stagingBase + o, mib } } },
          .res (leBytes 8 h ++ leBytes 8 (stagingBase + o)))
      | _, _ => (s, .pool 0xff)

/-- A staging buffer that a caller holds. -/
def State.buffer (s : State) (via : Arrival) (handle : Nat) : Option Staging :=
  (tget s.hearth.staging handle).filter fun b => sameArrival b.owner via

/-- R629: copy argument bytes into a staging buffer. -/
def execStageWrite (c : Call) (handle : Nat) (offset : BitVec 32) (data : List Byte) (s : State) : Host.Outcome State Fault Refusal :=
  s.fleso c 0x0005 (·.isMH) fun _ s =>
    match s.buffer c.via handle with
    | none => (s, .err eNoObject)
    | some b =>
      if data.isEmpty ∨ 1000 < data.length then (s, .badAt 8)
      else if b.mib * 1048576 < offset.toNat + data.length then (s, .badAt 4)
      else (s.storeMem (b.addr + offset.toNat) data false, .ok)

/-- R628: free a staging buffer. -/
def execStageClose (c : Call) (handle : Nat) (s : State) : Host.Outcome State Fault Refusal :=
  s.fleso c 0x0006 (·.isMH) fun _ s =>
    match s.buffer c.via handle with
    | none => (s, .err eNoObject)
    | some _ => ({ s with hearth := { s.hearth with staging := tdel s.hearth.staging handle } }, .ok)

/-! ### Sampling (R200-R202) -/

/-- A queue_id of R201. -/
def qidOk (q : BitVec 32) : Bool :=
  let n := bits q 27 0
  match bits q 31 28 with
  | 0 => n / 4 < 1024 && n % 4 < 3
  | 1 => n < 2048
  | 2 => n < 4
  | _ => false

/-- R200-R202: select queues for sampling and place the sample ring; the lost count returned starts over with a new ring. -/
def execSampling (c : Call) (queues : List (BitVec 32)) (epochNs : Nat) (enable : Bool) (ringEntries : Nat) (s : State) :
    Host.Outcome State Fault Refusal :=
  s.fleso c 0x0108 (·.isMH) fun _ s =>
    if queues.any fun q => !qidOk q then (s, .bad 16)
    else if epochNs < 1000 ∨ 1000000000 < epochNs then (s, .bad 0)
    else if ringEntries = 0 then
      if enable ∧ s.sched.sampleRing.isNone then (s, .bad 4)
      else
        let off := (s.sched.sampleRing.map (·.1)).getD 0
        ({ s with sched := { s.sched with epochNs := BitVec.ofNat 30 epochNs, sampleEnable := enable, sampleQueues := queues, sampleMax := s.standing queues,
                                          sampleLast := s.time.now } }, .res (leBytes 8 off ++ leBytes 8 s.sched.sampleLost))
    else
      let s0 := match s.sched.sampleRing with
        | some (o, _) => s.freeArea o
        | none => s
      match s0.allocArea c.via (32 * ringEntries) with
      | none => (s, .pool 0xff)
      | some (o, s) =>
        let lost := s.sched.sampleLost
        ({ s with sched := { s.sched with
            epochNs := BitVec.ofNat 30 epochNs, sampleEnable := enable, sampleQueues := queues, sampleRing := some (o, ringEntries),
            sampleCount := 0, sampleLost := 0, sampleMax := s.standing queues, sampleLast := s.time.now } },
          .res (leBytes 8 o ++ leBytes 8 lost))

/-! ### The placement log and summaries (R490, R505, R506) -/

/-- R505: enable the placement log and place its ring. -/
def execPlaceLog (c : Call) (enable : Bool) (ringEntries : Nat) (s : State) : Host.Outcome State Fault Refusal :=
  s.fleso c 0x0605 (·.isM) fun _ s =>
    if ringEntries = 0 then
      if enable ∧ s.striker.logRing.isNone then (s, .bad 4)
      else ({ s with striker := { s.striker with logEnable := enable } }, .res (leBytes 8 ((s.striker.logRing.map (·.1)).getD 0)))
    else if 2 ^ Nat.log2 ringEntries ≠ ringEntries then (s, .bad 4)
    else
      let s0 := match s.striker.logRing with
        | some (o, _) => s.freeArea o
        | none => s
      match s0.allocArea c.via (64 + 32 * ringEntries) with
      | none => (s, .pool 0xff)
      | some (o, s) =>
        ({ s with striker := { s.striker with logEnable := enable, logRing := some (o, ringEntries), log := [] } }, .res (leBytes 8 o))

/-- R490: this module's placement summary. -/
def execPlaceSummary (c : Call) (s : State) : Host.Outcome State Fault Refusal :=
  s.fleso c 0x0606 (fun a => a.isM || (a == .fabric && s.fabricMay 0x0606)) fun _ s => (s, .res s.summaryBytes)

/-- R506: set STRIKER.CFG within its ranges. -/
def execStrikerCfg (c : Call) (word : Word) (s : State) : Host.Outcome State Fault Refusal :=
  s.fleso c 0x0607 (·.isM) fun _ s =>
    let f := fun hi lo => bits word hi lo
    match firstBad [(decide (f 9 0 < 10 ∨ 1000 < f 9 0), 0), (decide (f 16 10 < 1 ∨ 100 < f 16 10 ∨ f 16 10 ≤ f 23 17), 10),
        (decide (f 45 32 < 1 ∨ 10000 < f 45 32), 32), (decide (f 52 46 < 1 ∨ 100 < f 52 46), 46), (decide (100 < f 59 53), 53),
        (f 63 60 != 0, 60)] with
    | some o => (s, .badAt o)
    | none =>
      ({ s with striker := { s.striker with
          periodUs := BitVec.ofNat 10 (f 9 0), hotPct := BitVec.ofNat 7 (f 16 10), coolPct := BitVec.ofNat 7 (f 23 17),
          migPerEpoch := BitVec.ofNat 8 (f 31 24), minDwellMs := BitVec.ofNat 14 (f 45 32),
          replaceMarginPct := BitVec.ofNat 7 (f 52 46), reservePct := BitVec.ofNat 7 (f 59 53) } }, .ok)

/-- R619, R490: the response to a forwarded command goes to its caller; a placement summary goes to Striker. -/
def execMgmtResp (port : Nat) (p : Packet) (s : State) : Host.Outcome State Fault Refusal :=
  if !s.routing.arrivals.contains (port, p) || p.pktType != 0x11 then .next s
  else
    let s := s.takeArrival p
    let r := respOf p.payload
    let m := addrModule p.src
    match s.hearth.running.find? fun x => x.1.forward && x.1.target == m && x.1.seq == r.seq && x.1.opcode == r.opcode with
    | some x =>
      .next ({ s with hearth := { s.hearth with running := s.hearth.running.erase x } }.respond x.1.via r)
    | none =>
      if r.opcode = 0x0606 ∧ s.striker.queried.contains m then
        let s := { s with striker := { s.striker with
          queried := s.striker.queried.filter (· != m),
          summaries := (s.striker.summaries.filter fun (e : ModId × Ticks × List Byte) => e.1 != m) ++ [(m, s.time.now, r.result)] } }
        .next (s.summaryKnown m)
      else .next s

/-- A module asked for its summary is no candidate. -/
def State.noSummary (s : State) (m : ModId) : State :=
  if s.striker.queried.contains m then
    ({ s with striker := { s.striker with queried := s.striker.queried.filter (· != m) } }).summaryKnown m
  else s

/-- R490: a module has not answered within 50 us. -/
def execPlacementSummaryTimeout (module : ModId) (s : State) : Host.Outcome State Fault Refusal := .next (s.noSummary module)

/-! ### FAULT packets (R142, R400, R409-R411, R450, R466, R743) -/

/-- Count a FAULT that names nothing held here (R743). -/
def State.strayFault (s : State) : State := { s with routing := { s.routing with faultCount := s.routing.faultCount + 1 } }

/-- A FAULT about a packet of a source operation: resent, or undelivered at the limit (R400, R409, R410). -/
def State.faultSrc (s : State) (o : SrcOp) (i : Nat) : State :=
  let n := tgetD o.resends i 0
  if s.srcStale o then s.countStale (some o.inst)
  else if o.npkts ≤ i then s.strayFault
  else if s.remote.resendMax.toNat ≤ n then
    let s := s.raise { source := 1286, inst := some o.inst }
    if o.kind = .rdvRead then s.endRdv o 0x33 false else s.finishSrc o 0x33 0 0
  else s.resendSrc { o with resends := tset o.resends i (n + 1) } i

/-- The kept COLL_DATA packet that a FAULT names: record, operation, packet. -/
def State.keptColl (s : State) (cast : Bool) (dst : Endpoint) (e2e : BitVec 32) : Option (Nat × CollOp × Packet) :=
  (s.coll.groups.flatMap fun e => e.2.ops.flatMap fun o =>
    (o.kept.filter fun p => p.mcast == cast && p.dst == dst && p.e2eSeq == e2e).map fun p => (e.1, o, p)).head?

/-- The member modules below the branch that a tree's FAULT names (R163, R466): the FAULT comes from the module at the branch, and its
detector 16t + 10 names the port t. A group port leads to one member, any other port out of that module's group; how the tree goes on there
only its modules know, so every member module outside is taken (DESIGN CHOICE, assumption log 125). -/
def State.branch (s : State) (g : Group) (at_ : ModId) (det : Nat) : List ModId :=
  let self := s.routing.moduleId
  let r := s.routing
  let t := det / 16
  let others := g.modules.filter (· != self)
  if det % 16 ≠ 10 ∨ 63 ≤ t then others
  else if t ≤ 14 then
    match (farEnd (r.pMinus1.toNat + 1) (r.gMinus1.toNat + 1) (r.mMinus1.toNat + 1) r.ws.toNat r.wg.toNat
        (idSuper at_) (idGroup at_) (idMember at_) t).end_ with
    | some (m, _) => others.filter (· == m)
    | none => others
  else others.filter fun m => m.toNat / 16 != at_.toNat / 16 && m.toNat / 16 != self.toNat / 16

/-- A FAULT about a COLL_DATA packet: the kept copy goes again (R450, R469); about a tree's copy, the root sends every segment it
has injected to the member modules below the branch by unicast (R466). -/
def State.faultColl (s : State) (kind : Nat) (dst : Endpoint) (e2e : BitVec 32) (at_ : ModId) (det : Nat) : State :=
  match s.keptColl (kind == 3) dst e2e with
  | none => s.strayFault
  | some (r, o, p) =>
    if kind = 3 then
      match tget s.coll.groups r with
      | none => s
      | some g =>
        (o.kept.filter (·.mcast)).foldl (fun (s : State) q =>
          (s.branch g at_ det).foldl (fun (s : State) m =>
            s.collSend r o.seq m none 1 (bits q.typeWord 63 48) q.opOffset.toNat false q.payload q.poisoned) s) s
    else
      let key := p.e2eSeq.toNat * 131072 + (addrModule p.dst).toNat
      let n := tgetD o.resent key 0
      if s.remote.resendMax.toNat ≤ n then s
      else (s.modOp r o.seq fun o => { o with resent := tset o.resent key (n + 1) }).inject Config.collQueue { p with resent := true }

/-- R743: a FAULT goes to the unit that holds the operation; a record of another module goes out to the software. -/
def execFault (p : Packet) (s : State) : Host.Outcome State Fault Refusal :=
  if s.quench.halted || !s.hasArrival p || p.pktType != 0x12 then .next s
  else
    let s := s.takeArrival p
    if p.payload.length = 64 then .next (s.emit (.report p))
    else
      let f := leAt p.payload
      let kind := f 0 1
      let type := f 3 1 % 32
      let src : Endpoint := BitVec.ofNat 29 (f 4 4)
      let tag : BitVec 32 := BitVec.ofNat 32 (f 8 4)
      let i := f 12 2
      let e2e : BitVec 32 := BitVec.ofNat 32 (f 16 4)
      let dst : Endpoint := BitVec.ofNat 29 (f 20 4)
      if kind ≠ 1 ∧ kind ≠ 3 then .next s.strayFault
      else if type = 9 then .next (s.faultColl kind dst e2e (addrModule p.src) (bits p.typeWord 10 0))
      else if type = 3 ∨ type = 5 ∨ type = 8 then
        .next (if (s.openOp dst tag).isSome || (s.tomb dst tag).isSome then s.resendAnswer dst tag i (type == 3) else s.strayFault)
      else
        match s.srcOp src tag with
        | some o => .next (s.faultSrc o i)
        | none => .next s.strayFault

/-! ### TC3 resends (R167) -/

/-- A TC3 stream is fenced: its packets go, commands pending on it complete with unreachable, who waited for an answer stops. -/
def State.fenceStream (s : State) (x : StreamTx) : State :=
  let m := addrModule x.key.dst
  let mine := fun (q : QPkt) => q.inPort.isNone && q.pkt.tc == 3 && q.pkt.pktType != 0x14 && streamKeyOf q.pkt x.key.viaF63 == x.key
  let s := { s with routing := { s.routing.setTx { x with fenced := true, store := [], queue := [] } with
    discards := s.routing.discards + x.store.length + x.queue.length, waiting := s.routing.waiting.filter fun q => !mine q } }
  let s := (s.raise { source := 1248, unit := m.toNat }).pumpStreams
  if x.key.viaF63 then s
  else
    let s := s.collFenced m
    let lost := s.hearth.running.filter fun q => q.1.forward && q.1.target == m
    (lost.foldl (fun (s : State) q => s.answer q.1.via q.1.seq q.1.opcode eUnreachable (sliceBytes (leBytes 4 m.toNat) 0 16)) s).noSummary m

/-- R167: unacknowledged packets of a stream are sent again after timeout_us; at resend_limit the stream is fenced. -/
def execTc3ResendTimeout (key : StreamKey) (now : Ticks) (s : State) : Host.Outcome State Fault Refusal :=
  let s := s.advance now
  let x := s.routing.txStream key
  let late := fun (e : Packet × Nat × Ticks) => decide (us s.routing.timeoutUs.toNat ≤ (s.time.now - e.2.2).toNat)
  if x.fenced || !x.store.any late then .next s
  else if x.store.any fun e => late e && decide (s.routing.resendLimit.toNat ≤ e.2.1) then .next (s.fenceStream x)
  else
    let again := x.store.filter late
    let s := { s with routing := s.routing.setTx { x with store := x.store.map fun e => if late e then (e.1, e.2.1 + 1, s.time.now) else e } }
    let s := s.count 0x00a0 0 0 again.length
    .next (again.foldl (fun (s : State) e => s.sendOut key.viaF63 { e.1 with resent := true }) s)

end Sys2Proof.Machine
end

