-- ==== Sys2Proof/Machine/Striker.lean ====
section
/-! DEFINITION. Striker (11): measurements, migrations, demotions, Tally moves, hints, and the replacement of a fenced cell. -/

namespace Sys2Proof.Machine

open Sys2Proof

/-! ### Measurements (R484) -/

/-- Sum of a list. -/
def sumOf (l : List Nat) : Nat := l.foldl (· + ·) 0

/-- A cell's mean busy value over the last epochs, in hundredths of a percent. -/
def Cell.busy100 (c : Cell) : Nat := if c.busyHist.isEmpty then 0 else 100 * sumOf c.busyHist / c.busyHist.length

/-- Add a measurement to the last four. -/
def keep4 (l : List Nat) (v : Nat) : List Nat := (l ++ [v]).drop (l.length + 1 - 4)

/-- Take the cells' measurements of an epoch. -/
def Striker.measure (k : Striker) (busy free : List (Nat × Nat)) : Striker :=
  let cells := busy.foldl (fun (t : Table Cell) (e : Nat × Nat) => tmod t e.1 {} fun c =>
    let h := keep4 c.busyHist (min 100 e.2)
    { c with busyHist := h, busy := BitVec.ofNat 7 (meanOf h) }) k.cells
  let cells := free.foldl (fun (t : Table Cell) (e : Nat × Nat) => tmod t e.1 {} fun c =>
    let h := keep4 c.freeHist (min 32768 e.2)
    { c with freeHist := h, free := BitVec.ofNat 16 (meanOf h) }) cells
  { k with cells }

/-- Steps of a context over the last epochs. -/
def Ctx.recent (c : Ctx) : Nat := sumOf c.stepHist

/-- The share of a cell's busy time that a context accounts for, in hundredths of a percent (R484). -/
def State.shareOf (s : State) (c : Ctx) : Nat :=
  let h := c.homeCell.toNat
  let all := sumOf (s.matching.ctxs.map fun e => if e.2.homeCell.toNat = h then e.2.recent else 0)
  if all = 0 then 0 else (s.cell h).busy100 * c.recent / all

/-- The end of an epoch for the contexts and Tallies: their steps are kept, counting starts over. -/
def State.closeEpoch (s : State) : State :=
  { s with
    matching := { s.matching with ctxs := tmap s.matching.ctxs fun _ c => { c with stepHist := keep4 c.stepHist c.steps, steps := 0 } },
    remote := { s.remote with tallies := tmap s.remote.tallies fun _ t =>
      { t with quiet := if t.addsEpoch < 64 then t.quiet + 1 else 0, addsEpoch := 0 } } }

/-! ### Moving a context (R486, R494-R499) -/

/-- Whether a context's home is fixed (R486, R493). -/
def Ctx.fixed (c : Ctx) : Bool := c.pin.isSome || c.noMigrate

/-- Start to move a context: its new inputs go into the redirect hold (R496 steps 1 and 2). -/
def State.startMove (s : State) (k dest reason share : Nat) : State :=
  s.modCtx k fun c => if c.moving.isSome ∨ c.homeCell.toNat = dest then c
    else { c with moving := some dest, moveReason := reason, moveShare := share, moveAt := s.time.now }

/-- A context's home becomes a cell. -/
def State.rehome (s : State) (k dest : Nat) : State :=
  match s.ctx k with
  | none => s
  | some c =>
    let s := if c.state = 3 then s
      else (s.modCell c.homeCell.toNat fun x => { x with objects := x.objects - 1 }).modCell dest fun x => { x with objects := x.objects + 1 }
    let s := ((s.modCtx k fun c => { c with homeCell := BitVec.ofNat 12 dest, moving := none, placedAt := s.time.now, onDie := 0 }).refill dest).refill
      c.homeCell.toNat
    (s.replayHold k).unfill

/-- Whether a placement cell runs Striker, and whether it is frozen (R504). -/
def State.refreshStriker (s : State) : State :=
  let run := s.striker.cells.any fun e => e.2.role == 6 && e.2.state == 1
  { s with striker := { s.striker with running := run, frozen := s.striker.frozen || (!run && !s.striker.cells.isEmpty) } }

/-- A ROLEMAP_LOAD is answered when no cell waits for its new role (R633): the map's hash and the number of cells left unchanged. -/
def State.roleDone (s : State) : State :=
  match s.hearth.roleCall with
  | none => s
  | some c =>
    if !s.striker.wanted.isEmpty then s
    else
      ({ s with hearth := { s.hearth with roleCall := none } }).answer c.via c.seq 0x0a01 0
        (leBytes 48 (Config.sha384 s.hearth.roleMap).toNat ++ leBytes 8 s.hearth.roleLeft)

/-- A drained cell without objects becomes a quiesced spare (R493), or takes the role that a new role map gives it (R633). -/
def State.drained (s : State) (n : Nat) : State :=
  let c := s.cell n
  if c.drain ∧ c.objects = 0 ∧ c.state ≠ 2 then
    let r := tgetD s.striker.wanted n 0
    let s := s.modCell n fun c => { c with drain := false, role := BitVec.ofNat 3 r, state := if r = 0 then 0 else 1 }
    ({ s with striker := { s.striker with wanted := tdel s.striker.wanted n } }).refreshStriker.roleDone
  else s

/-- Nanoseconds since an instant. -/
def State.since (s : State) (t : Ticks) : Nat := (s.time.now - t).toNat / 64

/-- Abort a move: the former home resumes with the hold's inputs (R499). -/
def State.abortMove (s : State) (k : Nat) : State :=
  match s.ctx k with
  | none => s
  | some c =>
    match c.moving with
    | none => s
    | some d =>
      let s := { s with striker := { s.striker with aborted := satInc s.striker.aborted } }
      let s := s.logPlace 3 c.moveReason k c.homeCell.toNat d 0 0
      ((s.raise { source := 1298, inst := some (k / 64) }).modCtx k fun c => { c with moving := none }).replayHold k |>.unfill

/-- R496, R497, R499: the copy of a moving context ends. A context whose former home is fenced waits for the substitution. -/
def execMigrationCommit (ctx : Nat) (copyOk : Bool) (s : State) : Host.Outcome State Fault Refusal :=
  match s.ctx ctx with
  | none => .next s
  | some c =>
    match c.moving with
    | none => .next s
    | some d =>
      let h := c.homeCell.toNat
      if s.quench.halted || (s.cell h).state = 2 then .next s
      else if !copyOk || (s.cell d).state = 2 then .next (s.abortMove ctx)
      else
        let s := { s with striker := { s.striker with migrations := satInc s.striker.migrations } }
        let s := s.logPlace 2 c.moveReason ctx h d (s.since c.moveAt) c.moveShare
        .next ((s.rehome ctx d).drained h)

/-- Cells with their projected busy values while a plan is made. -/
abbrev Projection := List (Nat × Nat)

/-- The least of a projection, a tie to the lowest cell. -/
def leastOf : Projection → Option (Nat × Nat)
  | [] => none
  | e :: es => some (es.foldl (fun (m : Nat × Nat) x => if x.2 < m.2 then x else m) e)

/-- The most loaded of a projection, a tie to the lowest cell. -/
def hottest : Projection → Option (Nat × Nat)
  | [] => none
  | e :: es => some (es.foldl (fun (m : Nat × Nat) x => if m.2 < x.2 then x else m) e)

/-- R486: the plan. hot are the hot cells left, proj the projected busy values; n bounds the loop, left the migrations. -/
def State.planMoves (s : State) (left : Nat) : Nat → Projection → Projection → State
  | 0, _, _ => s
  | n + 1, hot, proj =>
    match hottest hot with
    | none => s
    | some (h, _) =>
      let rest := hot.filter fun e => e.1 != h
      if left = 0 then s
      else
        let mine := s.matching.ctxs.filter fun e =>
          e.2.homeCell.toNat == h && !e.2.fixed && e.2.moving.isNone && decide (ms s.striker.minDwellMs.toNat ≤ (s.time.now - e.2.placedAt).toNat)
        match mine.map (fun e => (e.1, s.shareOf e.2, e.2)) with
        | [] => s.planMoves left n rest proj
        | x :: xs =>
          let (k, share, c) := xs.foldl (fun (m : Nat × Nat × Ctx) y => if m.2.1 < y.2.1 then y else m) x
          let allowed := proj.filter fun e => bit c.quadMask (cellQuad e.1)
          match leastOf allowed with
          | none => s.planMoves left n rest proj
          | some (d, b) =>
            if 100 * s.striker.coolPct.toNat ≤ b then s
            else if 100 * s.striker.hotPct.toNat ≤ b + share then s.planMoves left n rest proj
            else
              let proj := proj.map fun e => if e.1 = h then (e.1, e.2 - share) else if e.1 = d then (e.1, e.2 + share) else e
              (s.startMove k d 1 share).planMoves (left - 1) n rest proj

/-- The migrations of an epoch. -/
def State.plan (s : State) : State :=
  let proj := (s.cellsOf 1).map fun e => (e.1, e.2.busy100)
  let hot := proj.filter fun e => decide (100 * s.striker.hotPct.toNat ≤ e.2)
  s.planMoves s.striker.migPerEpoch.toNat hot.length hot proj

/-! ### Demotions (R488) -/

/-- Start the next demotion from a cell whose free store is below the reserve: the oldest unexpected payload of its contexts. -/
def State.startDemotion (s : State) (n : Nat) : State :=
  if s.reserve ≤ (s.cell n).free.toNat then s
  else
    match s.matching.ctxs.find? fun e => e.2.homeCell.toNat == n && e.2.unexp.any fun m => m.tier == 0 && !m.rdv && !m.headerOnly with
    | none => s
    | some (k, c) =>
      match c.unexp.find? fun m => m.tier == 0 && !m.rdv && !m.headerOnly with
      | none => s
      | some m => s.modCtx k fun c => if c.demoting.isSome then c else { c with demoting := some (m.src, m.tag) }

/-- Places in a context's host area for the packets of a message, one after another, or none where one does not fit. -/
def Ctx.hostFits (c : Ctx) : List Nat → Option (List (Nat × Nat))
  | [] => some []
  | n :: ns =>
    match c.hostFit n with
    | none => none
    | some a =>
      let m : Msg := { src := 0, dst := 0, tc := 0, tag := 0, key := 0, matchBits := 0, rdv := false, length := none, hostAt := [(a, hostUnits n)] }
      (Ctx.hostFits { c with unexp := c.unexp ++ [m] } ns).map ((a, hostUnits n) :: ·)

/-- R488: a demoted payload's copy commits; a message taken before is dropped from the move. -/
def execDemotionCommit (ctx : Nat) (s : State) : Host.Outcome State Fault Refusal :=
  match (if s.quench.halted then none else s.ctx ctx) with
  | none => .next s
  | some c =>
    match c.demoting with
    | none => .next s
    | some (src, tag) =>
      let n := c.homeCell.toNat
      let s := s.modCtx ctx fun c => { c with demoting := none }
      match c.unexp.find? fun m => sameMsg m src tag with
      | none => .next (s.startDemotion n)
      | some m =>
        let bytes := sumOf (m.packets.map fun p => p.payloadLen.toNat)
        let toMod := bit c.grants 1 && s.tierTakes c 1 bytes
        let fit := if toMod then some [] else c.hostFits (m.packets.map fun p => p.payloadLen.toNat)
        match fit with
        | none => .next s
        | some host =>
          let s := (m.packets.zip host).foldl (fun (s : State) (e : Packet × Nat × Nat) =>
            s.hostPut (s.inst (ctx / 64)).port.toNat (ctx / 64) (c.hostArea + BitVec.ofNat 64 e.2.1) e.1.payload e.1.poisoned src tag true) s
          let tier : BitVec 2 := if toMod then 1 else 2
          let s := s.modCtx ctx fun c =>
            { c with unexp := c.unexp.map fun x => if sameMsg x src tag then { x with tier, hostAt := host } else x }
          .next ((s.modCell n fun x => { x with free := satAdd x.free bytes }).startDemotion n)

/-! ### Tally moves (R489) -/

/-- Start a Tally's move: some (n + 1) is atomic cell n, some 0 module memory. -/
def State.moveTally (s : State) (t dest : Nat) : State :=
  s.modTally t fun x => if x.moving.isSome then x else { x with moving := some dest }

/-- R489 for one Tally at an epoch boundary. -/
def State.judgeTally (s : State) (n adds : Nat) : State :=
  let t := s.tally n
  if !t.allocated || t.moving.isSome then s
  else
    let roomy := (s.cellsOf 3).filter fun e => s.reserve ≤ e.2.free.toNat
    if !t.cellTier then
      if t.home ≠ 1 ∧ (t.home = 2 ∨ t.armed ∨ 1024 ≤ adds) then
        match leastBusy roomy with
        | some c => s.moveTally n (c + 1)
        | none => s
      else s
    else
      let low : Bool := match t.cell with
        | some c => decide ((s.cell c).free.toNat < s.reserve)
        | none => false
      if t.home = 1 ∨ (t.home ≠ 2 ∧ ((!t.armed ∧ 4 ≤ t.quiet) ∨ low)) then s.moveTally n 0 else s

/-- A Tally's home becomes its move's destination, and the adds that waited are applied there (R489). -/
def State.commitTally (s : State) (n : Nat) (reason : Nat) : State :=
  let t := s.tally n
  match t.moving with
  | none => s
  | some d =>
    let cell := if d = 0 then none else some (d - 1)
    let s := match t.cell with
      | some c => s.modCell c fun x => { x with objects := x.objects - 1 }
      | none => s
    let s := match cell with
      | some c => s.modCell c fun x => { x with objects := x.objects + 1 }
      | none => s
    let s := s.logPlace 4 reason n (t.cell.getD noPlace) (cell.getD noPlace) 0 0
    let s := s.modTally n fun t => { t with moving := none, heldAdds := [], cell, cellTier := cell.isSome }
    t.heldAdds.foldl (fun (s : State) a => s.tallyAdd n a) s

/-- R489: a Tally's move commits. -/
def execTallyMoveCommit (tally : Nat) (s : State) : Host.Outcome State Fault Refusal :=
  let t := s.tally tally
  let gone := match t.moving with
    | some (d + 1) => (s.cell d).state == 2
    | _ => false
  if s.quench.halted then .next s
  else if gone then
    let s := s.modTally tally fun t => { t with moving := none, heldAdds := [] }
    .next (t.heldAdds.foldl (fun (s : State) a => s.tallyAdd tally a) s)
  else
    let reason := match t.cell with
      | some c => if (s.cell c).drain then 4 else if t.home = 0 then 1 else 2
      | none => if t.home = 0 then 1 else 2
    let s := s.commitTally tally reason
    .next (match t.cell with
      | some c => s.drained c
      | none => s)

/-- The objects of a draining cell that no limit holds there start to move (R493, R494): a context to another matcher cell, a Tally to module
memory, or, with the limit that keeps it in a cell, to another atomic cell. -/
def State.drainMoves (s : State) (n : Nat) : State :=
  let s := s.matching.ctxs.foldl (fun (s : State) e =>
    if e.2.homeCell.toNat ≠ n ∨ e.2.noMigrate ∨ (s.cellsOf 1).isEmpty then s
    else
      let home := s.homeFor none e.2.quadMask
      s.startMove e.1 home.1 (if home.2 then 2 else 4) 0) s
  let s := s.remote.tallies.foldl (fun (s : State) e =>
    if e.2.cell ≠ some n then s
    else if e.2.home = 2#2 then
      match leastBusy (s.cellsOf 3) with
      | some c => s.moveTally e.1 (c + 1)
      | none => s
    else s.moveTally e.1 0) s
  s.drained n

/-! ### The epoch (R484, R504) -/

/-- R484-R489, R504: a boundary of the placement epoch. -/
def execPlacementEpoch (now : Ticks) (busy free : List (Nat × Nat)) (s : State) : Host.Outcome State Fault Refusal :=
  let s := s.advance now
  let p := us s.striker.periodUs.toNat
  if s.quench.halted || decide (s.time.now.toNat / p ≤ s.striker.epochLast.toNat / p) then .next s
  else
    let k := s.striker.measure busy free
    let s := { s with striker := { k with epochLast := s.time.now, frozen := k.frozen && !k.running } }
    let old := s
    let s := s.closeEpoch
    if s.striker.frozen || !s.striker.running then .next s
    else
      let s := (s.striker.cells.filter fun e => e.2.drain).foldl (fun (s : State) e => s.drainMoves e.1) s
      let s := s.plan
      let s := { s with matching := { s.matching with ctxs := tmap s.matching.ctxs fun _ c => { c with grants := s.tierGrant c } } }
      let s := (s.cellsOf 1).foldl (fun (s : State) e => s.startDemotion e.1) s
      .next (old.remote.tallies.foldl (fun (s : State) e => s.judgeTally e.1 e.2.addsEpoch) s)

/-! ### Hints (R493-R495) -/

/-- A pin whose cell changes role is dropped (R495); the cell drains. -/
def State.dropPins (s : State) (n : Nat) : State :=
  let s := s.modCell n fun c => { c with drain := true }
  (s.matching.ctxs.filter fun e => e.2.pin == some n).foldl (fun (s : State) e =>
    let s := s.modCtx e.1 fun c => { c with pin := none }
    ({ s with striker := { s.striker with pinsDropped := satInc s.striker.pinsDropped } }).logPlace 7 3 e.1 n (s.homeFor none e.2.quadMask).1 0 0) s

/-- Drain a cell (R493): its pins are dropped, and every object that no limit holds in it moves out. A limit that leaves an object no
choice is recorded (R494). -/
def State.drainCell (s : State) (n : Nat) : State :=
  let s := s.dropPins n
  if s.striker.frozen then s
  else
    let s := s.matching.ctxs.foldl (fun (s : State) e =>
      if e.2.homeCell.toNat = n ∧ e.2.noMigrate then s.logPlace 1 2 e.1 n n 0 0 else s) s
    s.drainMoves n

/-- R493: set limits and hints, or drain a cell. -/
def execPlaceHint (c : Call) (hint : Hint) (s : State) : Host.Outcome State Fault Refusal :=
  s.fleso c 0x0604 (·.isMI) fun a s =>
    let own := fun (i : Nat) => match a with
      | .inst j => i == j
      | _ => true
    let onCtx := fun (k : Nat) (f : State → Ctx → State × Reply) =>
      if !own (k / 64) then (s, Reply.err eNoAuthority)
      else
        match s.ctx k with
        | none => (s, .err eNoObject)
        | some c => if c.state = 3 then (s, .err eNoObject) else f s c
    match hint with
    | .pinCell k cell => onCtx k fun s _ =>
      match cell with
      | none => (s.modCtx k fun c => { c with pin := none }, .ok)
      | some n =>
        if 4096 ≤ n ∨ (s.cell n).role ≠ 1 ∨ (s.cell n).state = 2 then (s, .bad 8)
        else
          let s := s.modCtx k fun c => { c with pin := some n }
          (if s.striker.frozen then s else s.startMove k n 2 0, .ok)
    | .quadrantMask k mask => onCtx k fun s c =>
      if mask = 0 then (s, .bad 8)
      else
        let s := s.modCtx k fun c => { c with quadMask := mask }
        if bit mask (cellQuad c.homeCell.toNat) || c.fixed || s.striker.frozen then (s, .ok)
        else (s.startMove k (s.homeFor none mask).1 2 0, .ok)
    | .noMigrate k on => onCtx k fun s _ => (s.modCtx k fun c => { c with noMigrate := on }, .ok)
    | .tierLimits k cellBytes moduleBytes => onCtx k fun s _ =>
      (s.modCtx k fun c => { c with cellLimit := cellBytes, moduleLimit := moduleBytes }, .ok)
    | .tallyHome t home =>
      let x := s.tally t
      if !x.allocated then (s, .err eNoObject)
      else if !own x.inst.toNat then (s, .err eNoAuthority)
      else if home = 3 then (s, .bad 8)
      else (s.modTally t fun t => { t with home }, .ok)
    | .drainCell n =>
      if !a.isM then (s, .err eNoAuthority)
      else if 4096 ≤ n then (s, .bad 4)
      else if (s.cell n).state = 2 then (s, .err eWrongState)
      else (s.drainCell n, .ok)
    | .group g rootHint fanMax pinned =>
      if !a.isM then (s, .err eNoAuthority)
      else if fanMax < 2 ∨ 64 < fanMax then (s, .bad 12)
      else
        match s.groupRec g with
        | none => (s, .err eNoObject)
        | some (r, x) => if !x.coordinator then (s, .err eWrongState)
          else (s.modGroup r fun x => { x with rootHint, fanMax, pinned }, .ok)

/-! ### Replacing a fenced cell (R499, R501-R503) -/

/-- Whether a cell is in service for its role. -/
def Cell.live (c : Cell) : Bool := c.state != 2 && !c.testing

/-- The spare that replaces a cell: in its tile, its quadrant, anywhere; the lowest number (R501). -/
def State.spareFor (s : State) (n : Nat) : Option Nat :=
  let sp := s.striker.cells.filter fun e => e.2.role == 0 && e.2.live && e.1 != n
  match sp.find? fun e => e.1 / 64 == n / 64 with
  | some e => some e.1
  | none => match sp.find? fun e => cellQuad e.1 == cellQuad n with
    | some e => some e.1
    | none => sp.head?.map (·.1)

/-- Quench fences a cell (R501 steps 1 to 3): it leaves a change of roles (R633), its inputs go to the redirect hold, a spare takes its role, or, with no spare, its
objects go to the least busy cells of the role; with none of those either, the fault escalates to Halt (R503). -/
def State.fenceCell (s : State) (n : Nat) : State :=
  let c := s.cell n
  if c.state = 2 then s
  else
    let moved := (s.matching.ctxs.filter fun e => e.2.moving == some n && e.2.homeCell.toNat != n).map (·.1)
    let s := s.modCell n fun c => { c with state := 2, testing := false, fencedAt := s.time.now }
    let s := moved.foldl (fun (s : State) k => s.abortMove k) s
    let s := if (tget s.striker.wanted n).isNone then s
      else ({ s with striker := { s.striker with wanted := tdel s.striker.wanted n }, hearth := { s.hearth with roleLeft := s.hearth.roleLeft + 1 } }).roleDone
    if c.role = 0 then s
    else
      let s := match s.spareFor n with
        | some sp =>
          let s := s.modCell sp fun x => { x with role := c.role, state := 3 }
          { s with striker := { s.striker with substituting := tset s.striker.substituting n sp } }
        | none =>
          let s := { s.raise { source := 1299, unit := n } with striker := { s.striker with substituting := tset s.striker.substituting n 4096 } }
          if (s.striker.cells.any fun e => e.2.role == c.role && e.2.live) then s else s.raise { source := 1300, unit := n }
      let dest := fun (s : State) => match tget s.striker.substituting n with
        | some 4096 => (leastBusy (s.cellsOf c.role.toNat)).getD n
        | some sp => sp
        | none => n
      let s := s.matching.ctxs.foldl (fun (s : State) e =>
        if e.2.homeCell.toNat = n then s.modCtx e.1 fun x =>
          { x with moving := some (x.moving.getD (dest s)), moveReason := 3, moveAt := s.time.now }
        else s) s
      let s := s.remote.tallies.foldl (fun (s : State) e =>
        if e.2.cell = some n then s.modTally e.1 fun t => { t with moving := some (dest s + 1) } else s) s
      s.refreshStriker

/-- An object is lost (R502): counted, recorded, and a Fence names it. -/
def State.objectLost (s : State) (object inst from_ : Nat) : State :=
  let s := { s with striker := { s.striker with objectsLost := satInc s.striker.objectsLost } }
  (s.logPlace 8 3 object from_ noPlace 0 0).raise { source := 1283, unit := object, inst := some inst }

/-- The segments of a cell go to another (R501 step 6). -/
def State.respread (s : State) (from_ to_ : Nat) : State :=
  let f := fun (l : List Nat) => l.map fun c => if c = from_ then to_ else c
  { s with
    striker := { s.striker with spread := f s.striker.spread }
    coll := { s.coll with groups := tmap s.coll.groups fun _ g => { g with ops := g.ops.map fun o => { o with spread := f o.spread } } } }

/-- A group's reduction partials on a cell are lost (R502): counted, recorded, and a Fence names the group. -/
def State.partialsGone (s : State) (r cell : Nat) : State :=
  match tget s.coll.groups r with
  | none => s
  | some g =>
    let s := { s with striker := { s.striker with objectsLost := satInc s.striker.objectsLost } }
    (s.logPlace 8 3 g.group.toNat cell noPlace 0 0).raise { source := 1283, unit := g.group.toNat }

/-- R501 steps 4 to 7, R495, R502: the salvage copy of a fenced cell ends; homes are rewritten and the redirect hold replayed. The
cell's vises pass to the cell that replaces it (R662), or, where an object of it is lost, break (R660). A reduction's partials on the cell
are lost by group record and op_seq. -/
def execSubstitutionCopyComplete (cell : Nat) (lostContexts lostTallies : List Nat) (lostPartials : List (Nat × BitVec 16)) (s : State) : Host.Outcome State Fault Refusal :=
  match tget s.striker.substituting cell with
  | none => .next s
  | some sp =>
    let role := (s.cell cell).role
    let s := { s with striker := { s.striker with substituting := tdel s.striker.substituting cell,
                                                  substitutions := satInc s.striker.substitutions } }
    let lost := (lostContexts.filter fun k => ((s.ctx k).map fun c => c.homeCell.toNat == cell).getD false) ++
      lostTallies.filter fun n => (s.tally n).cell == some cell
    let s := match lost with
      | k :: _ => s.breakByFault (idCell cell) 1283 k
      | [] => s.passVises (idCell cell) (idCell (if sp = 4096 then (leastBusy (s.cellsOf role.toNat)).getD cell else sp))
    let s := s.logPlace 5 3 cell cell (if sp = 4096 then noPlace else sp) (s.since (s.cell cell).fencedAt) 0
    let s := s.matching.ctxs.foldl (fun (s : State) e =>
      if e.2.homeCell.toNat ≠ cell then
        if e.2.pin = some cell then
          let s := s.modCtx e.1 fun c => { c with pin := none }
          { s with striker := { s.striker with pinsDropped := satInc s.striker.pinsDropped } }
        else s
      else if lostContexts.contains e.1 then
        (s.objectLost e.1 (e.1 / 64) cell).closeCtx e.1 true
      else if e.2.pin = some cell then
        let s := s.modCtx e.1 fun c => { c with pin := none }
        let s := { s with striker := { s.striker with pinsDropped := satInc s.striker.pinsDropped } }
        let d := (s.homeFor none e.2.quadMask).1
        (s.logPlace 7 3 e.1 cell d 0 0).rehome e.1 d
      else s.rehome e.1 (e.2.moving.getD cell)) s
    let s := s.remote.tallies.foldl (fun (s : State) e =>
      if e.2.cell ≠ some cell then s
      else if lostTallies.contains e.1 then
        let s := s.disarm e.1
        let s := (s.modTally e.1 fun t => { t with value := 0, armed := false, cell := none, cellTier := false, moving := none, heldAdds := [] }).objectLost
          e.1 e.2.inst.toNat cell
        e.2.heldAdds.foldl (fun (s : State) a => s.tallyAdd e.1 a) s
      else s.commitTally e.1 3) s
    let s := s.modCell cell fun c => { c with role := 0, objects := 0, drain := false }
    let s := if sp = 4096 then s else s.modCell sp fun c => { c with role, state := 1 }
    let partials := (lostPartials.filter fun e => ((s.collOp e.1 e.2).map fun x =>
      x.2.inputs.any fun y => x.2.cellFor y.segment == some cell).getD false).eraseDups
    let s := s.respread cell (if sp = 4096 then (leastBusy (s.cellsOf role.toNat)).getD cell else sp)
    let s := partials.foldl (fun (s : State) e => (s.partialsGone e.1 cell).partialLost e.1 e.2) s
    .next s.refreshStriker

end Sys2Proof.Machine
end

