-- ==== Sys2Proof/Machine/Instances.lean ====
section
/-! DEFINITION. Instances (13): creation, binding, grants, reset, reopening, the dirty-page log's commands, moving an instance;
shaping (R195) and windows (R381, R382). -/

namespace Sys2Proof.Machine

open Sys2Proof

/-! ### Registers (R540, R569) -/

/-- Code of an instance's state (R540). -/
def istateCode : IState → Nat
  | .free => 0 | .closed => 1 | .active => 2 | .resetting => 3 | .held => 4 | .frozen => 5 | .destroying => 6

/-- The function that drives an instance: its virtual function, or its port's physical function (R544). -/
def Inst.fn (x : Inst) : Fn := { port := x.port.toNat, vf := if x.bound then some x.vf.toNat else none }

/-- Move an instance to a state, with event 0x0002 to the Manager, its port's physical function and its virtual function (R610). -/
def State.enter (s : State) (i : Nat) (st : IState) : State :=
  let x := s.inst i
  let s := s.modInst i fun x => { x with state := st }
  if x.state = st then s
  else
    let detail := BitVec.ofNat 128 (istateCode x.state + 256 * istateCode st + 65536 * x.cause.toNat)
    let pf : Fn := { port := x.port.toNat, vf := none }
    let fns := (if s.hearth.mgrStrap then [fnH0] else []) ++ [pf] ++ (if x.bound then [x.fn] else [])
    fns.eraseDups.foldl (fun (s : State) f => s.event f 0x0002 (BitVec.ofNat 32 i) detail) s

/-- INST.STATE. -/
def State.instStateWord (s : State) (i : Nat) : Nat :=
  let x := s.inst i
  packFields [(3, istateCode x.state), (2, x.port.toNat), (8, x.vf.toNat), (1, bnat x.bound), (16, x.epoch.toNat), (2, 0),
    (19, s.inFlight i)]

/-- INST.RESET. -/
def Inst.resetWord (x : Inst) : Nat :=
  packFields [(1, bnat x.sweeping), (1, bnat x.timedOut), (19, x.abandoned.toNat), (16, x.resets.toNat), (3, x.cause.toNat),
    (16, x.stale.toNat)]

/-- INST.LOG. -/
def Inst.logWord (x : Inst) : Nat :=
  packFields [(2, x.logMode.toNat), (1, bnat x.overflow), (5, 0), (6, x.logK.toNat), (18, 0), (32, x.overflowCount.toNat)]

/-- The result of INST_RESET and INST_QUERY (R819), from entry first on. -/
def State.instResult (s : State) (i first : Nat) : List Byte :=
  let x := s.inst i
  let l := (x.lostList.drop first).take 120
  leBytes 8 (s.instStateWord i) ++ leBytes 8 x.resetWord ++ leBytes 2 x.lostList.length ++ leBytes 2 l.length ++ leBytes 4 0 ++
  l.flatMap fun e => leBytes 4 (e.1 % 16384) ++ leBytes 4 e.2

/-- Answer every command that waits for an instance. -/
def State.answerInst (s : State) (i : Nat) (error : BitVec 8) (result : List Byte) : State :=
  let calls := (s.inst i).calls
  calls.foldl (fun (s : State) (c : Call × BitVec 16) =>
    s.answer c.1.via c.1.seq c.2 error (if c.2 = 0x0304 then result else [])) (s.modInst i fun x => { x with calls := [] })

/-! ### Pools and grants (R547) -/

/-- The grants' ranges by row of R547. -/
def grantMax : List Nat := [16384, 16384, 64, 16384, 256, 4096, 4096, 512, 256]

/-- The pool of a row: of row 7 the segments that are not internal, of row 8 the vectors of a host port (R275). -/
def State.pool (s : State) (row : Nat) : Nat :=
  match row with
  | 0 => 16384 | 1 => 16384 | 2 => 65536 | 3 => 1048576 | 4 => 256 | 5 => 4096 | 6 => 4096
  | 7 => (s.segments.filter fun e => e.2 != 0).length
  | 8 => 2048
  | _ => 1048576

/-- The instances that draw from an instance's pool of a row: all, or those of its port. -/
def State.poolPeers (s : State) (port row : Nat) : List (Nat × Inst) :=
  s.insts.filter fun e => e.2.state != .free && (row != 8 || e.2.port.toNat == port)

/-- The share units in use of a class. -/
def State.sharesUsed (s : State) (tc : Nat) : Nat :=
  sumOf ((s.insts.filter fun e => e.2.state != .free).map fun e => shapeShare (s.sched.shape e.1 tc))

/-- The sum of the grants of a row (9 and up: share units of class row - 9). -/
def State.granted (s : State) (port row : Nat) : Nat :=
  if 9 ≤ row then s.sharesUsed (row - 9) else sumOf ((s.poolPeers port row).map fun e => s.grant e.1 row)

/-- Segments that an instance's valid tier 1 windows touch. -/
def State.segsUsed (s : State) (i : Nat) : List Nat :=
  ((s.remote.windows.filter fun e => e.1 / 4096 == i && bit e.2 117 && bit e.2 113).flatMap fun e =>
    let b := bits e.2 63 0 / Config.segBytes
    (List.range ((bits e.2 63 0 + bits e.2 112 64 - 1) / Config.segBytes + 1 - b)).map (b + ·)).eraseDups

/-- The vises granted to an instance, and those of them in use. -/
def State.visesOf (s : State) (i : Nat) : List Nat :=
  (s.vises.vises.filter fun e => e.2.inst == some (BitVec.ofNat 10 i)).map (·.1)
/-- Whether a vise has an owner or a waiter. -/
def State.viseBusy (s : State) (n : Nat) : Bool := (s.vise n).owner != 0 || !(s.vise n).waiters.isEmpty

/-- What an instance uses of a row (R548). -/
def State.used (s : State) (i row : Nat) : Nat :=
  match row with
  | 0 => s.wqsOf i
  | 1 => s.cqsOf i
  | 2 => s.ctxsOf i
  | 3 => s.talliesOf i
  | 4 => (s.chansOf i).length
  | 5 => ((s.visesOf i).filter s.viseBusy).length
  | 6 => (s.trans.tlb.filter fun e => e.quad == 0 && e.domain == i && e.locked).length
  | 7 => (s.segsUsed i).length
  | 8 => if (s.inst i).bound then s.msixSize { port := (s.inst i).port.toNat, vf := some (s.inst i).vf.toNat } else 0
  | _ => 0

/-- Vises that a raise could grant (R649): module vises with no owner and no waiter. -/
def State.freeVises (s : State) : List Nat :=
  (List.range 4096).filter fun n => (s.vise n).inst.isNone && !s.viseBusy n

/-- Segments that a raise could grant: not internal and no other instance's. -/
def State.freeSegs (s : State) : List Nat :=
  (s.segments.filter fun e => e.2 != 0 && !s.insts.any fun x => x.2.segments.contains e.1).map (·.1)

/-- Set one grant; vises and segments follow it, the lowest-numbered first and the highest returned first (R649, assumption
log 62). -/
def State.setGrant (s : State) (i row v : Nat) : State :=
  let old := s.grant i row
  let s := s.modInst i fun x => { x with grants := (List.range 9).map fun r => if r = row then v else s.grant i r }
  if row = 5 then
    if old ≤ v then (s.freeVises.take (v - old)).foldl (fun s n => s.modVise n fun z => { z with inst := some (BitVec.ofNat 10 i) }) s
    else (((s.visesOf i).reverse.filter fun n => !s.viseBusy n).take (old - v)).foldl (fun s n => s.modVise n fun z => { z with inst := none }) s
  else if row = 7 then
    if old ≤ v then s.modInst i fun x => { x with segments := x.segments ++ s.freeSegs.take (v - old) }
    else
      let used := s.segsUsed i
      let gone := ((s.inst i).segments.reverse.filter fun n => !used.contains n).take (old - v)
      s.modInst i fun x => { x with segments := x.segments.filter fun n => !gone.contains n }
  else s

/-- Why a set of grants is refused: a value out of its range first, then an exhausted pool. -/
def State.grantsFail (s : State) (port : Nat) (old : Nat → Nat) (gs : List (Nat × Nat)) : Option Reply :=
  match gs.find? fun g => decide (9 ≤ g.1) || decide (grantMax.getD g.1 0 < g.2) || (g.1 == 8 && g.2 == 0) with
  | some g => some (.bad g.1)
  | none =>
    match gs.find? fun g =>
        decide (old g.1 < g.2) && (decide (s.pool g.1 < s.granted port g.1 + (g.2 - old g.1)) ||
          (g.1 == 5 && decide (s.freeVises.length < g.2 - old g.1))) with
    | some g => some (.pool g.1)
    | none => none

/-! ### Creating, binding, granting (R542-R544, R548, R195) -/

/-- Make instance i, unless a pool lacks its grants (r). -/
def State.createInst (s : State) (r : Option Reply) (i port : Nat) (gs : List (Nat × Nat)) (shapes : List Word) (strokeClass : BitVec 4)
    (eagerLimit : Nat) : State × Reply :=
  match r with
  | some r => (s, r)
  | none =>
    match (numbered shapes).find? fun e => decide (s.pool 9 < s.sharesUsed e.1 + shapeShare e.2) with
    | some _ => (s, .pool 9)
    | none =>
      let x := s.inst i
      let s := s.modInst i fun _ =>
        { port := BitVec.ofNat 2 port, epoch := x.epoch, sweeping := x.sweeping, since := x.since }
      let s := s.enter i .closed
      let s := gs.foldl (fun (s : State) g => s.setGrant i g.1 g.2) s
      let s := { s with
        sched := { s.sched with shaping := (numbered shapes).foldl (fun (t : Table Word) (e : Nat × Word) => tset t (i * 4 + e.1) e.2) s.sched.shaping }
        time := { s.time with admission := tset s.time.admission i strokeClass }
        matching := { s.matching with eagerLimit := tset s.matching.eagerLimit i (BitVec.ofNat 17 eagerLimit) } }
      (s, .res (leBytes 8 i))

/-- A shaping entry that Fleso refuses: a non-zero reserved field (R13), or a rate with a burst below 4,608 bytes (R194). -/
def badShaping (w : Word) : Bool :=
  bits w 63 56 != 0 || (bits w 23 0 != 0 && decide (bits w 39 24 * 256 < 4608))

/-- R542, R543: create a closed instance. Its epoch goes on from the number's earlier life (assumption log 63). -/
def execInstCreate (c : Call) (port : Nat) (inst : Option Nat) (grants : List Nat) (shaping : List Word) (strokeClass : BitVec 4)
    (eagerLimit : Nat) (s : State) : Host.Outcome State Fault Refusal :=
  s.fleso c 0x0301 (·.isM) fun _ s =>
    let named := inst.any fun i => decide (1024 ≤ i)
    let gs := numbered grants ++ if grants.length ≤ 8 then [(8, 1)] else []
    let shapes := (List.range 3).map fun t => shaping.getD t 0x0000010000000000
    if 4 ≤ port then (s, .bad 20)
    else if named then (s, .bad 21)
    else if shaping.any badShaping then (s, .bad 22)
    else if 65536 < eagerLimit then (s, .bad 23)
    else
      match s.grantsFail port (fun _ => 0) gs, inst, (List.range 1024).find? fun i => (s.inst i).state == .free with
      | some (.bad f), _, _ => (s, .bad f)
      | r, some i, _ =>
        if (s.inst i).state ≠ .free then (s, .err eWrongState) else s.createInst r i port gs shapes strokeClass eagerLimit
      | _, none, none => (s, .pool 0)
      | r, none, some i => s.createInst r i port gs shapes strokeClass eagerLimit

/-- Set a function's MSI-X table size (R275). -/
def State.setVectors (s : State) (f : Fn) (n : Nat) : State :=
  s.modPort f.port fun p => { p with msix := tmod p.msix (fnKey f) {} fun m => { m with size := n } }

/-- Bind an instance to vf or to none: its queues and rings go to the function that drives it (assumption log 64). -/
def State.bindTo (s : State) (i : Nat) (vf : Option Nat) (vectors : Nat) : State :=
  let old := (s.inst i).fn
  let s := if old.vf.isSome then s.setVectors old 1 else s
  let s := s.modInst i fun x => { x with bound := vf.isSome, vf := BitVec.ofNat 8 (vf.getD 0) }
  let s := if (s.inst i).state = .closed then s.enter i .active else s
  let f := (s.inst i).fn
  let s := if f.vf.isSome then s.setVectors f vectors else s
  { s with wqs := tmap s.wqs fun _ w => if w.instOf = some i ∧ w.owner = old then { w with owner := f } else w
           cqs := tmap s.cqs fun _ r => if r.inst = some i ∧ r.owner = old then { r with owner := f } else r }

/-- R544, R275: bind a closed or held instance. -/
def execInstBind (c : Call) (inst : Nat) (vf : Option Nat) (vectors : Nat) (s : State) : Host.Outcome State Fault Refusal :=
  s.fleso c 0x0302 (·.isM) fun _ s =>
    let x := s.inst inst
    if 1024 ≤ inst then (s, .bad 0)
    else if x.state = .free then (s, .err eNoObject)
    else if vf.any fun v => decide (256 ≤ v) then (s, .bad 1)
    else if vf.isSome ∧ (vectors < 1 ∨ 256 < vectors) then (s, .bad 2)
    else if x.state ≠ .closed ∧ x.state ≠ .held then (s, .err eWrongState)
    else if vf.any fun v => (s.boundInst x.port.toNat v).any (· != inst) then (s, .err eWrongState)
    else if vf.isSome ∧ s.grant inst 8 < vectors then (s, .grant 8)
    else (s.bindTo inst vf vectors, .ok)

/-- Why a change of share units (row 9 and up) is refused. -/
def State.shareFails (s : State) (i : Nat) (g : Nat × Nat) : Option Reply :=
  if 12 ≤ g.1 ∨ 65535 < g.2 then some (.bad g.1)
  else if s.pool 9 < s.sharesUsed (g.1 - 9) - shapeShare (s.sched.shape i (g.1 - 9)) + g.2 then some (.pool 9)
  else none

/-- A shaping entry with another share. -/
def withShare (w : Word) (n : Nat) : Word :=
  BitVec.ofNat 64 (bits w 39 0 + 2 ^ 40 * (n % 65536))

/-- R548: change grants. Rows 9, 10 and 11 are the shares of TC0, TC1 and TC2. -/
def execInstGrant (c : Call) (inst : Nat) (changes : List (Nat × Nat)) (s : State) : Host.Outcome State Fault Refusal :=
  s.fleso c 0x0303 (·.isM) fun _ s =>
    let x := s.inst inst
    let gs := changes.filter fun g => g.1 < 9
    let shares := changes.filter fun g => 9 ≤ g.1
    if 1024 ≤ inst then (s, .bad 0)
    else if x.state = .free then (s, .err eNoObject)
    else
      match s.grantsFail x.port.toNat (s.grant inst) gs, shares.findSome? (s.shareFails inst) with
      | some r, _ => (s, r)
      | none, some r => (s, r)
      | none, none =>
        if gs.any fun g => decide (g.2 < s.grant inst g.1) && decide (g.2 < s.used inst g.1) then (s, .err eWrongState)
        else
          let s := gs.foldl (fun (s : State) g => s.setGrant inst g.1 g.2) s
          (shares.foldl (fun (s : State) g =>
            let k := inst * 4 + (g.1 - 9)
            { s with sched := { s.sched with shaping := tset s.sched.shaping k (withShare (s.sched.shape inst (g.1 - 9)) g.2) } }) s, .ok)

/-- Write a shaping entry at its index; the bucket keeps its tokens, clipped to the new burst (R194). -/
def State.putShaping (s : State) (key : Nat) (entry : Word) : State :=
  let now := s.time.now
  let have_ := min (bits entry 39 24 * 256 * 51200) (s.sched.bucket (key / 4) (key % 4) now)
  { s with sched := { s.sched with
    shaping := tset s.sched.shaping key entry
    buckets := tset s.sched.buckets key { tokens := have_, at_ := now } } }

/-- R194, R195: write one shaping entry; its share counts against the pool (R547). -/
def execShaping (c : Call) (inst : Nat) (cls : Nat) (entry : Word) (s : State) : Host.Outcome State Fault Refusal :=
  s.fleso c 0x030f (·.isM) fun _ s =>
    if 1024 ≤ inst then (s, .bad 0)
    else if 3 ≤ cls then (s, .bad 1)
    else if badShaping entry then (s, .bad 2)
    else if (s.inst inst).state = .free then (s, .err eNoObject)
    else
      match s.shareFails inst (9 + cls, shapeShare entry) with
      | some r => (s, r)
      | none => (s.putShaping (inst * 4 + cls) entry, .ok)

/-- R381, R382: write a window entry. -/
def execWindowWrite (c : Call) (inst : Option Nat) (window : Nat) (entry : BitVec 256) (s : State) : Host.Outcome State Fault Refusal :=
  s.fleso c 0x0504 (·.isMI) fun a s =>
    match s.forInst a inst with
    | (none, r) => (s, r)
    | (some i, _) =>
      let base := bits entry 63 0
      let len := bits entry 112 64
      let segs := (List.range ((base + len - 1) / Config.segBytes + 1 - base / Config.segBytes)).map (base / Config.segBytes + ·)
      if 4096 ≤ window then (s, .bad 0)
      else if (s.inst i).state = .free then (s, .err eNoObject)
      else if bits entry 127 118 ≠ 0 ∨ bits entry 159 157 ≠ 0 ∨ bits entry 255 189 ≠ 0 then (s, .bad 1)
      else if base % 64 ≠ 0 then (s, .bad 2)
      else if len < 1 ∨ 2 ^ 48 < len then (s, .bad 3)
      else if bit entry 113 ∧ (Config.memBytes < base + len ∨ !segs.all fun g => (s.inst i).segments.contains g) then (s, .bad 2)
      else ({ s with remote := { s.remote with windows := tset s.remote.windows (i * 4096 + window) entry } }, .ok)

/-! ### Resetting (R552-R558) -/

/-- Drop a queue's unstarted descriptors without records (R552): they are counted lost. -/
def State.dropFetched (s : State) (q : Nat) : State :=
  match s.wq q with
  | none => s
  | some w =>
    let n := w.fetched.length
    let s := match w.reading with
      | some i => s.dropD2h w.owner.port (.descriptor q i)
      | none => s
    (s.modWq q fun w => { w with state := .fenced, fetched := [], reading := none, lost := n, wbDirty := true,
                                 open_ := w.open_.filter fun i => !w.fetched.any fun f => f.index == i }).owe w.cq.toNat
      (-((n + bnat w.reading.isSome : Nat) : Int))

/-- Begin an instance's reset (R552, R557): one that is resetting goes on, a free one is left alone. -/
def State.beginReset (s : State) (i : Nat) (cause : BitVec 3) : State :=
  let x := s.inst i
  if x.state = .free ∨ x.state = .resetting ∨ x.state = .destroying then s
  else
    let s := s.answerInst i eWrongState []
    let s := s.modInst i fun x => { x with cause, resets := satInc x.resets, since := s.time.now, quiescing := false }
    let s := s.enter i .resetting
    let s := (s.wqs.filter fun e => e.2.instOf == some i).foldl (fun (s : State) e => s.dropFetched e.1) s
    let s := (s.chansOf i).foldl (fun (s : State) n => s.dropChan n) s
    (s.breakIdentity (idMailbox i)).memberLost i

/-- Retire what a queue of a resetting instance still has open: its count of R558 is added up. -/
def State.retireQueue (s : State) (q : Nat) : State :=
  match s.wq q with
  | none => s
  | some w =>
    let s := (s.counters.tagged.filter fun t => t.queue == q).foldl (fun (s : State) t => s.tagDone q t.index 0x09) s
    let s := s.modWq q fun w => { w with open_ := [], tail := w.head, events := [], wbDirty := true,
                                         lost := w.lost + w.open_.length + (w.tail - w.head).toNat }
    s.owe w.cq.toNat (-(w.open_.length : Int))

/-- Discard what an instance and its rings have parked (R333, R554): its operations' records count as lost. -/
def State.dropParked (s : State) (i : Nat) : State :=
  let gone := fun (c : Cq) (r : Rec) => c.inst == some i || r.inst == some i
  let dead := s.cqs.flatMap fun e => e.2.parked.filter fun r => gone e.2 r && r.recKind == 0
  let s := { s with cqs := tmap s.cqs fun _ c => { c with parked := c.parked.filter fun r => !gone c r } }
  let s := dead.foldl (fun (s : State) r => s.modWq r.queue.toNat fun w => if w.instOf = some i then { w with lost := w.lost + 1 } else w) s
  (s.cqs.filter fun e => e.2.inst == some i).foldl (fun (s : State) e => s.updateWait e.1) s

/-- Empty an instance's contexts (R554, point 5). -/
def State.emptyCtxs (s : State) (i : Nat) : State :=
  let m := s.matching
  { s with matching := { m with
      ctxs := tmap (m.ctxs.filter fun e => !(e.1 / 64 == i && e.2.state == 3)) fun k c =>
        if k / 64 = i then { c with posted := [], onDie := 0, unexp := [], claimed := [], active := [], held := [], demoting := none, missed := 0, state := 1 } else c
      streams := m.streams.map fun e => if addrModule e.key.dst = s.routing.moduleId ∧ addrInst e.key.dst = i then { e with held := [] } else e
      sends := m.sends.filter fun e => addrInst e.1.src != i
      chains := m.chains.filter fun o => o.inst != i } }

/-- Zero an instance's Tallies and disarm them (R554, point 6). -/
def State.zeroTallies (s : State) (i : Nat) : State :=
  (s.remote.tallies.filter fun e => e.2.allocated && e.2.inst.toNat == i).foldl (fun (s : State) e =>
    (s.disarm e.1).modTally e.1 fun t => { t with value := 0, mirrorDirty := false, fireRecs := [], heldAdds := [] }) s

/-- Take an instance's objects away and free its number (R546, steps 2 and 3). -/
def State.freeInst (s : State) (i : Nat) : State :=
  let x := s.inst i
  let result := s.instResult i 0
  let s := (s.matching.ctxs.filter fun e => e.1 / 64 == i).foldl (fun (s : State) e => s.closeCtx e.1 false) s
  let s := (s.chansOf i).foldl (fun (s : State) n =>
    let s := s.dropChan n
    { s with draw := { s.draw with chans := tdel s.draw.chans n } }) s
  let s := (s.visesOf i).foldl (fun (s : State) n => s.modVise n fun v => { v with inst := none }) s
  let s := if x.bound then s.setVectors x.fn 1 else s
  let s := { s with
    wqs := s.wqs.filter (fun e => e.2.instOf != some i)
    cqs := s.cqs.filter (fun e => e.2.inst != some i)
    matching := { s.matching with ctxs := s.matching.ctxs.filter (fun e => e.1 / 64 != i), eagerLimit := tdel s.matching.eagerLimit i }
    remote := { s.remote with windows := s.remote.windows.filter (fun e => e.1 / 4096 != i),
                              tallies := s.remote.tallies.filter fun e => e.2.inst.toNat != i }
    sched := { s.sched with shaping := s.sched.shaping.filter (fun e => e.1 / 4 != i), buckets := s.sched.buckets.filter fun e => e.1 / 4 != i }
    time := { s.time with admission := tdel s.time.admission i } }
  let s := (s.enter i .destroying).answerInst i 0 result
  let s := s.enter i .free
  s.modInst i fun x => { epoch := x.epoch, sweeping := x.sweeping, since := x.since }

/-- The end of a reset (R554, R556, R558), a Notice where it timed out (R712), and the end of the destruction that began it (R546). -/
def State.finishReset (s : State) (i : Nat) (timedOut : Bool) : State :=
  let qs := (s.wqs.filter fun e => e.2.instOf == some i).map (·.1)
  let s := qs.foldl (fun (s : State) q => s.retireQueue q) s
  let s := s.dropParked i
  let lost := (qs.map fun q => (q, ((s.wq q).map (·.lost)).getD 0)).filter fun e => e.2 != 0
  let s := s.modInst i fun x =>
    { x with epoch := x.epoch + 1, timedOut, sweeping := true, since := s.time.now, lostList := lost,
             abandoned := BitVec.ofNat 19 (min 524287 (sumOf (lost.map (·.2)))) }
  let s := s.enter i .held
  let cells := (s.matching.ctxs.filter fun e => e.1 / 64 == i).map fun e => e.2.homeCell.toNat
  let s := cells.foldl (fun (s : State) n => s.refill n) ((s.emptyCtxs i).zeroTallies i)
  let s := { s with
    remote := { s.remote with windows := tmap s.remote.windows fun k w => if k / 4096 = i then w &&& ~~~(1#256 <<< 117) else w }
    wqs := tmap s.wqs fun _ w => if w.instOf = some i then { w with lost := 0 } else w }
  let s := s.disableDomain i
  let s := if timedOut then s.raise { source := 1329, inst := some i } else s
  let s := if (s.port (s.inst i).port.toNat).present
    then lost.foldl (fun (s : State) e => s.queueEvent e.1 0x09 (BitVec.ofNat 32 e.2)) s else s
  let s := qs.foldl (fun (s : State) q => s.queueGone q) s
  let s := s.letIn .ok (s.heldCount + 1) |>.unfill
  if (s.inst i).destroy then s.freeInst i else s.answerInst i 0 (s.instResult i 0)

/-- R554: the in-flight count reaches zero; a sweep of an earlier epoch holds the end back (R556). -/
def execInstanceResetEnd (inst : Nat) (s : State) : Host.Outcome State Fault Refusal :=
  let x := s.inst inst
  if x.state = .resetting ∧ !x.sweeping ∧ s.inFlight inst = 0 then .next (s.finishReset inst false).serve else .next s

/-- R554, R556: 100 µs have passed. -/
def execInstanceResetTimeout (inst : Nat) (now : Ticks) (s : State) : Host.Outcome State Fault Refusal :=
  let s := s.advance now
  let x := s.inst inst
  if x.state = .resetting ∧ !x.sweeping ∧ us 100 ≤ (s.time.now - x.since).toNat then .next (s.finishReset inst true).serve else .next s

/-- R556: the sweep has freed all work of the earlier epochs. -/
def execEpochSweepEnd (inst : Nat) (s : State) : Host.Outcome State Fault Refusal :=
  let x := s.inst inst
  if !x.sweeping then .next s
  else
    let old := fun (e : BitVec 16) => e != x.epoch
    .next { s with
      remote := { s.remote with srcOps := s.remote.srcOps.filter (fun o => !(o.inst == inst && old o.epoch)),
                                openOps := s.remote.openOps.filter fun o => !(o.inst == inst && old o.epoch) }
      coll := { s.coll with groups := tmap s.coll.groups fun _ g => { g with ops := g.ops.map fun o =>
        { o with parts := o.parts.filter fun p => !(p.inst == inst && old p.epoch) } } }
      insts := tmod s.insts inst {} fun x => { x with sweeping := false } }

/-! ### Commands on a whole instance (R546, R559, R566, R819) -/

/-- The instance number and reserved bits of R819's word. -/
def instWordBad (w : Word) (query : Bool) : Option Nat :=
  firstBad ([(bits w 31 10 != 0, 10)] ++ if query then [(bits w 63 48 != 0, 48)] else [(bits w 63 32 != 0, 32)])

/-- R552, R819: reset an instance; the response follows the reset's end. -/
def execInstReset (c : Call) (word : Word) (s : State) : Host.Outcome State Fault Refusal :=
  s.fleso c 0x0304 (·.isM) fun _ s =>
    let i := bits word 9 0
    match instWordBad word false with
    | some o => (s, .badAt o)
    | none =>
      if (s.inst i).state = .free then (s, .err eNoObject)
      else ((s.beginReset i 4).modInst i fun x => { x with calls := x.calls ++ [(c, 0x0304)] }, .later)

/-- R819: an instance's state and its latest reset. -/
def execInstQuery (c : Call) (word : Word) (s : State) : Host.Outcome State Fault Refusal :=
  s.fleso c 0x0306 (·.isMHI) fun a s =>
    let i := bits word 9 0
    match instWordBad word true with
    | some o => (s, .badAt o)
    | none => if s.reaches a i then (s, .res (s.instResult i (bits word 47 32))) else (s, .err eNoAuthority)

/-- R559: reopen a held instance: its queues and rings run, its domain is enabled with what it holds. -/
def execInstReopen (c : Call) (inst : Nat) (s : State) : Host.Outcome State Fault Refusal :=
  s.fleso c 0x0305 (·.isMHI) fun a s =>
    let x := s.inst inst
    if 1024 ≤ inst then (s, .bad 0)
    else if !s.reaches a inst then (s, .err eNoAuthority)
    else if x.state ≠ .held then (s, .err eWrongState)
    else
      let rings := (s.cqs.filter fun e => e.2.inst == some inst).map (·.1)
      let s := { s with
        wqs := tmap s.wqs fun _ w => if w.instOf = some inst ∧ !w.destroying then { w with state := .running, errorCause := 0, wbDirty := true } else w
        cqs := tmap s.cqs fun _ r => if r.inst = some inst then { r with state := .running } else r
        trans := { s.trans with formats :=
          if (tget s.trans.roots inst).isSome then tset s.trans.formats inst (s.format inst ||| (1#64 <<< 52)) else s.trans.formats } }
      let s := s.enter inst .active
      (rings.foldl (fun (s : State) r => (s.drain r).updateWait r) s, .ok)

/-- R546: destroy an instance; a reset in progress is waited for. -/
def execInstDestroy (c : Call) (inst : Nat) (s : State) : Host.Outcome State Fault Refusal :=
  s.fleso c 0x0307 (·.isM) fun _ s =>
    if 1024 ≤ inst then (s, .bad 0)
    else if (s.inst inst).state = .free then (s, .err eNoObject)
    else ((s.beginReset inst 5).modInst inst fun x => { x with destroy := true, calls := x.calls ++ [(c, 0x0307)] }, .later)

/-- R566: quiesce an active instance: its queues are fenced, what is fetched goes on. -/
def execInstQuiesce (c : Call) (inst : Nat) (s : State) : Host.Outcome State Fault Refusal :=
  s.fleso c 0x0308 (·.isM) fun _ s =>
    let x := s.inst inst
    if 1024 ≤ inst then (s, .bad 0)
    else if x.state = .free then (s, .err eNoObject)
    else if x.state ≠ .active then (s, .err eWrongState)
    else
      let s := { s with wqs := tmap s.wqs fun _ w => if w.instOf = some inst ∧ !w.destroying then { w with state := .fenced, wbDirty := true } else w }
      (s.modInst inst fun x => { x with quiescing := true, calls := x.calls ++ [(c, 0x0308)] }, .later)

/-- R566: the in-flight count of a quiesced instance reaches zero. -/
def execInstanceQuiesceComplete (inst : Nat) (s : State) : Host.Outcome State Fault Refusal :=
  let x := s.inst inst
  if x.quiescing ∧ s.inFlight inst = 0 then
    .next ((s.modInst inst fun x => { x with quiescing := false }).enter inst .frozen |>.answerInst inst 0 []).serve
  else .next s

/-! ### Export and import (R567, R568) -/

/-- What an image holds: R567's sections. -/
structure Image where
  source   : Endpoint
  epoch    : BitVec 16
  wqs      : List (Nat × Wq)
  cqs      : List (Nat × Cq)
  windows  : List (Nat × BitVec 256)
  ctxs     : List (Nat × Ctx)
  tallies  : List Tally
  shaping  : List Word
  strokeClass : BitVec 4
  segments : List Nat
  deriving DecidableEq, Repr

end Sys2Proof.Machine

/-- The bytes of an image: R567 names the sections and gives their order and lengths no byte layout (assumption log 65). -/
opaque Sys2Proof.Config.imageBytes : Sys2Proof.Machine.Image → List Sys2Proof.Byte

/-- The image that bytes hold, if they hold one (R567). -/
opaque Sys2Proof.Config.imageOf : List Sys2Proof.Byte → Option Sys2Proof.Machine.Image

namespace Sys2Proof.Machine

open Sys2Proof

/-- The image of an instance. -/
def State.image (s : State) (i : Nat) : Image :=
  let x := s.inst i
  { source := endpointOf s.routing.moduleId x.port.toNat i
    epoch := x.epoch
    wqs := s.wqs.filter fun e => e.2.instOf == some i
    cqs := s.cqs.filter fun e => e.2.inst == some i
    windows := (s.remote.windows.filter fun e => e.1 / 4096 == i).map fun e => (e.1 % 4096, e.2)
    ctxs := (s.matching.ctxs.filter fun e => e.1 / 64 == i).map fun e => (e.1 % 64, e.2)
    tallies := (s.remote.tallies.filter fun e => e.2.allocated && e.2.inst.toNat == i).map (·.2)
    shaping := (List.range 3).map (s.sched.shape i)
    strokeClass := tgetD s.time.admission i 0
    segments := x.segments }

/-- R567: write a frozen instance's image into the report segment; the result is its offset and its length. -/
def execInstExport (c : Call) (inst : Nat) (s : State) : Host.Outcome State Fault Refusal :=
  s.fleso c 0x0309 (·.isM) fun _ s =>
    if 1024 ≤ inst then (s, .bad 0)
    else if (s.inst inst).state = .free then (s, .err eNoObject)
    else if (s.inst inst).state ≠ .frozen then (s, .err eWrongState)
    else
      let bs := Config.imageBytes (s.image inst)
      match s.allocArea c.via bs.length with
      | none => (s, .pool 0xff)
      | some (o, s) => (s.storeMem (reportBase + o) bs false, .res (leBytes 8 o ++ leBytes 8 bs.length))

/-- What an image uses of a row of R547. -/
def Image.uses (m : Image) (row : Nat) : Nat :=
  match row with
  | 0 => m.wqs.length
  | 1 => m.cqs.length
  | 2 => m.ctxs.length
  | 3 => m.tallies.length
  | 7 => m.segments.length
  | _ => 0

/-- Whether two numbers of an image are one, or the module uses one of them already. -/
def State.imageClash (s : State) (m : Image) : Bool :=
  m.wqs.any (fun e => (s.wq e.1).isSome || decide (Config.queueCount ≤ e.1)) || m.cqs.any fun e => (s.cq e.1).isSome || decide (Config.queueCount ≤ e.1)

/-- A tier 1 window moved from the source's granted segments to this module's, in the order each holds them (R568). -/
def rebase (from_ to_ : List Nat) (w : BitVec 256) : BitVec 256 :=
  if bit w 113 then
    let b := bits w 63 0
    let n := to_.getD (from_.idxOf (b / Config.segBytes)) 0
    (w &&& ~~~(BitVec.ofNat 256 (2 ^ 64 - 1))) ||| BitVec.ofNat 256 (n * Config.segBytes + b % Config.segBytes)
  else w

/-- Apply an image to an instance (R567, R568): its queues and rings wait for the reopen, its contexts are placed here. -/
def State.applyImage (s : State) (i : Nat) (m : Image) : State :=
  let x := s.inst i
  let s := m.cqs.foldl (fun (s : State) e =>
    let park := e.2.parked.map fun r => { r with inst := some i, epoch := x.epoch }
    { s with cqs := tset s.cqs e.1 { e.2 with owner := x.fn, inst := some i, parked := park, writing := [] } }) s
  let s := m.wqs.foldl (fun (s : State) e =>
    { s with wqs := tset s.wqs e.1 { e.2 with owner := x.fn, inst := BitVec.ofNat 10 i, destroyCall := none, state := .fenced } }) s
  let s := m.ctxs.foldl (fun (s : State) e =>
    let (cell, forced) := s.homeFor e.2.pin e.2.quadMask
    let k := i * 64 + e.1 % 64
    let ctx := { e.2 with homeCell := BitVec.ofNat 12 cell, placedAt := s.time.now, moving := none, held := [], demoting := none,
                          posted := e.2.posted.map fun r => { r with epoch := x.epoch }, onDie := 0 }
    ((({ s with matching := { s.matching with ctxs := tset s.matching.ctxs k ctx } }).refill cell).modCell cell fun z =>
      { z with objects := satInc z.objects }).logPlace 1 (if forced then 2 else 0) k noPlace cell 0 0) s
  let s := m.tallies.foldl (fun (s : State) t =>
    match freeKey s.remote.tallies Config.tallyCount with
    | none => s
    | some n => s.modTally n fun _ => { t with inst := BitVec.ofNat 10 i, cell := none, cellTier := false, moving := none }) s
  let wins := m.windows.foldl (fun t e => tset t (i * 4096 + e.1 % 4096) (rebase m.segments x.segments e.2)) s.remote.windows
  let s := (numbered m.shaping).foldl (fun (s : State) (e : Nat × Word) => s.putShaping (i * 4 + e.1) e.2) s
  let s := { s with
    remote := { s.remote with windows := wins }
    time := { s.time with admission := tset s.time.admission i m.strokeClass } }
  (s.disableDomain i).enter i .held

/-- R567: apply an image to a closed instance whose grants cover it. -/
def execInstImport (c : Call) (inst : Nat) (ref : DataRef) (s : State) : Host.Outcome State Fault Refusal :=
  s.fleso c 0x030a (·.isM) fun _ s =>
    if 1024 ≤ inst then (s, .bad 0)
    else if !s.refOk c.via ref then (s, .bad 1)
    else if (s.inst inst).state = .free then (s, .err eNoObject)
    else if (s.inst inst).state ≠ .closed then (s, .err eWrongState)
    else
      match Config.imageOf (s.refBytes ref) with
      | none => (s, .bad 1)
      | some m =>
        match (List.range 8).find? fun r => decide (s.grant inst r < m.uses r) with
        | some r => (s, .grant r)
        | none =>
          match (numbered m.shaping).findSome? fun e => s.shareFails inst (9 + e.1, shapeShare e.2) with
          | some r => (s, r)
          | none => if s.imageClash m then (s, .err eWrongState) else (s.applyImage inst m, .ok)

/-! ### The dirty-page log's commands (R561-R565) -/

/-- R561-R563: configure a log, or clear its overflow. A log named again as it is keeps its place. -/
def execDirtyLog (c : Call) (inst : Nat) (mode : BitVec 2) (base : Word) (k : Nat) (vaBase : Word) (clearOverflow : Bool) (s : State) :
    Host.Outcome State Fault Refusal :=
  s.fleso c 0x030b (·.isMH) fun a s =>
    let x := s.inst inst
    if 1024 ≤ inst then (s, .bad 0)
    else if !s.reaches a inst then (s, .err eNoAuthority)
    else if x.state = .free then (s, .err eNoObject)
    else if mode = 3 then (s, .bad 1)
    else if (mode = 1 ∧ (k < 19 ∨ 37 < k)) ∨ (mode = 2 ∧ (k < 6 ∨ 20 < k)) then (s, .bad 3)
    else if mode = 1 ∧ base.toNat % 4096 ≠ 0 then (s, .bad 2)
    else if mode = 1 ∧ vaBase.toNat % (4096 * 2 ^ k) ≠ 0 then (s, .bad 4)
    else
      let va := if mode = 1 then vaBase else 0
      let same := x.logMode = mode ∧ x.logBase = base ∧ x.logK.toNat = k ∧ x.vaBase = va
      let s := s.modInst inst fun x => if same then x else
        { x with logMode := mode, logBase := base, logK := BitVec.ofNat 6 k, vaBase := va, logTail := 0, logHead := 0, logLost := 0 }
      (s.modInst inst fun x => { x with overflow := x.overflow && !clearOverflow }, .ok)

/-- R565: every page entered before is globally observed: the log's writes are made as pages are entered. -/
def execDirtyFlush (c : Call) (inst : Nat) (s : State) : Host.Outcome State Fault Refusal :=
  s.fleso c 0x030c (·.isMH) fun a s =>
    if 1024 ≤ inst then (s, .bad 0)
    else if !s.reaches a inst then (s, .err eNoAuthority)
    else if (s.inst inst).state = .free then (s, .err eNoObject)
    else (s, .ok)

end Sys2Proof.Machine
end

