-- ==== Sys2Proof/Machine/Host.lean ====
section
/-! DEFINITION. Host ports (06): links, configuration, snoops, CXL.mem and back-invalidation, timeouts, vanishing, function
resets, GPF, MSI-X, data object exchange. -/

namespace Sys2Proof.Machine

open Sys2Proof

/-! ### Segments (R264-R268) -/

/-- Answer the SEGMENT_EXPOSE commands whose lost heads track no line of their segment any more. -/
def State.exposeDone (s : State) : State :=
  let busy := fun (e : Call × Nat × BitVec 4) => (List.range 4).any fun h =>
    !bit e.2.2 h && (s.port h).tracked.any fun l => l * 64 / Config.segBytes == e.2.1
  let ready := s.hearth.exposing.filter fun e => !busy e
  let s := { s with hearth := { s.hearth with exposing := s.hearth.exposing.filter busy } }
  ready.foldl (fun (s : State) e => s.answer e.1.via e.1.seq 0x030d 0 []) s

/-- Send the BISnps that the SEGMENT_EXPOSE commands in progress still need. -/
def State.exposeSnoop (s : State) : State :=
  s.hearth.exposing.foldl (fun (s : State) e => (List.range 4).foldl (fun (s : State) h =>
    if bit e.2.2 h then s
    else ((s.port h).tracked.filter fun l => l * 64 / Config.segBytes == e.2.1).foldl (fun (s : State) l => s.biSnoop h l) s) s) s

/-- R264, R266-R268: expose a segment to a set of heads; the response follows every BISnp that the heads that lose it need. -/
def execSegmentExpose (c : Call) (segment : Nat) (heads : BitVec 4) (s : State) : Host.Outcome State Fault Refusal :=
  s.fleso c 0x030d (·.isM) fun _ s =>
    let narrow := (List.range 4).any fun h => bit heads h && (s.port h).linkUp && (s.port h).flitMode == 0
    let shared := (List.range 4).countP fun h => bit heads h
    if 512 ≤ segment then (s, .bad 0)
    else if segment < 3 then (s, .err eWrongState)
    else if narrow ∧ 1 < shared then (s, .err eWrongState)
    else if heads = 0 ∧ s.insts.any fun e => e.2.segments.contains segment then (s, .err eWrongState)
    else
      let s := { s with
        segments := if heads = 0 then tdel s.segments segment else tset s.segments segment heads
        hearth := { s.hearth with exposing := s.hearth.exposing ++ [(c, segment, heads)] } }
      (s.exposeSnoop.exposeDone, .later)

/-- R274: set a host port's HOST.CFG. -/
def execHostCfg (c : Call) (port : Nat) (word : Word) (s : State) : Host.Outcome State Fault Refusal :=
  s.fleso c 0x030e (·.isM) fun _ s =>
    let h := bits word 19 0
    let b := bits word 31 20
    if 4 ≤ port then (s, .bad 0)
    else if h < 100 ∨ 1000000 < h then (s, .bad 1)
    else if b < 10 then (s, .bad 2)
    else if bits word 63 32 ≠ 0 then (s, .bad 3)
    else (s.modPort port fun p => { p with hostTimeoutUs := BitVec.ofNat 20 h, biTimeoutUs := BitVec.ofNat 12 b }, .ok)

/-- Bytes of the report window of head h (R265): those of areas that its functions own; others read zero. -/
def State.windowByte (s : State) (h a : Nat) : Byte :=
  let mine := s.hearth.areas.any fun r => Arrival.head r.owner == some h && decide (r.offset ≤ a) && decide (a < r.offset + r.length)
  if mine then memGet s.mem (reportBase + a) else 0

/-- Whether CXL.mem of a head is in use: the link is up and the host has set Mem_Enable (R249). -/
def State.memOn (s : State) (h : Nat) : Bool := h < 4 && (s.port h).linkUp && (s.port h).memEnabled

/-- Track a line for a head in 256-byte flit mode (R266, R268). -/
def State.track (s : State) (h l : Nat) : State :=
  if (s.port h).flitMode = 0 then s else s.modPort h fun p => { p with tracked := nset p.tracked l }

/-- Whether a detector of module memory halted the module (R731). -/
def State.memHalt (s : State) : Bool := s.quench.haltBy.any fun d => decide (1152 ≤ d ∧ d < 1216)

/-- Serve one accepted CXL.mem request (R265, R266, R268, R270, R731): the state, and whether it is done. It waits while another head
holds a line of it, or while the snoop filter has no room; a segment that is not exposed to the head is not reached. -/
def State.memOne (s : State) (head : Nat) (r : MemReq) : State × Bool :=
  let p := s.port head
  let l := r.addr / 64
  let heldBy := fun (l : Nat) => (List.range 4).any fun h => h != head && (s.port h).tracked.contains l
  match r.write with
  | none =>
    if r.window then
      (s.emit (.memData head ((List.range 64).map fun i => s.windowByte head (r.addr + i)) (s.memHalt || s.memPoisoned (reportBase + r.addr) 64)), true)
    else if !bit (s.exposed (r.addr / Config.segBytes)) head then (s, true)
    else if heldBy l then (s.snoopOut head [l], false)
    else if p.flitMode ≠ 0 ∧ !p.tracked.contains l ∧ Config.trackedMax ≤ p.tracked.length then
      if p.biPending.isEmpty then
        let (n, s) := s.drawFree p.tracked.length
        (s.biSnoop head (p.tracked.getD n 0), false)
      else (s, false)
    else ((s.track head l).emit (.memData head (memRead s.mem r.addr 64) (s.memHalt || s.memPoisoned r.addr 64)), true)
  | some data =>
    let lines := linesOf r.addr data.length
    if r.window then ((s.raiseAt (1024 + 32 * head + 8) head).emit (.memDone head), true)
    else if !lines.all fun l => bit (s.exposed (l * 64 / Config.segBytes)) head then (s, true)
    else if lines.any heldBy then (s.snoopOut head lines, false)
    else (((s.storeMem r.addr data false).count 0x8012 head 0 data.length).emit (.memDone head), true)

/-- Serve a head's accepted CXL.mem requests, in order of arrival. -/
def State.serveMem (s : State) (head : Nat) : State :=
  (s.port head).m2s.foldl (fun (s : State) r =>
    let (t, done) := s.memOne head r
    if done then t.modPort head fun p => { p with m2s := p.m2s.erase r } else t) s

/-- Serve every head: a line that another one held is free. -/
def State.serveAllMem (s : State) : State := (List.range 4).foldl (fun (s : State) h => s.serveMem h) s

/-- A CXL.mem request of a head arrives (R250, R269): without a credit of its kind the host has none to send. -/
def State.memCome (s : State) (head : Nat) (foreign : Bool) (r : MemReq) : State :=
  if !s.memOn head then s
  else if foreign then s.raiseAt (1024 + 32 * head + 1) head
  else if Config.m2sCredits ≤ (s.port head).m2s.countP fun x => x.write.isSome == r.write.isSome then s
  else (s.modPort head fun p => { p with m2s := p.m2s ++ [r] }).serveMem head

/-- Bytes that CXL.mem addresses reach: module memory, or the report window. -/
def memSpan (window : Bool) : Nat := if window then Config.segBytes else Config.memBytes

/-- R250, R265, R266, R268-R270, R731: a CXL.mem read. -/
def execCxlMemRead (head : Nat) (foreign window : Bool) (offset : Word) (s : State) : Host.Outcome State Fault Refusal :=
  let a := offset.toNat / 64 * 64
  if s.memOn head && !foreign && decide (memSpan window ≤ a) then .fault .noSuchAddress
  else .next (s.memCome head foreign { window, addr := a, write := none })

/-- R250, R265, R266, R268-R270: a CXL.mem write; one to the report window is discarded. -/
def execCxlMemWrite (head : Nat) (foreign window : Bool) (offset : Word) (data : List Byte) (s : State) : Host.Outcome State Fault Refusal :=
  let a := offset.toNat
  if s.memOn head && !foreign && decide (memSpan window < a + data.length) then .fault .noSuchAddress
  else .next (s.memCome head foreign { window, addr := a, write := some data })

/-- R268: a BIRsp releases a line. -/
def execBirsp (head line : Nat) (s : State) : Host.Outcome State Fault Refusal :=
  if !(s.port head).biPending.contains line then .next s
  else
    .next ((s.modPort head fun p => { p with biPending := p.biPending.erase line, tracked := ndel p.tracked line }).exposeSnoop.exposeDone.serveAllMem.resumeReads).serve

/-! ### Vanishing (R283-R289) -/

/-- Give back what a port's work queues had asked for. -/
def State.dropReads (s : State) (port : Nat) : State :=
  (s.wqs.filter fun e => e.2.owner.port == port && e.2.reading.isSome).foldl (fun (s : State) e =>
    (s.modWq e.1 fun w => { w with reading := none }).owe e.2.cq.toNat (-1)) s

/-- Break the vises of a port's physical function and of its channels (R660). -/
def State.breakPf (s : State) (port : Nat) : State :=
  let s := s.breakIdentity (idPf port)
  (s.draw.chans.filter fun e => e.2.ownerKind == 1 && e.2.owner.toNat == port && e.2.state != .unallocated).foldl
    (fun (s : State) e => s.breakIdentity (idChan e.1)) s

/-- Free the slots of every function of a port (R609). -/
def State.freePortSlots (s : State) (port : Nat) : State :=
  (allFns.filter fun f => f.port == port).foldl (fun (s : State) f => s.freeSlots f) s

/-- A port vanishes (R285), having met R283 before: change says what took its presence away. -/
def State.vanish (s : State) (port : Nat) (cause : BitVec 3) (change : HostPort → HostPort) : State :=
  if !portMeets (s.port port) then s.modPort port change
  else
    let dirty := (s.port port).cache.length
    let s := s.dropReads port
    let s := (s.cqs.filter fun e => e.2.owner.port == port).foldl (fun (s : State) e => s.unwrite e.1) s
    let s := s.modPort port fun p => { change p with
      present := false, lapsed := false, writeFailed := false, vanishCount := satInc p.vanishCount, lastCause := cause, dirtyLost := p.dirtyLost + p.cache.length,
      cache := [], d2h := [], d2hWait := [], m2s := [], tracked := [], biPending := [] }
    let s := { s with trans := { s.trans with
        active := s.trans.active.filter fun w => s.domainPort w.domain != port, held := s.trans.held.filter fun w => s.domainPort w.domain != port } }
    let s := ((s.trans.locks.filter fun j => s.domainPort j.domain == port).foldl (fun (s : State) j => s.lockFail j.id 4) s).resumeWalks
    let s := (s.insts.filter fun e => e.2.state != .free && e.2.port.toNat == port).foldl (fun (s : State) e => s.beginReset e.1 3) s
    let s := ((s.freePortSlots port).breakPf port).drawLost port |>.exposeDone.serveAllMem.resumeReads
    let s := s.raise { source := 1024 + 32 * port + 7, unit := port, breakCode := if dirty = 0 then 0 else 11 }
    s.adjustMode

/-- What a link that goes down leaves: the host's enables, the addresses it assigned and the secure state are gone (R249, R280). -/
def linkLost (p : HostPort) : HostPort :=
  { p with linkUp := false, ready := false, cacheEnabled := false, memEnabled := false, bme := false, ideActive := false, tracked := [],
           biPending := [], m2s := [], bar0 := none, vfBar0 := none, hdm := [] }

/-- R284: the link goes down. -/
def execHostLinkDown (port : Nat) (s : State) : Host.Outcome State Fault Refusal :=
  if port < 4 ∧ (s.port port).linkUp then .next (s.vanish port 1 linkLost).serve else .next s

/-- R284: a hot or secondary bus reset. -/
def execHotReset (port : Nat) (s : State) : Host.Outcome State Fault Refusal :=
  if port < 4 ∧ (s.port port).linkUp then .next (s.vanish port 2 linkLost).serve else .next s

/-- R280: an IDE integrity check fails; only a new training and a new key exchange bring the port back. -/
def execIdeFailure (port : Nat) (s : State) : Host.Outcome State Fault Refusal :=
  if port < 4 ∧ (s.port port).ideActive then
    .next ((s.raiseAt (1024 + 32 * port + 3) port).vanish port 4 fun p => { linkLost p with ideRequired := true, ideKeys := [] }).serve
  else .next s

/-- R268: a BIRsp is missing past bi_timeout_us. -/
def execBiTimeout (head : Nat) (s : State) : Host.Outcome State Fault Refusal :=
  if (s.port head).biPending.isEmpty then .next s
  else .next ((s.raiseAt (1024 + 32 * head + 4) head).vanish head 5 fun p => { p with tracked := [], biPending := [], silenced := true }).serve

/-- R284: Bus Master Enable or Cache_Enable is cleared on the physical function. -/
def State.clearEnable (s : State) (port : Nat) (cache : Bool) : State :=
  s.vanish port 6 fun p => if cache then { p with cacheEnabled := false } else { p with bme := false }

/-- R284: the same as an event of the link. -/
def execBmeClear (port : Nat) (cache : Bool) (s : State) : Host.Outcome State Fault Refusal :=
  if port < 4 ∧ (s.port port).linkUp then .next (s.clearEnable port cache).serve else .next s

/-- R283, R288, R252, R290: a port that meets R283 becomes present; parked records of its rings are written. -/
def execPortPresent (port : Nat) (s : State) : Host.Outcome State Fault Refusal :=
  let p := s.port port
  let mode := s.hearth.mode
  if 4 ≤ port || !portMeets p || p.present || mode == .isolated || mode == .diagnostic then .next s
  else
    let s := (s.modPort port fun p => { p with present := true }).adjustMode
    .next ((s.cqs.filter fun e => e.2.owner.port == port).foldl (fun (s : State) e => (s.drain e.1).missedArrivals e.1) s)

/-! ### Timeouts (R273) -/

/-- A write that the engine of a tag made fails: what waits for it is known by its own state. -/
def State.writeFails (s : State) (port : Nat) (tag : D2hTag) : Bool :=
  match tag with
  | .record ring => ((s.cq ring).map fun c => !c.writing.isEmpty && c.owner.port == port).getD false
  | .writeBack true n => ((s.cq n).map fun c => c.wbDirty && c.owner.port == port).getD false
  | .writeBack false n => ((s.wq n).map fun w => w.wbDirty && w.owner.port == port).getD false
  | .write => (s.port port).writeFailed
  | .mirror t => (s.tally t).mirrorDirty && (s.inst (s.tally t).inst.toNat).port.toNat == port
  | _ => false

/-- The state of an outcome, or the state before. -/
def nextOr (s : State) : Host.Outcome State Fault Refusal → State
  | .next t => t
  | _ => s

/-- A D2H request fails: the requesting engine proceeds under its own chapter (R273). -/
def State.d2hFails (s : State) (port : Nat) (tag : D2hTag) : State :=
  match tag with
  | .descriptor wq _ => nextOr s (execDescriptorReadComplete wq .failed s)
  | .write => s.modPort port fun p => { p with writeFailed := false }
  | .walk id => nextOr s (execWalkEntryRead id .failed s)
  | .adLine id =>
    match s.trans.active.find? fun w => w.id == id && w.entry.isSome && !w.owned with
    | some w => ((s.dropD2h port tag).walkFault w 4 w.level).resumeWalks
    | none => s.dropD2h port tag
  | .record ring => s.ringError ring
  | .writeBack _ _ => s.raiseAt (1024 + 32 * port + 9) port
  | .mirror t => nextOr s (execTallyMirrorWrite t .failed s)
  | .drawProgram ch => nextOr s (execDrawSetCommit ch .failed s)
  | .other _ => s.dropD2h port tag
  | _ => nextOr s (execPayloadReadReturn port tag .failed s)

/-- Whether the engine of a tag notes the failure itself, with its Mend, as it does when its own command brings it (R273). -/
def noted : D2hTag → Bool
  | .record _ | .writeBack _ _ | .adLine _ | .other _ => false
  | _ => true

/-- R273: a request's wait expires; a host that sent nothing during it vanishes. -/
def execD2hTimeout (port : Nat) (tag : D2hTag) (silent : Bool) (s : State) : Host.Outcome State Fault Refusal :=
  if 4 ≤ port || !(s.reading port tag || s.writeFails port tag) then .next s
  else
    let s := (if noted tag then s else s.raiseAt (1024 + 32 * port + 2) port).d2hFails port tag
    .next (if silent then (s.vanish port 3 fun p => { p with silenced := true }).serve else s)

/-! ### The link (R247-R253, R795) -/

/-- Whether the port may train (R252, R727, R795): Hearth boot has passed its self-test. -/
def State.hostTrains (s : State) (port : Nat) : Bool :=
  let p := s.port port
  port < 4 && !p.perst && !p.fenced && s.hearth.selfTested &&
  match s.hearth.mode with
  | .off | .standby | .hearthBoot | .cracked => false
  | _ => true

/-- The first row of R247's table that the host's negotiation allows, of the rows in allowed: flit mode, and whether at 64 GT/s. -/
def firstMode (allowed : BitVec 4) : Option (BitVec 2 × Bool) :=
  if bit allowed 0 then some (2, true) else if bit allowed 1 then some (1, true) else if bit allowed 2 then some (1, false)
  else if bit allowed 3 then some (0, false) else none

/-- In 68-byte mode a head shares no segment (R267): those that it shares are its own no more (assumption log 117). -/
def State.unshare (s : State) (head : Nat) : State :=
  { s with segments := tmap s.segments fun _ heads =>
      if bit heads head && 1 < (List.range 4).countP (fun h => bit heads h) then heads &&& ~~~(1#4 <<< head) else heads }

/-- R247-R249, R252, R253: the link reaches L0 in the first mode that the host allows, at a width of R248 (3: none); the port sends
Device Readiness Status, then or when the command comes again. -/
def execCxlLinkUp (port : Nat) (allowed : BitVec 4) (width : BitVec 2) (mem ready : Bool) (s : State) : Host.Outcome State Fault Refusal :=
  let p := s.port port
  if !s.hostTrains port then .next s
  else if p.linkUp then
    .next (if ready && !p.ready then (s.modPort port fun p => { p with ready := true }).emit (.readiness port) else s)
  else
    match firstMode allowed with
    | none => .next (s.raiseAt (1024 + 32 * port) port)
    | some (flitMode, rate64) =>
      if width = 3 then .next (s.raiseAt (1024 + 32 * port) port)
      else
        let s := s.modPort port fun p =>
          { p with linkUp := true, ready, silenced := false, flitMode, rate64, width, writesStopped := false, memDeclined := !mem }
        let s := if flitMode = 0 then s.unshare port else s
        .next (if ready then s.emit (.readiness port) else s)

/-- R248, R249: a link that cannot reach the limits, or whose host declines CXL.io or CXL.cache, stays down. -/
def execCxlLinkTrainingFailed (port : Nat) (_declined : Bool) (s : State) : Host.Outcome State Fault Refusal :=
  if !s.hostTrains port || (s.port port).linkUp then .next s else .next (s.raiseAt (1024 + 32 * port) port)

/-- Overlay fields of (low bit, width, value) on a register. -/
def overlay (v : Nat) (l : List (Nat × Nat × Nat)) : Nat :=
  l.foldl (fun v f => v - fieldAt v f.1 f.2.1 * 2 ^ f.1 + f.2.2 % 2 ^ f.2.1 * 2 ^ f.1) v

/-- The fields that the spec gives the configuration register at an offset of a function (R249, R254-R258, R278), by PCI Express's and
CXL's layouts (assumption log 67): identity, Bus Master Enable, the BARs, the extended capabilities' IDs, the counts of SR-IOV, the
IDE streams, and the DVSECs' vendors, IDs and contents. -/
def State.configFields (s : State) (port : Nat) (vf : Option Nat) (offset : Nat) : List (Nat × Nat × Nat) :=
  let p := s.port port
  let base := fun (b : Option Word) => ((b.map (·.toNat)).getD 0)
  let merham := match offset with
    | 0x2a0 => [(0, 16, 0x0023)]
    | 0x2a4 => [(0, 16, 0xe6a3)]
    | 0x2a8 => [(0, 16, 0x0001)]
    | 0x2ac => [(0, 32, port + 4 * bnat (port == 0 && vf.isNone && s.h0Manager))]
    | _ => []
  match vf, offset with
  | some _, 0x000 => [(0, 32, 0xe6a3 + 65536 * 0x0065)]
  | _, 0x008 => [(0, 32, 0x41 + 256 * 0x028000)]
  | some _, _ => merham
  | none, 0x000 => [(0, 32, 0xe6a3 + 65536 * 0x0064)]
  | none, 0x004 => [(2, 1, bnat p.bme)]
  | none, 0x010 => [(0, 32, base p.bar0 % 2 ^ 32 + 4)]
  | none, 0x014 => [(0, 32, base p.bar0 / 2 ^ 32)]
  | none, 0x018 | none, 0x01c | none, 0x020 | none, 0x024 => [(0, 32, 0)]
  | none, 0x100 => [(0, 16, 0x0001)]
  | none, 0x148 => [(0, 16, 0x0010)]
  | none, 0x154 => [(0, 16, 256), (16, 16, 256)]
  | none, 0x15c => [(0, 16, 1), (16, 16, 1)]
  | none, 0x160 => [(16, 16, 0x0065)]
  | none, 0x16c => [(0, 32, base p.vfBar0 % 2 ^ 32 + 4)]
  | none, 0x170 => [(0, 32, base p.vfBar0 / 2 ^ 32)]
  | none, 0x188 => [(0, 16, 0x002e)]
  | none, 0x1c0 => [(0, 16, 0x0030)]
  | none, 0x1c4 => [(0, 2, 1), (6, 1, 1), (8, 5, 0), (13, 3, 0)]
  | none, 0x200 | none, 0x240 | none, 0x260 | none, 0x280 => [(0, 16, 0x0023)]
  | none, 0x204 | none, 0x244 | none, 0x264 | none, 0x284 => [(0, 16, 0x1e98)]
  | none, 0x208 => [(0, 16, 0x0000), (16, 1, 1), (18, 1, 1), (20, 2, 2)]
  | none, 0x20c => [(0, 1, bnat p.cacheEnabled), (2, 1, bnat p.memEnabled)]
  | none, 0x248 => [(0, 16, 0x0005)]
  | none, 0x268 => [(0, 16, 0x0007)]
  | none, 0x288 => [(0, 16, 0x0008)]
  | none, _ => merham

/-- A configuration register of a function: its known fields over a free value. -/
def State.configWord (s : State) (port : Nat) (vf : Option Nat) (offset : Nat) : Word × State :=
  let (v, s) := s.drawFree (2 ^ 32)
  (BitVec.ofNat 64 (overlay v (s.configFields port vf offset)), s)

/-- A write of a CXL component or device register of a physical function's BAR0 (R257): the register keeps it. -/
def State.setComponent (s : State) (port : Nat) (vf : Option Nat) (offset : Nat) (v : BitVec 32) : State :=
  match windowOf { port, vf } offset with
  | some (.component, _) | some (.device, _) => s.modPort port fun p => { p with components := tset p.components (offset / 4 * 4) v }
  | _ => s.badWrite

/-- R250, R253, R254, R256: a configuration request; before readiness it draws Retry Status. -/
def execCxlConfigRequest (port : Nat) (vf : Option Nat) (req : CfgReq) (s : State) : Host.Outcome State Fault Refusal :=
  let p := s.port port
  let ok := fun (s : State) (v : Word) => s.emit (.cfgCompletion port vf (some v))
  if 4 ≤ port || !p.linkUp || vf.any fun v => decide (256 ≤ v) then .next s
  else if req = .pbrOrLd then .next (s.raiseAt (1024 + 32 * port + 1) port)
  else if !p.ready then .next (s.emit (.cfgCompletion port vf none))
  else
    match req with
    | .read o =>
      let (v, s) := s.configWord port vf o
      .next (ok s v)
    | .setBme on =>
      if vf.isSome then .next (ok s 0)
      else .next (ok (if on then s.modPort port fun p => { p with bme := true, silenced := false } else s.clearEnable port false) 0).serve
    | .setCache on =>
      if vf.isSome then .next (ok s 0)
      else .next (ok (if on then s.modPort port fun p => { p with cacheEnabled := true, silenced := false } else s.clearEnable port true) 0).serve
    | .setMem on => .next (ok (if vf.isSome then s else s.modPort port fun p => { p with memEnabled := on && !p.memDeclined }) 0)
    | .load o wide =>
      let (v, s) := s.barRead { port, vf } o wide
      .next (ok s (BitVec.ofNat 64 v))
    | .setReg o v => .next (ok (s.setComponent port vf o v) 0)
    | .setBar b => .next (ok (if vf.isSome then s else s.modPort port fun p => { p with bar0 := some (b &&& ~~~0x3ffffff#64) }) 0)
    | .setVfBar b => .next (ok (if vf.isSome then s else s.modPort port fun p => { p with vfBar0 := some (b &&& ~~~0xffff#64) }) 0)
    | .setHdm d b => .next (ok (if vf.isSome || 2 ≤ d then s else s.modPort port fun p => { p with hdm := tset p.hdm d (b &&& ~~~0xfffffff#64) }) 0)
    | .pbrOrLd => .next s

/-- R262: a snoop is answered from the device cache; a hit is written back. -/
def execH2dSnoop (port : Nat) (line : Word) (s : State) : Host.Outcome State Fault Refusal :=
  let p := s.port port
  if 4 ≤ port || !p.linkUp then .next s
  else
    match tget p.cache (line.toNat / 64) with
    | none => .next (s.emit (.snoopResp port line false none))
    | some d => .next ((s.modPort port fun p => { p with cache := tdel p.cache (line.toNat / 64) }).emit (.snoopResp port line true (some d)))

/-- R795: PERST_N falls and takes the link down, or rises and lets the port train. -/
def execPerstN (port : Nat) (high : Bool) (s : State) : Host.Outcome State Fault Refusal :=
  if 4 ≤ port then .next s
  else if high then .next (s.modPort port fun p => { p with perst := false })
  else .next ((s.vanish port 1 linkLost).modPort port fun p => { p with perst := true }).serve

/-- R795: HREFCLK shows no edge for 1 µs; the port runs SRIS. -/
def execHrefclkLoss (port : Nat) (s : State) : Host.Outcome State Fault Refusal :=
  .next (if port < 4 then s.modPort port fun p => { p with sris := true } else s)

/-- R795: HREFCLK toggles again. -/
def execHrefclkReturn (port : Nat) (s : State) : Host.Outcome State Fault Refusal :=
  .next (if port < 4 then s.modPort port fun p => { p with sris := false } else s)

/-! ### GPF (R271) -/

/-- Write back every line of a port's device cache, and stop new D2H writes (R271). -/
def State.writeBackCache (s : State) (port : Nat) : State :=
  ((s.port port).cache.foldl (fun (s : State) e => s.lineBack port e.1) s).modPort port fun p => { p with writesStopped := true }

/-- R271: phase 1 writes back every dirty line and stops new D2H writes. -/
def execGpfPhase1 (port : Nat) (s : State) : Host.Outcome State Fault Refusal :=
  if 4 ≤ port || !(s.port port).linkUp then .next s
  else
    .next ((s.writeBackCache port).emit (.gpfDone port 1))

/-- R271: phase 2 completes at once. -/
def execGpfPhase2 (port : Nat) (s : State) : Host.Outcome State Fault Refusal :=
  .next (if port < 4 ∧ (s.port port).linkUp then s.emit (.gpfDone port 2) else s)

/-! ### MSI-X, function resets (R277, R281, R282) -/

/-- R277: a vector is unmasked; its pending message is sent. -/
def execMsixUnmask (fn : Fn) (vector : Nat) (s : State) : Host.Outcome State Fault Refusal :=
  if 4 ≤ fn.port ∨ s.msixSize fn ≤ vector then .next s.badWrite
  else
    let pending := (s.msix fn).pending.contains vector
    let s := s.modPort fn.port fun p => { p with msix := tmod p.msix (fnKey fn) {} fun m =>
      { m with unmasked := nset m.unmasked vector, pending := ndel m.pending vector } }
    .next (if pending then s.signal fn vector else s)

/-- R281: a virtual function's reset resets the instance bound to it. -/
def execFlrVf (port vf : Nat) (s : State) : Host.Outcome State Fault Refusal :=
  if 4 ≤ port ∨ 256 ≤ vf then .next s
  else
    let s := match s.boundInst port vf with
      | some i => s.beginReset i 1
      | none => s
    .next (s.freeSlots { port, vf := some vf }).serve

/-- Whether a physical function owns a queue or a ring. -/
def ownedByPf (owner : Fn) (port : Nat) : Bool := owner == { port, vf := none }

/-- The queues and rings that a physical function owns for itself are gone, with what they held (R282, assumption log 68). -/
def State.dropPfQueues (s : State) (port : Nat) : State :=
  let mine := s.wqs.filter fun e => e.2.pfHeld && ownedByPf e.2.owner port
  let calls := mine.filterMap fun e => e.2.destroyCall
  let s := mine.foldl (fun (s : State) e => (s.dropFetched e.1).owe e.2.cq.toNat (-(e.2.open_.length : Int))) s
  let s := { s with
    wqs := s.wqs.filter (fun e => !(e.2.pfHeld && ownedByPf e.2.owner port))
    cqs := s.cqs.filter (fun e => !(e.2.inst.isNone && ownedByPf e.2.owner port))
    remote := { s.remote with srcOps := s.remote.srcOps.filter fun o => o.kind == .rdvRead || !mine.any fun e => e.1 == o.wq }
    counters := { s.counters with tagged := s.counters.tagged.filter fun t => !mine.any fun e => e.1 == t.queue } }
  calls.foldl (fun (s : State) c => s.answer c.via c.seq 0x0406 0 []) s

/-- R282: a physical function's reset resets every instance on the port and every queue the function owns. -/
def execFlrPf (port : Nat) (s : State) : Host.Outcome State Fault Refusal :=
  if 4 ≤ port then .next s
  else
    let s := (s.insts.filter fun e => e.2.state != .free && e.2.port.toNat == port).foldl (fun (s : State) e => s.beginReset e.1 2) s
    let s := (s.dropPfQueues port).freeSlots { port, vf := none }
    .next (s.breakPf port).serve

/-! ### Data object exchange (R278, R279, R645) -/

/-- An SPDM measurement (R645): the boot ROM's version, and hashes of the running image's header, of the role map, and of the
strap with the allowance. -/
def State.measurement (s : State) (index : Nat) : Option (BitVec 384) :=
  match index with
  | 1 => some Config.romVersion
  | 2 => some (Config.sha384 ((s.hearth.slotImage s.hearth.runningSlot).take 256))
  | 3 => some (Config.sha384 s.hearth.roleMap)
  | 4 => some (Config.sha384 (leBytes 1 (bnat s.hearth.mgrStrap) ++ s.hearth.allowance.flatMap fun c => leBytes 2 c.toNat))
  | _ => none

/-- A stream's go (R278): its mode, for CXL.cachemem; the link is in the secure state once both its streams are. -/
def HostPort.secured (p : HostPort) (stream : Nat) (skid : Bool) : HostPort :=
  let all := [0, 1].all fun k => ((tget p.ideKeys k).map (·.2)).getD false
  { p with ideSkid := if stream = 0 then skid else p.ideSkid, ideActive := all, ideRequired := p.ideRequired && !all }

/-- R278, R279: keys are set, both streams' go makes the link secure, a measurement is answered. -/
def execDoeSpdmRequest (port : Nat) (req : SpdmReq) (s : State) : Host.Outcome State Fault Refusal :=
  if 4 ≤ port || !(s.port port).ready || !s.hearth.ready then .next s
  else
    match req with
    | .ideKeyProg stream key =>
      .next (if stream < 2 then s.modPort port fun p => { p with ideKeys := tset p.ideKeys stream (key, false) } else s)
    | .ideKeyGo stream skid =>
      match tget (s.port port).ideKeys stream with
      | none => .next s
      | some k => .next (s.modPort port fun p => { p with ideKeys := tset p.ideKeys stream (k.1, true) }.secured stream skid)
    | .measurement index =>
      match s.measurement index with
      | none => .next s
      | some v => .next (s.emit (.spdm port index v))

end Sys2Proof.Machine
end

