-- ==== Sys2Proof/Machine/Settings.lean ====
section
/-! DEFINITION. The fabric manager's commands (01, 03, 04, 05): identity, wiring, routing banks, trees, holes, flow control,
Machine Time and Strokes. -/

namespace Sys2Proof.Machine

open Sys2Proof

/-- Manager authority, or Fabric authority that the allowance gives a command (R620). -/
def State.mayF (s : State) (op : BitVec 16) (a : Auth) : Bool := a.isM || (a == .fabric && s.fabricMay op)

/-! ### Routing banks (R122-R125, R634) -/

/-- The far end of port p of module m, spares included: this module's own with its declarations (R41). -/
def Routing.farOf (r : Routing) (m : ModId) (p : Nat) : FarEnd :=
  if m = r.moduleId then r.expected p
  else farEnd (r.pMinus1.toNat + 1) (r.gMinus1.toNat + 1) (r.mMinus1.toNat + 1) r.ws.toNat r.wg.toNat
    (idSuper m) (idGroup m) (idMember m) p

/-- Whether a far end is a module in which a test holds. -/
def FarEnd.leads (f : FarEnd) (ok : ModId → Bool) : Bool := (f.end_.map fun e => ok e.1).getD false

/-- First and last port of a table's tier: 0 group, 1 supergroup, 2 global. -/
def tierRange (t : Nat) : Nat × Nat := if t = 0 then (0, 14) else if t = 1 then (15, 38) else (39, 62)

/-- Whether a module lies where entry e of table t leads, seen from this module. -/
def Routing.inEntry (r : Routing) (t e : Nat) (m : ModId) : Bool :=
  if t = 0 then idSuper m == idSuper r.moduleId && idGroup m == idGroup r.moduleId && idMember m == e
  else if t = 1 then idSuper m == idSuper r.moduleId && idGroup m == e
  else idSuper m == e

/-- Whether R124 accepts a candidate of entry e of table t. -/
def Routing.candOk (r : Routing) (t e : Nat) (w : BitVec 32) : Bool :=
  let me := r.moduleId
  let p := candExit w
  let port := (tierRange t).1 ≤ p && p ≤ (tierRange t).2
  let own := r.inEntry t e me
  let x := modIdOf (idSuper me) (idGroup me) (candMember w)
  let y := modIdOf (idSuper me) (candGroup w) (candMember w)
  let at_ := fun (m : ModId) => r.valid m && port && (r.farOf m p).leads (r.inEntry t e)
  match candKind w with
  | 0 => w == 0
  | 1 => bits w 31 17 == 0 && !own && at_ me
  | 2 => bits w 31 17 == 0 && !own && x != me && (t != 0 || candMember w != e) && at_ x
  | _ => bits w 31 17 == 0 && !own && t == 2 && candGroup w != idGroup me && at_ y

/-- The first candidate of an entry that R122 or R124 refuses. -/
def Routing.badCand (r : Routing) (t e : Nat) (l : List (BitVec 32)) : Option Nat :=
  ((numbered l).find? fun c => !r.candOk t e c.2 || (c.2 != 0 && (l.take c.1).any (· == 0))).map (·.1)

/-- The eight candidates of entry e of the table that starts at a byte of a bank (R122, R634). -/
def candsAt (bs : List Byte) (base e : Nat) : List (BitVec 32) :=
  (List.range 8).map fun i => BitVec.ofNat 32 (leAt bs (base + 32 * e + 4 * i) 4)

/-- Where a table stands in a bank's bytes, and how many entries it has (R634). -/
def tablePlace (t : Nat) : Nat × Nat := if t = 0 then (0, 16) else if t = 1 then (512, 32) else (1536, 256)

/-- The entries of a table in a bank's bytes: those with a candidate. -/
def tableOf (bs : List Byte) (t : Nat) : Table (List (BitVec 32)) :=
  ((List.range (tablePlace t).2).map fun e => (e, (candsAt bs (tablePlace t).1 e).filter (· != 0))).filter fun e => !e.2.isEmpty

/-- The bank that bytes hold. -/
def bankOf (gen : BitVec 32) (bs : List Byte) : RouteBank :=
  { gen, group := tableOf bs 0, super := tableOf bs 1, global := tableOf bs 2 }

/-- R124: the first failing table, entry and candidate of a bank's bytes. -/
def Routing.checkBank (r : Routing) (bs : List Byte) : Option (Nat × Nat × Nat) :=
  [0, 1, 2].findSome? fun t => (List.range (tablePlace t).2).findSome? fun e =>
    (r.badCand t e (candsAt bs (tablePlace t).1 e)).map fun i => (t, e, i)

/-- A candidate word. -/
def candWord (kind exit member : Nat) : BitVec 32 := BitVec.ofNat 32 (kind + 4 * exit + 256 * member)

/-- R125: the default candidates of an entry: direct ones in port order, then by member, on ports whose far end is no spare. -/
def Routing.defaultEntry (r : Routing) (t e : Nat) : List (BitVec 32) :=
  let ports := (List.range ((tierRange t).2 + 1 - (tierRange t).1)).map ((tierRange t).1 + ·)
  let me := r.moduleId
  let real := fun (m : ModId) (p : Nat) => ((r.farOf m p).module).isSome
  let direct := (ports.filter fun p => real me p).map fun p => candWord 1 p 0
  let via := (List.range (r.mMinus1.toNat + 1)).flatMap fun x =>
    let m := modIdOf (idSuper me) (idGroup me) x
    if m = me then [] else (ports.filter fun p => real m p).map fun p => candWord 2 p x
  ((direct ++ via).filter fun w => r.candOk t e w).take 8

/-- R125: the default table set. -/
def Routing.defaultBank (r : Routing) : RouteBank :=
  let table := fun (t n : Nat) => ((List.range n).map fun e => (e, r.defaultEntry t e)).filter fun e => !e.2.isEmpty
  { gen := 1, group := table 0 (r.mMinus1.toNat + 1), super := table 1 (r.gMinus1.toNat + 1), global := table 2 (r.pMinus1.toNat + 1) }

/-! ### Identity and wiring (R31-R57, R814) -/

/-- Whether a shape and its widths keep R31 and R35. -/
def shapeOk (P G M ws wg : Nat) : Bool :=
  1 ≤ P && P ≤ 256 && 1 ≤ G && G ≤ 32 && 1 ≤ M && M ≤ 16 &&
  (if G = 1 then ws == 0 else 1 ≤ ws && ws ≤ 24 * M / (G - 1)) &&
  (if P = 1 then wg == 0 else 1 ≤ wg && wg ≤ 24 * G * M / (P - 1))

/-- R49-R51, R125: set the identity, install the default generation, repeat every identity check. -/
def execMachineIdentity (c : Call) (id : ModId) (pMinus1 gMinus1 mMinus1 ws wg : Nat) (s : State) : Host.Outcome State Fault Refusal :=
  s.fleso c 0x0101 (·.isM) fun _ s =>
    let mode := s.hearth.mode
    if mode ≠ .hearthBoot ∧ mode ≠ .linkBringup then (s, .errD eWrongMode (leBytes 1 (modeCode mode)))
    else if !shapeOk (pMinus1 + 1) (gMinus1 + 1) (mMinus1 + 1) ws wg then (s, .bad 1)
    else if !idValidIn (pMinus1 + 1) (gMinus1 + 1) (mMinus1 + 1) id then (s, .bad 0)
    else
      let r := { s.routing with
        idValid := true, moduleId := id, pMinus1 := BitVec.ofNat 8 pMinus1, gMinus1 := BitVec.ofNat 5 gMinus1,
        mMinus1 := BitVec.ofNat 4 mMinus1, ws := BitVec.ofNat 9 ws, wg := BitVec.ofNat 14 wg, declared := [], holes := [] }
      let r := { r with bank0 := {}, bank1 := r.defaultBank, activeGen := 1, activeBank := true, otherBank := .empty }
      let s := { s with routing := r, hearth := { s.hearth with idSince := s.time.now } }
      let s := ((List.range 64).foldl (fun (s : State) p => s.checkIdentity p) s).rejoinAll
      (s.announce.elect.bringupExit, .ok)

/-- R41, R814: declare the far end of one port. -/
def execPortReassign (c : Call) (word : Word) (s : State) : Host.Outcome State Fault Refusal :=
  s.fleso c 0x0102 (·.isM) fun _ s =>
    let p := bits word 5 0
    let far : ModId := BitVec.ofNat 17 (bits word 22 6)
    let fp := bits word 28 23
    let un := bit word 29
    match firstBad [(p == 63, 0), (if un then bits word 22 6 != 0 else s.routing.idValid && !s.routing.valid far, 6),
        (if un then fp != 0 else fp == 63, 23), (bits word 63 30 != 0, 30)] with
    | some o => (s, .badAt o)
    | none =>
      if !s.routing.idValid then (s, .err eWrongState)
      else
        let d : Declared := if un then .unwired else .link far fp
        let s := { s with routing := { s.routing with declared := tset s.routing.declared p d } }
        ((s.checkIdentity p).elect.announce.bringupExit, .ok)

/-- R57: set or clear holes. -/
def execHoleSet (c : Call) (first count : Nat) (set : Bool) (s : State) : Host.Outcome State Fault Refusal :=
  s.fleso c 0x0109 (s.mayF 0x0109) fun _ s =>
    if count < 1 ∨ 4096 < count then (s, .bad 1)
    else if 131072 < first + count then (s, .bad 0)
    else
      let keep := s.routing.holes.filter fun e => e.1 < first || first + count ≤ e.1
      let holes := if set then (List.range count).foldl (fun t i => tset t (first + i) ()) keep else keep
      ({ s with routing := { s.routing with holes } }, .ok)

/-! ### Generations (R150-R157), trees (R159), route settings (R169) -/

/-- table_rejected with table, entry, candidate (R621). -/
def Reply.table (t e cand : Nat) : Reply := .errD eTableRejected (leBytes 1 t ++ leBytes 1 0 ++ leBytes 2 e ++ leBytes 1 cand)
/-- wrong_generation with active_gen (R621). -/
def State.wrongGen (s : State) : Reply := .errD eWrongGeneration (leBytes 4 s.routing.activeGen.toNat)

/-- R124, R151, R152, R634: load a routing bank as pending, or adopt it at once. -/
def execRouteLoad (c : Call) (gen : BitVec 32) (adopt : Bool) (ref : DataRef) (s : State) : Host.Outcome State Fault Refusal :=
  s.fleso c 0x0103 (s.mayF 0x0103) fun _ s =>
    let r := s.routing
    let mode := s.hearth.mode
    let other := !r.activeBank
    if !s.refOk c.via ref ∨ ref.len ≠ 9728 then (s, .bad 2)
    else if adopt then
      if mode ≠ .linkBringup ∧ !isService mode then (s, .errD eWrongMode (leBytes 1 (modeCode mode)))
      else if r.swapScheduled then (s, .err eWrongState)
      else if gen = r.activeGen then (s, s.wrongGen)
      else
        match r.checkBank (s.refBytes ref) with
        | some (t, e, i) => (s, .table t e i)
        | none =>
          let g := bit gen 0
          let r := (r.setBank (!g) {}).setBank g (bankOf gen (s.refBytes ref))
          let s := { s with routing := { r with activeGen := gen, activeBank := g, otherBank := .empty } }
          (s.rejoinAll, .ok)
    else if gen ≠ r.activeGen + 1 then (s, s.wrongGen)
    else if r.otherBank = .retiring ∨ r.swapScheduled then (s, .err eWrongState)
    else
      match r.checkBank (s.refBytes ref) with
      | some (t, e, i) => ({ s with routing := { r.setBank other {} with otherBank := .empty } }, .table t e i)
      | none => ({ s with routing := { r.setBank other (bankOf gen (s.refBytes ref)) with otherBank := .pending } }, .ok)

/-- Whether an instant is less than 10 µs ahead (R153, R244). -/
def State.tooSoon (s : State) (t : Ticks) : Bool := decide (t.toNat < s.time.now.toNat + us 10)

/-- R153: schedule or cancel a swap. -/
def execRouteSwap (c : Call) (gen : BitVec 32) (at_ : Ticks) (cancel : Bool) (s : State) : Host.Outcome State Fault Refusal :=
  s.fleso c 0x0104 (s.mayF 0x0104) fun _ s =>
    let r := s.routing
    if cancel then
      if !r.swapScheduled then (s, .err eWrongState)
      else if gen ≠ r.swapGen then (s, s.wrongGen)
      else ({ s with routing := { r with swapScheduled := false } }, .ok)
    else if r.otherBank ≠ .pending ∨ (r.bank !r.activeBank).gen ≠ r.activeGen + 1 ∨ gen ≠ r.activeGen + 1 then (s, s.wrongGen)
    else if s.tooSoon at_ then (s, .err eTooSoon)
    else if r.swapScheduled then (s, .err eWrongState)
    else ({ s with routing := { r with swapScheduled := true, swapMissed := false, swapAt := at_, swapGen := gen } }, .ok)

/-- R137, R156, R167, R169: set ROUTE.DERAILLEUR and ROUTE.E2E. -/
def execRouteCfg (c : Call) (derailleur e2e : Word) (s : State) : Host.Outcome State Fault Refusal :=
  s.fleso c 0x0105 (·.isM) fun _ s =>
    let d := fun hi lo => bits derailleur hi lo
    let e := fun hi lo => bits e2e hi lo
    match firstBad [(d 7 0 == 0, 0), (d 13 12 == 3, 12), (d 15 14 == 3, 14), (d 17 16 == 3, 16), (decide (d 29 18 < 10), 18),
        (d 63 30 != 0, 30), (decide (e 13 0 < 2 ∨ 10000 < e 13 0), 64), (e 21 14 == 0, 64 + 14), (e 63 22 != 0, 64 + 22)] with
    | some o => (s, .badAt o)
    | none =>
      ({ s with routing := { s.routing with
          routeWaitUs := BitVec.ofNat 8 (d 7 0), nmBias := BitVec.ofNat 4 (d 11 8), modeTc0 := BitVec.ofNat 2 (d 13 12),
          modeTc1 := BitVec.ofNat 2 (d 15 14), modeTc2 := BitVec.ofNat 2 (d 17 16), retireUs := BitVec.ofNat 12 (d 29 18),
          timeoutUs := BitVec.ofNat 14 (e 13 0), resendLimit := BitVec.ofNat 8 (e 21 14) } }, .ok)

/-- R159: write a tree-table entry; tree 0 is always the group-only tree (assumption log 70). -/
def execTreeWrite (c : Call) (tree : Nat) (entry : BitVec 128) (s : State) : Host.Outcome State Fault Refusal :=
  s.fleso c 0x0106 (s.mayF 0x0106) fun _ s =>
    if tree = 0 ∨ 8192 ≤ tree then (s, .bad 0)
    else if bits entry 127 93 ≠ 0 then (s, .bad 1)
    else ({ s with routing := { s.routing with trees := tset s.routing.trees tree entry } }, .ok)

/-! ### Flow control (R175, R203) -/

/-- R175: set TILE.CREDIT_CFG of one tile or all, from the next training on, BELLOWS.CFG and SCHED.CFG. -/
def execFlowCfg (c : Call) (tile : Option Nat) (credit bellows sched : Word) (s : State) : Host.Outcome State Fault Refusal :=
  s.fleso c 0x0107 (·.isM) fun _ s =>
    let floor := bits credit 9 0
    let cap := bits credit 24 10
    let b := fun hi lo => bits bellows hi lo
    let k := fun hi lo => bits sched hi lo
    if tile.any fun t => decide (64 ≤ t) then (s, .bad 0)
    else if floor < 259 ∨ cap < floor ∨ 32768 < cap + 31 * floor ∨ bits credit 63 33 ≠ 0 then (s, .bad 1)
    else if b 3 0 < 1 ∨ 14 < b 3 0 ∨ b 7 4 ≤ b 3 0 ∨ b 14 8 < 1 ∨ 64 < b 14 8 ∨ b 63 15 ≠ 0 then (s, .bad 2)
    else if k 7 0 = 0 ∨ k 15 8 = 0 ∨ 8192 < k 31 16 ∨ k 63 32 ≠ 0 then (s, .bad 3)
    else
      let next := (BitVec.ofNat 10 floor, BitVec.ofNat 15 cap, BitVec.ofNat 8 (bits credit 32 25))
      let tiles := match tile with
        | some t => [t]
        | none => List.range 64
      let s := tiles.foldl (fun (s : State) p => s.modTile p fun t => { t with nextCredit := some next }) s
      ({ s with sched := { s.sched with
          onLevel := BitVec.ofNat 4 (b 3 0), hardLevel := BitVec.ofNat 4 (b 7 4), minFactor := BitVec.ofNat 7 (b 14 8),
          tc0Weight := BitVec.ofNat 8 (k 7 0), tc1Weight := BitVec.ofNat 8 (k 15 8), ejectSpillMib := BitVec.ofNat 16 (k 31 16) } }, .ok)

/-! ### Machine Time (R230, R246, R640) -/

/-- R640, R812: at a referenced master, the next PPS edge falls at the given second; the response follows it. -/
def execTimeSet (c : Call) (seconds : Word) (s : State) : Host.Outcome State Fault Refusal :=
  s.fleso c 0x0201 (·.isM) fun _ s =>
    let t := s.time
    if t.parent.isSome ∨ !t.refValid ∨ !s.routing.idValid then (s, .err eWrongState)
    else if 2 ^ 63 ≤ seconds.toNat * secTicks then (s, .bad 0)
    else ({ s with time := { t with timeSet := some seconds } }, .later)

/-- R246: set TIME.CFG; the election follows the new priority. -/
def execTimeCfg (c : Call) (word : Word) (s : State) : Host.Outcome State Fault Refusal :=
  s.fleso c 0x0202 (·.isM) fun _ s =>
    match firstBad [(bits word 63 27 != 0, 27)] with
    | some o => (s, .badAt o)
    | none =>
      let on := bit word 8
      let t := { s.time with priority := BitVec.ofNat 8 (bits word 7 0), refEnable := on, refValid := s.time.refValid && on,
                             notifyValid := bit word 9, notifyModule := BitVec.ofNat 17 (bits word 26 10) }
      (({ s with time := t }).elect, .ok)

/-- R230: set a port's asym_ticks. -/
def execTimePort (c : Call) (port : Nat) (asym : BitVec 16) (s : State) : Host.Outcome State Fault Refusal :=
  s.fleso c 0x0203 (·.isM) fun _ s =>
    if 64 ≤ port then (s, .bad 0)
    else (s.modTile port fun t => { t with time := { t.time with asym } }, .ok)

/-! ### Strokes (R235-R239, R244) -/

/-- R236: the first entry of a bank that breaks R235, or with which the cycle exceeds 2^48 ticks. -/
def badStroke : List (BitVec 128) → Nat → Nat → Option Nat
  | [], _, _ => none
  | e :: es, i, sum =>
    let len := bits e 39 0
    if len < 64000 ∨ 64000000000 < len ∨ bits e 63 56 ≠ 0 ∨ bit e 127 ∨ 2 ^ 48 < sum + len then some i else badStroke es (i + 1) (sum + len)

/-- R236, R244: load a Stroke table with its base into the inactive bank. -/
def execStrokeLoad (c : Call) (base : Ticks) (ref : DataRef) (s : State) : Host.Outcome State Fault Refusal :=
  s.fleso c 0x0204 (s.mayF 0x0204) fun _ s =>
    let n := ref.len.toNat / 16
    if !s.refOk c.via ref ∨ ref.len.toNat % 16 ≠ 0 ∨ n < 1 ∨ 64 < n then (s, .bad 1)
    else
      let es := (List.range n).map fun i => BitVec.ofNat 128 (leAt (s.refBytes ref) (16 * i) 16)
      match badStroke es 0 0 with
      | some i => (s, .table 3 i 0)
      | none =>
        let t := s.time
        let t := if t.strokeBank then { t with strokes0 := es } else { t with strokes1 := es }
        ({ s with time := { t with strokeBaseOther := base } }, .ok)

/-- R244: schedule or cancel a Stroke swap. -/
def execStrokeSwap (c : Call) (at_ : Ticks) (cancel : Bool) (s : State) : Host.Outcome State Fault Refusal :=
  s.fleso c 0x0205 (s.mayF 0x0205) fun _ s =>
    if cancel then
      if s.time.strokeSwap then ({ s with time := { s.time with strokeSwap := false } }, .ok) else (s, .err eWrongState)
    else if s.tooSoon at_ then (s, .err eTooSoon)
    else ({ s with time := { s.time with strokeSwap := true, strokeSwapAt := at_ } }, .ok)

/-- R238: load the admission table: 1,024 classes of 4 bits. -/
def execStrokeAdmit (c : Call) (ref : DataRef) (s : State) : Host.Outcome State Fault Refusal :=
  s.fleso c 0x0206 (·.isM) fun _ s =>
    if !s.refOk c.via ref ∨ ref.len ≠ 512 then (s, .bad 0)
    else
      let v := leNat (s.refBytes ref)
      let table := ((List.range 1024).map fun i => (i, BitVec.ofNat 4 (fieldAt v (4 * i) 4))).filter fun e => e.2 != 0
      ({ s with time := { s.time with admission := table } }, .ok)

/-- R239: Strokes in force or not. -/
def execStrokeEnable (c : Call) (enable : Bool) (s : State) : Host.Outcome State Fault Refusal :=
  s.fleso c 0x0207 (s.mayF 0x0207) fun _ s =>
    ({ s with time := { s.time with strokeEnable := enable, strokeIdx := (s.time.strokeAt s.time.now).map (·.1) } }, .ok)

end Sys2Proof.Machine
end

