-- ==== Sys2Proof/Machine/Quench.lean ====
section
/-! DEFINITION. Quench (18): detectors, classes, windows, reactions, records, fences, injections, the crack area. -/

namespace Sys2Proof.Machine

open Sys2Proof

/-! ### Detectors and their policies (R711-R714, R722) -/

/-- Base classes of the blocks of R712, by first detector: 0 Notice, 1 Mend, 2 Fence, 3 Halt, 4 Cracked. -/
def smallBase : List (Nat × List Nat) :=
  [(1216, [2, 2, 2, 2, 2, 2, 2, 2, 1, 0, 4, 0, 0]), (1232, [1, 0, 0, 0, 3, 0]), (1248, [2, 0, 0]), (1264, [1, 0]),
   (1280, [1, 0, 1, 2, 0, 0, 1, 1]), (1296, [1, 0, 0, 0, 3, 0, 0]), (1312, [2, 1, 0]), (1328, [0, 0, 0]),
   (1344, [0, 0, 0, 0, 0] ++ List.replicate 16 3 ++ [0, 3, 4, 0, 0, 4, 0, 4, 4, 3])]

/-- The base classes that R712 names for a tile's, a host port's and a memory package's detectors. -/
def tileBase : List Nat := [1, 2, 1, 0, 0, 2, 2, 2, 2, 0, 1, 1, 1, 0, 0, 2]
def hostBase : List Nat := [0, 0, 1, 1, 1, 0, 2, 0, 0, 1, 1, 2, 0] ++ List.replicate 16 0 ++ [2, 1, 0]
def memoryBase : List Nat := [0, 1, 3, 3, 3, 0, 3] ++ List.replicate 9 0

/-- The kind of a detector's unit (R714, R727): 1 fabric port, 2 cell, 3 host port, 4 Hearth core, 5 Drawing channel, 6 TC3
stream, 7 object, 0 the module, which is not fencible. -/
def unitKind (d : Nat) : Nat :=
  if d < 1024 then (if d % 16 = 15 then 2 else 1)
  else if d < 1152 then 3
  else if 1216 ≤ d ∧ d < 1224 then 4
  else if d = 1248 then 6
  else if d = 1283 then 7
  else if d = 1312 then 5
  else 0

/-- A detector's class at reset (R712, R713). -/
def baseClass (d : Nat) : Nat :=
  let unnamed := if d % 2 = 0 then 0 else if unitKind d = 0 then 3 else 2
  if d < 1024 then tileBase.getD (d % 16) 0
  else if d < 1152 then hostBase.getD (d % 32) 0
  else if d < 1216 then memoryBase.getD (d % 16) 0
  else
    match smallBase.reverse.find? fun b => b.1 ≤ d with
    | some b => b.2.getD (d - b.1) unnamed
    | none => unnamed

/-- A detector's policy at reset (R722). -/
def resetPolicy (d : Nat) : Word :=
  let b := baseClass d
  let fencible := unitKind d != 0
  BitVec.ofNat 64 (packFields [(3, b), (3, if fencible && b == 1 then 2 else b), (3, if fencible then 2 else 3), (7, 0), (16, 16), (32, 1000000)])

/-- QUENCH.POLICY of a detector. -/
def State.policy (s : State) (d : Nat) : Word := tgetD s.quench.policy d (resetPolicy d)

/-- The unit that an event acts on (R714): a tile's offset 15 names one of that tile's cells. -/
def qunitOf (e : QEvent) : QUnit :=
  let d := e.source
  let n := match unitKind d with
    | 1 => d / 16
    | 2 => d / 16 * 64 + e.unit % 64
    | 3 => (d - 1024) / 32
    | 4 => d - 1216
    | 5 => e.unit % 256
    | 0 => 0
    | _ => e.unit
  { kind := unitKind d, num := n }

/-- unit_kind and unit of a record (R739): a memory package is kind 8. -/
def recUnitOf (e : QEvent) : Nat × Nat :=
  if 1152 ≤ e.source ∧ e.source < 1216 then (8, (e.source - 1152) / 16) else ((qunitOf e).kind, (qunitOf e).num)

/-- The unit whose reaction an event of a class takes part in (R822): below Halt a detector of the module is a unit of its own. -/
def reactUnitOf (e : QEvent) (cls : Nat) : QUnit :=
  if unitKind e.source = 0 ∧ cls < 3 then { kind := 8, num := e.source } else (qunitOf e)

/-! ### Records (R738-R741) -/

/-- The bytes of a record (R739). -/
def recordBytes (r : QRec) : List Byte :=
  leBytes 8 r.time.toNat ++ leBytes 2 r.source.toNat ++
  leBytes 1 (packFields [(3, r.cls.toNat), (1, bnat r.escalated), (1, bnat r.injected), (1, bnat r.coincident), (1, bnat r.rail), (1, bnat r.first)]) ++
  leBytes 1 r.kind.toNat ++ leBytes 1 r.unitKind.toNat ++ leBytes 1 r.mode.toNat ++ leBytes 2 0 ++ leBytes 4 r.unit.toNat ++
  leBytes 2 r.count.toNat ++ leBytes 1 (bnat (r.breakCode == 0)) ++ leBytes 1 r.breakCode.toNat ++ leBytes 8 0 ++ sliceBytes r.detail 0 32

/-- The detail of a record (R820): given whole for identity checks and discards, else the instance and the faulting address. -/
def detailOf (e : QEvent) : List Byte :=
  if !e.detail.isEmpty then sliceBytes e.detail 0 32
  else
    leBytes 2 ((e.inst.map fun i => i % 1024 + 32768).getD 0) ++ leBytes 1 (bnat e.addr.isSome) ++ leBytes 5 0 ++
    leBytes 8 ((e.addr.map (·.toNat)).getD 0) ++ leBytes 16 0

/-- The slot of record i (R738). -/
def logSlot (i : Nat) : Nat := if i < 64 then i else 64 + (i - 64) % 192

/-- Notify the functions that a record concerns (R740): event 0x0009, then vector 1. -/
def State.notify (s : State) (r : QRec) (inst : Option Nat) (index : BitVec 32) : State :=
  let detail := BitVec.ofNat 128 (packFields [(16, r.source.toNat), (8, r.cls.toNat), (8, r.unitKind.toNat), (32, r.unit.toNat)])
  let tell := fun (s : State) (f : Fn) => (s.event f 0x0009 index detail).signal f 1
  match inst with
  | some i =>
    let x := s.inst i
    let s := if x.bound then tell s x.fn else s
    tell s { port := x.port.toNat, vf := none }
  | none =>
    if r.unitKind = 3 then tell s { port := r.unit.toNat % 4, vf := none }
    else if s.hearth.mgrStrap ∧ (s.port 0).present then tell s fnH0
    else s

/-- Write a record (R738), notify its functions (R740), report it (R741). -/
def State.record (s : State) (r : QRec) (inst : Option Nat) : State :=
  let q := s.quench
  let i := q.logTail
  let s := { s with quench := { q with
    log := tset q.log (logSlot i.toNat) r
    logTail := i + 1
    logLost := if i.toNat < 256 then q.logLost else satInc q.logLost
    breaks := if r.kind = 2 then satInc q.breaks else q.breaks } }
  let s := if 2 ≤ r.cls.toNat || r.kind == 2 || bit (s.policy r.source.toNat) 9 then s.notify r inst i else s
  if q.reportValid && (2 ≤ r.cls.toNat || r.kind == 1 || r.kind == 2) then
    s.sendTc3 false (s.agentPacket 0x12 q.reportModule 2 (r.source.zeroExtend 64) (recordBytes r))
  else s

/-- The record of an event, with its class and break code. -/
def State.recordOf (s : State) (e : QEvent) (cls : Nat) (escalated : Bool) (count : BitVec 16) (kind code : Nat) : QRec :=
  { time := e.time, source := BitVec.ofNat 11 e.source, cls := BitVec.ofNat 3 cls, escalated, injected := e.injected,
    coincident := e.coincident, rail := e.rail,
    first := s.quench.firstValid && s.quench.firstTime == e.time && s.quench.first.contains e.source,
    kind := BitVec.ofNat 8 kind, unitKind := BitVec.ofNat 4 (recUnitOf e).1, mode := BitVec.ofNat 8 (modeCode s.hearth.mode),
    unit := BitVec.ofNat 32 (recUnitOf e).2, count, breakCode := BitVec.ofNat 8 code, detail := if kind = 1 then [] else detailOf e,
    about := e.about }

/-! ### Halt and Cracked (R731, R732, R821) -/

/-- A port's transmitter goes to electrical idle: it is untrained and out of routing. -/
def Tile.idled (t : Tile) : Tile :=
  { t with linkState := .detect, inStep := false, outOfRouting := true, rejoin := false, helloSeen := false, shoe := none, shoeing := false,
           shod := false, soleUse := false, lanes := tmap t.lanes fun _ l => { l with lockRun := 0, good := false, active := false } }

/-- Fabric transmitters go to electrical idle, F63 last and only when named. -/
def State.idleFabric (s : State) (also63 : Bool) : State :=
  let s := { s with tiles := tmap s.tiles fun p t => if p = 63 ∧ !also63 then t else t.idled }
  (List.range (if also63 then 64 else 63)).foldl (fun (s : State) p => s.emit (.idle p)) s

/-- Every host port with a link writes back its device cache as in GPF phase 1 (R271). -/
def State.writeBackHosts (s : State) : State := (List.range 4).foldl (fun (s : State) p => nextOr s (execGpfPhase1 p s)) s

/-- Modes that a Halt leaves for Isolated (R798). -/
def halts (m : Mode) : Bool := m != .off && m != .standby && m != .cracked

/-- The Halt of R731, taken by a detector. -/
def State.halt (s : State) (d : Nat) : State :=
  if !halts s.hearth.mode then s
  else
    let s := (s.idleFabric (d / 16 == 63)).writeBackHosts
    let s := { s with quench := { s.quench with halted := true, haltBy := some d, haltTime := s.time.now,
                                                reacting := [({ kind := 0, num := 0 }, 3)] } }
    s.elect.lapsePresence.setMode .isolated

/-- The crack of R732, but for its crack area. -/
def State.crack (s : State) (d : Nat) : State :=
  let s := (s.idleFabric true).writeBackHosts
  let s := (List.range 4).foldl (fun (s : State) p => if (s.port p).linkUp then s.vanish p 1 linkLost else s) s
  let s := { s with quench := { s.quench with halted := true, haltBy := some d, haltTime := s.time.now,
                                              reacting := [({ kind := 0, num := 0 }, 4)] } }
  let s := s.setMode .cracked
  s.setReady false

/-- The 16 latest records, oldest first. -/
def Quench.latest (q : Quench) : List QRec :=
  let n := q.logTail.toNat
  ((List.range (min n 16)).map fun k => logSlot (n - min n 16 + k)).filterMap fun k => tget q.log k

/-- Write the crack area (R821): over the copy that does not hold the newest committed crack. A crack that begins more than 6 ms
after both inputs were lost may leave its copy uncommitted (R782): a free value says whether it does. -/
def State.writeCrack (s : State) : State :=
  let q := s.quench
  let late := s.power.holdup && decide (ms 6 < (s.time.now - s.power.holdupAt).toNat)
  let (n, s) := if late then s.drawFree 2 else (1, s)
  if n = 0 then { s with quench := { s.quench with crackOld := none } }
  else
    let seq := (q.crackNew.map fun c => c.seq + 1).getD 0
    let c : Crack := { time := s.time.now, first := q.first, sticky := q.sticky, rail := q.rail, records := q.latest, seq }
    { s with quench := { s.quench with crackNew := some c, crackOld := q.crackNew } }

/-! ### Fencing and unfencing (R727-R730) -/

/-- Drop a unit's fence or reaction. -/
def State.dropReaction (s : State) (u : QUnit) : State :=
  { s with quench := { s.quench with fenced := s.quench.fenced.filter (fun x => x.1 != u), reacting := s.quench.reacting.filter (fun x => x.1 != u) } }

/-- Fence a unit, by a detector (R727). A stream's and an object's fence is the doing of their own rules. -/
def State.fenceUnit (s : State) (u : QUnit) (d : Nat) : State :=
  let s := s.dropReaction u
  let s := { s with quench := { s.quench with fenced := s.quench.fenced ++ [(u, d)] } }
  let s := match u.kind with
    | 1 =>
      let s := s.modTile u.num fun t => { t with fenced := true, rejoin := false }
      let l : LinkState := (s.tile u.num).linkState
      if l = LinkState.up ∨ l = LinkState.step then s.retrain u.num none d else (s.leaveRouting u.num d).elect
    | 2 => s.fenceCell u.num
    | 3 => s.vanish u.num 7 fun p => { linkLost p with fenced := true }
    | 4 => ({ s with hearth := { s.hearth with coresFenced := nset s.hearth.coresFenced u.num } }).breakByFault (idCore u.num) d u.num
    | 5 =>
      let held := s.holdsVise (idChan u.num)
      let s := (s.stopChan u.num).modChan u.num fun c => { c with fenced := true }
      if held then s.raise { source := d, unit := u.num, kind := 2, breakCode := 10 } else s
    | _ => s
  s.adjustMode

/-- The record that a unit is unfenced (R729): kind 1, of class Fence. -/
def State.unfenceRecord (s : State) (d unit : Nat) : State :=
  let e : QEvent := { source := d, time := s.time.now, unit }
  s.record { s.recordOf e 2 false (tgetD s.quench.counts d {}).count 1 0 with first := false } none

/-- Unfence a unit that QUENCH_CLEAR names (R729): a cell runs its self-test first; a core, a stream and an object are not
unfenced so. -/
def State.unfence (s : State) (u : QUnit) (d : Nat) : State :=
  let done := fun (s : State) => ((s.dropReaction u).adjustMode).unfenceRecord d u.num
  match u.kind with
  | 1 =>
    let s := s.modTile u.num fun t => { t with fenced := false }
    let l : LinkState := (s.tile u.num).linkState
    done (if l == .up || l == .step then s.retrain u.num none 0x7ff else s)
  | 2 => s.modCell u.num fun c => { c with testing := true }
  | 3 => done (s.modPort u.num fun p => { p with fenced := false })
  | 5 => done (s.modChan u.num fun c => { ({} : Chan) with activeGen := c.activeGen, shadowGen := c.shadowGen })
  | _ => s

/-! ### One detection cycle (R715-R737, R745-R748, R753) -/

/-- An event with what Quench makes of it: its class, whether R725 chose it, its window's count, whether it is only simulated
(R747). -/
structure QCase where
  ev        : QEvent
  cls       : Nat
  escalated : Bool
  count     : BitVec 16
  simulated : Bool
  deriving DecidableEq, Repr

/-- A window as an event of time t finds it: a window past its end is over (R724, R726). -/
def QCount.at_ (c : QCount) (t : Ticks) (windowUs : Nat) : QCount :=
  if c.open_ && decide (t.toNat < c.ends.toNat) then c
  else { open_ := true, ends := t + BitVec.ofNat 64 (us windowUs), lastRail := c.lastRail }

/-- Class an event and note it: sticky (R719), first (R720), its window (R724, R725), a rail fault's mask (R718). The last core's fence
is a Halt (R727). -/
def State.noteEvent (s : State) (e : QEvent) : State × QCase :=
  let q := s.quench
  let p := s.policy e.source
  let c := (tgetD q.counts e.source {}).at_ e.time (bits p 63 32)
  let counts := !e.injected || e.coincident || !e.noCount
  let n := if counts then satInc c.count else c.count
  let esc := c.escalated || decide (bits p 31 16 ≤ n.toNat)
  let cls := if e.rail then bits p 8 6 else if esc then bits p 5 3 else bits p 2 0
  let lastCore := unitKind e.source == 4 && decide (7 ≤ (s.hearth.coresFenced.filter (· != (qunitOf e).num)).length)
  let cls := if cls = 2 && lastCore then 3 else cls
  let s := s.count 0x00b0 0 0 1
  let first := if !q.firstValid then [e.source] else if q.firstTime = e.time then nset q.first e.source else q.first
  ({ s with quench := { q with
      sticky := nset q.sticky e.source
      rail := if e.rail then nset q.rail e.source else q.rail
      railFaults := if e.rail then satInc q.railFaults else q.railFaults
      first
      firstTime := if q.firstValid then q.firstTime else e.time
      firstValid := true
      counts := tset q.counts e.source { c with count := n, escalated := esc, lastRail := e.rail } } },
   { ev := e, cls, escalated := esc && !e.rail, count := n,
     simulated := e.injected && !e.coincident && decide (3 ≤ cls) && s.hearth.mode == .diagnostic })

/-- The reaction in progress on a unit (R733, R736), its class plus one; 0 when there is none. -/
def Quench.inProgress (q : Quench) (u : QUnit) : Nat :=
  let all := q.reacting.filter fun r => r.1 == u || r.1.kind == 0
  let fence := if q.fenced.any fun x => x.1 == u then 3 else 0
  all.foldl (fun m r => max m (r.2.toNat + 1)) fence

/-- The gravest class among the cases of one unit that react. -/
def gravest (cs : List QCase) (u : QUnit) : Nat :=
  (cs.filter fun c => !c.simulated && reactUnitOf c.ev c.cls == u).foldl (fun m c => max m c.cls) 0

/-- Whether a case is taken (R734, R735): its unit's gravest class of the cycle is graver than what is in progress. -/
def QCase.taken (q : Quench) (cs : List QCase) (c : QCase) : Bool :=
  c.simulated || decide (q.inProgress (reactUnitOf c.ev c.cls) < gravest cs (reactUnitOf c.ev c.cls) + 1)

/-- The break code of R753 that an event shows, 0 for none. An injected event alone breaks nothing but by its Halt or crack. -/
def QCase.breakCode (c : QCase) : Nat :=
  let d := c.ev.source
  if c.simulated then 0
  else if c.ev.breakCode ≠ 0 then c.ev.breakCode.toNat
  else if 3 ≤ c.cls then 12
  else if c.ev.injected && !c.ev.coincident then 0
  else if d = 1248 ∨ d = 1286 then 2
  else if d = 1281 then 3
  else if d = 1264 then 5
  else if d = 1282 ∨ d = 1287 then 6
  else if d = 1283 then 1
  else if d = 1296 then 7
  else if d = 1232 then 8
  else if 1152 ≤ d ∧ d < 1216 ∧ d % 16 = 1 then 9
  else 0

/-- Start the reaction of one unit, below Halt (R727). A Mend is in progress only while a fabric port recovers (R733). -/
def State.startReaction (s : State) (u : QUnit) (cls d : Nat) : State :=
  if cls = 2 then s.fenceUnit u d
  else if cls = 1 ∧ u.kind = 1 then
    let t := s.tile u.num
    let asked := t.retry.nakFor.any fun n => n.1 == t.retry.expected
    if asked || t.linkState != .up then
      let s := s.dropReaction u
      { s with quench := { s.quench with reacting := s.quench.reacting ++ [(u, 1)] } }
    else s
  else s

/-- The fences and Mends of a cycle's cases, one for each unit, with the detector of the first event of the gravest class. -/
def State.startReactions (s : State) (cs taken : List QCase) : State :=
  let heads := taken.filter fun c =>
    let u := reactUnitOf c.ev c.cls
    !c.simulated && decide (c.cls < 3) && c.cls == gravest cs u &&
      (taken.find? fun x => !x.simulated && reactUnitOf x.ev x.cls == u && x.cls == c.cls) == some c
  heads.foldl (fun (s : State) c => s.startReaction (reactUnitOf c.ev c.cls) c.cls c.ev.source) s

/-- The record or records of one taken case. -/
def State.recordCase (s : State) (c : QCase) : State :=
  let code := c.breakCode
  let s := s.record (s.recordOf c.ev c.cls c.escalated c.count (if c.simulated then 3 else 0) code) c.ev.inst
  if code = 0 then s else s.record (s.recordOf c.ev c.cls c.escalated c.count 2 code) c.ev.inst

/-- What a suppressed case leaves (R735): its count, and the record that a condition failed. -/
def State.suppressCase (s : State) (c : QCase) : State :=
  let s := { s with quench := { s.quench with suppressed := satInc s.quench.suppressed } }
  if c.breakCode = 0 then s else s.record (s.recordOf c.ev c.cls c.escalated c.count 2 c.breakCode) c.ev.inst

/-- Put an event among those of one cycle, by source; a detector makes one event of a unit in a cycle (R716), and an injection
that meets a failure of its own detector is one event with it (R748). -/
def insertEvent (e : QEvent) : List QEvent → List QEvent
  | [] => [e]
  | x :: xs =>
    if x.source = e.source ∧ x.injected ≠ e.injected then
      { (if x.injected then { e with rail := e.rail || x.rail } else { x with rail := x.rail || e.rail }) with injected := true, coincident := true } :: xs
    else if x.source = e.source ∧ (qunitOf x) = (qunitOf e) ∧ x.inst = e.inst then x :: xs
    else if e.source < x.source then e :: x :: xs
    else x :: insertEvent e xs

/-- The injections that turned out coincident in a cycle are marked and counted (R748). -/
def Quench.noteCoincident (q : Quench) (es : List QEvent) : Quench :=
  es.foldl (fun (q : Quench) e =>
    let mine := fun (x : Injection) => x.fired && !x.coincident && x.detector.toNat == e.source && x.instant.toNat ≤ e.time.toNat
    if e.coincident && q.inject.any (fun x => mine x.2) then
      { q with coincident := satInc q.coincident, inject := tmap q.inject fun _ x => if mine x then { x with coincident := true } else x }
    else q) q

/-- Events of kind 1 and 2: a stream's source unfenced it; a condition of R751 failed without an event of its own. -/
def State.recordOnly (s : State) (e : QEvent) : State :=
  if e.kind = 1 then ((s.dropReaction (qunitOf e)).adjustMode).unfenceRecord e.source (qunitOf e).num
  else
    let p := s.policy e.source
    let c := tgetD s.quench.counts e.source {}
    s.record (s.recordOf e (if c.escalated then bits p 5 3 else bits p 2 0) c.escalated c.count 2 e.breakCode.toNat) e.inst

/-- Everything that Quench does with the events of one detection cycle. -/
def State.cycle (s : State) (es : List QEvent) : State :=
  let live := (es.filter fun e => e.kind == 0 && e.source < 1408 && !s.quench.rail.contains e.source).foldl (fun l e => insertEvent e l) []
  let (s, cs) := live.foldl (fun (x : State × List QCase) e =>
    let (s, c) := x.1.noteEvent e
    (s, x.2 ++ [c])) (s, [])
  let s := { s with quench := s.quench.noteCoincident live }
  let taken := cs.filter fun c => c.taken s.quench cs
  let lost := cs.filter fun c => !c.taken s.quench cs
  let s := s.startReactions cs taken
  let worst := fun (n : Nat) => taken.find? fun c => !c.simulated && c.cls == n
  let s := match worst 4, worst 3 with
    | some c, _ => if s.hearth.mode = .off then s else s.crack c.ev.source
    | none, some c => s.halt c.ev.source
    | none, none => s
  let s := taken.foldl (fun (s : State) c => s.recordCase c) s
  let s := lost.foldl (fun (s : State) c => s.suppressCase c) s
  let s := (es.filter fun e => e.kind != 0).foldl (fun (s : State) e => s.recordOnly e) s
  if (worst 4).isSome && s.hearth.mode == .cracked then s.writeCrack else s

/-- Take the events of successive cycles, all those of one time together; n bounds the loop. -/
def State.cycles (s : State) (es : List QEvent) : Nat → State
  | 0 => s
  | n + 1 =>
    match es with
    | [] => s
    | e :: _ => (s.cycle (es.takeWhile fun x => x.time == e.time)).cycles (es.dropWhile fun x => x.time == e.time) n

/-- Quench samples every detector that has asserted. In Off it has no power. -/
def State.sampleAll (s : State) : State :=
  let es := s.quench.raised
  let s := { s with quench := { s.quench with raised := [] } }
  if s.hearth.mode = .off then s else s.cycles es (es.length + 1)

/-- R715-R717, R727: what the module's blocks have raised, and the events that assert now outside them, are sampled. -/
def execDetectorEvent (events : List QEvent) (s : State) : Host.Outcome State Fault Refusal :=
  let s := events.foldl (fun (s : State) e =>
    s.raise { e with rail := false, injected := false, coincident := false, noCount := false, kind := 0 }) s
  .next s.sampleAll.serve

/-- The unit that a rail fault falls on where the detector alone does not say it: a free value (R718). -/
def State.railUnit (s : State) (d : Nat) : Nat × State :=
  match unitKind d with
  | 2 => s.drawFree 64
  | 5 => s.drawFree 256
  | 6 => s.drawFree 131072
  | 7 => s.drawFree 4294967296
  | _ => (0, s)

/-- R718: a detector's pair is in rail fault; a masked detector is ignored. -/
def execRailFault (detector : Nat) (s : State) : Host.Outcome State Fault Refusal :=
  if 1408 ≤ detector ∨ s.quench.rail.contains detector then .next s
  else
    let (u, s) := s.railUnit detector
    .next (s.raise { source := detector, unit := u, rail := true }).sampleAll.serve

/-- R724: a window ends. -/
def execQuenchWindowEnd (detector : Nat) (now : Ticks) (s : State) : Host.Outcome State Fault Refusal :=
  let s := s.advance now
  let c := tgetD s.quench.counts detector {}
  .next (if c.open_ && decide (c.ends.toNat ≤ s.time.now.toNat) then
    { s with quench := { s.quench with counts := tset s.quench.counts detector { lastRail := c.lastRail } } } else s)

/-! ### Injections (R744-R748) -/

/-- The class that an injection's event would take by the current count and policy (R746). -/
def State.wouldTake (s : State) (d : Nat) (rail noCount : Bool) : Nat :=
  let p := s.policy d
  let c := (tgetD s.quench.counts d {}).at_ s.time.now (bits p 63 32)
  if rail then bits p 8 6
  else if c.escalated || (!noCount && decide (bits p 31 16 ≤ c.count.toNat + 1)) then bits p 5 3
  else bits p 2 0

/-- R744, R746, R755: schedule an injection; the result is its slot. -/
def execInject (c : Call) (ctrl : Word) (at_ : Ticks) (s : State) : Host.Outcome State Fault Refusal :=
  s.fleso c 0x0904 (·.isM) fun _ s =>
    let d := bits ctrl 10 0
    let u := bits ctrl 27 16
    match firstBad [(decide (1408 ≤ d), 0), (bits ctrl 15 13 != 0, 13), (decide (63 < u) || (u != 0 && unitKind d != 2), 16), (bits ctrl 63 28 != 0, 28)] with
    | some o => (s, .badAt o)
    | none =>
      if 3 ≤ s.wouldTake d (bit ctrl 11) (bit ctrl 12) ∧ s.hearth.mode ≠ .diagnostic then
        (s, .errD eWrongMode (leBytes 1 (modeCode s.hearth.mode)))
      else
        match (List.range 16).find? fun i => !(tgetD s.quench.inject i {}).pending with
        | none => (s, .pool 0xff)
        | some i =>
          let x : Injection := { detector := BitVec.ofNat 11 d, kind := bit ctrl 11, noCount := bit ctrl 12, pending := true,
                                 unit := BitVec.ofNat 12 u, instant := at_ }
          ({ s with quench := { s.quench with inject := tset s.quench.inject i x } }, .res (leBytes 8 i))

/-- R744, R748: an injection fires at its instant: its detector makes one event, alone or with a failure of its own check. -/
def execInjectionFire (slot : Nat) (now : Ticks) (coincident : Bool) (s : State) : Host.Outcome State Fault Refusal :=
  let s := s.advance now
  let x := tgetD s.quench.inject slot {}
  let d := x.detector.toNat
  if !x.pending || decide (s.time.now.toNat < x.instant.toNat) then .next s
  else
    let live := coincident && !s.quench.rail.contains d
    let s := { s with quench := { s.quench with
      inject := tset s.quench.inject slot { x with pending := false, fired := true, coincident := live }
      injectionsFired := satInc s.quench.injectionsFired
      coincident := if live then satInc s.quench.coincident else s.quench.coincident } }
    .next (if s.quench.rail.contains d then s
      else s.raise { source := d, unit := x.unit.toNat, rail := x.kind, injected := true, coincident, noCount := x.noCount })

/-! ### Commands (R723, R729, R730, R755) -/

/-- Authorities that read Quench and the counters: Manager, Host, and Fabric as the allowance says (R620, R630). -/
def State.mayRead (s : State) (op : BitVec 16) (a : Auth) : Bool := a.isMH || (a == .fabric && s.fabricMay op)

/-- Word w of a set of detectors (R754). -/
def setWord (l : List Nat) (w : Nat) : Nat := (l.filter fun d => d / 64 == w).foldl (fun n d => n + 2 ^ (d % 64)) 0

/-- The 22 words of a set of detectors. -/
def setBytes (l : List Nat) : List Byte := (List.range 22).flatMap fun w => leBytes 8 (setWord l w)

/-- Fenced units of a kind. -/
def Quench.fencedOf (q : Quench) (k : Nat) : Nat := q.fenced.countP fun x => x.1.kind == k

/-- QUENCH.STATE. -/
def State.quenchState (s : State) : Nat :=
  let q := s.quench
  packFields [(1, bnat q.halted), (1, bnat (q.crackNew.isSome && s.hearth.crackRead)), (1, bnat s.hwFenced), (1, bnat q.firstValid),
    (7, q.fencedOf 1), (13, q.fencedOf 2), (3, q.fencedOf 3), (4, q.fencedOf 4), (9, q.fencedOf 5),
    (5, q.inject.countP fun x => x.2.pending)]

/-- R755: QUENCH_READ. -/
def execQuenchRead (c : Call) (s : State) : Host.Outcome State Fault Refusal :=
  s.fleso c 0x0901 (s.mayRead 0x0901) fun _ s =>
    let q := s.quench
    (s, .res (leBytes 8 q.firstTime.toNat ++ leBytes 8 s.quenchState ++ setBytes q.first ++ setBytes q.sticky ++ setBytes q.rail))

/-- R723: set a detector's policy word. -/
def execQuenchPolicy (c : Call) (word policy : Word) (s : State) : Host.Outcome State Fault Refusal :=
  s.fleso c 0x0903 (·.isM) fun _ s =>
    let d := bits word 10 0
    let base := bits policy 2 0
    let esc := bits policy 5 3
    let rail := bits policy 8 6
    let floor := if 3 ≤ baseClass d then baseClass d else 0
    let bad := fun (cls : Nat) => decide (4 < cls ∨ (cls = 2 ∧ unitKind d = 0) ∨ cls < floor)
    let n := bits policy 31 16
    let w := bits policy 63 32
    match firstBad [(decide (1408 ≤ d), 0), (bits word 63 11 != 0, 11), (bad base, 64), (bad esc || decide (esc < base), 67), (bad rail, 70),
        (bits policy 15 10 != 0, 74), (n == 0, 80), (decide (w < 1 ∨ 3600000000 < w), 96)] with
    | some o => (s, .badAt o)
    | none => ({ s with quench := { s.quench with policy := tset s.quench.policy d policy } }, .ok)

/-- The detectors of 22 source words. -/
def sourcesOf (ws : List Word) : List Nat :=
  (List.range 22).flatMap fun w => ((List.range 64).filter fun b => bit (ws.getD w 0) b).map (64 * w + ·)

/-- The fenced units that a list of detectors names, each with the detector: the detector's own unit, or those it fenced. -/
def Quench.named (q : Quench) (ds : List Nat) : List (QUnit × Nat) :=
  q.fenced.filterMap fun x =>
    (ds.find? fun d => d == x.2 || (unitKind d != 2 && unitKind d != 5 && qunitOf { source := d } == x.1)).map fun d => (x.1, d)

/-- R729-R731, R755: QUENCH_CLEAR. An unfence after a Halt, of a masked detector's unit, or after a rail fault, is refused. -/
def execQuenchClear (c : Call) (flags : Word) (sources : List Word) (s : State) : Host.Outcome State Fault Refusal :=
  s.fleso c 0x0902 (·.isM) fun _ s =>
    let q := s.quench
    let ds := sourcesOf sources
    let units := if bit flags 3 then (q.named ds).filter fun x => x.1.kind != 4 && x.1.kind < 6 else []
    let by_ := fun (x : QUnit × Nat) => (q.fenced.filter fun y => y.1 == x.1).map (·.2)
    let barred := units.any fun x => (x.2 :: by_ x).any fun d => q.rail.contains d || (tgetD q.counts d {}).lastRail
    if bits flags 63 7 ≠ 0 then (s, .badAt 0)
    else if (bit flags 3 && q.halted) || barred then (s, .err eWrongState)
    else
      let s := { s with quench := { q with
        sticky := if bit flags 0 then q.sticky.filter (fun d => !ds.contains d) else q.sticky
        rail := if bit flags 1 then q.rail.filter (fun d => !ds.contains d) else q.rail
        first := if bit flags 2 then [] else q.first
        firstValid := q.firstValid && !bit flags 2
        log := if bit flags 4 then [] else q.log
        logTail := if bit flags 4 then 0 else q.logTail
        logLost := if bit flags 4 then 0 else q.logLost
        crackNew := if bit flags 5 then none else q.crackNew
        crackOld := if bit flags 5 then none else q.crackOld
        counts := if bit flags 6 then tmap q.counts fun d c => if ds.contains d then { lastRail := c.lastRail } else c else q.counts } }
      (units.foldl (fun (s : State) x => s.unfence x.1 x.2) s, .ok)

/-- R729: an unfenced cell's self-test ends: it returns as a spare, or stays fenced. -/
def execCellSelfTestEnd (cell : Nat) (pass : Bool) (s : State) : Host.Outcome State Fault Refusal :=
  if !(s.cell cell).testing then .next s
  else if !pass then .next (s.modCell cell fun c => { c with testing := false })
  else
    let u : QUnit := { kind := 2, num := cell }
    let s := s.modCell cell fun c => { c with testing := false, state := 0, role := 0 }
    .next ((s.dropReaction u).adjustMode.unfenceRecord (cell / 64 * 16 + 15) cell)

end Sys2Proof.Machine
end

