-- ==== Sys2Proof/Machine/Counters.lean ====
section
/-! DEFINITION. Counters and sampling (19): selections, reads, the tagger's and the firmware sampler's configuration, samples. -/

namespace Sys2Proof.Machine

open Sys2Proof

/-! ### Selections (R757-R761) -/

/-- The event and byte codes of R758 and R759: code, units of its kind (0: it has none), whether it is counted by class. -/
def eventCodes : List (Nat × Nat × Bool) :=
  [(0x0001, 0, false), (0x0010, 63, true), (0x0011, 63, true), (0x0012, 63, false), (0x0013, 63, false), (0x0014, 63, false),
   (0x0015, 63, true), (0x0016, 63, false), (0x0020, 63, true), (0x0021, 63, true), (0x0022, 63, true), (0x0023, 63, true),
   (0x0024, 63, true), (0x0030, 1024, false), (0x0031, 1024, false), (0x0032, 1024, false), (0x0040, 1024, false),
   (0x0041, 1024, false), (0x0042, 1024, false), (0x0043, 1024, false), (0x0050, 1024, false), (0x0051, 1024, false),
   (0x0052, 1024, false), (0x0060, 1024, false), (0x0061, 1024, false), (0x0062, 1024, false), (0x0070, 256, false),
   (0x0071, 0, false), (0x0080, 4096, false), (0x0090, 0, false), (0x00a0, 0, false), (0x00b0, 0, false),
   (0x8000, 63, true), (0x8001, 63, true), (0x8010, 4, false), (0x8011, 4, false), (0x8012, 4, false), (0x8020, 4, false),
   (0x8030, 1024, true), (0x8031, 1024, true), (0x8040, 256, false)]

/-- The codes whose counts no command determines: cycles, spilled blocks, a memory package's bytes (assumption log 71). -/
def looseCodes : List Nat := [0x0001, 0x0015, 0x0016, 0x0043, 0x0080, 0x8020]

/-- Whether a selection may stand in a counter (R761); code 0x0000 counts nothing (R757). -/
def selOk (k : Nat) (w : Word) : Bool :=
  let code := bits w 15 0
  let unit := bits w 27 16
  let tc := bits w 30 29
  if code = 0 then w == 0
  else
    match eventCodes.find? fun c => c.1 == code with
    | none => false
    | some (_, n, byClass) =>
      bits w 63 32 == 0 && decide (code < 0x8000 ↔ k < 2048) &&
      (if n = 0 then unit == 0 && !bit w 28 else if bit w 28 then unit == 0 else decide (unit < n)) &&
      (if byClass then !bit w 31 || tc == 0 else tc == 0 && !bit w 31)

/-! ### Reading (R764, R766) -/

/-- A counter's value word, its wrap bit with it when it is an event counter. A count that no command determines is a free value. -/
def State.counterWord (s : State) (k : Nat) : Word × State :=
  let c := s.counters
  let wrap := tgetD c.wrapped k false
  if looseCodes.contains (bits (tgetD c.sels k 0) 15 0) then
    let (n, s) := s.drawFree (if k < 2048 then 2 ^ 49 else 2 ^ 64)
    (BitVec.ofNat 64 n, s)
  else ((tgetD c.values k 0) ||| (if k < 2048 ∧ wrap then 1#64 <<< 48 else 0), s)

/-- The words of counters first, first + 1, and so on. -/
def State.counterWords (s : State) (first : Nat) : Nat → List Byte × State
  | 0 => ([], s)
  | n + 1 =>
    let (w, s) := s.counterWord first
    let (bs, s) := s.counterWords (first + 1) n
    (leBytes 8 w.toNat ++ bs, s)

/-- R764: sample a run of counters. The samples of one command carry one time (assumption log 71). -/
def execCounterRead (c : Call) (first count : Nat) (s : State) : Host.Outcome State Fault Refusal :=
  s.fleso c 0x0906 (s.mayRead 0x0906) fun _ s =>
    if 2560 ≤ first then (s, .bad 0)
    else if count < 1 ∨ 120 < count ∨ 2560 < first + count then (s, .bad 1)
    else
      let t := leBytes 8 s.time.now.toNat
      let (bs, s) := s.counterWords first count
      (s, .res (t ++ t ++ bs))

/-! ### Configuration (R760-R762, R767, R770, R771) -/

/-- Set up a counter: a new selection, its value kept or cleared, its wrap bit kept or cleared. -/
def Counters.select (c : Counters) (k : Nat) (keep clearValue clearWrap : Bool) (w : Word) : Counters :=
  { c with
    sels := if keep then c.sels else if w = 0 then tdel c.sels k else tset c.sels k w
    values := if clearValue then tdel c.values k else c.values
    wrapped := if clearWrap then tdel c.wrapped k else c.wrapped }

/-- The fields of TAG_CFG that R775 refuses, by lowest bit. -/
def tagCfgBad (w : Word) : List (Bool × Nat) :=
  [(decide (20 < bits w 5 1), 65), (bits w 48 17 == 0, 81), (bits w 63 49 != 0, 113)]

/-- The fields of HS_CFG that R775 refuses, by lowest bit. -/
def hsCfgBad (w : Word) : List (Bool × Nat) :=
  [(decide (bits w 32 9 < 1024), 73), (decide (16 < bits w 37 33), 97), (bits w 63 38 != 0, 102)]

/-- The size word of a ring (R770). -/
def ringSizeBad (w : Word) : List (Bool × Nat) := [(decide (bits w 4 0 < 6 ∨ 16 < bits w 4 0), 128), (bits w 63 5 != 0, 133)]

/-- The area of a ring word's ring is given back. -/
def State.freeRing (s : State) (w : Word) : State := if bits w 36 0 = 0 then s else s.freeArea (bits w 36 0 - reportBase)

/-- The tagger's configuration (R767, R770). -/
def State.setTagger (s : State) (via : Arrival) (w : Word) (k : Nat) : State × Reply :=
  match (s.freeRing s.counters.tagRing).allocArea via (64 + 64 * 2 ^ k) with
  | none => (s, .pool 0xff)
  | some (o, s) =>
    ({ s with counters := { s.counters with
        tagCfg := w, tagRing := BitVec.ofNat 64 (reportBase + o + k * 2 ^ 37), tagTail := 0
        lfsr := if bit w 0 then BitVec.ofNat 32 (bits w 48 17) else s.counters.lfsr } }, .ok)

/-- The firmware sampler's configuration (R770, R771). -/
def State.setSampler (s : State) (via : Arrival) (w : Word) (k : Nat) : State × Reply :=
  match (s.freeRing s.counters.hsRing).allocArea via (64 + 32 * 2 ^ k) with
  | none => (s, .pool 0xff)
  | some (o, s) =>
    ({ s with counters := { s.counters with
        hsCfg := w, hsRing := BitVec.ofNat 64 (reportBase + o + k * 2 ^ 37), hsTail := 0 } }, .ok)

/-- R760-R762: select a counter's event, or configure the tagger or the firmware sampler. -/
def execCounterSelect (c : Call) (word0 word1 word2 : Word) (s : State) : Host.Outcome State Fault Refusal :=
  s.fleso c 0x0905 (·.isM) fun _ s =>
    let slot := bits word0 12 0
    let keep := bit word0 13
    let counter := decide (slot < 2560)
    let bad :=
      [(!(counter || slot == 4096 || slot == 4097), 0), (bits word0 63 16 != 0, 16)] ++
      (if keep then [] else if counter then [(!selOk slot word1, 64)] else if slot = 4096 then tagCfgBad word1 else hsCfgBad word1) ++
      (if counter then [(word2 != 0, 128)] else if keep then [] else ringSizeBad word2)
    match firstBad bad with
    | some o => (s, .badAt o)
    | none =>
      if counter then
        ({ s with counters := s.counters.select slot keep (bit word0 14) (bit word0 15) word1 }, .ok)
      else if keep then (s, .ok)
      else if slot = 4096 then s.setTagger c.via word1 (bits word2 4 0)
      else s.setSampler c.via word1 (bits word2 4 0)

/-! ### Firmware samples (R771-R773) -/

/-- The 32 bytes of a sample (R773). -/
def sampleBytes (now : Ticks) (pc : Word) (core : Nat) (idle : Bool) (skid : Nat) (opcode : BitVec 16) (task : BitVec 32) : List Byte :=
  leBytes 8 now.toNat ++ leBytes 8 pc.toNat ++ leBytes 1 (packFields [(3, core), (1, bnat idle)]) ++ leBytes 1 (if idle then 0 else skid % 16) ++
  leBytes 2 opcode.toNat ++ leBytes 4 task.toNat ++ leBytes 8 0

/-- R771-R773: a trigger of the firmware sampler on a core. -/
def execHsSampleTrigger (core : Nat) (pc : Word) (skid : Nat) (masked idle : Bool) (opcode : BitVec 16) (task : BitVec 32) (s : State) :
    Host.Outcome State Fault Refusal :=
  let k := s.counters
  if !bit k.hsCfg 0 || decide (8 ≤ core) || !bit k.hsCfg (1 + core) || s.hearth.coresFenced.contains core then .next s
  else if !idle && (masked || decide (12 < skid)) then
    .next { s with counters := { k with maskedDrops := satInc k.maskedDrops } }
  else
    match s.ringAppend (bits k.hsRing 36 0) (bits k.hsRing 41 37) k.hsTail (sampleBytes s.time.now pc core idle skid opcode task) with
    | (s, some n) => .next { s with counters := { s.counters with hsTail := n } }
    | (s, none) => .next { s with counters := { s.counters with hsLost := satInc s.counters.hsLost } }

end Sys2Proof.Machine
end

