-- ==== Sys2Proof/Machine/Instants.lean ====
section
/-! DEFINITION. The two inputs that can step Machine Time, a FEC frame with an exchange and a PPS edge, and the events whose
instants a forward step passes (R231, R233). -/

namespace Sys2Proof.Machine

open Sys2Proof

/-- A scheduled event: its instant, and what firing it does. -/
abbrev Scheduled := Nat × (State → State)

/-- The event of one of the block's timers, looked at now. -/
def timerAt (f : Ticks → State → Host.Outcome State Fault Refusal) (at_ : Nat) : Scheduled :=
  (at_, fun s => nextOr s (f s.time.now s))

/-- The events of R231 that are scheduled: the routing swap, the Stroke boundary and swap, Drawing instants, window ends, the
sampling epoch, TIME_OUT. A time-triggered collective is not among them: its own command brings the data read (assumption
log 115). -/
def State.scheduled (s : State) : List Scheduled :=
  let t := s.time
  let step := 64 * s.sched.epochNs.toNat
  (if s.routing.swapScheduled then [timerAt execRouteSwapFire s.routing.swapAt.toNat] else []) ++
  (if t.strokeSwap then [timerAt execStrokeSwapFire t.strokeSwapAt.toNat] else []) ++
  (match t.strokeAt t.now with
    | some (i, left) => [timerAt execStrokeBoundary (t.now.toNat + left - strokeLen (t.strokes.getD i 0))]
    | none => []) ++
  (s.draw.chans.filterMap fun e => e.2.current.bind fun w =>
    if e.2.state = .waiting ∧ instrOp w = 3 ∧ instrKind w = 1 then some (timerAt (execDrawWaitInstant e.1) (instrValue w).toNat) else none) ++
  (s.quench.counts.filterMap fun e => if e.2.open_ then some (timerAt (execQuenchWindowEnd e.1) e.2.ends.toNat) else none) ++
  (if s.sched.sampleEnable then [timerAt execSampleEpoch (t.now.toNat / max 1 step * step)] else []) ++
  [timerAt execTimeOutPulse (t.now.toNat / secTicks * secTicks)]

/-- Put an event among others in ascending order of instant. -/
def insertByInstant (e : Scheduled) : List Scheduled → List Scheduled
  | [] => [e]
  | x :: l => if e.1 < x.1 then e :: x :: l else x :: insertByInstant e l

/-- After a forward step, every event whose instant it passed fires at once, in ascending order of instant (R233). -/
def State.firePassed (s : State) : State :=
  match s.time.passedFrom with
  | none => s
  | some t0 =>
    let due := (s.scheduled.filter fun e => decide (t0.toNat < e.1 ∧ e.1 ≤ s.time.now.toNat)).foldl (fun l e => insertByInstant e l) []
    due.foldl (fun s e => e.2 s) { s with time := { s.time with passedFrom := none } }

/-- R65: a whole FEC frame is decoded; an exchange in it may step Machine Time. -/
def execFecFrameReceive (port : Nat) (frame : RxFrame) (s : State) : Host.Outcome State Fault Refusal :=
  .next (s.frameIn port frame).firePassed

/-- R208, R209, R640, R670: a PPS edge at Machine Time now. periodNs is the time since the edge before by the 10 MHz input,
tenA and tenB the cycles of that input in one second of REFA and of REFB. -/
def execPpsEdge (now : Ticks) (periodNs tenA tenB : Nat) (s : State) : Host.Outcome State Fault Refusal :=
  .next ((s.advance now).takePps periodNs tenA tenB).firePassed

end Sys2Proof.Machine
end

