-- ==== Sys2Proof/Machine/Regs.lean ====
section
/-! DEFINITION. IDENTIFY, and the registers by block and offset: REG_READ and REG_WRITE (R20, R23, R631, R646, R791 and the register
tables of every chapter). A register function answers none at an undefined offset. -/

namespace Sys2Proof.Machine

open Sys2Proof

/-! ### Tiles, routing, scheduling, time, host ports -/

/-- link_state (R710). -/
def linkCode : LinkState → Nat
  | .detect => 0
  | .map => 1
  | .align => 2
  | .hello => 3
  | .step => 4
  | .up => 5
  | .test => 6

/-- TILE.PORT_STATE (R710); refB is the reference the lanes run on (R669). -/
def Tile.portWord (t : Tile) (refB : Bool) : Nat :=
  packFields [(3, linkCode t.linkState), (1, bnat t.inStep), (2, t.rate.toNat), (2, t.width.toNat), (1, bnat t.miswired), (1, bnat t.farIdValid),
    (1, bnat t.reversed), (8, t.rxInverted.toNat), (8, t.lanesActive.toNat), (17, t.farModule.toNat), (6, t.farPort.toNat), (1, bnat refB),
    (1, bnat t.farFenced), (12, t.retrains.toNat)]

/-- TILE.LANE_CFG (R710). -/
def Tile.laneCfg (t : Tile) : Nat :=
  packFields [(2, t.maxRate.toNat), (1, bnat t.fixedRate), (1, bnat t.allowDegrade), (1, bnat t.test), (6, t.marginFloor.toNat),
    (6, t.criticalMargin.toNat), (8, t.shoeWaitMs.toNat)]

/-- TILE.LANE_STATUS of a lane (R710). -/
def Lane.statusWord (l : Lane) : Nat :=
  packFields [(6, l.eyeWidth.toNat), (6, l.eyeHeight.toNat), (1, bnat l.active), (1, bnat l.excluded), (1, bnat l.inverted), (3, l.physLane.toNat),
    (24, l.corrected.toNat), (16, l.scans.toNat)]

/-- The register block of a tile (R85, R170, R203, R246, R710). -/
def State.tileReg (s : State) (p off : Nat) : Option Nat :=
  let t := s.tile p
  match off with
  | 0x100 => some (packFields [(24, t.retry.nextTx.toNat), (24, t.retry.acked.toNat), (4, t.retry.replayRun.toNat), (1, bnat t.retry.suspect)])
  | 0x108 => some (packFields [(4, s.level p), (1, bnat t.outOfRouting), (1, bnat t.fenced), (1, bnat t.shoeing), (1, bnat t.shod),
      (1, bnat t.soleUse), (1, bnat t.retry.suspect)])
  | 0x110 => some (packFields [(10, t.vlFloor.toNat), (15, t.vlCap.toNat), (8, t.portOverhead.toNat)])
  | 0x118 => some (packFields [(15, t.rttChunks.toNat), (1, bnat t.rttShort), (15, t.poolFree), (1, 0), (16, t.tc3Resync.toNat), (7, t.bellows.toNat)])
  | 0x120 => some (packFields [(24, t.time.linkDelay.toNat), (16, t.time.asym.toNat), (8, t.time.delayJump.toNat), (1, bnat (s.qualifiesNow p))])
  | 0x128 => some (t.portWord s.time.usesRefB)
  | 0x130 => some t.laneCfg
  | 0x138 => some (packFields [(16, t.shoeSteps.toNat), (16, t.deferrals.toNat), (16, t.delayReports.toNat), (8, t.widthChanges.toNat),
      (8, t.stepFailures.toNat)])
  | _ => if 0x140 ≤ off ∧ off < 0x180 then some (tgetD t.lanes ((off - 0x140) / 8) {}).statusWord else none

/-- other_bank (R169). -/
def bankCode : BankState → Nat
  | .empty => 0
  | .pending => 1
  | .retiring => 2

/-- The route block (R169). -/
def Routing.reg (r : Routing) (off : Nat) : Option Nat :=
  match off with
  | 0x00 => some (packFields [(32, r.activeGen.toNat), (1, bnat r.activeBank), (2, bankCode r.otherBank), (1, bnat r.swapScheduled), (1, bnat r.swapMissed)])
  | 0x08 => some r.swapAt.toNat
  | 0x10 => some (packFields [(8, r.routeWaitUs.toNat), (4, r.nmBias.toNat), (2, r.modeTc0.toNat), (2, r.modeTc1.toNat), (2, r.modeTc2.toNat),
      (12, r.retireUs.toNat)])
  | 0x18 => some (packFields [(14, r.timeoutUs.toNat), (8, r.resendLimit.toNat)])
  | _ => none

/-- The Bellows block (R203). -/
def Sched.bellowsReg (c : Sched) (off : Nat) : Option Nat :=
  if off = 0 then some (packFields [(4, c.onLevel.toNat), (4, c.hardLevel.toNat), (7, c.minFactor.toNat)]) else none

/-- The scheduling block (R203). -/
def Sched.reg (c : Sched) (off : Nat) : Option Nat :=
  match off with
  | 0 => some (packFields [(8, c.tc0Weight.toNat), (8, c.tc1Weight.toNat), (16, c.ejectSpillMib.toNat)])
  | 8 => some (packFields [(30, c.epochNs.toNat), (1, bnat c.sampleEnable)])
  | _ => none

/-- servo_state (R246). -/
def servoCode : Servo → Nat
  | .free => 0
  | .acquiring => 1
  | .locked => 2
  | .holdover => 3

/-- The time block (R246). -/
def Time.reg (t : Time) (idValid : Bool) (off : Nat) : Option Nat :=
  match off with
  | 0 => some (packFields [(8, t.priority.toNat), (1, bnat t.refEnable), (1, bnat t.notifyValid), (17, t.notifyModule.toNat)])
  | 8 => some (packFields [(2, servoCode t.servo), (2, t.ownClass.toNat), (4, t.steps.toNat), (6, t.parent.getD 0x3f), (1, bnat t.refValid),
      (1, bnat (!t.tc2Open idValid)), (16, t.stepCount.toNat), (32, (BitVec.ofInt 32 (t.filt / servoUnit)).toNat)])
  | _ => none

/-- The Stroke block (R245). -/
def Time.strokeReg (t : Time) (off : Nat) : Option Nat :=
  let n0 := t.strokes0.length
  let n1 := t.strokes1.length
  match off with
  | 0x00 => some (packFields [(1, bnat t.strokeEnable), (1, bnat t.strokeBank), (1, bnat t.strokeSwap), (7, if t.strokeBank then n1 else n0),
      (7, if t.strokeBank then n0 else n1)])
  | 0x08 => some t.strokeBase.toNat
  | 0x10 => some t.strokeSwapAt.toNat
  | _ => none

/-- The host block (R274). -/
def HostPort.reg (h : HostPort) (off : Nat) : Option Nat :=
  if off = 0 then some (packFields [(20, h.hostTimeoutUs.toNat), (12, h.biTimeoutUs.toNat)]) else none

/-! ### Queues, matching, remote access, collectives, placement -/

/-- A word of four (R335). -/
def wordOf4 (a b c d : Nat) (off : Nat) : Option Nat :=
  match off with
  | 0x00 => some a
  | 0x08 => some b
  | 0x10 => some c
  | 0x18 => some d
  | _ => none

/-- The queue block (R335). -/
def State.queueReg (s : State) (off : Nat) : Option Nat :=
  if off < 0x80000 then
    match s.wq (off / 0x20) with
    | some w => wordOf4 w.indexWord w.stateWord w.base.toNat w.wb.toNat (off % 0x20)
    | none => wordOf4 0 0 0 0 (off % 0x20)
  else if off < 0x100000 then
    match s.cq ((off - 0x80000) / 0x20) with
    | some c => wordOf4 c.indexWord c.stateWord c.base.toNat c.wb.toNat (off % 0x20)
    | none => wordOf4 0 0 0 0 (off % 0x20)
  else none

/-- The four registers of a context (R379). -/
def Ctx.reg (c : Ctx) (k : Nat) (off : Nat) : Option Nat :=
  wordOf4
    (packFields [(2, c.state.toNat), (10, k / 64), (6, k % 64), (12, c.homeCell.toNat), (2, 0), (14, (c.notify.map (·.toNat)).getD 0),
      (1, bnat c.notify.isSome)])
    (packFields [(27, c.posted.length), (23, c.unexp.length + c.claimed.length)])
    (packFields [(27, c.postedMax.toNat), (23, c.unexpMax.toNat)])
    (packFields [(16, c.stalls.toNat), (16, c.headerOnly.toNat), (16, c.truncations.toNat)]) off

/-- The match block (R379). -/
def State.matchReg (s : State) (off : Nat) : Option Nat :=
  let m := s.matching
  if off < 0x200000 then
    match s.ctx (off / 0x20) with
    | some c => c.reg (off / 0x20) (off % 0x20)
    | none => wordOf4 0 0 0 0 (off % 0x20)
  else if off = 0x200000 then
    some (packFields [(14, m.orderWaitUs.toNat), (14, m.orderAbandonMs.toNat), (16, m.postedSpillMib.toNat), (16, m.unexpPoolMib.toNat)])
  else if 0x201000 ≤ off ∧ off < 0x203000 then some (tgetD m.eagerLimit ((off - 0x201000) / 8) 0x2000).toNat
  else none

/-- The remote block (R427). -/
def State.remoteReg (s : State) (off : Nat) : Option Nat :=
  let r := s.remote
  if off = 0 then
    some (packFields [(14, r.opTimeoutMs.toNat), (14, r.msgTimeoutMs.toNat), (17, r.tombUs.toNat), (4, r.resendMax.toNat), (14, r.openExpireMs.toNat)])
  else if off = 8 then some (packFields [(20, r.openOps.length), (23, r.tombs.length)])
  else if off = 0x10 then some (packFields [(32, r.dupDiscards.toNat), (16, r.tombEarly.toNat), (16, r.expiredOpen.toNat)])
  else if 0x100000 ≤ off ∧ off < 0x4100000 then
    let t := s.tally ((off - 0x100000) / 0x40)
    match off % 0x40 with
    | 0x00 => some t.value.toNat
    | 0x08 => some t.ctrl
    | 0x10 => some t.threshold.toNat
    | 0x18 => some t.cookie.toNat
    | 0x20 => some t.mirror.toNat
    | _ => none
  else none

/-- The four registers of a group record (R478); with no operation open, oldest is whatever the caller gives. -/
def State.groupReg (s : State) (g : Group) (oldest off : Nat) : Option Nat :=
  let r := g.ranksOn s.routing.moduleId
  let first := (g.ops.head?.map fun o => g.ops.foldl (fun (a : BitVec 16) o => if serialLt o.seq a then o.seq else a) o.seq).map (·.toNat)
  wordOf4
    (packFields [(24, g.group.toNat), (2, g.state.toNat), (1, bnat g.coordinator), (1, bnat (g.treeA != 0 || g.treeB != 0)), (1, bnat g.pinned),
      (19, g.members.length - 1), (11, r.2 - r.1)])
    (packFields [(17, (rootOf (g.nodes g.newest)).toNat), (15, 0), (17, g.coord.toNat)])
    (packFields [(16, g.nextSeq.toNat), (16, first.getD oldest), (1, bnat (g.slotFor g.nextSeq)), (16, g.rc.toNat)])
    (packFields [(13, g.treeA.toNat), (3, 0), (13, g.treeB.toNat)]) off

/-- The collective block (R478). -/
def State.collReg (s : State) (oldest off : Nat) : Option Nat :=
  let c := s.coll
  if off = 0 then some (packFields [(20, c.timeoutUs.toNat), (16, c.storeMib.toNat)])
  else if off = 8 then some (packFields [(16, c.restarts.toNat), (16, c.stallReports.toNat), (16, c.aborts.toNat), (16, c.dupDiscards.toNat)])
  else if 0x10000 ≤ off ∧ off < 0x50000 then
    match tget c.groups ((off - 0x10000) / 0x20) with
    | some g => s.groupReg g oldest (off % 0x20)
    | none => wordOf4 0 0 0 0 (off % 0x20)
  else none

/-- The Striker block (R506). -/
def State.strikerReg (s : State) (off : Nat) : Option Nat :=
  let k := s.striker
  if off = 0 then
    some (packFields [(10, k.periodUs.toNat), (7, k.hotPct.toNat), (7, k.coolPct.toNat), (8, k.migPerEpoch.toNat), (14, k.minDwellMs.toNat),
      (7, k.replaceMarginPct.toNat), (7, k.reservePct.toNat)])
  else if off = 8 then
    some (packFields [(1, bnat k.running), (1, bnat k.frozen), (1, bnat k.logEnable), (5, 0),
      (12, (k.cells.filter fun e => e.2.role == 0 && e.2.live).length), (28, k.logLost.toNat)])
  else if off = 0x10 then
    some (packFields [(16, k.migrations.toNat), (16, k.aborted.toNat), (16, k.substitutions.toNat), (8, k.objectsLost.toNat), (8, k.pinsDropped.toNat)])
  else if 0x10000 ≤ off ∧ off < 0x18000 then
    let c := s.cell ((off - 0x10000) / 8)
    some (packFields [(3, c.role.toNat), (2, c.state.toNat), (7, c.busy.toNat), (16, c.free.toNat), (16, c.objects.toNat)])
  else none

/-! ### Translation, instances, Drawing, vises -/

/-- The translation block (R539). -/
def State.transReg (s : State) (off : Nat) : Option Nat :=
  let t := s.trans
  if off < 0x4040 then
    (match off % 0x10 with
    | 0 => some (s.format (off / 0x10)).toNat
    | _ => some (s.root (off / 0x10)))
  else if 0x10000 ≤ off ∧ off < 0x10020 then
    let q := (off - 0x10000) / 8
    some (packFields [(13, t.tlb.countP fun e => e.locked && e.quad == q), (7, t.active.countP fun w => w.quad == q), (32, (s.invGen q).toNat)])
  else if off = 0x10020 then some (packFields [(32, t.walks.toNat), (16, t.faults.toNat), (8, t.restarts.toNat), (8, t.lockDrops.toNat)])
  else none

/-- The instance block (R569). -/
def State.instReg (s : State) (off : Nat) : Option Nat :=
  if off < 0x10000 then
    let x := s.inst (off / 0x40)
    match off % 0x40 with
    | 0x00 => some (s.instStateWord (off / 0x40))
    | 0x08 => some x.resetWord
    | 0x10 => some x.logWord
    | 0x18 => some x.logBase.toNat
    | 0x20 => some x.vaBase.toNat
    | _ => none
  else none

/-- state of DRAW.CH_STATE (R602). -/
def drawCode : DState → Nat
  | .unallocated => 0
  | .idle => 1
  | .running => 2
  | .waiting => 3
  | .signalWait => 4
  | .stopping => 5

/-- The Drawing block (R602). -/
def State.drawReg (s : State) (off : Nat) : Option Nat :=
  let d := s.draw
  if off = 0 then some (packFields [(32, d.preemptions.toNat), (16, d.supersedes.toNat), (16, d.loadErrors.toNat)])
  else if 0x1000 ≤ off ∧ off < 0x3000 then
    let c := s.chan ((off - 0x1000) / 0x20)
    match off % 0x20 with
    | 0x00 => some (packFields [(3, drawCode c.state), (2, ((c.active.map fun (x : DrawSet) => x.priority).getD 0).toNat), (2, c.maxPrio.toNat), (1, bnat c.pending.isSome),
        (1, bnat c.loading.isSome), (16, c.activeGen.toNat), (16, c.shadowGen.toNat), (10, if c.ownerKind = 0 then c.owner.toNat else 0),
        (2, c.ownerKind.toNat), (2, c.hostPort.toNat), (8, c.pc.toNat)])
    | 0x08 => some (packFields [(29, (c.jobs.getLast?.map fun j => j.n - j.done).getD 0), (3, 0), (3, c.loops.length),
        (7, (c.jobs.map fun j => j.lines.length).sum)])
    | 0x10 => some c.bytes.toNat
    | _ => none
  else none

/-- The vise block (R664): a read of the write-only VISE.CLAIM returns zero (R19). -/
def State.viseReg (s : State) (off : Nat) : Option Nat :=
  if off < 0x10000 then
    (match off % 0x10 with
    | 0 => some 0
    | _ =>
      let v := s.vise (off / 0x10)
      some (packFields [(16, v.owner.toNat), (1, bnat v.broken), (2, v.eff.toNat), (1, bnat v.inst.isSome), (10, (v.inst.map (·.toNat)).getD 0),
        (14, v.waiters.length), (16, (v.waiters.head?.map (·.1.toNat)).getD 0)]))
  else if off = 0x10000 then
    let v := s.vises
    some (packFields [(16, v.contended.toNat), (16, v.notOwner.toNat), (16, v.brokenReleases.toNat), (8, v.badIdentity.toNat), (8, v.boosts.toNat)])
  else none

/-! ### Quench, counters, Hearth and power -/

/-- A committed crack area (R821), 4 KiB. -/
def Crack.bytes (c : Crack) : List Byte :=
  leBytes 8 c.time.toNat ++ setBytes c.first ++ setBytes c.sticky ++ setBytes c.rail ++ leBytes 40 0 ++
  sliceBytes (c.records.flatMap recordBytes) 0 1024 ++ leBytes 2488 0 ++ leBytes 4 c.seq.toNat ++ leBytes 4 (~~~c.seq).toNat

/-- QUENCH.COUNT of a detector. -/
def State.countWord (s : State) (d : Nat) : Nat :=
  let c := tgetD s.quench.counts d {}
  let o := c.open_ && decide (s.time.now.toNat < c.ends.toNat)
  packFields [(16, if o then c.count.toNat else 0), (1, bnat o), (1, bnat (o && c.escalated)), (1, bnat (s.quench.rail.contains d))]

/-- QUENCH.INJECT_CTRL of a slot. -/
def Injection.ctrlWord (x : Injection) : Nat :=
  packFields [(11, x.detector.toNat), (1, bnat x.kind), (1, bnat x.noCount), (1, bnat x.pending), (1, bnat x.fired), (1, bnat x.coincident), (12, x.unit.toNat)]

/-- The Quench block (R754). -/
def State.quenchReg (s : State) (off : Nat) : Option Nat :=
  let q := s.quench
  if off < 0xb0 then some (setWord q.first (off / 8))
  else if 0x100 ≤ off ∧ off < 0x1b0 then some (setWord q.sticky ((off - 0x100) / 8))
  else if 0x200 ≤ off ∧ off < 0x2b0 then some (setWord q.rail ((off - 0x200) / 8))
  else if off = 0x300 then some q.firstTime.toNat
  else if off = 0x308 then some s.quenchState
  else if off = 0x310 then some (packFields [(17, q.reportModule.toNat), (1, bnat q.reportValid), (1, bnat q.haltAction)])
  else if off = 0x318 then
    some (packFields [(16, q.suppressed.toNat), (16, q.railFaults.toNat), (16, q.injectionsFired.toNat), (8, q.coincident.toNat), (8, q.breaks.toNat)])
  else if off = 0x320 then some (packFields [(32, q.logTail.toNat), (8, min 64 q.logTail.toNat), (24, q.logLost.toNat)])
  else if 0x4000 ≤ off ∧ off < 0x6c00 then some (s.policy ((off - 0x4000) / 8)).toNat
  else if 0x8000 ≤ off ∧ off < 0xac00 then some (s.countWord ((off - 0x8000) / 8))
  else if 0xc000 ≤ off ∧ off < 0xc100 then
    let x := tgetD q.inject ((off - 0xc000) / 16) {}
    some (if off % 16 = 0 then x.ctrlWord else x.instant.toNat)
  else if 0x10000 ≤ off ∧ off < 0x14000 then
    some (((tget q.log ((off - 0x10000) / 64)).map fun r => leAt (recordBytes r) (off % 64) 8).getD 0)
  else if 0x20000 ≤ off ∧ off < 0x21000 then
    some (if s.hearth.crackRead then (q.crackNew.map fun c => leAt c.bytes (off - 0x20000) 8).getD 0 else 0)
  else none

/-- The counter block but for the counters' values (R775). -/
def Counters.reg (k : Counters) (off : Nat) : Option Nat :=
  if 0x8000 ≤ off ∧ off < 0xd000 then some (tgetD k.sels ((off - 0x8000) / 8) 0).toNat
  else if 0x10000 ≤ off ∧ off < 0x10040 then
    some (packFields ((List.range 64).map fun b => (1, bnat (tgetD k.wrapped (2048 + 64 * ((off - 0x10000) / 8) + b) false))))
  else
    match off with
    | 0x10100 => some k.tagCfg.toNat
    | 0x10108 => some k.hsCfg.toNat
    | 0x10110 => some k.tagRing.toNat
    | 0x10118 => some k.hsRing.toNat
    | 0x10120 => some (packFields [(16, k.tagLost.toNat), (16, k.tagSkipped.toNat), (16, k.hsLost.toNat), (16, k.maskedDrops.toNat)])
    | _ => none

/-- Block 0x13 (R646, R791). -/
def State.hearthReg (s : State) (off : Nat) : Option Nat :=
  let h := s.hearth
  let p := s.power
  match off with
  | 0x000 => some (packFields [(4, modeCode h.mode), (1, bnat h.ready), (1, bnat h.runningSlot), (1, bnat h.bootSlot), (1, bnat h.rolledBack),
      (13, h.queue.length), (11, 0), (32, h.version.toNat)])
  | 0x008 => some (packFields [(16, h.fabricBusy.toNat), (16, h.sidebandRepeats.toNat), (16, h.eventsLost.toNat), (16, h.rollbacks.toNat)])
  | 0x100 => some (packFields [(1, bnat p.inA), (1, bnat p.inB), (1, bnat p.holdup), (1, bnat h.mgrStrap), (4, 0), (12, p.inAPower.toNat),
      (12, p.inBPower.toNat), (8, p.dieTemp.toNat), (8, p.coolantIn.toNat), (8, p.flow.toNat)])
  | _ => none

/-! ### REG_READ (R631) -/

/-- Whether a block and index exist (R631). -/
def regBlockOk (block index : Nat) : Bool :=
  match block with
  | 0x00 => index < 4
  | 0x01 => index < 64
  | 0x07 => index < 4
  | _ => block < 0x14 && index == 0

/-- The register at an offset of a block, none where the offset is undefined. A counter whose count no command determines, and
oldest_open of a group with nothing open, are free values. -/
def State.regAt (s : State) (block index off : Nat) : Option Nat × State :=
  match block with
  | 0x00 => (s.pageReg { port := index, vf := none } off, s)
  | 0x01 => (s.tileReg index off, s)
  | 0x02 => (s.routing.reg off, s)
  | 0x03 => (s.sched.bellowsReg off, s)
  | 0x04 => (s.sched.reg off, s)
  | 0x05 => (s.time.reg s.routing.idValid off, s)
  | 0x06 => (s.time.strokeReg off, s)
  | 0x07 => ((s.port index).reg off, s)
  | 0x08 => (s.queueReg off, s)
  | 0x09 => (s.matchReg off, s)
  | 0x0a => (s.remoteReg off, s)
  | 0x0b =>
    let (n, t) := s.drawFree 65536
    (s.collReg n off, t)
  | 0x0c => (s.strikerReg off, s)
  | 0x0d => (s.transReg off, s)
  | 0x0e => (s.instReg off, s)
  | 0x0f => (s.drawReg off, s)
  | 0x10 => (s.viseReg off, s)
  | 0x11 => (s.quenchReg off, s)
  | 0x12 =>
    if off < 0x5000 then
      let (w, t) := s.counterWord (off / 8)
      (some w.toNat, t)
    else (s.counters.reg off, s)
  | _ => (s.hearthReg off, s)

/-- Whether a register of an object-bearing block belongs to an object that the caller reaches (R550, R620, R631, R664). A register of
no object is in no host's and no instance's scope; the padding between registers is no register. -/
def State.objScope (s : State) (a : Auth) (c : Call) (block off : Nat) : Bool :=
  let holder := fun (i : Option Nat) => (i.map fun i => s.reaches a i).getD false
  match block with
  | 0x08 =>
    if off < 0x80000 then ((s.wq (off / 0x20)).map fun w => s.reachesObj a c w.owner w.instOf).getD false
    else if off < 0x100000 then ((s.cq ((off - 0x80000) / 0x20)).map fun r => s.reachesObj a c r.owner r.inst).getD false
    else true
  | 0x09 =>
    if off < 0x200000 then s.reaches a (off / 0x20 / 64)
    else if 0x201000 ≤ off ∧ off < 0x203000 then s.reaches a ((off - 0x201000) / 8)
    else (s.matchReg off).isNone
  | 0x0a =>
    if 0x100000 ≤ off ∧ off < 0x4100000 then
      let t := s.tally ((off - 0x100000) / 0x40)
      (s.remoteReg off).isNone || (t.allocated && s.reaches a t.inst.toNat)
    else (s.remoteReg off).isNone
  | 0x0d => if off < 0x4040 then s.reachesDomain a (off / 0x10) else (s.transReg off).isNone
  | 0x0e => (s.instReg off).isNone || s.reaches a (off / 0x40)
  | 0x0f =>
    if 0x1000 ≤ off ∧ off < 0x3000 then
      let ch := s.chan ((off - 0x1000) / 0x20)
      (s.drawReg off).isNone ||
      (ch.state != .unallocated &&
        if ch.ownerKind = 0 then holder (some ch.owner.toNat)
        else ch.ownerKind == 1 && a == .host ch.hostPort.toNat)
    else (s.drawReg off).isNone
  | 0x10 =>
    if off < 0x10000 then
      match (s.vise (off / 0x10)).inst, a with
      | some i, _ => s.reaches a i.toNat
      | none, .host _ => true
      | none, _ => false
    else (s.viseReg off).isNone
  | 0x0b => (s.collReg 0 off).isNone
  | 0x0c => (s.strikerReg off).isNone
  | _ => false

/-- Whether a register lies in the caller's scope (R631). Fabric authority, where its allowance lists the command, reads all. -/
def State.regScope (s : State) (a : Auth) (c : Call) (block off : Nat) : Bool :=
  match a with
  | .host _ => block < 0x08 || (0x11 ≤ block && block < 0x14) || s.objScope a c block off
  | .inst _ => block == 0x00 || block == 0x05 || s.objScope a c block off
  | _ => true

/-- Successive words of a block; an undefined offset reads zero (R23). -/
def State.regWords (s : State) (block index off : Nat) : Nat → List Byte × State
  | 0 => ([], s)
  | n + 1 =>
    let (v, s) := s.regAt block index off
    let (bs, s) := s.regWords block index (off + 8) n
    (leBytes 8 (v.getD 0) ++ bs, s)

/-- R23, R631: read registers. -/
def execRegRead (c : Call) (block index : Nat) (offset : BitVec 32) (count : Nat) (s : State) : Host.Outcome State Fault Refusal :=
  s.fleso c 0x0002 (fun a => a.isMHI || (a == .fabric && s.fabricMay 0x0002)) fun a s =>
    let o := offset.toNat
    if !regBlockOk block index then (s, .bad (if block < 0x14 then 1 else 0))
    else if o % 8 ≠ 0 then (s, .bad 2)
    else if count < 1 ∨ 120 < count then (s, .bad 3)
    else if !(List.range count).all fun k => s.regScope a c block (o + 8 * k) then (s, .err eNoAuthority)
    else
      let (bs, s) := s.regWords block index o count
      (s, .res bs)

/-! ### REG_WRITE (R20, R23, R620, R710) -/

/-- Set TILE.LANE_CFG; clearing test retrains the port (R685). -/
def State.setLaneCfg (s : State) (p : Nat) (w : Word) : State :=
  let was := (s.tile p).test
  let s := s.modTile p fun t =>
    { t with maxRate := BitVec.ofNat 2 (bits w 1 0), fixedRate := bit w 2, allowDegrade := bit w 3, test := bit w 4,
             marginFloor := BitVec.ofNat 6 (bits w 10 5), criticalMargin := BitVec.ofNat 6 (bits w 16 11),
             shoeWaitMs := BitVec.ofNat 8 (bits w 24 17) }
  if was && !bit w 4 && s.hearth.mode == .diagnostic then s.retrain p none (16 * p + 12) else s

/-- R20, R23, R620, R710: write a register under Debug authority. Of all registers TILE.LANE_CFG alone takes a write; an undefined
offset records a Notice. -/
def execRegWrite (c : Call) (block index : Nat) (offset : BitVec 32) (value mask : Word) (s : State) : Host.Outcome State Fault Refusal :=
  s.fleso c 0x0003 (· == .debug) fun _ s =>
    let o := offset.toNat
    if !regBlockOk block index then (s, .bad (if block < 0x14 then 1 else 0))
    else if o % 8 ≠ 0 then (s, .bad 2)
    else if block = 1 ∧ o = 0x130 then
      let w := (BitVec.ofNat 64 (s.tile index).laneCfg &&& ~~~mask) ||| (value &&& mask)
      if bits w 10 5 ≤ bits w 16 11 ∨ bits w 24 17 = 0 then (s, .bad 3) else (s.setLaneCfg index w, .ok)
    else if (s.regAt block index o).1.isSome then (s, .ok)
    else (s.badWrite, .ok)

/-! ### IDENTIFY (R2, R630) -/

/-- R630: who the module is. -/
def execIdentify (c : Call) (s : State) : Host.Outcome State Fault Refusal :=
  s.fleso c 0x0001 (fun a => a != .fabric || s.fabricMay 0x0001) fun _ s =>
    let h := s.hearth
    (s, .res (leBytes 8 Config.hubId.toNat ++ leBytes 8 s.moduleIdWord ++ leBytes 8 s.shapeWord ++ leBytes 8 (modeCode h.mode) ++
      leBytes 8 h.version.toNat ++ leBytes 48 (Config.sha384 h.roleMap).toNat))

end Sys2Proof.Machine
end

