-- ==== Sys2Proof/Machine/Startup.lean ====
section
/-! DEFINITION. Mode requests, power-on, self-test, bring-up, drain, module reset (21), and the role map (R632, R633). -/

namespace Sys2Proof.Machine

open Sys2Proof

/-! ### Module reset and power-on (R805, R806) -/

/-- What a reset leaves: everything at its reset value but for the boot flash, the mains and pins, the cages' assemblies, and the model's own
record of outputs, queue and free-value counter. Machine Time's references are pins. -/
def State.cleared (s : State) (m : Mode) : State :=
  let h := s.hearth
  let p := s.power
  let t := s.time
  { ({} : State) with
    hearth := { mode := m, flashBoot := h.flashBoot, slotA := h.slotA, slotB := h.slotB }
    quench := { crackNew := s.quench.crackNew, crackOld := s.quench.crackOld }
    power := { inA := p.inA, inB := p.inB, holdup := p.holdup, holdupAt := p.holdupAt, powerDown := p.powerDown, resetN := p.resetN,
               railsOk := p.railsOk }
    time := { refAValid := t.refAValid, refBValid := t.refBValid, usesRefB := !t.refAValid && t.refBValid }
    tiles := tmap s.tiles fun _ t => { ({} : Tile) with present := t.present, supply := t.supply, overdrawn := t.overdrawn, refused := t.refused }
    ports := tmap s.ports fun _ p => { ({} : HostPort) with perst := p.perst, sris := p.sris }
    out := s.out
    pending := s.pending
    free := s.free }

/-- Fabric transmitters go idle and MOD_READY is driven low. -/
def State.goDark (s : State) : State :=
  let s := (List.range 64).foldl (fun (s : State) p => s.emit (.idle p)) s
  s.setReady false

/-- Module reset (R805, R806): the power-on domain stays; the module enters Standby. -/
def State.moduleReset (s : State) : State :=
  let q := s.quench
  let s := s.goDark.cleared .standby
  { s with quench := { s.quench with first := q.first, firstTime := q.firstTime, firstValid := q.firstValid, sticky := q.sticky, rail := q.rail,
                                     log := q.log, logTail := q.logTail, logLost := q.logLost } }

/-- Power-on from Off: the power-on domain is reset with the rest (R721, R806). -/
def State.powerOn (s : State) : State :=
  let s := s.cleared .standby
  { s with power := { s.power with holdup := false, powerDown := false } }

/-- R731, R805: with halt_action set, Quench resets the module 1 s after a Halt. -/
def execHaltActionReset (now : Ticks) (s : State) : Host.Outcome State Fault Refusal :=
  let s := s.advance now
  let q := s.quench
  .next (if q.halted && q.haltAction && s.hearth.mode != .cracked && decide (q.haltTime.toNat + secTicks ≤ s.time.now.toNat) then s.moduleReset else s)

/-- R805: RESET_N low for 1 µs; it has no effect in Cracked, and none beyond the pin in Off. -/
def execResetNLow (s : State) : Host.Outcome State Fault Refusal :=
  let s := { s with power := { s.power with resetN := false } }
  .next (if s.hearth.mode = .off ∨ s.hearth.mode = .standby ∨ s.hearth.mode = .cracked then s else s.moduleReset)

/-- R255, R798, R803: RESET_N is high and the rails are good: the module leaves Standby for Hearth boot and samples MGR_STRAP. -/
def execResetNHigh (mgrStrap : Bool) (s : State) : Host.Outcome State Fault Refusal :=
  let s := { s with power := { s.power with resetN := true } }
  .next (if s.hearth.mode = .standby ∧ s.power.railsOk then
    ({ s with hearth := { s.hearth with mgrStrap } }).setMode .hearthBoot else s)

/-! ### The role map (R481, R495, R632, R633) -/

/-- The default map's role of a cell. -/
def defaultRole (n : Nat) : Nat :=
  let c := n % 64
  if c < 32 then 1 else if c < 40 then 2 else if c < 44 then 5 else if c < 48 then 3
  else if c = 60 ∧ [0, 7, 27, 28, 35, 36, 56, 63].contains (n / 64) then 6
  else if c < 60 then 4 else 0

/-- Fleso's default role map as an image. -/
def defaultMap : List Byte :=
  leBytes 2 5 ++ leBytes 14 0 ++ (List.range 4096).map (fun n => BitVec.ofNat 8 (defaultRole n)) ++
  [0x0001, 0x0002, 0x0606, 0x0901, 0x0906].flatMap (leBytes 2)

/-- The role codes of a map, cell by cell. -/
def mapRoles (image : List Byte) : List Nat := ((image.drop 16).take 4096).map (·.toNat)
/-- The fabric allowance of a map. -/
def mapAllowance (image : List Byte) : List (BitVec 16) :=
  let t := image.drop 4112
  (List.range (t.length / 2)).map fun i => BitVec.ofNat 16 (leAt t (2 * i) 2)

/-- Whether a map breaks the layout of R632. -/
def mapMisformed (image : List Byte) : Bool :=
  decide (64 < leAt image 0 2) || !(((image.drop 2).take 14).all (· == 0)) || image.length != 4112 + 2 * leAt image 0 2

/-- What R633 refuses a map for: a cell's code, a role that no cell has or a quadrant without a walker, the allowance. -/
inductive MapFault where
  | cell (n : Nat)
  | roles
  | allowance
  deriving DecidableEq, Repr

/-- The first refusal of R633. -/
def mapFault (image : List Byte) : Option MapFault :=
  let l := mapRoles image
  match l.findIdx? (fun r => decide (7 ≤ r)) with
  | some n => some (.cell n)
  | none =>
    if !([1, 2, 3, 4, 6].all fun r => l.contains r) || !((List.range 4).all fun q => (numbered l).any fun e => e.2 == 5 && cellQuad e.1 == q) then some .roles
    else if (mapAllowance image).any fun c => [0x0003, 0x0101, 0x0904, 0x0a01, 0x0a02, 0x0a03].contains c.toNat then some .allowance
    else none

/-- Note the active map. -/
def State.setMap (s : State) (image : List Byte) : State :=
  { s with hearth := { s.hearth with roleMap := image, allowance := mapAllowance image } }

/-- Every cell takes its role at once (Hearth boot); a fenced one stays as it is. -/
def State.applyMap (s : State) : State :=
  let cells := (numbered (mapRoles s.hearth.roleMap)).map fun e =>
    let c := s.cell e.1
    (e.1, if c.state = 2 then c else { c with role := BitVec.ofNat 3 e.2, state := if e.2 = 0 then 0 else 1 })
  ({ s with striker := { s.striker with cells } }).refreshStriker

/-- A running module takes a map cell by cell (R633): a spare takes its role at once, a cell that leaves a role is drained first, a fenced
cell stays as it is. -/
def State.changeRoles (s : State) : State :=
  let news := (numbered (mapRoles s.hearth.roleMap)).filter fun e => (s.cell e.1).role.toNat != e.2
  let fenced := news.filter fun e => (s.cell e.1).state == 2 || (s.cell e.1).state == 3
  let free := news.filter fun e => (s.cell e.1).role == 0 && (s.cell e.1).state != 2
  let busy := news.filter fun e => (s.cell e.1).role != 0 && (s.cell e.1).state == 1
  let s := { s with hearth := { s.hearth with roleLeft := fenced.length } }
  let s := free.foldl (fun (s : State) e => s.modCell e.1 fun c => { c with role := BitVec.ofNat 3 e.2, state := 1 }) s
  let s := { s with striker := { s.striker with wanted := busy.foldl (fun t e => tset t e.1 e.2) s.striker.wanted } }
  (busy.foldl (fun (s : State) e => s.drainCell e.1) s).refreshStriker

/-- R632, R633: check a role map and take it. -/
def execRolemapLoad (c : Call) (ref : DataRef) (s : State) : Host.Outcome State Fault Refusal :=
  s.fleso c 0x0a01 (·.isM) fun _ s =>
    let image := s.refBytes ref
    if !s.refOk c.via ref ∨ mapMisformed image then (s, .bad 0)
    else
      match mapFault image with
      | some (.cell n) => (s, .table 4 n 0)
      | some .allowance => (s, .table 4 0xffff 0)
      | some .roles =>
        let (n, s) := s.drawFree 65536
        (s, .table 4 n 0)
      | none =>
        if s.hearth.roleCall.isSome then (s, .err eWrongState)
        else
          let s := s.setMap image
          if s.hearth.mode = .hearthBoot then
            (s.applyMap, .res (leBytes 48 (Config.sha384 image).toNat ++ leBytes 8 0))
          else
            (({ s with hearth := { s.hearth with roleCall := some c } }).changeRoles.roleDone, .later)

/-! ### Hearth boot (R803, R804) -/

/-- R638, R803 steps 3 to 6: the ROM's checks, the images, Fleso's start. -/
def execFlesoReady (romOk fusesOk slotAValid slotBValid : Bool) (s : State) : Host.Outcome State Fault Refusal :=
  let h := s.hearth
  if h.mode ≠ .hearthBoot ∨ h.ready then .next s
  else if !romOk || !fusesOk then
    let s := if romOk then s else s.raiseAt 1373 0
    .next (if fusesOk then s else s.raiseAt 1370 0)
  else
    let s := { s with hearth := { h with bootSlot := h.flashBoot, crackRead := true } }
    let first := if h.flashBoot then slotBValid else slotAValid
    let second := if h.flashBoot then slotAValid else slotBValid
    let s := if first then s else s.raiseAt 1225 0
    if !first && !second then .next (s.raiseAt 1226 0)
    else
      let slot := if first then h.flashBoot else !h.flashBoot
      let s := s.setMap defaultMap
      let s := { s with
        hearth := { s.hearth with runningSlot := slot, version := BitVec.ofNat 32 (leAt (h.slotImage slot) 8 4) } }
      .next (s.setReady true).serve

/-- Whether some needed role has no cell left (R503, R804). -/
def State.roleLost (s : State) : Bool :=
  [1, 2, 3, 4, 5, 6].any fun (r : Nat) => !s.striker.cells.any fun e => e.2.role.toNat == r && e.2.live

/-- R803 steps 7 and 8, R804: the role map is applied, what failed is fenced, and the module enters Link bring-up; a failure of module
memory, or of every cell of a role, is a Halt instead. -/
def execSelfTestPass (failedCells failedChannels failedPorts : List Nat) (memoryFailed : Option Nat) (s : State) :
    Host.Outcome State Fault Refusal :=
  if s.hearth.mode ≠ .hearthBoot ∨ !s.hearth.ready then .next s
  else
    match memoryFailed with
    | some k => .next (s.raiseAt (1152 + 16 * (k % 4) + 3) (k % 4))
    | none =>
      let s := if s.striker.cells.isEmpty then s.applyMap else s
      let s := (failedCells.filter (· < 4096)).foldl (fun (s : State) n => s.fenceUnit { kind := 2, num := n } (16 * (n / 64) + 15)) s
      let s := (failedChannels.filter (· < 256)).foldl (fun (s : State) n => s.fenceUnit { kind := 5, num := n } 1312) s
      let s := (failedPorts.filter (· < 64)).foldl (fun (s : State) n => s.fenceUnit { kind := 1, num := n } (16 * n)) s
      .next (if s.roleLost then s
        else (({ s with hearth := { s.hearth with selfTested := true } }).setMode .linkBringup).bringupExit.serve)

/-- R799: 2 s after id_valid the module leaves Link bring-up. -/
def execLinkBringupTimeout (now : Ticks) (s : State) : Host.Outcome State Fault Refusal :=
  let s := s.advance now
  .next (if s.hearth.mode = .linkBringup ∧ s.routing.idValid ∧ s.hearth.idSince.toNat + 2 * secTicks ≤ s.time.now.toNat then
    s.leaveBringup.serve else s)

/-! ### MODE_REQUEST and Drain (R798, R801, R802) -/

/-- The answer that names the new mode. -/
def State.modeReply (s : State) : Reply := .res (leBytes 8 (modeCode s.hearth.mode))

/-- The answer to MODE_REQUEST 8: the mode and the count left (R801). -/
def State.drainResult (s : State) : List Byte := leBytes 4 (modeCode s.hearth.mode) ++ leBytes 4 s.opsInFlight

/-- Answer a MODE_REQUEST 8 that waits. -/
def State.answerDrain (s : State) : State :=
  match s.hearth.drainCall with
  | none => s
  | some c => (({ s with hearth := { s.hearth with drainCall := none } }).answer c.via c.seq 0x0007 0 s.drainResult).serve

/-- R798, R801, R802: ask for a mode. -/
def execModeRequest (c : Call) (word : Word) (s : State) : Host.Outcome State Fault Refusal :=
  s.fleso c 0x0007 (·.isM) fun _ s =>
    let m := s.hearth.mode
    let wrong : State × Reply := (s, .errD eWrongMode (leBytes 1 (modeCode m)))
    match firstBad [(!List.contains [0, 8, 9, 10] (bits word 3 0), 0), (bits word 63 4 != 0, 4)] with
    | some o => (s, .badAt o)
    | none =>
      match bits word 3 0 with
      | 8 =>
        if !isService m then wrong
        else
          let s := s.setMode .drain
          if s.opsInFlight = 0 then (s, .res s.drainResult)
          else ({ s with hearth := { s.hearth with drainCall := some c, drainSince := s.time.now } }, .later)
      | 9 =>
        if !isService m && m != .drain then wrong
        else
          let s := (s.lapsePresence.setMode .isolated).announce
          (s, s.modeReply)
      | 10 =>
        if m ≠ .hearthBoot ∧ m ≠ .linkBringup ∧ m ≠ .isolated then wrong
        else
          let s := s.lapsePresence.setMode .diagnostic
          (s, s.modeReply)
      | _ =>
        if m = .drain then
          let s := s.enterService
          (s, s.modeReply)
        else if m = .isolated then
          let s := ({ s with hearth := { s.hearth with returnCall := some c } }).setMode .linkBringup
          (s.announce.bringupExit, .later)
        else wrong

/-- R801: nothing is in flight any more: MODE_REQUEST 8 is answered. -/
def execDrainComplete (s : State) : Host.Outcome State Fault Refusal :=
  .next (if s.opsInFlight = 0 then s.answerDrain else s)

/-- R801: 10 s in Drain: MODE_REQUEST 8 is answered with what is left. -/
def execDrainTimeout (now : Ticks) (s : State) : Host.Outcome State Fault Refusal :=
  let s := s.advance now
  .next (if s.hearth.drainSince.toNat + 10 * secTicks ≤ s.time.now.toNat then s.answerDrain else s)

end Sys2Proof.Machine
end

