-- ==== Sys2Proof/Machine/Firmware.lean ====
section
/-! DEFINITION. Fleso images: staging, activation, rollback (R636-R644), and the watchdog's restart (R808). -/

namespace Sys2Proof.Machine

open Sys2Proof

/-! ### Images (R636, R637, R639) -/

/-- What is wrong with an image, by R639's reasons: 1 magic or layout, 2 hash, 3 signature, 5 security_epoch; 0 when it is valid. -/
def imageFault (bs : List Byte) : Nat :=
  let body := leAt bs 4 4
  let zero := fun (o n : Nat) => (sliceBytes bs o n).all (· == 0)
  if bs.length < 256 ∨ leAt bs 0 4 ≠ 0x4f534c46 ∨ body % 4096 ≠ 0 ∨ 50331648 < body ∨ bs.length ≠ 256 + body ∨ !zero 13 3 ∨ !zero 160 96 then 1
  else if Config.sha384 (bs.drop 256) ≠ BitVec.ofNat 384 (leAt bs 16 48) then 2
  else if !Config.signatureValid (bs.take 256) then 3
  else if leAt bs 12 1 < Config.fusedEpoch.toNat then 5
  else 0

/-- version of an image. -/
def imageVersion (bs : List Byte) : BitVec 32 := BitVec.ofNat 32 (leAt bs 8 4)

/-- image_rejected with a reason. -/
def Reply.image (reason : Nat) : Reply := .errD eImageRejected (leBytes 1 reason)

/-- R637, R639: write a valid image into the slot that is not running. -/
def execFwStage (c : Call) (ref : DataRef) (s : State) : Host.Outcome State Fault Refusal :=
  s.fleso c 0x0a02 (·.isM) fun _ s =>
    let image := s.refBytes ref
    if !s.refOk c.via ref then (s, .bad 0)
    else if imageFault image ≠ 0 then (s, .image (imageFault image))
    else
      let h := if s.hearth.runningSlot then { s.hearth with slotA := image } else { s.hearth with slotB := image }
      ({ s with hearth := h }, .res (leBytes 8 (imageVersion image).toNat))

/-! ### Activation (R641-R644) -/

/-- Hearth restarts: vises of cores are released broken (R660), the firmware sampler stops (R774). -/
def State.restartHearth (s : State) : State :=
  let s := (List.range 8).foldl (fun (s : State) k => s.breakIdentity (idCore k)) s
  { s with counters := { s.counters with hsCfg := s.counters.hsCfg &&& ~~~(1#64) } }

/-- The mode that a live activation left; in the service modes R288 and R728 choose (R800). -/
def State.resumeMode (s : State) : State :=
  if s.hearth.mode ≠ .firmwareUpdate then s
  else if isService s.hearth.leftMode then s.enterService else s.setMode s.hearth.leftMode

/-- R637, R641-R643: set boot_slot to the staged slot, or restart Hearth on it once the commands that run are finished. -/
def execFwActivate (c : Call) (live : Bool) (s : State) : Host.Outcome State Fault Refusal :=
  s.fleso c 0x0a03 (·.isM) fun _ s =>
    let h := s.hearth
    let slot := !h.runningSlot
    if !live then ({ s with hearth := { h with flashBoot := slot, bootSlot := slot } }, .res (leBytes 8 h.version.toNat))
    else if !isService h.mode && h.mode != .drain then (s, .errD eWrongMode (leBytes 1 (modeCode h.mode)))
    else if imageFault (h.slotImage slot) ≠ 0 then (s, .image (imageFault (h.slotImage slot)))
    else ({ s with hearth := { h with activating := some c } }, .later)

/-- The activation under way: its caller. -/
def Hearth.restarting (h : Hearth) : Option Call := if h.mode = .firmwareUpdate then h.activating else none

/-- R643 steps 3 to 5: the new Fleso is ready. -/
def execFwActivationReady (s : State) : Host.Outcome State Fault Refusal :=
  match s.hearth.restarting with
  | none => .next s
  | some c =>
    let slot := !s.hearth.runningSlot
    let v := imageVersion (s.hearth.slotImage slot)
    let s := { s with hearth := { s.hearth with runningSlot := slot, bootSlot := slot, flashBoot := slot, version := v, activating := none } }
    let s := ((s.restartHearth.setReady true).resumeMode).eventAll 0x0005 0 (v.zeroExtend 128)
    .next (s.answer c.via c.seq 0x0a03 0 (leBytes 8 v.toNat)).serve

/-- R644: the new Fleso fails its self-test, or is not ready in 2 s: Hearth restarts on the former slot. -/
def execFwActivationTimeout (selfTestFailed : Bool) (s : State) : Host.Outcome State Fault Refusal :=
  match s.hearth.restarting with
  | none => .next s
  | some c =>
    let h := s.hearth
    let reason := if selfTestFailed then 4 else 6
    let s := { s with hearth := { h with activating := none, rolledBack := true, rollbacks := satInc h.rollbacks } }
    let s := (s.emit (.flesoRestart h.runningSlot)).restartHearth.setReady true
    let s := (s.resumeMode.eventAll 0x0006 0 (BitVec.ofNat 128 (h.version.toNat + 2 ^ 32 * reason))).raiseAt 1227 0
    .next (s.answer c.via c.seq 0x0a03 eImageRejected (sliceBytes (leBytes 1 reason) 0 16)).serve

/-! ### The watchdog (R604, R806, R808) -/

/-- R808: Fleso restarts; the mailbox slots that were running end with fault. What the data path does goes on (R604). -/
def execHearthWatchdog (s : State) : Host.Outcome State Fault Refusal :=
  if !s.hearth.ready then .next s
  else
    let s := s.raiseAt 1224 0
    let s := (List.range 8).foldl (fun (s : State) k => s.breakByFault (idCore k) 1224 k) s
    let s := { s with counters := { s.counters with hsCfg := s.counters.hsCfg &&& ~~~(1#64) } }
    let hit := s.hearth.running.filter fun x => match x.1.via with
      | .mailbox _ _ => true
      | _ => false
    .next (hit.foldl (fun (s : State) x => s.answer x.1.via x.1.seq x.1.opcode eFault (sliceBytes (leBytes 1 0xff) 0 16)) s).serve

end Sys2Proof.Machine
end

