-- ==== Sys2Proof/Machine/Inject.lean ====
section
/-! DEFINITION. The injection schedulers' decision (04, R192), with what may not be injected: a packet on a tree elsewhere than at its root
(R161), and one beyond a stream's window (R117). -/

namespace Sys2Proof.Machine

open Sys2Proof

/-- The heads of a class's injection queues. -/
def State.injectHeads (s : State) (tc : BitVec 2) : List (Nat × QPkt) :=
  headsBy (fun q => q.inst.getD 0) (s.sched.inject.filter fun q => q.pkt.tc == tc) []

/-- The oldest number of a packet's stream that is still outstanding at its source: its first open operation's, or, of collective data, the
first packet's that is kept (R117, R385, R450). -/
def State.oldestOut (s : State) (p : Packet) : Option (BitVec 32) :=
  if p.pktType = 0x09 then
    ((s.coll.groups.flatMap fun e => e.2.ops.flatMap fun o =>
      o.kept.filter fun q => streamKeyOf q false == streamKeyOf p false).map fun q => q.e2eSeq).foldl
        (fun (a : Option (BitVec 32)) n => match a with
          | none => some n
          | some m => some (if serialLe m n then m else n)) none
  else (s.remote.srcOps.find? fun o => o.src == p.src && o.dst == p.dst && o.tc == p.tc && o.mcast == p.mcast).map (·.e2eBase)

/-- Whether a packet keeps its stream within 2^24 packets of the oldest outstanding one (R117). A resent packet went before. -/
def State.inWindow (s : State) (p : Packet) : Bool :=
  p.resent || ((s.oldestOut p).map fun n => decide ((p.e2eSeq - n).toNat < Config.streamWindow)).getD true

/-- A packet of a tree on which this module may not inject (R161): it and the others of its operation leave the injection queues, and the
operation ends with unreachable. -/
def State.refuseCast (s : State) (p : Packet) : State :=
  let mine := fun (q : QPkt) => q.pkt.mcast && q.pkt.pktType == p.pktType && q.pkt.src == p.src && q.pkt.dst == p.dst &&
    (if p.pktType = 0x09 then q.pkt.typeWord.toNat % 2 ^ 41 == p.typeWord.toNat % 2 ^ 41 else q.pkt.opTag == p.opTag)
  let s := { s with sched := { s.sched with inject := s.sched.inject.filter fun q => !mine q } }
  if p.pktType = 0x09 then
    match s.groupRec (BitVec.ofNat 24 (bits p.typeWord 23 0)) with
    | none => s
    | some (r, _) =>
      let seq : BitVec 16 := BitVec.ofNat 16 (bits p.typeWord 39 24)
      (s.modOp r seq fun o => { o with status := if o.status = 0 then 0x08 else o.status }).collStatus r seq
  else
    match s.srcOp p.src p.opTag with
    | some o => s.finishSrc o 0x08 0 0
    | none => s

/-- R192: one decision of a class's injection scheduler: among the instances' heads that may go, the one of least start
tag is admitted with its first hop. A head for a tree on which this module may not inject ends its operation (R161). A head without a usable candidate is marked for R141, and one that has one is not.
R192 speaks of one first hop; of a multicast packet's several ports the model takes the first, and port 0 when it has
none, for its counted length and gate (DESIGN CHOICE, assumption log 114). -/
def execInjectionDecision (tc : BitVec 2) (s : State) : Host.Outcome State Fault Refusal :=
  if tc = 3 ∨ s.stopped then .next s
  else
    let heads := s.injectHeads tc
    let bad := heads.filter fun h => h.2.pkt.mcast && !s.castOk h.2.pkt.dst
    let s := bad.foldl (fun (s : State) h => s.refuseCast h.2.pkt) s
    let heads := s.injectHeads tc
    let live := heads.filter fun h => shapeShare (s.sched.shape h.1 tc.toNat) != 0
    let v := (tgetD s.sched.injectV tc.toNat {}).fix s.time.now (live.map fun h => (h.1, headOf h.2))
    let s := { s with sched := { s.sched with injectV := tset s.sched.injectV tc.toNat v } }
    let look : List (Nat × QPkt × State × Route × QPkt) := heads.map fun h => (h.1, h.2, if h.2.pkt.mcast then (s, Route.out ((s.fanPorts h.2).1.headD 0), h.2) else s.injectHop h.2)
    let stuck := look.filter fun e => match e.2.2.2.1 with
      | .out _ => false
      | _ => true
    let gated := look.filterMap fun e => match e.2.2.2.1 with
      | .out o => if tc != 2 && decide (gateFill (s.tile o) s.time.now < countedLen (s.tile o) e.2.1.pkt) then some o else none
      | _ => none
    let noteGates := fun (s : State) => gated.eraseDups.foldl (fun (s : State) o => s.count 0x0024 o tc.toNat 1) s
    let mark := fun (q : QPkt) =>
      if !(look.any fun e => e.2.1 == q) then q
      else { q with noHop := if stuck.any fun e => e.2.1 == q then q.noHop.orElse fun _ => some s.time.now else none }
    let marked := fun (s : State) => { s with sched := { s.sched with inject := s.sched.inject.map mark } }
    let ready := look.filter fun e => match e.2.2.2.1 with
      | .out o => s.mayInject e.1 e.2.1.pkt o && s.inWindow e.2.1.pkt && (tc != 2 || s.strokeAdmits e.1)
      | _ => false
    match v.pick (ready.map fun e => (e.1, headOf e.2.1)) with
    | none => .next (marked (noteGates s))
    | some (k, start) =>
      match ready.find? (fun e => e.1 == k) with
      | some (_, q, s₁, Route.out o, q') =>
        .next (marked (noteGates (if q.pkt.mcast then s.injectCast k q o start else s₁.injectNow k q q' o start))).relook
      | _ => .next (marked (noteGates s))

end Sys2Proof.Machine
end

