-- ==== Sys2Proof/Machine/Power.lean ====
section
/-! DEFINITION. Mains, hold-up and Off (R778-R782), sensors (R789, R791), cable supplies (R786, R793), the I3C address (R796). -/

namespace Sys2Proof.Machine

open Sys2Proof

/-! ### Mains (R778-R782, R798) -/

/-- R778-R781: an input is lost; the loss of the second engages hold-up. -/
def execMainsInputLost (inputB : Bool) (s : State) : Host.Outcome State Fault Refusal :=
  let p := s.power
  if !(if inputB then p.inB else p.inA) then .next s
  else
    let s := { s with power := if inputB then { p with inB := false } else { p with inA := false } }
    let s := s.raiseAt (if inputB then 1345 else 1344) 0
    .next (if s.power.inA || s.power.inB || s.power.holdup then s
      else ({ s with power := { s.power with holdup := true, holdupAt := s.time.now } }).raiseAt 1348 0)

/-- R721, R778, R781, R798: an input is present again: hold-up ends, unless power-down has begun; from Off the module powers on. -/
def execMainsInputPresent (inputB : Bool) (s : State) : Host.Outcome State Fault Refusal :=
  let s := { s with power := if inputB then { s.power with inB := true } else { s.power with inA := true } }
  .next (if s.hearth.mode = .off then s.powerOn
    else if s.power.powerDown then s else { s with power := { s.power with holdup := false } })

/-- R781: 12 ms without an input: injection and fetching stop, hosts write back, the fabric goes idle, F63 last. -/
def execHoldUpPowerDown (s : State) : Host.Outcome State Fault Refusal :=
  let p := s.power
  if !p.holdup || p.inA || p.inB || p.powerDown then .next s
  else .next (({ s with power := { p with powerDown := true } }).writeBackHosts.idleFabric true)

/-- R781, R782, R798: the rails are off: the module is Off, or powers on when an input is present. -/
def execRailsOff (s : State) : Host.Outcome State Fault Refusal :=
  if !s.power.powerDown then .next s
  else
    let s := s.setReady false
    let s := s.cleared .off
    let s := { s with power := { s.power with holdup := false, powerDown := false } }
    .next (if s.power.inA || s.power.inB then s.powerOn else s)

/-! ### Sensors (R789, R791) -/

/-- One threshold of R789: an event on the crossing, and no further one until the quantity has come back. -/
def State.cross (s : State) (d unit : Nat) (over_ back : Bool) : State :=
  let hot := s.power.hot.contains d
  if over_ && !hot then ({ s with power := { s.power with hot := nset s.power.hot d } }).raiseAt d unit
  else if back && hot then { s with power := { s.power with hot := ndel s.power.hot d } }
  else s

/-- A threshold that must be passed for 10 s of samples. -/
def State.cross10 (s : State) (d : Nat) (over_ back : Bool) : State :=
  let n := if over_ then tgetD s.power.over10 d 0 + 1 else 0
  let s := { s with power := { s.power with over10 := tset s.power.over10 d n } }
  s.cross d 0 (decide (10000 ≤ n)) back

/-- A temperature against a threshold, with its 5 K. -/
def State.crossTemp (s : State) (d unit temp limit : Nat) : State := s.cross d unit (decide (limit ≤ temp)) (decide (temp + 5 ≤ limit))

/-- R789, R791: the sensors are sampled. -/
def execSensorSample (inA inB : BitVec 12) (dieTemp coolantIn flow : BitVec 8) (memTemps : List Nat) (s : State) :
    Host.Outcome State Fault Refusal :=
  if s.hearth.mode = .off then .next s
  else
    let s := { s with power := { s.power with inAPower := inA, inBPower := inB, dieTemp, coolantIn, flow } }
    let t := dieTemp.toNat
    let s := ((s.crossTemp 1365 0 t 95).crossTemp 1366 0 t 105).crossTemp 1367 0 t 115
    let s := (numbered (memTemps.take 4)).foldl (fun (s : State) e =>
      (s.crossTemp (1152 + 16 * e.1 + 5) e.1 e.2 85).crossTemp (1152 + 16 * e.1 + 6) e.1 e.2 95) s
    let c := coolantIn.toNat
    let f := flow.toNat
    .next ((s.cross10 1368 (decide (40 < c)) (decide (c ≤ 35))).cross10 1369 (decide (f < 30)) (decide (33 ≤ f)))

/-! ### Cables (R786) and the sideband (R796) -/

/-- Whether CAB_RESET_N holds a cage's assembly in reset (R793): the port is fenced, or the module is Off. -/
def State.cabReset (s : State) (port : Nat) : Bool := (s.tile port).fenced || s.hearth.mode == .off

/-- R786: an assembly is inserted and declares its power class, or is taken out. -/
def execCablePresentChange (port : Nat) (present : Bool) (milliwatts : Nat) (s : State) : Host.Outcome State Fault Refusal :=
  let t := s.tile port
  if 64 ≤ port ∨ s.hearth.mode = .off ∨ t.present = present then .next s
  else if present then
    if milliwatts ≤ 2000 then .next ((s.modTile port fun t => { t with present := true, supply := true }).emit (.cableSupply port true))
    else .next ((s.modTile port fun t => { t with present := true, refused := 1 }).raiseAt (16 * port + 13) port)
  else
    let s := s.modTile port fun t => { t with present := false, supply := false, overdrawn := false, refused := 0 }
    .next (if t.supply then s.emit (.cableSupply port false) else s)

/-- R786: an assembly draws too much for 1 ms: its supply is cut and the port stays in Detect. -/
def execCableOverdraw (port : Nat) (s : State) : Host.Outcome State Fault Refusal :=
  let t := s.tile port
  if 64 ≤ port ∨ !t.supply then .next s
  else
    let s := (s.modTile port fun t => { t with supply := false, overdrawn := true }).emit (.cableSupply port false)
    .next (((s.leaveRouting port (16 * port + 13)).modTile port Tile.idled).elect.raiseAt (16 * port + 13) port)

/-- R796: the I3C target takes a dynamic address, from Hearth boot onward. -/
def execI3cEntdaa (address : BitVec 7) (s : State) : Host.Outcome State Fault Refusal :=
  .next (match s.hearth.mode with
    | .off => s
    | .standby => s
    | .cracked => s
    | _ => { s with hearth := { s.hearth with i3cAddr := some address } })

end Sys2Proof.Machine
end

