-- ==== Sys2Proof/Machine/Dispatch.lean ====
section
/-! DEFINITION. The meaning of every command: one arm per row of spec/opcode_table.json. -/

namespace Sys2Proof.Machine

open Sys2Proof

/-- The effect of one command on everything but the queue of waiting commands. -/
def exec (i : Instr) (s : State) : Host.Outcome State Fault Refusal :=
  match i with
  | .registerWriteUndefined fn offset => Sys2Proof.Machine.execRegisterWriteUndefined fn offset s
  | .wqDoorbell fn queue index reserved whole => Sys2Proof.Machine.execWqDoorbell fn queue index reserved whole s
  | .cqDoorbell fn ring index reserved whole => Sys2Proof.Machine.execCqDoorbell fn ring index reserved whole s
  | .mboxSubmit fn slot value whole req => Sys2Proof.Machine.execMboxSubmit fn slot value whole req s
  | .mboxRelease fn slot value whole => Sys2Proof.Machine.execMboxRelease fn slot value whole s
  | .mboxWithdraw fn slot value whole => Sys2Proof.Machine.execMboxWithdraw fn slot value whole s
  | .evHeadWrite fn head => Sys2Proof.Machine.execEvHeadWrite fn head s
  | .msixUnmask fn vector => Sys2Proof.Machine.execMsixUnmask fn vector s
  | .identify c => Sys2Proof.Machine.execIdentify c s
  | .regRead c block index offset count => Sys2Proof.Machine.execRegRead c block index offset count s
  | .regWrite c block index offset value mask => Sys2Proof.Machine.execRegWrite c block index offset value mask s
  | .stageOpen c mib => Sys2Proof.Machine.execStageOpen c mib s
  | .stageWrite c handle offset data => Sys2Proof.Machine.execStageWrite c handle offset data s
  | .stageClose c handle => Sys2Proof.Machine.execStageClose c handle s
  | .modeRequest c word => Sys2Proof.Machine.execModeRequest c word s
  | .reportRead c offset length => Sys2Proof.Machine.execReportRead c offset length s
  | .machineIdentity c id pMinus1 gMinus1 mMinus1 ws wg => Sys2Proof.Machine.execMachineIdentity c id pMinus1 gMinus1 mMinus1 ws wg s
  | .portReassign c word => Sys2Proof.Machine.execPortReassign c word s
  | .routeLoad c gen adopt ref => Sys2Proof.Machine.execRouteLoad c gen adopt ref s
  | .routeSwap c gen at_ cancel => Sys2Proof.Machine.execRouteSwap c gen at_ cancel s
  | .routeCfg c derailleur e2e => Sys2Proof.Machine.execRouteCfg c derailleur e2e s
  | .treeWrite c tree entry => Sys2Proof.Machine.execTreeWrite c tree entry s
  | .flowCfg c tile credit bellows sched => Sys2Proof.Machine.execFlowCfg c tile credit bellows sched s
  | .sampling c queues epochNs enable ringEntries => Sys2Proof.Machine.execSampling c queues epochNs enable ringEntries s
  | .holeSet c first count set => Sys2Proof.Machine.execHoleSet c first count set s
  | .timeSet c seconds => Sys2Proof.Machine.execTimeSet c seconds s
  | .timeCfg c word => Sys2Proof.Machine.execTimeCfg c word s
  | .timePort c port asym => Sys2Proof.Machine.execTimePort c port asym s
  | .strokeLoad c base ref => Sys2Proof.Machine.execStrokeLoad c base ref s
  | .strokeSwap c at_ cancel => Sys2Proof.Machine.execStrokeSwap c at_ cancel s
  | .strokeAdmit c ref => Sys2Proof.Machine.execStrokeAdmit c ref s
  | .strokeEnable c enable => Sys2Proof.Machine.execStrokeEnable c enable s
  | .instCreate c port inst grants shaping strokeClass eagerLimit => Sys2Proof.Machine.execInstCreate c port inst grants shaping strokeClass eagerLimit s
  | .instBind c inst vf vectors => Sys2Proof.Machine.execInstBind c inst vf vectors s
  | .instGrant c inst changes => Sys2Proof.Machine.execInstGrant c inst changes s
  | .instReset c word => Sys2Proof.Machine.execInstReset c word s
  | .instReopen c inst => Sys2Proof.Machine.execInstReopen c inst s
  | .instQuery c word => Sys2Proof.Machine.execInstQuery c word s
  | .instDestroy c inst => Sys2Proof.Machine.execInstDestroy c inst s
  | .instQuiesce c inst => Sys2Proof.Machine.execInstQuiesce c inst s
  | .instExport c inst => Sys2Proof.Machine.execInstExport c inst s
  | .instImport c inst ref => Sys2Proof.Machine.execInstImport c inst ref s
  | .dirtyLog c inst mode base k vaBase clearOverflow => Sys2Proof.Machine.execDirtyLog c inst mode base k vaBase clearOverflow s
  | .dirtyFlush c inst => Sys2Proof.Machine.execDirtyFlush c inst s
  | .segmentExpose c segment heads => Sys2Proof.Machine.execSegmentExpose c segment heads s
  | .hostCfg c port word => Sys2Proof.Machine.execHostCfg c port word s
  | .shaping c inst cls entry => Sys2Proof.Machine.execShaping c inst cls entry s
  | .wqCreate c inst queue sizeCode base wb ring => Sys2Proof.Machine.execWqCreate c inst queue sizeCode base wb ring s
  | .cqCreate c inst ring sizeCode base wb vector irqEnable => Sys2Proof.Machine.execCqCreate c inst ring sizeCode base wb vector irqEnable s
  | .wqRestart c queue skip => Sys2Proof.Machine.execWqRestart c queue skip s
  | .cqRestart c ring => Sys2Proof.Machine.execCqRestart c ring s
  | .queueStatus c isRing n clear => Sys2Proof.Machine.execQueueStatus c isRing n clear s
  | .queueDestroy c isRing n => Sys2Proof.Machine.execQueueDestroy c isRing n s
  | .cqSignal c ring irqEnable vector => Sys2Proof.Machine.execCqSignal c ring irqEnable vector s
  | .ctxCreate c inst slot postedMax unexpMax notify cookie hostArea hostAreaLen cellLimit moduleLimit => Sys2Proof.Machine.execCtxCreate c inst slot postedMax unexpMax notify cookie hostArea hostAreaLen cellLimit moduleLimit s
  | .ctxDestroy c inst slot => Sys2Proof.Machine.execCtxDestroy c inst slot s
  | .matchCfg c word instCfg => Sys2Proof.Machine.execMatchCfg c word instCfg s
  | .windowWrite c inst window entry => Sys2Proof.Machine.execWindowWrite c inst window entry s
  | .tallyAlloc c inst slot countMode notify cookie mirror => Sys2Proof.Machine.execTallyAlloc c inst slot countMode notify cookie mirror s
  | .tallyArm c inst slot threshold => Sys2Proof.Machine.execTallyArm c inst slot threshold s
  | .tallyRead c inst slot => Sys2Proof.Machine.execTallyRead c inst slot s
  | .tallyFree c inst slot => Sys2Proof.Machine.execTallyFree c inst slot s
  | .remoteCfg c word => Sys2Proof.Machine.execRemoteCfg c word s
  | .groupCreate c group listAddr count tc treeA treeB rootHint fanMax pinned => Sys2Proof.Machine.execGroupCreate c group listAddr count tc treeA treeB rootHint fanMax pinned s
  | .groupDestroy c group => Sys2Proof.Machine.execGroupDestroy c group s
  | .collCfg c word => Sys2Proof.Machine.execCollCfg c word s
  | .placeHint c hint => Sys2Proof.Machine.execPlaceHint c hint s
  | .placeLog c enable ringEntries => Sys2Proof.Machine.execPlaceLog c enable ringEntries s
  | .placeSummary c => Sys2Proof.Machine.execPlaceSummary c s
  | .strikerCfg c word => Sys2Proof.Machine.execStrikerCfg c word s
  | .transDomain c domain format root => Sys2Proof.Machine.execTransDomain c domain format root s
  | .transInval c domain whole ranges => Sys2Proof.Machine.execTransInval c domain whole ranges s
  | .transLock c domain va pages write => Sys2Proof.Machine.execTransLock c domain va pages write s
  | .transUnlock c domain va pages => Sys2Proof.Machine.execTransUnlock c domain va pages s
  | .deviceRange c port index base pages => Sys2Proof.Machine.execDeviceRange c port index base pages s
  | .faultLog c domain base size => Sys2Proof.Machine.execFaultLog c domain base size s
  | .drawChannel c channel owner maxPriority free => Sys2Proof.Machine.execDrawChannel c channel owner maxPriority free s
  | .drawLoad c args ring cookie => Sys2Proof.Machine.execDrawLoad c args ring cookie s
  | .drawStop c channel => Sys2Proof.Machine.execDrawStop c channel s
  | .viseClaim c vise => Sys2Proof.Machine.execViseClaim c vise s
  | .viseRelease c vise => Sys2Proof.Machine.execViseRelease c vise s
  | .quenchRead c => Sys2Proof.Machine.execQuenchRead c s
  | .quenchClear c flags sources => Sys2Proof.Machine.execQuenchClear c flags sources s
  | .quenchPolicy c word policy => Sys2Proof.Machine.execQuenchPolicy c word policy s
  | .inject c ctrl at_ => Sys2Proof.Machine.execInject c ctrl at_ s
  | .counterSelect c word0 word1 word2 => Sys2Proof.Machine.execCounterSelect c word0 word1 word2 s
  | .counterRead c first count => Sys2Proof.Machine.execCounterRead c first count s
  | .rolemapLoad c ref => Sys2Proof.Machine.execRolemapLoad c ref s
  | .fwStage c ref => Sys2Proof.Machine.execFwStage c ref s
  | .fwActivate c live => Sys2Proof.Machine.execFwActivate c live s
  | .mgmtCmd port p => Sys2Proof.Machine.execMgmtCmd port p s
  | .mgmtResp port p => Sys2Proof.Machine.execMgmtResp port p s
  | .mctpRequest eid req => Sys2Proof.Machine.execMctpRequest eid req s
  | .fecFrameReceive port frame => Sys2Proof.Machine.execFecFrameReceive port frame s
  | .freewheelBlock port fill => Sys2Proof.Machine.execFreewheelBlock port fill s
  | .trainingBlock port lane block => Sys2Proof.Machine.execTrainingBlock port lane block s
  | .laneLockLoss port lane => Sys2Proof.Machine.execLaneLockLoss port lane s
  | .trainingPhaseTimeout port => Sys2Proof.Machine.execTrainingPhaseTimeout port s
  | .trainingBackoffExpiry port => Sys2Proof.Machine.execTrainingBackoffExpiry port s
  | .rateStepSwitch port => Sys2Proof.Machine.execRateStepSwitch port s
  | .rateQualifyEnd port uncorrectable ratioExceeded eyeWidths => Sys2Proof.Machine.execRateQualifyEnd port uncorrectable ratioExceeded eyeWidths s
  | .eyeScanComplete port lane width height => Sys2Proof.Machine.execEyeScanComplete port lane width height s
  | .marginCriticalExpiry port lane => Sys2Proof.Machine.execMarginCriticalExpiry port lane s
  | .shodSet port => Sys2Proof.Machine.execShodSet port s
  | .soleUseClear port => Sys2Proof.Machine.execSoleUseClear port s
  | .shoeRequestSend port => Sys2Proof.Machine.execShoeRequestSend port s
  | .shoeBeginFrame port => Sys2Proof.Machine.execShoeBeginFrame port s
  | .shoeStepRelock port rxShift txShift => Sys2Proof.Machine.execShoeStepRelock port rxShift txShift s
  | .shoeStepTimeout port => Sys2Proof.Machine.execShoeStepTimeout port s
  | .shoeWaitExpiry port => Sys2Proof.Machine.execShoeWaitExpiry port s
  | .shoeRetryTimer port => Sys2Proof.Machine.execShoeRetryTimer port s
  | .idleRunStart port => Sys2Proof.Machine.execIdleRunStart port s
  | .widthRestore port => Sys2Proof.Machine.execWidthRestore port s
  | .replayTimeout port now => Sys2Proof.Machine.execReplayTimeout port now s
  | .creditDecay port => Sys2Proof.Machine.execCreditDecay port s
  | .bellowsUpdate => Sys2Proof.Machine.execBellowsUpdate s
  | .congestionSummarySend => Sys2Proof.Machine.execCongestionSummarySend s
  | .timeExchangeSend port => Sys2Proof.Machine.execTimeExchangeSend port s
  | .tc3ChunkReportSend port => Sys2Proof.Machine.execTc3ChunkReportSend port s
  | .helloSend port => Sys2Proof.Machine.execHelloSend port s
  | .exchangeIntervalEnd port => Sys2Proof.Machine.execExchangeIntervalEnd port s
  | .injectionDecision tc => Sys2Proof.Machine.execInjectionDecision tc s
  | .portEgressDecision port => Sys2Proof.Machine.execPortEgressDecision port s
  | .routeWaitExpiry now => Sys2Proof.Machine.execRouteWaitExpiry now s
  | .routeSwapFire now => Sys2Proof.Machine.execRouteSwapFire now s
  | .bankRetire now => Sys2Proof.Machine.execBankRetire now s
  | .tc3ResendTimeout key now => Sys2Proof.Machine.execTc3ResendTimeout key now s
  | .e2eAck port p => Sys2Proof.Machine.execE2eAck port p s
  | .e2eAckTimer key => Sys2Proof.Machine.execE2eAckTimer key s
  | .tc3StreamSyncRetry key => Sys2Proof.Machine.execTc3StreamSyncRetry key s
  | .sampleEpoch now => Sys2Proof.Machine.execSampleEpoch now s
  | .ppsEdge now periodNs tenA tenB => Sys2Proof.Machine.execPpsEdge now periodNs tenA tenB s
  | .timeRefLoss tenMhz => Sys2Proof.Machine.execTimeRefLoss tenMhz s
  | .refClockLoss refB => Sys2Proof.Machine.execRefClockLoss refB s
  | .timeAnnounce port p => Sys2Proof.Machine.execTimeAnnounce port p s
  | .timeOutPulse now => Sys2Proof.Machine.execTimeOutPulse now s
  | .strokeBoundary now => Sys2Proof.Machine.execStrokeBoundary now s
  | .strokeSwapFire now => Sys2Proof.Machine.execStrokeSwapFire now s
  | .cxlLinkUp port allowed width mem ready => Sys2Proof.Machine.execCxlLinkUp port allowed width mem ready s
  | .cxlConfigRequest port vf req => Sys2Proof.Machine.execCxlConfigRequest port vf req s
  | .h2dSnoop port line => Sys2Proof.Machine.execH2dSnoop port line s
  | .cxlMemRead head foreign window offset => Sys2Proof.Machine.execCxlMemRead head foreign window offset s
  | .cxlMemWrite head foreign window offset data => Sys2Proof.Machine.execCxlMemWrite head foreign window offset data s
  | .birsp head line => Sys2Proof.Machine.execBirsp head line s
  | .biTimeout head => Sys2Proof.Machine.execBiTimeout head s
  | .d2hTimeout port tag silent => Sys2Proof.Machine.execD2hTimeout port tag silent s
  | .hostLinkDown port => Sys2Proof.Machine.execHostLinkDown port s
  | .hotReset port => Sys2Proof.Machine.execHotReset port s
  | .ideFailure port => Sys2Proof.Machine.execIdeFailure port s
  | .bmeClear port cache => Sys2Proof.Machine.execBmeClear port cache s
  | .portPresent port => Sys2Proof.Machine.execPortPresent port s
  | .flrVf port vf => Sys2Proof.Machine.execFlrVf port vf s
  | .flrPf port => Sys2Proof.Machine.execFlrPf port s
  | .perstN port high => Sys2Proof.Machine.execPerstN port high s
  | .hrefclkLoss port => Sys2Proof.Machine.execHrefclkLoss port s
  | .gpfPhase1 port => Sys2Proof.Machine.execGpfPhase1 port s
  | .gpfPhase2 port => Sys2Proof.Machine.execGpfPhase2 port s
  | .descriptorFetch wq => Sys2Proof.Machine.execDescriptorFetch wq s
  | .descriptorReadComplete wq res => Sys2Proof.Machine.execDescriptorReadComplete wq res s
  | .nop wq => Sys2Proof.Machine.execNop wq s
  | .put wq => Sys2Proof.Machine.execPut wq s
  | .get wq => Sys2Proof.Machine.execGet wq s
  | .atomic wq => Sys2Proof.Machine.execAtomic wq s
  | .msgSend wq => Sys2Proof.Machine.execMsgSend wq s
  | .msgRecv wq acc => Sys2Proof.Machine.execMsgRecv wq acc s
  | .msgCancel wq => Sys2Proof.Machine.execMsgCancel wq s
  | .collective wq => Sys2Proof.Machine.execCollective wq s
  | .drawRun wq => Sys2Proof.Machine.execDrawRun wq s
  | .tallyAdd wq => Sys2Proof.Machine.execTallyAdd wq s
  | .recordWriteComplete ring => Sys2Proof.Machine.execRecordWriteComplete ring s
  | .writeBackWord isRing n => Sys2Proof.Machine.execWriteBackWord isRing n s
  | .msgEager p acc => Sys2Proof.Machine.execMsgEager p acc s
  | .msgRts p => Sys2Proof.Machine.execMsgRts p s
  | .orderQueryTimer key order now => Sys2Proof.Machine.execOrderQueryTimer key order now s
  | .orderAbandon key order now => Sys2Proof.Machine.execOrderAbandon key order now s
  | .putPacket p acc => Sys2Proof.Machine.execPutPacket p acc s
  | .getReq p acc => Sys2Proof.Machine.execGetReq p acc s
  | .getResp p acc => Sys2Proof.Machine.execGetResp p acc s
  | .atomicReq p old oldPoison acc => Sys2Proof.Machine.execAtomicReq p old oldPoison acc s
  | .atomicResp p acc => Sys2Proof.Machine.execAtomicResp p acc s
  | .response p => Sys2Proof.Machine.execResponse p s
  | .fault p => Sys2Proof.Machine.execFault p s
  | .operationEnd src tag => Sys2Proof.Machine.execOperationEnd src tag s
  | .tallyMirrorWrite tally acc => Sys2Proof.Machine.execTallyMirrorWrite tally acc s
  | .tombstoneExpiry src tag now => Sys2Proof.Machine.execTombstoneExpiry src tag now s
  | .openEntryExpiry src tag now => Sys2Proof.Machine.execOpenEntryExpiry src tag now s
  | .opTimeout src tag now => Sys2Proof.Machine.execOpTimeout src tag now s
  | .multicastPutSettle src tag now => Sys2Proof.Machine.execMulticastPutSettle src tag now s
  | .collData p acc => Sys2Proof.Machine.execCollData p acc s
  | .collInstall p => Sys2Proof.Machine.execCollInstall p s
  | .collSwitch p => Sys2Proof.Machine.execCollSwitch p s
  | .collStall p => Sys2Proof.Machine.execCollStall p s
  | .collProbe p => Sys2Proof.Machine.execCollProbe p s
  | .collProbeAnswer p => Sys2Proof.Machine.execCollProbeAnswer p s
  | .collRestart p => Sys2Proof.Machine.execCollRestart p s
  | .collFinalQuery p => Sys2Proof.Machine.execCollFinalQuery p s
  | .collFinalAnswer p => Sys2Proof.Machine.execCollFinalAnswer p s
  | .collAbort p => Sys2Proof.Machine.execCollAbort p s
  | .collDone p => Sys2Proof.Machine.execCollDone p s
  | .collClose p => Sys2Proof.Machine.execCollClose p s
  | .collDestroy p => Sys2Proof.Machine.execCollDestroy p s
  | .collTimeout group opSeq now => Sys2Proof.Machine.execCollTimeout group opSeq now s
  | .collStartAt group opSeq inst now data => Sys2Proof.Machine.execCollStartAt group opSeq inst now data s
  | .collReleaseAt group opSeq inst now acc => Sys2Proof.Machine.execCollReleaseAt group opSeq inst now acc s
  | .shapeCompare group now newCost => Sys2Proof.Machine.execShapeCompare group now newCost s
  | .placementEpoch now busy free => Sys2Proof.Machine.execPlacementEpoch now busy free s
  | .migrationCommit ctx copyOk => Sys2Proof.Machine.execMigrationCommit ctx copyOk s
  | .demotionCommit ctx => Sys2Proof.Machine.execDemotionCommit ctx s
  | .tallyMoveCommit tally => Sys2Proof.Machine.execTallyMoveCommit tally s
  | .cellSelfTestEnd cell pass => Sys2Proof.Machine.execCellSelfTestEnd cell pass s
  | .walkEntryRead id entry => Sys2Proof.Machine.execWalkEntryRead id entry s
  | .adUpdateLine id line => Sys2Proof.Machine.execAdUpdateLine id line s
  | .invalidationDrainComplete id => Sys2Proof.Machine.execInvalidationDrainComplete id s
  | .instanceResetEnd inst => Sys2Proof.Machine.execInstanceResetEnd inst s
  | .instanceResetTimeout inst now => Sys2Proof.Machine.execInstanceResetTimeout inst now s
  | .epochSweepEnd inst => Sys2Proof.Machine.execEpochSweepEnd inst s
  | .instanceQuiesceComplete inst => Sys2Proof.Machine.execInstanceQuiesceComplete inst s
  | .drawSetCommit channel program => Sys2Proof.Machine.execDrawSetCommit channel program s
  | .move channel write wr => Sys2Proof.Machine.execMove channel write wr s
  | .loop channel => Sys2Proof.Machine.execLoop channel s
  | .wait channel => Sys2Proof.Machine.execWait channel s
  | .signal channel => Sys2Proof.Machine.execSignal channel s
  | .endProg channel => Sys2Proof.Machine.execEndProg channel s
  | .drawWaitInstant channel now => Sys2Proof.Machine.execDrawWaitInstant channel now s
  | .drawWaitTimeout channel now => Sys2Proof.Machine.execDrawWaitTimeout channel now s
  | .viseClaimWrite stamp vise word => Sys2Proof.Machine.execViseClaimWrite stamp vise word s
  | .viseReleaseWrite stamp vise word => Sys2Proof.Machine.execViseReleaseWrite stamp vise word s
  | .detectorEvent events => Sys2Proof.Machine.execDetectorEvent events s
  | .railFault detector => Sys2Proof.Machine.execRailFault detector s
  | .quenchWindowEnd detector now => Sys2Proof.Machine.execQuenchWindowEnd detector now s
  | .injectionFire slot now coincident => Sys2Proof.Machine.execInjectionFire slot now coincident s
  | .haltActionReset now => Sys2Proof.Machine.execHaltActionReset now s
  | .hearthWatchdog => Sys2Proof.Machine.execHearthWatchdog s
  | .hsSampleTrigger core pc skid masked idle opcode task => Sys2Proof.Machine.execHsSampleTrigger core pc skid masked idle opcode task s
  | .mainsInputLost inputB => Sys2Proof.Machine.execMainsInputLost inputB s
  | .mainsInputPresent inputB => Sys2Proof.Machine.execMainsInputPresent inputB s
  | .holdUpPowerDown => Sys2Proof.Machine.execHoldUpPowerDown s
  | .railsOff => Sys2Proof.Machine.execRailsOff s
  | .resetNLow => Sys2Proof.Machine.execResetNLow s
  | .resetNHigh mgrStrap => Sys2Proof.Machine.execResetNHigh mgrStrap s
  | .flesoReady romOk fusesOk slotAValid slotBValid => Sys2Proof.Machine.execFlesoReady romOk fusesOk slotAValid slotBValid s
  | .selfTestPass failedCells failedChannels failedPorts memoryFailed => Sys2Proof.Machine.execSelfTestPass failedCells failedChannels failedPorts memoryFailed s
  | .linkBringupTimeout now => Sys2Proof.Machine.execLinkBringupTimeout now s
  | .drainComplete => Sys2Proof.Machine.execDrainComplete s
  | .drainTimeout now => Sys2Proof.Machine.execDrainTimeout now s
  | .fwActivationReady => Sys2Proof.Machine.execFwActivationReady s
  | .fwActivationTimeout selfTestFailed => Sys2Proof.Machine.execFwActivationTimeout selfTestFailed s
  | .sensorSample inA inB dieTemp coolantIn flow memTemps => Sys2Proof.Machine.execSensorSample inA inB dieTemp coolantIn flow memTemps s
  | .cablePresentChange port present milliwatts => Sys2Proof.Machine.execCablePresentChange port present milliwatts s
  | .cableOverdraw port => Sys2Proof.Machine.execCableOverdraw port s
  | .doeSpdmRequest port req => Sys2Proof.Machine.execDoeSpdmRequest port req s
  | .refClockReturn refB => Sys2Proof.Machine.execRefClockReturn refB s
  | .hrefclkReturn port => Sys2Proof.Machine.execHrefclkReturn port s
  | .cxlLinkTrainingFailed port declined => Sys2Proof.Machine.execCxlLinkTrainingFailed port declined s
  | .clockRecoveryPhaseMove port lane rx delta => Sys2Proof.Machine.execClockRecoveryPhaseMove port lane rx delta s
  | .substitutionCopyComplete cell lostContexts lostTallies lostPartials => Sys2Proof.Machine.execSubstitutionCopyComplete cell lostContexts lostTallies lostPartials s
  | .placementSummaryTimeout module => Sys2Proof.Machine.execPlacementSummaryTimeout module s
  | .i3cEntdaa address => Sys2Proof.Machine.execI3cEntdaa address s
  | .payloadReadReturn port tag res => Sys2Proof.Machine.execPayloadReadReturn port tag res s

end Sys2Proof.Machine
end

