-- ==== Sys2Proof/Machine/Step.lean ====
section
/-! DEFINITION. One step: the command at the front of the queue, or one cycle of the 1 GHz time clock. -/

namespace Sys2Proof.Machine

open Sys2Proof

/-- Take the command at the front of the queue and run exec on it with the queue's rest; on an empty queue the time clock
advances Machine Time by one cycle (R222; assumption log 2). -/
def step (s : State) : Host.Outcome State Fault Refusal :=
  match s.pending with
  | [] => .next s.tick
  | c :: cs => exec c { s with pending := cs }

/-- s with the command a table word spells in front of its queue (no word spells one). -/
def State.withFetchWord (s : State) (nbits w : Nat) : State :=
  match decodeTableWord nbits w with
  | none => s
  | some c => { s with pending := c :: s.pending }

end Sys2Proof.Machine
end

