-- ==== Sys2Proof/Safety.lean ====
section
/-! DEFINITION. What statements speak of: the parts of the module and which of them each command may change; which rows are
Fleso commands, with R630's code and authority; when a Fleso command executes and what an answer is; the invariant. -/

namespace Sys2Proof.Machine

open Sys2Proof

/-! ### Parts and frames -/

/-- The parts of State. -/
inductive Part where
  | routing
  | tiles
  | sched
  | time
  | ports
  | wqs
  | cqs
  | remote
  | matching
  | coll
  | striker
  | trans
  | insts
  | draw
  | vises
  | hearth
  | quench
  | counters
  | power
  | segments
  | mem
  | outside
  | poison
  | free
  | out
  | pending
  deriving DecidableEq, Repr

/-- n bytes at a lie in the report segment (R265, R603). -/
def inReport (a n : Nat) : Prop := reportBase ≤ a ∧ a + n ≤ reportBase + Config.segBytes

/-- The record rings that the module itself fills lie in the report segment: the tagger's, the sampler's of a core's firmware while it
samples, the placement log's, the queue samples' (R200, R265, R505, R770). -/
def State.RingsIn (s : State) : Prop :=
  (bits s.counters.tagRing 36 0 ≠ 0 → inReport (bits s.counters.tagRing 36 0) (64 + 64 * 2 ^ bits s.counters.tagRing 41 37)) ∧
  (bit s.counters.hsCfg 0 = true → inReport (bits s.counters.hsRing 36 0) (64 + 32 * 2 ^ bits s.counters.hsRing 41 37)) ∧
  (∀ off n, s.striker.logRing = some (off, n) → inReport (reportBase + off) (64 + 32 * 2 ^ Nat.log2 n)) ∧
  (∀ off n, s.sched.sampleRing = some (off, n) → inReport (reportBase + off) (32 * n))

/-- Two states agree on a part. Of the memory outside the report segment it is said for a module whose own rings lie in that segment. -/
def State.agrees (t s : State) : Part → Prop
  | .routing => t.routing = s.routing
  | .tiles => t.tiles = s.tiles
  | .sched => t.sched = s.sched
  | .time => t.time = s.time
  | .ports => t.ports = s.ports
  | .wqs => t.wqs = s.wqs
  | .cqs => t.cqs = s.cqs
  | .remote => t.remote = s.remote
  | .matching => t.matching = s.matching
  | .coll => t.coll = s.coll
  | .striker => t.striker = s.striker
  | .trans => t.trans = s.trans
  | .insts => t.insts = s.insts
  | .draw => t.draw = s.draw
  | .vises => t.vises = s.vises
  | .hearth => t.hearth = s.hearth
  | .quench => t.quench = s.quench
  | .counters => t.counters = s.counters
  | .power => t.power = s.power
  | .segments => t.segments = s.segments
  | .mem => t.mem = s.mem
  | .outside => s.RingsIn → t.RingsIn ∧ ∀ a, ¬ inReport a 1 → memGet t.mem a = memGet s.mem a
  | .poison => t.poison = s.poison
  | .free => t.free = s.free
  | .out => t.out = s.out
  | .pending => t.pending = s.pending

/-- What answering a Fleso command and serving the commands behind it may change: the queues and slots of Fleso, a packet's way out, an
interrupt, a counter, an event. -/
def answerParts : List Part := [.routing, .tiles, .sched, .ports, .hearth, .quench, .counters, .out]

/-- The parts that a command may change: the frame of every row. -/
def changes : Instr → List Part
  | .registerWriteUndefined _ _ => [.quench, .counters]
  | .wqDoorbell _ _ _ _ _ => answerParts ++ [.wqs, .cqs, .trans, .insts, .free]
  | .cqDoorbell _ _ _ _ _ => answerParts ++ [.wqs, .cqs, .matching, .trans, .insts, .free]
  | .mboxSubmit _ _ _ _ _ => answerParts
  | .mboxRelease _ _ _ _ => [.hearth, .quench, .counters]
  | .mboxWithdraw _ _ _ _ => answerParts
  | .evHeadWrite _ _ => [.ports, .hearth, .counters, .out]
  | .msixUnmask _ _ => [.ports, .quench, .counters, .out]
  | .identify _ => answerParts
  | .regRead _ _ _ _ _ => answerParts ++ [.free]
  | .regWrite _ _ _ _ _ _ => answerParts ++ [.time, .draw, .vises]
  | .stageOpen _ _ => answerParts
  | .stageWrite _ _ _ _ => answerParts ++ [.mem, .outside, .poison]
  | .stageClose _ _ => answerParts
  | .modeRequest _ _ => answerParts
  | .reportRead _ _ _ => answerParts
  | .machineIdentity _ _ _ _ _ _ _ => answerParts ++ [.time]
  | .portReassign _ _ => answerParts ++ [.time]
  | .routeLoad _ _ _ _ => answerParts
  | .routeSwap _ _ _ _ => answerParts
  | .routeCfg _ _ _ => answerParts
  | .treeWrite _ _ _ => answerParts
  | .flowCfg _ _ _ _ _ => answerParts
  | .sampling _ _ _ _ _ => answerParts ++ [.mem]
  | .holeSet _ _ _ _ => answerParts
  | .timeSet _ _ => answerParts ++ [.time]
  | .timeCfg _ _ => answerParts ++ [.time]
  | .timePort _ _ _ => answerParts
  | .strokeLoad _ _ _ => answerParts ++ [.time]
  | .strokeSwap _ _ _ => answerParts ++ [.time]
  | .strokeAdmit _ _ => answerParts ++ [.time]
  | .strokeEnable _ _ => answerParts ++ [.time]
  | .instCreate _ _ _ _ _ _ _ => answerParts ++ [.time, .matching, .insts, .vises]
  | .instBind _ _ _ _ => answerParts ++ [.wqs, .cqs, .insts]
  | .instGrant _ _ _ => answerParts ++ [.insts, .vises]
  | .instReset _ _ => answerParts ++ [.wqs, .cqs, .coll, .trans, .insts, .draw, .vises, .mem, .poison, .free]
  | .instReopen _ _ => answerParts ++ [.wqs, .cqs, .trans, .insts, .free]
  | .instQuery _ _ => answerParts
  | .instDestroy _ _ => answerParts ++ [.wqs, .cqs, .coll, .trans, .insts, .draw, .vises, .mem, .poison, .free]
  | .instQuiesce _ _ => answerParts ++ [.wqs, .insts]
  | .instExport _ _ => answerParts ++ [.mem, .poison]
  | .instImport _ _ _ => answerParts ++ [.time, .wqs, .cqs, .remote, .matching, .striker, .trans, .insts, .mem, .poison]
  | .dirtyLog _ _ _ _ _ _ _ => answerParts ++ [.insts]
  | .dirtyFlush _ _ => answerParts
  | .segmentExpose _ _ _ => answerParts ++ [.segments]
  | .hostCfg _ _ _ => answerParts
  | .shaping _ _ _ _ => answerParts
  | .wqCreate _ _ _ _ _ _ _ => answerParts ++ [.wqs]
  | .cqCreate _ _ _ _ _ _ _ _ => answerParts ++ [.cqs]
  | .wqRestart _ _ _ => answerParts ++ [.wqs, .cqs, .trans, .insts, .mem, .poison, .free]
  | .cqRestart _ _ => answerParts ++ [.wqs, .cqs, .matching, .trans, .insts, .free]
  | .queueStatus _ _ _ _ => answerParts ++ [.wqs, .cqs]
  | .queueDestroy _ _ _ => answerParts ++ [.wqs, .cqs, .trans, .free]
  | .cqSignal _ _ _ _ => answerParts ++ [.cqs]
  | .ctxCreate _ _ _ _ _ _ _ _ _ _ _ => answerParts ++ [.matching, .striker, .mem, .poison]
  | .ctxDestroy _ _ _ => answerParts ++ [.wqs, .cqs, .remote, .matching, .striker, .trans, .insts, .mem, .poison, .free]
  | .matchCfg _ _ _ => answerParts ++ [.matching]
  | .windowWrite _ _ _ _ => answerParts ++ [.remote]
  | .tallyAlloc _ _ _ _ _ _ _ => answerParts ++ [.remote]
  | .tallyArm _ _ _ _ => answerParts ++ [.wqs, .cqs, .remote, .trans, .insts, .free]
  | .tallyRead _ _ _ => answerParts
  | .tallyFree _ _ _ => answerParts ++ [.wqs, .cqs, .remote, .trans, .insts, .free]
  | .remoteCfg _ _ => answerParts ++ [.remote]
  | .groupCreate _ _ _ _ _ _ _ _ _ _ => answerParts ++ [.wqs, .cqs, .coll, .striker, .trans, .insts, .mem, .poison, .free]
  | .groupDestroy _ _ => answerParts
  | .collCfg _ _ => answerParts ++ [.coll]
  | .placeHint _ _ => answerParts ++ [.remote, .matching, .coll, .striker, .mem, .poison]
  | .placeLog _ _ _ => answerParts ++ [.striker, .mem]
  | .placeSummary _ => answerParts
  | .strikerCfg _ _ => answerParts ++ [.striker]
  | .transDomain _ _ _ _ => answerParts ++ [.trans]
  | .transInval _ _ _ _ => answerParts ++ [.trans, .free]
  | .transLock _ _ _ _ _ => answerParts ++ [.trans, .free]
  | .transUnlock _ _ _ _ => answerParts ++ [.trans]
  | .deviceRange _ _ _ _ _ => answerParts
  | .faultLog _ _ _ _ => answerParts ++ [.trans]
  | .drawChannel _ _ _ _ _ => answerParts ++ [.draw, .free]
  | .drawLoad _ _ _ _ => answerParts ++ [.wqs, .cqs, .trans, .insts, .draw, .mem, .poison, .free]
  | .drawStop _ _ => answerParts ++ [.wqs, .cqs, .trans, .insts, .draw, .vises, .mem, .poison, .free]
  | .viseClaim _ _ => answerParts ++ [.vises]
  | .viseRelease _ _ => answerParts ++ [.draw, .vises]
  | .quenchRead _ => answerParts
  | .quenchClear _ _ _ => answerParts ++ [.time, .striker, .draw, .vises]
  | .quenchPolicy _ _ _ => answerParts
  | .inject _ _ _ => answerParts
  | .counterSelect _ _ _ _ => answerParts ++ [.mem]
  | .counterRead _ _ _ => answerParts ++ [.free]
  | .rolemapLoad _ _ => answerParts ++ [.remote, .matching, .striker, .mem, .poison, .free]
  | .fwStage _ _ => answerParts
  | .fwActivate _ _ => answerParts
  | .mgmtCmd _ _ => answerParts
  | .mgmtResp _ _ => answerParts ++ [.wqs, .cqs, .coll, .striker, .trans, .insts, .mem, .poison, .free]
  | .mctpRequest _ _ => answerParts
  | .fecFrameReceive _ _ => answerParts ++ [.time, .draw, .vises, .mem, .poison, .free]
  | .freewheelBlock _ _ => [.tiles, .counters]
  | .trainingBlock _ _ _ => answerParts ++ [.time, .draw, .vises]
  | .laneLockLoss _ _ => answerParts ++ [.time, .draw, .vises]
  | .trainingPhaseTimeout _ => answerParts
  | .trainingBackoffExpiry _ => [.tiles, .counters, .out]
  | .rateStepSwitch _ => [.tiles, .counters, .out]
  | .rateQualifyEnd _ _ _ _ => answerParts
  | .eyeScanComplete _ _ _ _ => [.tiles, .counters, .free, .out]
  | .marginCriticalExpiry _ _ => answerParts ++ [.time, .draw, .vises]
  | .shodSet _ => [.tiles, .counters, .out]
  | .soleUseClear _ => [.tiles]
  | .shoeRequestSend _ => [.tiles, .counters, .out]
  | .shoeBeginFrame _ => [.tiles, .counters, .out]
  | .shoeStepRelock _ _ _ => [.routing, .tiles, .sched, .quench, .counters, .out]
  | .shoeStepTimeout _ => answerParts ++ [.time, .draw, .vises]
  | .shoeWaitExpiry _ => [.routing, .tiles, .sched, .quench, .counters, .out]
  | .shoeRetryTimer _ => [.tiles, .counters, .free, .out]
  | .idleRunStart _ => [.tiles, .counters, .free, .out]
  | .widthRestore _ => [.tiles, .counters, .free, .out]
  | .replayTimeout _ _ => answerParts ++ [.time, .draw, .vises]
  | .creditDecay _ => [.tiles]
  | .bellowsUpdate => [.tiles]
  | .congestionSummarySend => [.tiles, .counters, .out]
  | .timeExchangeSend _ => [.tiles, .counters, .out]
  | .tc3ChunkReportSend _ => [.tiles, .counters, .out]
  | .helloSend _ => [.tiles, .counters, .out]
  | .exchangeIntervalEnd _ => [.routing, .tiles, .sched, .time, .quench, .counters]
  | .injectionDecision _ => answerParts ++ [.wqs, .cqs, .remote, .coll, .trans, .insts, .draw, .mem, .poison, .free]
  | .portEgressDecision _ => [.tiles, .sched, .counters, .out]
  | .routeWaitExpiry _ => [.routing, .tiles, .sched, .time, .quench, .counters]
  | .routeSwapFire _ => answerParts ++ [.time]
  | .bankRetire _ => [.routing, .time]
  | .tc3ResendTimeout _ _ => answerParts ++ [.time, .wqs, .cqs, .coll, .striker, .trans, .insts, .mem, .poison, .free]
  | .e2eAck _ _ => [.routing, .tiles, .sched, .quench, .counters]
  | .e2eAckTimer _ => [.routing, .tiles, .sched, .counters]
  | .tc3StreamSyncRetry _ => [.routing, .tiles, .sched, .counters]
  | .sampleEpoch _ => [.sched, .time, .mem, .poison]
  | .ppsEdge _ _ _ _ => answerParts ++ [.time, .draw, .mem, .poison]
  | .timeRefLoss _ => [.routing, .tiles, .sched, .time, .quench, .counters]
  | .refClockLoss _ => [.time, .quench, .counters]
  | .timeAnnounce _ _ => [.routing, .counters, .out]
  | .timeOutPulse _ => [.time, .counters, .out]
  | .strokeBoundary _ => [.time]
  | .strokeSwapFire _ => [.time]
  | .cxlLinkUp _ _ _ _ _ => [.ports, .quench, .counters, .segments, .out]
  | .cxlConfigRequest _ _ _ => answerParts ++ [.wqs, .cqs, .remote, .matching, .coll, .trans, .insts, .draw, .vises, .mem, .outside, .poison, .free]
  | .h2dSnoop _ _ => [.ports, .counters, .out]
  | .cxlMemRead _ _ _ _ => [.ports, .quench, .counters, .mem, .outside, .poison, .free, .out]
  | .cxlMemWrite _ _ _ _ _ => [.ports, .quench, .counters, .mem, .outside, .poison, .free, .out]
  | .birsp _ _ => answerParts ++ [.remote, .trans, .mem, .outside, .poison, .free]
  | .biTimeout _ => answerParts ++ [.wqs, .cqs, .remote, .matching, .coll, .trans, .insts, .draw, .vises, .mem, .outside, .poison, .free]
  | .d2hTimeout _ _ _ => answerParts ++ [.wqs, .cqs, .remote, .matching, .coll, .trans, .insts, .draw, .vises, .mem, .outside, .poison, .free]
  | .hostLinkDown _ => answerParts ++ [.wqs, .cqs, .remote, .matching, .coll, .trans, .insts, .draw, .vises, .mem, .outside, .poison, .free]
  | .hotReset _ => answerParts ++ [.wqs, .cqs, .remote, .matching, .coll, .trans, .insts, .draw, .vises, .mem, .outside, .poison, .free]
  | .ideFailure _ => answerParts ++ [.wqs, .cqs, .remote, .matching, .coll, .trans, .insts, .draw, .vises, .mem, .outside, .poison, .free]
  | .bmeClear _ _ => answerParts ++ [.wqs, .cqs, .remote, .matching, .coll, .trans, .insts, .draw, .vises, .mem, .outside, .poison, .free]
  | .portPresent _ => answerParts ++ [.wqs, .cqs, .matching, .trans, .insts, .free]
  | .flrVf _ _ => answerParts ++ [.wqs, .cqs, .coll, .trans, .insts, .draw, .vises, .mem, .poison, .free]
  | .flrPf _ => answerParts ++ [.wqs, .cqs, .remote, .coll, .trans, .insts, .draw, .vises, .mem, .poison, .free]
  | .perstN _ _ => answerParts ++ [.wqs, .cqs, .remote, .matching, .coll, .trans, .insts, .draw, .vises, .mem, .outside, .poison, .free]
  | .hrefclkLoss _ => [.ports]
  | .gpfPhase1 _ => [.ports, .counters, .out]
  | .gpfPhase2 _ => [.counters, .out]
  | .descriptorFetch _ => answerParts ++ [.wqs, .cqs, .trans, .free]
  | .descriptorReadComplete _ _ => answerParts ++ [.wqs, .cqs, .trans, .insts, .mem, .poison, .free]
  | .nop _ => answerParts ++ [.wqs, .cqs, .trans, .insts, .mem, .poison, .free]
  | .put _ => answerParts ++ [.wqs, .cqs, .remote, .trans, .insts, .draw, .mem, .poison, .free]
  | .get _ => answerParts ++ [.wqs, .cqs, .remote, .trans, .insts, .draw, .mem, .poison, .free]
  | .atomic _ => answerParts ++ [.wqs, .cqs, .remote, .trans, .insts, .draw, .mem, .poison, .free]
  | .msgSend _ => answerParts ++ [.wqs, .cqs, .remote, .matching, .trans, .insts, .draw, .mem, .poison, .free]
  | .msgRecv _ _ => answerParts ++ [.wqs, .cqs, .remote, .matching, .trans, .insts, .draw, .mem, .poison, .free]
  | .msgCancel _ => answerParts ++ [.wqs, .cqs, .remote, .matching, .trans, .insts, .draw, .mem, .poison, .free]
  | .collective _ => answerParts ++ [.wqs, .cqs, .remote, .coll, .striker, .trans, .insts, .draw, .mem, .poison, .free]
  | .drawRun _ => answerParts ++ [.wqs, .cqs, .trans, .insts, .draw, .mem, .poison, .free]
  | .tallyAdd _ => answerParts ++ [.wqs, .cqs, .remote, .trans, .insts, .draw, .mem, .poison, .free]
  | .recordWriteComplete _ => answerParts ++ [.wqs, .cqs, .trans, .free]
  | .writeBackWord _ _ => answerParts ++ [.wqs, .cqs, .trans, .free]
  | .msgEager _ _ => answerParts ++ [.wqs, .cqs, .remote, .matching, .trans, .insts, .mem, .poison, .free]
  | .msgRts _ => answerParts ++ [.wqs, .cqs, .remote, .matching, .trans, .insts, .mem, .poison, .free]
  | .orderQueryTimer _ _ _ => [.routing, .tiles, .sched, .time, .remote, .matching, .quench, .counters]
  | .orderAbandon _ _ _ => [.routing, .tiles, .sched, .time, .matching, .quench, .counters]
  | .putPacket _ _ => answerParts ++ [.remote, .trans, .insts, .mem, .outside, .poison, .free]
  | .getReq _ _ => answerParts ++ [.remote, .trans, .free]
  | .getResp _ _ => answerParts ++ [.wqs, .cqs, .remote, .matching, .trans, .insts, .draw, .mem, .poison, .free]
  | .atomicReq _ _ _ _ => answerParts ++ [.wqs, .cqs, .remote, .trans, .insts, .draw, .mem, .outside, .poison, .free]
  | .atomicResp _ _ => answerParts ++ [.wqs, .cqs, .remote, .trans, .insts, .draw, .mem, .poison, .free]
  | .response _ => answerParts ++ [.wqs, .cqs, .remote, .matching, .coll, .trans, .insts, .draw, .mem, .poison, .free]
  | .fault _ => answerParts ++ [.wqs, .cqs, .remote, .matching, .coll, .trans, .insts, .draw, .mem, .poison, .free]
  | .operationEnd _ _ => answerParts ++ [.wqs, .cqs, .remote, .trans, .insts, .draw, .free]
  | .tallyMirrorWrite _ _ => answerParts ++ [.wqs, .cqs, .remote, .trans, .insts, .free]
  | .tombstoneExpiry _ _ _ => [.time, .remote]
  | .openEntryExpiry _ _ _ => [.routing, .tiles, .sched, .time, .remote, .quench, .counters]
  | .opTimeout _ _ _ => answerParts ++ [.time, .wqs, .cqs, .remote, .matching, .trans, .insts, .draw, .mem, .poison, .free]
  | .multicastPutSettle _ _ _ => answerParts ++ [.time, .wqs, .cqs, .remote, .trans, .insts, .draw, .mem, .poison, .free]
  | .collData _ _ => answerParts ++ [.wqs, .cqs, .remote, .coll, .striker, .trans, .insts, .mem, .poison, .free]
  | .collInstall _ => [.routing, .tiles, .sched, .coll, .quench, .counters]
  | .collSwitch _ => [.routing, .coll, .quench, .counters]
  | .collStall _ => answerParts ++ [.wqs, .cqs, .coll, .striker, .trans, .insts, .mem, .poison, .free]
  | .collProbe _ => [.routing, .tiles, .sched, .coll, .quench, .counters]
  | .collProbeAnswer _ => answerParts ++ [.wqs, .cqs, .coll, .trans, .insts, .mem, .poison, .free]
  | .collRestart _ => answerParts ++ [.wqs, .cqs, .remote, .coll, .trans, .insts, .mem, .poison, .free]
  | .collFinalQuery _ => [.routing, .tiles, .sched, .coll, .quench, .counters]
  | .collFinalAnswer _ => answerParts ++ [.wqs, .cqs, .remote, .coll, .striker, .trans, .insts, .mem, .poison, .free]
  | .collAbort _ => answerParts ++ [.wqs, .cqs, .coll, .trans, .insts, .mem, .poison, .free]
  | .collDone _ => [.routing, .tiles, .sched, .coll, .quench, .counters]
  | .collClose _ => [.routing, .coll, .quench, .counters]
  | .collDestroy _ => answerParts ++ [.wqs, .cqs, .coll, .trans, .insts, .mem, .poison, .free]
  | .collTimeout _ _ _ => [.routing, .tiles, .sched, .time, .coll, .quench, .counters]
  | .collStartAt _ _ _ _ _ => answerParts ++ [.time, .wqs, .cqs, .remote, .coll, .trans, .insts, .mem, .poison, .free]
  | .collReleaseAt _ _ _ _ _ => answerParts ++ [.time, .wqs, .cqs, .remote, .coll, .trans, .insts, .mem, .poison, .free]
  | .shapeCompare _ _ _ => answerParts ++ [.time, .wqs, .cqs, .coll, .striker, .trans, .insts, .mem, .poison, .free]
  | .placementEpoch _ _ _ => answerParts ++ [.time, .remote, .matching, .striker]
  | .migrationCommit _ _ => answerParts ++ [.wqs, .cqs, .remote, .matching, .striker, .trans, .insts, .mem, .poison, .free]
  | .demotionCommit _ => answerParts ++ [.matching, .striker, .trans, .free]
  | .tallyMoveCommit _ => answerParts ++ [.wqs, .cqs, .remote, .striker, .trans, .insts, .draw, .mem, .poison, .free]
  | .cellSelfTestEnd _ _ => answerParts ++ [.striker]
  | .walkEntryRead _ _ => answerParts ++ [.trans, .free]
  | .adUpdateLine _ _ => answerParts ++ [.trans, .free]
  | .invalidationDrainComplete _ => answerParts ++ [.trans]
  | .instanceResetEnd _ => answerParts ++ [.time, .wqs, .cqs, .remote, .matching, .striker, .trans, .insts, .draw, .vises, .mem, .poison, .free]
  | .instanceResetTimeout _ _ => answerParts ++ [.time, .wqs, .cqs, .remote, .matching, .striker, .trans, .insts, .draw, .vises, .mem, .poison, .free]
  | .epochSweepEnd _ => [.remote, .coll, .insts]
  | .instanceQuiesceComplete _ => answerParts ++ [.insts]
  | .drawSetCommit _ _ => answerParts ++ [.wqs, .cqs, .trans, .insts, .draw, .mem, .poison, .free]
  | .move _ _ _ => answerParts ++ [.wqs, .cqs, .trans, .insts, .draw, .mem, .outside, .poison, .free]
  | .loop _ => answerParts ++ [.wqs, .cqs, .trans, .insts, .draw, .mem, .poison, .free]
  | .wait _ => answerParts ++ [.wqs, .cqs, .trans, .insts, .draw, .vises, .mem, .poison, .free]
  | .signal _ => answerParts ++ [.wqs, .cqs, .remote, .trans, .insts, .draw, .vises, .mem, .poison, .free]
  | .endProg _ => answerParts ++ [.wqs, .cqs, .trans, .insts, .draw, .mem, .poison, .free]
  | .drawWaitInstant _ _ => [.time, .draw]
  | .drawWaitTimeout _ _ => answerParts ++ [.time, .wqs, .cqs, .trans, .insts, .draw, .vises, .mem, .poison, .free]
  | .viseClaimWrite _ _ _ => [.ports, .draw, .vises, .hearth, .quench, .counters, .out]
  | .viseReleaseWrite _ _ _ => [.ports, .draw, .vises, .hearth, .quench, .counters, .out]
  | .detectorEvent _ => answerParts ++ [.time, .wqs, .cqs, .remote, .matching, .coll, .striker, .trans, .insts, .draw, .vises, .mem, .outside, .poison, .free]
  | .railFault _ => answerParts ++ [.time, .wqs, .cqs, .remote, .matching, .coll, .striker, .trans, .insts, .draw, .vises, .mem, .outside, .poison, .free]
  | .quenchWindowEnd _ _ => [.time, .quench]
  | .injectionFire _ _ _ => [.time, .quench, .counters]
  | .haltActionReset _ => answerParts ++ [.time, .wqs, .cqs, .remote, .matching, .coll, .striker, .trans, .insts, .draw, .vises, .power, .segments, .mem, .outside, .poison]
  | .hearthWatchdog => answerParts ++ [.draw, .vises]
  | .hsSampleTrigger _ _ _ _ _ _ _ => [.counters, .mem, .poison]
  | .mainsInputLost _ => [.quench, .counters, .power]
  | .mainsInputPresent _ => [.routing, .tiles, .sched, .time, .ports, .wqs, .cqs, .remote, .matching, .coll, .striker, .trans, .insts, .draw, .vises, .hearth, .quench, .counters, .power, .segments, .mem, .outside, .poison]
  | .holdUpPowerDown => [.tiles, .ports, .counters, .power, .out]
  | .railsOff => answerParts ++ [.time, .wqs, .cqs, .remote, .matching, .coll, .striker, .trans, .insts, .draw, .vises, .power, .segments, .mem, .outside, .poison]
  | .resetNLow => answerParts ++ [.time, .wqs, .cqs, .remote, .matching, .coll, .striker, .trans, .insts, .draw, .vises, .power, .segments, .mem, .outside, .poison]
  | .resetNHigh _ => [.ports, .hearth, .counters, .power, .out]
  | .flesoReady _ _ _ _ => answerParts
  | .selfTestPass _ _ _ _ => answerParts ++ [.time, .wqs, .cqs, .remote, .matching, .coll, .striker, .trans, .insts, .draw, .vises, .mem, .outside, .poison, .free]
  | .linkBringupTimeout _ => answerParts ++ [.time]
  | .drainComplete => answerParts
  | .drainTimeout _ => answerParts ++ [.time]
  | .fwActivationReady => answerParts ++ [.draw, .vises]
  | .fwActivationTimeout _ => answerParts ++ [.draw, .vises]
  | .sensorSample _ _ _ _ _ _ => [.quench, .counters, .power]
  | .cablePresentChange _ _ _ => [.tiles, .quench, .counters, .out]
  | .cableOverdraw _ => [.routing, .tiles, .sched, .time, .quench, .counters, .out]
  | .doeSpdmRequest _ _ => [.ports, .counters, .out]
  | .refClockReturn _ => [.time]
  | .hrefclkReturn _ => [.ports]
  | .cxlLinkTrainingFailed _ _ => [.quench, .counters]
  | .clockRecoveryPhaseMove _ _ _ _ => [.tiles, .quench, .counters]
  | .substitutionCopyComplete _ _ _ _ => answerParts ++ [.wqs, .cqs, .remote, .matching, .coll, .striker, .trans, .insts, .draw, .vises, .mem, .poison, .free]
  | .placementSummaryTimeout _ => answerParts ++ [.wqs, .cqs, .coll, .striker, .trans, .insts, .mem, .poison, .free]
  | .i3cEntdaa _ => [.hearth]
  | .payloadReadReturn _ _ _ => answerParts ++ [.wqs, .cqs, .remote, .matching, .trans, .insts, .draw, .mem, .poison, .free]

/-! ### Fleso's commands (R630) -/

/-- A row of R630's authority column: M Manager, H Host, I Instance, F or f Fabric where the allowance lists the code. -/
inductive Allowed where
  | m | mh | mi | mhi | mf | mhf | mhif | debug | any
  deriving DecidableEq, Repr

/-- Whether an authority may give a command of a code (R620, R630): Debug may all that Manager may. -/
def State.allows (s : State) (k : Allowed) (code : BitVec 16) : Auth → Bool
  | .manager => k != .debug
  | .debug => true
  | .host _ => k == .mh || k == .mhi || k == .mhf || k == .mhif || k == .any
  | .inst _ => k == .mi || k == .mhi || k == .mhif || k == .any
  | .fabric => (k == .mf || k == .mhf || k == .mhif || k == .any) && s.fabricMay code
  | .none => k == .any

/-- The rows of R630: the caller, the code and the authority column. -/
def commandOf : Instr → Option (Call × BitVec 16 × Allowed)
  | .registerWriteUndefined _ _ => none
  | .wqDoorbell _ _ _ _ _ => none
  | .cqDoorbell _ _ _ _ _ => none
  | .mboxSubmit _ _ _ _ _ => none
  | .mboxRelease _ _ _ _ => none
  | .mboxWithdraw _ _ _ _ => none
  | .evHeadWrite _ _ => none
  | .msixUnmask _ _ => none
  | .identify c => some (c, 0x0001, .any)
  | .regRead c _ _ _ _ => some (c, 0x0002, .mhif)
  | .regWrite c _ _ _ _ _ => some (c, 0x0003, .debug)
  | .stageOpen c _ => some (c, 0x0004, .mh)
  | .stageWrite c _ _ _ => some (c, 0x0005, .mh)
  | .stageClose c _ => some (c, 0x0006, .mh)
  | .modeRequest c _ => some (c, 0x0007, .m)
  | .reportRead c _ _ => some (c, 0x0008, .mhi)
  | .machineIdentity c _ _ _ _ _ _ => some (c, 0x0101, .m)
  | .portReassign c _ => some (c, 0x0102, .m)
  | .routeLoad c _ _ _ => some (c, 0x0103, .mf)
  | .routeSwap c _ _ _ => some (c, 0x0104, .mf)
  | .routeCfg c _ _ => some (c, 0x0105, .m)
  | .treeWrite c _ _ => some (c, 0x0106, .mf)
  | .flowCfg c _ _ _ _ => some (c, 0x0107, .m)
  | .sampling c _ _ _ _ => some (c, 0x0108, .mh)
  | .holeSet c _ _ _ => some (c, 0x0109, .mf)
  | .timeSet c _ => some (c, 0x0201, .m)
  | .timeCfg c _ => some (c, 0x0202, .m)
  | .timePort c _ _ => some (c, 0x0203, .m)
  | .strokeLoad c _ _ => some (c, 0x0204, .mf)
  | .strokeSwap c _ _ => some (c, 0x0205, .mf)
  | .strokeAdmit c _ => some (c, 0x0206, .m)
  | .strokeEnable c _ => some (c, 0x0207, .mf)
  | .instCreate c _ _ _ _ _ _ => some (c, 0x0301, .m)
  | .instBind c _ _ _ => some (c, 0x0302, .m)
  | .instGrant c _ _ => some (c, 0x0303, .m)
  | .instReset c _ => some (c, 0x0304, .m)
  | .instReopen c _ => some (c, 0x0305, .mhi)
  | .instQuery c _ => some (c, 0x0306, .mhi)
  | .instDestroy c _ => some (c, 0x0307, .m)
  | .instQuiesce c _ => some (c, 0x0308, .m)
  | .instExport c _ => some (c, 0x0309, .m)
  | .instImport c _ _ => some (c, 0x030a, .m)
  | .dirtyLog c _ _ _ _ _ _ => some (c, 0x030b, .mh)
  | .dirtyFlush c _ => some (c, 0x030c, .mh)
  | .segmentExpose c _ _ => some (c, 0x030d, .m)
  | .hostCfg c _ _ => some (c, 0x030e, .m)
  | .shaping c _ _ _ => some (c, 0x030f, .m)
  | .wqCreate c _ _ _ _ _ _ => some (c, 0x0401, .mhi)
  | .cqCreate c _ _ _ _ _ _ _ => some (c, 0x0402, .mhi)
  | .wqRestart c _ _ => some (c, 0x0403, .mhi)
  | .cqRestart c _ => some (c, 0x0404, .mhi)
  | .queueStatus c _ _ _ => some (c, 0x0405, .mhi)
  | .queueDestroy c _ _ => some (c, 0x0406, .mhi)
  | .cqSignal c _ _ _ => some (c, 0x0407, .mhi)
  | .ctxCreate c _ _ _ _ _ _ _ _ _ _ => some (c, 0x0501, .mi)
  | .ctxDestroy c _ _ => some (c, 0x0502, .mi)
  | .matchCfg c _ _ => some (c, 0x0503, .m)
  | .windowWrite c _ _ _ => some (c, 0x0504, .mi)
  | .tallyAlloc c _ _ _ _ _ _ => some (c, 0x0505, .mi)
  | .tallyArm c _ _ _ => some (c, 0x0506, .mi)
  | .tallyRead c _ _ => some (c, 0x0507, .mhi)
  | .tallyFree c _ _ => some (c, 0x0508, .mi)
  | .remoteCfg c _ => some (c, 0x0509, .m)
  | .groupCreate c _ _ _ _ _ _ _ _ _ => some (c, 0x0601, .m)
  | .groupDestroy c _ => some (c, 0x0602, .m)
  | .collCfg c _ => some (c, 0x0603, .m)
  | .placeHint c _ => some (c, 0x0604, .mi)
  | .placeLog c _ _ => some (c, 0x0605, .m)
  | .placeSummary c => some (c, 0x0606, .mf)
  | .strikerCfg c _ => some (c, 0x0607, .m)
  | .transDomain c _ _ _ => some (c, 0x0701, .mh)
  | .transInval c _ _ _ => some (c, 0x0702, .mhi)
  | .transLock c _ _ _ _ => some (c, 0x0703, .mhi)
  | .transUnlock c _ _ _ => some (c, 0x0704, .mhi)
  | .deviceRange c _ _ _ _ => some (c, 0x0705, .mh)
  | .faultLog c _ _ _ => some (c, 0x0706, .mhi)
  | .drawChannel c _ _ _ _ => some (c, 0x0801, .mhi)
  | .drawLoad c _ _ _ => some (c, 0x0802, .mhi)
  | .drawStop c _ => some (c, 0x0803, .mhi)
  | .viseClaim c _ => some (c, 0x0804, .mhi)
  | .viseRelease c _ => some (c, 0x0805, .mhi)
  | .quenchRead c => some (c, 0x0901, .mhf)
  | .quenchClear c _ _ => some (c, 0x0902, .m)
  | .quenchPolicy c _ _ => some (c, 0x0903, .m)
  | .inject c _ _ => some (c, 0x0904, .m)
  | .counterSelect c _ _ _ => some (c, 0x0905, .m)
  | .counterRead c _ _ => some (c, 0x0906, .mhf)
  | .rolemapLoad c _ => some (c, 0x0a01, .m)
  | .fwStage c _ => some (c, 0x0a02, .m)
  | .fwActivate c _ => some (c, 0x0a03, .m)
  | .mgmtCmd _ _ => none
  | .mgmtResp _ _ => none
  | .mctpRequest _ _ => none
  | .fecFrameReceive _ _ => none
  | .freewheelBlock _ _ => none
  | .trainingBlock _ _ _ => none
  | .laneLockLoss _ _ => none
  | .trainingPhaseTimeout _ => none
  | .trainingBackoffExpiry _ => none
  | .rateStepSwitch _ => none
  | .rateQualifyEnd _ _ _ _ => none
  | .eyeScanComplete _ _ _ _ => none
  | .marginCriticalExpiry _ _ => none
  | .shodSet _ => none
  | .soleUseClear _ => none
  | .shoeRequestSend _ => none
  | .shoeBeginFrame _ => none
  | .shoeStepRelock _ _ _ => none
  | .shoeStepTimeout _ => none
  | .shoeWaitExpiry _ => none
  | .shoeRetryTimer _ => none
  | .idleRunStart _ => none
  | .widthRestore _ => none
  | .replayTimeout _ _ => none
  | .creditDecay _ => none
  | .bellowsUpdate => none
  | .congestionSummarySend => none
  | .timeExchangeSend _ => none
  | .tc3ChunkReportSend _ => none
  | .helloSend _ => none
  | .exchangeIntervalEnd _ => none
  | .injectionDecision _ => none
  | .portEgressDecision _ => none
  | .routeWaitExpiry _ => none
  | .routeSwapFire _ => none
  | .bankRetire _ => none
  | .tc3ResendTimeout _ _ => none
  | .e2eAck _ _ => none
  | .e2eAckTimer _ => none
  | .tc3StreamSyncRetry _ => none
  | .sampleEpoch _ => none
  | .ppsEdge _ _ _ _ => none
  | .timeRefLoss _ => none
  | .refClockLoss _ => none
  | .timeAnnounce _ _ => none
  | .timeOutPulse _ => none
  | .strokeBoundary _ => none
  | .strokeSwapFire _ => none
  | .cxlLinkUp _ _ _ _ _ => none
  | .cxlConfigRequest _ _ _ => none
  | .h2dSnoop _ _ => none
  | .cxlMemRead _ _ _ _ => none
  | .cxlMemWrite _ _ _ _ _ => none
  | .birsp _ _ => none
  | .biTimeout _ => none
  | .d2hTimeout _ _ _ => none
  | .hostLinkDown _ => none
  | .hotReset _ => none
  | .ideFailure _ => none
  | .bmeClear _ _ => none
  | .portPresent _ => none
  | .flrVf _ _ => none
  | .flrPf _ => none
  | .perstN _ _ => none
  | .hrefclkLoss _ => none
  | .gpfPhase1 _ => none
  | .gpfPhase2 _ => none
  | .descriptorFetch _ => none
  | .descriptorReadComplete _ _ => none
  | .nop _ => none
  | .put _ => none
  | .get _ => none
  | .atomic _ => none
  | .msgSend _ => none
  | .msgRecv _ _ => none
  | .msgCancel _ => none
  | .collective _ => none
  | .drawRun _ => none
  | .tallyAdd _ => none
  | .recordWriteComplete _ => none
  | .writeBackWord _ _ => none
  | .msgEager _ _ => none
  | .msgRts _ => none
  | .orderQueryTimer _ _ _ => none
  | .orderAbandon _ _ _ => none
  | .putPacket _ _ => none
  | .getReq _ _ => none
  | .getResp _ _ => none
  | .atomicReq _ _ _ _ => none
  | .atomicResp _ _ => none
  | .response _ => none
  | .fault _ => none
  | .operationEnd _ _ => none
  | .tallyMirrorWrite _ _ => none
  | .tombstoneExpiry _ _ _ => none
  | .openEntryExpiry _ _ _ => none
  | .opTimeout _ _ _ => none
  | .multicastPutSettle _ _ _ => none
  | .collData _ _ => none
  | .collInstall _ => none
  | .collSwitch _ => none
  | .collStall _ => none
  | .collProbe _ => none
  | .collProbeAnswer _ => none
  | .collRestart _ => none
  | .collFinalQuery _ => none
  | .collFinalAnswer _ => none
  | .collAbort _ => none
  | .collDone _ => none
  | .collClose _ => none
  | .collDestroy _ => none
  | .collTimeout _ _ _ => none
  | .collStartAt _ _ _ _ _ => none
  | .collReleaseAt _ _ _ _ _ => none
  | .shapeCompare _ _ _ => none
  | .placementEpoch _ _ _ => none
  | .migrationCommit _ _ => none
  | .demotionCommit _ => none
  | .tallyMoveCommit _ => none
  | .cellSelfTestEnd _ _ => none
  | .walkEntryRead _ _ => none
  | .adUpdateLine _ _ => none
  | .invalidationDrainComplete _ => none
  | .instanceResetEnd _ => none
  | .instanceResetTimeout _ _ => none
  | .epochSweepEnd _ => none
  | .instanceQuiesceComplete _ => none
  | .drawSetCommit _ _ => none
  | .move _ _ _ => none
  | .loop _ => none
  | .wait _ => none
  | .signal _ => none
  | .endProg _ => none
  | .drawWaitInstant _ _ => none
  | .drawWaitTimeout _ _ => none
  | .viseClaimWrite _ _ _ => none
  | .viseReleaseWrite _ _ _ => none
  | .detectorEvent _ => none
  | .railFault _ => none
  | .quenchWindowEnd _ _ => none
  | .injectionFire _ _ _ => none
  | .haltActionReset _ => none
  | .hearthWatchdog => none
  | .hsSampleTrigger _ _ _ _ _ _ _ => none
  | .mainsInputLost _ => none
  | .mainsInputPresent _ => none
  | .holdUpPowerDown => none
  | .railsOff => none
  | .resetNLow => none
  | .resetNHigh _ => none
  | .flesoReady _ _ _ _ => none
  | .selfTestPass _ _ _ _ => none
  | .linkBringupTimeout _ => none
  | .drainComplete => none
  | .drainTimeout _ => none
  | .fwActivationReady => none
  | .fwActivationTimeout _ => none
  | .sensorSample _ _ _ _ _ _ => none
  | .cablePresentChange _ _ _ => none
  | .cableOverdraw _ => none
  | .doeSpdmRequest _ _ => none
  | .refClockReturn _ => none
  | .hrefclkReturn _ => none
  | .cxlLinkTrainingFailed _ _ => none
  | .clockRecoveryPhaseMove _ _ _ _ => none
  | .substitutionCopyComplete _ _ _ _ => none
  | .placementSummaryTimeout _ => none
  | .i3cEntdaa _ => none
  | .payloadReadReturn _ _ _ => none

/-- A Fleso command that is taken and executes: it heads its arrival point (R608, R623-R625), mode, authority and halt let it, and its
layout is whole (R611, R613). -/
structure State.Executes (s : State) (i : Instr) (c : Call) (code : BitVec 16) (k : Allowed) : Prop where
  row : commandOf i = some (c, code, k)
  heads : (s.front c.via c.seq code).isSome = true
  mode : s.modeRefuses (s.authOf c.via) code = false
  allowed : s.allows k code (s.authOf c.via) = true
  running : s.quench.halted = false ∨ haltOps.contains code = true
  whole : c.malformed = none

/-! ### Collective control -/

/-- A COLL_CTRL packet of a kind is taken: it waits here, and its sender may send it (R434). -/
structure State.CtrlTaken (s : State) (p : Packet) (kind : BitVec 4) (c : CollCtrl) : Prop where
  running : s.quench.halted = false
  arrived : s.hasArrival p = true
  type : p.pktType = 0x0a
  content : p.ctrl = some c
  kind : c.kind = kind
  accepted : ctrlAccepted ((s.groupRec c.group).map (·.2)) (addrModule p.src) c = true

/-! ### Outcomes -/

/-- The command ends in a next state, of which P holds. -/
def Completes (o : Host.Outcome State Fault Refusal) (P : State → Prop) : Prop := ∃ t, o = .next t ∧ P t

/-- The command takes effect, of which P holds; then Fleso serves what waits. -/
def Serves (o : Host.Outcome State Fault Refusal) (P : State → Prop) : Prop := ∃ u, o = .next u.serve ∧ P u

/-- A Fleso command takes effect, of which P holds, and is answered with r; then Fleso serves what waits. -/
def Answers (o : Host.Outcome State Fault Refusal) (c : Call) (code : BitVec 16) (r : Reply) (P : State → Prop) : Prop :=
  ∃ u, o = .next (u.reply c code r).serve ∧ P u

/-- The Fleso command i, where it executes, takes effect and is answered with r. -/
def Does (i : Instr) (s : State) (r : Reply) (P : State → Prop) : Prop :=
  ∀ c code k, s.Executes i c code k → Answers (exec i s) c code r P

/-! ### The invariant -/

/-- Segments 0, 1 and 2 of module memory are exposed to no head (R264); the rings that the module fills lie in the report segment
(R265); memory has its canonical form. -/
structure State.Inv (s : State) : Prop where
  hidden : ∀ g, g < 3 → tgetD s.segments g 0 = 0
  rings : s.RingsIn
  memory : Memory.wf s.mem = true

end Sys2Proof.Machine
end

