-- ==== Sys2Proof/Certificates/Slice0/Obligations.lean ====
section
/-! DEFINITION. The statements for the provers: every command completes where its own effect is due, and what the machine as a whole keeps. -/

open Sys2Proof
open Sys2Proof.Machine

/-- R23, R306-R309, R607, R608, R610, R277: a host's register writes. A write to an
undefined offset is discarded with a Notice, and one to an offset that a command of its own stands for changes nothing by this one; a doorbell within
the ring's bounds moves tail or head; a mailbox slot is submitted, released, withdrawn; ev_head is consumed; unmasking a vector makes
it unmasked and sends what was pending. -/
def Obligations.HostWritesComplete : Prop :=
  (∀ (s : State) (fn : Fn) (offset : BitVec 32), rowOfWrite fn offset.toNat = false →
    Completes (exec (.registerWriteUndefined fn offset) s) fun t =>
    ∃ e : QEvent, e.source = 1228 ∧ t.quench.raised = s.quench.raised ++ [e]) ∧
  (∀ (s : State) (fn : Fn) (offset : BitVec 32), rowOfWrite fn offset.toNat = true →
    Completes (exec (.registerWriteUndefined fn offset) s) fun t => t = s) ∧
  (∀ (s : State) (fn : Fn) (queue : BitVec 14) (index : BitVec 32) (w : Wq), s.wq queue.toNat = some w → s.quench.halted = false →
    w.owner = fn → w.state ≠ .disabled → w.state ≠ .fenced → (w.tail - w.head).toNat ≤ (index - w.head).toNat →
    (index - w.head).toNat ≤ ringSize w.sizeCode →
    Completes (exec (.wqDoorbell fn queue index 0 true) s) fun t => t.wq queue.toNat = some { w with tail := index }) ∧
  (∀ (s : State) (fn : Fn) (ring : BitVec 14) (index : BitVec 32) (c : Cq), s.cq ring.toNat = some c → s.quench.halted = false →
    c.owner = fn → c.state ≠ .disabled → (index - c.head).toNat ≤ (c.tail - c.head).toNat →
    Completes (exec (.cqDoorbell fn ring index 0 true) s) fun t =>
      t = (((s.modCq ring.toNat fun c => { c with head := index }).drain ring.toNat).missedArrivals ring.toNat).updateWait ring.toNat) ∧
  (∀ (s : State) (fn : Fn) (slot : Nat) (value : Word) (req : ReqHdr), slot < slotsOf fn → bits value 4 2 = 1 →
    (s.slot fn slot).state = .free →
    Serves (exec (.mboxSubmit fn slot value true req) s) fun u => (u.slot fn slot).state = .submitted ∧ (u.slot fn slot).seq = req.seq ∧
      u.hearth.queue = s.hearth.queue ++ [qcmdOf (.mailbox fn slot) req]) ∧
  (∀ (s : State) (fn : Fn) (slot : Nat) (value : Word), slot < slotsOf fn → bits value 4 2 = 2 → (s.slot fn slot).state = .done →
    Completes (exec (.mboxRelease fn slot value true) s) fun t =>
      (t.slot fn slot).state = .free ∧ (t.slot fn slot).resp = none ∧ t.hearth.queue = s.hearth.queue) ∧
  (∀ (s : State) (fn : Fn) (slot : Nat) (value : Word), slot < slotsOf fn → bits value 4 2 = 4 → (s.slot fn slot).state = .submitted →
    Serves (exec (.mboxWithdraw fn slot value true) s) fun u => (u.slot fn slot).state = .free ∧
      ∀ q ∈ u.hearth.queue, q.via ≠ .mailbox fn slot) ∧
  (∀ (s : State) (fn : Fn) (head : BitVec 32), (head - (s.mbox fn).evHead).toNat ≤ ((s.mbox fn).evTail - (s.mbox fn).evHead).toNat →
    Completes (exec (.evHeadWrite fn head) s) fun t => (t.mbox fn).evHead = head)

/-- R300, R301, R312, R315, R327, R330: a queue's engine. A descriptor is fetched, arrives and moves head; a NOP starts and completes
with status ok; an acknowledged record moves tail; a changed word is written back. -/
def Obligations.RingEngineCompletes : Prop :=
  (∀ (s : State) (q : Nat) (w : Wq) (c : Cq), s.wq q = some w → s.cq w.cq.toNat = some c → w.state = .running → w.destroying = false →
    w.reading = none → w.occ ≠ 0 → w.fetched.length < Config.fetchedMax → s.opsInFlight < Config.opsInFlightMax →
    (s.port w.owner.port).present = true → (s.port w.owner.port).readsOut < Config.d2hReads → s.fetchMode = true → c.mayFetch = true →
    Completes (exec (.descriptorFetch q) s) fun t =>
      ∃ w', t.wq q = some w' ∧ w'.reading = some w.head ∧ w'.head = w.head ∧ w'.tail = w.tail) ∧
  (∀ (s : State) (q : Nat) (w : Wq) (i : BitVec 32) (bs : List Byte), s.wq q = some w → w.reading = some i →
    malformedCommon (lineOf bs) = none →
    Completes (exec (.descriptorReadComplete q (.data bs false)) s) fun t =>
      ∃ w' tag, t.wq q = some w' ∧ w'.head = i + 1 ∧ w'.reading = none ∧ w'.open_ = w.open_ ++ [i] ∧
        w'.fetched = w.fetched ++ [{ index := i, line := lineOf bs, tagId := tag }]) ∧
  (∀ (s : State) (q : Nat) (w : Wq) (f : Fetched), s.startable q 0 = some (w, f) →
    Completes (exec (.nop q) s) fun t => t = (s.started q).complete q f.index f.line (s.epochOf w) 0 0 0) ∧
  (∀ (s : State) (ring : Nat) (c : Cq) (r : Rec) (rs : List Rec), s.cq ring = some c → c.writing = r :: rs →
    Completes (exec (.recordWriteComplete ring) s) fun t =>
      ∃ c', t.cq ring = some c' ∧ c'.tail = c.tail + 1 ∧ c'.writing = rs ∧ c'.head = c.head) ∧
  (∀ (s : State) (ring : Nat) (c : Cq), s.cq ring = some c → c.wbDirty = true → s.canWrite c.owner.port = true →
    Completes (exec (.writeBackWord true ring) s) fun t =>
      ∃ c', t.cq ring = some c' ∧ c'.wbDirty = false ∧ c'.sigPending = false ∧ c'.tail = c.tail ∧ c'.head = c.head) ∧
  (∀ (s : State) (q : Nat) (w : Wq), s.wq q = some w → w.wbDirty = true → s.canWrite w.owner.port = true →
    Completes (exec (.writeBackWord false q) s) fun t =>
      ∃ w', t.wq q = some w' ∧ w'.wbDirty = false ∧ w'.tail = w.tail ∧ w'.head = w.head)

/-- R293-R295, R323, R332, R334, R335, R635: the commands on queues and rings. -/
def Obligations.QueueCommandsComplete : Prop :=
  (∀ (s : State) (c : Call) (inst queue : Option Nat) (q size : Nat) (base wb : Word) (ring : Nat) (h : Option Nat) (owner : Fn) (r : Cq),
    s.holder (s.authOf c.via) inst = some h → s.creator c inst = some owner → size ≤ 14 → misaligned base wb = none →
    s.cq ring = some r → s.reachesObj (s.authOf c.via) c r.owner r.inst = true → r.owner = owner →
    (∀ e ∈ s.matching.ctxs, e.2.notify ≠ some (BitVec.ofNat 14 ring)) → (∀ i, h = some i → s.wqsOf i < s.grant i 0) →
    (queue = some q ∧ q < Config.queueCount ∨ queue = none ∧ freeKey s.wqs Config.queueCount = some q) → s.wq q = none →
    Does (.wqCreate c inst queue size base wb ring) s (.res (leBytes 8 q)) fun u => ∃ w, u.wq q = some w ∧ w.state = .running ∧
      w.head = 0 ∧ w.tail = 0 ∧ w.sizeCode = BitVec.ofNat 4 size ∧ w.cq = BitVec.ofNat 14 ring ∧ w.base = base ∧ w.wb = wb ∧ w.owner = owner) ∧
  (∀ (s : State) (c : Call) (inst ring : Option Nat) (q size : Nat) (base wb : Word) (vector : Nat) (irq : Bool) (h : Option Nat) (owner : Fn),
    s.holder (s.authOf c.via) inst = some h → s.creator c inst = some owner → size ≤ 14 → 2 ≤ vector → vector < 2048 →
    misaligned base wb = none → (∀ i, h = some i → s.cqsOf i < s.grant i 1) →
    (ring = some q ∧ q < Config.queueCount ∨ ring = none ∧ freeKey s.cqs Config.queueCount = some q) → s.cq q = none →
    Does (.cqCreate c inst ring size base wb vector irq) s (.res (leBytes 8 q)) fun u => ∃ r, u.cq q = some r ∧ r.state = .running ∧
      r.head = 0 ∧ r.tail = 0 ∧ r.sizeCode = BitVec.ofNat 4 size ∧ r.vector = BitVec.ofNat 11 vector ∧ r.irqEnable = irq ∧ r.base = base ∧
      r.wb = wb ∧ r.owner = owner ∧ r.inst = h) ∧
  (∀ (s : State) (c : Call) (q : Nat) (w : Wq), s.wq q = some w → s.reachesObj (s.authOf c.via) c w.owner w.instOf = true → w.state = .error →
    Does (.wqRestart c q false) s .ok fun u => u.wq q = some { w with state := .running, errorCause := 0, wbDirty := true }) ∧
  (∀ (s : State) (c : Call) (q : Nat) (w : Wq), s.wq q = some w → s.reachesObj (s.authOf c.via) c w.owner w.instOf = true → w.state = .error →
    w.destroying = false →
    Does (.wqRestart c q true) s .ok fun u => ∃ w', u.wq q = some w' ∧ w'.state = .running ∧ w'.head = w.head + 1 ∧ w'.tail = w.tail) ∧
  (∀ (s : State) (c : Call) (ring : Nat) (r : Cq), s.cq ring = some r → s.reachesObj (s.authOf c.via) c r.owner r.inst = true →
    r.state = .error →
    Does (.cqRestart c ring) s .ok fun u => ∃ r', u.cq ring = some r' ∧ r'.state = .running ∧ r'.head = r.head ∧ r'.tail = r.tail) ∧
  (∀ (s : State) (c : Call) (ring : Nat) (clear : Word) (r : Cq), s.cq ring = some r → s.reachesObj (s.authOf c.via) c r.owner r.inst = true →
    clear &&& 0xfffffffffffffffb#64 = 0 →
    Does (.queueStatus c true ring clear) s
      (.res (leBytes 8 r.indexWord ++ leBytes 8 r.stateWord ++ leBytes 8 r.base.toNat ++ leBytes 8 r.wb.toNat))
      fun u => u.cq ring = some { r with headStale := r.headStale && !bit clear 2 }) ∧
  (∀ (s : State) (c : Call) (q : Nat) (clear : Word) (w : Wq), s.wq q = some w → s.reachesObj (s.authOf c.via) c w.owner w.instOf = true →
    clear &&& 0xfffffffffffffff3#64 = 0 →
    Does (.queueStatus c false q clear) s
      (.res (leBytes 8 w.indexWord ++ leBytes 8 w.stateWord ++ leBytes 8 w.base.toNat ++ leBytes 8 w.wb.toNat))
      fun u => u.wq q = some { w with overrun := w.overrun && !bit clear 2, stale := w.stale && !bit clear 3 }) ∧
  (∀ (s : State) (c : Call) (ring : Nat) (r : Cq), s.cq ring = some r → s.reachesObj (s.authOf c.via) c r.owner r.inst = true →
    (∀ e ∈ s.wqs, e.2.cq.toNat ≠ ring) → Does (.queueDestroy c true ring) s .ok fun u => u.cq ring = none) ∧
  (∀ (s : State) (c : Call) (q : Nat) (w : Wq), s.wq q = some w → s.reachesObj (s.authOf c.via) c w.owner w.instOf = true →
    w.destroying = false →
    Does (.queueDestroy c false q) s .later fun u => ∀ w', u.wq q = some w' → w'.state = .disabled ∧ w'.destroying = true ∧ w'.destroyCall = some c) ∧
  (∀ (s : State) (c : Call) (ring : Nat) (irq : Bool) (vector : Nat) (r : Cq), s.cq ring = some r →
    s.reachesObj (s.authOf c.via) c r.owner r.inst = true → 2 ≤ vector → vector < 2048 →
    Does (.cqSignal c ring irq vector) s .ok fun u => u.cq ring = some { r with irqEnable := irq, vector := BitVec.ofNat 11 vector })

/-- R509, R518, R519, R523, R527, R528, R531, R537: the commands of translation, and the drain after an invalidation. -/
def Obligations.TranslationCommandsComplete : Prop :=
  (∀ (s : State) (c : Call) (domain : Nat) (format root : Word), domain < 1028 → s.reachesDomain (s.authOf c.via) domain = true →
    (domain < 1024 → (s.inst domain).state ≠ .free) → 3 ≤ fLevels format → fLevels format ≤ 5 → bits format 63 53 = 0 →
    bits root 11 0 = 0 → bits root 63 52 = 0 →
    Does (.transDomain c domain format root) s .ok fun u => tget u.trans.roots domain = some root ∧
      tget u.trans.formats domain = some (if domain < 1024 ∧ (s.inst domain).state = .held then format &&& ~~~(1#64 <<< 52)
        else format ||| 1#64 <<< 52)) ∧
  (∀ (s : State) (c : Call) (domain : Nat) (whole : Bool) (ranges : List (Word × Nat)), domain < 1028 →
    s.reachesDomain (s.authOf c.via) domain = true →
    (whole = false → ranges ≠ [] ∧ ranges.length ≤ 16 ∧ ∀ r ∈ ranges, r.2 ≠ 0 ∧ r.2 ≤ 2 ^ 36) →
    Does (.transInval c domain whole ranges) s .later fun u =>
      (∃ v : Inval, u.trans.invals = s.trans.invals ++ [v] ∧ v.id = s.trans.nextInval ∧ v.domain = domain ∧ v.call = c) ∧
      (∀ x ∈ u.trans.cache, x.domain ≠ domain) ∧
      ∀ e ∈ u.trans.tlb, e.domain = domain → whole = false ∧ overlaps e ranges = false) ∧
  (∀ (s : State) (c : Call) (domain : Nat) (va : Word) (pages : Nat) (write : Bool), domain < 1028 →
    s.reachesDomain (s.authOf c.via) domain = true → 1 ≤ pages → pages ≤ 256 → fEnabled (s.format domain) = true →
    vaOk (s.format domain) va = true → (∀ pa, s.inDevice (s.domainPort domain) pa 8 = false) →
    Does (.transLock c domain va pages write) s .later fun u => u.trans.locks = s.trans.locks ++
      [({ id := s.trans.nextLock, domain, write, next := va, left := pages, call := some c } : LockJob)]) ∧
  (∀ (s : State) (c : Call) (domain : Nat) (va : Word) (pages : Nat), domain < 1028 → s.reachesDomain (s.authOf c.via) domain = true →
    1 ≤ pages → pages ≤ 256 →
    Does (.transUnlock c domain va pages) s .ok fun u => u.trans.tlb.length = s.trans.tlb.length ∧ ∀ x ∈ u.trans.tlb, x.domain = domain →
      va.toNat / pageBytes x.size * pageBytes x.size ≤ x.va.toNat →
      x.va.toNat < va.toNat / pageBytes x.size * pageBytes x.size + pages * pageBytes x.size → x.locked = false) ∧
  (∀ (s : State) (c : Call) (port index : Nat) (base : Word) (pages : Nat), port < 4 →
    ((s.authOf c.via).isM = true ∨ s.authOf c.via = .host port) → index < 64 → base.toNat % 4096 = 0 →
    Does (.deviceRange c port index base pages) s .ok fun u =>
      tget (u.port port).deviceRanges index = if pages = 0 then none else some (base, pages)) ∧
  (∀ (s : State) (c : Call) (domain : Nat) (base : Word) (k : Nat), domain < 1028 → s.reachesDomain (s.authOf c.via) domain = true →
    base.toNat % 4096 = 0 → k ≤ 10 →
    Does (.faultLog c domain base (2 ^ (6 + k))) s .ok fun u =>
      ∃ g, tget u.trans.logs domain = some g ∧ g.base = base ∧ g.size = 2 ^ (6 + k)) ∧
  (∀ (s : State) (id : Nat) (v : Inval), s.trans.invals.find? (fun v => v.id == id) = some v →
    (∀ x ∈ s.trans.invals, x.domain = v.domain → id ≤ x.id) → (∀ j ∈ s.trans.locks, j.inval ≠ some id) →
    (∀ t ∈ v.reads, s.reading (s.domainPort v.domain) t = false) →
    Serves (exec (.invalidationDrainComplete id) s) fun u => u.trans.invals = s.trans.invals.filter fun x => x.id != id)

/-- R512, R518, R520, R521, R523, R524: a page walk. A leaf entry that needs no bit set ends the walk and is installed; one that ends the
last page of a TRANS_LOCK installs that lock's pages, locked, in every quadrant. A line that comes back owned and unchanged takes the bits in
the port's cache; once they are written, the walk ends and its entry is installed. -/
def Obligations.PageWalksComplete : Prop :=
  (∀ (s : State) (id : Nat) (w : Walk) (bs : List Byte),
    s.trans.active.find? (fun w => w.id == id && w.entry.isNone && s.reading (s.domainPort w.domain) (.walk id)) = some w →
    w.lock = none → w.gen = s.invGen w.quad →
    fEnabled (s.format w.domain) = true → entryFault (s.format w.domain) (BitVec.ofNat 64 (leAt bs 0 8)) w.access = none →
    isLeaf (s.format w.domain) (BitVec.ofNat 64 (leAt bs 0 8)) w.level = true →
    s.leafFault w (s.format w.domain) (BitVec.ofNat 64 (leAt bs 0 8)) = none →
    neededBits (s.format w.domain) (BitVec.ofNat 64 (leAt bs 0 8)) true w.access = 0 →
    Completes (exec (.walkEntryRead id (.data bs false)) s) fun t => ∃ x ∈ t.trans.tlb, x.quad = w.quad ∧ x.domain = w.domain ∧
      x.frame = BitVec.ofNat 64 (entryFrame (BitVec.ofNat 64 (leAt bs 0 8)))) ∧
  (∀ (s : State) (id : Nat) (w : Walk) (bs : List Byte) (j : LockJob) (c : Call) (e : TlbEntry),
    s.trans.active.find? (fun w => w.id == id && w.entry.isNone && s.reading (s.domainPort w.domain) (.walk id)) = some w →
    w.lock = some j.id → s.trans.locks.find? (fun x => x.id == j.id) = some j → j.left = 1 → j.call = some c →
    w.gen = s.invGen w.quad →
    fEnabled (s.format w.domain) = true → entryFault (s.format w.domain) (BitVec.ofNat 64 (leAt bs 0 8)) w.access = none →
    isLeaf (s.format w.domain) (BitVec.ofNat 64 (leAt bs 0 8)) w.level = true →
    s.leafFault w (s.format w.domain) (BitVec.ofNat 64 (leAt bs 0 8)) = none →
    neededBits (s.format w.domain) (BitVec.ofNat 64 (leAt bs 0 8)) true w.access = 0 →
    w.entryOf (s.format w.domain) (BitVec.ofNat 64 (leAt bs 0 8)) = e →
    s.lockRefused j.domain (j.found ++ [(e.va, e.frame, e.size)]) = none →
    Completes (exec (.walkEntryRead id (.data bs false)) s) fun t => ∀ q < 4, ∀ x ∈ j.found ++ [(e.va, e.frame, e.size)],
      ∃ y ∈ t.trans.tlb, y.quad = q ∧ y.domain = j.domain ∧ y.va = x.1 ∧ y.size = x.2.2 ∧ y.locked = true) ∧
  (∀ (s : State) (id : Nat) (w : Walk) (e : Word) (line : Line), s.trans.active.find? (fun w => w.id == id && w.entry.isSome) = some w →
    w.entry = some e → w.owned = false → s.reading (s.domainPort w.domain) (.adLine id) = true → fEnabled (s.format w.domain) = true →
    lineEntry line ((w.pa + 8 * vaIndex w.va w.level) % 64 / 8) = e →
    ∃ u : State, exec (.adUpdateLine id line) s = .next u.resumeWalks ∧
      tget (u.port (s.domainPort w.domain)).cache ((w.pa + 8 * vaIndex w.va w.level) / 64) =
        some (BitVec.ofNat 512 (line.toNat - e.toNat * 2 ^ (64 * ((w.pa + 8 * vaIndex w.va w.level) % 64 / 8)) +
          (e ||| neededBits (s.format w.domain) e (isLeaf (s.format w.domain) e w.level) w.access).toNat *
            2 ^ (64 * ((w.pa + 8 * vaIndex w.va w.level) % 64 / 8)))) ∧
      ∀ x ∈ u.trans.active, x.id = id → x.owned = true) ∧
  (∀ (s : State) (id : Nat) (w : Walk) (e : Word) (line d : Line), s.trans.active.find? (fun w => w.id == id && w.entry.isSome) = some w →
    w.entry = some e → w.owned = true → w.lock = none → w.gen = s.invGen w.quad → fEnabled (s.format w.domain) = true →
    isLeaf (s.format w.domain) e w.level = true →
    tget (s.port (s.domainPort w.domain)).cache ((w.pa + 8 * vaIndex w.va w.level) / 64) = some d →
    ∃ u : State, exec (.adUpdateLine id line) s = .next u.resumeWalks ∧
      Output.lineBack (s.domainPort w.domain) (BitVec.ofNat 64 (64 * ((w.pa + 8 * vaIndex w.va w.level) / 64))) d ∈ u.out ∧
      ∃ x ∈ u.trans.tlb, x.quad = w.quad ∧ x.domain = w.domain ∧ (w.access ≠ 0 → x.dirtySeen = true))

/-- R385, R393, R394, R402, R419, R420: PUT, GET, ATOMIC and a remote TALLY_ADD, where nothing refuses them, open an operation at their source
under the endpoint's next op_tag; a local TALLY_ADD adds to the Tally. -/
def Obligations.RemoteOperationsStart : Prop :=
  (∀ (s : State) (q op : Nat) (kind : OpKind) (c : Instr) (w : Wq) (f : Fetched) (i : Nat),
    (c = .put q ∧ op = 1 ∧ kind = .put ∨ c = .get q ∧ op = 2 ∧ kind = .get ∨ c = .atomic q ∧ op = 3 ∧ kind = .atomic) →
    s.startable q op = some (w, f) → s.refusal w f.line = none → w.instOf = some i →
    Completes (exec c s) fun t => tgetD t.remote.opTags i 0 = tgetD s.remote.opTags i 0 + 1 ∧
      ∃ o ∈ t.remote.srcOps, o.src = endpointOf s.routing.moduleId (s.inst i).port.toNat i ∧ o.tag = tgetD s.remote.opTags i 0 ∧
        o.kind = kind ∧ o.dst = BitVec.ofNat 29 (lf f.line 256 29) ∧ o.tc = BitVec.ofNat 2 (lf f.line 288 2) ∧ o.wq = q ∧
        o.line = f.line ∧ o.length = dLen f.line ∧ o.npkts = if kind = .put then max 1 (ceilDiv (dLen f.line) 4096) else 1) ∧
  (∀ (s : State) (q : Nat) (w : Wq) (f : Fetched) (i : Nat), s.startable q 9 = some (w, f) → lf f.line 285 3 = 0 → lf f.line 288 2 ≠ 3 →
    lf f.line 292 12 = 0 → lf f.line 318 2 = 0 → lf f.line 384 128 = 0 → dLen f.line = 0 → dAddr f.line = 0 → dFrag f.line = false →
    bit f.line 290 = false → s.unreachable (BitVec.ofNat 29 (lf f.line 256 29)) false = false → w.instOf = some i →
    Completes (exec (.tallyAdd q) s) fun t => tgetD t.remote.opTags i 0 = tgetD s.remote.opTags i 0 + 1 ∧
      ∃ o ∈ t.remote.srcOps, o.src = endpointOf s.routing.moduleId (s.inst i).port.toNat i ∧ o.tag = tgetD s.remote.opTags i 0 ∧
        o.kind = .tallyAdd ∧ o.dst = BitVec.ofNat 29 (lf f.line 256 29) ∧ o.wq = q ∧ o.line = f.line) ∧
  (∀ (s : State) (q : Nat) (w : Wq) (f : Fetched) (n : Nat), s.startable q 9 = some (w, f) → lf f.line 285 3 = 0 → lf f.line 288 2 ≠ 3 →
    lf f.line 292 12 = 0 → lf f.line 318 2 = 0 → lf f.line 384 128 = 0 → dLen f.line = 0 → dAddr f.line = 0 → dFrag f.line = false →
    bit f.line 290 = true → (w.instOf.bind fun i => s.tallyNo i (lf f.line 304 14)) = some n → (s.tally n).moving = none →
    Completes (exec (.tallyAdd q) s) fun t => (t.tally n).value = (s.tally n).value + BitVec.ofNat 64 (lf f.line 192 64) ∧
      (bit f.line 291 = true → (t.tally n).threshold = BitVec.ofNat 64 (lf f.line 320 64)))

/-- R418, R421-R424, R427: the Tallies: allocation, arming (which fires at once where the value is past), reading, freeing, the mirror
write; and REMOTE.CFG within its ranges. -/
def Obligations.TallyCommandsComplete : Prop :=
  (∀ (s : State) (c : Call) (inst slot : Option Nat) (countMode : Bool) (notify : Option Nat) (cookie : Word) (mirror : Option Word)
    (i n t : Nat) (r : Reply), s.forInst (s.authOf c.via) inst = (some i, r) →
    (slot = some n ∧ n < 16384 ∨
      slot = none ∧ (List.range ((s.tallySlots i).length + 1)).find? (fun k => !(s.tallySlots i).contains k) = some n) →
    n ∉ s.tallySlots i → (∀ m, mirror = some m → m.toNat % 8 = 0) → (∀ k, notify = some k → ∃ x, s.cq k = some x ∧ x.inst = some i) →
    (∀ k, notify = some k → ∀ e ∈ s.matching.ctxs, e.2.notify ≠ some (BitVec.ofNat 14 k)) → s.talliesOf i < s.grant i 3 →
    freeKey s.remote.tallies Config.tallyCount = some t →
    Does (.tallyAlloc c inst slot countMode notify cookie mirror) s (.res (leBytes 8 n ++ leBytes 8 t)) fun u =>
      (u.tally t).allocated = true ∧ (u.tally t).armed = false ∧ (u.tally t).value = 0 ∧ (u.tally t).countMode = countMode ∧
      (u.tally t).inst = BitVec.ofNat 10 i ∧ (u.tally t).slot = BitVec.ofNat 14 n ∧ (u.tally t).cookie = cookie ∧
      (u.tally t).notifyValid = notify.isSome ∧ (u.tally t).mirrorValid = mirror.isSome) ∧
  (∀ (s : State) (c : Call) (inst : Option Nat) (slot : Nat) (threshold : Word) (i n : Nat) (r : Reply),
    s.forInst (s.authOf c.via) inst = (some i, r) → s.tallyNo i slot = some n →
    Does (.tallyArm c inst slot threshold) s (.res (leBytes 8 (s.tally n).value.toNat)) fun u => (u.tally n).threshold = threshold ∧
      (u.tally n).value = (s.tally n).value ∧ (u.tally n).armed = !reached (s.tally n).value threshold) ∧
  (∀ (s : State) (c : Call) (inst : Option Nat) (slot i n : Nat) (r : Reply), s.forInst (s.authOf c.via) inst = (some i, r) →
    s.tallyNo i slot = some n →
    Does (.tallyRead c inst slot) s (.res (leBytes 8 (s.tally n).value.toNat ++ leBytes 8 (s.tally n).ctrl)) fun u =>
      u.remote = s.remote) ∧
  (∀ (s : State) (c : Call) (inst : Option Nat) (slot i n : Nat) (r : Reply), s.forInst (s.authOf c.via) inst = (some i, r) →
    s.tallyNo i slot = some n → Does (.tallyFree c inst slot) s .ok fun u => tget u.remote.tallies n = none) ∧
  (∀ (s : State) (n : Nat) (acc : Access), (s.tally n).allocated = true → (s.tally n).mirrorValid = true → (s.tally n).mirrorDirty = true →
    s.canWrite (s.inst (s.tally n).inst.toNat).port.toNat = true →
    Completes (exec (.tallyMirrorWrite n acc) s) fun t => (t.tally n).mirrorDirty = false ∧ (t.tally n).fireRecs = [] ∧
      (t.tally n).value = (s.tally n).value) ∧
  (∀ (s : State) (c : Call) (word : Word), 1 ≤ bits word 13 0 → bits word 13 0 ≤ 10000 → bits word 27 14 ≤ 10000 →
    100 ≤ bits word 44 28 → bits word 44 28 ≤ 100000 → 1 ≤ bits word 48 45 → 1 ≤ bits word 62 49 → bits word 62 49 ≤ 10000 →
    bit word 63 = false →
    Does (.remoteCfg c word) s .ok fun u => u.remote.opTimeoutMs = BitVec.ofNat 14 (bits word 13 0) ∧
      u.remote.msgTimeoutMs = BitVec.ofNat 14 (bits word 27 14) ∧ u.remote.tombUs = BitVec.ofNat 17 (bits word 44 28) ∧
      u.remote.resendMax = BitVec.ofNat 4 (bits word 48 45) ∧ u.remote.openExpireMs = BitVec.ofNat 14 (bits word 62 49))

/-- R387, R390, R391, R399, R404-R408, R413, R418: the target takes a put's packet and an atomic, ends an operation, forgets tombstones
and open entries; a multicast put settles at its source. -/
def Obligations.TargetOperationsComplete : Prop :=
  (∀ (s : State) (p : Packet) (h : Nat), s.ejectHead p = some h → p.pktType = 0x01 → p.mcast = false →
    s.awaitsSnoop p 115 p.payloadLen.toNat 1 = [] → s.tomb p.src p.opTag = none → s.refusedAt p = none →
    (s.entryFor p).counts.received.contains p.pktIndex.toNat = false → (s.entryFor p).counts.beyond p = false →
    s.windowError p 115 (bits p.typeWord 47 0 + p.opOffset.toNat) p.payloadLen.toNat 1 = none → sealOk p = true →
    Completes (exec (.putPacket p .ok) s) fun t =>
      (∃ e, t.openOp p.src p.opTag = some e ∧ e.counts = (s.entryFor p).counts.take p ∧
        e.closed = ((s.entryFor p).counts.take p).closes) ∧
      (Memory.wf s.mem = true → bit (s.window (s.targetInst p) (bits p.typeWord 59 48)) 113 = true →
        ∀ k b, p.payload[k]? = some b → memGet t.mem
          (bits (s.window (s.targetInst p) (bits p.typeWord 59 48)) 63 0 + (bits p.typeWord 47 0 + p.opOffset.toNat) + k) = b)) ∧
  (∀ (s : State) (p : Packet) (h n : Nat) (old : BitVec 128) (op : Bool) (acc : Access), s.ejectHead p = some h → p.pktType = 0x04 → p.mcast = false →
    s.tomb p.src p.opTag = none → s.refusedAt p = none →
    (s.entryFor p).counts.received.contains p.pktIndex.toNat = false → sealOk p = true → leAt p.payload 0 1 = 0x10 →
    atomicPair 0x10 (leAt p.payload 1 1) = true → bit p.opExt 14 = true →
    s.tallyNo (s.targetInst p) (bits p.opExt 13 0) = some n → (s.tally n).moving = none →
    Completes (exec (.atomicReq p old op acc) s) fun t =>
      (t.tally n).value = (s.tally n).value + BitVec.ofNat 64 (leAt p.payload 16 8) ∧
      ∃ e, t.openOp p.src p.opTag = some e ∧ e.closed = true) ∧
  (∀ (s : State) (p : Packet) (h : Nat) (old : BitVec 128) (op : Bool), s.ejectHead p = some h → p.pktType = 0x04 → p.mcast = false →
    s.tomb p.src p.opTag = none → s.refusedAt p = none →
    (s.entryFor p).counts.received.contains p.pktIndex.toNat = false → sealOk p = true → leAt p.payload 0 1 ≠ 0x10 →
    atomicPair (leAt p.payload 0 1) (leAt p.payload 1 1) = true → leAt p.payload 2 1 % 4 / 2 = 0 →
    s.awaitsSnoop p 116 (atypeSize (leAt p.payload 1 1)) (max 1 (atypeSize (leAt p.payload 1 1))) = [] →
    s.windowError p 116 (bits p.typeWord 47 0) (atypeSize (leAt p.payload 1 1)) (max 1 (atypeSize (leAt p.payload 1 1))) = none →
    bit (s.window (s.targetInst p) (bits p.typeWord 59 48)) 113 = false → s.canWrite (s.inst (s.targetInst p)).port.toNat = true →
    Completes (exec (.atomicReq p old op .ok) s) fun t =>
      Output.atomicWrite (s.inst (s.targetInst p)).port.toNat (s.targetInst p)
        (BitVec.ofNat 64 (bits (s.window (s.targetInst p) (bits p.typeWord 59 48)) 63 0 + bits p.typeWord 47 0))
        (atypeSize (leAt p.payload 1 1))
        (BitVec.ofNat 128 (atomicResult (leAt p.payload 0 1) (leAt p.payload 1 1) (old.toNat % 2 ^ (8 * atypeSize (leAt p.payload 1 1)))
          (leAt p.payload 16 16) (leAt p.payload 32 16))) (p.poisoned || op) ∈ t.out ∧
      ∃ e, t.openOp p.src p.opTag = some e ∧ e.closed = true ∧ e.result = if leAt p.payload 2 1 % 2 = 1 then
        some (BitVec.ofNat 128 (old.toNat % 2 ^ (8 * atypeSize (leAt p.payload 1 1)))) else none) ∧
  (∀ (s : State) (src : Endpoint) (tag : BitVec 32) (e : OpenOp), s.quench.halted = false → s.openOp src tag = some e → e.closed = true →
    e.req = none → (s.inst e.inst).epoch = e.epoch →
    Completes (exec (.operationEnd src tag) s) fun t => t.openOp src tag = none ∧
      ∃ b ∈ t.remote.tombs, b.src = src ∧ b.tag = tag ∧ b.status = e.counts.status) ∧
  (∀ (s : State) (src : Endpoint) (tag : BitVec 32) (now : Ticks) (b : Tomb), s.tomb src tag = some b →
    b.expires.toNat ≤ (s.advance now).time.now.toNat →
    Completes (exec (.tombstoneExpiry src tag now) s) fun t => t.tomb src tag = none) ∧
  (∀ (s : State) (src : Endpoint) (tag : BitVec 32) (now : Ticks) (e : OpenOp), s.openOp src tag = some e → e.closed = false →
    ms s.remote.openExpireMs.toNat ≤ ((s.advance now).time.now - e.lastAt).toNat →
    Completes (exec (.openEntryExpiry src tag now) s) fun t => t.openOp src tag = none ∧
      t.remote.expiredOpen = satInc s.remote.expiredOpen) ∧
  (∀ (s : State) (src : Endpoint) (tag : BitVec 32) (now : Ticks) (o : SrcOp), s.srcOp src tag = some o → o.kind = .put → o.mcast = true →
    o.held = false → o.npkts ≤ o.injected → o.rereads = [] → s.opQueued src tag = false → s.srcStale o = false →
    s.settle_ ≤ ((s.advance now).time.now - o.lastAt).toNat →
    Completes (exec (.multicastPutSettle src tag now) s) fun t => t.srcOp src tag = none)

/-- R570, R574-R577, R579, R594, R598: Drawing channels: allocation and freeing, stopping, the two ways to load a program, and the commit
of a program that is well formed. -/
def Obligations.DrawingChannelsComplete : Prop :=
  (∀ (s : State) (c : Call) (channel owner : Option Nat) (prio : BitVec 2) (i n : Nat), s.holder (s.authOf c.via) owner = some (some i) →
    (s.inst i).state ≠ .free → (s.chansOf i).length < s.grant i 4 → (s.chan n).state = .unallocated → (s.chan n).fenced = false →
    (channel = some n ∧ n < 256 ∨
      channel = none ∧ (List.range 256).find? (fun n => (s.chan n).state == .unallocated && !(s.chan n).fenced) = some n) →
    Does (.drawChannel c channel owner prio false) s (.res (leBytes 8 n)) fun u => (u.chan n).state = .idle ∧
      (u.chan n).owner = BitVec.ofNat 10 i ∧ (u.chan n).ownerKind = 0 ∧ (u.chan n).shadowGen = (s.chan n).shadowGen ∧
      ((s.authOf c.via).isM = true → (u.chan n).maxPrio = prio)) ∧
  (∀ (s : State) (c : Call) (owner : Option Nat) (prio : BitVec 2) (n : Nat), n < 256 → (s.chan n).state = .idle → (s.chan n).pending = none →
    (s.chan n).loading = none → s.reachesChan (s.authOf c.via) (s.chan n) = true →
    Does (.drawChannel c (some n) owner prio true) s (.res (leBytes 8 n)) fun u => (u.chan n).state = .unallocated) ∧
  (∀ (s : State) (c : Call) (n : Nat), n < 256 → (s.chan n).state ≠ .unallocated → s.reachesChan (s.authOf c.via) (s.chan n) = true →
    Does (.drawStop c n) s .ok fun u => (u.chan n).active = none ∧ (u.chan n).pending = none) ∧
  (∀ (s : State) (q : Nat) (w : Wq) (f : Fetched), s.startable q 0x08 = some (w, f) → lf f.line 208 48 = 0 → dFrag f.line = false →
    loadShape (drawArgs f.line) = true → (s.chan (drawArgs f.line).channel).state ≠ .unallocated →
    (s.chan (drawArgs f.line).channel).ownerKind = 0 → w.instOf = some (s.chan (drawArgs f.line).channel).owner.toNat →
    ((drawArgs f.line).replace = true ∨
      (s.chan (drawArgs f.line).channel).pending = none ∧ (s.chan (drawArgs f.line).channel).loading = none) →
    Completes (exec (.drawRun q) s) fun t => (t.chan (drawArgs f.line).channel).pending = none ∧
      ∃ l, (t.chan (drawArgs f.line).channel).loading = some l ∧ l.addr = dAddr f.line ∧ l.length = dLen f.line ∧ l.call = none ∧
        l.set.wq = some (q, f.index) ∧ l.set.bases = (drawArgs f.line).bases) ∧
  (∀ (s : State) (c : Call) (a : DrawLoadArgs) (cookie : Word), a.channel < 256 → (s.chan a.channel).state ≠ .unallocated →
    s.reachesChan (s.authOf c.via) (s.chan a.channel) = true → loadShape a = true → a.bases.length = 4 →
    (a.replace = true ∨ (s.chan a.channel).pending = none ∧ (s.chan a.channel).loading = none) →
    Does (.drawLoad c a none cookie) s .later fun u => (u.chan a.channel).pending = none ∧
      ∃ l, (u.chan a.channel).loading = some l ∧ l.addr = a.addr ∧ l.length = a.length ∧ l.call = some c ∧ l.set.bases = a.bases) ∧
  (∀ (s : State) (n : Nat) (l : DrawLoading) (bs : List Byte), s.quench.halted = false → (s.chan n).loading = some l → l.space = false →
    programBad (programOf (bs.take l.length)) = false → (programOf (bs.take l.length)).length * 16 = l.length →
    Completes (exec (.drawSetCommit n (.data bs false)) s) fun t => (t.chan n).loading = none ∧
      (t.chan n).shadowGen = (s.chan n).shadowGen + 1 ∧ ∃ x : DrawSet, x.program = programOf (bs.take l.length) ∧
        x.gen = (s.chan n).shadowGen + 1 ∧ x.bases = l.set.bases ∧
        if (s.chan n).state = .idle then (t.chan n).active = some x ∧ (t.chan n).pending = none ∧ (t.chan n).state = .running ∧ (t.chan n).pc = 0
        else (t.chan n).pending = some x ∧ (t.chan n).active = (s.chan n).active)

/-- R580, R581, R585-R591, R594: what each instruction of a running program does: MOVE, LOOP, WAIT, SIGNAL and END. A MOVE of no bytes
is passed over. A beat that R591 gives the channel moves one line: a read beat issues the line, which a channel's space 1 gives at once
and the host port is asked for, and the last one lets the next instruction begin; a write beat writes the next line in copy order.
Which channel has the beat is the model's rotation (log entry 130). -/
def Obligations.DrawingInstructionsRun : Prop :=
  (∀ (s : State) (n : Nat) (w : BitVec 128) (wr : Access), s.quench.halted = false → (s.chan n).state = .running →
    (s.chan n).current = some w → instrOp w = 1 → instrField w 88 29 = 0 →
    Completes (exec (.move n false wr) s) fun t => t.chan n = { s.chan n with pc := (s.chan n).pc + 1 }) ∧
  (∀ (s : State) (n p : Nat) (w : BitVec 128) (j : DrawJob) (wr : Access), s.quench.halted = false → (s.chan n).current = some w →
    instrField w 88 29 ≠ 0 → s.readJob (s.chan n) = some j → s.beatHeld (s.chan n) false = [] → s.beatPrio n (s.chan n) = some p →
    s.pickBeat false (s.eligible false) 4 = some n →
    Completes (exec (.move n false wr) s) fun t => tget t.draw.granted (beatKey false p) = some n ∧
      (t.chan n).pc = (if j.issued + 1 = j.srcLines then (s.chan n).pc + 1 else (s.chan n).pc) ∧
      (∃ x ∈ (t.chan n).jobs, x.seq = j.seq ∧ x.issued = j.issued + 1 ∧ x.src = j.src ∧ x.dst = j.dst ∧ x.n = j.n ∧
        (j.srcSpace = true → tget x.lines j.issued = some (s.space1Line (s.chan n) (j.srcAddr j.issued).toNat))) ∧
      (j.srcSpace = false → ∃ r ∈ (t.port (s.chanFn (s.chan n)).port).d2h ++ (t.port (s.chanFn (s.chan n)).port).d2hWait,
        r.tag = .draw n j.seq j.issued ∧ r.reads = [((s.chan n).domain, j.srcAddr j.issued, 64)])) ∧
  (∀ (s : State) (n : Nat) (x : DrawSet) (w : BitVec 128), (s.chan n).state = .running → (s.chan n).active = some x →
    (s.chan n).current = some w → instrOp w = 1 → instrField w 88 29 ≠ 0 → (s.chan n).jobs = [] →
    ∃ j, s.readJob (s.chan n) = some j ∧ j.issued = 0 ∧ j.n = instrField w 88 29 ∧
      j.src = x.bases.getD (instrField w 4 2) 0 + BitVec.ofNat 64 (instrField w 8 40) ∧
      j.dst = x.bases.getD (instrField w 6 2) 0 + BitVec.ofNat 64 (instrField w 48 40) ∧
      j.srcSpace = x.baseSpace.getLsbD (instrField w 4 2) ∧ j.dstSpace = x.baseSpace.getLsbD (instrField w 6 2)) ∧
  (∀ (s : State) (n p : Nat) (j : DrawJob), s.quench.halted = false → (s.chan n).writeJob = some j → j.firstBad = none →
    s.beatHeld (s.chan n) true = [] → s.beatPrio n (s.chan n) = some p → s.pickBeat true (s.eligible true) 4 = some n →
    (j.dstSpace = true → (j.dst + BitVec.ofNat 64 j.part.1).toNat + (j.part.2 - j.part.1) ≤ s.space1Bytes (s.chan n)) →
    Completes (exec (.move n true .ok) s) fun t => tget t.draw.granted (beatKey true p) = some n ∧
      (t.chan n).bytes = (s.chan n).bytes + BitVec.ofNat 64 (j.part.2 - j.part.1) ∧ (t.chan n).pc = (s.chan n).pc ∧
      (if j.written + 1 = j.dstLines then ∀ x ∈ (t.chan n).jobs, x.seq ≠ j.seq
       else ∃ x ∈ (t.chan n).jobs, x.seq = j.seq ∧ x.written = j.written + 1) ∧
      (j.dstSpace = false → s.canWrite (s.chanFn (s.chan n)).port = true →
        ∀ x ∈ lineWrites (j.dst + BitVec.ofNat 64 j.part.1).toNat ((List.range (j.part.2 - j.part.1)).map fun i => j.byte (j.part.1 + i)),
          Output.hostWrite (s.chanFn (s.chan n)).port (s.chan n).domain (BitVec.ofNat 64 x.1) x.2.1 x.2.2 false ∈ t.out) ∧
      (j.dstSpace = true → Memory.wf s.mem = true → ∀ i, i < j.part.2 - j.part.1 →
        memGet t.mem (s.space1 (s.chan n) ((j.dst + BitVec.ofNat 64 j.part.1).toNat + i)) = j.byte (j.part.1 + i))) ∧
  (∀ (s : State) (n : Nat) (x : DrawSet) (w : BitVec 128), s.quench.halted = false → (s.chan n).state = .running →
    (s.chan n).active = some x → (s.chan n).current = some w → instrOp w = 2 → (∀ e ∈ (s.chan n).loops.head?, e.1 ≠ (s.chan n).pc.toNat) →
    (s.chan n).loops.length < 4 → 2 ≤ instrField w 12 32 →
    Completes (exec (.loop n) s) fun t => (t.chan n).pc = BitVec.ofNat 8 (instrField w 4 8) ∧
      (t.chan n).loops = ((s.chan n).pc.toNat, instrField w 12 32 - 2) :: (s.chan n).loops) ∧
  (∀ (s : State) (n : Nat) (x : DrawSet) (w : BitVec 128) (e : Nat × Nat) (es : List (Nat × Nat)), s.quench.halted = false →
    (s.chan n).state = .running → (s.chan n).active = some x → (s.chan n).current = some w → instrOp w = 2 →
    (s.chan n).loops = e :: es → e.1 = (s.chan n).pc.toNat →
    Completes (exec (.loop n) s) fun t => if e.2 = 0 then (t.chan n).pc = (s.chan n).pc + 1 ∧ (t.chan n).loops = es
      else (t.chan n).pc = BitVec.ofNat 8 (instrField w 4 8) ∧ (t.chan n).loops = (e.1, e.2 - 1) :: es) ∧
  (∀ (s : State) (n : Nat) (w : BitVec 128), s.quench.halted = false → (s.chan n).state = .running → (s.chan n).current = some w →
    instrOp w = 3 → (instrKind w = 0 ∧ (∃ k, ((s.chan n).instOf.bind fun i => s.tallyNo i (instrTarget w)) = some k ∧
      (s.tally k).moving = none ∧ reached (s.tally k).value (instrValue w) = true) ∨
      instrKind w = 1 ∧ (instrValue w).toNat ≤ s.time.now.toNat ∨
      instrKind w = 2 ∧ (s.vise (instrTarget w % 4096)).owner = 0 ∧ s.viseScope (s.vise (instrTarget w % 4096)) (idChan n) = true) →
    Completes (exec (.wait n) s) fun t => (t.chan n).state = .running ∧ (t.chan n).pc = (s.chan n).pc + 1 ∧
      (instrKind w = 2 → (t.vise (instrTarget w % 4096)).owner = idChan n)) ∧
  (∀ (s : State) (n : Nat) (w : BitVec 128), s.quench.halted = false → (s.chan n).state = .running → (s.chan n).current = some w →
    instrOp w = 3 → instrKind w = 1 → s.time.now.toNat < (instrValue w).toNat →
    Completes (exec (.wait n) s) fun t => t.chan n = { s.chan n with state := .waiting, waitSince := s.time.now }) ∧
  (∀ (s : State) (n : Nat) (w : BitVec 128) (now : Ticks), s.quench.halted = false → (s.chan n).state = .waiting →
    (s.chan n).current = some w → instrOp w = 3 → instrKind w = 1 → (instrValue w).toNat ≤ (s.advance now).time.now.toNat →
    Completes (exec (.drawWaitInstant n now) s) fun t => t.chan n = (s.chan n).goOn) ∧
  (∀ (s : State) (n : Nat) (w : BitVec 128) (now : Ticks), s.quench.halted = false → (s.chan n).state = .waiting →
    (s.chan n).current = some w → instrOp w = 3 → instrKind w ≠ 1 → instrField w 32 32 ≠ 0 →
    us (instrField w 32 32) ≤ ((s.advance now).time.now - (s.chan n).waitSince).toNat → (s.chan n).pending = none → (s.chan n).jobs = [] →
    Completes (exec (.drawWaitTimeout n now) s) fun t => (t.chan n).state = .idle ∧ (t.chan n).active = none) ∧
  (∀ (s : State) (n k : Nat) (w : BitVec 128), s.quench.halted = false → ((s.chan n).state = .running ∨ (s.chan n).state = .signalWait) →
    (s.chan n).current = some w → (s.chan n).jobs = [] → instrOp w = 4 → instrKind w = 0 → ((s.chan n).instOf.bind fun i => s.tallyNo i (instrTarget w)) = some k → (s.tally k).moving = none →
    Completes (exec (.signal n) s) fun t => t.chan n = (s.chan n).goOn ∧ (t.tally k).value = (s.tally k).value + instrValue w) ∧
  (∀ (s : State) (n : Nat) (w : BitVec 128), s.quench.halted = false → ((s.chan n).state = .running ∨ (s.chan n).state = .signalWait) →
    (s.chan n).current = some w → (s.chan n).jobs = [] → instrOp w = 4 → (instrKind w = 1 ∧ instrTarget w < s.msixSize (s.chanFn (s.chan n)) ∨
      instrKind w = 2 ∧ (∃ q, s.cq (instrTarget w) = some q ∧ q.inst = (s.chan n).instOf ∧
        ((s.chan n).ownerKind = 1 → q.owner = s.chanFn (s.chan n)) ∧ q.mayFetch = true) ∧
        (∀ e ∈ s.matching.ctxs, e.2.notify ≠ some (BitVec.ofNat 14 (instrTarget w))) ∨
      instrKind w = 3 ∧ (s.vise (instrTarget w % 4096)).owner = idChan n ∧ (s.vise (instrTarget w % 4096)).waiters = []) →
    Completes (exec (.signal n) s) fun t => t.chan n = (s.chan n).goOn ∧
      (instrKind w = 3 → (t.vise (instrTarget w % 4096)).owner = 0)) ∧
  (∀ (s : State) (n : Nat) (w : BitVec 128), s.quench.halted = false → (s.chan n).state = .running → (s.chan n).current = some w →
    instrOp w = 5 → (s.chan n).jobs = [] → Completes (exec (.endProg n) s) fun t => (t.chan n).active = (s.chan n).pending ∧ (t.chan n).pending = none ∧
      (t.chan n).state = (if (s.chan n).pending.isSome then .running else .idle) ∧ ((s.chan n).pending.isSome = true → (t.chan n).pc = 0))

/-- R648-R656: vises: a free vise is owned by whoever claims it within its scope, one that is owned keeps its owner and the claimer
waits; a release hands over to the first waiter. -/
def Obligations.VisesComplete : Prop :=
  (∀ (s : State) (c : Call) (v : Nat), v < 4096 → s.viseScope (s.vise v) (s.callerIdentity c.via) = true →
    Does (.viseClaim c v) s (.res (leBytes 8 (if (s.vise v).owner = 0 then s.callerIdentity c.via else (s.vise v).owner).toNat ++
      leBytes 8 (bnat (s.vise v).broken))) fun u =>
      (u.vise v).owner = if (s.vise v).owner = 0 then s.callerIdentity c.via else (s.vise v).owner) ∧
  (∀ (s : State) (c : Call) (v : Nat), v < 4096 → (s.vise v).owner = s.callerIdentity c.via → s.callerIdentity c.via ≠ 0 →
    Does (.viseRelease c v) s .ok fun u => (u.vise v).owner = ((s.vise v).waiters.head?.map (·.1)).getD 0 ∧ (u.vise v).broken = false ∧
      (u.vise v).waiters = (s.vise v).waiters.drop 1) ∧
  (∀ (s : State) (v : Nat) (word : Word), v < 4096 → bit word 16 = false → s.viseScope (s.vise v) (BitVec.ofNat 16 (bits word 15 0)) = true →
    (s.vise v).owner = 0 →
    Completes (exec (.viseClaimWrite (BitVec.ofNat 16 (bits word 15 0)) v word) s) fun t => t.vise v =
      { s.vise v with owner := BitVec.ofNat 16 (bits word 15 0), ownPrio := BitVec.ofNat 2 (bits word 19 18) }) ∧
  (∀ (s : State) (v : Nat) (word : Word), v < 4096 → bit word 16 = false → bit word 17 = true →
    s.viseScope (s.vise v) (BitVec.ofNat 16 (bits word 15 0)) = true → (s.vise v).owner ≠ 0 →
    (s.vise v).owner ≠ BitVec.ofNat 16 (bits word 15 0) → (∀ w ∈ (s.vise v).waiters, w.1 ≠ BitVec.ofNat 16 (bits word 15 0)) →
    Completes (exec (.viseClaimWrite (BitVec.ofNat 16 (bits word 15 0)) v word) s) fun t => t.vise v =
      { s.vise v with waiters := insertWaiter (BitVec.ofNat 16 (bits word 15 0)) (BitVec.ofNat 2 (bits word 19 18)) (s.vise v).waiters }) ∧
  (∀ (s : State) (v : Nat) (word : Word), v < 4096 → bit word 16 = true → (s.vise v).owner = BitVec.ofNat 16 (bits word 15 0) →
    (s.vise v).owner ≠ 0 →
    Completes (exec (.viseReleaseWrite (BitVec.ofNat 16 (bits word 15 0)) v word) s) fun t =>
      (t.vise v).owner = ((s.vise v).waiters.head?.map (·.1)).getD 0 ∧ (t.vise v).broken = false ∧
      (t.vise v).waiters = (s.vise v).waiters.drop 1)

/-- R337, R338, R340, R379: the commands on matching contexts. -/
def Obligations.ContextCommandsComplete : Prop :=
  (∀ (s : State) (c : Call) (inst notify : Option Nat) (slot postedMax unexpMax : Nat) (cookie area : Word)
    (areaLen cellLimit moduleLimit i : Nat) (r : Reply), s.forInst (s.authOf c.via) inst = (some i, r) → slot < 64 → 1 ≤ postedMax →
    postedMax ≤ 67108864 → 1 ≤ unexpMax → unexpMax ≤ 4194304 → (∀ k, notify = some k → k < Config.queueCount) → area.toNat % 4096 = 0 →
    areaLen % 4096 = 0 → areaLen ≤ 2 ^ 34 → s.ctx (i * 64 + slot) = none →
    (∀ k, notify = some k → ∃ x, s.cq k = some x ∧ x.inst = some i) → (∀ k, notify = some k → ∀ e ∈ s.wqs, e.2.cq.toNat ≠ k) →
    s.ctxsOf i < s.grant i 2 →
    Does (.ctxCreate c inst slot postedMax unexpMax notify cookie area areaLen cellLimit moduleLimit) s (.res (leBytes 8 (i * 64 + slot)))
      fun u => ∃ x, u.ctx (i * 64 + slot) = some x ∧ x.state = 1 ∧ x.postedMax = BitVec.ofNat 27 postedMax ∧
        x.unexpMax = BitVec.ofNat 23 unexpMax ∧ x.cookie = cookie ∧ x.notify = notify.map (BitVec.ofNat 14 ·) ∧ x.hostArea = area ∧
        x.hostAreaLen = areaLen ∧ x.cellLimit = cellLimit ∧ x.moduleLimit = moduleLimit ∧ x.posted = [] ∧ x.unexp = []) ∧
  (∀ (s : State) (c : Call) (inst : Option Nat) (slot i : Nat) (r : Reply) (x : Ctx), s.forInst (s.authOf c.via) inst = (some i, r) →
    slot < 64 → s.ctx (i * 64 + slot) = some x → x.state ≠ 3 → x.held = [] →
    Does (.ctxDestroy c inst slot) s .ok fun u => if x.active = [] then u.ctx (i * 64 + slot) = none
      else ∃ y, u.ctx (i * 64 + slot) = some y ∧ y.state = 3 ∧ y.posted = [] ∧ y.unexp = [] ∧ y.claimed = [] ∧ y.active = x.active) ∧
  (∀ (s : State) (c : Call) (word : Word) (ic : Option (Nat × Word)), 10 ≤ bits word 13 0 → bits word 13 0 ≤ 10000 → 1 ≤ bits word 27 14 →
    bits word 27 14 ≤ 10000 → bits word 43 28 ≤ 4096 → bits word 59 44 ≤ 8192 → bits word 63 60 = 0 →
    (∀ i w, ic = some (i, w) → i < 1024 ∧ bits w 16 0 ≤ 65536 ∧ bits w 63 17 = 0) →
    Does (.matchCfg c word ic) s .ok fun u => u.matching.orderWaitUs = BitVec.ofNat 14 (bits word 13 0) ∧
      u.matching.orderAbandonMs = BitVec.ofNat 14 (bits word 27 14) ∧ u.matching.postedSpillMib = BitVec.ofNat 16 (bits word 43 28) ∧
      u.matching.unexpPoolMib = BitVec.ofNat 16 (bits word 59 44) ∧
      ∀ i w, ic = some (i, w) → tgetD u.matching.eagerLimit i 0x2000 = BitVec.ofNat 17 (bits w 16 0))

/-- R341-R343, R347, R349, R351, R355, R358, R366, R371, R372, R376: messages: a send, a receive, a cancellation, the order stage. -/
def Obligations.MessagesMatch : Prop :=
  (∀ (s : State) (q : Nat) (w : Wq) (f : Fetched) (i : Nat), s.startable q 4 = some (w, f) → lf f.line 285 3 = 0 → lf f.line 294 2 ≠ 3 →
    lf f.line 297 7 = 0 → lf f.line 304 208 = 0 → s.unreachable (BitVec.ofNat 29 (lf f.line 256 29)) false = false → w.instOf = some i →
    Completes (exec (.msgSend q) s) fun t => tgetD t.remote.opTags i 0 = tgetD s.remote.opTags i 0 + 1 ∧
      ∃ o ∈ t.remote.srcOps, o.src = endpointOf s.routing.moduleId (s.inst i).port.toNat i ∧ o.tag = tgetD s.remote.opTags i 0 ∧
        o.kind = .msgSend ∧ o.dst = BitVec.ofNat 29 (lf f.line 256 29) ∧ o.tc = BitVec.ofNat 2 (lf f.line 294 2) ∧ o.wq = q ∧
        o.length = dLen f.line ∧
        o.rdv = (bit f.line 296 || decide ((tgetD s.matching.eagerLimit i 0x2000).toNat < dLen f.line))) ∧
  (∀ (s : State) (q : Nat) (acc : Access) (w : Wq) (f : Fetched) (i : Nat) (c : Ctx), s.startable q 5 = some (w, f) →
    recvBad f.line = none → dFrag f.line = false → rMode f.line ≠ 3 → w.instOf = some i → s.ctx (i * 64 + lf f.line 384 6) = some c →
    c.state ≠ 3 → c.moving = none → (rMode f.line = 0 → (((s.started q).modCtx (i * 64 + lf f.line 384 6)
      fun c => { c with steps := c.steps + 1 }).post (i * 64 + lf f.line 384 6) c
        (s.recvOf q w f [(dAddr f.line, dLen f.line)])).isSome = true) →
    (c.unexp.find? fun m => matchesRecv m.matchBits m.src (s.recvOf q w f [(dAddr f.line, dLen f.line)])) = none →
    ∃ (u : State) (d : Nat), exec (.msgRecv q acc) s = .next (if rMode f.line = 0 then u.letIn acc (u.heldCount + 1) else u) ∧
      u.ctx (i * 64 + lf f.line 384 6) = some { c with
        steps := c.steps + 1
        posted := if rMode f.line = 0 then c.posted ++ [s.recvOf q w f [(dAddr f.line, dLen f.line)]] else c.posted
        onDie := d } ∧ (d = c.onDie ∨ rMode f.line = 0 ∧ c.onDie = c.posted.length ∧ d = c.onDie + 1)) ∧
  (∀ (s : State) (q k : Nat) (w w2 : Wq) (f : Fetched) (c : Ctx) (r : Recv), s.startable q 6 = some (w, f) → lf f.line 206 18 = 0 →
    s.onItsWay q (lf f.line 192 14) (BitVec.ofNat 32 (lf f.line 224 32)) = false →
    (∀ e ∈ s.matching.ctxs, e.2.holdsRecv (lf f.line 192 14) (BitVec.ofNat 32 (lf f.line 224 32)) = false) →
    lf f.line 256 256 = 0 → dLen f.line = 0 → dAddr f.line = 0 → dFrag f.line = false → s.wq (lf f.line 192 14) = some w2 →
    w2.owner = w.owner → (s.matching.ctxs.find? fun e => e.2.posted.any fun r => r.wq == lf f.line 192 14 &&
      r.index == BitVec.ofNat 32 (lf f.line 224 32)) = some (k, c) → s.ctx k = some c → c.moving = none →
    (c.posted.find? fun r => r.wq == lf f.line 192 14 && r.index == BitVec.ofNat 32 (lf f.line 224 32)) = some r →
    Completes (exec (.msgCancel q) s) fun t => ∃ d, t.ctx k = some { c with posted := c.posted.erase r, steps := c.steps + 1, onDie := d }) ∧
  (∀ (s : State) (p : Packet) (h : Nat) (acc : Access) (i : Instr) (c : Ctx), s.ejectHead p = some h →
    (i = .msgEager p acc ∧ p.pktType = 0x06 ∨ i = .msgRts p ∧ p.pktType = 0x07) → p.mcast = false → sealOk p = true →
    s.tomb p.src p.opTag = none → s.refusedAt p = none → s.ctx (ctxKey p) = some c → c.state ≠ 3 →
    c.moving = none → c.knows p.src p.opTag = false → (c.posted.find? fun r => matchesRecv p.typeWord p.src r) = none →
    s.blocked (ctxKey p) [p] = false → (∀ w ∈ s.waits, waitCtx w ≠ ctxKey p) →
    s.orderEntry (streamOf p) = none → bits p.opExt 8 0 = 0 →
    Completes (exec i s) fun t => ∃ x, t.ctx (ctxKey p) = some x ∧ ∃ m ∈ x.unexp, m.src = p.src ∧ m.tag = p.opTag ∧
      m.matchBits = p.typeWord) ∧
  (∀ (s : State) (p : Packet) (h : Nat) (acc : Access) (i : Instr), s.ejectHead p = some h →
    (i = .msgEager p acc ∧ p.pktType = 0x06 ∨ i = .msgRts p ∧ p.pktType = 0x07) → p.mcast = false → sealOk p = true →
    s.tomb p.src p.opTag = none → s.refusedAt p = none → s.holdFull (ctxKey p) = false →
    s.orderEntry (streamOf p) = none → bits p.opExt 8 0 ≠ 0 →
    Completes (exec i s) fun t => ∃ e, t.orderEntry (streamOf p) = some e ∧ e.lastRel = none ∧ ∃ x, e.held = [x] ∧ x.packets = [p] ∧
      x.key = p.e2eSeq - p.pktIndex.zeroExtend 32) ∧
  (∀ (s : State) (key : StreamKey) (order : BitVec 32) (now : Ticks) (e : OrderEntry) (h : HeldMsg), s.orderEntry key = some e →
    (e.held.find? fun h => h.key == order && !h.released) = some h →
    us s.matching.orderWaitUs.toNat ≤ ((s.advance now).time.now - h.queried).toNat →
    Completes (exec (.orderQueryTimer key order now) s) fun t => ∃ e', t.orderEntry key = some e' ∧
      ∃ x ∈ e'.held, x.key = order ∧ x.packets = h.packets ∧ x.queried = (s.advance now).time.now) ∧
  (∀ (s : State) (key : StreamKey) (order : BitVec 32) (now : Ticks) (e : OrderEntry) (h : HeldMsg), s.orderEntry key = some e →
    (e.held.find? fun h => h.key == order && !h.released) = some h →
    ms s.matching.orderAbandonMs.toNat ≤ ((s.advance now).time.now - h.since).toNat →
    Completes (exec (.orderAbandon key order now) s) fun t => ∃ e', t.orderEntry key = some e' ∧ ∀ x ∈ e'.held, x.key ≠ order)

/-- R345, R387, R392, R396, R411, R414, R415, R324, R743: a remote read is taken and answered; answers count, and the last one completes the
operation; a timeout completes it without one; a payload read that returns sends its packet on. -/
def Obligations.AnswersComplete : Prop :=
  (∀ (s : State) (p : Packet) (h : Nat), s.ejectHead p = some h → p.pktType = 0x02 → p.mcast = false → s.getHeld p = [] →
    s.tomb p.src p.opTag = none → s.refusedAt p = none → bit p.typeWord 63 = false →
    s.windowError p 114 (bits p.typeWord 47 0) (getLen p) 1 = none → (s.entryFor p).counts.received.contains 0 = false → sealOk p = true →
    Completes (exec (.getReq p .ok) s) fun t => ∃ e, t.openOp p.src p.opTag = some e ∧ e.closed = true ∧ e.req = some p ∧
      e.counts.err = (s.entryFor p).counts.err ∧ e.counts.bytes = getLen p) ∧
  (∀ (s : State) (p : Packet) (h : Nat) (o : SrcOp), s.ejectHead p = some h → p.pktType = 0x03 → p.mcast = false →
    s.srcOp p.dst p.opTag = some o → s.srcStale o = false → o.kind = .get → o.counts.received.contains p.pktIndex.toNat = false →
    o.counts.beyond p = false → sealOk p = true →
    Completes (exec (.getResp p .ok) s) fun t => if (o.counts.take p).closes then t.srcOp p.dst p.opTag = none
      else ∃ o', t.srcOp p.dst p.opTag = some o' ∧ o'.counts = o.counts.take p) ∧
  (∀ (s : State) (p : Packet) (h : Nat) (acc : Access) (o : SrcOp), s.ejectHead p = some h → p.pktType = 0x05 → p.mcast = false →
    s.srcOp p.dst p.opTag = some o → s.srcStale o = false → o.kind = .atomic → bit o.line 344 = true → sealOk p = true →
    Completes (exec (.atomicResp p acc) s) fun t => t.srcOp p.dst p.opTag = none) ∧
  (∀ (s : State) (p : Packet) (h : Nat) (o : SrcOp), s.ejectHead p = some h → p.pktType = 0x08 → p.mcast = false → sealOk p = true →
    s.srcOp p.dst p.opTag = some o → s.srcStale o = false → bit p.typeWord 10 = false →
    (o.kind = .put ∨ o.kind = .get ∨ o.kind = .atomic ∨ o.kind = .tallyAdd ∨ o.kind = .msgSend ∧ bit p.typeWord 8 = false) → o.mcast = false →
    Completes (exec (.response p) s) fun t => t.srcOp p.dst p.opTag = none) ∧
  (∀ (s : State) (src : Endpoint) (tag : BitVec 32) (now : Ticks) (o : SrcOp), s.srcOp src tag = some o → s.srcStale o = false →
    o.kind ≠ .rdvRead → o.mcast = false → o.held = false → o.npkts ≤ o.injected →
    1 ≤ (if o.kind = .msgSend then s.remote.msgTimeoutMs else s.remote.opTimeoutMs).toNat →
    ms (if o.kind = .msgSend then s.remote.msgTimeoutMs else s.remote.opTimeoutMs).toNat ≤ ((s.advance now).time.now - o.lastAt).toNat →
    Completes (exec (.opTimeout src tag now) s) fun t => t.srcOp src tag = none) ∧
  (∀ (s : State) (port : Nat) (src : Endpoint) (tag : BitVec 32) (i : BitVec 16) (bs : List Byte) (poisoned : Bool) (o : SrcOp),
    (∃ r ∈ (s.port port).d2h, r.tag = .payload src tag i) → s.srcOp src tag = some o → s.srcStale o = false →
    o.rereads.contains i.toNat = false →
    Completes (exec (.payloadReadReturn port (.payload src tag i) (.data bs poisoned)) s) fun t => ∃ o', t.srcOp src tag = some o' ∧
      o'.next = (if o.next < o.npkts ∧ i.toNat + 1 = o.next then o.next + 1 else o.next) ∧
      (o.kind = .atomic → o'.operand = bs)) ∧
  (∀ (s : State) (p : Packet), s.quench.halted = false → s.hasArrival p = true → p.pktType = 0x12 → p.payload.length = 64 →
    Completes (exec (.fault p) s) fun t => Output.report p ∈ t.out ∧ t.remote = s.remote) ∧
  (∀ (s : State) (p : Packet) (o : SrcOp), s.quench.halted = false → s.hasArrival p = true → p.pktType = 0x12 → p.payload.length ≠ 64 →
    (leAt p.payload 0 1 = 1 ∨ leAt p.payload 0 1 = 3) → leAt p.payload 3 1 % 32 ∉ [3, 5, 8, 9] →
    s.srcOp (BitVec.ofNat 29 (leAt p.payload 4 4)) (BitVec.ofNat 32 (leAt p.payload 8 4)) = some o → s.srcStale o = false →
    leAt p.payload 12 2 < o.npkts → tgetD o.resends (leAt p.payload 12 2) 0 < s.remote.resendMax.toNat →
    Completes (exec (.fault p) s) fun t => ∃ o', t.srcOp o.src o.tag = some o' ∧
      tgetD o'.resends (leAt p.payload 12 2) 0 = tgetD o.resends (leAt p.payload 12 2) 0 + 1)

/-- R436-R441, R447, R467, R468, R470: collectives at a member module: a descriptor takes part under the group's next operation; its
contribution is read at start_at; a result segment that arrives is kept, and written at release_at; a stall is reported. -/
def Obligations.CollectivesRun : Prop :=
  (∀ (s : State) (q : Nat) (w : Wq) (f : Fetched) (i r k : Nat) (g : Group), s.startable q 7 = some (w, f) → w.instOf = some i →
    collReserved f.line = false → collBadReduction f.line = false →
    s.groupRec (BitVec.ofNat 24 (lf f.line 192 24)) = some (r, g) → tget s.coll.groups r = some g →
    g.rank (endpointOf s.routing.moduleId (s.inst i).port.toNat i) = some k → g.state ≠ 3 → collLengths f.line k g.members.length = true →
    g.openCount < Config.openCollMax →
    1 + ((g.op (tgetD g.memberSeq i 0)).map (·.parts.length)).getD 0 <
      (g.ranksOn s.routing.moduleId).2 - (g.ranksOn s.routing.moduleId).1 →
    (∀ o, g.op (tgetD g.memberSeq i 0) = some o → o.status = 0 ∧ ∀ x, o.params = some x → x = collParams f.line) →
    Completes (exec (.collective q) s) fun t => ∃ g' o p, t.collOp r (tgetD g.memberSeq i 0) = some (g', o) ∧
      tgetD g'.memberSeq i 0 = tgetD g.memberSeq i 0 + 1 ∧ o.params = some (collParams f.line) ∧ p ∈ o.parts ∧ p.inst = i ∧ p.rank = k ∧
      p.wq = q ∧ p.line = f.line ∧ p.done = false) ∧
  (∀ (s : State) (group : BitVec 24) (seq : BitVec 16) (i r : Nat) (now : Ticks) (bs : List Byte) (poisoned : Bool) (g : Group) (o : CollOp)
    (p : CollPart) (w : Wq), s.quench.halted = false → s.groupRec group = some (r, g) → tget s.coll.groups r = some g → g.op seq = some o →
    (o.parts.find? fun p => p.inst == i) = some p → p.read = false → p.done = false →
    (s.advance now).instantCome (startAt p.line) = true → (s.inst i).epoch = p.epoch → s.wq p.wq = some w → o.status = 0 →
    o.parts.length < (g.ranksOn s.routing.moduleId).2 - (g.ranksOn s.routing.moduleId).1 →
    Completes (exec (.collStartAt group seq i now (.data bs poisoned)) s) fun t => ∃ g' o' p', t.collOp r seq = some (g', o') ∧
      p' ∈ o'.parts ∧ p'.inst = i ∧ p'.read = true ∧
      p'.data = sliceBytes (if dLen p.line = 0 then [] else bs) 0 (dLen p.line)) ∧
  (∀ (s : State) (group : BitVec 24) (seq : BitVec 16) (i r key seg : Nat) (now : Ticks) (g : Group) (o : CollOp) (p : CollPart)
    (par : CollParams) (fin : CollFinal), s.quench.halted = false → s.groupRec group = some (r, g) →
    tget s.coll.groups r = some g → g.op seq = some o → (o.parts.find? fun p => p.inst == i) = some p → o.params = some par →
    o.finals = [(key, fin)] → (∀ x ∈ fin.arrived, sealOk x = true) → partSeg par p key = some seg → p.done = false → p.got = [] →
    (s.advance now).instantCome (releaseAt p.line) = true → par.resultSegs g.members.length ≠ 1 →
    Completes (exec (.collReleaseAt group seq i now .ok) s) fun t => ∃ g' o' p', t.collOp r seq = some (g', o') ∧ p' ∈ o'.parts ∧
      p'.inst = i ∧ p'.got = [seg] ∧ p'.done = false ∧ p'.written = p.written + (partBytes par o.parts p seg fin.bytes).length) ∧
  (∀ (s : State) (p : Packet) (r : Nat) (acc : Access) (g : Group) (o : CollOp) (par x : CollParams), s.quench.halted = false →
    s.hasArrival p = true → p.pktType = 0x09 → p.coll = some par → par.status = 0 → sealOk p = true →
    s.groupRec (BitVec.ofNat 24 (bits p.typeWord 23 0)) = some (r, g) → tget s.coll.groups r = some g → g.state ≠ 3 → p.tc = g.tc →
    g.op (BitVec.ofNat 16 (bits p.typeWord 39 24)) = some o → o.slot = bit p.typeWord 40 →
    g.closed.contains (BitVec.ofNat 16 (bits p.typeWord 39 24)) = false →
    bits p.typeWord 43 41 = 1 → (p.mcast = true ∨ g.tree o.slot ≠ 0) → o.params = some x → o.parts ≠ [] →
    (∀ y ∈ o.parts, y.done = false ∧ s.instantCome (releaseAt y.line) = false) → tget o.finals (bits p.typeWord 63 48) = none →
    Completes (exec (.collData p acc) s) fun t => ∃ g' o', t.collOp r (BitVec.ofNat 16 (bits p.typeWord 39 24)) = some (g', o') ∧
      tget o'.finals (bits p.typeWord 63 48) = some { bytes := p.payload, poisoned := p.poisoned, arrived := [p] } ∧ o'.resultAt = s.time.now ∧ o'.parts = o.parts) ∧
  (∀ (s : State) (group : BitVec 24) (seq : BitVec 16) (r : Nat) (now : Ticks) (g : Group) (o : CollOp), s.quench.halted = false →
    s.groupRec group = some (r, g) → tget s.coll.groups r = some g → g.op seq = some o → o.contributed = true →
    (∃ p ∈ o.parts, p.done = false) → us s.coll.timeoutUs.toNat ≤ ((s.advance now).time.now - o.startedAt).toNat →
    Completes (exec (.collTimeout group seq now) s) fun t => t.coll.stallReports = satInc s.coll.stallReports ∧
      ∃ g' o', t.collOp r seq = some (g', o') ∧ o'.stalled = true ∧ o'.startedAt = (s.advance now).time.now)

/-- R430-R432, R435, R478, R492: the commands on groups, and the comparison of a shape's cost. -/
def Obligations.GroupCommandsComplete : Prop :=
  (∀ (s : State) (c : Call) (group : BitVec 24) (addr : Word) (count r : Nat) (tc : BitVec 2) (a b : BitVec 13) (hint : Option ModId)
    (fan : Nat) (pinned : Bool) (list : List Nat), group ≠ 0 → 1 ≤ count → count ≤ 524288 → addr.toNat % 4096 = 0 →
    addr.toNat + 4 * count ≤ Config.memBytes → list = ((List.range count).map fun i => leNat (memRead s.mem (addr.toNat + 4 * i) 4)) →
    ((list.zip (list.drop 1)).all fun e => e.1 < e.2) = true →
    (∀ v ∈ list, v < 2 ^ 29 ∧ s.routing.valid (addrModule (BitVec.ofNat 29 v)) = true) →
    (∃ v ∈ list, addrModule (BitVec.ofNat 29 v) = s.routing.moduleId) → tc ≠ 3 → 2 ≤ fan → fan ≤ 64 →
    (a = 0 ∧ b = 0 ∨ a ≠ 0 ∧ b ≠ 0 ∧ a ≠ b) → s.groupRec group = none → freeKey s.coll.groups Config.groupMax = some r →
    Does (.groupCreate c group addr count tc a b hint fan pinned) s .later fun u => ∃ g, tget u.coll.groups r = some g ∧ g.group = group ∧
      g.members = list.map (BitVec.ofNat 29 ·) ∧ g.coordinator = true ∧ g.coord = s.routing.moduleId ∧ g.tc = tc ∧ g.treeA = a ∧ g.treeB = b ∧
      g.fanMax = fan ∧ g.pinned = pinned ∧ g.pendingCall = some c) ∧
  (∀ (s : State) (c : Call) (group : BitVec 24) (r : Nat) (g : Group), s.groupRec group = some (r, g) → g.coordinator = true →
    g.pendingCall = none → Does (.groupDestroy c group) s .ok fun u => u.coll = s.coll) ∧
  (∀ (s : State) (c : Call) (word : Word), 10 ≤ bits word 19 0 → bits word 19 0 ≤ 1000000 → bits word 35 20 ≤ 8192 → bits word 63 36 = 0 →
    Does (.collCfg c word) s .ok fun u => u.coll.timeoutUs = BitVec.ofNat 20 (bits word 19 0) ∧
      u.coll.storeMib = BitVec.ofNat 16 (bits word 35 20)) ∧
  (∀ (s : State) (group : BitVec 24) (now : Ticks) (cost r : Nat) (g : Group), s.groupRec group = some (r, g) →
    tget s.coll.groups r = some g → s.quench.halted = false → g.coordinator = true → g.pinned = false → g.state = 1 → g.placing = 0 →
    g.installing = [] → s.striker.frozen = false → g.better = 0 →
    Completes (exec (.shapeCompare group now cost) s) fun t => ∃ g', tget t.coll.groups r = some g' ∧ g'.nodes0 = g.nodes0 ∧
      g'.nodes1 = g.nodes1 ∧
      g'.better = bnat (decide (cost * 100 ≤ g.liveCost * (100 - s.striker.replaceMarginPct.toNat)) && decide (cost < g.liveCost)))

/-- R432-R435, R450, R463, R470-R473: what each COLL_CTRL packet does where it is taken. -/
def Obligations.CollectiveControlCompletes : Prop :=
  (∀ (s : State) (p : Packet) (c : CollCtrl) (ins : CollInstall) (r : Nat), s.CtrlTaken p 0x0 c → c.install = some ins →
    s.absentMember ins.members = none →
    ((∃ g, s.groupRec c.group = some (r, g)) ∨ s.groupRec c.group = none ∧ freeKey s.coll.groups Config.groupMax = some r) →
    Completes (exec (.collInstall p) s) fun t => ∃ g', tget t.coll.groups r = some g' ∧ g'.nodes ins.slot = ins.nodes ∧
      g'.newest = ins.slot ∧ (s.groupRec c.group = none → g'.group = c.group ∧ g'.members = ins.members ∧ g'.coord = ins.coord ∧ g'.tc = ins.tc)) ∧
  (∀ (s : State) (p : Packet) (c : CollCtrl) (r : Nat) (g : Group), s.CtrlTaken p 0x1 c → s.groupRec c.group = some (r, g) →
    tget s.coll.groups r = some g →
    Completes (exec (.collSwitch p) s) fun t => ∃ g', tget t.coll.groups r = some g' ∧ g'.switchAt = some (c.opSeq, c.slot) ∧
      g'.slotFor c.opSeq = c.slot ∧ g'.slotFor (c.opSeq - 1) = g.slotFor (c.opSeq - 1)) ∧
  (∀ (s : State) (p : Packet) (c : CollCtrl) (r : Nat) (g : Group), s.CtrlTaken p 0x2 c → s.groupRec c.group = some (r, g) →
    g.coordinator = true → Completes (exec (.collStall p) s) fun t => t.coll.stallReports = satInc s.coll.stallReports) ∧
  (∀ (s : State) (p : Packet) (c : CollCtrl) (r : Nat) (g : Group), s.CtrlTaken p 0x3 c → s.groupRec c.group = some (r, g) →
    Completes (exec (.collProbe p) s) fun t => t.coll = s.coll ∧
      t = (s.takeArrival p).sendCtrl (addrModule p.src) { ctrlOf 0x4 c.group c.opSeq with
        modules := awaited g s.routing.moduleId (((g.op c.opSeq).map (·.slot)).getD (g.slotFor c.opSeq)) (g.op c.opSeq) }) ∧
  (∀ (s : State) (p : Packet) (c : CollCtrl) (r : Nat) (g : Group) (o : CollOp), s.CtrlTaken p 0x4 c → s.groupRec c.group = some (r, g) →
    tget s.coll.groups r = some g → g.coordinator = true → c.ack = none → g.op c.opSeq = some o →
    (∀ m ∈ c.modules, s.fencedTo m = false) →
    Completes (exec (.collProbeAnswer p) s) fun t => ∃ g' o', t.collOp r c.opSeq = some (g', o') ∧
      o'.probes = o.probes ++ (c.modules.eraseDups).filter fun m => !o.probes.contains m) ∧
  (∀ (s : State) (p : Packet) (c : CollCtrl) (r : Nat) (g : Group), s.CtrlTaken p 0x5 c → s.groupRec c.group = some (r, g) →
    tget s.coll.groups r = some g → g.rc.toNat < c.rc.toNat → (∀ o ∈ g.ops, serialLe c.opSeq o.seq = false) →
    Completes (exec (.collRestart p) s) fun t => t.coll.restarts = satInc s.coll.restarts ∧ tget t.coll.groups r = some { g with
      rc := c.rc, slot := c.slot, switchAt := none, state := if g.state = 2 then 1 else g.state }) ∧
  (∀ (s : State) (p : Packet) (c : CollCtrl) (r : Nat) (g : Group), s.CtrlTaken p 0x6 c → s.groupRec c.group = some (r, g) →
    g.op c.opSeq = none →
    Completes (exec (.collFinalQuery p) s) fun t => t.coll = s.coll ∧
      t = (s.takeArrival p).sendCtrl (addrModule p.src) { ctrlOf 0x7 c.group c.opSeq with segs := [] }) ∧
  (∀ (s : State) (p : Packet) (c : CollCtrl) (r : Nat) (g : Group), s.CtrlTaken p 0x7 c → s.groupRec c.group = some (r, g) →
    tget s.coll.groups r = some g → c.modules = [] → g.coordinator = true → g.recoverSeq = c.opSeq →
    addrModule p.src ∈ g.finalsDue → (∃ m ∈ g.finalsDue, m ≠ addrModule p.src) →
    Completes (exec (.collFinalAnswer p) s) fun t => tget t.coll.groups r = some { g with
      finalsDue := g.finalsDue.filter (· != addrModule p.src), finalsHeld := g.finalsHeld ++ [(addrModule p.src, c.segs)] }) ∧
  (∀ (s : State) (p : Packet) (c : CollCtrl) (r : Nat) (g : Group), s.CtrlTaken p 0x8 c → s.groupRec c.group = some (r, g) →
    tget s.coll.groups r = some g → g.state ≠ 3 →
    Completes (exec (.collAbort p) s) fun t => ∃ g', tget t.coll.groups r = some g' ∧ g'.state = 3 ∧ g'.ops = [] ∧ g'.group = g.group ∧
      g'.members = g.members) ∧
  (∀ (s : State) (p : Packet) (c : CollCtrl) (r d : Nat) (g : Group) (o : CollOp) (n x y : CollNode), s.CtrlTaken p 0x9 c →
    s.groupRec c.group = some (r, g) → tget s.coll.groups r = some g → g.op c.opSeq = some o →
    ((numbered (g.nodes o.slot)).find? fun e => e.2.module == addrModule p.src && !o.doneFrom.contains e.1 &&
      (e.2.parent.bind fun q => ((g.nodes o.slot)[q]?).map (·.module)) == some s.routing.moduleId) = some (d, n) →
    (g.nodes o.slot)[d]? = some x → (∃ q, x.parent = some q ∧ (g.nodes o.slot)[q]? = some y) → y.module = s.routing.moduleId →
    (∃ k ∈ y.children, k ∉ nset o.doneFrom d) →
    Completes (exec (.collDone p) s) fun t => ∃ g' o', t.collOp r c.opSeq = some (g', o') ∧ o'.doneFrom = nset o.doneFrom d) ∧
  (∀ (s : State) (p : Packet) (c : CollCtrl) (r : Nat) (g : Group), s.CtrlTaken p 0xa c → s.groupRec c.group = some (r, g) →
    tget s.coll.groups r = some g →
    Completes (exec (.collClose p) s) fun t => ∃ g', tget t.coll.groups r = some g' ∧ g'.closed.head? = some c.opSeq ∧
      ∀ o ∈ g'.ops, o ∈ g.ops ∧ (o.seq = c.opSeq → ∃ x ∈ o.parts, x.done = false)) ∧
  (∀ (s : State) (p : Packet) (c : CollCtrl) (r : Nat) (g : Group), s.CtrlTaken p 0xb c → s.groupRec c.group = some (r, g) →
    Completes (exec (.collDestroy p) s) fun t => tget t.coll.groups r = none)

/-- R493, R505, R506, R490: the commands on placement: hints, the placement log, the placement summary, STRIKER.CFG. -/
def Obligations.PlacementCommandsComplete : Prop :=
  (∀ (s : State) (c : Call) (k : Nat) (x : Ctx) (h : Hint), ((s.authOf c.via).isM = true ∨ s.authOf c.via = .inst (k / 64)) →
    s.ctx k = some x → x.state ≠ 3 →
    ((∃ n, h = .pinCell k (some n) ∧ n < 4096 ∧ (s.cell n).role = 1 ∧ (s.cell n).state ≠ 2) ∨ h = .pinCell k none ∨
      (∃ m, h = .quadrantMask k m ∧ m ≠ 0) ∨ (∃ on, h = .noMigrate k on) ∨ ∃ a b, h = .tierLimits k a b) →
    Does (.placeHint c h) s .ok fun u => ∃ y, u.ctx k = some y ∧ y.posted = x.posted ∧ y.unexp = x.unexp ∧
      y.pin = (match h with | .pinCell _ n => n | _ => x.pin) ∧
      y.quadMask = (match h with | .quadrantMask _ m => m | _ => x.quadMask) ∧
      y.noMigrate = (match h with | .noMigrate _ on => on | _ => x.noMigrate) ∧
      (y.cellLimit, y.moduleLimit) = (match h with | .tierLimits _ a b => (a, b) | _ => (x.cellLimit, x.moduleLimit))) ∧
  (∀ (s : State) (c : Call) (t : Nat) (home : BitVec 2), (s.tally t).allocated = true →
    ((s.authOf c.via).isM = true ∨ s.authOf c.via = .inst (s.tally t).inst.toNat) → home ≠ 3 →
    Does (.placeHint c (.tallyHome t home)) s .ok fun u => u.tally t = { s.tally t with home }) ∧
  (∀ (s : State) (c : Call) (n : Nat), (s.authOf c.via).isM = true → n < 4096 → (s.cell n).state ≠ 2 → (s.cell n).objects ≠ 0 →
    Does (.placeHint c (.drainCell n)) s .ok fun u => (u.cell n).drain = true ∧ (u.cell n).role = (s.cell n).role) ∧
  (∀ (s : State) (c : Call) (g : BitVec 24) (hint : Option ModId) (fan : Nat) (pinned : Bool) (r : Nat) (x : Group),
    (s.authOf c.via).isM = true → 2 ≤ fan → fan ≤ 64 → s.groupRec g = some (r, x) → tget s.coll.groups r = some x → x.coordinator = true →
    Does (.placeHint c (.group g hint fan pinned)) s .ok fun u =>
      tget u.coll.groups r = some { x with rootHint := hint, fanMax := fan, pinned }) ∧
  (∀ (s : State) (c : Call) (enable : Bool), (enable = true → s.striker.logRing.isSome = true) →
    Does (.placeLog c enable 0) s (.res (leBytes 8 ((s.striker.logRing.map (·.1)).getD 0))) fun u =>
      u.striker = { s.striker with logEnable := enable }) ∧
  (∀ (s : State) (c : Call) (enable : Bool) (k o : Nat), s.striker.logRing = none →
    (s.allocArea c.via (64 + 32 * 2 ^ k)).map (·.1) = some o →
    Does (.placeLog c enable (2 ^ k)) s (.res (leBytes 8 o)) fun u => u.striker.logEnable = enable ∧
      u.striker.logRing = some (o, 2 ^ k) ∧ u.striker.log = [] ∧
      ∃ a ∈ u.hearth.areas, a.owner = c.via ∧ a.offset = o ∧ a.length = 64 + 32 * 2 ^ k) ∧
  (∀ (s : State) (c : Call), Does (.placeSummary c) s (.res s.summaryBytes) fun u => u.striker = s.striker) ∧
  (∀ (s : State) (c : Call) (word : Word), 10 ≤ bits word 9 0 → bits word 9 0 ≤ 1000 → 1 ≤ bits word 16 10 → bits word 16 10 ≤ 100 →
    bits word 23 17 < bits word 16 10 → 1 ≤ bits word 45 32 → bits word 45 32 ≤ 10000 → 1 ≤ bits word 52 46 → bits word 52 46 ≤ 100 →
    bits word 59 53 ≤ 100 → bits word 63 60 = 0 →
    Does (.strikerCfg c word) s .ok fun u => u.striker.periodUs = BitVec.ofNat 10 (bits word 9 0) ∧
      u.striker.hotPct = BitVec.ofNat 7 (bits word 16 10) ∧ u.striker.coolPct = BitVec.ofNat 7 (bits word 23 17) ∧
      u.striker.migPerEpoch = BitVec.ofNat 8 (bits word 31 24) ∧ u.striker.minDwellMs = BitVec.ofNat 14 (bits word 45 32) ∧
      u.striker.replaceMarginPct = BitVec.ofNat 7 (bits word 52 46) ∧ u.striker.reservePct = BitVec.ofNat 7 (bits word 59 53))

/-- R484, R488-R490, R496, R501, R504, R729: what the placement engine does: epochs, migrations, demotions, Tally moves, a cell's self-test and its
replacement, a summary that does not come. -/
def Obligations.PlacementRuns : Prop :=
  (∀ (s : State) (now : Ticks) (busy free : List (Nat × Nat)), s.quench.halted = false →
    s.striker.epochLast.toNat / us s.striker.periodUs.toNat < (s.advance now).time.now.toNat / us s.striker.periodUs.toNat →
    Completes (exec (.placementEpoch now busy free) s) fun t => t.striker.epochLast = (s.advance now).time.now ∧
      ((∀ e ∈ s.striker.cells, e.2.drain = false) → t.striker.frozen = (s.striker.frozen && !s.striker.running))) ∧
  (∀ (s : State) (k d : Nat) (c : Ctx), s.ctx k = some c → c.moving = some d → c.held = [] → s.quench.halted = false →
    (s.cell c.homeCell.toNat).state ≠ 2 → (s.cell d).state ≠ 2 →
    Completes (exec (.migrationCommit k true) s) fun t => t.striker.migrations = satInc s.striker.migrations ∧
      ∃ e, t.ctx k = some { c with homeCell := BitVec.ofNat 12 d, moving := none, placedAt := s.time.now, onDie := e }) ∧
  (∀ (s : State) (k : Nat) (c : Ctx) (src : Endpoint) (tag : BitVec 32) (m : Msg), s.quench.halted = false → s.ctx k = some c → c.demoting = some (src, tag) →
    (c.unexp.find? fun m => sameMsg m src tag) = some m → bit c.grants 1 = true →
    (s.modCtx k fun c => { c with demoting := none }).tierTakes c 1 (sumOf (m.packets.map fun p => p.payloadLen.toNat)) = true →
    Completes (exec (.demotionCommit k) s) fun t => ∃ c', t.ctx k = some c' ∧ ∃ x ∈ c'.unexp, sameMsg x src tag = true ∧ x.tier = 1 ∧
      x.hostAt = [] ∧ x.packets = m.packets) ∧
  (∀ (s : State) (n d : Nat), s.quench.halted = false → (s.tally n).moving = some d → (∀ e, d = e + 1 → (s.cell e).state ≠ 2) →
    (s.tally n).heldAdds = [] →
    Completes (exec (.tallyMoveCommit n) s) fun t => t.tally n = { s.tally n with
      moving := none, cell := if d = 0 then none else some (d - 1), cellTier := decide (d ≠ 0) }) ∧
  (∀ (s : State) (m : ModId), m ∈ s.striker.queried → (∀ e ∈ s.coll.groups, m ∉ e.2.waiting) →
    Completes (exec (.placementSummaryTimeout m) s) fun t =>
      t.striker = { s.striker with queried := s.striker.queried.filter (· != m) }) ∧
  (∀ (s : State) (n : Nat), (s.cell n).testing = true →
    Completes (exec (.cellSelfTestEnd n true) s) fun t => (t.cell n).state = 0 ∧ (t.cell n).role = 0 ∧ (t.cell n).testing = false) ∧
  (∀ (s : State) (n : Nat), (s.cell n).testing = true →
    Completes (exec (.cellSelfTestEnd n false) s) fun t => t.cell n = { s.cell n with testing := false }) ∧
  (∀ (s : State) (n sp : Nat) (lc lt : List Nat) (lp : List (Nat × BitVec 16)), tget s.striker.substituting n = some sp → sp ≠ 4096 → sp ≠ n →
    Completes (exec (.substitutionCopyComplete n lc lt lp) s) fun t => tget t.striker.substituting n = none ∧
      t.striker.substitutions = satInc s.striker.substitutions ∧ (t.cell sp).role = (s.cell n).role ∧ (t.cell sp).state = 1 ∧
      (t.cell n).role = 0 ∧ (t.cell n).objects = 0)

/-- R194, R195, R381, R542-R544, R548, R547, R561-R565: commands on an instance: creation, binding, grants, shaping, windows, the
dirty-page log. -/
def Obligations.InstanceCommandsComplete : Prop :=
  (∀ (s : State) (c : Call) (port i : Nat) (inst : Option Nat) (grants : List Nat) (shaping : List Word) (cls : BitVec 4) (limit : Nat),
    port < 4 → (inst = some i ∧ i < 1024 ∨ inst = none ∧ (List.range 1024).find? (fun i => (s.inst i).state == .free) = some i) →
    (s.inst i).state = .free → (∀ w ∈ shaping, badShaping w = false) → limit ≤ 65536 →
    s.grantsFail port (fun _ => 0) (numbered grants ++ if grants.length ≤ 8 then [(8, 1)] else []) = none →
    ((numbered ((List.range 3).map fun t => shaping.getD t 0x0000010000000000)).find? fun e =>
      decide (s.pool 9 < s.sharesUsed e.1 + shapeShare e.2)) = none →
    Does (.instCreate c port inst grants shaping cls limit) s (.res (leBytes 8 i)) fun u => (u.inst i).state = .closed ∧
      (u.inst i).port = BitVec.ofNat 2 port ∧ (u.inst i).epoch = (s.inst i).epoch ∧ (u.inst i).bound = false ∧
      tgetD u.time.admission i 0 = cls ∧ tgetD u.matching.eagerLimit i 0x2000 = BitVec.ofNat 17 limit ∧
      ∀ k v, grants[k]? = some v → u.grant i k = v) ∧
  (∀ (s : State) (c : Call) (i vectors : Nat) (vf : Option Nat), i < 1024 → ((s.inst i).state = .closed ∨ (s.inst i).state = .held) →
    (∀ v, vf = some v → v < 256 ∧ 1 ≤ vectors ∧ vectors ≤ 256 ∧ vectors ≤ s.grant i 8 ∧
      ∀ j, s.boundInst (s.inst i).port.toNat v = some j → j = i) →
    Does (.instBind c i vf vectors) s .ok fun u => (u.inst i).bound = vf.isSome ∧ (u.inst i).vf = BitVec.ofNat 8 (vf.getD 0) ∧
      (u.inst i).state = if (s.inst i).state = .closed then .active else .held) ∧
  (∀ (s : State) (c : Call) (i row v : Nat), i < 1024 → (s.inst i).state ≠ .free → row < 9 →
    s.grantsFail (s.inst i).port.toNat (s.grant i) [(row, v)] = none → (v < s.grant i row → s.used i row ≤ v) →
    Does (.instGrant c i [(row, v)]) s .ok fun u => u.grant i row = v ∧ ∀ r < 9, r ≠ row → u.grant i r = s.grant i r) ∧
  (∀ (s : State) (c : Call) (i cls : Nat) (entry : Word), i < 1024 → cls < 3 → badShaping entry = false → (s.inst i).state ≠ .free →
    s.shareFails i (9 + cls, shapeShare entry) = none →
    Does (.shaping c i cls entry) s .ok fun u => u.sched.shape i cls = entry) ∧
  (∀ (s : State) (c : Call) (inst : Option Nat) (window i : Nat) (entry : BitVec 256) (r : Reply),
    s.forInst (s.authOf c.via) inst = (some i, r) → window < 4096 → bits entry 127 118 = 0 → bits entry 159 157 = 0 →
    bits entry 255 189 = 0 → bits entry 63 0 % 64 = 0 → 1 ≤ bits entry 112 64 → bits entry 112 64 ≤ 2 ^ 48 →
    (bit entry 113 = true → bits entry 63 0 + bits entry 112 64 ≤ Config.memBytes ∧
      ∀ g, bits entry 63 0 / Config.segBytes ≤ g → g ≤ (bits entry 63 0 + bits entry 112 64 - 1) / Config.segBytes →
        g ∈ (s.inst i).segments) →
    Does (.windowWrite c inst window entry) s .ok fun u => u.window i window = entry) ∧
  (∀ (s : State) (c : Call) (i k : Nat) (mode : BitVec 2) (base va : Word) (clear : Bool), i < 1024 →
    s.reaches (s.authOf c.via) i = true → (s.inst i).state ≠ .free → mode ≠ 3 → (mode = 1 → 19 ≤ k ∧ k ≤ 37) → (mode = 2 → 6 ≤ k ∧ k ≤ 20) →
    (mode = 1 → base.toNat % 4096 = 0 ∧ va.toNat % (4096 * 2 ^ k) = 0) →
    Does (.dirtyLog c i mode base k va clear) s .ok fun u => (u.inst i).logMode = mode ∧ (u.inst i).logBase = base ∧
      (k < 64 → (u.inst i).logK.toNat = k) ∧ (u.inst i).vaBase = (if mode = 1 then va else 0) ∧
      (u.inst i).overflow = ((s.inst i).overflow && !clear) ∧ (u.inst i).state = (s.inst i).state) ∧
  (∀ (s : State) (c : Call) (i : Nat), i < 1024 → s.reaches (s.authOf c.via) i = true → (s.inst i).state ≠ .free →
    Does (.dirtyFlush c i) s .ok fun u => u.insts = s.insts)

/-- R546, R552-R559, R566-R568, R819: an instance's life: reset, reopening, destruction, quiescing, its image; and the ends of those that
take time. -/
def Obligations.InstanceLifeCompletes : Prop :=
  (∀ (s : State) (c : Call) (word : Word), bits word 63 10 = 0 → (s.inst (bits word 9 0)).state ∈ [IState.closed, .active, .held, .frozen] →
    (∀ e ∈ s.coll.groups, endpointOf s.routing.moduleId (s.inst (bits word 9 0)).port.toNat (bits word 9 0) ∉ e.2.members) →
    Does (.instReset c word) s .later fun u => (u.inst (bits word 9 0)).state = .resetting ∧ (u.inst (bits word 9 0)).cause = 4 ∧
      (u.inst (bits word 9 0)).calls = [(c, 0x0304)] ∧ (u.inst (bits word 9 0)).epoch = (s.inst (bits word 9 0)).epoch) ∧
  (∀ (s : State) (c : Call) (word : Word), bits word 31 10 = 0 → bits word 63 48 = 0 → s.reaches (s.authOf c.via) (bits word 9 0) = true →
    Does (.instQuery c word) s (.res (s.instResult (bits word 9 0) (bits word 47 32))) fun u => u.insts = s.insts) ∧
  (∀ (s : State) (c : Call) (i : Nat), i < 1024 → s.reaches (s.authOf c.via) i = true → (s.inst i).state = .held →
    Does (.instReopen c i) s .ok fun u => (u.inst i).state = .active) ∧
  (∀ (s : State) (c : Call) (i : Nat), i < 1024 → (s.inst i).state ∈ [IState.closed, .active, .held, .frozen] →
    (∀ e ∈ s.coll.groups, endpointOf s.routing.moduleId (s.inst i).port.toNat i ∉ e.2.members) →
    Does (.instDestroy c i) s .later fun u => (u.inst i).state = .resetting ∧ (u.inst i).cause = 5 ∧ (u.inst i).destroy = true ∧
      (u.inst i).calls = [(c, 0x0307)]) ∧
  (∀ (s : State) (c : Call) (i : Nat), i < 1024 → (s.inst i).state = .active →
    Does (.instQuiesce c i) s .later fun u => (u.inst i).quiescing = true ∧ (c, 0x0308) ∈ (u.inst i).calls ∧
      ∀ q w, s.wq q = some w → w.instOf = some i → w.destroying = false → u.wq q = some { w with state := .fenced, wbDirty := true }) ∧
  (∀ (s : State) (c : Call) (i : Nat), i < 1024 → (s.inst i).state = .frozen →
    Does (.instExport c i) s (match (s.allocArea c.via (Config.imageBytes (s.image i)).length).map (·.1) with
      | none => .pool 0xff
      | some o => .res (leBytes 8 o ++ leBytes 8 (Config.imageBytes (s.image i)).length)) fun u =>
      Memory.wf s.mem = true → ∀ o, (s.allocArea c.via (Config.imageBytes (s.image i)).length).map (·.1) = some o →
        ∀ k b, (Config.imageBytes (s.image i))[k]? = some b → memGet u.mem (reportBase + o + k) = b) ∧
  (∀ (s : State) (c : Call) (i : Nat) (ref : DataRef), i < 1024 → s.refOk c.via ref = true → (s.inst i).state = .closed →
    Does (.instImport c i ref) s (match Config.imageOf (s.refBytes ref) with
      | none => .bad 1
      | some m => match (List.range 8).find? fun r => decide (s.grant i r < m.uses r) with
        | some r => .grant r
        | none => match (numbered m.shaping).findSome? fun e => s.shareFails i (9 + e.1, shapeShare e.2) with
          | some r => r
          | none => if s.imageClash m then .err eWrongState else .ok) fun u =>
      ∀ m, Config.imageOf (s.refBytes ref) = some m → (∀ r < 8, m.uses r ≤ s.grant i r) →
        (∀ e ∈ numbered m.shaping, s.shareFails i (9 + e.1, shapeShare e.2) = none) → s.imageClash m = false →
        (u.inst i).state = .held) ∧
  (∀ (s : State) (i : Nat), (s.inst i).state = .resetting → (s.inst i).sweeping = false → s.inFlight i = 0 → (s.inst i).destroy = false →
    Completes (exec (.instanceResetEnd i) s) fun t => (t.inst i).state = .held ∧ (t.inst i).epoch = (s.inst i).epoch + 1 ∧
      (t.inst i).timedOut = false ∧ (t.inst i).sweeping = true) ∧
  (∀ (s : State) (i : Nat) (now : Ticks), (s.inst i).state = .resetting → (s.inst i).sweeping = false → (s.inst i).destroy = false →
    us 100 ≤ ((s.advance now).time.now - (s.inst i).since).toNat →
    Completes (exec (.instanceResetTimeout i now) s) fun t => (t.inst i).state = .held ∧ (t.inst i).epoch = (s.inst i).epoch + 1 ∧
      (t.inst i).timedOut = true ∧ (t.inst i).sweeping = true) ∧
  (∀ (s : State) (i : Nat), (s.inst i).sweeping = true →
    Completes (exec (.epochSweepEnd i) s) fun t => (t.inst i).sweeping = false ∧
      ∀ o ∈ t.remote.srcOps, o ∈ s.remote.srcOps ∧ (o.inst = i → o.epoch = (s.inst i).epoch)) ∧
  (∀ (s : State) (i : Nat), (s.inst i).quiescing = true → s.inFlight i = 0 →
    Completes (exec (.instanceQuiesceComplete i) s) fun t => (t.inst i).state = .frozen ∧ (t.inst i).quiescing = false ∧
      (t.inst i).calls = [])

/-- R265, R627-R629, R200-R202: areas of the report segment, staging buffers, the sampled queues. -/
def Obligations.BuffersComplete : Prop :=
  (∀ (s : State) (c : Call) (offset : BitVec 32) (n : Nat) (a : Area), 1 ≤ n → n ≤ 992 → a ∈ s.hearth.areas →
    sameArrival a.owner c.via = true → a.offset ≤ offset.toNat → offset.toNat + n ≤ a.offset + a.length →
    Does (.reportRead c offset n) s (.res (memRead s.mem (reportBase + offset.toNat) n)) fun u => u.mem = s.mem) ∧
  (∀ (s : State) (c : Call) (mib h o : Nat), 1 ≤ mib → mib ≤ 64 → freeKey s.hearth.staging 32 = some h →
    firstFit (s.hearth.staging.map fun e => (e.2.addr - stagingBase, e.2.mib * 1048576)) 1048576 Config.segBytes (mib * 1048576) = some o →
    Does (.stageOpen c mib) s (.res (leBytes 8 h ++ leBytes 8 (stagingBase + o))) fun u =>
      tget u.hearth.staging h = some { owner := c.via, addr := stagingBase + o, mib }) ∧
  (∀ (s : State) (c : Call) (h : Nat) (offset : BitVec 32) (data : List Byte) (b : Staging), s.buffer c.via h = some b → data ≠ [] →
    data.length ≤ 1000 → offset.toNat + data.length ≤ b.mib * 1048576 →
    Does (.stageWrite c h offset data) s .ok fun u => Memory.wf s.mem = true →
      ∀ k x, data[k]? = some x → memGet u.mem (b.addr + offset.toNat + k) = x) ∧
  (∀ (s : State) (c : Call) (h : Nat) (b : Staging), s.buffer c.via h = some b →
    Does (.stageClose c h) s .ok fun u => tget u.hearth.staging h = none) ∧
  (∀ (s : State) (c : Call) (qs : List (BitVec 32)) (ns : Nat) (enable : Bool), (∀ q ∈ qs, qidOk q = true) → 1000 ≤ ns →
    ns ≤ 1000000000 → (enable = true → s.sched.sampleRing.isSome = true) →
    Does (.sampling c qs ns enable 0) s (.res (leBytes 8 ((s.sched.sampleRing.map (·.1)).getD 0) ++ leBytes 8 s.sched.sampleLost)) fun u =>
      u.sched.sampleQueues = qs ∧ u.sched.epochNs = BitVec.ofNat 30 ns ∧ u.sched.sampleEnable = enable ∧
      u.sched.sampleRing = s.sched.sampleRing) ∧
  (∀ (s : State) (c : Call) (qs : List (BitVec 32)) (ns : Nat) (enable : Bool) (n o : Nat), (∀ q ∈ qs, qidOk q = true) → 1000 ≤ ns →
    ns ≤ 1000000000 → n ≠ 0 → s.sched.sampleRing = none → (s.allocArea c.via (32 * n)).map (·.1) = some o →
    Does (.sampling c qs ns enable n) s (.res (leBytes 8 o ++ leBytes 8 s.sched.sampleLost)) fun u =>
      u.sched.sampleQueues = qs ∧ u.sched.sampleRing = some (o, n) ∧ u.sched.sampleLost = 0 ∧ u.sched.sampleEnable = enable)

/-- R41, R49-R51, R57, R122-R125, R137, R152, R159, R169, R175, R814: the fabric manager's commands on identity, wiring, routing and flow. -/
def Obligations.RoutingCommandsComplete : Prop :=
  (∀ (s : State) (c : Call) (id : ModId) (p g m ws wg : Nat), (s.hearth.mode = .hearthBoot ∨ s.hearth.mode = .linkBringup) →
    shapeOk (p + 1) (g + 1) (m + 1) ws wg = true → idValidIn (p + 1) (g + 1) (m + 1) id = true →
    Does (.machineIdentity c id p g m ws wg) s .ok fun u => u.routing.idValid = true ∧ u.routing.moduleId = id ∧
      u.routing.pMinus1 = BitVec.ofNat 8 p ∧ u.routing.gMinus1 = BitVec.ofNat 5 g ∧ u.routing.mMinus1 = BitVec.ofNat 4 m ∧
      u.routing.ws = BitVec.ofNat 9 ws ∧ u.routing.wg = BitVec.ofNat 14 wg ∧ u.routing.activeGen = 1 ∧ u.routing.declared = [] ∧
      u.routing.holes = []) ∧
  (∀ (s : State) (c : Call) (word : Word), s.routing.idValid = true → bits word 5 0 ≠ 63 → bits word 63 30 = 0 →
    (bit word 29 = true → bits word 22 6 = 0 ∧ bits word 28 23 = 0) →
    (bit word 29 = false → s.routing.valid (BitVec.ofNat 17 (bits word 22 6)) = true ∧ bits word 28 23 ≠ 63) →
    Does (.portReassign c word) s .ok fun u => tget u.routing.declared (bits word 5 0) =
      some (if bit word 29 then Declared.unwired else .link (BitVec.ofNat 17 (bits word 22 6)) (bits word 28 23))) ∧
  (∀ (s : State) (c : Call) (first count : Nat) (set : Bool), 1 ≤ count → count ≤ 4096 → first + count ≤ 131072 →
    Does (.holeSet c first count set) s .ok fun u => ∀ m, first ≤ m → m < first + count → (tget u.routing.holes m).isSome = set) ∧
  (∀ (s : State) (c : Call) (gen : BitVec 32) (ref : DataRef), s.refOk c.via ref = true → ref.len = 9728 →
    gen = s.routing.activeGen + 1 → s.routing.otherBank ≠ .retiring → s.routing.swapScheduled = false →
    s.routing.checkBank (s.refBytes ref) = none →
    Does (.routeLoad c gen false ref) s .ok fun u => u.routing.otherBank = .pending ∧
      u.routing.bank (!s.routing.activeBank) = bankOf gen (s.refBytes ref) ∧ u.routing.activeGen = s.routing.activeGen ∧
      u.routing.bank s.routing.activeBank = s.routing.bank s.routing.activeBank) ∧
  (∀ (s : State) (c : Call) (gen : BitVec 32) (ref : DataRef), s.refOk c.via ref = true → ref.len = 9728 →
    (s.hearth.mode = .linkBringup ∨ isService s.hearth.mode = true) → s.routing.swapScheduled = false → gen ≠ s.routing.activeGen →
    s.routing.checkBank (s.refBytes ref) = none →
    Does (.routeLoad c gen true ref) s .ok fun u => u.routing.activeGen = gen ∧ u.routing.activeBank = bit gen 0 ∧
      u.routing.otherBank = .empty ∧ u.routing.bank (bit gen 0) = bankOf gen (s.refBytes ref)) ∧
  (∀ (s : State) (c : Call) (gen : BitVec 32) (at_ : Ticks), s.routing.otherBank = .pending →
    (s.routing.bank !s.routing.activeBank).gen = s.routing.activeGen + 1 → gen = s.routing.activeGen + 1 → s.tooSoon at_ = false →
    s.routing.swapScheduled = false →
    Does (.routeSwap c gen at_ false) s .ok fun u => u.routing = { s.routing with
      swapScheduled := true, swapMissed := false, swapAt := at_, swapGen := gen }) ∧
  (∀ (s : State) (c : Call) (gen : BitVec 32) (at_ : Ticks), s.routing.swapScheduled = true → gen = s.routing.swapGen →
    Does (.routeSwap c gen at_ true) s .ok fun u => u.routing = { s.routing with swapScheduled := false }) ∧
  (∀ (s : State) (c : Call) (d e : Word), bits d 7 0 ≠ 0 → bits d 13 12 ≠ 3 → bits d 15 14 ≠ 3 → bits d 17 16 ≠ 3 → 10 ≤ bits d 29 18 →
    bits d 63 30 = 0 → 2 ≤ bits e 13 0 → bits e 13 0 ≤ 10000 → bits e 21 14 ≠ 0 → bits e 63 22 = 0 →
    Does (.routeCfg c d e) s .ok fun u => u.routing.routeWaitUs = BitVec.ofNat 8 (bits d 7 0) ∧
      u.routing.nmBias = BitVec.ofNat 4 (bits d 11 8) ∧ u.routing.modeTc0 = BitVec.ofNat 2 (bits d 13 12) ∧
      u.routing.modeTc1 = BitVec.ofNat 2 (bits d 15 14) ∧ u.routing.modeTc2 = BitVec.ofNat 2 (bits d 17 16) ∧
      u.routing.retireUs = BitVec.ofNat 12 (bits d 29 18) ∧ u.routing.timeoutUs = BitVec.ofNat 14 (bits e 13 0) ∧
      u.routing.resendLimit = BitVec.ofNat 8 (bits e 21 14)) ∧
  (∀ (s : State) (c : Call) (tree : Nat) (entry : BitVec 128), tree ≠ 0 → tree < 8192 → bits entry 127 93 = 0 →
    Does (.treeWrite c tree entry) s .ok fun u => tget u.routing.trees tree = some entry) ∧
  (∀ (s : State) (c : Call) (tile : Option Nat) (credit bellows sched : Word), (∀ t, tile = some t → t < 64) → 259 ≤ bits credit 9 0 →
    bits credit 9 0 ≤ bits credit 24 10 → bits credit 24 10 + 31 * bits credit 9 0 ≤ 32768 → bits credit 63 33 = 0 → 1 ≤ bits bellows 3 0 →
    bits bellows 3 0 ≤ 14 → bits bellows 3 0 < bits bellows 7 4 → 1 ≤ bits bellows 14 8 → bits bellows 14 8 ≤ 64 → bits bellows 63 15 = 0 →
    bits sched 7 0 ≠ 0 → bits sched 15 8 ≠ 0 → bits sched 31 16 ≤ 8192 → bits sched 63 32 = 0 →
    Does (.flowCfg c tile credit bellows sched) s .ok fun u => u.sched.onLevel = BitVec.ofNat 4 (bits bellows 3 0) ∧
      u.sched.hardLevel = BitVec.ofNat 4 (bits bellows 7 4) ∧ u.sched.minFactor = BitVec.ofNat 7 (bits bellows 14 8) ∧
      u.sched.tc0Weight = BitVec.ofNat 8 (bits sched 7 0) ∧ u.sched.tc1Weight = BitVec.ofNat 8 (bits sched 15 8) ∧
      ∀ t, (tile = some t ∨ tile = none ∧ t < 64) → (u.tile t).nextCredit =
        some (BitVec.ofNat 10 (bits credit 9 0), BitVec.ofNat 15 (bits credit 24 10), BitVec.ofNat 8 (bits credit 32 25)))

/-- R153, R230, R236, R238, R239, R244, R246, R640: the fabric manager's commands on Machine Time and Strokes. -/
def Obligations.TimeCommandsComplete : Prop :=
  (∀ (s : State) (c : Call) (seconds : Word), s.time.parent = none → s.time.refValid = true → s.routing.idValid = true →
    seconds.toNat * secTicks < 2 ^ 63 → Does (.timeSet c seconds) s .later fun u => u.time = { s.time with timeSet := some seconds }) ∧
  (∀ (s : State) (c : Call) (word : Word), bits word 63 27 = 0 →
    Does (.timeCfg c word) s .ok fun u => u.time.priority = BitVec.ofNat 8 (bits word 7 0) ∧ u.time.refEnable = bit word 8 ∧
      u.time.notifyValid = bit word 9 ∧ u.time.notifyModule = BitVec.ofNat 17 (bits word 26 10)) ∧
  (∀ (s : State) (c : Call) (port : Nat) (asym : BitVec 16), port < 64 →
    Does (.timePort c port asym) s .ok fun u => (u.tile port).time = { (s.tile port).time with asym }) ∧
  (∀ (s : State) (c : Call) (base : Ticks) (ref : DataRef), s.refOk c.via ref = true → ref.len.toNat % 16 = 0 → 1 ≤ ref.len.toNat / 16 →
    ref.len.toNat / 16 ≤ 64 →
    badStroke ((List.range (ref.len.toNat / 16)).map fun i => BitVec.ofNat 128 (leAt (s.refBytes ref) (16 * i) 16)) 0 0 = none →
    Does (.strokeLoad c base ref) s .ok fun u => u.time.strokeBaseOther = base ∧ u.time.strokeBank = s.time.strokeBank ∧
      (if s.time.strokeBank then u.time.strokes0 else u.time.strokes1) =
        ((List.range (ref.len.toNat / 16)).map fun i => BitVec.ofNat 128 (leAt (s.refBytes ref) (16 * i) 16)) ∧
      (if s.time.strokeBank then u.time.strokes1 = s.time.strokes1 else u.time.strokes0 = s.time.strokes0)) ∧
  (∀ (s : State) (c : Call) (at_ : Ticks), s.tooSoon at_ = false →
    Does (.strokeSwap c at_ false) s .ok fun u => u.time = { s.time with strokeSwap := true, strokeSwapAt := at_ }) ∧
  (∀ (s : State) (c : Call) (at_ : Ticks), s.time.strokeSwap = true →
    Does (.strokeSwap c at_ true) s .ok fun u => u.time = { s.time with strokeSwap := false }) ∧
  (∀ (s : State) (c : Call) (ref : DataRef), s.refOk c.via ref = true → ref.len = 512 →
    Does (.strokeAdmit c ref) s .ok fun u => ∀ i < 1024,
      tgetD u.time.admission i 0 = BitVec.ofNat 4 (fieldAt (leNat (s.refBytes ref)) (4 * i) 4)) ∧
  (∀ (s : State) (c : Call) (enable : Bool), Does (.strokeEnable c enable) s .ok fun u => u.time = { s.time with
    strokeEnable := enable, strokeIdx := (s.time.strokeAt s.time.now).map (·.1) })

/-- R264-R270, R274, R277: module memory as the heads see it: CXL.mem reads and writes, back-invalidation, exposure of a segment; and a port's
HOST.CFG and an unmasked vector. -/
def Obligations.HostMemoryAccesses : Prop :=
  (∀ (s : State) (head : Nat) (offset : Word), s.memOn head = true → offset.toNat / 64 * 64 < Config.memBytes →
    bit (s.exposed (offset.toNat / 64 * 64 / Config.segBytes)) head = true → (s.port head).m2s = [] →
    (∀ h < 4, h ≠ head → offset.toNat / 64 ∉ (s.port h).tracked) →
    ((s.port head).flitMode = 0 ∨ offset.toNat / 64 ∈ (s.port head).tracked ∨ (s.port head).tracked.length < 262144) →
    Completes (exec (.cxlMemRead head false false offset) s) fun t => t.mem = s.mem ∧ (t.port head).m2s = [] ∧
      ((s.port head).flitMode ≠ 0 → offset.toNat / 64 ∈ (t.port head).tracked) ∧ Output.memData head
      (memRead s.mem (offset.toNat / 64 * 64) 64) (s.memHalt || s.memPoisoned (offset.toNat / 64 * 64) 64) ∈ t.out) ∧
  (∀ (s : State) (head h : Nat) (offset : Word), s.memOn head = true → offset.toNat / 64 * 64 < Config.memBytes →
    bit (s.exposed (offset.toNat / 64 * 64 / Config.segBytes)) head = true → (s.port head).m2s = [] →
    h < 4 → h ≠ head → offset.toNat / 64 ∈ (s.port h).tracked → (s.port h).biPending.length < 256 →
    Completes (exec (.cxlMemRead head false false offset) s) fun t => t.mem = s.mem ∧ offset.toNat / 64 ∈ (t.port h).biPending ∧
      (t.port head).m2s = [{ window := false, addr := offset.toNat / 64 * 64, write := none }]) ∧
  (∀ (s : State) (head : Nat) (offset : Word), s.memOn head = true → offset.toNat / 64 * 64 < Config.segBytes → (s.port head).m2s = [] →
    Completes (exec (.cxlMemRead head false true offset) s) fun t => t.mem = s.mem ∧ Output.memData head
      ((List.range 64).map fun i => s.windowByte head (offset.toNat / 64 * 64 + i))
      (s.memHalt || s.memPoisoned (reportBase + offset.toNat / 64 * 64) 64) ∈ t.out) ∧
  (∀ (s : State) (head : Nat) (offset : Word) (data : List Byte), s.memOn head = true → offset.toNat + data.length ≤ Config.memBytes →
    (∀ l ∈ linesOf offset.toNat data.length, bit (s.exposed (l * 64 / Config.segBytes)) head = true ∧
      ∀ h < 4, h ≠ head → l ∉ (s.port h).tracked) → Memory.wf s.mem = true → (s.port head).m2s = [] →
    Completes (exec (.cxlMemWrite head false false offset data) s) fun t => Output.memDone head ∈ t.out ∧
      (∀ k b, data[k]? = some b → memGet t.mem (offset.toNat + k) = b) ∧
      ∀ a, a < offset.toNat ∨ offset.toNat + data.length ≤ a → memGet t.mem a = memGet s.mem a) ∧
  (∀ (s : State) (head : Nat) (offset : Word) (data : List Byte), s.memOn head = true → offset.toNat + data.length ≤ Config.segBytes →
    (s.port head).m2s = [] →
    Completes (exec (.cxlMemWrite head false true offset data) s) fun t => t.mem = s.mem ∧ Output.memDone head ∈ t.out ∧
      ∃ e : QEvent, e.source = 1024 + 32 * head + 8 ∧ t.quench.raised = s.quench.raised ++ [e]) ∧
  (∀ (s : State) (head : Nat) (window : Bool) (offset : Word) (data : List Byte), s.memOn head = true →
    Completes (exec (.cxlMemRead head true window offset) s) (fun t => t.mem = s.mem ∧ t.ports = s.ports ∧
      ∃ e : QEvent, e.source = 1024 + 32 * head + 1 ∧ t.quench.raised = s.quench.raised ++ [e]) ∧
    Completes (exec (.cxlMemWrite head true window offset data) s) fun t => t.mem = s.mem ∧ t.ports = s.ports ∧
      ∃ e : QEvent, e.source = 1024 + 32 * head + 1 ∧ t.quench.raised = s.quench.raised ++ [e]) ∧
  (∀ (s : State) (head line : Nat), line ∈ (s.port head).biPending → (∀ h < 4, (s.port h).m2s = []) →
    Completes (exec (.birsp head line) s) fun t => (t.port head).tracked = ndel (s.port head).tracked line) ∧
  (∀ (s : State) (c : Call) (seg : Nat) (heads : BitVec 4), 3 ≤ seg → seg < 512 →
    ((∀ h < 4, bit heads h = true → (s.port h).linkUp = true → (s.port h).flitMode ≠ 0) ∨
      (List.range 4).countP (fun h => bit heads h) ≤ 1) →
    (heads = 0 → ∀ e ∈ s.insts, seg ∉ e.2.segments) →
    Does (.segmentExpose c seg heads) s .later fun u => u.exposed seg = heads ∧ ∀ g, g ≠ seg → u.exposed g = s.exposed g) ∧
  (∀ (s : State) (c : Call) (port : Nat) (word : Word), port < 4 → 100 ≤ bits word 19 0 → bits word 19 0 ≤ 1000000 →
    10 ≤ bits word 31 20 → bits word 63 32 = 0 →
    Does (.hostCfg c port word) s .ok fun u => (u.port port).hostTimeoutUs = BitVec.ofNat 20 (bits word 19 0) ∧
      (u.port port).biTimeoutUs = BitVec.ofNat 12 (bits word 31 20) ∧ (u.port port).present = (s.port port).present) ∧
  (∀ (s : State) (fn : Fn) (v : Nat), fn.port < 4 → v < s.msixSize fn →
    Completes (exec (.msixUnmask fn v) s) fun t => (t.msix fn).unmasked.contains v = true ∧ (t.msix fn).pending.contains v = false ∧
      ((s.msix fn).pending.contains v = true → (s.port fn.port).talks = true → Output.msix fn v ∈ t.out))

/-- R247-R254, R256, R257, R262, R265, R271, R278, R279, R283, R795: a host port's link and its configuration (the alignment of an assigned
base is the model's, assumption log 50): training, enables, presence, snoops, GPF,
PERST_N and HREFCLK, data object exchange. -/
def Obligations.HostLinksComplete : Prop :=
  (∀ (s : State) (port : Nat) (allowed : BitVec 4) (fm w : BitVec 2) (r mem ready : Bool), s.hostTrains port = true →
    (s.port port).linkUp = false → firstMode allowed = some (fm, r) → w ≠ 3 →
    Completes (exec (.cxlLinkUp port allowed w mem ready) s) fun t => (t.port port).linkUp = true ∧ (t.port port).ready = ready ∧
      (t.port port).flitMode = fm ∧ (t.port port).rate64 = r ∧ (t.port port).width = w ∧ (t.port port).memDeclined = !mem ∧
      (t.port port).writesStopped = false ∧ (ready = true → Output.readiness port ∈ t.out)) ∧
  (∀ (s : State) (port : Nat) (allowed : BitVec 4) (w : BitVec 2) (mem ready : Bool), s.hostTrains port = true →
    (s.port port).linkUp = false → (allowed = 0 ∨ w = 3) →
    Completes (exec (.cxlLinkUp port allowed w mem ready) s) fun t => t.ports = s.ports ∧
      ∃ e : QEvent, e.source = 1024 + 32 * port ∧ t.quench.raised = s.quench.raised ++ [e]) ∧
  (∀ (s : State) (port : Nat) (allowed : BitVec 4) (w : BitVec 2) (mem : Bool), s.hostTrains port = true →
    (s.port port).linkUp = true → (s.port port).ready = false →
    Completes (exec (.cxlLinkUp port allowed w mem true) s) fun t => t.port port = { s.port port with ready := true } ∧
      Output.readiness port ∈ t.out) ∧
  (∀ (s : State) (port : Nat) (declined : Bool), s.hostTrains port = true → (s.port port).linkUp = false →
    Completes (exec (.cxlLinkTrainingFailed port declined) s) fun t => t.ports = s.ports ∧
      ∃ e : QEvent, e.source = 1024 + 32 * port ∧ t.quench.raised = s.quench.raised ++ [e]) ∧
  (∀ (s : State) (port : Nat) (vf : Option Nat) (req : CfgReq), port < 4 → (s.port port).linkUp = true → (∀ v, vf = some v → v < 256) →
    (req = .pbrOrLd → Completes (exec (.cxlConfigRequest port vf req) s) fun t => t.ports = s.ports ∧
      ∃ e : QEvent, e.source = 1024 + 32 * port + 1 ∧ t.quench.raised = s.quench.raised ++ [e]) ∧
    (req ≠ .pbrOrLd → (s.port port).ready = false → Completes (exec (.cxlConfigRequest port vf req) s) fun t =>
      t.ports = s.ports ∧ t.out = s.out ++ [.cfgCompletion port vf none])) ∧
  (∀ (s : State) (port : Nat), port < 4 → (s.port port).linkUp = true → (s.port port).ready = true →
    Completes (exec (.cxlConfigRequest port none (.read 0)) s) fun t =>
      Output.cfgCompletion port none (some 0x0064e6a3#64) ∈ t.out ∧ t.ports = s.ports) ∧
  (∀ (s : State) (port : Nat) (on : Bool), port < 4 → (s.port port).linkUp = true → (s.port port).ready = true →
    Completes (exec (.cxlConfigRequest port none (.setMem on)) s) fun t => t.port port = { s.port port with memEnabled := on && !(s.port port).memDeclined }) ∧
  (∀ (s : State) (port d : Nat) (b : Word), port < 4 → (s.port port).linkUp = true → (s.port port).ready = true →
    (Completes (exec (.cxlConfigRequest port none (.setBar b)) s) fun t => t.port port = { s.port port with bar0 := some (b &&& ~~~0x3ffffff#64) }) ∧
    (Completes (exec (.cxlConfigRequest port none (.setVfBar b)) s) fun t => t.port port = { s.port port with vfBar0 := some (b &&& ~~~0xffff#64) }) ∧
    (d < 2 → Completes (exec (.cxlConfigRequest port none (.setHdm d b)) s) fun t =>
      t.port port = { s.port port with hdm := tset (s.port port).hdm d (b &&& ~~~0xfffffff#64) })) ∧
  (∀ (s : State) (port : Nat), port < 4 → portMeets (s.port port) = true → (s.port port).present = false → s.hearth.mode ≠ .isolated →
    s.hearth.mode ≠ .diagnostic → Completes (exec (.portPresent port) s) fun t => (t.port port).present = true) ∧
  (∀ (s : State) (port : Nat) (line : Word), port < 4 → (s.port port).linkUp = true →
    Completes (exec (.h2dSnoop port line) s) fun t => Output.snoopResp port line (tget (s.port port).cache (line.toNat / 64)).isSome
      (tget (s.port port).cache (line.toNat / 64)) ∈ t.out ∧ tget (t.port port).cache (line.toNat / 64) = none) ∧
  (∀ (s : State) (port : Nat), port < 4 → (s.port port).linkUp = true →
    Completes (exec (.gpfPhase1 port) s) fun t => (t.port port).cache = [] ∧ (t.port port).writesStopped = true ∧
      Output.gpfDone port 1 ∈ t.out ∧ ∀ l d, tget (s.port port).cache l = some d →
        Output.lineBack port (BitVec.ofNat 64 (64 * l)) d ∈ t.out) ∧
  (∀ (s : State) (port : Nat), port < 4 → (s.port port).linkUp = true →
    Completes (exec (.gpfPhase2 port) s) fun t => t.out = s.out ++ [.gpfDone port 2] ∧ t.ports = s.ports) ∧
  (∀ (s : State) (port : Nat), port < 4 →
    Completes (exec (.perstN port true) s) fun t => t.port port = { s.port port with perst := false }) ∧
  (∀ (s : State) (port : Nat), port < 4 → portMeets (s.port port) = false →
    Completes (exec (.perstN port false) s) fun t => (t.port port).perst = true ∧ (t.port port).linkUp = false) ∧
  (∀ (s : State) (port : Nat), port < 4 →
    Completes (exec (.hrefclkLoss port) s) fun t => t.port port = { s.port port with sris := true }) ∧
  (∀ (s : State) (port : Nat), port < 4 →
    Completes (exec (.hrefclkReturn port) s) fun t => t.port port = { s.port port with sris := false }) ∧
  (∀ (s : State) (port stream : Nat) (key : BitVec 256), port < 4 → (s.port port).ready = true → s.hearth.ready = true → stream < 2 →
    Completes (exec (.doeSpdmRequest port (.ideKeyProg stream key)) s) fun t => tget (t.port port).ideKeys stream = some (key, false)) ∧
  (∀ (s : State) (port stream : Nat) (skid : Bool) (k : BitVec 256 × Bool), port < 4 → (s.port port).ready = true → s.hearth.ready = true →
    stream < 2 → tget (s.port port).ideKeys stream = some k →
    Completes (exec (.doeSpdmRequest port (.ideKeyGo stream skid)) s) fun t => tget (t.port port).ideKeys stream = some (k.1, true) ∧
      (t.port port).ideSkid = (if stream = 0 then skid else (s.port port).ideSkid) ∧
      (t.port port).ideActive = ((tget (s.port port).ideKeys (1 - stream)).map (·.2)).getD false ∧
      ((t.port port).ideActive = true → (t.port port).ideRequired = false)) ∧
  (∀ (s : State) (port index : Nat), port < 4 → (s.port port).ready = true → s.hearth.ready = true → 1 ≤ index → index ≤ 4 →
    Completes (exec (.doeSpdmRequest port (.measurement index)) s) fun t =>
      ∃ v, s.measurement index = some v ∧ t.out = s.out ++ [.spdm port index v])

/-- R268, R273, R280-R287, R727: what a host port loses: its link, its enables, an answer; and the resets of functions. -/
def Obligations.HostPortsVanish : Prop :=
  (∀ (s : State) (port : Nat) (i : Instr), (i = .hostLinkDown port ∨ i = .hotReset port) → port < 4 → (s.port port).linkUp = true →
    Completes (exec i s) fun t => (t.port port).linkUp = false ∧ (t.port port).ready = false ∧ (t.port port).memEnabled = false ∧
      (t.port port).cacheEnabled = false ∧ (t.port port).bme = false ∧ (t.port port).tracked = [] ∧
      (portMeets (s.port port) = true → (t.port port).present = false ∧ (t.port port).cache = [] ∧
        (t.port port).vanishCount = satInc (s.port port).vanishCount ∧
        (t.port port).lastCause = if i = .hostLinkDown port then 1 else 2)) ∧
  (∀ (s : State) (port : Nat), port < 4 → (s.port port).ideActive = true →
    Completes (exec (.ideFailure port) s) fun t => (t.port port).linkUp = false ∧ (t.port port).ideRequired = true ∧
      (t.port port).ideKeys = [] ∧ (t.port port).ideActive = false) ∧
  (∀ (s : State) (port : Nat) (cache : Bool), port < 4 → (s.port port).linkUp = true →
    Completes (exec (.bmeClear port cache) s) fun t =>
      (if cache then (t.port port).cacheEnabled = false else (t.port port).bme = false) ∧ (t.port port).linkUp = true ∧
      (portMeets (s.port port) = true → (t.port port).present = false)) ∧
  (∀ (s : State) (port : Nat), (s.port port).biPending ≠ [] →
    Completes (exec (.biTimeout port) s) fun t => (t.port port).silenced = true ∧ (t.port port).tracked = [] ∧
      (t.port port).biPending = []) ∧
  (∀ (s : State) (port n : Nat), port < 4 → (s.port port).d2hWait = [] → (∃ r ∈ (s.port port).d2h, r.tag = .other n) →
    Completes (exec (.d2hTimeout port (.other n) false) s) fun t => (t.port port).d2h = (s.port port).d2h.eraseP (fun r => r.tag == .other n) ∧
      ∃ e : QEvent, e.source = 1024 + 32 * port + 2 ∧ t.quench.raised = s.quench.raised ++ [e]) ∧
  (∀ (s : State) (port vf i : Nat), port < 4 → vf < 256 → s.boundInst port vf = some i →
    (s.inst i).state ∈ [IState.closed, .active, .held, .frozen] →
    (∀ e ∈ s.coll.groups, endpointOf s.routing.moduleId (s.inst i).port.toNat i ∉ e.2.members) →
    Completes (exec (.flrVf port vf) s) fun t => (t.inst i).state = .resetting ∧ (t.inst i).cause = 1) ∧
  (∀ (s : State) (port : Nat), port < 4 →
    Completes (exec (.flrPf port) s) fun t =>
      (∀ e ∈ t.wqs, ¬(e.2.pfHeld = true ∧ e.2.owner = { port, vf := none })) ∧
      ∀ e ∈ t.cqs, ¬(e.2.inst = none ∧ e.2.owner = { port, vf := none }))

/-- R798-R802, R805: MODE_REQUEST, what drains, module reset and its pin. -/
def Obligations.ModesComplete : Prop :=
  (∀ (s : State) (c : Call), isService s.hearth.mode = true → s.opsInFlight = 0 →
    Does (.modeRequest c 8) s (.res (leBytes 4 8 ++ leBytes 4 0)) fun u => u.hearth.mode = .drain) ∧
  (∀ (s : State) (c : Call), isService s.hearth.mode = true → s.opsInFlight ≠ 0 →
    Does (.modeRequest c 8) s .later fun u => u.hearth.mode = .drain ∧ u.hearth.drainCall = some c ∧ u.hearth.drainSince = s.time.now) ∧
  (∀ (s : State) (c : Call), (isService s.hearth.mode = true ∨ s.hearth.mode = .drain) →
    Does (.modeRequest c 9) s (.res (leBytes 8 9)) fun u => u.hearth.mode = .isolated ∧ ∀ p, (u.port p).present = false) ∧
  (∀ (s : State) (c : Call), s.hearth.mode ∈ [Mode.hearthBoot, .linkBringup, .isolated] →
    Does (.modeRequest c 10) s (.res (leBytes 8 10)) fun u => u.hearth.mode = .diagnostic ∧ ∀ p, (u.port p).present = false) ∧
  (∀ (s : State) (c : Call) (m : Mode), s.hearth.mode = .drain →
    m = (if (s.ports.any fun e => portMeets e.2) = false then .transit else if s.hwFenced then .degraded else .fullService) →
    Does (.modeRequest c 0) s (.res (leBytes 8 (modeCode m))) fun u => u.hearth.mode = m) ∧
  (∀ (s : State) (c : Call), s.hearth.mode = .isolated → s.routing.idValid = false →
    Does (.modeRequest c 0) s .later fun u => u.hearth.mode = .linkBringup ∧ u.hearth.returnCall = some c) ∧
  (∀ (s : State) (c : Call), s.hearth.drainCall = some c → s.opsInFlight = 0 →
    Answers (exec .drainComplete s) c 0x0007 (.res s.drainResult) fun u => u.hearth.drainCall = none) ∧
  (∀ (s : State) (c : Call) (now : Ticks), s.hearth.drainCall = some c →
    s.hearth.drainSince.toNat + 10 * secTicks ≤ (s.advance now).time.now.toNat →
    Answers (exec (.drainTimeout now) s) c 0x0007 (.res s.drainResult) fun u => u.hearth.drainCall = none) ∧
  (∀ (s : State) (i : Instr), s.hearth.mode ∉ [Mode.off, .standby, .cracked] →
    (i = .resetNLow ∨ ∃ now, i = .haltActionReset now ∧ s.quench.halted = true ∧ s.quench.haltAction = true ∧
      s.quench.haltTime.toNat + secTicks ≤ (s.advance now).time.now.toNat) →
    Completes (exec i s) fun t => t.hearth.mode = .standby ∧ t.hearth.ready = false ∧ t.insts = [] ∧ t.wqs = [] ∧ t.mem = [] ∧
      t.quench.halted = false ∧ t.quench.sticky = s.quench.sticky ∧ t.quench.first = s.quench.first ∧ t.quench.rail = s.quench.rail ∧
      t.quench.log = s.quench.log ∧ t.quench.crackNew = s.quench.crackNew ∧
      (s.hearth.ready = true → Output.modReady false ∈ t.out) ∧ ∀ p < 64, Output.idle p ∈ t.out) ∧
  (∀ (s : State), s.hearth.mode = .cracked →
    Completes (exec .resetNLow s) fun t => t.power.resetN = false ∧ t.hearth = s.hearth ∧ t.quench = s.quench ∧ t.mem = s.mem) ∧
  (∀ (s : State) (strap : Bool), s.hearth.mode = .standby → s.power.railsOk = true →
    Completes (exec (.resetNHigh strap) s) fun t => t.hearth.mode = .hearthBoot ∧ t.hearth.mgrStrap = strap ∧ t.power.resetN = true)

/-- R632, R633, R638, R799, R803, R804: power-on to service: Fleso's start, the self-test, the role map, Link bring-up's limit. -/
def Obligations.StartupCompletes : Prop :=
  (∀ (s : State) (slotA slotB slot : Bool), s.hearth.mode = .hearthBoot → s.hearth.ready = false → (slotA || slotB) = true →
    slot = (if (if s.hearth.flashBoot then slotB else slotA) then s.hearth.flashBoot else !s.hearth.flashBoot) →
    Serves (exec (.flesoReady true true slotA slotB) s) fun u => u.hearth.ready = true ∧ u.hearth.runningSlot = slot ∧
      u.hearth.roleMap = defaultMap ∧ u.hearth.mode = .hearthBoot ∧ Output.modReady true ∈ u.out) ∧
  (∀ (s : State), s.hearth.mode = .hearthBoot → s.hearth.ready = false →
    Completes (exec (.flesoReady false true true true) s) fun t => t.hearth = s.hearth ∧
      ∃ e : QEvent, e.source = 1373 ∧ t.quench.raised = s.quench.raised ++ [e]) ∧
  (∀ (s : State), s.hearth.mode = .hearthBoot → s.hearth.ready = true → s.striker.cells ≠ [] → s.roleLost = false →
    s.routing.idValid = false →
    Serves (exec (.selfTestPass [] [] [] none) s) fun u => u.hearth.mode = .linkBringup ∧ u.hearth.selfTested = true ∧
      u.striker = s.striker) ∧
  (∀ (s : State) (package : Nat), s.hearth.mode = .hearthBoot → s.hearth.ready = true →
    Completes (exec (.selfTestPass [] [] [] (some package)) s) fun t => t.hearth.mode = .hearthBoot ∧
      ∃ e : QEvent, e.source = 1152 + 16 * (package % 4) + 3 ∧ t.quench.raised = s.quench.raised ++ [e]) ∧
  (∀ (s : State) (now : Ticks), s.hearth.mode = .linkBringup → s.routing.idValid = true → s.hearth.returnCall = none →
    s.hearth.idSince.toNat + 2 * secTicks ≤ (s.advance now).time.now.toNat →
    Serves (exec (.linkBringupTimeout now) s) fun u => u.hearth.mode =
      if (s.ports.any fun e => portMeets e.2) = false then .transit else if s.hwFenced then .degraded else .fullService) ∧
  (∀ (s : State) (c : Call) (ref : DataRef), s.hearth.mode = .hearthBoot → s.hearth.roleCall = none → s.refOk c.via ref = true →
    mapMisformed (s.refBytes ref) = false → mapFault (s.refBytes ref) = none →
    Does (.rolemapLoad c ref) s (.res (leBytes 48 (Config.sha384 (s.refBytes ref)).toNat ++ leBytes 8 0)) fun u =>
      u.hearth.roleMap = s.refBytes ref ∧ ∀ n r, (mapRoles (s.refBytes ref))[n]? = some r → (u.cell n).role.toNat = r) ∧
  (∀ (s : State) (c : Call) (ref : DataRef), s.refOk c.via ref = true → mapMisformed (s.refBytes ref) = true →
    Does (.rolemapLoad c ref) s (.bad 0) fun u => u.hearth.roleMap = s.hearth.roleMap ∧ u.striker = s.striker)

/-- R636-R644, R808: images of Fleso: staging, activation, rollback; the watchdog. That an activation waits for the commands that run is
the model's choice (log entry 131). -/
def Obligations.FirmwareCompletes : Prop :=
  (∀ (s : State) (c : Call) (ref : DataRef), s.refOk c.via ref = true →
    Does (.fwStage c ref) s (if imageFault (s.refBytes ref) = 0 then .res (leBytes 8 (imageVersion (s.refBytes ref)).toNat)
      else .image (imageFault (s.refBytes ref))) fun u => u.hearth.slotImage s.hearth.runningSlot = s.hearth.slotImage s.hearth.runningSlot ∧
      u.hearth.slotImage (!s.hearth.runningSlot) =
        if imageFault (s.refBytes ref) = 0 then s.refBytes ref else s.hearth.slotImage (!s.hearth.runningSlot)) ∧
  (∀ (s : State) (c : Call), Does (.fwActivate c false) s (.res (leBytes 8 s.hearth.version.toNat)) fun u =>
    u.hearth.bootSlot = (!s.hearth.runningSlot) ∧ u.hearth.runningSlot = s.hearth.runningSlot ∧ u.hearth.mode = s.hearth.mode) ∧
  (∀ (s : State) (c : Call) (k : Nat), (isService s.hearth.mode = true ∨ s.hearth.mode = .drain) →
    k = imageFault (s.hearth.slotImage (!s.hearth.runningSlot)) →
    Does (.fwActivate c true) s (if k = 0 then .later else .image k) fun u => u.hearth.mode = s.hearth.mode ∧
      (k = 0 → u.hearth.activating = some c)) ∧
  (∀ (s : State) (c : Call) (code : BitVec 16) (k : Allowed), s.Executes (.fwActivate c true) c code k →
    (isService s.hearth.mode = true ∨ s.hearth.mode = .drain) → s.hearth.running = [] →
    Completes (exec (.fwActivate c true) s) fun t => imageFault (s.hearth.slotImage (!s.hearth.runningSlot)) = 0 →
      t.hearth.mode = .firmwareUpdate ∧ t.hearth.ready = false ∧
      t.hearth.activating = some c ∧ t.hearth.leftMode = s.hearth.mode ∧ Output.flesoRestart (!s.hearth.runningSlot) ∈ t.out) ∧
  (∀ (s : State) (c : Call), s.hearth.activating = some c → s.hearth.mode = .firmwareUpdate →
    Answers (exec .fwActivationReady s) c 0x0a03 (.res (leBytes 8 (imageVersion (s.hearth.slotImage (!s.hearth.runningSlot))).toNat))
      fun u => u.hearth.runningSlot = (!s.hearth.runningSlot) ∧ u.hearth.bootSlot = (!s.hearth.runningSlot) ∧ u.hearth.ready = true ∧
        u.hearth.activating = none ∧ (isService s.hearth.leftMode = true → isService u.hearth.mode = true) ∧
        (isService s.hearth.leftMode = false → u.hearth.mode = s.hearth.leftMode)) ∧
  (∀ (s : State) (c : Call) (failed : Bool), s.hearth.activating = some c → s.hearth.mode = .firmwareUpdate →
    Answers (exec (.fwActivationTimeout failed) s) c 0x0a03 (.image (if failed then 4 else 6)) fun u =>
      u.hearth.runningSlot = s.hearth.runningSlot ∧ u.hearth.rolledBack = true ∧ u.hearth.rollbacks = satInc s.hearth.rollbacks ∧
        u.hearth.ready = true ∧ u.hearth.activating = none ∧ (isService s.hearth.leftMode = true → isService u.hearth.mode = true) ∧
        (isService s.hearth.leftMode = false → u.hearth.mode = s.hearth.leftMode) ∧ ∃ e ∈ u.quench.raised, e.source = 1227) ∧
  (∀ (s : State) (q : QCmd) (at_ : Ticks) (fn : Fn) (slot : Nat) (x : Slot), s.hearth.ready = true → s.hearth.running = [(q, at_)] →
    q.via = .mailbox fn slot → tget (s.mbox fn).slots slot = some x → x.state = .running → x.seq = q.seq →
    Serves (exec .hearthWatchdog s) fun u => u.hearth.running = [] ∧ u.hearth.mode = s.hearth.mode ∧ u.mem = s.mem ∧ u.wqs = s.wqs ∧
      (∃ e ∈ u.quench.raised, e.source = 1224) ∧ ∃ y r, tget (u.mbox fn).slots slot = some y ∧ y.state = .done ∧ y.resp = some r ∧
        r.error = eFault ∧ r.seq = q.seq)

/-- R716-R736, R744-R748, R754, R755: Quench's commands: its registers, policies, clears and unfencing, injections. -/
def Obligations.QuenchCommandsComplete : Prop :=
  (∀ (s : State) (c : Call), Does (.quenchRead c) s (.res (leBytes 8 s.quench.firstTime.toNat ++ leBytes 8 s.quenchState ++
    setBytes s.quench.first ++ setBytes s.quench.sticky ++ setBytes s.quench.rail)) fun u => u.quench = s.quench) ∧
  (∀ (s : State) (c : Call) (d : Nat) (word policy : Word), d = bits word 10 0 → d < 1408 → bits word 63 11 = 0 →
    bits policy 15 10 = 0 → bits policy 31 16 ≠ 0 → 1 ≤ bits policy 63 32 → bits policy 63 32 ≤ 3600000000 →
    bits policy 2 0 ≤ bits policy 5 3 → (∀ k ∈ [bits policy 2 0, bits policy 5 3, bits policy 8 6], k ≤ 4 ∧
      (k = 2 → unitKind d ≠ 0) ∧ (3 ≤ baseClass d → baseClass d ≤ k)) →
    Does (.quenchPolicy c word policy) s .ok fun u => u.policy d = policy ∧ ∀ e, e ≠ d → u.policy e = s.policy e) ∧
  (∀ (s : State) (c : Call) (flags : Word) (sources : List Word), bits flags 63 7 = 0 → bit flags 3 = false →
    Does (.quenchClear c flags sources) s .ok fun u =>
      (∀ d, d ∈ u.quench.sticky ↔ d ∈ s.quench.sticky ∧ ¬(bit flags 0 = true ∧ d ∈ sourcesOf sources)) ∧
      (∀ d, d ∈ u.quench.rail ↔ d ∈ s.quench.rail ∧ ¬(bit flags 1 = true ∧ d ∈ sourcesOf sources)) ∧
      (bit flags 2 = true → u.quench.firstValid = false ∧ u.quench.first = []) ∧
      (bit flags 4 = true → u.quench.log = [] ∧ u.quench.logTail = 0 ∧ u.quench.logLost = 0) ∧
      (bit flags 5 = true → u.quench.crackNew = none ∧ u.quench.crackOld = none) ∧
      u.quench.fenced = s.quench.fenced ∧ u.quench.halted = s.quench.halted) ∧
  (∀ (s : State) (c : Call) (sources : List Word) (p : Nat), s.quench.halted = false → s.quench.rail = [] →
    (∀ d, (tgetD s.quench.counts d {}).lastRail = false) → s.quench.fenced = [({ kind := 1, num := p }, 16 * p)] → p < 64 →
    16 * p ∈ sourcesOf sources →
    Does (.quenchClear c 8 sources) s .ok fun u => (u.tile p).fenced = false ∧ u.quench.fenced = [] ∧
      u.quench.logTail = s.quench.logTail + 1) ∧
  (∀ (s : State) (c : Call) (ctrl : Word) (at_ : Ticks) (slot : Nat), bits ctrl 10 0 < 1408 → bits ctrl 15 13 = 0 → bits ctrl 63 28 = 0 →
    bits ctrl 27 16 ≤ 63 → (unitKind (bits ctrl 10 0) ≠ 2 → bits ctrl 27 16 = 0) →
    (s.wouldTake (bits ctrl 10 0) (bit ctrl 11) (bit ctrl 12) < 3 ∨ s.hearth.mode = .diagnostic) →
    (List.range 16).find? (fun i => !(tgetD s.quench.inject i {}).pending) = some slot →
    Does (.inject c ctrl at_) s (.res (leBytes 8 slot)) fun u => tgetD u.quench.inject slot {} =
      { detector := BitVec.ofNat 11 (bits ctrl 10 0), kind := bit ctrl 11, noCount := bit ctrl 12, pending := true,
        unit := BitVec.ofNat 12 (bits ctrl 27 16), instant := at_ }) ∧
  (∀ (s : State) (slot : Nat) (now : Ticks) (x : Injection) (fails : Bool), tgetD s.quench.inject slot {} = x → x.pending = true →
    x.instant.toNat ≤ (s.advance now).time.now.toNat →
    Completes (exec (.injectionFire slot now fails) s) fun t => (tgetD t.quench.inject slot {}).pending = false ∧
      (tgetD t.quench.inject slot {}).fired = true ∧ t.quench.injectionsFired = satInc s.quench.injectionsFired ∧
      if x.detector.toNat ∈ s.quench.rail then t.quench.raised = s.quench.raised else
        ∃ e : QEvent, e.source = x.detector.toNat ∧ e.injected = true ∧ e.rail = x.kind ∧ e.coincident = fails ∧
          t.quench.raised = s.quench.raised ++ [e])

/-- R715-R736, R731, R732, R799: what detectors show: an event is sticky and logged, a rail fault masks, a Halt and a crack stop the
module, a window ends. -/
def Obligations.DetectorsAct : Prop :=
  (∀ (s : State) (es : List QEvent), s.hearth.mode ≠ .off → s.quench.raised = [] →
    Serves (exec (.detectorEvent es) s) fun u => ∀ e ∈ es, e.source < 1408 → e.source ∉ s.quench.rail → e.source ∈ u.quench.sticky) ∧
  (∀ (s : State) (es : List QEvent), s.hearth.mode = .off →
    Serves (exec (.detectorEvent es) s) fun u => u.quench.raised = [] ∧ u.quench.sticky = s.quench.sticky ∧ u.hearth.mode = .off) ∧
  (∀ (s : State) (e : QEvent), halts s.hearth.mode = true → s.quench.raised = [] → s.quench.reacting = [] → s.quench.halted = false →
    e.source < 1408 → e.source ∉ s.quench.rail → bits (s.policy e.source) 2 0 = 3 → bits (s.policy e.source) 5 3 = 3 →
    Serves (exec (.detectorEvent [e]) s) fun u => u.hearth.mode = .isolated ∧ u.quench.halted = true ∧ u.quench.haltBy = some e.source ∧
      u.quench.haltTime = s.time.now ∧ (∀ p < 63, Output.idle p ∈ u.out) ∧
      (∀ p < 63, (u.tile p).linkState = .detect) ∧ (∀ p, (u.port p).present = false) ∧
      ∃ r, tget u.quench.log (logSlot s.quench.logTail.toNat) = some r ∧ r.cls = 3 ∧ r.source.toNat = e.source ∧ r.time = s.time.now) ∧
  (∀ (s : State) (e : QEvent), halts s.hearth.mode = true → s.quench.raised = [] → s.quench.reacting = [] → s.quench.halted = false →
    e.source < 1408 → e.source ∉ s.quench.rail → bits (s.policy e.source) 2 0 = 4 → bits (s.policy e.source) 5 3 = 4 →
    s.power.holdup = false →
    Serves (exec (.detectorEvent [e]) s) fun u => u.hearth.mode = .cracked ∧ u.hearth.ready = false ∧ u.quench.halted = true ∧
      (∀ p < 64, Output.idle p ∈ u.out) ∧ ∃ k, u.quench.crackNew = some k ∧ k.time = s.time.now ∧ e.source ∈ k.sticky) ∧
  (∀ (s : State) (d : Nat), s.hearth.mode ≠ .off → s.quench.raised = [] → d < 1408 → d ∉ s.quench.rail →
    Serves (exec (.railFault d) s) fun u => d ∈ u.quench.rail ∧ d ∈ u.quench.sticky ∧ u.quench.railFaults = satInc s.quench.railFaults) ∧
  (∀ (s : State) (d : Nat), d ∈ s.quench.rail → Completes (exec (.railFault d) s) fun t => t = s) ∧
  (∀ (s : State) (d : Nat) (now : Ticks), (tgetD s.quench.counts d {}).open_ = true →
    (tgetD s.quench.counts d {}).ends.toNat ≤ (s.advance now).time.now.toNat →
    Completes (exec (.quenchWindowEnd d now) s) fun t => (tgetD t.quench.counts d {}).open_ = false ∧
      (tgetD t.quench.counts d {}).count = 0 ∧ (tgetD t.quench.counts d {}).escalated = false)

/-- R757-R775: counters: selections, samples of them, the tagger's and the firmware sampler's configuration, a firmware sample. -/
def Obligations.CountersComplete : Prop :=
  (∀ (s : State) (c : Call) (word0 word1 : Word), bits word0 12 0 < 2560 → bits word0 63 16 = 0 →
    (bit word0 13 = false → selOk (bits word0 12 0) word1 = true) →
    Does (.counterSelect c word0 word1 0) s .ok fun u => (tgetD u.counters.sels (bits word0 12 0) 0 =
        if bit word0 13 then tgetD s.counters.sels (bits word0 12 0) 0 else word1) ∧
      (bit word0 14 = true → tgetD u.counters.values (bits word0 12 0) 0 = 0) ∧
      (bit word0 15 = true → tgetD u.counters.wrapped (bits word0 12 0) false = false) ∧
      ∀ k, k ≠ bits word0 12 0 → tgetD u.counters.sels k 0 = tgetD s.counters.sels k 0) ∧
  (∀ (s : State) (c : Call) (word0 word1 word2 : Word) (v : State) (o : Nat), bits word0 12 0 = 4096 → bits word0 63 16 = 0 →
    bit word0 13 = false → bits word1 5 1 ≤ 20 → bits word1 48 17 ≠ 0 → bits word1 63 49 = 0 → 6 ≤ bits word2 4 0 → bits word2 4 0 ≤ 16 →
    bits word2 63 5 = 0 → (s.freeRing s.counters.tagRing).allocArea c.via (64 + 64 * 2 ^ bits word2 4 0) = some (o, v) →
    Does (.counterSelect c word0 word1 word2) s .ok fun u => u.counters.tagCfg = word1 ∧ u.counters.tagTail = 0 ∧
      u.counters.tagRing = BitVec.ofNat 64 (reportBase + o + bits word2 4 0 * 2 ^ 37) ∧
      (bit word1 0 = true → u.counters.lfsr = BitVec.ofNat 32 (bits word1 48 17))) ∧
  (∀ (s : State) (c : Call) (word0 word1 word2 : Word) (v : State) (o : Nat), bits word0 12 0 = 4097 → bits word0 63 16 = 0 →
    bit word0 13 = false → 1024 ≤ bits word1 32 9 → bits word1 37 33 ≤ 16 → bits word1 63 38 = 0 → 6 ≤ bits word2 4 0 →
    bits word2 4 0 ≤ 16 → bits word2 63 5 = 0 →
    (s.freeRing s.counters.hsRing).allocArea c.via (64 + 32 * 2 ^ bits word2 4 0) = some (o, v) →
    Does (.counterSelect c word0 word1 word2) s .ok fun u => u.counters.hsCfg = word1 ∧ u.counters.hsTail = 0 ∧
      u.counters.hsRing = BitVec.ofNat 64 (reportBase + o + bits word2 4 0 * 2 ^ 37)) ∧
  (∀ (s : State) (c : Call) (first count : Nat) (code : BitVec 16) (a : Allowed), 1 ≤ count → count ≤ 120 → first + count ≤ 2560 →
    s.Executes (.counterRead c first count) c code a → ∃ bs, bs.length = 8 * count ∧
      (∀ k < count, bits (tgetD s.counters.sels (first + k) 0) 15 0 ∉ looseCodes → bits (tgetD s.counters.sels (first + k) 0) 15 0 ≠ 0x0090 →
        sliceBytes bs (8 * k) 8 = leBytes 8 ((tgetD s.counters.values (first + k) 0) |||
          (if first + k < 2048 ∧ tgetD s.counters.wrapped (first + k) false = true then 1#64 <<< 48 else 0)).toNat) ∧
      Answers (exec (.counterRead c first count) s) c code
        (.res (leBytes 8 s.time.now.toNat ++ leBytes 8 s.time.now.toNat ++ bs)) fun u => u.time = s.time ∧
          u.counters.sels = s.counters.sels) ∧
  (∀ (s : State) (core skid : Nat) (pc : Word) (masked idle : Bool) (opcode : BitVec 16) (task : BitVec 32), bit s.counters.hsCfg 0 = true →
    core < 8 → bit s.counters.hsCfg (1 + core) = true → core ∉ s.hearth.coresFenced →
    Completes (exec (.hsSampleTrigger core pc skid masked idle opcode task) s) fun t =>
      if idle = false ∧ (masked = true ∨ 12 < skid) then
        t.counters.maskedDrops = satInc s.counters.maskedDrops ∧ t.mem = s.mem ∧ t.counters.hsTail = s.counters.hsTail
      else match s.ringAppend (bits s.counters.hsRing 36 0) (bits s.counters.hsRing 41 37) s.counters.hsTail
          (sampleBytes s.time.now pc core idle skid opcode task) with
        | (v, some n) => t.mem = v.mem ∧ t.counters.hsTail = n ∧ n = s.counters.hsTail + 1
        | (v, none) => t.mem = v.mem ∧ t.counters.hsLost = satInc s.counters.hsLost)

/-- R721, R778-R782, R786, R789, R791, R796, R798: mains and hold-up, sensors, cables, the sideband's address. -/
def Obligations.PowerCompletes : Prop :=
  (∀ (s : State) (b : Bool), (if b then s.power.inB else s.power.inA) = true → ((if b then s.power.inA else s.power.inB) = true ∨ s.power.holdup = true) →
    Completes (exec (.mainsInputLost b) s) fun t => (if b then t.power.inB else t.power.inA) = false ∧ t.power.holdup = s.power.holdup ∧
      ∃ e : QEvent, e.source = (if b then 1345 else 1344) ∧ t.quench.raised = s.quench.raised ++ [e]) ∧
  (∀ (s : State) (b : Bool), (if b then s.power.inB else s.power.inA) = true → (if b then s.power.inA else s.power.inB) = false →
    s.power.holdup = false →
    Completes (exec (.mainsInputLost b) s) fun t => t.power.inA = false ∧ t.power.inB = false ∧ t.power.holdup = true ∧
      t.power.holdupAt = s.time.now ∧ ∃ e f : QEvent, e.source = (if b then 1345 else 1344) ∧ f.source = 1348 ∧
        t.quench.raised = s.quench.raised ++ [e, f]) ∧
  (∀ (s : State) (b : Bool), s.hearth.mode = .off →
    Completes (exec (.mainsInputPresent b) s) fun t => t.hearth.mode = .standby ∧ (if b then t.power.inB else t.power.inA) = true ∧
      t.mem = [] ∧ t.quench.sticky = [] ∧ t.quench.log = [] ∧ t.quench.crackNew = s.quench.crackNew) ∧
  (∀ (s : State) (b : Bool), s.hearth.mode ≠ .off →
    Completes (exec (.mainsInputPresent b) s) fun t => (if b then t.power.inB else t.power.inA) = true ∧ t.hearth = s.hearth ∧
      t.power.holdup = (s.power.holdup && s.power.powerDown)) ∧
  (∀ (s : State), s.power.holdup = true → s.power.inA = false → s.power.inB = false → s.power.powerDown = false →
    Completes (exec .holdUpPowerDown s) fun t => t.power.powerDown = true ∧ (∀ p < 64, Output.idle p ∈ t.out) ∧
      (∀ p < 64, (t.tile p).linkState = .detect) ∧ ∀ p < 4, (s.port p).linkUp = true → (t.port p).cache = []) ∧
  (∀ (s : State), s.power.powerDown = true →
    Completes (exec .railsOff s) fun t => t.hearth.mode = (if s.power.inA || s.power.inB then .standby else .off) ∧ t.mem = [] ∧
      t.insts = [] ∧ t.power.powerDown = false ∧ t.power.holdup = false) ∧
  (∀ (s : State) (a b : BitVec 12) (die coolant flow : BitVec 8) (mems : List Nat), s.hearth.mode ≠ .off →
    Completes (exec (.sensorSample a b die coolant flow mems) s) fun t => t.power.inAPower = a ∧ t.power.inBPower = b ∧
      t.power.dieTemp = die ∧ t.power.coolantIn = coolant ∧ t.power.flow = flow ∧
      (∀ x ∈ [(1365, 95), (1366, 105), (1367, 115)],
        (x.2 ≤ die.toNat → x.1 ∈ t.power.hot ∧ (x.1 ∉ s.power.hot → ∃ e ∈ t.quench.raised, e.source = x.1)) ∧
        (die.toNat + 5 ≤ x.2 → x.1 ∉ t.power.hot)) ∧
      ∀ k < 4, ∀ m, mems[k]? = some m → (85 ≤ m → 1152 + 16 * k + 5 ∈ t.power.hot) ∧ (m + 5 ≤ 85 → 1152 + 16 * k + 5 ∉ t.power.hot) ∧
        (95 ≤ m → 1152 + 16 * k + 6 ∈ t.power.hot)) ∧
  (∀ (s : State) (port mw : Nat), port < 64 → s.hearth.mode ≠ .off → (s.tile port).present = false →
    Completes (exec (.cablePresentChange port true mw) s) fun t => (t.tile port).present = true ∧
      if mw ≤ 2000 then (t.tile port).supply = true ∧ t.out = s.out ++ [.cableSupply port true]
      else (t.tile port).supply = (s.tile port).supply ∧ (t.tile port).refused = 1 ∧ t.out = s.out ∧
        ∃ e : QEvent, e.source = 16 * port + 13 ∧ t.quench.raised = s.quench.raised ++ [e]) ∧
  (∀ (s : State) (port mw : Nat), port < 64 → s.hearth.mode ≠ .off → (s.tile port).present = true →
    Completes (exec (.cablePresentChange port false mw) s) fun t => (t.tile port).present = false ∧ (t.tile port).supply = false ∧
      ((s.tile port).supply = true → t.out = s.out ++ [.cableSupply port false])) ∧
  (∀ (s : State) (port : Nat), port < 64 → (s.tile port).supply = true →
    Completes (exec (.cableOverdraw port) s) fun t => (t.tile port).supply = false ∧ (t.tile port).overdrawn = true ∧
      (t.tile port).linkState = .detect ∧ Output.cableSupply port false ∈ t.out ∧ ∃ e ∈ t.quench.raised, e.source = 16 * port + 13) ∧
  (∀ (s : State) (a : BitVec 7), s.hearth.mode ∉ [Mode.off, .standby, .cracked] →
    Completes (exec (.i3cEntdaa a) s) fun t => t.hearth = { s.hearth with i3cAddr := some a })

/-- R208-R215, R223, R227, R231, R237, R244, R640, R669: Machine Time's events: references, the PPS, announcements, pulses, Strokes. -/
def Obligations.TimeEventsComplete : Prop :=
  (∀ (s : State) (now : Ticks) (periodNs tenA tenB : Nat) (ok : Bool),
    ok = decide (9999900 ≤ (if s.time.usesRefB then tenB else tenA) ∧ (if s.time.usesRefB then tenB else tenA) ≤ 10000100) →
    ∃ u : State, exec (.ppsEdge now periodNs tenA tenB) s = .next u.firePassed ∧ u.time.ref10mOk = ok ∧
      if s.time.refValid = true ∧ (ok = false ∨ 1000001000 ≤ periodNs) then
        u.time.refValid = false ∧ u.time.ppsRun = 0 ∧ ∃ e ∈ u.quench.raised, e.source = 1233
      else u.time.ppsRun = (if 999999000 ≤ periodNs ∧ periodNs ≤ 1000001000 then s.time.ppsRun + 1 else 1) ∧
        (u.time.refValid = true ↔ s.time.refValid = true ∨ s.time.refEnable = true ∧ ok = true ∧
          3 ≤ (if 999999000 ≤ periodNs ∧ periodNs ≤ 1000001000 then s.time.ppsRun + 1 else 1))) ∧
  (∀ (s : State) (now : Ticks) (periodNs tenA tenB sec : Nat), s.time.refValid = true → s.routing.idValid = true →
    9999900 ≤ (if s.time.usesRefB then tenB else tenA) → (if s.time.usesRefB then tenB else tenA) ≤ 10000100 → periodNs < 1000001000 →
    (∀ p < 64, s.qualifiesNow p = false) → s.time.timeSet.map (·.toNat) = some sec →
    ∃ u : State, exec (.ppsEdge now periodNs tenA tenB) s = .next u.firePassed ∧ u.time.now = BitVec.ofNat 64 (sec * secTicks) ∧
      u.time.timeSet = none ∧ (∀ x ∈ u.hearth.running, x.1.opcode ≠ 0x0201) ∧ u.time.stepCount = satInc s.time.stepCount) ∧
  (∀ (s : State) (now : Ticks) (periodNs tenA tenB : Nat) (o : Int), s.time.refValid = true → s.routing.idValid = true →
    9999900 ≤ (if s.time.usesRefB then tenB else tenA) → (if s.time.usesRefB then tenB else tenA) ≤ 10000100 → periodNs < 1000001000 →
    (∀ p < 64, s.qualifiesNow p = false) → s.time.timeSet = none → o = secondOffset (s.advance now).time.now * servoUnit →
    (s.time.filt + (o - s.time.filt) / 8).natAbs ≤ 64000 * servoUnit →
    ∃ u : State, exec (.ppsEdge now periodNs tenA tenB) s = .next u.firePassed ∧ u.time.filt = s.time.filt + (o - s.time.filt) / 8 ∧
      u.time.freq = clampTo ppm200 (s.time.freq + u.time.filt / 16) ∧ u.time.slew = clampTo ppm100 (u.time.filt / 1000) ∧
      u.time.now = (s.advance now).time.now) ∧
  (∀ (s : State) (ten : Bool), s.time.refValid = true → Completes (exec (.timeRefLoss ten) s) fun t => t.time.refValid = false ∧
    t.time.ppsRun = 0 ∧ t.time.ref10mOk = (s.time.ref10mOk && !ten) ∧ ∃ e ∈ t.quench.raised, e.source = 1233) ∧
  (∀ (s : State) (ten : Bool), s.time.refValid = false → Completes (exec (.timeRefLoss ten) s) fun t =>
    t = { s with time := { s.time with ppsRun := 0, ref10mOk := s.time.ref10mOk && !ten } }) ∧
  (∀ (s : State) (b : Bool), (if b then s.time.refAValid else s.time.refBValid) = true → s.time.usesRefB = b →
    Completes (exec (.refClockLoss b) s) fun t => (if b then t.time.refBValid else t.time.refAValid) = false ∧ t.time.usesRefB = (!b) ∧
      ∃ e : QEvent, e.source = (if b then 1235 else 1234) ∧ t.quench.raised = s.quench.raised ++ [e]) ∧
  (∀ (s : State) (b : Bool), (if b then s.time.refAValid else s.time.refBValid) = true → s.time.usesRefB = (!b) →
    Completes (exec (.refClockLoss b) s) fun t => (if b then t.time.refBValid else t.time.refAValid) = false ∧
      t.time.usesRefB = s.time.usesRefB ∧ t.quench = s.quench) ∧
  (∀ (s : State) (b : Bool), (if b then s.time.refAValid else s.time.refBValid) = false →
    Completes (exec (.refClockLoss b) s) fun t => t.time.refAValid = false ∧ t.time.refBValid = false ∧
      ∃ e : QEvent, e.source = 1236 ∧ t.quench.raised = s.quench.raised ++ [e]) ∧
  (∀ (s : State) (b : Bool), Completes (exec (.refClockReturn b) s) fun t => (if b then t.time.refBValid else t.time.refAValid) = true ∧
    t.time.usesRefB = s.time.usesRefB) ∧
  (∀ (s : State) (port : Nat) (p : Packet), s.hasArrival p = true → p.pktType = 0x13 →
    Completes (exec (.timeAnnounce port p) s) fun t => t.out = s.out ++ [.report p] ∧ t.routing = (s.takeArrival p).routing) ∧
  (∀ (s : State) (now : Ticks), s.time.pulses < (s.advance now).time.now.toNat / secTicks →
    Completes (exec (.timeOutPulse now) s) fun t => t.time.pulses = (s.advance now).time.now.toNat / secTicks ∧
      t.out = s.out ++ [.timeOut (s.advance now).time.now]) ∧
  (∀ (s : State) (now : Ticks), Completes (exec (.strokeBoundary now) s) fun t =>
    t.time = { (s.advance now).time with strokeIdx := (s.time.strokeAt (s.advance now).time.now).map (·.1) }) ∧
  (∀ (s : State) (now : Ticks), s.time.strokeSwap = true →
    (strokeCycle s.time.strokes = 0 ∧ s.time.strokeSwapAt.toNat ≤ (s.advance now).time.now.toNat ∨ 0 < strokeCycle s.time.strokes ∧
      ∃ k, s.time.strokeSwapAt.toNat ≤ s.time.strokeBase.toNat + k * strokeCycle s.time.strokes ∧
        s.time.strokeBase.toNat + k * strokeCycle s.time.strokes ≤ (s.advance now).time.now.toNat) →
    Completes (exec (.strokeSwapFire now) s) fun t => t.time.strokeSwap = false ∧ t.time.strokeBank = (!s.time.strokeBank) ∧
      t.time.strokeBase = s.time.strokeBaseOther ∧ t.time.strokeBaseOther = s.time.strokeBase)

/-- R64-R85, R673-R685: frames and training: what arrives on a port, its phases, rate steps, and what sends it back to training. -/
def Obligations.TrainingCompletes : Prop :=
  (∀ (s : State) (port : Nat) (f : RxFrame), (s.tile port).linkState ∈ [LinkState.detect, .map] →
    exec (.fecFrameReceive port f) s = .next s.firePassed) ∧
  (∀ (s : State) (port : Nat) (f : RxFrame), (s.tile port).linkState = .test →
    ∃ u : State, exec (.fecFrameReceive port f) s = .next u.firePassed ∧ u.quench = s.quench ∧ u.out = s.out ∧
      (u.tile port).linkState = .test ∧ (u.tile port).retry = (s.tile port).retry) ∧
  (∀ (s : State) (port : Nat) (f : RxFrame), (s.tile port).linkState = .up → (s.tile port).inStep = true →
    (∃ c < 4, 15 < (f.errors.filter fun e => e.1 % 4 == c).length) →
    ∃ u : State, exec (.fecFrameReceive port f) s = .next u.firePassed ∧
      (u.tile port).retry.frameErrs = (s.tile port).retry.frameErrs + 1 ∧ ∃ e ∈ u.quench.raised, e.source = 16 * port) ∧
  (∀ (s : State) (port : Nat) (f : RxFrame) (x : Flit) (ys : List Flit), (s.tile port).linkState = .up → (s.tile port).inStep = false →
    (s.tile port).fenced = false → (s.tile port).txFlits.length < 10 → rxSync f = 0xb5 →
    (s.tile port).retry.lastCount = some (rxCount f - 1) → uncorrectable f = false → rxFlits f = x :: ys →
    (∀ y ∈ ys, flitOk y = true ∧ y.flitType = 0 ∧ y.ackValid = false) → flitOk x = true → x.flitType = 1 → x.ackValid = false →
    x.linkSeq = (s.tile port).retry.expected → ((s.tile port).rxLane x.vl.toNat).skip = true → x.firstStart = 15 →
    ∃ u : State, exec (.fecFrameReceive port f) s = .next u.firePassed ∧
      (u.tile port).retry.expected = (s.tile port).retry.expected + 1 ∧ (u.tile port).retry.accepted = true ∧
      (u.tile port).retry.ackOwed = 0 ∧ ∃ y, Output.flit port y ∈ u.out ∧ y.ackValid = true ∧ y.ackSeq = x.linkSeq) ∧
  (∀ (s : State) (port : Nat) (f : RxFrame) (x : Flit) (ys : List Flit), (s.tile port).linkState = .up → (s.tile port).inStep = false →
    rxSync f = 0xb5 → (s.tile port).retry.lastCount = some (rxCount f - 1) → uncorrectable f = false → rxFlits f = x :: ys →
    (∀ y ∈ ys, flitOk y = true ∧ y.flitType = 0 ∧ y.ackValid = false) → flitOk x = true →
    x.flitType = 0 → x.ackValid = true → serialLt x.ackSeq (s.tile port).retry.nextTx = true → (s.tile port).retry.suspect = false →
    ∃ u : State, exec (.fecFrameReceive port f) s = .next u.firePassed ∧ ∀ k, k ∈ (u.tile port).retry.kept ↔
      k ∈ (s.tile port).retry.kept ∧ serialLt k.seq (x.ackSeq + 1) = false) ∧
  (∀ (s : State) (port : Nat) (fill : List Nat), Completes (exec (.freewheelBlock port fill) s) fun t =>
    (t.tile port).freewheels = (s.tile port).freewheels + 1 ∧ (t.tile port).elastic.length = fill.length ∧
      ∀ n ∈ fill, n ≤ 256 → n ∈ (t.tile port).elastic) ∧
  (∀ (s : State) (port lane : Nat) (b : TrainBlock), s.fabricTrains port = true → (s.tile port).linkState = .detect →
    b.marked = true → (tgetD (s.tile port).lanes lane {}).lockRun < 15 →
    Completes (exec (.trainingBlock port lane b) s) fun t => (t.tile port).linkState = .detect ∧
      (tgetD (t.tile port).lanes lane {}).lockRun = (tgetD (s.tile port).lanes lane {}).lockRun + 1 ∧
      (tgetD (t.tile port).lanes lane {}).physLane = b.lane ∧ (t.tile port).farMaxRate = b.maxRate ∧ (t.tile port).farGood = b.rxGood) ∧
  (∀ (s : State) (port lane : Nat) (b : TrainBlock), s.fabricTrains port = true → (s.tile port).linkState = .detect → b.marked = false →
    Completes (exec (.trainingBlock port lane b) s) fun t => (t.tile port).linkState = .detect ∧
      (tgetD (t.tile port).lanes lane {}).lockRun = 0) ∧
  (∀ (s : State) (port lane : Nat) (b : TrainBlock), b.marked = true → b.phase = 2 → (s.tile port).linkState = .up →
    Completes (exec (.trainingBlock port lane b) s) fun t => (tgetD (t.tile port).lanes lane {}).good = true ∧ (t.tile port).linkState = .up) ∧
  (∀ (s : State) (port lane : Nat) (i : Instr), (s.tile port).linkState = .up → (s.tile port).inStep = false →
    ((∃ b : TrainBlock, i = .trainingBlock port lane b ∧ b.marked = true ∧ b.phase ≠ 2 ∧ (s.tile port).qualifying = false) ∨
      i = .laneLockLoss port lane ∧ (tgetD (s.tile port).lanes lane {}).excluded = false ∨
      i = .marginCriticalExpiry port lane ∧ (tgetD (s.tile port).lanes lane {}).eyeWidth.toNat < (s.tile port).criticalMargin.toNat) →
    Completes (exec i s) fun t => t = s.retrain port (some (16 * port + 12)) (16 * port + 12)) ∧
  (∀ (s : State) (port : Nat), (s.tile port).inStep = true →
    Completes (exec (.shoeStepTimeout port) s) fun t => t = (s.modTile port fun x => { x with stepFailures := satInc x.stepFailures }).retrain port
      (some (16 * port + 12)) (16 * port + 12)) ∧
  (∀ (s : State) (port lane : Nat), (tgetD (s.tile port).lanes lane {}).excluded = true →
    Completes (exec (.laneLockLoss port lane) s) fun t => (tgetD (t.tile port).lanes lane {}).lockRun = 0 ∧
      (tgetD (t.tile port).lanes lane {}).good = false ∧ (t.tile port).linkState = (s.tile port).linkState) ∧
  (∀ (s : State) (port : Nat), (s.tile port).linkState ∈ [LinkState.map, .align, .hello, .step] →
    Completes (exec (.trainingPhaseTimeout port) s) fun t => ∃ u : State, t = u.bringupExit ∧ (u.tile port).failures = (s.tile port).failures + 1 ∧
      (u.tile port).backoff = decide (2 ≤ (s.tile port).failures) ∧
      (u.tile port).linkState = .map ∧
      ((s.tile port).failures = 2 → ∃ e : QEvent, e.source = 16 * port + 13 ∧ u.quench.raised = s.quench.raised ++ [e])) ∧
  (∀ (s : State) (port : Nat), (s.tile port).backoff = true →
    Completes (exec (.trainingBackoffExpiry port) s) fun t => (t.tile port).backoff = false ∧
      (t.tile port).linkState = .map) ∧
  (∀ (s : State) (port : Nat) (r : BitVec 2) (k : BitVec 24), (s.tile port).linkState = .step → (s.tile port).propRate = some (r, k) →
    Completes (exec (.rateStepSwitch port) s) fun t => (t.tile port).rate = r ∧ (t.tile port).prevRate = (s.tile port).rate ∧
      (t.tile port).qualifying = true ∧ (t.tile port).propRate = none) ∧
  (∀ (s : State) (port : Nat) (ws : List Nat), (s.tile port).linkState = .step → (s.tile port).qualifying = true →
    (∀ w ∈ ws, (s.tile port).marginFloor.toNat ≤ w) →
    Completes (exec (.rateQualifyEnd port false false ws) s) fun t => ∃ u : State, (u.tile port).qualifying = false ∧
      (u.tile port).rate = (s.tile port).rate ∧ t = u.stepOrUp port) ∧
  (∀ (s : State) (port : Nat) (bad ratio : Bool) (ws : List Nat), (s.tile port).linkState = .step → (s.tile port).qualifying = true →
    (bad = true ∨ ratio = true ∨ ∃ w ∈ ws, w < (s.tile port).marginFloor.toNat) →
    Completes (exec (.rateQualifyEnd port bad ratio ws) s) fun t => ∃ u : State, (u.tile port).qualifying = false ∧
      (u.tile port).rate = (s.tile port).prevRate ∧
      (∃ e : QEvent, e.source = 16 * port + 13 ∧ u.quench.raised = s.quench.raised ++ [e]) ∧ t = u.reachUp port)

/-- R693-R707: eye scans, Shoeing and width: a step is asked for, granted, begun, done, or given up. -/
def Obligations.ShoeingCompletes : Prop :=
  (∀ (s : State) (port lane : Nat) (w h : BitVec 6), (s.tile port).scans lane = false →
    Completes (exec (.eyeScanComplete port lane w h) s) fun t => t = s) ∧
  (∀ (s : State) (port lane : Nat) (w h : BitVec 6), (s.tile port).scans lane = true → (tgetD (s.tile port).lanes lane {}).active = false →
    Completes (exec (.eyeScanComplete port lane w h) s) fun t => (tgetD (t.tile port).lanes lane {}).eyeWidth = w ∧
      (tgetD (t.tile port).lanes lane {}).eyeHeight = h ∧ (t.tile port).wantStep = (s.tile port).wantStep ∧ t.out = s.out) ∧
  (∀ (s : State) (port lane : Nat) (w h : BitVec 6), (s.tile port).scans lane = true → (tgetD (s.tile port).lanes lane {}).active = true →
    (tgetD (s.tile port).lanes lane {}).lastStep = 0 → (tgetD (s.tile port).lanes lane {}).lastStepAt = 0 → w.toNat < (s.tile port).marginFloor.toNat →
    Completes (exec (.eyeScanComplete port lane w h) s) fun t => (tgetD (t.tile port).lanes lane {}).eyeWidth = w ∧
      (t.tile port).wantStep = some (1, BitVec.ofNat 8 (2 ^ lane)) ∧ ((s.tile port).linkState = .up → (s.tile port).shoe = none →
        (t.tile port).shoeing = true ∧ (t.tile port).shoe.isSome = true)) ∧
  (∀ (s : State) (port : Nat) (sh : Shoe), (s.tile port).shoe = some sh → (s.tile port).shoeing = true → (s.tile port).shod = false →
    (s.tile port).egress = [] → (s.tile port).retry.kept = [] → (s.tile port).soleUse = false →
    (∀ a, (s.tile port).soleClearAt = some a → us 1 ≤ (s.time.now - a).toNat) →
    Completes (exec (.shodSet port) s) fun t => (t.tile port).shod = true ∧ ∃ f, Output.flit port f ∈ t.out ∧ f.flitType = 5 ∧
      f.body.take 2 = [4, 2]) ∧
  (∀ (s : State) (port : Nat), (s.tile port).egress = [] →
    Completes (exec (.soleUseClear port) s) fun t => (t.tile port).soleUse = false ∧ (t.tile port).soleClearAt = some s.time.now) ∧
  (∀ (s : State) (port : Nat) (sh : Shoe), (s.tile port).shoe = some sh → (s.tile port).inStep = false →
    ((s.tile port).shod = true ∨ sh.own ≠ none) →
    Completes (exec (.shoeRequestSend port) s) fun t => ∃ f l, t.out = s.out ++ Output.flit port f :: l ∧ f.flitType = 5 ∧
      f.body.take 2 = [4, if (s.tile port).shod then 2 else 1]) ∧
  (∀ (s : State) (port : Nat) (sh : Shoe), (s.tile port).shoe = some sh → sh.begin_ ≠ none → (s.tile port).shod = true →
    (s.tile port).inStep = false → Completes (exec (.shoeBeginFrame port) s) fun t => (t.tile port).inStep = true ∧
      ∃ h, Output.training port h ∈ t.out) ∧
  (∀ (s : State) (port : Nat) (sh : Shoe) (rx tx : Int), (s.tile port).shoe = some sh → (s.tile port).inStep = true →
    sh.selfDone = false → sh.farDone = false →
    Completes (exec (.shoeStepRelock port rx tx) s) fun t => (t.tile port).shoe = some { sh with selfDone := true } ∧
      (∃ f, Output.flit port f ∈ t.out ∧ f.flitType = 5 ∧ f.body.take 2 = [4, 4]) ∧
      ∀ (x : Lane) (dr dt : Int), x = tgetD (s.tile port).lanes (refLane (s.tile port).lanesActive) {} → dr = toTick (x.rxPath + rx) - toTick x.rxPath →
        dt = toTick (x.txPath + tx) - toTick x.txPath → (dr ≠ 0 ∨ dt ≠ 0) →
        (t.tile port).delayReports = satInc (s.tile port).delayReports ∧ (t.tile port).time.shifts = (s.tile port).time.shifts + 1 ∧
        (t.tile port).time.rxCorr = (s.tile port).time.rxCorr + dr ∧ (t.tile port).time.txCorr = (s.tile port).time.txCorr + dt) ∧
  (∀ (s : State) (port : Nat) (sh : Shoe) (rx tx : Int), (s.tile port).shoe = some sh → (s.tile port).inStep = true →
    sh.selfDone = false → sh.farDone = true →
    Completes (exec (.shoeStepRelock port rx tx) s) fun t => ∃ u : State, t = u.settle ∧ (u.tile port).shoe = none ∧ (u.tile port).shoeing = false ∧
      (u.tile port).shod = false ∧ (u.tile port).inStep = false ∧ (u.tile port).shoeSteps = satInc (s.tile port).shoeSteps) ∧
  (∀ (s : State) (port : Nat) (sh : Shoe), (s.tile port).shoe = some sh → sh.own ≠ none → (s.tile port).inStep = false →
    (sh.farShod = false ∨ (s.tile port).shod = false) →
    Completes (exec (.shoeWaitExpiry port) s) fun t => ∃ u : State, (u.tile port).shoe = none ∧ (u.tile port).shoeing = false ∧
      (u.tile port).shod = false ∧ t = u.settle.modTile port fun x => { x with deferrals := satInc x.deferrals, shoeRetry := true }) ∧
  (∀ (s : State) (port kind : Nat) (lanes : BitVec 8) (i : Instr), (s.tile port).shoeRetry = true → (s.tile port).wantStep = some (kind, lanes) →
    (s.tile port).shoe = none → (s.tile port).linkState = .up → (i = .shoeRetryTimer port ∨ i = .idleRunStart port) →
    Completes (exec i s) fun t => (t.tile port).shoeing = true ∧ (t.tile port).shoeRetry = false ∧
      (t.tile port).nextShoeId = (s.tile port).nextShoeId + 1 ∧ (∃ sh, (t.tile port).shoe = some sh ∧ sh.shoeId = (s.tile port).nextShoeId ∧
        ∃ preset, sh.own = some (kind, lanes, preset)) ∧ ∃ f l, t.out = s.out ++ Output.flit port f :: l ∧ f.flitType = 5 ∧ f.body.take 2 = [4, 1]) ∧
  (∀ (s : State) (port : Nat), (s.tile port).linkState = .up → (s.tile port).shoeRetry = false →
    Completes (exec (.idleRunStart port) s) fun t => (t.tile port).idleRun = true ∧ t.out = s.out) ∧
  (∀ (s : State) (port : Nat), (s.tile port).linkState = .up → (s.tile port).lanesActive ≠ 0 → (s.tile port).lanesActive ≠ 0xff →
    (∀ k < 8, ∀ l, l = tgetD (s.tile port).lanes k {} → l.active = true ∨ l.excluded = true ∧ l.good = true ∧
      (s.tile port).marginFloor.toNat + 4 ≤ l.eyeWidth.toNat ∧ restoreBarred l = false) →
    (∀ r, (s.tile port).lastRestore = some r → 10 * secTicks ≤ (s.time.now - r).toNat) →
    Completes (exec (.widthRestore port) s) fun t => (t.tile port).wantStep = some (3, 0xff#8) ∧ (t.tile port).lastRestore = some s.time.now) ∧
  (∀ (s : State) (port lane : Nat) (rx : Bool) (d : Int), Completes (exec (.clockRecoveryPhaseMove port lane rx d) s) fun t =>
    (tgetD (t.tile port).lanes lane {}).rxPath = (tgetD (s.tile port).lanes lane {}).rxPath + (if rx then d else 0) ∧
    (tgetD (t.tile port).lanes lane {}).txPath = (tgetD (s.tile port).lanes lane {}).txPath + (if rx then 0 else d))

/-- R80-R83, R134, R174, R179, R196, R212, R216, R686-R689: a port's timers: replay, credit, Bellows, and the flits sent at intervals. -/
def Obligations.LinkTimersComplete : Prop :=
  (∀ (s : State) (port : Nat) (now : Ticks) (k : KeptFlit) (l : List KeptFlit), (s.tile port).retry.kept = k :: l →
    us 4 ≤ ((s.advance now).time.now - k.sentAt).toNat → (s.tile port).linkState = .up → (s.tile port).inStep = false →
    (s.tile port).retry.replayRun.toNat ≤ 1 →
    Completes (exec (.replayTimeout port now) s) fun t => (t.tile port).retry.replayRun = (s.tile port).retry.replayRun + 1 ∧
      (t.tile port).retry.kept.length = (k :: l).length ∧ s.out.length + (k :: l).length ≤ t.out.length ∧
      (t.tile port).linkState = .up) ∧
  (∀ (s : State) (port : Nat), Completes (exec (.creditDecay port) s) fun t => ∀ v l, tget (s.tile port).rx v = some l →
    tget (t.tile port).rx v = some (if l.busy then { l with busy := false } else
      { l with limit := max (s.tile port).vlFloor.toNat (l.limit - 512) })) ∧
  (∀ (s : State), Completes (exec .bellowsUpdate s) fun t => ∀ p x, tget s.tiles p = some x →
    tget t.tiles p = some { x with
      gate := gateFill x s.time.now, gateAt := s.time.now
      bellows := bellowsNext s.sched.onLevel s.sched.hardLevel s.sched.minFactor x.bellows (levelOf x) }) ∧
  (∀ (s : State), Completes (exec .congestionSummarySend s) fun t => ∀ p < 15, portUsable (s.tile p) 3 = true →
    ∃ f, Output.flit p f ∈ t.out ∧ f.flitType = 5 ∧ f.body = leBytes 1 2 ++ s.summaryBody) ∧
  (∀ (s : State) (port : Nat), (s.tile port).linkState = .up → (s.tile port).inStep = false →
    Completes (exec (.timeExchangeSend port) s) fun t => (t.tile port).time.exSeq = (s.tile port).time.exSeq + 1 ∧
      ∃ f l, t.out = s.out ++ Output.flit port f :: l ∧ f.flitType = 4 ∧ f.body = s.exchangeBody port (s.tile port).time.exSeq) ∧
  (∀ (s : State) (port : Nat), (s.tile port).linkState = .up → (s.tile port).inStep = false →
    Completes (exec (.tc3ChunkReportSend port) s) fun t => ∃ f l, t.out = s.out ++ Output.flit port f :: l ∧ f.flitType = 5 ∧
      f.body = leBytes 1 3 ++ (s.tile port).chunkBody) ∧
  (∀ (s : State) (port : Nat), ((s.tile port).linkState = .hello ∨ (s.tile port).linkState = .up ∧ 0 < (s.tile port).hellosToSend) →
    Completes (exec (.helloSend port) s) fun t => ∃ f l, t.out = s.out ++ Output.flit port f :: l ∧ f.flitType = 5 ∧
      f.body = leBytes 1 1 ++ s.helloBody port) ∧
  (∀ (s : State) (port : Nat), (s.tile port).linkState = .step → (s.tile port).propRate = none → (s.tile port).qualifying = false →
    s.leads port = true → (s.tile port).rate.toNat < (s.tile port).agreed.toNat →
    Completes (exec (.helloSend port) s) fun t => (t.tile port).propRate = some ((s.tile port).nextRate, (s.tile port).txFrame + 64) ∧
      ∃ f l, t.out = s.out ++ Output.flit port f :: l ∧ f.flitType = 5) ∧
  (∀ (s : State) (port : Nat), Completes (exec (.exchangeIntervalEnd port) s) fun t => ∃ u : State, t = u.elect ∧
    (u.tile port).time.goodRun = (if (s.tile port).time.delivered then min 8 ((s.tile port).time.goodRun + 1) else 0) ∧
    (u.tile port).time.delivered = false)

/-- R138-R141, R154-R157, R185-R193: a class's injection, a port's egress, and the timers of routing. -/
def Obligations.FlowCompletes : Prop :=
  (∀ (s : State) (tc : BitVec 2), (tc = 3 ∨ s.stopped = true) → Completes (exec (.injectionDecision tc) s) fun t => t = s) ∧
  (∀ (s v w : State) (tc : BitVec 2) (q q' : QPkt) (i o : Nat), s.stopped = false → tc.toNat < 2 → s.sched.inject = [q] → q.inst = some i →
    q.pkt.tc = tc → q.pkt.mcast = false →
    v = { s with sched.injectV := tset s.sched.injectV tc.toNat ((tgetD s.sched.injectV tc.toNat {}).fix s.time.now [(i, headOf q)]) } →
    v.injectHop q = (w, .out o, q') → v.mayInject i q.pkt o = true → s.inWindow q.pkt = true →
    ∃ u : State, exec (.injectionDecision tc) s = .next u.relook ∧ u.sched.inject = [] ∧
      ∃ x ∈ (u.tile o).egress, x.pkt = q'.pkt ∧ x.since = s.time.now) ∧
  (∀ (s : State) (tc : BitVec 2) (q : QPkt) (i : Nat), s.stopped = false → tc.toNat < 2 → s.sched.inject = [q] → q.inst = some i →
    q.pkt.tc = tc → q.pkt.mcast = true → s.castOk q.pkt.dst = true → s.mayInject i q.pkt ((s.fanPorts q).1.headD 0) = true →
    s.inWindow q.pkt = true → ∃ u : State, exec (.injectionDecision tc) s = .next u.relook ∧ u.sched.inject = []) ∧
  (∀ (s : State) (port : Nat), (s.tile port).linkState = .up → (s.tile port).inStep = false → (s.tile port).fenced = false →
    (s.tile port).egress = [] → Completes (exec (.portEgressDecision port) s) fun t => t.out = s.out ∧ (t.tile port).egress = []) ∧
  (∀ (s : State) (port : Nat) (q : QPkt), (s.tile port).linkState = .up → (s.tile port).inStep = false → (s.tile port).fenced = false →
    (s.tile port).egress = [q] → q.pkt.tc = 3 → q.sent = 0 → q.inPort = none → chunksOf q.pkt ≤ ((s.tile port).txLane (laneOf q.pkt)).credit →
    Completes (exec (.portEgressDecision port) s) fun t => ∃ f, Output.flit port f ∈ t.out ∧ f.flitType = 2 ∧
      f.vl = BitVec.ofNat 5 (laneOf q.pkt) ∧ f.firstStart = 0) ∧
  (∀ (s : State) (now : Ticks) (q : QPkt) (p : Nat), q ∈ s.routing.waiting → q.localOnly = false → q.inPort = some p →
    (∀ x ∈ s.routing.waiting, sameLane x q = true → x = q) →
    us s.routing.routeWaitUs.toNat ≤ ((s.advance now).time.now - q.since).toNat →
    Completes (exec (.routeWaitExpiry now) s) fun t => ∃ e ∈ t.quench.raised, e.source = 16 * p + 10) ∧
  (∀ (s : State) (now : Ticks), s.routing.swapScheduled = true → s.routing.swapAt.toNat ≤ (s.advance now).time.now.toNat →
    s.routing.otherBank = .pending → (s.routing.bank !s.routing.activeBank).gen = s.routing.activeGen + 1 →
    Completes (exec (.routeSwapFire now) s) fun t => ∃ u : State, t = u.rejoinAll ∧ u.routing.activeGen = s.routing.activeGen + 1 ∧
      u.routing.activeBank = (!s.routing.activeBank) ∧ u.routing.otherBank = .retiring ∧ u.routing.swapScheduled = false ∧
      u.routing.retireAt = (s.advance now).time.now + BitVec.ofNat 64 (us s.routing.retireUs.toNat)) ∧
  (∀ (s : State) (now : Ticks), s.routing.swapScheduled = true → s.routing.swapAt.toNat ≤ (s.advance now).time.now.toNat →
    (s.routing.otherBank ≠ .pending ∨ (s.routing.bank !s.routing.activeBank).gen ≠ s.routing.activeGen + 1) →
    Completes (exec (.routeSwapFire now) s) fun t => t.routing = { s.routing with swapScheduled := false, swapMissed := true } ∧
      ∃ e : QEvent, e.source = 1237 ∧ t.quench.raised = s.quench.raised ++ [e]) ∧
  (∀ (s : State) (now : Ticks), s.routing.otherBank = .retiring → s.routing.retireAt.toNat ≤ (s.advance now).time.now.toNat →
    Completes (exec (.bankRetire now) s) fun t => t.routing.otherBank = .empty ∧ t.routing.activeGen = s.routing.activeGen ∧
      t.routing.bank (!s.routing.activeBank) = {} ∧ t.routing.bank s.routing.activeBank = s.routing.bank s.routing.activeBank)

/-- R164-R168, R200-R202, R729: the TC3 transport's acknowledgements, and the samples of an epoch. -/
def Obligations.TransportCompletes : Prop :=
  (∀ (s : State) (port : Nat) (p : Packet) (k : StreamKey), s.hasArrival p = true → p.pktType = 0x14 → bit p.opExt 0 = true →
    k = streamKeyOf p (port == 63) →
    Completes (exec (.e2eAck port p) s) fun t => ∃ u : State, t = u.sendAck k (BitVec.ofNat 32 (bits p.typeWord 31 0)) 0 ∧
      u.routing.streamsRx.find? (fun x => x.key == k) = some { key := k, last := BitVec.ofNat 32 (bits p.typeWord 31 0) }) ∧
  (∀ (s : State) (port : Nat) (p : Packet) (k : StreamKey) (v : BitVec 32), s.hasArrival p = true → p.pktType = 0x14 → bit p.opExt 0 = false →
    bit p.opExt 1 = false → k = streamKeyOf { p with src := p.dst, dst := p.src } (port == 63) → v = BitVec.ofNat 32 (bits p.typeWord 31 0) →
    serialLt v (s.routing.txStream k).next = true →
    Completes (exec (.e2eAck port p) s) fun t => ∃ u : State, t = u.pumpStreams ∧ (u.routing.txStream k).fenced = false ∧
      (u.routing.txStream k).next = (s.routing.txStream k).next ∧
      (∀ e, e ∈ (u.routing.txStream k).store ↔ e ∈ (s.routing.txStream k).store ∧ serialLt v e.1.e2eSeq = true) ∧
      ((s.routing.txStream k).fenced = true → ∃ e : QEvent, e.source = 1248 ∧ e.kind = 1 ∧ u.quench.raised = s.quench.raised ++ [e])) ∧
  (∀ (s : State) (port : Nat) (p : Packet) (k : StreamKey), s.hasArrival p = true → p.pktType = 0x14 → bit p.opExt 0 = false →
    bit p.opExt 1 = true → k = streamKeyOf { p with src := p.dst, dst := p.src } (port == 63) →
    Completes (exec (.e2eAck port p) s) fun t => t = (s.takeArrival p).sendSync k) ∧
  (∀ (s : State) (k : StreamKey) (x : StreamRx), s.routing.streamsRx.find? (fun x => x.key == k) = some x → x.ackDue = true →
    Completes (exec (.e2eAckTimer k) s) fun t => ∃ u : State, t = u.sendAck k x.last 0 ∧
      u.routing.streamsRx.find? (fun x => x.key == k) = some { x with ackDue := false, sinceAck := 0 }) ∧
  (∀ (s : State) (k : StreamKey), Completes (exec (.tc3StreamSyncRetry k) s) fun t =>
    t = if (s.routing.txStream k).fenced then s.sendSync k else s) ∧
  (∀ (s : State) (now : Ticks) (boundary : Nat), s.sched.sampleEnable = true → Memory.wf s.mem = true →
    boundary = (s.advance now).time.now.toNat / (64 * s.sched.epochNs.toNat) * (64 * s.sched.epochNs.toNat) → 1 ≤ s.sched.epochNs.toNat →
    s.sched.sampleLast.toNat < boundary →
    Completes (exec (.sampleEpoch now) s) fun t => t.sched.sampleLast.toNat = boundary ∧ t.sched.sampleMax = s.standing s.sched.sampleQueues ∧
      ∀ q, s.sched.sampleQueues = [q] → ∀ off n, s.sched.sampleRing = some (off, n) →
        if s.sched.sampleCount < n then t.sched.sampleCount = s.sched.sampleCount + 1 ∧
          (∀ k b, (leBytes 8 boundary ++ leBytes 4 q.toNat)[k]? = some b →
            memGet t.mem (reportBase + off + 32 * s.sched.sampleCount + k) = b)
        else t.sched.sampleLost = s.sched.sampleLost + 1 ∧ t.mem = s.mem)

/-- R2, R20, R23, R631, R685, R710: IDENTIFY, and reads and writes of registers. -/
def Obligations.RegistersComplete : Prop :=
  (∀ (s : State) (c : Call), Does (.identify c) s (.res (leBytes 8 Config.hubId.toNat ++ leBytes 8 s.moduleIdWord ++ leBytes 8 s.shapeWord ++
    leBytes 8 (modeCode s.hearth.mode) ++ leBytes 8 s.hearth.version.toNat ++ leBytes 48 (Config.sha384 s.hearth.roleMap).toNat))
    fun u => u.routing = s.routing) ∧
  (∀ (s : State) (c : Call) (block index : Nat) (offset : BitVec 32) (count : Nat) (code : BitVec 16) (a : Allowed),
    regBlockOk block index = true → offset.toNat % 8 = 0 → 1 ≤ count → count ≤ 120 →
    (∀ k < count, s.regScope (s.authOf c.via) c block (offset.toNat + 8 * k) = true) →
    s.Executes (.regRead c block index offset count) c code a → ∃ bs, bs.length = 8 * count ∧
      (block ∉ [0x0b, 0x12, 0x13] → ∀ k < count,
        sliceBytes bs (8 * k) 8 = leBytes 8 ((s.regAt block index (offset.toNat + 8 * k)).1.getD 0)) ∧
      Answers (exec (.regRead c block index offset count) s) c code (.res bs) fun u => u.routing = s.routing ∧ u.quench = s.quench) ∧
  (∀ (s : State) (c : Call) (index : Nat) (value mask w : Word), index < 64 →
    w = (BitVec.ofNat 64 (s.tile index).laneCfg &&& ~~~mask) ||| (value &&& mask) → bits w 16 11 < bits w 10 5 → bits w 24 17 ≠ 0 →
    Does (.regWrite c 1 index 0x130 value mask) s .ok fun u => ∃ v : State, (v.tile index).laneCfg = bits w 24 0 ∧
      u = if (s.tile index).test = true ∧ bit w 4 = false ∧ s.hearth.mode = .diagnostic then v.retrain index none (16 * index + 12) else v) ∧
  (∀ (s : State) (c : Call) (block index : Nat) (offset : BitVec 32) (value mask : Word), regBlockOk block index = true →
    offset.toNat % 8 = 0 → ¬(block = 1 ∧ offset.toNat = 0x130) → (s.regAt block index offset.toNat).1 = none →
    Does (.regWrite c block index offset value mask) s .ok fun u => u.tiles = s.tiles ∧
      ∃ e : QEvent, e.source = 1228 ∧ u.quench.raised = s.quench.raised ++ [e]) ∧
  (∀ (s : State) (c : Call) (block index : Nat) (offset : BitVec 32) (value mask : Word), regBlockOk block index = true →
    offset.toNat % 8 = 0 → ¬(block = 1 ∧ offset.toNat = 0x130) → (s.regAt block index offset.toNat).1 ≠ none →
    Does (.regWrite c block index offset value mask) s .ok fun u => u.tiles = s.tiles ∧ u.quench = s.quench)

/-- R167, R490, R616-R619, R622: Fleso's requests and responses on the fabric and the sideband, and the resends of TC3. -/
def Obligations.RequestsArrive : Prop :=
  (∀ (s : State) (p : Packet), (63, p) ∈ s.routing.arrivals → p.pktType = 0x10 →
    Serves (exec (.mgmtCmd 63 p) s) fun u => ∃ q, u.hearth.queue = s.hearth.queue ++ [q] ∧ q.via = .f63 p.src ∧
      q.opcode = (reqOf p.payload).opcode ∧ q.seq = (reqOf p.payload).seq ∧ q.args = p.payload.drop 16 ∧
      u.hearth.fabricQueue = s.hearth.fabricQueue) ∧
  (∀ (s : State) (port : Nat) (p : Packet), port ≠ 63 → (port, p) ∈ s.routing.arrivals → p.pktType = 0x10 →
    s.hearth.fabricQueue.length < 1024 →
    Serves (exec (.mgmtCmd port p) s) fun u => ∃ q, u.hearth.fabricQueue = s.hearth.fabricQueue ++ [q] ∧ q.via = .fabric port p.src ∧
      q.opcode = (reqOf p.payload).opcode ∧ q.seq = (reqOf p.payload).seq ∧ u.hearth.queue = s.hearth.queue) ∧
  (∀ (s : State) (port : Nat) (p : Packet), port ≠ 63 → (port, p) ∈ s.routing.arrivals → p.pktType = 0x10 →
    1024 ≤ s.hearth.fabricQueue.length →
    Completes (exec (.mgmtCmd port p) s) fun t => t.hearth.fabricBusy = satInc s.hearth.fabricBusy ∧
      t.hearth.fabricQueue = s.hearth.fabricQueue ∧ t.hearth.queue = s.hearth.queue) ∧
  (∀ (s : State) (eid : BitVec 8) (r : ReqHdr) (k : BitVec 8 × Resp),
    s.hearth.keptResp.find? (fun e => e.1 == eid && e.2.seq == r.seq) = some k →
    Completes (exec (.mctpRequest eid r) s) fun t => t.out = s.out ++ [.mctp eid k.2] ∧ t.hearth.queue = s.hearth.queue ∧
      t.hearth.sidebandRepeats = satInc s.hearth.sidebandRepeats) ∧
  (∀ (s : State) (eid : BitVec 8) (r : ReqHdr), s.hearth.keptResp.find? (fun e => e.1 == eid && e.2.seq == r.seq) = none →
    Serves (exec (.mctpRequest eid r) s) fun u => u.hearth.queue = s.hearth.queue ++ [qcmdOf (.sideband eid) r] ∧ u.out = s.out) ∧
  (∀ (s : State) (port slot : Nat) (p : Packet) (x : QCmd × Ticks) (fn : Fn) (y : Slot), (port, p) ∈ s.routing.arrivals → p.pktType = 0x11 →
    s.hearth.running.find? (fun x => x.1.forward && x.1.target == addrModule p.src && x.1.seq == (respOf p.payload).seq &&
      x.1.opcode == (respOf p.payload).opcode) = some x → x.1.via = .mailbox fn slot → tget (s.mbox fn).slots slot = some y →
    y.state = .running → y.seq = (respOf p.payload).seq →
    Completes (exec (.mgmtResp port p) s) fun t => t.hearth.running = s.hearth.running.erase x ∧
      tget (t.mbox fn).slots slot = some { y with state := .done, resp := some (respOf p.payload) }) ∧
  (∀ (s : State) (port : Nat) (p : Packet), (port, p) ∈ s.routing.arrivals → p.pktType = 0x11 →
    s.hearth.running = [] → (respOf p.payload).opcode = 0x0606 → addrModule p.src ∈ s.striker.queried →
    Completes (exec (.mgmtResp port p) s) fun t => ∃ u : State, t = u.summaryKnown (addrModule p.src) ∧
      addrModule p.src ∉ u.striker.queried ∧ (addrModule p.src, s.time.now, (respOf p.payload).result) ∈ u.striker.summaries) ∧
  (∀ (s : State) (k : StreamKey) (now : Ticks), (s.routing.txStream k).fenced = false →
    (∃ e ∈ (s.routing.txStream k).store, us s.routing.timeoutUs.toNat ≤ ((s.advance now).time.now - e.2.2).toNat) →
    (∀ e ∈ (s.routing.txStream k).store, us s.routing.timeoutUs.toNat ≤ ((s.advance now).time.now - e.2.2).toNat →
      e.2.1 < s.routing.resendLimit.toNat) →
    Completes (exec (.tc3ResendTimeout k now) s) fun t => (t.routing.txStream k).store = (s.routing.txStream k).store.map fun e =>
      if us s.routing.timeoutUs.toNat ≤ ((s.advance now).time.now - e.2.2).toNat then (e.1, e.2.1 + 1, (s.advance now).time.now) else e) ∧
  (∀ (s : State) (k : StreamKey) (now : Ticks) (e : Packet × Nat × Ticks), (s.routing.txStream k).fenced = false →
    e ∈ (s.routing.txStream k).store → us s.routing.timeoutUs.toNat ≤ ((s.advance now).time.now - e.2.2).toNat →
    s.routing.resendLimit.toNat ≤ e.2.1 → k.viaF63 = true →
    Completes (exec (.tc3ResendTimeout k now) s) fun t => (t.routing.txStream k).fenced = true ∧ (t.routing.txStream k).store = [] ∧
      (t.routing.txStream k).queue = [] ∧ ∃ e ∈ t.quench.raised, e.source = 1248)

/-! ### The machine as a whole -/

/-- A step takes the command at the front of the queue and runs exec on it with the queue's rest. On an empty queue it is one cycle
of the time clock: Machine Time moves by 64 ticks and the adjustment, which is freq + slew within 200 ppm, the fraction of a tick is
kept, and nothing else changes (R204, R222; that an empty queue is that cycle is the model's choice of assumption log 2). -/
def Obligations.StepRunsFrontCommand : Prop :=
  (∀ (s : State) (c : Instr) (rest : List Instr), s.pending = c :: rest → step s = exec c { s with pending := rest }) ∧
  (∀ s : State, s.pending = [] → ∃ t, step s = .next t ∧ (∃ a b, t.time = { s.time with now := a, frac := b }) ∧
    (s.time.now.toNat + 128 < 2 ^ 64 → (t.time.now.toNat : Int) * 2 ^ 32 + t.time.frac.toNat =
      s.time.now.toNat * 2 ^ 32 + s.time.frac.toNat + 64 * 2 ^ 32 + s.time.adjustment) ∧
    ∀ x, x ≠ Part.time → t.agrees s x)

/-- R264, R265: the invariant holds after reset. -/
def Obligations.ResetMeetsInvariant : Prop := State.reset.Inv

/-- R264, R265, R603: in every state that meets the invariant, whatever command heads the queue, a step leaves segments 0, 1 and 2 exposed
to no head, the module's record rings in the report segment, and memory in its canonical form. -/
def Obligations.StepKeepsInvariant : Prop := ∀ s t : State, s.Inv → step s = .next t → t.Inv

/-- The frame of every command: it changes no part of the module but those that changes lists for it; none changes the queue. The part
outside is module memory outside the report segment: STAGE_WRITE, the CXL.mem accesses and the snoop answers that let waiting ones go on,
PUT, ATOMIC_REQ, MOVE and the resets have it, and every other command leaves each byte of it as it was, while the module's own rings lie
in the report segment (R265, R628). -/
def Obligations.CommandsChangeOnlyTheirParts : Prop :=
  ∀ (i : Instr) (s t : State), exec i s = .next t →
    (∀ x, x ∉ changes i → t.agrees s x) ∧ t.pending = s.pending

/-- R629, R387, R405, R580, R265, R200, R770: where the rows that store put their bytes. Each address is computed as the meaning computes it;
every byte outside the stored ones reads as before (for ATOMIC_REQ and MOVE, whose records may fill a ring, outside the report
segment too). A head's CXL.mem access, like a snoop answer, also lets the writes that wait (R270) store theirs. A form that stores nothing
changes no byte. -/
def Obligations.StoresStayInPlace : Prop :=
  (∀ (c : Call) (handle : Nat) (offset : BitVec 32) (data : List Byte) (s t : State), exec (.stageWrite c handle offset data) s = .next t →
    ∀ a, (∀ b, s.buffer c.via handle = some b → a < b.addr + offset.toNat ∨ b.addr + offset.toNat + data.length ≤ a) →
      memGet t.mem a = memGet s.mem a) ∧
  (∀ (head : Nat) (foreign window : Bool) (offset : Word) (data : List Byte) (s t : State),
    exec (.cxlMemWrite head foreign window offset data) s = .next t →
    ∀ a, (foreign = false → window = false → a < offset.toNat ∨ offset.toNat + data.length ≤ a) →
      (∀ r ∈ (s.port head).m2s, ∀ d, r.write = some d → r.window = false → a < r.addr ∨ r.addr + d.length ≤ a) →
      memGet t.mem a = memGet s.mem a) ∧
  (∀ (head : Nat) (foreign window : Bool) (offset : Word) (s t : State), exec (.cxlMemRead head foreign window offset) s = .next t →
    ∀ a, (∀ r ∈ (s.port head).m2s, ∀ d, r.write = some d → r.window = false → a < r.addr ∨ r.addr + d.length ≤ a) →
      memGet t.mem a = memGet s.mem a) ∧
  (∀ (head line : Nat) (s t : State), s.RingsIn → exec (.birsp head line) s = .next t →
    ∀ a, ¬ inReport a 1 →
      (∀ h < 4, ∀ r ∈ (s.port h).m2s, ∀ d, r.write = some d → r.window = false → a < r.addr ∨ r.addr + d.length ≤ a) →
      memGet t.mem a = memGet s.mem a) ∧
  (∀ (p : Packet) (acc : Access) (s t : State), exec (.putPacket p acc) s = .next t →
    ∀ a, (∀ w off, w = s.window (s.targetInst p) (bits p.typeWord 59 48) → off = bits p.typeWord 47 0 + p.opOffset.toNat → bit w 113 = true →
        a < bits w 63 0 + off ∨ bits w 63 0 + off + p.payload.length ≤ a) →
      memGet t.mem a = memGet s.mem a) ∧
  (∀ (p : Packet) (old : BitVec 128) (oldPoison : Bool) (acc : Access) (s t : State), s.RingsIn → exec (.atomicReq p old oldPoison acc) s = .next t →
    ∀ a, ¬ inReport a 1 →
      (∀ w off, w = s.window (s.targetInst p) (bits p.typeWord 59 48) → off = bits p.typeWord 47 0 → bit w 113 = true →
        leAt p.payload 0 1 ≠ 0x10 → a < bits w 63 0 + off ∨ bits w 63 0 + off + atypeSize (leAt p.payload 1 1) ≤ a) →
      memGet t.mem a = memGet s.mem a) ∧
  (∀ (channel : Nat) (write : Bool) (wr : Access) (s t : State), s.RingsIn → exec (.move channel write wr) s = .next t →
    ∀ a, ¬ inReport a 1 →
      (∀ j, write = true → (s.chan channel).writeJob = some j → j.dstSpace = true →
        ∀ i, i < j.good.2 - j.good.1 → a ≠ s.space1 (s.chan channel) ((j.dst + BitVec.ofNat 64 j.good.1).toNat + i)) →
      memGet t.mem a = memGet s.mem a) ∧
  (∀ (core : Nat) (pc : Word) (skid : Nat) (masked idle : Bool) (opcode : BitVec 16) (task : BitVec 32) (s t : State),
    exec (.hsSampleTrigger core pc skid masked idle opcode task) s = .next t →
    ∀ a, a < bits s.counters.hsRing 36 0 ∨ bits s.counters.hsRing 36 0 + 64 + 32 * 2 ^ bits s.counters.hsRing 41 37 ≤ a →
      memGet t.mem a = memGet s.mem a) ∧
  (∀ (now : Ticks) (s t : State), exec (.sampleEpoch now) s = .next t →
    ∀ a, (∀ off n, s.sched.sampleRing = some (off, n) → a < reportBase + off ∨ reportBase + off + 32 * n ≤ a) →
      memGet t.mem a = memGet s.mem a)

/-- R16, R111: what a write leaves in module memory. The bytes written read back, every other byte is as before, the canonical form stays;
a poisoned write poisons every line it touches, and a clean one clears the lines it covers whole. -/
def Obligations.MemoryReadsBack : Prop :=
  (∀ (m : List Host.Cell) (a : Nat) (bs : List Byte), Memory.wf m = true →
    Memory.wf (memWrite m a bs) = true ∧ memRead (memWrite m a bs) a bs.length = bs ∧
    ∀ x, x < a ∨ a + bs.length ≤ x → memGet (memWrite m a bs) x = memGet m x) ∧
  (∀ (s : State) (a : Nat) (bs : List Byte) (p : Bool) (l : Nat), bs ≠ [] →
    (l ∈ (s.storeMem a bs p).poison ↔
      if a < l * 64 + 64 ∧ l * 64 < a + bs.length then (if p then True else l ∈ s.poison ∧ coversLine a bs.length l = false) else l ∈ s.poison))

/-- No command is refused, and none faults but a CXL.mem access beyond module memory (R264): every command of the table runs in every
state. -/
def Obligations.EveryCommandRuns : Prop :=
  ∀ (i : Instr) (s : State), (∃ t, exec i s = .next t) ∨
    (exec i s = .fault .noSuchAddress ∧
      ((∃ h f w o, i = .cxlMemRead h f w o) ∨ ∃ h f w o d, i = .cxlMemWrite h f w o d))

/-- R264, R265: the module has 512 segments of 256 MiB, and a report window has one: a CXL.mem access beyond them is to an address that
does not exist. No host reaches segments 0, 1 and 2: a read returns nothing, a write stores nothing. -/
def Obligations.HostsReachExposedMemoryOnly : Prop :=
  (∀ (head : Nat) (offset : Word) (s : State), s.memOn head = true → 512 * 268435456 ≤ offset.toNat →
    exec (.cxlMemRead head false false offset) s = .fault .noSuchAddress) ∧
  (∀ (head : Nat) (offset : Word) (s : State), s.memOn head = true → 268435456 ≤ offset.toNat →
    exec (.cxlMemRead head false true offset) s = .fault .noSuchAddress) ∧
  (∀ (head : Nat) (offset : Word) (data : List Byte) (s : State), s.memOn head = true → 512 * 268435456 < offset.toNat + data.length →
    exec (.cxlMemWrite head false false offset data) s = .fault .noSuchAddress) ∧
  (∀ (head : Nat) (offset : Word) (data : List Byte) (s : State), s.memOn head = true → 268435456 < offset.toNat + data.length →
    exec (.cxlMemWrite head false true offset data) s = .fault .noSuchAddress) ∧
  (∀ (head : Nat) (offset : Word) (s : State), s.Inv → offset.toNat < 3 * 268435456 → (s.port head).m2s = [] →
    Completes (exec (.cxlMemRead head false false offset) s) fun t =>
      t.out = s.out ∧ (∀ h, t.port h = s.port h) ∧ ∀ x, x ≠ .ports → t.agrees s x) ∧
  (∀ (head : Nat) (offset : Word) (data : List Byte) (s : State), s.Inv → offset.toNat < 3 * 268435456 → data ≠ [] →
    offset.toNat + data.length ≤ 512 * 268435456 → (s.port head).m2s = [] →
    Completes (exec (.cxlMemWrite head false false offset data) s) fun t =>
      t.out = s.out ∧ t.mem = s.mem ∧ (∀ h, t.port h = s.port h) ∧ ∀ x, x ≠ .ports → t.agrees s x)

/-- R608, R613, R620, R621, R623-R625, R731: where a command of Fleso does not execute. Not at the head of its arrival point it changes
nothing; taken, it is answered wrong_mode, then no_authority, then wrong_state after a Halt, then bad_argument with the offset of the
field that is malformed, and has no effect besides. -/
def Obligations.FlesoTurnsAway : Prop :=
  ∀ (i : Instr) (s : State) (c : Call) (code : BitVec 16) (k : Allowed), commandOf i = some (c, code, k) →
    (s.front c.via c.seq code = none → exec i s = .next s) ∧
    ∀ q, s.front c.via c.seq code = some q →
      (s.modeRefuses (s.authOf c.via) code = true →
        exec i s = .next ((s.take q).reply c code (.errD eWrongMode (leBytes 1 (modeCode s.hearth.mode)))).serve) ∧
      (s.modeRefuses (s.authOf c.via) code = false →
        (s.allows k code (s.authOf c.via) = false → exec i s = .next ((s.take q).reply c code (.err eNoAuthority)).serve) ∧
        (s.allows k code (s.authOf c.via) = true →
          (s.quench.halted = true → haltOps.contains code = false → exec i s = .next ((s.take q).reply c code (.err eWrongState)).serve) ∧
          (s.quench.halted = false ∨ haltOps.contains code = true → ∀ o, c.malformed = some o →
            exec i s = .next ((s.take q).reply c code (.badAt o.toNat)).serve)))

/-- R731: after a Halt the data path stands still. No descriptor is fetched or started, no packet is injected or taken by an engine, no
Drawing beat, collective step or record is made: these commands change nothing. -/
def Obligations.HaltStopsDataPath : Prop :=
  ∀ s : State, s.quench.halted = true →
    (∀ wq, exec (.descriptorFetch wq) s = .next s ∧ exec (.nop wq) s = .next s ∧ exec (.put wq) s = .next s ∧ exec (.get wq) s = .next s ∧
      exec (.atomic wq) s = .next s ∧ exec (.msgSend wq) s = .next s ∧ exec (.msgCancel wq) s = .next s ∧ exec (.collective wq) s = .next s ∧
      exec (.drawRun wq) s = .next s ∧ exec (.tallyAdd wq) s = .next s) ∧
    (∀ wq acc, exec (.msgRecv wq acc) s = .next s) ∧
    (∀ tc, exec (.injectionDecision tc) s = .next s) ∧
    (∀ p, exec (.msgRts p) s = .next s ∧ exec (.response p) s = .next s ∧ exec (.fault p) s = .next s ∧ exec (.collInstall p) s = .next s ∧
      exec (.collSwitch p) s = .next s ∧ exec (.collStall p) s = .next s ∧ exec (.collProbe p) s = .next s ∧
      exec (.collProbeAnswer p) s = .next s ∧ exec (.collRestart p) s = .next s ∧ exec (.collFinalQuery p) s = .next s ∧
      exec (.collFinalAnswer p) s = .next s ∧ exec (.collAbort p) s = .next s ∧ exec (.collDone p) s = .next s ∧
      exec (.collClose p) s = .next s ∧ exec (.collDestroy p) s = .next s) ∧
    (∀ p acc, exec (.msgEager p acc) s = .next s ∧ exec (.putPacket p acc) s = .next s ∧ exec (.getReq p acc) s = .next s ∧
      exec (.getResp p acc) s = .next s ∧ exec (.atomicResp p acc) s = .next s ∧ exec (.collData p acc) s = .next s) ∧
    (∀ p old bad acc, exec (.atomicReq p old bad acc) s = .next s) ∧
    (∀ src tag, exec (.operationEnd src tag) s = .next s) ∧
    (∀ n, exec (.loop n) s = .next s ∧ exec (.wait n) s = .next s ∧ exec (.signal n) s = .next s ∧ exec (.endProg n) s = .next s) ∧
    (∀ n write acc, exec (.move n write acc) s = .next s)

/-- R630: the frame of the commands that set registers of an engine, or make or change one entry of a table. Of the engine's part they change
only those registers; every other queue, ring, window, domain, segment, instance and channel is as it was. -/
def Obligations.SettingsFrame : Prop :=
  (∀ c w (s t : State), exec (.strikerCfg c w) s = .next t → ∃ a1 a2 a3 a4 a5 a6 a7, t.striker = { s.striker with
    periodUs := a1, hotPct := a2, coolPct := a3, migPerEpoch := a4, minDwellMs := a5, replaceMarginPct := a6, reservePct := a7 }) ∧
  (∀ c w (s t : State), exec (.collCfg c w) s = .next t → ∃ a1 a2, t.coll = { s.coll with timeoutUs := a1, storeMib := a2 }) ∧
  (∀ c w x (s t : State), exec (.matchCfg c w x) s = .next t → ∃ a1 a2 a3 a4 l, t.matching = { s.matching with
    orderWaitUs := a1, orderAbandonMs := a2, postedSpillMib := a3, unexpPoolMib := a4, eagerLimit := l } ∧
    ∀ i, (∀ y, x = some y → i ≠ y.1) → tget l i = tget s.matching.eagerLimit i) ∧
  (∀ c w (s t : State), exec (.remoteCfg c w) s = .next t → ∃ a1 a2 a3 a4 a5, t.remote = { s.remote with
    opTimeoutMs := a1, msgTimeoutMs := a2, tombUs := a3, resendMax := a4, openExpireMs := a5 }) ∧
  (∀ c i win e (s t : State), exec (.windowWrite c i win e) s = .next t → ∃ l, t.remote = { s.remote with windows := l } ∧
    ∀ n, n % 4096 ≠ win → tget l n = tget s.remote.windows n) ∧
  (∀ c d f r (s t : State), exec (.transDomain c d f r) s = .next t → ∃ l m, t.trans = { s.trans with formats := l, roots := m } ∧
    ∀ n, n ≠ d → tget l n = tget s.trans.formats n ∧ tget m n = tget s.trans.roots n) ∧
  (∀ c d va n (s t : State), exec (.transUnlock c d va n) s = .next t → ∃ l, t.trans = { s.trans with tlb := l } ∧
    l.map (fun e => { e with locked := false }) = s.trans.tlb.map fun e => { e with locked := false }) ∧
  (∀ c b (s t : State), exec (.strokeEnable c b) s = .next t → ∃ a1 a2, t.time = { s.time with strokeEnable := a1, strokeIdx := a2 }) ∧
  (∀ c r (s t : State), exec (.strokeAdmit c r) s = .next t → ∃ a1, t.time = { s.time with admission := a1 }) ∧
  (∀ c w (s t : State), exec (.timeSet c w) s = .next t → ∃ a1, t.time = { s.time with timeSet := a1 }) ∧
  (∀ c i q z b w r (s t : State), exec (.wqCreate c i q z b w r) s = .next t →
    ∀ n, (s.wq n).isSome = true ∨ (∃ m, q = some m ∧ m ≠ n) → t.wq n = s.wq n) ∧
  (∀ c i q z b w v e (s t : State), exec (.cqCreate c i q z b w v e) s = .next t →
    ∀ n, (s.cq n).isSome = true ∨ (∃ m, q = some m ∧ m ≠ n) → t.cq n = s.cq n) ∧
  (∀ c r e v (s t : State), exec (.cqSignal c r e v) s = .next t → (∀ n, n ≠ r → t.cq n = s.cq n) ∧
    ∀ x, s.cq r = some x → ∃ a1 a2, t.cq r = some { x with irqEnable := a1, vector := a2 }) ∧
  (∀ c g h (s t : State), exec (.segmentExpose c g h) s = .next t → ∀ n, n ≠ g → tget t.segments n = tget s.segments n) ∧
  (∀ c i m b k v o (s t : State), exec (.dirtyLog c i m b k v o) s = .next t → (∀ n, n ≠ i → t.inst n = s.inst n) ∧
    ∃ a1 a2 a3 a4 a5 a6 a7 a8, t.inst i = { s.inst i with
      logMode := a1, logBase := a2, logK := a3, vaBase := a4, logTail := a5, logHead := a6, logLost := a7, overflow := a8 }) ∧
  (∀ c n o p f (s t : State), exec (.drawChannel c (some n) o p f) s = .next t → ∀ m, m ≠ n → t.chan m = s.chan m)

/-- R550, R551: an instance never acts on another instance. A command of the mailbox of the function bound to instance j that names another
instance, a queue, a ring or a context of another, is answered no_authority and has no effect besides. -/
def Obligations.InstancesStayApart : Prop :=
  ∀ (s : State) (i j : Nat), i ≠ j → ∀ (x : Instr) (c : Call) (code : BitVec 16) (k : Allowed),
    s.Executes x c code k → s.authOf c.via = .inst j →
    ((i < 1024 ∧ x = .instReopen c i) ∨
      (∃ word, bits word 9 0 = i ∧ bits word 31 10 = 0 ∧ bits word 63 48 = 0 ∧ x = .instQuery c word) ∨
      (∃ q z b w r, x = .wqCreate c (some i) q z b w r) ∨
      (∃ q z b w v e, x = .cqCreate c (some i) q z b w v e) ∨
      (∃ n r e v, s.cq n = some r ∧ r.inst = some i ∧ x = .cqSignal c n e v) ∨
      (∃ n r y, s.cq n = some r ∧ r.inst = some i ∧ x = .queueStatus c true n y) ∨
      (∃ a1 a2 a3 a4 a5 a6 a7 a8 a9, x = .ctxCreate c (some i) a1 a2 a3 a4 a5 a6 a7 a8 a9) ∨
      (∃ win e, x = .windowWrite c (some i) win e) ∨
      (∃ a1 a2 a3 a4 a5, x = .tallyAlloc c (some i) a1 a2 a3 a4 a5) ∨
      (∃ n v, x = .tallyArm c (some i) n v) ∨
      (∃ n, x = .tallyRead c (some i) n) ∨
      (∃ n, x = .tallyFree c (some i) n)) →
    ∃ q, s.front c.via c.seq code = some q ∧ exec x s = .next ((s.take q).reply c code (.err eNoAuthority)).serve

/-! ### Exact sums -/

/-- R456, R457: every accumulator, in its shortest record, reads back from a packet's payload, whatever records follow it; a record is at
most 36 words long. -/
def Obligations.ExactRecordsReadBack : Prop :=
  ∀ (x : Exact) (rest : List Byte) (n : Nat), exactsOf (n + 1) (x.bytes ++ rest) = (exactsOf n rest).map (x :: ·) ∧
    x.bytes.length ≤ 288

/-- R453-R455: an exact sum of finite values is their sum, however many there are up to 2^20, in whatever order they come; one value
converts back to itself. -/
def Obligations.ExactSumsAreExact : Prop :=
  ∀ f ∈ [bf16, fp16, fp32, fp64], ∀ (v : Nat) (l : List Nat),
    ((∀ x ∈ v :: l, f.isNan x = false ∧ f.isInf x = false) → l.length < 1048576 →
      (l.foldl (fun x w => x.add (exactOf f w)) (exactOf f v)).a.toInt = ((v :: l).map f.value).sum * 2 ^ f.shift) ∧
    (∀ w m, (v :: l).Perm (w :: m) →
      l.foldl (fun x w => x.add (exactOf f w)) (exactOf f v) = m.foldl (fun x w => x.add (exactOf f w)) (exactOf f w)) ∧
    (v < 2 ^ f.width → (exactOf f v).toFmt f = if f.isNan v then f.qnan else v)

/-- R451: integer sums, every minimum and maximum, and the bitwise reductions of in-range elements are associative and commutative. -/
def Obligations.ReductionsAnyOrder : Prop :=
  ∀ (d r a b c : Nat), d < 8 → (r = 0 → dtypeFloat d = false) → a < 2 ^ (8 * dtypeSize d) → b < 2 ^ (8 * dtypeSize d) →
    c < 2 ^ (8 * dtypeSize d) →
    reduceElem d r a b = reduceElem d r b a ∧ reduceElem d r (reduceElem d r a b) c = reduceElem d r a (reduceElem d r b c)

/-! ### Rules as they stand -/

/-- R309: a completion-ring doorbell that R306 does not discard. -/
def Obligations.CompletionDoorbell : Prop :=
  ∀ (fn : Fn) (ring : BitVec 14) (g : BitVec 32) (s : State) (c : Cq), s.cq ring.toNat = some c → s.quench.halted = false → c.owner = fn →
    c.state ≠ .disabled → ∃ t c', exec (.cqDoorbell fn ring g 0 true) s = .next t ∧ t.cq ring.toNat = some c' ∧
      if (g - c.head).toNat ≤ (c.tail - c.head).toNat then c'.head = g
      else c' = { c with headStale := true } ∧ ∃ e, t.quench.raised = s.quench.raised ++ [e] ∧ e.source = 1024 + 32 * fn.port + 8

/-- R49: a machine-identity command outside Hearth boot and Link bring-up. -/
def Obligations.IdentityOnlyAtBringup : Prop :=
  ∀ (c : Call) (id : ModId) (p g m ws wg : Nat) (s : State) (code : BitVec 16) (k : Allowed),
    s.Executes (.machineIdentity c id p g m ws wg) c code k →
    (s.hearth.mode ≠ .hearthBoot → s.hearth.mode ≠ .linkBringup →
      ∃ q, s.front c.via c.seq code = some q ∧ exec (.machineIdentity c id p g m ws wg) s =
        .next ((s.take q).reply c code (.errD eWrongMode (leBytes 1 (modeCode s.hearth.mode)))).serve) ∧
    (s.hearth.mode = .hearthBoot ∨ s.hearth.mode = .linkBringup → shapeOk (p + 1) (g + 1) (m + 1) ws wg = true →
      idValidIn (p + 1) (g + 1) (m + 1) id = true →
      Answers (exec (.machineIdentity c id p g m ws wg) s) c code .ok fun u => u.routing.idValid = true ∧ u.routing.moduleId = id)

/-- R746: an injection whose event would take Halt or Cracked. -/
def Obligations.GraveInjectionRefused : Prop :=
  ∀ (c : Call) (ctrl : Word) (at_ : Ticks) (s : State) (code : BitVec 16) (k : Allowed), s.Executes (.inject c ctrl at_) c code k →
    bits ctrl 10 0 < 1408 → bits ctrl 15 13 = 0 → bits ctrl 27 16 < 64 → bits ctrl 27 16 = 0 ∨ unitKind (bits ctrl 10 0) = 2 →
    bits ctrl 63 28 = 0 → 3 ≤ s.wouldTake (bits ctrl 10 0) (bit ctrl 11) (bit ctrl 12) → s.hearth.mode ≠ .diagnostic →
    ∃ q, s.front c.via c.seq code = some q ∧
      exec (.inject c ctrl at_) s = .next ((s.take q).reply c code (.errD eWrongMode (leBytes 1 (modeCode s.hearth.mode)))).serve
end

