-- ==== Sys2Proof/Laws/Frame.lean ====
section
/-! SUPPORT. Frames: how State.agrees composes along calls, record updates, choices and loops, so that every operation
gets one lemma saying which parts of the module it may change. Every operation also keeps module memory canonical. -/

namespace Sys2Proof.Machine

open Sys2Proof

/-- t differs from s in parts of W only, keeps memory canonical, and the module's rings in the report segment. -/
structure Same (W : List Part) (t s : State) : Prop where
  parts : ∀ x, W.contains x = false → t.agrees s x
  wf : Memory.wf s.mem = true → Memory.wf t.mem = true
  rings : s.RingsIn → t.RingsIn

/-- Whether every part of V is one of W. -/
def subParts (V W : List Part) : Bool := V.all W.contains

theorem State.agrees_refl (s : State) (x : Part) : s.agrees s x := by cases x <;> first | rfl | exact fun h => ⟨h, fun _ _ => rfl⟩

theorem State.agrees_trans {t u s : State} {x : Part} (h : t.agrees u x) (k : u.agrees s x) : t.agrees s x := by
  cases x <;> first
    | exact h.trans k
    | exact fun hs => ⟨(h (k hs).1).1, fun a ha => ((h (k hs).1).2 a ha).trans ((k hs).2 a ha)⟩

theorem Same.refl (W : List Part) (s : State) : Same W s s := ⟨fun x _ => s.agrees_refl x, id, id⟩

theorem not_contains_of_sub {V W : List Part} (h : subParts V W = true) {x : Part} (hx : W.contains x = false) :
    V.contains x = false := by
  cases hv : V.contains x with
  | false => rfl
  | true =>
    have hm : x ∈ V := by simpa using hv
    have := List.all_eq_true.mp h x hm
    rw [hx] at this
    exact absurd this (by decide)

/-- One call on the way from s to t. -/
theorem Same.step {V W : List Part} {t u s : State} (h : Same V t u) (hv : subParts V W = true) (k : Same W u s) : Same W t s :=
  ⟨fun x hx => State.agrees_trans (h.parts x (not_contains_of_sub hv hx)) (k.parts x hx), fun hs => h.wf (k.wf hs), fun hs => h.rings (k.rings hs)⟩

theorem Same.trans {W : List Part} {t u s : State} (h : Same W t u) (k : Same W u s) : Same W t s :=
  ⟨fun x hx => State.agrees_trans (h.parts x hx) (k.parts x hx), fun hs => h.wf (k.wf hs), fun hs => h.rings (k.rings hs)⟩

theorem Same.ite {W : List Part} {c : Prop} [Decidable c] {a b s : State} (h : Same W a s) (k : Same W b s) :
    Same W (if c then a else b) s := by split <;> assumption

/-- A pair whose first is the state. -/
theorem Same.ofFst {β : Type} {W : List Part} {p : State × β} {t s : State} {b : β} (e : p = (t, b)) (h : Same W p.1 s) : Same W t s := by
  subst e; exact h
/-- A pair whose second is the state. -/
theorem Same.ofSnd {β : Type} {W : List Part} {p : β × State} {t s : State} {b : β} (e : p = (b, t)) (h : Same W p.2 s) : Same W t s := by
  subst e; exact h
/-- A triple whose first is the state. -/
theorem Same.ofFst3 {β γ : Type} {W : List Part} {p : State × β × γ} {t s : State} {b : β} {c : γ} (e : p = (t, b, c))
    (h : Same W p.1 s) : Same W t s := by subst e; exact h
/-- A triple whose last is the state. -/
theorem Same.ofThd {β γ : Type} {W : List Part} {p : β × γ × State} {t s : State} {b : β} {c : γ} (e : p = (b, c, t))
    (h : Same W p.2.2 s) : Same W t s := by subst e; exact h

theorem Same.foldl {α : Type} {W : List Part} {g : State → α → State} (hg : ∀ s a, Same W (g s a) s) (l : List α) {u s : State}
    (h : Same W u s) : Same W (l.foldl g u) s := by
  induction l generalizing u with
  | nil => exact h
  | cons a l ih => exact ih ((hg u a).trans h)

/-- A loop that carries the state first. -/
theorem Same.foldlFst {α β : Type} {W : List Part} {g : State × β → α → State × β} (hg : ∀ p a, Same W (g p a).1 p.1) (l : List α)
    {p : State × β} {s : State} (h : Same W p.1 s) : Same W (l.foldl g p).1 s := by
  induction l generalizing p with
  | nil => exact h
  | cons a l ih => exact ih ((hg p a).trans h)

/-- A loop that carries the state second. -/
theorem Same.foldlSnd {α β : Type} {W : List Part} {g : β × State → α → β × State} (hg : ∀ p a, Same W (g p a).2 p.2) (l : List α)
    {p : β × State} {s : State} (h : Same W p.2 s) : Same W (l.foldl g p).2 s := by
  induction l generalizing p with
  | nil => exact h
  | cons a l ih => exact ih ((hg p a).trans h)

theorem Same.getDMap {α : Type} {W : List Part} {o : Option α} {g : α → State} {d s : State} (hg : ∀ a, Same W (g a) s)
    (hd : Same W d s) : Same W ((o.map g).getD d) s := by
  cases o
  · exact hd
  · exact hg _

theorem Same.iteFst {β : Type} {W : List Part} {c : Prop} [Decidable c] {a b : State × β} {s : State} (h : Same W a.1 s)
    (k : Same W b.1 s) : Same W (if c then a else b).1 s := by split <;> assumption

theorem Same.diteFst {β : Type} {W : List Part} {c : Prop} [Decidable c] {a b : State × β} {s : State} (h : c → Same W a.1 s)
    (k : ¬c → Same W b.1 s) : Same W (if c then a else b).1 s := by
  split
  · exact h ‹_›
  · exact k ‹_›

theorem Same.iteSnd {β : Type} {W : List Part} {c : Prop} [Decidable c] {a b : β × State} {s : State} (h : Same W a.2 s)
    (k : Same W b.2 s) : Same W (if c then a else b).2 s := by split <;> assumption

/-- An outcome whose next state, if any, differs in parts of W only. -/
def SameNext (W : List Part) (o : Host.Outcome State Fault Refusal) (s : State) : Prop := ∀ t, o = .next t → Same W t s

theorem SameNext.next {W : List Part} {t s : State} (h : Same W t s) : SameNext W (.next t) s := by
  intro u hu; cases hu; exact h
theorem SameNext.fault {W : List Part} {f : Fault} {s : State} : SameNext W (.fault f) s := by intro u hu; cases hu
theorem SameNext.ite {W : List Part} {c : Prop} [Decidable c] {a b : Host.Outcome State Fault Refusal} {s : State}
    (h : SameNext W a s) (k : SameNext W b s) : SameNext W (if c then a else b) s := by split <;> assumption
theorem SameNext.step {V W : List Part} {o : Host.Outcome State Fault Refusal} {u s : State} (h : SameNext V o u)
    (hv : subParts V W = true) (k : Same W u s) : SameNext W o s := fun t ht => (h t ht).step hv k

theorem Same.nextOr {W : List Part} {o : Host.Outcome State Fault Refusal} {u s : State} (h : SameNext W o s) (k : Same W u s) :
    Same W (nextOr u o) s := by
  cases o with
  | next t => exact h t rfl
  | fault f => exact k
  | refused r => exact k

/-- What holds of a module whose rings lie in the report segment is enough for the memory outside it. -/
theorem Same.ofRings {V W : List Part} {t s : State} (h : Same V t s) (hv : V.all (fun x => x == .outside || W.contains x) = true)
    (k : s.RingsIn → Same W t s) : Same W t s := by
  refine ⟨fun x hx => ?_, h.wf, h.rings⟩
  by_cases hx' : x = .outside
  · subst hx'
    exact fun hs => (k hs).parts .outside hx hs
  · refine h.parts x ?_
    cases hc : V.contains x with
    | false => rfl
    | true =>
      have := List.all_eq_true.mp hv x (by simpa using hc)
      simp only [hx, Bool.or_false, beq_iff_eq] at this
      exact absurd this hx'

/-! ### One part replaced -/

theorem Same.setRouting {W : List Part} {u s : State} {x} (hw : W.contains .routing = true) (h : Same W u s) : Same W { u with routing := x } s :=
  ⟨fun y hy => by cases y <;> first | exact h.parts _ hy | (rw [hw] at hy; cases hy), h.wf, h.rings⟩
theorem Same.setTiles {W : List Part} {u s : State} {x} (hw : W.contains .tiles = true) (h : Same W u s) : Same W { u with tiles := x } s :=
  ⟨fun y hy => by cases y <;> first | exact h.parts _ hy | (rw [hw] at hy; cases hy), h.wf, h.rings⟩
theorem Same.setSched {W : List Part} {u s : State} {x} (hw : W.contains .sched = true) (hr : u.RingsIn → State.RingsIn { u with sched := x }) (h : Same W u s) : Same W { u with sched := x } s :=
  ⟨fun y hy => by cases y <;> first | exact h.parts _ hy | exact fun hs => ⟨hr (h.parts _ hy hs).1, (h.parts _ hy hs).2⟩ | (rw [hw] at hy; cases hy), h.wf, fun hs => hr (h.rings hs)⟩
theorem Same.setTime {W : List Part} {u s : State} {x} (hw : W.contains .time = true) (h : Same W u s) : Same W { u with time := x } s :=
  ⟨fun y hy => by cases y <;> first | exact h.parts _ hy | (rw [hw] at hy; cases hy), h.wf, h.rings⟩
theorem Same.setPorts {W : List Part} {u s : State} {x} (hw : W.contains .ports = true) (h : Same W u s) : Same W { u with ports := x } s :=
  ⟨fun y hy => by cases y <;> first | exact h.parts _ hy | (rw [hw] at hy; cases hy), h.wf, h.rings⟩
theorem Same.setWqs {W : List Part} {u s : State} {x} (hw : W.contains .wqs = true) (h : Same W u s) : Same W { u with wqs := x } s :=
  ⟨fun y hy => by cases y <;> first | exact h.parts _ hy | (rw [hw] at hy; cases hy), h.wf, h.rings⟩
theorem Same.setCqs {W : List Part} {u s : State} {x} (hw : W.contains .cqs = true) (h : Same W u s) : Same W { u with cqs := x } s :=
  ⟨fun y hy => by cases y <;> first | exact h.parts _ hy | (rw [hw] at hy; cases hy), h.wf, h.rings⟩
theorem Same.setRemote {W : List Part} {u s : State} {x} (hw : W.contains .remote = true) (h : Same W u s) : Same W { u with remote := x } s :=
  ⟨fun y hy => by cases y <;> first | exact h.parts _ hy | (rw [hw] at hy; cases hy), h.wf, h.rings⟩
theorem Same.setMatching {W : List Part} {u s : State} {x} (hw : W.contains .matching = true) (h : Same W u s) : Same W { u with matching := x } s :=
  ⟨fun y hy => by cases y <;> first | exact h.parts _ hy | (rw [hw] at hy; cases hy), h.wf, h.rings⟩
theorem Same.setColl {W : List Part} {u s : State} {x} (hw : W.contains .coll = true) (h : Same W u s) : Same W { u with coll := x } s :=
  ⟨fun y hy => by cases y <;> first | exact h.parts _ hy | (rw [hw] at hy; cases hy), h.wf, h.rings⟩
theorem Same.setStriker {W : List Part} {u s : State} {x} (hw : W.contains .striker = true) (hr : u.RingsIn → State.RingsIn { u with striker := x }) (h : Same W u s) : Same W { u with striker := x } s :=
  ⟨fun y hy => by cases y <;> first | exact h.parts _ hy | exact fun hs => ⟨hr (h.parts _ hy hs).1, (h.parts _ hy hs).2⟩ | (rw [hw] at hy; cases hy), h.wf, fun hs => hr (h.rings hs)⟩
theorem Same.setTrans {W : List Part} {u s : State} {x} (hw : W.contains .trans = true) (h : Same W u s) : Same W { u with trans := x } s :=
  ⟨fun y hy => by cases y <;> first | exact h.parts _ hy | (rw [hw] at hy; cases hy), h.wf, h.rings⟩
theorem Same.setInsts {W : List Part} {u s : State} {x} (hw : W.contains .insts = true) (h : Same W u s) : Same W { u with insts := x } s :=
  ⟨fun y hy => by cases y <;> first | exact h.parts _ hy | (rw [hw] at hy; cases hy), h.wf, h.rings⟩
theorem Same.setDraw {W : List Part} {u s : State} {x} (hw : W.contains .draw = true) (h : Same W u s) : Same W { u with draw := x } s :=
  ⟨fun y hy => by cases y <;> first | exact h.parts _ hy | (rw [hw] at hy; cases hy), h.wf, h.rings⟩
theorem Same.setVises {W : List Part} {u s : State} {x} (hw : W.contains .vises = true) (h : Same W u s) : Same W { u with vises := x } s :=
  ⟨fun y hy => by cases y <;> first | exact h.parts _ hy | (rw [hw] at hy; cases hy), h.wf, h.rings⟩
theorem Same.setHearth {W : List Part} {u s : State} {x} (hw : W.contains .hearth = true) (h : Same W u s) : Same W { u with hearth := x } s :=
  ⟨fun y hy => by cases y <;> first | exact h.parts _ hy | (rw [hw] at hy; cases hy), h.wf, h.rings⟩
theorem Same.setQuench {W : List Part} {u s : State} {x} (hw : W.contains .quench = true) (h : Same W u s) : Same W { u with quench := x } s :=
  ⟨fun y hy => by cases y <;> first | exact h.parts _ hy | (rw [hw] at hy; cases hy), h.wf, h.rings⟩
theorem Same.setCounters {W : List Part} {u s : State} {x} (hw : W.contains .counters = true) (hr : u.RingsIn → State.RingsIn { u with counters := x }) (h : Same W u s) : Same W { u with counters := x } s :=
  ⟨fun y hy => by cases y <;> first | exact h.parts _ hy | exact fun hs => ⟨hr (h.parts _ hy hs).1, (h.parts _ hy hs).2⟩ | (rw [hw] at hy; cases hy), h.wf, fun hs => hr (h.rings hs)⟩
theorem Same.setPower {W : List Part} {u s : State} {x} (hw : W.contains .power = true) (h : Same W u s) : Same W { u with power := x } s :=
  ⟨fun y hy => by cases y <;> first | exact h.parts _ hy | (rw [hw] at hy; cases hy), h.wf, h.rings⟩
theorem Same.setSegments {W : List Part} {u s : State} {x} (hw : W.contains .segments = true) (h : Same W u s) : Same W { u with segments := x } s :=
  ⟨fun y hy => by cases y <;> first | exact h.parts _ hy | (rw [hw] at hy; cases hy), h.wf, h.rings⟩
theorem Same.setPoison {W : List Part} {u s : State} {x} (hw : W.contains .poison = true) (h : Same W u s) : Same W { u with poison := x } s :=
  ⟨fun y hy => by cases y <;> first | exact h.parts _ hy | (rw [hw] at hy; cases hy), h.wf, h.rings⟩
theorem Same.setFree {W : List Part} {u s : State} {x} (hw : W.contains .free = true) (h : Same W u s) : Same W { u with free := x } s :=
  ⟨fun y hy => by cases y <;> first | exact h.parts _ hy | (rw [hw] at hy; cases hy), h.wf, h.rings⟩
theorem Same.setOut {W : List Part} {u s : State} {x} (hw : W.contains .out = true) (h : Same W u s) : Same W { u with out := x } s :=
  ⟨fun y hy => by cases y <;> first | exact h.parts _ hy | (rw [hw] at hy; cases hy), h.wf, h.rings⟩
theorem Same.setPending {W : List Part} {u s : State} {x} (hw : W.contains .pending = true) (h : Same W u s) : Same W { u with pending := x } s :=
  ⟨fun y hy => by cases y <;> first | exact h.parts _ hy | (rw [hw] at hy; cases hy), h.wf, h.rings⟩

/-! ### Several parts replaced -/

theorem Same.setHearthPower {W : List Part} {u s : State} {x0} {x1} (h0 : W.contains .hearth = true) (h1 : W.contains .power = true)
    (h : Same W u s) : Same W { u with hearth := x0, power := x1 } s :=
  ⟨fun y hy => by cases y <;> first | exact h.parts _ hy | (rw [h0] at hy; cases hy) | (rw [h1] at hy; cases hy), h.wf, h.rings⟩
theorem Same.setHearthSegments {W : List Part} {u s : State} {x0} {x1} (h0 : W.contains .hearth = true) (h1 : W.contains .segments = true)
    (h : Same W u s) : Same W { u with hearth := x0, segments := x1 } s :=
  ⟨fun y hy => by cases y <;> first | exact h.parts _ hy | (rw [h0] at hy; cases hy) | (rw [h1] at hy; cases hy), h.wf, h.rings⟩
theorem Same.setRemoteCollInsts {W : List Part} {u s : State} {x0} {x1} {x2} (h0 : W.contains .remote = true) (h1 : W.contains .coll = true) (h2 : W.contains .insts = true)
    (h : Same W u s) : Same W { u with remote := x0, coll := x1, insts := x2 } s :=
  ⟨fun y hy => by cases y <;> first | exact h.parts _ hy | (rw [h0] at hy; cases hy) | (rw [h1] at hy; cases hy) | (rw [h2] at hy; cases hy), h.wf, h.rings⟩
theorem Same.setRemoteMatching {W : List Part} {u s : State} {x0} {x1} (h0 : W.contains .remote = true) (h1 : W.contains .matching = true)
    (h : Same W u s) : Same W { u with remote := x0, matching := x1 } s :=
  ⟨fun y hy => by cases y <;> first | exact h.parts _ hy | (rw [h0] at hy; cases hy) | (rw [h1] at hy; cases hy), h.wf, h.rings⟩
theorem Same.setRoutingColl {W : List Part} {u s : State} {x0} {x1} (h0 : W.contains .routing = true) (h1 : W.contains .coll = true)
    (h : Same W u s) : Same W { u with routing := x0, coll := x1 } s :=
  ⟨fun y hy => by cases y <;> first | exact h.parts _ hy | (rw [h0] at hy; cases hy) | (rw [h1] at hy; cases hy), h.wf, h.rings⟩
theorem Same.setRoutingHearth {W : List Part} {u s : State} {x0} {x1} (h0 : W.contains .routing = true) (h1 : W.contains .hearth = true)
    (h : Same W u s) : Same W { u with routing := x0, hearth := x1 } s :=
  ⟨fun y hy => by cases y <;> first | exact h.parts _ hy | (rw [h0] at hy; cases hy) | (rw [h1] at hy; cases hy), h.wf, h.rings⟩
theorem Same.setRoutingTiles {W : List Part} {u s : State} {x0} {x1} (h0 : W.contains .routing = true) (h1 : W.contains .tiles = true)
    (h : Same W u s) : Same W { u with routing := x0, tiles := x1 } s :=
  ⟨fun y hy => by cases y <;> first | exact h.parts _ hy | (rw [h0] at hy; cases hy) | (rw [h1] at hy; cases hy), h.wf, h.rings⟩
theorem Same.setRoutingTilesSched {W : List Part} {u s : State} {x0} {x1} {x2} (h0 : W.contains .routing = true) (h1 : W.contains .tiles = true) (h2 : W.contains .sched = true)
    (hr : u.RingsIn → State.RingsIn { u with routing := x0, tiles := x1, sched := x2 }) (h : Same W u s) : Same W { u with routing := x0, tiles := x1, sched := x2 } s :=
  ⟨fun y hy => by cases y <;> first | exact h.parts _ hy | exact fun hs => ⟨hr (h.parts _ hy hs).1, (h.parts _ hy hs).2⟩ | (rw [h0] at hy; cases hy) | (rw [h1] at hy; cases hy) | (rw [h2] at hy; cases hy), h.wf, fun hs => hr (h.rings hs)⟩
theorem Same.setSchedTimeMatching {W : List Part} {u s : State} {x0} {x1} {x2} (h0 : W.contains .sched = true) (h1 : W.contains .time = true) (h2 : W.contains .matching = true)
    (hr : u.RingsIn → State.RingsIn { u with sched := x0, time := x1, matching := x2 }) (h : Same W u s) : Same W { u with sched := x0, time := x1, matching := x2 } s :=
  ⟨fun y hy => by cases y <;> first | exact h.parts _ hy | exact fun hs => ⟨hr (h.parts _ hy hs).1, (h.parts _ hy hs).2⟩ | (rw [h0] at hy; cases hy) | (rw [h1] at hy; cases hy) | (rw [h2] at hy; cases hy), h.wf, fun hs => hr (h.rings hs)⟩
theorem Same.setSchedTimeRemote {W : List Part} {u s : State} {x0} {x1} {x2} (h0 : W.contains .sched = true) (h1 : W.contains .time = true) (h2 : W.contains .remote = true)
    (hr : u.RingsIn → State.RingsIn { u with sched := x0, time := x1, remote := x2 }) (h : Same W u s) : Same W { u with sched := x0, time := x1, remote := x2 } s :=
  ⟨fun y hy => by cases y <;> first | exact h.parts _ hy | exact fun hs => ⟨hr (h.parts _ hy hs).1, (h.parts _ hy hs).2⟩ | (rw [h0] at hy; cases hy) | (rw [h1] at hy; cases hy) | (rw [h2] at hy; cases hy), h.wf, fun hs => hr (h.rings hs)⟩
theorem Same.setSchedTimeWqsCqsRemoteMatching {W : List Part} {u s : State} {x0} {x1} {x2} {x3} {x4} {x5} (h0 : W.contains .sched = true) (h1 : W.contains .time = true) (h2 : W.contains .wqs = true) (h3 : W.contains .cqs = true) (h4 : W.contains .remote = true) (h5 : W.contains .matching = true)
    (hr : u.RingsIn → State.RingsIn { u with sched := x0, time := x1, wqs := x2, cqs := x3, remote := x4, matching := x5 }) (h : Same W u s) : Same W { u with sched := x0, time := x1, wqs := x2, cqs := x3, remote := x4, matching := x5 } s :=
  ⟨fun y hy => by cases y <;> first | exact h.parts _ hy | exact fun hs => ⟨hr (h.parts _ hy hs).1, (h.parts _ hy hs).2⟩ | (rw [h0] at hy; cases hy) | (rw [h1] at hy; cases hy) | (rw [h2] at hy; cases hy) | (rw [h3] at hy; cases hy) | (rw [h4] at hy; cases hy) | (rw [h5] at hy; cases hy), h.wf, fun hs => hr (h.rings hs)⟩
theorem Same.setStrikerHearth {W : List Part} {u s : State} {x0} {x1} (h0 : W.contains .striker = true) (h1 : W.contains .hearth = true)
    (hr : u.RingsIn → State.RingsIn { u with striker := x0, hearth := x1 }) (h : Same W u s) : Same W { u with striker := x0, hearth := x1 } s :=
  ⟨fun y hy => by cases y <;> first | exact h.parts _ hy | exact fun hs => ⟨hr (h.parts _ hy hs).1, (h.parts _ hy hs).2⟩ | (rw [h0] at hy; cases hy) | (rw [h1] at hy; cases hy), h.wf, fun hs => hr (h.rings hs)⟩
theorem Same.setTilesTime {W : List Part} {u s : State} {x0} {x1} (h0 : W.contains .tiles = true) (h1 : W.contains .time = true)
    (h : Same W u s) : Same W { u with tiles := x0, time := x1 } s :=
  ⟨fun y hy => by cases y <;> first | exact h.parts _ hy | (rw [h0] at hy; cases hy) | (rw [h1] at hy; cases hy), h.wf, h.rings⟩
theorem Same.setTimeHearth {W : List Part} {u s : State} {x0} {x1} (h0 : W.contains .time = true) (h1 : W.contains .hearth = true)
    (h : Same W u s) : Same W { u with time := x0, hearth := x1 } s :=
  ⟨fun y hy => by cases y <;> first | exact h.parts _ hy | (rw [h0] at hy; cases hy) | (rw [h1] at hy; cases hy), h.wf, h.rings⟩
theorem Same.setTimeQuench {W : List Part} {u s : State} {x0} {x1} (h0 : W.contains .time = true) (h1 : W.contains .quench = true)
    (h : Same W u s) : Same W { u with time := x0, quench := x1 } s :=
  ⟨fun y hy => by cases y <;> first | exact h.parts _ hy | (rw [h0] at hy; cases hy) | (rw [h1] at hy; cases hy), h.wf, h.rings⟩
theorem Same.setWqsCqs {W : List Part} {u s : State} {x0} {x1} (h0 : W.contains .wqs = true) (h1 : W.contains .cqs = true)
    (h : Same W u s) : Same W { u with wqs := x0, cqs := x1 } s :=
  ⟨fun y hy => by cases y <;> first | exact h.parts _ hy | (rw [h0] at hy; cases hy) | (rw [h1] at hy; cases hy), h.wf, h.rings⟩
theorem Same.setWqsCqsRemoteCounters {W : List Part} {u s : State} {x0} {x1} {x2} {x3} (h0 : W.contains .wqs = true) (h1 : W.contains .cqs = true) (h2 : W.contains .remote = true) (h3 : W.contains .counters = true)
    (hr : u.RingsIn → State.RingsIn { u with wqs := x0, cqs := x1, remote := x2, counters := x3 }) (h : Same W u s) : Same W { u with wqs := x0, cqs := x1, remote := x2, counters := x3 } s :=
  ⟨fun y hy => by cases y <;> first | exact h.parts _ hy | exact fun hs => ⟨hr (h.parts _ hy hs).1, (h.parts _ hy hs).2⟩ | (rw [h0] at hy; cases hy) | (rw [h1] at hy; cases hy) | (rw [h2] at hy; cases hy) | (rw [h3] at hy; cases hy), h.wf, fun hs => hr (h.rings hs)⟩
theorem Same.setWqsCqsTrans {W : List Part} {u s : State} {x0} {x1} {x2} (h0 : W.contains .wqs = true) (h1 : W.contains .cqs = true) (h2 : W.contains .trans = true)
    (h : Same W u s) : Same W { u with wqs := x0, cqs := x1, trans := x2 } s :=
  ⟨fun y hy => by cases y <;> first | exact h.parts _ hy | (rw [h0] at hy; cases hy) | (rw [h1] at hy; cases hy) | (rw [h2] at hy; cases hy), h.wf, h.rings⟩
theorem Same.setWqsRemote {W : List Part} {u s : State} {x0} {x1} (h0 : W.contains .wqs = true) (h1 : W.contains .remote = true)
    (h : Same W u s) : Same W { u with wqs := x0, remote := x1 } s :=
  ⟨fun y hy => by cases y <;> first | exact h.parts _ hy | (rw [h0] at hy; cases hy) | (rw [h1] at hy; cases hy), h.wf, h.rings⟩
theorem Same.setRemoteMatchingColl {W : List Part} {u s : State} {x0} {x1} {x2} (h0 : W.contains .remote = true) (h1 : W.contains .matching = true) (h2 : W.contains .coll = true)
    (h : Same W u s) : Same W { u with remote := x0, matching := x1, coll := x2 } s :=
  ⟨fun y hy => by cases y <;> first | exact h.parts _ hy | (rw [h0] at hy; cases hy) | (rw [h1] at hy; cases hy) | (rw [h2] at hy; cases hy), h.wf, h.rings⟩
theorem Same.setCollStriker {W : List Part} {u s : State} {x0} {x1} (h0 : W.contains .coll = true) (h1 : W.contains .striker = true)
    (hr : u.RingsIn → State.RingsIn { u with coll := x0, striker := x1 }) (h : Same W u s) : Same W { u with coll := x0, striker := x1 } s :=
  ⟨fun y hy => by cases y <;> first | exact h.parts _ hy | exact fun hs => ⟨hr (h.parts _ hy hs).1, (h.parts _ hy hs).2⟩ | (rw [h0] at hy; cases hy) | (rw [h1] at hy; cases hy), h.wf, fun hs => hr (h.rings hs)⟩
theorem Same.setTimeRemote {W : List Part} {u s : State} {x0} {x1} (h0 : W.contains .time = true) (h1 : W.contains .remote = true)
    (h : Same W u s) : Same W { u with time := x0, remote := x1 } s :=
  ⟨fun y hy => by cases y <;> first | exact h.parts _ hy | (rw [h0] at hy; cases hy) | (rw [h1] at hy; cases hy), h.wf, h.rings⟩

end Sys2Proof.Machine
end

