-- ==== Sys2Proof/Laws/Memory.lean ====
section
/-! SUPPORT. Module memory: every operation on it keeps the canonical form, and what a write leaves. -/

namespace Sys2Proof.Machine

open Sys2Proof

theorem memCanonFrom_cons (lo : Nat) (c : Host.Cell) (m : List Host.Cell) :
    memCanonFrom lo (c :: m) = true ↔ lo ≤ c.1 ∧ c.2 ≠ 0 ∧ memCanonFrom (c.1 + 1) m = true := by
  simp only [memCanonFrom, Bool.and_eq_true, decide_eq_true_eq, bne_iff_ne, ne_eq, and_assoc]

theorem memCanonFrom_mono {lo hi : Nat} (m : List Host.Cell) (h : lo ≤ hi) (hm : memCanonFrom hi m = true) : memCanonFrom lo m = true := by
  cases m with
  | nil => rfl
  | cons c m =>
    rw [memCanonFrom_cons] at hm ⊢
    exact ⟨Nat.le_trans h hm.1, hm.2⟩

/-- A write of one byte at or above lo keeps the form from lo on. -/
theorem memCanonFrom_memSet (m : List Host.Cell) (lo a : Nat) (b : Byte) (ha : lo ≤ a) (hm : memCanonFrom lo m = true) :
    memCanonFrom lo (memSet m a b) = true := by
  induction m generalizing lo with
  | nil =>
    unfold memSet
    split
    · rfl
    · rename_i hne
      exact (memCanonFrom_cons ..).mpr ⟨ha, hne, rfl⟩
  | cons c m ih =>
    rw [memCanonFrom_cons] at hm
    obtain ⟨hc, hb, ht⟩ := hm
    unfold memSet
    split
    · split
      · exact (memCanonFrom_cons ..).mpr ⟨hc, hb, ht⟩
      · rename_i hlt hne
        have h1 : a + 1 ≤ c.1 := hlt
        exact (memCanonFrom_cons ..).mpr ⟨ha, hne, (memCanonFrom_cons ..).mpr ⟨h1, hb, ht⟩⟩
    · split
      · rename_i heq
        subst heq
        split
        · exact memCanonFrom_mono m (by omega) ht
        · rename_i hne
          exact (memCanonFrom_cons ..).mpr ⟨ha, hne, ht⟩
      · rename_i h1 h2
        exact (memCanonFrom_cons ..).mpr ⟨hc, hb, ih (c.1 + 1) (by omega) ht⟩

theorem memWf_memSet (m : List Host.Cell) (a : Nat) (b : Byte) (hm : Memory.wf m = true) : Memory.wf (memSet m a b) = true :=
  memCanonFrom_memSet m 0 a b (Nat.zero_le a) hm

theorem memWf_memWrite (m : List Host.Cell) (a : Nat) (bs : List Byte) (hm : Memory.wf m = true) : Memory.wf (memWrite m a bs) = true := by
  induction bs generalizing m a with
  | nil => exact hm
  | cons b bs ih => exact ih _ _ (memWf_memSet m a b hm)

theorem memCanonFrom_filter (m : List Host.Cell) (p : Host.Cell → Bool) (lo : Nat) (hm : memCanonFrom lo m = true) :
    memCanonFrom lo (m.filter p) = true := by
  induction m generalizing lo with
  | nil => rfl
  | cons c m ih =>
    rw [memCanonFrom_cons] at hm
    obtain ⟨hc, hb, ht⟩ := hm
    rw [List.filter_cons]
    split
    · exact (memCanonFrom_cons ..).mpr ⟨hc, hb, ih _ ht⟩
    · exact memCanonFrom_mono _ (by omega) (ih _ ht)

/-! ### Reading one byte -/

theorem memGet_below (m : List Host.Cell) (lo a : Nat) (h : a < lo) (hm : memCanonFrom lo m = true) : memGet m a = 0 := by
  induction m generalizing lo with
  | nil => rfl
  | cons c m ih =>
    rw [memCanonFrom_cons] at hm
    unfold memGet
    split
    · omega
    · exact ih (c.1 + 1) (by omega) hm.2.2

theorem memGet_memSet_same (m : List Host.Cell) (lo a : Nat) (b : Byte) (hm : memCanonFrom lo m = true) : memGet (memSet m a b) a = b := by
  induction m generalizing lo with
  | nil =>
    unfold memSet
    split
    · simp_all [memGet]
    · simp [memGet]
  | cons c m ih =>
    rw [memCanonFrom_cons] at hm
    obtain ⟨hc, hb, ht⟩ := hm
    unfold memSet
    split
    · split
      · rename_i hlt h0
        rw [h0, memGet, if_neg (by omega)]
        exact memGet_below m (c.1 + 1) a (by omega) ht
      · simp [memGet]
    · split
      · rename_i heq
        split
        · rename_i h0
          rw [h0]
          exact memGet_below m (c.1 + 1) a (by omega) ht
        · simp [memGet]
      · rename_i h1 h2
        rw [memGet, if_neg (by omega)]
        exact ih _ ht

theorem memGet_memSet_ne (m : List Host.Cell) (a x : Nat) (b : Byte) (h : x ≠ a) : memGet (memSet m a b) x = memGet m x := by
  induction m with
  | nil =>
    unfold memSet
    split
    · rfl
    · simp [memGet, Ne.symm h]
  | cons c m ih =>
    unfold memSet
    split
    · split
      · rfl
      · rw [memGet, if_neg (by simpa using Ne.symm h)]
    · split
      · rename_i heq
        split
        · rw [memGet, if_neg (by omega)]
        · rw [memGet, if_neg (by simpa using Ne.symm h), memGet, if_neg (by omega)]
      · simp only [memGet, ih]

/-- A write leaves every byte outside it alone. -/
theorem memGet_memWrite_out (m : List Host.Cell) (a x : Nat) (bs : List Byte) (h : x < a ∨ a + bs.length ≤ x) :
    memGet (memWrite m a bs) x = memGet m x := by
  induction bs generalizing m a with
  | nil => rfl
  | cons b bs ih =>
    rw [memWrite, ih _ _ (by simp only [List.length_cons] at h; omega)]
    exact memGet_memSet_ne m a x b (by simp only [List.length_cons] at h; omega)

/-- A byte whose entries a filter keeps reads as before. -/
theorem memGet_filter (m : List Host.Cell) (p : Host.Cell → Bool) (x : Nat) (h : ∀ c : Host.Cell, c.1 = x → p c = true) :
    memGet (m.filter p) x = memGet m x := by
  induction m with
  | nil => rfl
  | cons c m ih =>
    rw [List.filter_cons]
    split
    · simp only [memGet, ih]
    · rename_i hp
      rw [ih, memGet, if_neg (fun e => hp (h c e))]

/-! ### The operations on the module's memory -/

theorem State.storeMem_same (s : State) (a : Nat) (bs : List Byte) (p : Bool) : Same [.mem, .outside, .poison] (s.storeMem a bs p) s :=
  ⟨fun x hx => (by cases x <;> first | rfl | cases hx), memWf_memWrite s.mem a bs, id⟩

/-- A write into the report segment. -/
theorem State.storeMem_report (s : State) (a : Nat) (bs : List Byte) (p : Bool) (h : inReport a bs.length) :
    Same [.mem, .poison] (s.storeMem a bs p) s := by
  refine ⟨fun x hx => ?_, memWf_memWrite s.mem a bs, id⟩
  cases x <;> first
    | rfl
    | exact fun hs => ⟨hs, fun y hy => memGet_memWrite_out s.mem a y bs (by unfold inReport at h hy; omega)⟩
    | cases hx

theorem State.zeroMem_same (s : State) (a n : Nat) : Same [.mem, .outside] (s.zeroMem a n) s :=
  ⟨fun x hx => (by cases x <;> first | rfl | cases hx), memCanonFrom_filter s.mem _ 0, id⟩

/-- Bytes of the report segment zeroed. -/
theorem State.zeroMem_report (s : State) (a n : Nat) (h : inReport a n) : Same [.mem] (s.zeroMem a n) s := by
  refine ⟨fun x hx => ?_, memCanonFrom_filter s.mem _ 0, id⟩
  cases x <;> first
    | rfl
    | exact fun hs => ⟨hs, fun y hy => memGet_filter s.mem _ y (fun c hc => by
        unfold inReport at h hy; simp only [Bool.or_eq_true, decide_eq_true_eq, hc]; omega)⟩
    | cases hx

/-- A module without rings. -/
theorem State.ringsIn_none {s : State} (h1 : s.counters.tagRing = 0) (h2 : s.counters.hsCfg = 0) (h3 : s.striker.logRing = none)
    (h4 : s.sched.sampleRing = none) : s.RingsIn := by
  refine ⟨fun h => absurd ?_ h, fun h => absurd h ?_, fun _ _ h => ?_, fun _ _ h => ?_⟩
  · rw [h1]; rfl
  · rw [h2]; decide
  · rw [h3] at h; cases h
  · rw [h4] at h; cases h

theorem State.cleared_same (s : State) (m : Mode) :
    Same [.routing, .tiles, .sched, .time, .ports, .wqs, .cqs, .remote, .matching, .coll, .striker, .trans, .insts, .draw,
      .vises, .hearth, .quench, .counters, .power, .segments, .mem, .outside, .poison] (s.cleared m) s :=
  ⟨fun x hx => (by cases x <;> first | rfl | cases hx), fun _ => rfl,
    fun _ => State.ringsIn_none rfl rfl rfl rfl⟩

/-! ### Areas of the report segment -/

theorem firstFit_le {used : List (Nat × Nat)} {unit size n o : Nat} (h : firstFit used unit size n = some o) : o + n ≤ size := by
  unfold firstFit at h
  dsimp only at h
  generalize (0 :: used.map fun u => ceilDiv (u.1 + u.2) unit * unit) = starts at h
  have key : ∀ (l : List Nat) (b : Option Nat), (∀ x, b = some x → x + n ≤ size) →
      ∀ x, l.foldl (fun (b : Option Nat) a => if (decide (a + n ≤ size) && used.all fun u => decide (u.1 + u.2 ≤ a) || decide (a + n ≤ u.1)) = true
        then (match b with | some x => some (min x a) | none => some a) else b) b = some x → x + n ≤ size := by
    intro l
    induction l with
    | nil => exact fun b hb => hb
    | cons a l ih =>
      intro b hb
      refine ih _ (fun x hx => ?_)
      dsimp only at hx
      split at hx
      · rename_i hf
        have ha : a + n ≤ size := by simp only [Bool.and_eq_true, decide_eq_true_eq] at hf; exact hf.1
        cases b with
        | none => cases hx; exact ha
        | some y => cases hx; have := hb y rfl; omega
      · exact hb x hx
  exact key starts none (fun x hx => by cases hx) o h

theorem leBytes_length (n v : Nat) : (leBytes n v).length = n := by
  induction n generalizing v with
  | zero => rfl
  | succ n ih => simp [leBytes, ih]

end Sys2Proof.Machine
end

