-- ==== Sys2Proof/Laws/Fec.lean ====
section
/-! SUPPORT. Flits and frames read back from the bytes they are sent as (R63, R64, R66). -/

namespace Sys2Proof.Machine

open Sys2Proof

/-- Bytes of a number spell it, within their width. -/
theorem leNat_leBytes (n v : Nat) : leNat (leBytes n v) = v % 256 ^ n := by
  induction n generalizing v with
  | zero => simp [leBytes, leNat, Nat.mod_one]
  | succ n ih =>
    have e : 256 ^ (n + 1) = 256 * 256 ^ n := by rw [Nat.pow_succ, Nat.mul_comm]
    simp only [leBytes, leNat, ih, BitVec.toNat_ofNat, e, Nat.mod_mul, Nat.reducePow]

theorem sliceBytes_eq {a : List Byte} {o n : Nat} (h : o + n ≤ a.length) : sliceBytes a o n = (a.drop o).take n := by
  simp [sliceBytes, List.length_take, List.length_drop, show n - min n (a.length - o) = 0 by omega]

/-- A slice within the first of two runs of bytes is a slice of it. -/
theorem sliceBytes_left {a b : List Byte} {o n : Nat} (h : o + n ≤ a.length) : sliceBytes (a ++ b) o n = sliceBytes a o n := by
  rw [sliceBytes_eq h, sliceBytes_eq (by simp; omega), List.drop_append_of_le_length (by omega), List.take_append_of_le_length (by simp; omega)]

/-- A slice past the first of two runs of bytes is a slice of the second. -/
theorem sliceBytes_right {a b : List Byte} {o n : Nat} (h : a.length ≤ o) : sliceBytes (a ++ b) o n = sliceBytes b (o - a.length) n := by
  simp [sliceBytes, List.drop_append, List.drop_eq_nil_of_le h]

theorem sliceBytes_all {a : List Byte} {n : Nat} (h : a.length = n) : sliceBytes a 0 n = a := by
  subst h; simp [sliceBytes]

/-- A slice of a number's bytes is the bytes of the number shifted down. -/
theorem sliceBytes_leBytes {m o n : Nat} (v : Nat) (h : o + n ≤ m) : sliceBytes (leBytes m v) o n = leBytes n (v / 256 ^ o) := by
  rw [sliceBytes_eq (by rwa [leBytes_length])]
  induction o generalizing m v with
  | zero =>
    rw [List.drop_zero, Nat.pow_zero, Nat.div_one]
    induction n generalizing m v with
    | zero => rfl
    | succ n ih =>
      obtain ⟨m, rfl⟩ : ∃ k, m = k + 1 := ⟨m - 1, by omega⟩
      simp only [leBytes, List.take_succ_cons, ih (v / 256) (by omega : 0 + n ≤ m)]
  | succ o ih =>
    obtain ⟨m, rfl⟩ : ∃ k, m = k + 1 := ⟨m - 1, by omega⟩
    rw [leBytes, List.drop_succ_cons, ih (v / 256) (by omega), Nat.div_div_eq_div_mul, Nat.pow_succ, Nat.mul_comm]

/-- The first of packed fields reads back. -/
theorem fieldAt_head (w v : Nat) (fs : List (Nat × Nat)) : fieldAt (packFields ((w, v) :: fs)) 0 w = v % 2 ^ w := by
  simp [fieldAt, packFields]

/-- A later field of packed fields reads back from those after the first. -/
theorem fieldAt_tail {w p : Nat} (v n : Nat) (fs : List (Nat × Nat)) (h : w ≤ p) :
    fieldAt (packFields ((w, v) :: fs)) p n = fieldAt (packFields fs) (p - w) n := by
  obtain ⟨o, rfl⟩ := Nat.exists_eq_add_of_le h
  simp only [fieldAt, packFields, Nat.pow_add, ← Nat.div_div_eq_div_mul, Nat.add_sub_cancel_left]
  rw [Nat.add_mul_div_left _ _ (Nat.two_pow_pos w), Nat.div_eq_of_lt (Nat.mod_lt _ (Nat.two_pow_pos w)), Nat.zero_add]

/-- Packed fields fill no more than their widths. -/
theorem packFields_lt (fs : List (Nat × Nat)) : packFields fs < 2 ^ (fs.map (·.1)).sum := by
  induction fs with
  | nil => exact Nat.one_pos
  | cons e fs ih =>
    have h1 := Nat.mod_lt e.2 (Nat.two_pow_pos e.1)
    have h2 : 2 ^ e.1 * (packFields fs + 1) ≤ 2 ^ e.1 * 2 ^ (fs.map (·.1)).sum := Nat.mul_le_mul_left _ ih
    simp only [packFields, List.map_cons, List.sum_cons, Nat.pow_add]
    rw [Nat.mul_add] at h2
    omega

theorem flitHeader_length (f : Flit) : (flitHeader f).length = 12 := leBytes_length ..

theorem flitBytes_length {f : Flit} (h : f.body.length = 240) : (flitBytes f).length = 256 := by
  simp [flitBytes, flitHeader_length, sliceBytes_all h, h, leBytes_length]

/-- R66: a flit is read back from its bytes. -/
theorem flitOf_flitBytes {f : Flit} (h : f.body.length = 240) : flitOf (flitBytes f) = f := by
  obtain ⟨a, b, c, d, e, g, i, j, k, r, body, crc⟩ := f
  have hb : body.length = 240 := h
  have h0 : leAt (flitBytes ⟨a, b, c, d, e, g, i, j, k, r, body, crc⟩) 0 12 = packFields
      [(4, a.toNat), (5, b.toNat), (4, c.toNat), (4, d.toNat), (1, bnat e), (24, g.toNat), (24, i.toNat), (5, j.toNat), (10, k.toNat), (15, r.toNat)] := by
    rw [leAt, flitBytes, List.append_assoc, sliceBytes_left (by simp [flitHeader_length]), sliceBytes_all (flitHeader_length _), flitHeader, leNat_leBytes]
    exact Nat.mod_eq_of_lt (Nat.lt_of_lt_of_le (packFields_lt _) (by simp))
  have h1 : sliceBytes (flitBytes ⟨a, b, c, d, e, g, i, j, k, r, body, crc⟩) 12 240 = body := by
    rw [flitBytes, sliceBytes_left (by simp [flitHeader_length, sliceBytes_all hb, hb]), sliceBytes_right (by simp [flitHeader_length]),
      flitHeader_length, sliceBytes_all hb, sliceBytes_all hb]
  have h2 : leAt (flitBytes ⟨a, b, c, d, e, g, i, j, k, r, body, crc⟩) 252 4 = crc.toNat := by
    rw [leAt, flitBytes, sliceBytes_right (by simp [flitHeader_length, sliceBytes_all hb, hb])]
    simp only [List.length_append, flitHeader_length, sliceBytes_all hb, hb, Nat.reduceAdd, Nat.sub_self]
    rw [sliceBytes_all (leBytes_length ..), leNat_leBytes]
    exact Nat.mod_eq_of_lt crc.isLt
  have hm : ∀ {w : Nat} (x : BitVec w), ((x.toNat % 2 ^ w : Nat) : BitVec w) = x := fun x => by rw [Nat.mod_eq_of_lt x.isLt]; exact BitVec.eq_of_toNat_eq (by simp)
  simp (disch := decide) only [flitOf, h0, h1, h2, fieldAt_tail, Nat.reduceSub, fieldAt_head]
  simp only [hm, bnat]
  cases e <;> simp

/-- R63: the frame sync, count and flits of a frame read back from its message. -/
theorem frame_reads_back {n : BitVec 24} {fl : List Flit} {e : List (Nat × BitVec 10)} {l : List (Nat × Nat)} (h : fl.length = 10)
    (hb : ∀ f ∈ fl, f.body.length = 240) :
    rxSync { message := frameMessage n fl, errors := e, laneErrs := l } = 0xb5 ∧
    rxCount { message := frameMessage n fl, errors := e, laneErrs := l } = n ∧
    rxFlits { message := frameMessage n fl, errors := e, laneErrs := l } = fl := by
  have hc : (frameControlField n).length = 10 := leBytes_length ..
  have ht : ∀ (fl : List Flit) (i : Nat) (h : i < fl.length), (∀ f ∈ fl, f.body.length = 240) →
      flitOf (sliceBytes (fl.flatMap flitBytes) (256 * i) 256) = fl[i] := by
    intro fl
    induction fl with
    | nil => intro i h; cases h
    | cons f fl ih =>
      intro i h hb
      have hf := hb f (.head _)
      cases i with
      | zero =>
        show _ = f
        rw [List.flatMap_cons, sliceBytes_left (by have := flitBytes_length hf; omega), sliceBytes_all (flitBytes_length hf), flitOf_flitBytes hf]
      | succ i =>
        rw [List.flatMap_cons, sliceBytes_right (by have := flitBytes_length hf; omega), flitBytes_length hf,
          show 256 * (i + 1) - 256 = 256 * i by omega]
        exact ih i (Nat.lt_of_succ_lt_succ h) fun g hg => hb g (.tail _ hg)
  refine ⟨?_, ?_, ?_⟩
  · rw [rxSync, leAt, frameMessage, sliceBytes_left (by omega), frameControlField, sliceBytes_leBytes _ (by decide), leNat_leBytes]
    have e := fieldAt_head 8 0xb5 [(24, n.toNat), (48, 0)]
    rw [fieldAt, Nat.pow_zero] at e
    exact congrArg (BitVec.ofNat 8) e
  · rw [rxCount, leAt, frameMessage, sliceBytes_left (by omega), frameControlField, sliceBytes_leBytes _ (by decide), leNat_leBytes]
    have e := fieldAt_tail 0xb5 24 [(24, n.toNat), (48, 0)] (Nat.le_refl 8)
    rw [Nat.sub_self, fieldAt_head, fieldAt, Nat.mod_eq_of_lt n.isLt] at e
    exact (congrArg (BitVec.ofNat 24) e).trans (BitVec.eq_of_toNat_eq (by simp))
  · refine List.ext_getElem (by simp [rxFlits, h]) fun i h1 h2 => ?_
    simp only [rxFlits, List.getElem_map, List.getElem_range, frameMessage]
    rw [sliceBytes_right (by omega), hc, show 10 + 256 * i - 10 = 256 * i by omega]
    exact ht fl i h2 hb

end Sys2Proof.Machine
end

