-- ==== Sys2Proof/Laws/FrameOps.lean ====
section
/-! SUPPORT. Frames of the operations and commands of Sys2Proof/Machine/Ops.lean: each changes no part of the module but those it
names, and keeps module memory canonical. -/

namespace Sys2Proof.Machine

open Sys2Proof

theorem State.modGroup_same (a1 : State) (a2 : Nat) (a3 : Group → Group) :
    Same [.coll] (State.modGroup a1 a2 a3) a1 := by
  unfold State.modGroup
  split
  · exact Same.refl _ _
  · exact Same.setColl rfl (Same.refl _ _)

theorem Counters.foldl_add_rings (l : List (Nat × Word)) (n : Nat) (c : Counters) :
    (l.foldl (fun c e => c.add e.1 n) c).tagRing = c.tagRing ∧ (l.foldl (fun c e => c.add e.1 n) c).hsRing = c.hsRing ∧
      (l.foldl (fun c e => c.add e.1 n) c).hsCfg = c.hsCfg := by
  induction l generalizing c with
  | nil => exact ⟨rfl, rfl, rfl⟩
  | cons e l ih => exact ih (c.add e.1 n)

theorem State.count_same (a1 : State) (a2 : Nat) (a3 : Nat) (a4 : Nat) (a5 : Nat) :
    Same [.counters] (State.count a1 a2 a3 a4 a5) a1 := by
  unfold State.count
  exact Same.ite (Same.refl _ _) (Same.setCounters rfl (fun h => by obtain ⟨e1, e2, e3⟩ := Counters.foldl_add_rings (a1.counters.sels.filter fun e => selCounts e.2 a2 a3 a4) a5 a1.counters; unfold State.RingsIn; dsimp only; rw [e1, e2, e3]; exact h) (Same.refl _ _))

theorem State.raise_same (a1 : State) (a2 : QEvent) :
    Same [.quench, .counters] (State.raise a1 a2) a1 := by
  unfold State.raise
  extract_lets +onlyGivenNames x3
  have h3 : Same [.quench, .counters] x3 a1 := by
    unfold x3
    refine Same.ite ?_ ?_
    · refine Same.getDMap ?_ ?_
      · intro y4
        exact Same.step (State.count_same ..) rfl (Same.refl _ _)
      · exact Same.refl _ _
    · exact Same.refl _ _
  clear_value x3
  exact Same.setQuench rfl (by assumption)

theorem State.raiseAt_same (a1 : State) (a2 : Nat) (a3 : Nat) :
    Same [.quench, .counters] (State.raiseAt a1 a2 a3) a1 := by
  unfold State.raiseAt
  exact Same.step (State.raise_same ..) rfl (Same.refl _ _)

theorem State.modTile_same (a1 : State) (a2 : Nat) (a3 : Tile → Tile) :
    Same [.tiles] (State.modTile a1 a2 a3) a1 := by
  unfold State.modTile
  exact Same.setTiles rfl (Same.refl _ _)

theorem State.modPort_same (a1 : State) (a2 : Nat) (a3 : HostPort → HostPort) :
    Same [.ports] (State.modPort a1 a2 a3) a1 := by
  unfold State.modPort
  exact Same.setPorts rfl (Same.refl _ _)

theorem State.drawFree_same (a1 : State) (a2 : Nat) :
    Same [.free] (State.drawFree a1 a2).2 a1 := by
  unfold State.drawFree
  dsimp only
  exact Same.setFree rfl (Same.refl _ _)

theorem State.countOut_same (a1 : State) (a2 : Output) :
    Same [.counters] (State.countOut a1 a2) a1 := by
  unfold State.countOut
  split
  · exact Same.ite (Same.step (State.count_same ..) rfl (Same.refl _ _)) (Same.refl _ _)
  · exact Same.step (State.count_same ..) rfl (Same.refl _ _)
  · exact Same.step (State.count_same ..) rfl (Same.refl _ _)
  · exact Same.step (State.count_same ..) rfl (Same.refl _ _)
  · exact Same.step (State.count_same ..) rfl (Same.refl _ _)
  · exact Same.step (State.count_same ..) rfl (Same.refl _ _)
  · exact Same.step (State.count_same ..) rfl (Same.refl _ _)
  · exact Same.step (State.count_same ..) rfl (Same.refl _ _)
  · exact Same.refl _ _

theorem State.emit_same (a1 : State) (a2 : Output) :
    Same [.counters, .out] (State.emit a1 a2) a1 := by
  unfold State.emit
  extract_lets +onlyGivenNames x3
  have h3 : Same [.counters, .out] x3 a1 := by
    unfold x3
    exact Same.step (State.countOut_same ..) rfl (Same.refl _ _)
  clear_value x3
  exact Same.setOut rfl (by assumption)

theorem State.modMbox_same (a1 : State) (a2 : Fn) (a3 : Mbox → Mbox) :
    Same [.hearth] (State.modMbox a1 a2 a3) a1 := by
  unfold State.modMbox
  exact Same.setHearth rfl (Same.refl _ _)

theorem State.modInst_same (a1 : State) (a2 : Nat) (a3 : Inst → Inst) :
    Same [.insts] (State.modInst a1 a2 a3) a1 := by
  unfold State.modInst
  exact Same.setInsts rfl (Same.refl _ _)

theorem State.modWq_same (a1 : State) (a2 : Nat) (a3 : Wq → Wq) :
    Same [.wqs] (State.modWq a1 a2 a3) a1 := by
  unfold State.modWq
  split
  · exact Same.refl _ _
  · exact Same.setWqs rfl (Same.refl _ _)

theorem State.modCq_same (a1 : State) (a2 : Nat) (a3 : Cq → Cq) :
    Same [.cqs] (State.modCq a1 a2 a3) a1 := by
  unfold State.modCq
  split
  · exact Same.refl _ _
  · exact Same.setCqs rfl (Same.refl _ _)

theorem State.advance_same (a1 : State) (a2 : Ticks) :
    Same [.time] (State.advance a1 a2) a1 := by
  unfold State.advance
  exact Same.ite (Same.setTime rfl (Same.refl _ _)) (Same.refl _ _)

theorem State.modTally_same (a1 : State) (a2 : Nat) (a3 : Tally → Tally) :
    Same [.remote] (State.modTally a1 a2 a3) a1 := by
  unfold State.modTally
  exact Same.setRemote rfl (Same.refl _ _)

theorem State.modChan_same (a1 : State) (a2 : Nat) (a3 : Chan → Chan) :
    Same [.draw] (State.modChan a1 a2 a3) a1 := by
  unfold State.modChan
  exact Same.setDraw rfl (Same.refl _ _)

theorem State.modVise_same (a1 : State) (a2 : Nat) (a3 : Vise → Vise) :
    Same [.vises] (State.modVise a1 a2 a3) a1 := by
  unfold State.modVise
  exact Same.setVises rfl (Same.refl _ _)

theorem State.biSnoop_same (a1 : State) (a2 : Nat) (a3 : Nat) :
    Same [.ports, .counters, .out] (State.biSnoop a1 a2 a3) a1 := by
  unfold State.biSnoop
  extract_lets +onlyGivenNames x4
  clear_value x4
  exact Same.ite (Same.step (State.emit_same ..) rfl (Same.step (State.modPort_same ..) rfl (Same.refl _ _))) (Same.refl _ _)

theorem State.snoopOut_same (a1 : State) (a2 : Nat) (a3 : List Nat) :
    Same [.ports, .counters, .out] (State.snoopOut a1 a2 a3) a1 := by
  unfold State.snoopOut
  refine Same.foldl ?_ _ ?_
  · intro y4
    intro y5
    refine Same.foldl ?_ _ ?_
    · intro y6
      intro y7
      exact Same.step (State.biSnoop_same ..) rfl (Same.refl _ _)
    · exact Same.refl _ _
  · exact Same.refl _ _

theorem State.modCtx_same (a1 : State) (a2 : Nat) (a3 : Ctx → Ctx) :
    Same [.matching] (State.modCtx a1 a2 a3) a1 := by
  unfold State.modCtx
  split
  · exact Same.refl _ _
  · exact Same.setMatching rfl (Same.refl _ _)

theorem State.modCell_same (a1 : State) (a2 : Nat) (a3 : Cell → Cell) :
    Same [.striker] (State.modCell a1 a2 a3) a1 := by
  unfold State.modCell
  exact Same.setStriker rfl id (Same.refl _ _)

theorem State.mendOver_same (a1 : State) (a2 : Nat) :
    Same [.quench] (State.mendOver a1 a2) a1 := by
  unfold State.mendOver
  exact Same.setQuench rfl (Same.refl _ _)

theorem State.tick_same (a1 : State) :
    Same [.time] (State.tick a1) a1 := by
  unfold State.tick
  exact Same.setTime rfl (Same.refl _ _)

end Sys2Proof.Machine
end

