-- ==== Sys2Proof/Laws/FrameNet.lean ====
section
/-! SUPPORT. Frames of the operations and commands of Sys2Proof/Machine/Net.lean: each changes no part of the module but those it
names, and keeps module memory canonical. -/

namespace Sys2Proof.Machine

open Sys2Proof

theorem State.toAgent_same (a1 : State) (a2 : Nat) (a3 : Packet) :
    Same [.routing] (State.toAgent a1 a2 a3) a1 := by
  unfold State.toAgent
  exact Same.setRouting rfl (Same.refl _ _)

theorem State.noteQueue_same (a1 : State) (a2 : Nat) (a3 : Nat) (a4 : Option Ticks) :
    Same [.sched] (State.noteQueue a1 a2 a3 a4) a1 := by
  unfold State.noteQueue
  refine Same.ite ?_ ?_
  · extract_lets +onlyGivenNames x5
    clear_value x5
    extract_lets +onlyGivenNames x6
    clear_value x6
    exact Same.setSched rfl id (Same.refl _ _)
  · exact Same.refl _ _

theorem State.ejectTo_same (a1 : State) (a2 : Nat) (a3 : QPkt) :
    Same [.sched, .quench, .counters] (State.ejectTo a1 a2 a3).1 a1 := by
  unfold State.ejectTo
  refine Same.iteFst ?_ ?_
  · extract_lets +onlyGivenNames x4
    extract_lets +onlyGivenNames x5
    have h5 : Same [.sched, .quench, .counters] x5 a1 := by
      unfold x5
      exact Same.setSched rfl id (Same.refl _ _)
    clear_value x5
    dsimp only
    exact Same.step (State.noteQueue_same ..) rfl (by assumption)
  · refine Same.iteFst ?_ ?_
    · dsimp only
      exact Same.refl _ _
    · dsimp only
      exact Same.step (State.raiseAt_same ..) rfl (Same.setSched rfl id (Same.refl _ _))

theorem State.countTruncated_same (a1 : State) (a2 : Nat) :
    Same [.tiles] (State.countTruncated a1 a2) a1 := by
  unfold State.countTruncated
  exact Same.step (State.modTile_same ..) rfl (Same.refl _ _)

theorem State.laneHeld_same (a1 : State) (a2 : Packet) :
    Same [.routing, .quench, .counters] (State.laneHeld a1 a2).1 a1 := by
  unfold State.laneHeld
  refine Same.iteFst ?_ ?_
  · refine Same.iteFst ?_ ?_
    · dsimp only
      exact Same.ite (Same.refl _ _) (Same.step (State.raiseAt_same ..) rfl (Same.setRouting rfl (Same.refl _ _)))
    · dsimp only
      exact Same.refl _ _
  · refine Same.iteFst ?_ ?_
    · refine Same.iteFst ?_ ?_
      · dsimp only
        exact Same.ite (Same.refl _ _) (Same.step (State.raiseAt_same ..) rfl (Same.setRouting rfl (Same.refl _ _)))
      · dsimp only
        exact Same.refl _ _
    · refine Same.iteFst ?_ ?_
      · dsimp only
        exact Same.ite (Same.refl _ _) (Same.step (State.raiseAt_same ..) rfl (Same.setRouting rfl (Same.refl _ _)))
      · dsimp only
        exact Same.refl _ _

theorem State.enqueue_same (a1 : State) (a2 : Nat) (a3 : QPkt) :
    Same [.tiles, .sched] (State.enqueue a1 a2 a3) a1 := by
  unfold State.enqueue
  extract_lets +onlyGivenNames x4
  have h4 : Same [.tiles, .sched] x4 a1 := by
    unfold x4
    exact Same.step (State.modTile_same ..) rfl (Same.refl _ _)
  clear_value x4
  extract_lets +onlyGivenNames x6
  clear_value x6
  exact Same.step (State.noteQueue_same ..) rfl (by assumption)

theorem State.enterSole_same (a1 : State) (a2 : Nat) :
    Same [.routing, .tiles] (State.enterSole a1 a2) a1 := by
  unfold State.enterSole
  extract_lets +onlyGivenNames x3
  clear_value x3
  extract_lets +onlyGivenNames x4
  have h4 : Same [.routing, .tiles] x4 a1 := by
    unfold x4
    exact Same.ite (Same.refl _ _) (Same.setRouting rfl (Same.refl _ _))
  clear_value x4
  exact Same.step (State.modTile_same ..) rfl (by assumption)

theorem State.hopToward_same (a1 : State) (a2 : Bool) (a3 : QPkt) (a4 : ModId) :
    Same [.routing, .tiles, .counters] (State.hopToward a1 a2 a3 a4).1 a1 := by
  unfold State.hopToward
  extract_lets +onlyGivenNames x5
  clear_value x5
  extract_lets +onlyGivenNames x6
  clear_value x6
  extract_lets +onlyGivenNames x7
  clear_value x7
  extract_lets +onlyGivenNames x8
  clear_value x8
  extract_lets +onlyGivenNames x9
  clear_value x9
  extract_lets +onlyGivenNames x10
  clear_value x10
  extract_lets +onlyGivenNames x11
  clear_value x11
  extract_lets +onlyGivenNames x12
  clear_value x12
  split
  · extract_lets +onlyGivenNames x18
    have h18 : Same [.routing, .tiles, .counters] x18 a1 := by
      unfold x18
      exact Same.ite (Same.step (State.count_same ..) rfl (Same.refl _ _)) (Same.refl _ _)
    clear_value x18
    dsimp only
    exact Same.setRouting rfl (by assumption)
  · extract_lets +onlyGivenNames x15
    clear_value x15
    extract_lets +onlyGivenNames x16
    clear_value x16
    split
    · dsimp only
      exact Same.step (State.enterSole_same ..) rfl (Same.refl _ _)
    · dsimp only
      exact Same.refl _ _

theorem State.lookup_same (a1 : State) (a2 : QPkt) :
    Same [.routing, .tiles, .counters] (State.lookup a1 a2).1 a1 := by
  unfold State.lookup
  dsimp only
  split
  · refine Same.ofFst3 (by assumption) (Same.iteFst ?_ (Same.refl _ _))
    exact State.hopToward_same ..
  · have h : Same [.routing, .tiles, .counters] _ a1 := Same.ofFst3 (by assumption) (Same.iteFst (State.hopToward_same ..) (Same.refl _ _))
    refine Same.iteFst h ?_
    split
    · exact Same.step (Same.ofFst3 (by assumption) (State.hopToward_same ..)) rfl h
    · exact Same.step (Same.ofFst3 (by assumption) (State.hopToward_same ..)) rfl h

theorem State.sendOut_same (a1 : State) (a2 : Bool) (a3 : Packet) :
    Same [.routing, .tiles, .sched, .counters] (State.sendOut a1 a2 a3) a1 := by
  unfold State.sendOut
  extract_lets +onlyGivenNames x4
  clear_value x4
  refine Same.ite ?_ ?_
  · exact Same.step (State.enqueue_same ..) rfl (Same.refl _ _)
  · split
    · exact Same.step (State.enqueue_same ..) rfl (Same.ofFst3 (by assumption) (Same.step (State.lookup_same ..) rfl (Same.refl _ _)))
    · exact Same.setRouting rfl (Same.ofFst3 (by assumption) (Same.step (State.lookup_same ..) rfl (Same.refl _ _)))

theorem State.sendAck_same (a1 : State) (a2 : StreamKey) (a3 : BitVec 32) (a4 : BitVec 15) :
    Same [.routing, .tiles, .sched, .counters] (State.sendAck a1 a2 a3 a4) a1 := by
  unfold State.sendAck
  exact Same.step (State.sendOut_same ..) rfl (Same.refl _ _)

theorem State.deliverTc3_same (a1 : State) (a2 : Nat) (a3 : StreamRx) (a4 : Packet) :
    Same [.routing, .tiles, .sched, .counters] (State.deliverTc3 a1 a2 a3 a4).1 a1 := by
  unfold State.deliverTc3
  extract_lets +onlyGivenNames x5
  clear_value x5
  extract_lets +onlyGivenNames x6
  clear_value x6
  extract_lets +onlyGivenNames x7
  have h7 : Same [.routing, .tiles, .sched, .counters] x7 a1 := by
    unfold x7
    exact Same.step (State.toAgent_same ..) rfl (Same.refl _ _)
  clear_value x7
  dsimp only
  refine Same.ite ?_ ?_
  · exact Same.step (State.sendAck_same ..) rfl (by assumption)
  · assumption

theorem State.drainHold_same (a1 : State) (a2 : Nat) (a3 : Nat) (a4 : StreamRx) :
    Same [.routing, .tiles, .sched, .counters] (State.drainHold a1 a2 a3 a4).1 a1 := by
  induction a3 generalizing a1 a4 with
  | zero => exact Same.refl _ _
  | succ n ih =>
    unfold State.drainHold
    split
    · dsimp only
      exact Same.refl _ _
    · split
      exact Same.step (ih ..) rfl (Same.ofFst (by assumption) (Same.step (State.deliverTc3_same ..) rfl (Same.refl _ _)))

theorem State.receiveTc3_same (a1 : State) (a2 : Nat) (a3 : Packet) :
    Same [.routing, .tiles, .sched, .counters] (State.receiveTc3 a1 a2 a3) a1 := by
  unfold State.receiveTc3
  extract_lets +onlyGivenNames x4
  clear_value x4
  refine Same.ite ?_ ?_
  · exact Same.step (State.countTruncated_same ..) rfl (Same.refl _ _)
  · refine Same.ite ?_ ?_
    · exact Same.refl _ _
    · refine Same.ite ?_ ?_
      · exact Same.step (State.toAgent_same ..) rfl (Same.refl _ _)
      · split
        · refine Same.ite ?_ ?_
          · split
            exact Same.setRouting rfl (Same.ofFst (by assumption) (Same.step (State.deliverTc3_same ..) rfl (Same.refl _ _)))
          · exact Same.step (State.sendAck_same ..) rfl (Same.refl _ _)
        · extract_lets +onlyGivenNames x8
          clear_value x8
          refine Same.ite ?_ ?_
          · split
            split
            exact Same.setRouting rfl (Same.ofFst (by assumption) (Same.step (State.drainHold_same ..) rfl (Same.ofFst (by assumption) (Same.step (State.deliverTc3_same ..) rfl (Same.refl _ _)))))
          · refine Same.ite ?_ ?_
            · exact Same.ite (Same.step (State.sendAck_same ..) rfl (Same.refl _ _)) (Same.ite (Same.setRouting rfl (Same.refl _ _)) (Same.refl _ _))
            · exact Same.step (State.sendAck_same ..) rfl (Same.refl _ _)

theorem State.release_same (a1 : State) (a2 : Option Nat) (a3 : Nat) (a4 : Nat) :
    Same [.tiles] (State.release a1 a2 a3 a4) a1 := by
  unfold State.release
  split
  · exact Same.refl _ _
  · exact Same.step (State.modTile_same ..) rfl (Same.refl _ _)

theorem State.freeIn_same (a1 : State) (a2 : QPkt) :
    Same [.tiles] (State.freeIn a1 a2) a1 := by
  unfold State.freeIn
  split
  · exact Same.refl _ _
  · refine Same.ite ?_ ?_
    · exact Same.refl _ _
    · exact Same.ite (Same.step (State.release_same ..) rfl (Same.refl _ _)) (Same.step (State.modTile_same ..) rfl (Same.refl _ _))

theorem State.deliver_same (a1 : State) (a2 : QPkt) :
    Same [.routing, .tiles, .sched, .quench, .counters] (State.deliver a1 a2).1 a1 := by
  unfold State.deliver
  extract_lets +onlyGivenNames x3
  clear_value x3
  extract_lets +onlyGivenNames x4
  refine Same.iteFst ?_ ?_
  · dsimp only
    unfold x4
    exact Same.step (State.freeIn_same ..) rfl (Same.step (State.receiveTc3_same ..) rfl (Same.refl _ _))
  · refine Same.iteFst ?_ ?_
    · dsimp only
      unfold x4
      refine Same.step (State.freeIn_same ..) rfl ?_
      split
      · exact Same.step (State.countTruncated_same ..) rfl (Same.refl _ _)
      · exact Same.refl _ _
    · refine Same.iteFst ?_ ?_
      · split
        · dsimp only
          exact Same.ofFst (by assumption) (Same.step (State.laneHeld_same ..) rfl (Same.refl _ _))
        · dsimp only
          unfold x4
          exact Same.step (State.freeIn_same ..) rfl (Same.step (State.toAgent_same ..) rfl (Same.ofFst (by assumption) (Same.step (State.laneHeld_same ..) rfl (Same.refl _ _))))
      · extract_lets +onlyGivenNames x5
        clear_value x5
        split
        · dsimp only
          exact Same.ofFst (by assumption) (Same.step (State.laneHeld_same ..) rfl (Same.refl _ _))
        · split
          · dsimp only
            unfold x4
            exact Same.step (State.freeIn_same ..) rfl (Same.ofFst (by assumption) (Same.step (State.ejectTo_same ..) rfl (Same.ofFst (by assumption) (Same.step (State.laneHeld_same ..) rfl (Same.refl _ _)))))
          · dsimp only
            exact Same.ofFst (by assumption) (Same.step (State.ejectTo_same ..) rfl (Same.ofFst (by assumption) (Same.step (State.laneHeld_same ..) rfl (Same.refl _ _))))

theorem State.deliverOrWait_same (a1 : State) (a2 : QPkt) :
    Same [.routing, .tiles, .sched, .quench, .counters] (State.deliverOrWait a1 a2).1 a1 := by
  unfold State.deliverOrWait
  split
  · dsimp only
    exact Same.ofFst (by assumption) (Same.step (State.deliver_same ..) rfl (Same.refl _ _))
  · dsimp only
    exact Same.ofFst (by assumption) (Same.step (State.deliver_same ..) rfl (Same.refl _ _))

theorem State.pumpStream_same (a1 : State) (a2 : StreamKey) (a3 : Nat) :
    Same [.routing, .tiles, .sched, .quench, .counters] (State.pumpStream a1 a2 a3) a1 := by
  induction a3 generalizing a1 with
  | zero => exact Same.refl _ _
  | succ n ih =>
    unfold State.pumpStream
    extract_lets +onlyGivenNames x5
    clear_value x5
    split
    · exact Same.refl _ _
    · refine Same.ite ?_ ?_
      · exact Same.refl _ _
      · refine Same.ite ?_ ?_
        · exact Same.step (State.raiseAt_same ..) rfl (Same.refl _ _)
        · extract_lets +onlyGivenNames x10
          clear_value x10
          extract_lets +onlyGivenNames x11
          clear_value x11
          exact Same.step (ih ..) rfl (Same.step (State.sendOut_same ..) rfl (Same.setRouting rfl (Same.refl _ _)))

theorem State.sendTc3_same (a1 : State) (a2 : Bool) (a3 : Packet) :
    Same [.routing, .tiles, .sched, .quench, .counters] (State.sendTc3 a1 a2 a3) a1 := by
  unfold State.sendTc3
  extract_lets +onlyGivenNames x4
  clear_value x4
  refine Same.ite ?_ ?_
  · exact Same.setRouting rfl (Same.refl _ _)
  · extract_lets +onlyGivenNames x5
    clear_value x5
    exact Same.ite (Same.setRouting rfl (Same.refl _ _)) (Same.step (State.pumpStream_same ..) rfl (Same.setRouting rfl (Same.refl _ _)))

theorem State.sendFault_same (a1 : State) (a2 : Nat) (a3 : Nat) (a4 : Bool) (a5 : Packet) :
    Same [.routing, .tiles, .sched, .quench, .counters] (State.sendFault a1 a2 a3 a4 a5) a1 := by
  unfold State.sendFault
  exact Same.ite (Same.refl _ _) (Same.step (State.sendTc3_same ..) rfl (Same.refl _ _))

theorem State.faultFor_same (a1 : State) (a2 : Nat) (a3 : Nat) (a4 : Bool) (a5 : QPkt) :
    Same [.routing, .tiles, .sched, .quench, .counters] (State.faultFor a1 a2 a3 a4 a5) a1 := by
  unfold State.faultFor
  refine Same.ite ?_ ?_
  · exact Same.step (State.sendFault_same ..) rfl (Same.refl _ _)
  · split
    · exact Same.refl _ _
    · exact Same.step (State.modTile_same ..) rfl (Same.refl _ _)

theorem State.discardAt_same (a1 : State) (a2 : Nat) (a3 : QPkt) :
    Same [.routing, .tiles, .sched, .quench, .counters] (State.discardAt a1 a2 a3) a1 := by
  unfold State.discardAt
  extract_lets +onlyGivenNames x4
  clear_value x4
  extract_lets +onlyGivenNames x5
  clear_value x5
  extract_lets +onlyGivenNames x6
  have h6 : Same [.routing, .tiles, .sched, .quench, .counters] x6 a1 := by
    unfold x6
    exact Same.setRouting rfl (Same.refl _ _)
  clear_value x6
  exact Same.step (State.faultFor_same ..) rfl (Same.step (State.raise_same ..) rfl (by assumption))

theorem State.sendCopy_same (a1 : State) (a2 : QPkt) (a3 : Nat) :
    Same [.routing, .tiles, .sched, .quench, .counters] (State.sendCopy a1 a2 a3) a1 := by
  unfold State.sendCopy
  extract_lets +onlyGivenNames x4
  clear_value x4
  extract_lets +onlyGivenNames x5
  clear_value x5
  extract_lets +onlyGivenNames x6
  clear_value x6
  refine Same.ite ?_ ?_
  · refine Same.step (State.discardAt_same ..) rfl ?_
    extract_lets +onlyGivenNames x7
    have h7 : Same [.routing, .tiles, .sched, .quench, .counters] x7 a1 := by
      unfold x7
      exact Same.step (State.count_same ..) rfl (Same.refl _ _)
    clear_value x7
    exact Same.setRouting rfl (by assumption)
  · exact Same.step (State.enqueue_same ..) rfl (Same.ite (Same.step (State.enterSole_same ..) rfl (Same.refl _ _)) (Same.refl _ _))

theorem State.markLocal_same (a1 : State) (a2 : QPkt) :
    Same [.tiles] (State.markLocal a1 a2) a1 := by
  unfold State.markLocal
  split
  · exact Same.step (State.modTile_same ..) rfl (Same.refl _ _)
  · exact Same.refl _ _

theorem State.place_same (a1 : State) (a2 : QPkt) :
    Same [.routing, .tiles, .sched, .quench, .counters] (State.place a1 a2).1 a1 := by
  unfold State.place
  refine Same.iteFst ?_ ?_
  · exact Same.step (State.deliverOrWait_same ..) rfl (Same.refl _ _)
  · refine Same.iteFst ?_ ?_
    · extract_lets +onlyGivenNames x3
      clear_value x3
      extract_lets +onlyGivenNames x4
      clear_value x4
      split
      extract_lets +onlyGivenNames x9
      have h9 : Same [.routing, .tiles, .sched, .quench, .counters] x9 a1 := by
        unfold x9
        exact Same.ite (Same.step (State.markLocal_same ..) rfl (Same.refl _ _)) (Same.refl _ _)
      clear_value x9
      extract_lets +onlyGivenNames x11
      have h11 : Same [.routing, .tiles, .sched, .quench, .counters] x11 a1 := by
        unfold x11
        refine Same.foldl ?_ _ ?_
        · intro y12
          intro y13
          exact Same.step (State.sendCopy_same ..) rfl (Same.refl _ _)
        · assumption
      clear_value x11
      refine Same.iteFst ?_ ?_
      · refine Same.iteFst ?_ ?_
        · exact Same.step (State.deliverOrWait_same ..) rfl (by assumption)
        · dsimp only
          assumption
      · dsimp only
        exact Same.step (State.freeIn_same ..) rfl (by assumption)
    · split
      · dsimp only
        exact Same.step (State.enqueue_same ..) rfl (Same.ofFst3 (by assumption) (Same.step (State.lookup_same ..) rfl (Same.refl _ _)))
      · refine Same.iteFst ?_ ?_
        · exact Same.step (State.deliverOrWait_same ..) rfl (Same.ofFst3 (by assumption) (Same.step (State.lookup_same ..) rfl (Same.refl _ _)))
        · dsimp only
          exact Same.step (State.markLocal_same ..) rfl (Same.ofFst3 (by assumption) (Same.step (State.lookup_same ..) rfl (Same.refl _ _)))
      · dsimp only
        exact Same.ofFst3 (by assumption) (Same.step (State.lookup_same ..) rfl (Same.refl _ _))
      · extract_lets +onlyGivenNames x7
        clear_value x7
        dsimp only
        exact Same.step (State.freeIn_same ..) rfl (Same.step (State.discardAt_same ..) rfl (Same.step (State.count_same ..) rfl (Same.ofFst3 (by assumption) (Same.step (State.lookup_same ..) rfl (Same.refl _ _)))))

theorem State.retryList_same (a1 : State) (a2 : List QPkt) (a3 : List QPkt) :
    Same [.routing, .tiles, .sched, .quench, .counters] (State.retryList a1 a2 a3).1 a1 := by
  induction a2 generalizing a1 a3 with
  | nil => exact Same.refl _ _
  | cons x l ih =>
    unfold State.retryList
    refine Same.iteFst ?_ ?_
    · exact Same.step (ih ..) rfl (Same.refl _ _)
    · split
      · exact Same.step (ih ..) rfl (Same.ofFst (by assumption) (Same.step (State.place_same ..) rfl (Same.refl _ _)))
      · exact Same.step (ih ..) rfl (Same.ofFst (by assumption) (Same.step (State.place_same ..) rfl (Same.refl _ _)))

theorem State.retryOnce_same (a1 : State) :
    Same [.routing, .tiles, .sched, .quench, .counters] (State.retryOnce a1) a1 := by
  unfold State.retryOnce
  extract_lets +onlyGivenNames x2
  clear_value x2
  split
  exact Same.setRouting rfl (Same.ofFst (by assumption) (Same.step (State.retryList_same ..) rfl (Same.setRouting rfl (Same.refl _ _))))

theorem State.relookLoop_same (a1 : Nat) (a2 : State) :
    Same [.routing, .tiles, .sched, .quench, .counters] (State.relookLoop a1 a2) a2 := by
  induction a1 generalizing a2 with
  | zero => exact Same.refl _ _
  | succ n ih =>
    unfold State.relookLoop
    exact Same.ite (Same.step (ih ..) rfl (Same.step (State.retryOnce_same ..) rfl (Same.refl _ _))) (Same.refl _ _)

theorem State.relook_same (a1 : State) :
    Same [.routing, .tiles, .sched, .quench, .counters] (State.relook a1) a1 := by
  unfold State.relook
  exact Same.step (State.relookLoop_same ..) rfl (Same.refl _ _)

theorem State.retryWaiting_same (a1 : State) :
    Same [.routing, .tiles, .sched, .quench, .counters] (State.retryWaiting a1) a1 := by
  unfold State.retryWaiting
  exact Same.step (State.relook_same ..) rfl (Same.step (State.retryOnce_same ..) rfl (Same.refl _ _))

theorem State.settle_same (a1 : State) :
    Same [.routing, .tiles, .sched, .quench, .counters] (State.settle a1) a1 := by
  unfold State.settle
  extract_lets +onlyGivenNames x2
  clear_value x2
  extract_lets +onlyGivenNames x3
  have h3 : Same [.routing, .tiles, .sched, .quench, .counters] x3 a1 := by
    unfold x3
    exact Same.setTiles rfl (Same.refl _ _)
  clear_value x3
  extract_lets +onlyGivenNames x5
  have h5 : Same [.routing, .tiles, .sched, .quench, .counters] x5 a1 := by
    unfold x5
    refine Same.foldl ?_ _ ?_
    · intro y6
      intro y7
      extract_lets +onlyGivenNames x8
      clear_value x8
      refine Same.ite ?_ ?_
      · refine Same.step (State.freeIn_same ..) rfl (Same.step (State.discardAt_same ..) rfl ?_)
        extract_lets +onlyGivenNames x9
        have h9 : Same [.routing, .tiles, .sched, .quench, .counters] x9 y6 := by
          unfold x9
          exact Same.step (State.count_same ..) rfl (Same.refl _ _)
        clear_value x9
        exact Same.setRouting rfl (by assumption)
      · extract_lets +onlyGivenNames x9
        clear_value x9
        extract_lets +onlyGivenNames x10
        clear_value x10
        split
        · exact Same.ofFst (by assumption) (Same.step (State.place_same ..) rfl (Same.refl _ _))
        · exact Same.setRouting rfl (Same.ofFst (by assumption) (Same.step (State.place_same ..) rfl (Same.refl _ _)))
    · assumption
  clear_value x5
  exact Same.step (State.retryWaiting_same ..) rfl (by assumption)

theorem State.rejoinAll_same (a1 : State) :
    Same [.routing, .tiles, .sched, .quench, .counters] (State.rejoinAll a1) a1 := by
  unfold State.rejoinAll
  exact Same.step (State.settle_same ..) rfl (Same.setTiles rfl (Same.refl _ _))

theorem State.pumpStreams_same (a1 : State) :
    Same [.routing, .tiles, .sched, .quench, .counters] (State.pumpStreams a1) a1 := by
  unfold State.pumpStreams
  refine Same.foldl ?_ _ ?_
  · intro y2
    intro y3
    exact Same.step (State.pumpStream_same ..) rfl (Same.refl _ _)
  · exact Same.refl _ _

theorem State.doubtAll_same (a1 : State) (a2 : Nat) (a3 : Nat) :
    Same [.routing, .tiles, .sched, .quench, .counters] (State.doubtAll a1 a2 a3) a1 := by
  unfold State.doubtAll
  extract_lets +onlyGivenNames x4
  clear_value x4
  extract_lets +onlyGivenNames x5
  clear_value x5
  extract_lets +onlyGivenNames x6
  have h6 : Same [.routing, .tiles, .sched, .quench, .counters] x6 a1 := by
    unfold x6
    exact Same.step (State.modTile_same ..) rfl (Same.refl _ _)
  clear_value x6
  extract_lets +onlyGivenNames x8
  have h8 : Same [.routing, .tiles, .sched, .quench, .counters] x8 a1 := by
    unfold x8
    refine Same.foldl ?_ _ ?_
    · intro y9
      intro y10
      exact Same.ite (Same.refl _ _) (Same.step (State.faultFor_same ..) rfl (Same.setRouting rfl (Same.refl _ _)))
    · assumption
  clear_value x8
  refine Same.foldl ?_ _ ?_
  · intro y10
    intro y11
    exact Same.step (State.freeIn_same ..) rfl (Same.refl _ _)
  · assumption

theorem State.endPartial_same (a1 : State) (a2 : Nat) (a3 : Nat → Bool) :
    Same [.routing, .tiles] (State.endPartial a1 a2 a3) a1 := by
  unfold State.endPartial
  extract_lets +onlyGivenNames x4
  clear_value x4
  extract_lets +onlyGivenNames x5
  clear_value x5
  extract_lets +onlyGivenNames x6
  clear_value x6
  extract_lets +onlyGivenNames x7
  clear_value x7
  extract_lets +onlyGivenNames x8
  have h8 : Same [.routing, .tiles] x8 a1 := by
    unfold x8
    exact Same.setRoutingTiles rfl rfl (Same.refl _ _)
  clear_value x8
  exact Same.step (State.modTile_same ..) rfl (by assumption)

theorem State.leaveRouting_same (a1 : State) (a2 : Nat) (a3 : Nat) :
    Same [.routing, .tiles, .sched, .quench, .counters] (State.leaveRouting a1 a2 a3) a1 := by
  unfold State.leaveRouting
  refine Same.ite ?_ ?_
  · exact Same.refl _ _
  · extract_lets +onlyGivenNames x4
    have h4 : Same [.routing, .tiles, .sched, .quench, .counters] x4 a1 := by
      unfold x4
      exact Same.step (State.modTile_same ..) rfl (Same.refl _ _)
    clear_value x4
    exact Same.step (State.settle_same ..) rfl (Same.step (State.endPartial_same ..) rfl (Same.step (State.doubtAll_same ..) rfl (by assumption)))

theorem State.checkIdentity_same (a1 : State) (a2 : Nat) :
    Same [.routing, .tiles, .sched, .quench, .counters] (State.checkIdentity a1 a2) a1 := by
  unfold State.checkIdentity
  extract_lets +onlyGivenNames x3
  clear_value x3
  refine Same.ite ?_ ?_
  · exact Same.step (State.modTile_same ..) rfl (Same.refl _ _)
  · extract_lets +onlyGivenNames x4
    clear_value x4
    extract_lets +onlyGivenNames x5
    clear_value x5
    extract_lets +onlyGivenNames x6
    clear_value x6
    extract_lets +onlyGivenNames x7
    clear_value x7
    extract_lets +onlyGivenNames x8
    have h8 : Same [.routing, .tiles, .sched, .quench, .counters] x8 a1 := by
      unfold x8
      exact Same.step (State.modTile_same ..) rfl (Same.refl _ _)
    clear_value x8
    extract_lets +onlyGivenNames x10
    have h10 : Same [.routing, .tiles, .sched, .quench, .counters] x10 a1 := by
      unfold x10
      refine Same.ite ?_ ?_
      · exact Same.step (State.raise_same ..) rfl (by assumption)
      · assumption
    clear_value x10
    refine Same.ite ?_ ?_
    · refine Same.ite ?_ ?_
      · assumption
      · refine Same.ite ?_ ?_
        · exact Same.step (State.modTile_same ..) rfl (by assumption)
        · exact Same.step (State.settle_same ..) rfl (Same.step (State.modTile_same ..) rfl (by assumption))
    · exact Same.step (State.leaveRouting_same ..) rfl (Same.step (State.modTile_same ..) rfl (by assumption))

end Sys2Proof.Machine
end

