-- ==== Sys2Proof/Laws/FrameEvents.lean ====
section
/-! SUPPORT. Frames of the operations and commands of Sys2Proof/Machine/Events.lean: each changes no part of the module but those it
names, and keeps module memory canonical. -/

namespace Sys2Proof.Machine

open Sys2Proof

theorem State.signal_same (a1 : State) (a2 : Fn) (a3 : Nat) :
    Same [.ports, .counters, .out] (State.signal a1 a2 a3) a1 := by
  unfold State.signal
  refine Same.ite ?_ ?_
  · exact Same.refl _ _
  · refine Same.ite ?_ ?_
    · exact Same.ite (Same.step (State.emit_same ..) rfl (Same.refl _ _)) (Same.refl _ _)
    · exact Same.step (State.modPort_same ..) rfl (Same.refl _ _)

theorem State.respond_same (a1 : State) (a2 : Arrival) (a3 : Resp) :
    Same [.routing, .tiles, .sched, .ports, .hearth, .quench, .counters, .out] (State.respond a1 a2 a3) a1 := by
  unfold State.respond
  split
  · split
    · exact Same.ite (Same.step (State.signal_same ..) rfl (Same.step (State.modMbox_same ..) rfl (Same.refl _ _))) (Same.refl _ _)
    · exact Same.refl _ _
  · exact Same.step (State.sendTc3_same ..) rfl (Same.refl _ _)
  · exact Same.step (State.sendTc3_same ..) rfl (Same.refl _ _)
  · extract_lets +onlyGivenNames x5
    clear_value x5
    extract_lets +onlyGivenNames x6
    clear_value x6
    exact Same.step (State.emit_same ..) rfl (Same.setHearth rfl (Same.refl _ _))
  · exact Same.step (State.emit_same ..) rfl (Same.refl _ _)

theorem State.answer_same (a1 : State) (a2 : Arrival) (a3 : BitVec 32) (a4 : BitVec 16) (a5 : BitVec 8) (a6 : List Byte) :
    Same [.routing, .tiles, .sched, .ports, .hearth, .quench, .counters, .out] (State.answer a1 a2 a3 a4 a5 a6) a1 := by
  unfold State.answer
  extract_lets +onlyGivenNames x7
  clear_value x7
  extract_lets +onlyGivenNames x8
  clear_value x8
  extract_lets +onlyGivenNames x9
  clear_value x9
  extract_lets +onlyGivenNames x10
  have h10 : Same [.routing, .tiles, .sched, .ports, .hearth, .quench, .counters, .out] x10 a1 := by
    unfold x10
    split
    · exact Same.setHearth rfl (Same.refl _ _)
    · exact Same.refl _ _
  clear_value x10
  exact Same.step (State.respond_same ..) rfl (by assumption)

theorem State.event_same (a1 : State) (a2 : Fn) (a3 : BitVec 16) (a4 : BitVec 32) (a5 : BitVec 128) :
    Same [.ports, .hearth, .counters, .out] (State.event a1 a2 a3 a4 a5) a1 := by
  unfold State.event
  extract_lets +onlyGivenNames x6
  clear_value x6
  refine Same.ite ?_ ?_
  · exact Same.step (State.signal_same ..) rfl (Same.step (State.modMbox_same ..) rfl (Same.refl _ _))
  · extract_lets +onlyGivenNames x7
    have h7 : Same [.ports, .hearth, .counters, .out] x7 a1 := by
      unfold x7
      exact Same.step (State.modMbox_same ..) rfl (Same.refl _ _)
    clear_value x7
    exact Same.setHearth rfl (by assumption)

theorem State.eventAll_same (a1 : State) (a2 : BitVec 16) (a3 : BitVec 32) (a4 : BitVec 128) :
    Same [.ports, .hearth, .counters, .out] (State.eventAll a1 a2 a3 a4) a1 := by
  unfold State.eventAll
  refine Same.foldl ?_ _ ?_
  · intro y5
    intro y6
    exact Same.step (State.event_same ..) rfl (Same.refl _ _)
  · exact Same.refl _ _

theorem State.setMode_same (a1 : State) (a2 : Mode) :
    Same [.ports, .hearth, .counters, .out] (State.setMode a1 a2) a1 := by
  unfold State.setMode
  refine Same.ite ?_ ?_
  · exact Same.refl _ _
  · extract_lets +onlyGivenNames x3
    clear_value x3
    exact Same.step (State.eventAll_same ..) rfl (Same.setHearth rfl (Same.refl _ _))

theorem State.enterService_same (a1 : State) :
    Same [.ports, .hearth, .counters, .out] (State.enterService a1) a1 := by
  unfold State.enterService
  extract_lets +onlyGivenNames x2
  have h2 : Same [.ports, .hearth, .counters, .out] x2 a1 := by
    unfold x2
    exact Same.setPorts rfl (Same.refl _ _)
  clear_value x2
  exact Same.step (State.setMode_same ..) rfl (by assumption)

theorem State.leaveBringup_same (a1 : State) :
    Same [.routing, .tiles, .sched, .ports, .hearth, .quench, .counters, .out] (State.leaveBringup a1) a1 := by
  unfold State.leaveBringup
  extract_lets +onlyGivenNames x2
  have h2 : Same [.routing, .tiles, .sched, .ports, .hearth, .quench, .counters, .out] x2 a1 := by
    unfold x2
    exact Same.step (State.enterService_same ..) rfl (Same.refl _ _)
  clear_value x2
  split
  · assumption
  · exact Same.step (State.answer_same ..) rfl (Same.setHearth rfl (by assumption))

theorem State.bringupExit_same (a1 : State) :
    Same [.routing, .tiles, .sched, .ports, .hearth, .quench, .counters, .out] (State.bringupExit a1) a1 := by
  unfold State.bringupExit
  exact Same.ite (Same.step (State.leaveBringup_same ..) rfl (Same.refl _ _)) (Same.refl _ _)

theorem State.eventManager_same (a1 : State) (a2 : BitVec 16) (a3 : BitVec 32) (a4 : BitVec 128) :
    Same [.ports, .hearth, .counters, .out] (State.eventManager a1 a2 a3 a4) a1 := by
  unfold State.eventManager
  exact Same.ite (Same.step (State.event_same ..) rfl (Same.refl _ _)) (Same.refl _ _)

theorem State.adjustMode_same (a1 : State) :
    Same [.ports, .hearth, .counters, .out] (State.adjustMode a1) a1 := by
  unfold State.adjustMode
  exact Same.ite (Same.step (State.setMode_same ..) rfl (Same.refl _ _)) (Same.refl _ _)

theorem State.announce_same (a1 : State) :
    Same [.tiles] (State.announce a1) a1 := by
  unfold State.announce
  exact Same.setTiles rfl (Same.refl _ _)

theorem State.lapsePresence_same (a1 : State) :
    Same [.ports] (State.lapsePresence a1) a1 := by
  unfold State.lapsePresence
  exact Same.setPorts rfl (Same.refl _ _)

end Sys2Proof.Machine
end

