-- ==== Sys2Proof/Laws/FrameVise.lean ====
section
/-! SUPPORT. Frames of the operations and commands of Sys2Proof/Machine/Vise.lean: each changes no part of the module but those it
names, and keeps module memory canonical. -/

namespace Sys2Proof.Machine

open Sys2Proof

theorem State.tellOwner_same (a1 : State) (a2 : Nat) (a3 : BitVec 16) (a4 : Bool) :
    Same [.ports, .draw, .hearth, .counters, .out] (State.tellOwner a1 a2 a3 a4) a1 := by
  unfold State.tellOwner
  refine Same.ite ?_ ?_
  · exact Same.step (State.modChan_same ..) rfl (Same.refl _ _)
  · split
    · exact Same.step (State.event_same ..) rfl (Same.refl _ _)
    · exact Same.step (State.emit_same ..) rfl (Same.refl _ _)

theorem State.handOver_same (a1 : State) (a2 : Nat) (a3 : Bool) :
    Same [.ports, .draw, .vises, .hearth, .counters, .out] (State.handOver a1 a2 a3) a1 := by
  unfold State.handOver
  split
  · exact Same.step (State.modVise_same ..) rfl (Same.refl _ _)
  · exact Same.step (State.tellOwner_same ..) rfl (Same.step (State.modVise_same ..) rfl (Same.refl _ _))

theorem State.boost_same (a1 : State) (a2 : Nat) (a3 : BitVec 2) :
    Same [.vises, .counters, .out] (State.boost a1 a2 a3) a1 := by
  unfold State.boost
  extract_lets +onlyGivenNames x4
  clear_value x4
  refine Same.ite ?_ ?_
  · extract_lets +onlyGivenNames x5
    clear_value x5
    exact Same.step (State.emit_same ..) rfl (Same.setVises rfl (Same.refl _ _))
  · exact Same.refl _ _

theorem State.withdraw_same (a1 : State) (a2 : Nat) (a3 : BitVec 16) :
    Same [.vises, .counters, .out] (State.withdraw a1 a2 a3) a1 := by
  unfold State.withdraw
  extract_lets +onlyGivenNames x4
  clear_value x4
  exact Same.step (State.boost_same ..) rfl (Same.step (State.modVise_same ..) rfl (Same.refl _ _))

theorem State.breakIdentity_same (a1 : State) (a2 : BitVec 16) :
    Same [.ports, .draw, .vises, .hearth, .counters, .out] (State.breakIdentity a1 a2) a1 := by
  unfold State.breakIdentity
  extract_lets +onlyGivenNames x3
  have h3 : Same [.ports, .draw, .vises, .hearth, .counters, .out] x3 a1 := by
    unfold x3
    refine Same.foldl ?_ _ ?_
    · intro y4
      intro y5
      exact Same.step (State.withdraw_same ..) rfl (Same.refl _ _)
    · exact Same.refl _ _
  clear_value x3
  refine Same.foldl ?_ _ ?_
  · intro y5
    intro y6
    exact Same.step (State.handOver_same ..) rfl (Same.setVises rfl (Same.refl _ _))
  · assumption

theorem State.notOwner_same (a1 : State) :
    Same [.vises] (State.notOwner a1) a1 := by
  unfold State.notOwner
  exact Same.setVises rfl (Same.refl _ _)

theorem State.releaseVise_same (a1 : State) (a2 : Nat) (a3 : BitVec 16) :
    Same [.ports, .draw, .vises, .hearth, .counters, .out] (State.releaseVise a1 a2 a3) a1 := by
  unfold State.releaseVise
  extract_lets +onlyGivenNames x4
  clear_value x4
  refine Same.ite ?_ ?_
  · exact Same.step (State.handOver_same ..) rfl (Same.refl _ _)
  · exact Same.ite (Same.step (State.withdraw_same ..) rfl (Same.refl _ _)) (Same.step (State.notOwner_same ..) rfl (Same.refl _ _))

theorem State.claim_same (a1 : State) (a2 : Nat) (a3 : BitVec 16) (a4 : Bool) (a5 : BitVec 2) :
    Same [.vises, .counters, .out] (State.claim a1 a2 a3 a4 a5) a1 := by
  unfold State.claim
  extract_lets +onlyGivenNames x6
  clear_value x6
  refine Same.ite ?_ ?_
  · exact Same.step (State.modVise_same ..) rfl (Same.refl _ _)
  · refine Same.ite ?_ ?_
    · exact Same.refl _ _
    · extract_lets +onlyGivenNames x7
      have h7 : Same [.vises, .counters, .out] x7 a1 := by
        unfold x7
        exact Same.step (State.count_same ..) rfl (Same.refl _ _)
      clear_value x7
      extract_lets +onlyGivenNames x9
      clear_value x9
      extract_lets +onlyGivenNames x10
      have h10 : Same [.vises, .counters, .out] x10 a1 := by
        unfold x10
        exact Same.setVises rfl (by assumption)
      clear_value x10
      refine Same.ite ?_ ?_
      · assumption
      · extract_lets +onlyGivenNames x12
        have h12 : Same [.vises, .counters, .out] x12 a1 := by
          unfold x12
          refine Same.foldl ?_ _ ?_
          · intro y13
            intro y14
            exact Same.step (State.withdraw_same ..) rfl (Same.refl _ _)
          · assumption
        clear_value x12
        exact Same.step (State.boost_same ..) rfl (Same.step (State.modVise_same ..) rfl (by assumption))

theorem State.breakByFault_same (a1 : State) (a2 : BitVec 16) (a3 : Nat) (a4 : Nat) :
    Same [.ports, .draw, .vises, .hearth, .quench, .counters, .out] (State.breakByFault a1 a2 a3 a4) a1 := by
  unfold State.breakByFault
  extract_lets +onlyGivenNames x5
  clear_value x5
  extract_lets +onlyGivenNames x6
  have h6 : Same [.ports, .draw, .vises, .hearth, .quench, .counters, .out] x6 a1 := by
    unfold x6
    exact Same.step (State.breakIdentity_same ..) rfl (Same.refl _ _)
  clear_value x6
  refine Same.ite ?_ ?_
  · exact Same.step (State.raise_same ..) rfl (by assumption)
  · assumption

theorem State.passVises_same (a1 : State) (a2 : BitVec 16) (a3 : BitVec 16) :
    Same [.vises] (State.passVises a1 a2 a3) a1 := by
  unfold State.passVises
  exact Same.setVises rfl (Same.refl _ _)

theorem State.viseWrite_same (a1 : State) (a2 : BitVec 16) (a3 : Nat) (a4 : Word) :
    Same [.ports, .draw, .vises, .hearth, .quench, .counters, .out] (State.viseWrite a1 a2 a3 a4) a1 := by
  unfold State.viseWrite
  refine Same.ite ?_ ?_
  · exact Same.refl _ _
  · refine Same.ite ?_ ?_
    · exact Same.step (State.raiseAt_same ..) rfl (Same.setVises rfl (Same.refl _ _))
    · refine Same.ite ?_ ?_
      · exact Same.step (State.releaseVise_same ..) rfl (Same.refl _ _)
      · exact Same.ite (Same.step (State.claim_same ..) rfl (Same.refl _ _)) (Same.step (State.notOwner_same ..) rfl (Same.refl _ _))

theorem execViseClaimWrite_same (a1 : BitVec 16) (a2 : Nat) (a3 : Word) (a4 : State) :
    SameNext [.ports, .draw, .vises, .hearth, .quench, .counters, .out] (execViseClaimWrite a1 a2 a3 a4) a4 := by
  unfold execViseClaimWrite
  exact SameNext.next (Same.step (State.viseWrite_same ..) rfl (Same.refl _ _))

theorem execViseReleaseWrite_same (a1 : BitVec 16) (a2 : Nat) (a3 : Word) (a4 : State) :
    SameNext [.ports, .draw, .vises, .hearth, .quench, .counters, .out] (execViseReleaseWrite a1 a2 a3 a4) a4 := by
  unfold execViseReleaseWrite
  exact SameNext.next (Same.step (State.viseWrite_same ..) rfl (Same.refl _ _))

end Sys2Proof.Machine
end

