-- ==== Sys2Proof/Laws/FrameTime.lean ====
section
/-! SUPPORT. Frames of the operations and commands of Sys2Proof/Machine/Time.lean: each changes no part of the module but those it
names, and keeps module memory canonical. -/

namespace Sys2Proof.Machine

open Sys2Proof

theorem State.takeArrival_same (a1 : State) (a2 : Packet) :
    Same [.routing] (State.takeArrival a1 a2) a1 := by
  unfold State.takeArrival
  exact Same.setRouting rfl (Same.refl _ _)

theorem State.noteClassOne_same (a1 : State) :
    Same [.time] (State.noteClassOne a1) a1 := by
  unfold State.noteClassOne
  extract_lets +onlyGivenNames x2
  clear_value x2
  exact Same.setTime rfl (Same.refl _ _)

theorem State.elect_same (a1 : State) :
    Same [.routing, .tiles, .sched, .time, .quench, .counters] (State.elect a1) a1 := by
  unfold State.elect
  extract_lets +onlyGivenNames x2
  have h2 : Same [.routing, .tiles, .sched, .time, .quench, .counters] x2 a1 := by
    unfold x2
    exact Same.step (State.noteClassOne_same ..) rfl (Same.refl _ _)
  clear_value x2
  extract_lets +onlyGivenNames x4
  clear_value x4
  extract_lets +onlyGivenNames x5
  clear_value x5
  extract_lets +onlyGivenNames x6
  clear_value x6
  extract_lets +onlyGivenNames x7
  have h7 : Same [.routing, .tiles, .sched, .time, .quench, .counters] x7 a1 := by
    unfold x7
    exact Same.setTilesTime rfl rfl (by assumption)
  clear_value x7
  refine Same.ite ?_ ?_
  · exact Same.step (State.sendTc3_same ..) rfl (by assumption)
  · assumption

theorem State.stepTime_same (a1 : State) (a2 : Ticks) :
    Same [.time, .quench, .counters] (State.stepTime a1 a2) a1 := by
  unfold State.stepTime
  extract_lets +onlyGivenNames x3
  clear_value x3
  extract_lets +onlyGivenNames x4
  clear_value x4
  extract_lets +onlyGivenNames x5
  clear_value x5
  extract_lets +onlyGivenNames x6
  have h6 : Same [.time, .quench, .counters] x6 a1 := by
    unfold x6
    exact Same.setTimeQuench rfl rfl (Same.refl _ _)
  refine Same.ite ?_ ?_
  · assumption
  · exact Same.step (State.raiseAt_same ..) rfl (by assumption)

theorem State.servoTake_same (a1 : State) (a2 : Int) (a3 : Int) :
    Same [.time, .quench, .counters] (State.servoTake a1 a2 a3) a1 := by
  unfold State.servoTake
  extract_lets +onlyGivenNames x4
  clear_value x4
  extract_lets +onlyGivenNames x5
  clear_value x5
  refine Same.ite ?_ ?_
  · exact Same.step (State.stepTime_same ..) rfl (Same.refl _ _)
  · extract_lets +onlyGivenNames x6
    clear_value x6
    extract_lets +onlyGivenNames x7
    clear_value x7
    extract_lets +onlyGivenNames x8
    clear_value x8
    extract_lets +onlyGivenNames x9
    clear_value x9
    extract_lets +onlyGivenNames x10
    clear_value x10
    exact Same.setTime rfl (Same.refl _ _)

theorem State.loseReference_same (a1 : State) :
    Same [.routing, .tiles, .sched, .time, .quench, .counters] (State.loseReference a1) a1 := by
  unfold State.loseReference
  refine Same.ite ?_ ?_
  · exact Same.step (State.elect_same ..) rfl (Same.step (State.raiseAt_same ..) rfl (Same.setTime rfl (Same.refl _ _)))
  · exact Same.setTime rfl (Same.refl _ _)

theorem State.takePps_same (a1 : State) (a2 : Nat) (a3 : Nat) (a4 : Nat) :
    Same [.routing, .tiles, .sched, .time, .ports, .hearth, .quench, .counters, .out] (State.takePps a1 a2 a3 a4) a1 := by
  unfold State.takePps
  extract_lets +onlyGivenNames x5
  clear_value x5
  extract_lets +onlyGivenNames x6
  clear_value x6
  extract_lets +onlyGivenNames x7
  clear_value x7
  extract_lets +onlyGivenNames x8
  clear_value x8
  extract_lets +onlyGivenNames x9
  have h9 : Same [.routing, .tiles, .sched, .time, .ports, .hearth, .quench, .counters, .out] x9 a1 := by
    unfold x9
    exact Same.setTime rfl (Same.refl _ _)
  clear_value x9
  refine Same.ite ?_ ?_
  · exact Same.step (State.loseReference_same ..) rfl (by assumption)
  · extract_lets +onlyGivenNames x11
    clear_value x11
    extract_lets +onlyGivenNames x12
    clear_value x12
    extract_lets +onlyGivenNames x13
    have h13 : Same [.routing, .tiles, .sched, .time, .ports, .hearth, .quench, .counters, .out] x13 a1 := by
      unfold x13
      exact Same.step (State.elect_same ..) rfl (Same.setTime rfl (by assumption))
    clear_value x13
    refine Same.ite ?_ ?_
    · assumption
    · split
      · extract_lets +onlyGivenNames x18
        have h18 : Same [.routing, .tiles, .sched, .time, .ports, .hearth, .quench, .counters, .out] x18 a1 := by
          unfold x18
          exact Same.step (State.stepTime_same ..) rfl (by assumption)
        clear_value x18
        extract_lets +onlyGivenNames x20
        clear_value x20
        extract_lets +onlyGivenNames x21
        clear_value x21
        extract_lets +onlyGivenNames x22
        clear_value x22
        extract_lets +onlyGivenNames x23
        have h23 : Same [.routing, .tiles, .sched, .time, .ports, .hearth, .quench, .counters, .out] x23 a1 := by
          unfold x23
          exact Same.setTimeHearth rfl rfl (by assumption)
        clear_value x23
        refine Same.foldl ?_ _ ?_
        · intro y25
          intro y26
          exact Same.step (State.respond_same ..) rfl (Same.refl _ _)
        · assumption
      · exact Same.step (State.servoTake_same ..) rfl (by assumption)

theorem execTimeOutPulse_same (a1 : Ticks) (a2 : State) :
    SameNext [.time, .counters, .out] (execTimeOutPulse a1 a2) a2 := by
  unfold execTimeOutPulse
  extract_lets +onlyGivenNames x3
  have h3 : Same [.time, .counters, .out] x3 a2 := by
    unfold x3
    exact Same.step (State.advance_same ..) rfl (Same.refl _ _)
  clear_value x3
  extract_lets +onlyGivenNames x5
  clear_value x5
  exact SameNext.ite (SameNext.next (Same.step (State.emit_same ..) rfl (Same.setTime rfl (by assumption)))) (SameNext.next (by assumption))

theorem execStrokeSwapFire_same (a1 : Ticks) (a2 : State) :
    SameNext [.time] (execStrokeSwapFire a1 a2) a2 := by
  unfold execStrokeSwapFire
  extract_lets +onlyGivenNames x3
  have h3 : Same [.time] x3 a2 := by
    unfold x3
    exact Same.step (State.advance_same ..) rfl (Same.refl _ _)
  clear_value x3
  extract_lets +onlyGivenNames x5
  clear_value x5
  extract_lets +onlyGivenNames x6
  clear_value x6
  extract_lets +onlyGivenNames x7
  clear_value x7
  refine SameNext.ite ?_ ?_
  · extract_lets +onlyGivenNames x8
    clear_value x8
    exact SameNext.next (Same.setTime rfl (by assumption))
  · exact SameNext.next (by assumption)

theorem execRefClockReturn_same (a1 : Bool) (a2 : State) :
    SameNext [.time] (execRefClockReturn a1 a2) a2 := by
  unfold execRefClockReturn
  exact SameNext.next (Same.setTime rfl (Same.refl _ _))

theorem execTimeAnnounce_same (a1 : Nat) (a2 : Packet) (a3 : State) :
    SameNext [.routing, .counters, .out] (execTimeAnnounce a1 a2 a3) a3 := by
  unfold execTimeAnnounce
  refine SameNext.ite ?_ ?_
  · exact SameNext.next (Same.refl _ _)
  · exact SameNext.next (Same.step (State.emit_same ..) rfl (Same.step (State.takeArrival_same ..) rfl (Same.refl _ _)))

theorem execStrokeBoundary_same (a1 : Ticks) (a2 : State) :
    SameNext [.time] (execStrokeBoundary a1 a2) a2 := by
  unfold execStrokeBoundary
  extract_lets +onlyGivenNames x3
  have h3 : Same [.time] x3 a2 := by
    unfold x3
    exact Same.step (State.advance_same ..) rfl (Same.refl _ _)
  clear_value x3
  exact SameNext.next (Same.setTime rfl (by assumption))

theorem execRefClockLoss_same (a1 : Bool) (a2 : State) :
    SameNext [.time, .quench, .counters] (execRefClockLoss a1 a2) a2 := by
  unfold execRefClockLoss
  extract_lets +onlyGivenNames x3
  clear_value x3
  extract_lets +onlyGivenNames x4
  clear_value x4
  refine SameNext.ite ?_ ?_
  · exact SameNext.next (Same.step (State.raiseAt_same ..) rfl (Same.setTime rfl (Same.refl _ _)))
  · refine SameNext.ite ?_ ?_
    · exact SameNext.next (Same.step (State.raiseAt_same ..) rfl (Same.setTime rfl (Same.refl _ _)))
    · exact SameNext.next (Same.setTime rfl (Same.refl _ _))

theorem execTimeRefLoss_same (a1 : Bool) (a2 : State) :
    SameNext [.routing, .tiles, .sched, .time, .quench, .counters] (execTimeRefLoss a1 a2) a2 := by
  unfold execTimeRefLoss
  refine SameNext.next (Same.step (State.loseReference_same ..) rfl ?_)
  exact Same.ite (Same.setTime rfl (Same.refl _ _)) (Same.refl _ _)

end Sys2Proof.Machine
end

