-- ==== Sys2Proof/Laws/FrameWire.lean ====
section
/-! SUPPORT. Frames of the operations and commands of Sys2Proof/Machine/Wire.lean: each changes no part of the module but those it
names, and keeps module memory canonical. -/

namespace Sys2Proof.Machine

open Sys2Proof

theorem State.putFlit_same (a1 : State) (a2 : Nat) (a3 : Flit) :
    Same [.tiles, .counters, .out] (State.putFlit a1 a2 a3) a1 := by
  unfold State.putFlit
  extract_lets +onlyGivenNames x4
  clear_value x4
  extract_lets +onlyGivenNames x5
  have h5 : Same [.tiles, .counters, .out] x5 a1 := by
    unfold x5
    exact Same.step (State.emit_same ..) rfl (Same.refl _ _)
  clear_value x5
  extract_lets +onlyGivenNames x7
  clear_value x7
  refine Same.ite ?_ ?_
  · exact Same.step (State.modTile_same ..) rfl (by assumption)
  · extract_lets +onlyGivenNames x8
    have h8 : Same [.tiles, .counters, .out] x8 a1 := by
      unfold x8
      exact Same.step (State.emit_same ..) rfl (Same.step (State.modTile_same ..) rfl (by assumption))
    clear_value x8
    refine Same.ite ?_ ?_
    · exact Same.step (State.emit_same ..) rfl (by assumption)
    · assumption

theorem State.sendFlit_same (a1 : State) (a2 : Nat) (a3 : Flit) :
    Same [.tiles, .counters, .out] (State.sendFlit a1 a2 a3) a1 := by
  unfold State.sendFlit
  split
  extract_lets +onlyGivenNames x9
  clear_value x9
  extract_lets +onlyGivenNames x10
  clear_value x10
  extract_lets +onlyGivenNames x11
  clear_value x11
  extract_lets +onlyGivenNames x12
  clear_value x12
  extract_lets +onlyGivenNames x13
  clear_value x13
  extract_lets +onlyGivenNames x14
  clear_value x14
  exact Same.step (State.putFlit_same ..) rfl (Same.step (State.modTile_same ..) rfl (Same.refl _ _))

theorem State.sendIdle_same (a1 : State) (a2 : Nat) (a3 : Nat) :
    Same [.tiles, .counters, .out] (State.sendIdle a1 a2 a3) a1 := by
  induction a3 generalizing a1 with
  | zero => exact Same.refl _ _
  | succ n ih =>
    unfold State.sendIdle
    extract_lets +onlyGivenNames x5
    clear_value x5
    exact Same.step (ih ..) rfl (Same.step (State.sendFlit_same ..) rfl (Same.step (State.modTile_same ..) rfl (Same.refl _ _)))

theorem State.closeFrame_same (a1 : State) (a2 : Nat) :
    Same [.tiles, .counters, .out] (State.closeFrame a1 a2) a1 := by
  unfold State.closeFrame
  exact Same.step (State.sendIdle_same ..) rfl (Same.refl _ _)

theorem State.sendLink_same (a1 : State) (a2 : Nat) (a3 : Nat) (a4 : List Byte) :
    Same [.tiles, .counters, .out] (State.sendLink a1 a2 a3 a4) a1 := by
  unfold State.sendLink
  exact Same.step (State.sendFlit_same ..) rfl (Same.refl _ _)

theorem State.trainLanes_same (a1 : State) (a2 : Nat) (a3 : BitVec 2) (a4 : List Nat) :
    Same [.tiles, .counters, .out] (State.trainLanes a1 a2 a3 a4) a1 := by
  unfold State.trainLanes
  extract_lets +onlyGivenNames x5
  clear_value x5
  extract_lets +onlyGivenNames x6
  clear_value x6
  exact Same.step (State.emit_same ..) rfl (Same.step (State.modTile_same ..) rfl (Same.refl _ _))

theorem State.endFrames_same (a1 : State) (a2 : Nat) :
    Same [.tiles, .counters, .out] (State.endFrames a1 a2) a1 := by
  unfold State.endFrames
  exact Same.ite (Same.refl _ _) (Same.step (State.closeFrame_same ..) rfl (Same.refl _ _))

theorem State.sendTraining_same (a1 : State) (a2 : Nat) (a3 : BitVec 2) :
    Same [.tiles, .counters, .out] (State.sendTraining a1 a2 a3) a1 := by
  unfold State.sendTraining
  exact Same.step (State.emit_same ..) rfl (Same.step (State.trainLanes_same ..) rfl (Same.step (State.endFrames_same ..) rfl (Same.refl _ _)))

theorem State.startMap_same (a1 : State) (a2 : Nat) :
    Same [.tiles, .counters, .out] (State.startMap a1 a2) a1 := by
  unfold State.startMap
  extract_lets +onlyGivenNames x3
  have h3 : Same [.tiles, .counters, .out] x3 a1 := by
    unfold x3
    exact Same.step (State.endFrames_same ..) rfl (Same.refl _ _)
  clear_value x3
  exact Same.step (State.sendTraining_same ..) rfl (Same.step (State.modTile_same ..) rfl (by assumption))

theorem State.retrain_same (a1 : State) (a2 : Nat) (a3 : Option Nat) (a4 : Nat) :
    Same [.routing, .tiles, .sched, .time, .ports, .draw, .vises, .hearth, .quench, .counters, .out] (State.retrain a1 a2 a3 a4) a1 := by
  unfold State.retrain
  extract_lets +onlyGivenNames x5
  have h5 : Same [.routing, .tiles, .sched, .time, .ports, .draw, .vises, .hearth, .quench, .counters, .out] x5 a1 := by
    unfold x5
    split
    · exact Same.step (State.raiseAt_same ..) rfl (Same.refl _ _)
    · exact Same.refl _ _
  clear_value x5
  extract_lets +onlyGivenNames x7
  have h7 : Same [.routing, .tiles, .sched, .time, .ports, .draw, .vises, .hearth, .quench, .counters, .out] x7 a1 := by
    unfold x7
    exact Same.step (State.leaveRouting_same ..) rfl (Same.step (State.sendLink_same ..) rfl (by assumption))
  clear_value x7
  extract_lets +onlyGivenNames x9
  have h9 : Same [.routing, .tiles, .sched, .time, .ports, .draw, .vises, .hearth, .quench, .counters, .out] x9 a1 := by
    unfold x9
    refine Same.ite ?_ ?_
    · exact Same.step (State.breakByFault_same ..) rfl (by assumption)
    · assumption
  clear_value x9
  extract_lets +onlyGivenNames x11
  have h11 : Same [.routing, .tiles, .sched, .time, .ports, .draw, .vises, .hearth, .quench, .counters, .out] x11 a1 := by
    unfold x11
    exact Same.step (State.modTile_same ..) rfl (by assumption)
  clear_value x11
  exact Same.step (State.elect_same ..) rfl (Same.step (State.startMap_same ..) rfl (by assumption))

theorem State.ackBefore_same (a1 : State) (a2 : Nat) (a3 : BitVec 24) :
    Same [.routing, .tiles, .sched, .quench, .counters] (State.ackBefore a1 a2 a3) a1 := by
  unfold State.ackBefore
  extract_lets +onlyGivenNames x4
  clear_value x4
  extract_lets +onlyGivenNames x5
  clear_value x5
  extract_lets +onlyGivenNames x6
  clear_value x6
  extract_lets +onlyGivenNames x7
  clear_value x7
  refine Same.ite ?_ ?_
  · exact Same.refl _ _
  · extract_lets +onlyGivenNames x8
    have h8 : Same [.routing, .tiles, .sched, .quench, .counters] x8 a1 := by
      unfold x8
      exact Same.step (State.modTile_same ..) rfl (Same.refl _ _)
    clear_value x8
    refine Same.ite ?_ ?_
    · exact Same.step (State.settle_same ..) rfl (by assumption)
    · assumption

theorem State.resendFlit_same (a1 : State) (a2 : Nat) (a3 : KeptFlit) :
    Same [.tiles, .counters, .out] (State.resendFlit a1 a2 a3) a1 := by
  unfold State.resendFlit
  split
  extract_lets +onlyGivenNames x9
  clear_value x9
  extract_lets +onlyGivenNames x10
  clear_value x10
  extract_lets +onlyGivenNames x11
  clear_value x11
  extract_lets +onlyGivenNames x12
  clear_value x12
  exact Same.step (State.putFlit_same ..) rfl (Same.step (State.modTile_same ..) rfl (Same.refl _ _))

theorem State.replay_same (a1 : State) (a2 : Nat) :
    Same [.routing, .tiles, .sched, .time, .ports, .draw, .vises, .hearth, .quench, .counters, .out] (State.replay a1 a2) a1 := by
  unfold State.replay
  extract_lets +onlyGivenNames x3
  clear_value x3
  refine Same.ite ?_ ?_
  · exact Same.refl _ _
  · extract_lets +onlyGivenNames x4
    have h4 : Same [.routing, .tiles, .sched, .time, .ports, .draw, .vises, .hearth, .quench, .counters, .out] x4 a1 := by
      unfold x4
      refine Same.foldl ?_ _ ?_
      · intro y5
        intro y6
        exact Same.step (State.resendFlit_same ..) rfl (Same.refl _ _)
      · exact Same.step (State.count_same ..) rfl (Same.refl _ _)
    clear_value x4
    extract_lets +onlyGivenNames x6
    have h6 : Same [.routing, .tiles, .sched, .time, .ports, .draw, .vises, .hearth, .quench, .counters, .out] x6 a1 := by
      unfold x6
      exact Same.step (State.modTile_same ..) rfl (by assumption)
    clear_value x6
    extract_lets +onlyGivenNames x8
    clear_value x8
    refine Same.ite ?_ ?_
    · exact Same.step (State.retrain_same ..) rfl (by assumption)
    · refine Same.ite ?_ ?_
      · exact Same.step (State.settle_same ..) rfl (Same.step (State.raiseAt_same ..) rfl (Same.step (State.modTile_same ..) rfl (by assumption)))
      · assumption

theorem State.resize_same (a1 : State) (a2 : Nat) :
    Same [.tiles, .quench, .counters] (State.resize a1 a2) a1 := by
  unfold State.resize
  extract_lets +onlyGivenNames x3
  clear_value x3
  extract_lets +onlyGivenNames x4
  clear_value x4
  extract_lets +onlyGivenNames x5
  clear_value x5
  extract_lets +onlyGivenNames x6
  have h6 : Same [.tiles, .quench, .counters] x6 a1 := by
    unfold x6
    exact Same.step (State.modTile_same ..) rfl (Same.refl _ _)
  clear_value x6
  refine Same.ite ?_ ?_
  · exact Same.step (State.raiseAt_same ..) rfl (by assumption)
  · assumption

theorem State.takeDelay_same (a1 : State) (a2 : Nat) (a3 : Int) :
    Same [.tiles, .quench, .counters] (State.takeDelay a1 a2 a3).1 a1 := by
  unfold State.takeDelay
  extract_lets +onlyGivenNames x4
  clear_value x4
  extract_lets +onlyGivenNames x5
  clear_value x5
  refine Same.iteFst ?_ ?_
  · dsimp only
    exact Same.step (State.modTile_same ..) rfl (Same.refl _ _)
  · extract_lets +onlyGivenNames x6
    clear_value x6
    extract_lets +onlyGivenNames x7
    clear_value x7
    extract_lets +onlyGivenNames x8
    clear_value x8
    extract_lets +onlyGivenNames x9
    have h9 : Same [.tiles, .quench, .counters] x9 a1 := by
      unfold x9
      exact Same.step (State.modTile_same ..) rfl (Same.refl _ _)
    clear_value x9
    extract_lets +onlyGivenNames x11
    have h11 : Same [.tiles, .quench, .counters] x11 a1 := by
      unfold x11
      refine Same.ite ?_ ?_
      · exact Same.step (State.raiseAt_same ..) rfl (by assumption)
      · assumption
    clear_value x11
    dsimp only
    refine Same.ite ?_ ?_
    · exact Same.step (State.resize_same ..) rfl (by assumption)
    · assumption

theorem State.exchange_same (a1 : State) (a2 : Nat) (a3 : List Byte) :
    Same [.routing, .tiles, .sched, .time, .quench, .counters] (State.exchange a1 a2 a3) a1 := by
  unfold State.exchange
  extract_lets +onlyGivenNames x4
  clear_value x4
  extract_lets +onlyGivenNames x5
  clear_value x5
  extract_lets +onlyGivenNames x6
  clear_value x6
  extract_lets +onlyGivenNames x7
  clear_value x7
  extract_lets +onlyGivenNames x8
  clear_value x8
  extract_lets +onlyGivenNames x9
  clear_value x9
  extract_lets +onlyGivenNames x10
  clear_value x10
  extract_lets +onlyGivenNames x11
  clear_value x11
  extract_lets +onlyGivenNames x12
  clear_value x12
  extract_lets +onlyGivenNames x13
  clear_value x13
  extract_lets +onlyGivenNames x14
  clear_value x14
  extract_lets +onlyGivenNames x15
  have h15 : Same [.routing, .tiles, .sched, .time, .quench, .counters] x15 a1 := by
    unfold x15
    exact Same.step (State.modTile_same ..) rfl (Same.refl _ _)
  clear_value x15
  split
  · exact Same.step (State.elect_same ..) rfl (by assumption)
  · split
    · exact Same.step (State.elect_same ..) rfl (by assumption)
    · refine Same.ite ?_ ?_
      · exact Same.step (State.elect_same ..) rfl (by assumption)
      · extract_lets +onlyGivenNames x27
        have h27 : Same [.routing, .tiles, .sched, .time, .quench, .counters] x27 a1 := by
          unfold x27
          exact Same.step (State.modTile_same ..) rfl (by assumption)
        clear_value x27
        extract_lets +onlyGivenNames x29
        clear_value x29
        extract_lets +onlyGivenNames x30
        clear_value x30
        extract_lets +onlyGivenNames x31
        clear_value x31
        extract_lets +onlyGivenNames x32
        clear_value x32
        split
        · exact Same.step (State.elect_same ..) rfl (Same.ofFst (by assumption) (Same.step (State.takeDelay_same ..) rfl (by assumption)))
        · extract_lets +onlyGivenNames x36
          have h36 : Same [.routing, .tiles, .sched, .time, .quench, .counters] x36 a1 := by
            unfold x36
            exact Same.step (State.elect_same ..) rfl (Same.ofFst (by assumption) (Same.step (State.takeDelay_same ..) rfl (by assumption)))
          clear_value x36
          refine Same.ite ?_ ?_
          · exact Same.step (State.servoTake_same ..) rfl (by assumption)
          · assumption

theorem State.sendShoe_same (a1 : State) (a2 : Nat) (a3 : Nat) (a4 : Nat × BitVec 8 × BitVec 8) (a5 : BitVec 32) (a6 : BitVec 24) :
    Same [.tiles, .counters, .out] (State.sendShoe a1 a2 a3 a4 a5 a6) a1 := by
  unfold State.sendShoe
  exact Same.step (State.sendLink_same ..) rfl (Same.refl _ _)

theorem State.trainExcluded_same (a1 : State) (a2 : Nat) :
    Same [.tiles, .counters, .out] (State.trainExcluded a1 a2) a1 := by
  unfold State.trainExcluded
  extract_lets +onlyGivenNames x3
  clear_value x3
  extract_lets +onlyGivenNames x4
  clear_value x4
  exact Same.ite (Same.refl _ _) (Same.step (State.trainLanes_same ..) rfl (Same.refl _ _))

theorem State.reachUp_same (a1 : State) (a2 : Nat) :
    Same [.routing, .tiles, .sched, .ports, .hearth, .quench, .counters, .out] (State.reachUp a1 a2) a1 := by
  unfold State.reachUp
  extract_lets +onlyGivenNames x3
  have h3 : Same [.routing, .tiles, .sched, .ports, .hearth, .quench, .counters, .out] x3 a1 := by
    unfold x3
    exact Same.step (State.modTile_same ..) rfl (Same.refl _ _)
  clear_value x3
  exact Same.step (State.bringupExit_same ..) rfl (Same.step (State.checkIdentity_same ..) rfl (Same.step (State.mendOver_same ..) rfl (by assumption)))

theorem State.nak_same (a1 : State) (a2 : Nat) :
    Same [.tiles, .counters, .out] (State.nak a1 a2) a1 := by
  unfold State.nak
  extract_lets +onlyGivenNames x3
  clear_value x3
  extract_lets +onlyGivenNames x4
  clear_value x4
  exact Same.ite (Same.refl _ _) (Same.step (State.sendFlit_same ..) rfl (Same.step (State.modTile_same ..) rfl (Same.refl _ _)))

end Sys2Proof.Machine
end

