-- ==== Sys2Proof/Laws/FrameLink.lean ====
section
/-! SUPPORT. Frames of the operations and commands of Sys2Proof/Machine/Link.lean: each changes no part of the module but those it
names, and keeps module memory canonical. -/

namespace Sys2Proof.Machine

open Sys2Proof

theorem State.frameOut_same (a1 : State) (a2 : Nat) :
    Same [.tiles, .counters, .out] (State.frameOut a1 a2) a1 := by
  unfold State.frameOut
  extract_lets +onlyGivenNames x3
  clear_value x3
  exact Same.ite (Same.refl _ _) (Same.step (State.closeFrame_same ..) rfl (Same.refl _ _))

theorem State.frameControl_same (a1 : State) (a2 : Nat) (a3 : RxFrame) :
    Same [.routing, .tiles, .sched, .time, .ports, .draw, .vises, .hearth, .quench, .counters, .free, .out] (State.frameControl a1 a2 a3) a1 := by
  unfold State.frameControl
  extract_lets +onlyGivenNames x4
  clear_value x4
  extract_lets +onlyGivenNames x5
  clear_value x5
  extract_lets +onlyGivenNames x6
  clear_value x6
  extract_lets +onlyGivenNames x7
  clear_value x7
  extract_lets +onlyGivenNames x8
  have h8 : Same [.routing, .tiles, .sched, .time, .ports, .draw, .vises, .hearth, .quench, .counters, .free, .out] x8 a1 := by
    unfold x8
    exact Same.step (State.modTile_same ..) rfl (Same.refl _ _)
  clear_value x8
  refine Same.ite ?_ ?_
  · exact Same.step (State.retrain_same ..) rfl (by assumption)
  · refine Same.ite ?_ ?_
    · split
      exact Same.step (State.modTile_same ..) rfl (Same.ofSnd (by assumption) (Same.step (State.drawFree_same ..) rfl (by assumption)))
    · assumption

theorem State.takeAck_same (a1 : State) (a2 : Nat) (a3 : Flit) :
    Same [.routing, .tiles, .sched, .time, .ports, .draw, .vises, .hearth, .quench, .counters, .out] (State.takeAck a1 a2 a3) a1 := by
  unfold State.takeAck
  extract_lets +onlyGivenNames x4
  clear_value x4
  refine Same.ite ?_ ?_
  · refine Same.ite ?_ ?_
    · exact Same.step (State.retrain_same ..) rfl (Same.refl _ _)
    · extract_lets +onlyGivenNames x5
      have h5 : Same [.routing, .tiles, .sched, .time, .ports, .draw, .vises, .hearth, .quench, .counters, .out] x5 a1 := by
        unfold x5
        exact Same.step (State.ackBefore_same ..) rfl (Same.refl _ _)
      clear_value x5
      split
      · refine Same.ite ?_ ?_
        · exact Same.step (State.replay_same ..) rfl (by assumption)
        · assumption
      · assumption
  · refine Same.ite ?_ ?_
    · exact Same.ite (Same.step (State.ackBefore_same ..) rfl (Same.refl _ _)) (Same.step (State.retrain_same ..) rfl (Same.refl _ _))
    · exact Same.refl _ _

theorem State.takeSummary_same (a1 : State) (a2 : List Byte) :
    Same [.routing] (State.takeSummary a1 a2) a1 := by
  unfold State.takeSummary
  extract_lets +onlyGivenNames x3
  clear_value x3
  extract_lets +onlyGivenNames x4
  clear_value x4
  extract_lets +onlyGivenNames x5
  clear_value x5
  extract_lets +onlyGivenNames x6
  clear_value x6
  exact Same.setRouting rfl (Same.refl _ _)

theorem State.takeChunks_same (a1 : State) (a2 : Nat) (a3 : List Byte) :
    Same [.tiles] (State.takeChunks a1 a2 a3) a1 := by
  unfold State.takeChunks
  exact Same.step (State.modTile_same ..) rfl (Same.refl _ _)

theorem State.shoeBegin_same (a1 : State) (a2 : Nat) :
    Same [.tiles, .counters, .out] (State.shoeBegin a1 a2) a1 := by
  unfold State.shoeBegin
  extract_lets +onlyGivenNames x3
  clear_value x3
  split
  · split
    · refine Same.ite ?_ ?_
      · extract_lets +onlyGivenNames x10
        clear_value x10
        exact Same.step (State.sendShoe_same ..) rfl (Same.step (State.modTile_same ..) rfl (Same.refl _ _))
      · exact Same.refl _ _
    · exact Same.refl _ _
  · exact Same.refl _ _

theorem State.clearShoe_same (a1 : State) (a2 : Nat) :
    Same [.routing, .tiles, .sched, .quench, .counters] (State.clearShoe a1 a2) a1 := by
  unfold State.clearShoe
  exact Same.step (State.settle_same ..) rfl (Same.step (State.modTile_same ..) rfl (Same.refl _ _))

theorem State.shoeFinish_same (a1 : State) (a2 : Nat) :
    Same [.routing, .tiles, .sched, .quench, .counters, .out] (State.shoeFinish a1 a2) a1 := by
  unfold State.shoeFinish
  split
  · exact Same.refl _ _
  · refine Same.ite ?_ ?_
    · exact Same.refl _ _
    · extract_lets +onlyGivenNames x6
      clear_value x6
      extract_lets +onlyGivenNames x7
      have h7 : Same [.routing, .tiles, .sched, .quench, .counters, .out] x7 a1 := by
        unfold x7
        exact Same.step (State.modTile_same ..) rfl (Same.refl _ _)
      clear_value x7
      extract_lets +onlyGivenNames x9
      have h9 : Same [.routing, .tiles, .sched, .quench, .counters, .out] x9 a1 := by
        unfold x9
        refine Same.ite ?_ ?_
        · assumption
        · exact Same.step (State.trainExcluded_same ..) rfl (Same.step (State.resize_same ..) rfl (Same.step (State.raiseAt_same ..) rfl (by assumption)))
      clear_value x9
      exact Same.step (State.clearShoe_same ..) rfl (by assumption)

theorem State.shoeFlit_same (a1 : State) (a2 : Nat) (a3 : List Byte) :
    Same [.routing, .tiles, .sched, .quench, .counters, .out] (State.shoeFlit a1 a2 a3) a1 := by
  unfold State.shoeFlit
  extract_lets +onlyGivenNames x4
  clear_value x4
  extract_lets +onlyGivenNames x5
  clear_value x5
  extract_lets +onlyGivenNames x6
  clear_value x6
  extract_lets +onlyGivenNames x7
  clear_value x7
  extract_lets +onlyGivenNames x8
  split
  · split
    · unfold x8
      exact Same.step (State.modTile_same ..) rfl (Same.refl _ _)
    · extract_lets +onlyGivenNames x11
      clear_value x11
      exact Same.ite (Same.step (State.sendShoe_same ..) rfl (Same.refl _ _)) (Same.step (State.modTile_same ..) rfl (Same.refl _ _))
  · refine Same.step (State.shoeBegin_same ..) rfl ?_
    unfold x8
    exact Same.step (State.modTile_same ..) rfl (Same.refl _ _)
  · extract_lets +onlyGivenNames x9
    clear_value x9
    unfold x8
    exact Same.step (State.modTile_same ..) rfl (Same.refl _ _)
  · refine Same.step (State.shoeFinish_same ..) rfl ?_
    unfold x8
    exact Same.step (State.modTile_same ..) rfl (Same.refl _ _)
  · split
    · exact Same.ite (Same.step (State.modTile_same ..) rfl (Same.step (State.clearShoe_same ..) rfl (Same.refl _ _))) (Same.refl _ _)
    · exact Same.refl _ _
  · exact Same.ite (Same.step (State.clearShoe_same ..) rfl (Same.refl _ _)) (Same.refl _ _)
  · exact Same.refl _ _

theorem State.stepOrUp_same (a1 : State) (a2 : Nat) :
    Same [.routing, .tiles, .sched, .ports, .hearth, .quench, .counters, .out] (State.stepOrUp a1 a2) a1 := by
  unfold State.stepOrUp
  extract_lets +onlyGivenNames x3
  clear_value x3
  exact Same.ite (Same.step (State.modTile_same ..) rfl (Same.refl _ _)) (Same.step (State.reachUp_same ..) rfl (Same.refl _ _))

theorem State.hello_same (a1 : State) (a2 : Nat) (a3 : List Byte) :
    Same [.routing, .tiles, .sched, .time, .ports, .hearth, .quench, .counters, .out] (State.hello a1 a2 a3) a1 := by
  unfold State.hello
  extract_lets +onlyGivenNames x4
  clear_value x4
  extract_lets +onlyGivenNames x5
  clear_value x5
  extract_lets +onlyGivenNames x6
  clear_value x6
  extract_lets +onlyGivenNames x7
  clear_value x7
  extract_lets +onlyGivenNames x8
  have h8 : Same [.routing, .tiles, .sched, .time, .ports, .hearth, .quench, .counters, .out] x8 a1 := by
    unfold x8
    exact Same.step (State.modTile_same ..) rfl (Same.refl _ _)
  clear_value x8
  extract_lets +onlyGivenNames x10
  clear_value x10
  extract_lets +onlyGivenNames x11
  have h11 : Same [.routing, .tiles, .sched, .time, .ports, .hearth, .quench, .counters, .out] x11 a1 := by
    unfold x11
    refine Same.ite ?_ ?_
    · exact Same.step (State.checkIdentity_same ..) rfl (by assumption)
    · assumption
  clear_value x11
  extract_lets +onlyGivenNames x13
  have h13 : Same [.routing, .tiles, .sched, .time, .ports, .hearth, .quench, .counters, .out] x13 a1 := by
    unfold x13
    refine Same.ite ?_ ?_
    · exact Same.step (State.stepOrUp_same ..) rfl (by assumption)
    · assumption
  clear_value x13
  exact Same.step (State.bringupExit_same ..) rfl (Same.step (State.elect_same ..) rfl (by assumption))

theorem State.linkFlit_same (a1 : State) (a2 : Nat) (a3 : List Byte) :
    Same [.routing, .tiles, .sched, .time, .ports, .draw, .vises, .hearth, .quench, .counters, .out] (State.linkFlit a1 a2 a3) a1 := by
  unfold State.linkFlit
  split
  · exact Same.step (State.hello_same ..) rfl (Same.refl _ _)
  · exact Same.step (State.takeSummary_same ..) rfl (Same.refl _ _)
  · exact Same.step (State.takeChunks_same ..) rfl (Same.refl _ _)
  · exact Same.step (State.shoeFlit_same ..) rfl (Same.refl _ _)
  · exact Same.ite (Same.step (State.retrain_same ..) rfl (Same.refl _ _)) (Same.refl _ _)
  · exact Same.step (State.raiseAt_same ..) rfl (Same.step (State.modTile_same ..) rfl (Same.refl _ _))

theorem State.feedQueued_same (a1 : State) (a2 : Nat) (a3 : Nat) (a4 : List Byte) (a5 : Option Packet) :
    Same [.routing, .tiles] (State.feedQueued a1 a2 a3 a4 a5) a1 := by
  unfold State.feedQueued
  extract_lets +onlyGivenNames x6
  clear_value x6
  exact Same.setRoutingTiles rfl rfl (Same.refl _ _)

theorem State.headerIn_same (a1 : State) (a2 : Nat) (a3 : Nat) (a4 : Packet) :
    Same [.routing, .tiles, .sched, .quench, .counters] (State.headerIn a1 a2 a3 a4) a1 := by
  unfold State.headerIn
  refine Same.ite ?_ ?_
  · exact Same.step (State.raiseAt_same ..) rfl (Same.step (State.modTile_same ..) rfl (Same.refl _ _))
  · extract_lets +onlyGivenNames x5
    clear_value x5
    extract_lets +onlyGivenNames x6
    clear_value x6
    extract_lets +onlyGivenNames x7
    have h7 : Same [.routing, .tiles, .sched, .quench, .counters] x7 a1 := by
      unfold x7
      exact Same.step (State.modTile_same ..) rfl (Same.refl _ _)
    clear_value x7
    extract_lets +onlyGivenNames x9
    refine Same.ite ?_ ?_
    · refine Same.step (State.raiseAt_same ..) rfl ?_
      unfold x9
      exact Same.step (State.modTile_same ..) rfl (Same.setRouting rfl (by assumption))
    · refine Same.ite ?_ ?_
      · unfold x9
        refine Same.step (State.modTile_same ..) rfl ?_
        extract_lets +onlyGivenNames x10
        have h10 : Same [.routing, .tiles, .sched, .quench, .counters] x10 a1 := by
          unfold x10
          exact Same.step (State.count_same ..) rfl (by assumption)
        clear_value x10
        exact Same.setRouting rfl (by assumption)
      · refine Same.ite ?_ ?_
        · assumption
        · extract_lets +onlyGivenNames x10
          clear_value x10
          refine Same.ite ?_ ?_
          · exact Same.setRouting rfl (by assumption)
          · split
            · exact Same.ofFst (by assumption) (Same.step (State.place_same ..) rfl (by assumption))
            · exact Same.setRouting rfl (Same.ofFst (by assumption) (Same.step (State.place_same ..) rfl (by assumption)))

theorem State.packetIn_same (a1 : State) (a2 : Nat) (a3 : Nat) (a4 : List Byte) (a5 : List Byte) :
    Same [.routing, .tiles, .sched, .quench, .counters] (State.packetIn a1 a2 a3 a4 a5) a1 := by
  unfold State.packetIn
  extract_lets +onlyGivenNames x6
  clear_value x6
  extract_lets +onlyGivenNames x7
  clear_value x7
  extract_lets +onlyGivenNames x8
  clear_value x8
  extract_lets +onlyGivenNames x9
  have h9 : Same [.routing, .tiles, .sched, .quench, .counters] x9 a1 := by
    unfold x9
    exact Same.step (State.count_same ..) rfl (Same.refl _ _)
  clear_value x9
  extract_lets +onlyGivenNames x11
  have h11 : Same [.routing, .tiles, .sched, .quench, .counters] x11 a1 := by
    unfold x11
    exact Same.step (State.feedQueued_same ..) rfl (by assumption)
  clear_value x11
  extract_lets +onlyGivenNames x13
  have h13 : Same [.routing, .tiles, .sched, .quench, .counters] x13 a1 := by
    unfold x13
    exact Same.step (State.modTile_same ..) rfl (by assumption)
  clear_value x13
  extract_lets +onlyGivenNames x15
  have h15 : Same [.routing, .tiles, .sched, .quench, .counters] x15 a1 := by
    unfold x15
    refine Same.foldl ?_ _ ?_
    · intro y16
      intro y17
      exact Same.step (State.sendFault_same ..) rfl (Same.refl _ _)
    · assumption
  clear_value x15
  refine Same.ite ?_ ?_
  · extract_lets +onlyGivenNames x17
    clear_value x17
    split
    · exact Same.ofFst (by assumption) (Same.step (State.deliverOrWait_same ..) rfl (by assumption))
    · exact Same.setRouting rfl (Same.ofFst (by assumption) (Same.step (State.deliverOrWait_same ..) rfl (by assumption)))
  · assumption

theorem State.feedChunk_same (a1 : State) (a2 : Nat) (a3 : Nat) (a4 : List Byte) :
    Same [.routing, .tiles, .sched, .quench, .counters] (State.feedChunk a1 a2 a3 a4) a1 := by
  unfold State.feedChunk
  extract_lets +onlyGivenNames x5
  clear_value x5
  refine Same.ite ?_ ?_
  · exact Same.step (State.release_same ..) rfl (Same.refl _ _)
  · extract_lets +onlyGivenNames x6
    clear_value x6
    extract_lets +onlyGivenNames x7
    have h7 : Same [.routing, .tiles, .sched, .quench, .counters] x7 a1 := by
      unfold x7
      exact Same.step (State.modTile_same ..) rfl (Same.refl _ _)
    clear_value x7
    refine Same.ite ?_ ?_
    · refine Same.ite ?_ ?_
      · exact Same.step (State.headerIn_same ..) rfl (by assumption)
      · assumption
    · exact Same.ite (Same.step (State.packetIn_same ..) rfl (by assumption)) (Same.step (State.feedQueued_same ..) rfl (by assumption))

theorem State.acceptBody_same (a1 : State) (a2 : Nat) (a3 : Flit) :
    Same [.routing, .tiles, .sched, .quench, .counters] (State.acceptBody a1 a2 a3) a1 := by
  unfold State.acceptBody
  extract_lets +onlyGivenNames x4
  clear_value x4
  extract_lets +onlyGivenNames x5
  clear_value x5
  extract_lets +onlyGivenNames x6
  have h6 : Same [.routing, .tiles, .sched, .quench, .counters] x6 a1 := by
    unfold x6
    exact Same.step (State.modTile_same ..) rfl (Same.step (State.count_same ..) rfl (Same.refl _ _))
  clear_value x6
  extract_lets +onlyGivenNames x8
  clear_value x8
  extract_lets +onlyGivenNames x9
  clear_value x9
  refine Same.ite ?_ ?_
  · refine Same.ite ?_ ?_
    · exact Same.step (State.release_same ..) rfl (by assumption)
    · extract_lets +onlyGivenNames x10
      have h10 : Same [.routing, .tiles, .sched, .quench, .counters] x10 a1 := by
        unfold x10
        exact Same.step (State.modTile_same ..) rfl (Same.step (State.release_same ..) rfl (by assumption))
      clear_value x10
      refine Same.foldl ?_ _ ?_
      · intro y12
        intro y13
        exact Same.step (State.feedChunk_same ..) rfl (Same.refl _ _)
      · assumption
  · refine Same.foldl ?_ _ ?_
    · intro y10
      intro y11
      exact Same.step (State.feedChunk_same ..) rfl (Same.refl _ _)
    · assumption

theorem State.takeCredit_same (a1 : State) (a2 : Nat) (a3 : Flit) :
    Same [.tiles] (State.takeCredit a1 a2 a3) a1 := by
  unfold State.takeCredit
  exact Same.step (State.modTile_same ..) rfl (Same.refl _ _)

theorem State.goodFlit_same (a1 : State) (a2 : Nat) (a3 : Flit) :
    Same [.routing, .tiles, .sched, .time, .ports, .draw, .vises, .hearth, .quench, .counters, .out] (State.goodFlit a1 a2 a3) a1 := by
  unfold State.goodFlit
  extract_lets +onlyGivenNames x4
  have h4 : Same [.routing, .tiles, .sched, .time, .ports, .draw, .vises, .hearth, .quench, .counters, .out] x4 a1 := by
    unfold x4
    exact Same.step (State.modTile_same ..) rfl (Same.refl _ _)
  clear_value x4
  extract_lets +onlyGivenNames x6
  have h6 : Same [.routing, .tiles, .sched, .time, .ports, .draw, .vises, .hearth, .quench, .counters, .out] x6 a1 := by
    unfold x6
    refine Same.ite ?_ ?_
    · exact Same.step (State.takeAck_same ..) rfl (Same.step (State.takeCredit_same ..) rfl (by assumption))
    · assumption
  clear_value x6
  extract_lets +onlyGivenNames x8
  clear_value x8
  extract_lets +onlyGivenNames x9
  clear_value x9
  split
  · assumption
  · assumption
  · refine Same.ite ?_ ?_
    · assumption
    · refine Same.ite ?_ ?_
      · exact Same.step (State.acceptBody_same ..) rfl (Same.step (State.mendOver_same ..) rfl (Same.step (State.modTile_same ..) rfl (by assumption)))
      · exact Same.step (State.nak_same ..) rfl (Same.step (State.modTile_same ..) rfl (by assumption))
  · refine Same.ite ?_ ?_
    · assumption
    · exact Same.step (State.acceptBody_same ..) rfl (Same.step (State.modTile_same ..) rfl (by assumption))
  · refine Same.ite ?_ ?_
    · exact Same.step (State.exchange_same ..) rfl (by assumption)
    · assumption
  · exact Same.step (State.linkFlit_same ..) rfl (by assumption)
  · exact Same.step (State.raiseAt_same ..) rfl (Same.step (State.modTile_same ..) rfl (by assumption))

theorem State.badFlits_same (a1 : State) (a2 : Nat) (a3 : Nat) :
    Same [.routing, .tiles, .sched, .time, .ports, .draw, .vises, .hearth, .quench, .counters, .out] (State.badFlits a1 a2 a3) a1 := by
  unfold State.badFlits
  extract_lets +onlyGivenNames x4
  have h4 : Same [.routing, .tiles, .sched, .time, .ports, .draw, .vises, .hearth, .quench, .counters, .out] x4 a1 := by
    unfold x4
    exact Same.step (State.raiseAt_same ..) rfl (Same.step (State.modTile_same ..) rfl (Same.refl _ _))
  clear_value x4
  extract_lets +onlyGivenNames x6
  have h6 : Same [.routing, .tiles, .sched, .time, .ports, .draw, .vises, .hearth, .quench, .counters, .out] x6 a1 := by
    unfold x6
    exact Same.step (State.nak_same ..) rfl (Same.step (State.endPartial_same ..) rfl (by assumption))
  clear_value x6
  refine Same.ite ?_ ?_
  · exact Same.step (State.retrain_same ..) rfl (by assumption)
  · assumption

theorem State.frameIn_same (a1 : State) (a2 : Nat) (a3 : RxFrame) :
    Same [.routing, .tiles, .sched, .time, .ports, .draw, .vises, .hearth, .quench, .counters, .free, .out] (State.frameIn a1 a2 a3) a1 := by
  unfold State.frameIn
  extract_lets +onlyGivenNames x4
  clear_value x4
  refine Same.ite ?_ ?_
  · exact Same.refl _ _
  · extract_lets +onlyGivenNames x5
    have h5 : Same [.routing, .tiles, .sched, .time, .ports, .draw, .vises, .hearth, .quench, .counters, .free, .out] x5 a1 := by
      unfold x5
      exact Same.step (State.modTile_same ..) rfl (Same.refl _ _)
    clear_value x5
    refine Same.ite ?_ ?_
    · assumption
    · extract_lets +onlyGivenNames x7
      have h7 : Same [.routing, .tiles, .sched, .time, .ports, .draw, .vises, .hearth, .quench, .counters, .free, .out] x7 a1 := by
        unfold x7
        exact Same.step (State.frameControl_same ..) rfl (by assumption)
      clear_value x7
      extract_lets +onlyGivenNames x9
      have h9 : Same [.routing, .tiles, .sched, .time, .ports, .draw, .vises, .hearth, .quench, .counters, .free, .out] x9 a1 := by
        unfold x9
        refine Same.ite ?_ ?_
        · exact Same.step (State.badFlits_same ..) rfl (Same.step (State.modTile_same ..) rfl (Same.step (State.count_same ..) rfl (by assumption)))
        · refine Same.foldl ?_ _ ?_
          · intro y10
            intro y11
            exact Same.ite (Same.step (State.goodFlit_same ..) rfl (Same.refl _ _)) (Same.step (State.badFlits_same ..) rfl (Same.refl _ _))
          · assumption
      clear_value x9
      exact Same.step (State.frameOut_same ..) rfl (Same.step (State.relook_same ..) rfl (by assumption))

theorem execTimeExchangeSend_same (a1 : Nat) (a2 : State) :
    SameNext [.tiles, .counters, .out] (execTimeExchangeSend a1 a2) a2 := by
  unfold execTimeExchangeSend
  extract_lets +onlyGivenNames x3
  clear_value x3
  refine SameNext.ite ?_ ?_
  · exact SameNext.next (Same.refl _ _)
  · extract_lets +onlyGivenNames x4
    clear_value x4
    extract_lets +onlyGivenNames x5
    clear_value x5
    extract_lets +onlyGivenNames x6
    clear_value x6
    extract_lets +onlyGivenNames x7
    have h7 : Same [.tiles, .counters, .out] x7 a2 := by
      unfold x7
      exact Same.step (State.modTile_same ..) rfl (Same.refl _ _)
    clear_value x7
    exact SameNext.next (Same.step (State.sendFlit_same ..) rfl (by assumption))

theorem State.pathShift_same (a1 : State) (a2 : Nat) (a3 : Int) (a4 : Int) :
    Same [.tiles, .quench, .counters] (State.pathShift a1 a2 a3 a4) a1 := by
  unfold State.pathShift
  exact Same.ite (Same.refl _ _) (Same.step (State.resize_same ..) rfl (Same.step (State.modTile_same ..) rfl (Same.refl _ _)))

theorem State.stepShift_same (a1 : State) (a2 : Nat) (a3 : Int) (a4 : Int) :
    Same [.tiles, .quench, .counters] (State.stepShift a1 a2 a3 a4) a1 := by
  unfold State.stepShift
  extract_lets +onlyGivenNames x5
  clear_value x5
  extract_lets +onlyGivenNames x6
  clear_value x6
  extract_lets +onlyGivenNames x7
  clear_value x7
  extract_lets +onlyGivenNames x8
  clear_value x8
  extract_lets +onlyGivenNames x9
  have h9 : Same [.tiles, .quench, .counters] x9 a1 := by
    unfold x9
    exact Same.step (State.modTile_same ..) rfl (Same.refl _ _)
  clear_value x9
  exact Same.step (State.pathShift_same ..) rfl (by assumption)

theorem execTc3ChunkReportSend_same (a1 : Nat) (a2 : State) :
    SameNext [.tiles, .counters, .out] (execTc3ChunkReportSend a1 a2) a2 := by
  unfold execTc3ChunkReportSend
  exact SameNext.next (Same.ite (Same.step (State.sendLink_same ..) rfl (Same.refl _ _)) (Same.refl _ _))

theorem State.judgeMap_same (a1 : State) (a2 : Nat) :
    Same [.tiles, .quench, .counters, .out] (State.judgeMap a1 a2) a1 := by
  unfold State.judgeMap
  extract_lets +onlyGivenNames x3
  clear_value x3
  extract_lets +onlyGivenNames x4
  clear_value x4
  extract_lets +onlyGivenNames x5
  clear_value x5
  extract_lets +onlyGivenNames x6
  clear_value x6
  refine Same.ite ?_ ?_
  · exact Same.refl _ _
  · refine Same.ite ?_ ?_
    · exact Same.step (State.raiseAt_same ..) rfl (Same.refl _ _)
    · extract_lets +onlyGivenNames x7
      clear_value x7
      extract_lets +onlyGivenNames x8
      have h8 : Same [.tiles, .quench, .counters, .out] x8 a1 := by
        unfold x8
        exact Same.step (State.modTile_same ..) rfl (Same.refl _ _)
      clear_value x8
      extract_lets +onlyGivenNames x10
      clear_value x10
      extract_lets +onlyGivenNames x11
      clear_value x11
      split
      · refine Same.ite ?_ ?_
        · refine Same.ite ?_ ?_
          · exact Same.step (State.trainLanes_same ..) rfl (Same.step (State.modTile_same ..) rfl (by assumption))
          · exact Same.step (State.closeFrame_same ..) rfl (Same.step (State.trainExcluded_same ..) rfl (Same.step (State.modTile_same ..) rfl (by assumption)))
        · assumption
      · assumption

theorem execTrainingBlock_same (a1 : Nat) (a2 : Nat) (a3 : TrainBlock) (a4 : State) :
    SameNext [.routing, .tiles, .sched, .time, .ports, .draw, .vises, .hearth, .quench, .counters, .out] (execTrainingBlock a1 a2 a3 a4) a4 := by
  unfold execTrainingBlock
  extract_lets +onlyGivenNames x5
  clear_value x5
  extract_lets +onlyGivenNames x6
  clear_value x6
  split
  · extract_lets +onlyGivenNames x9
    have h9 : Same [.routing, .tiles, .sched, .time, .ports, .draw, .vises, .hearth, .quench, .counters, .out] x9 a4 := by
      unfold x9
      exact Same.ite (Same.step (State.modTile_same ..) rfl (Same.refl _ _)) (Same.refl _ _)
    clear_value x9
    refine SameNext.next ?_
    refine Same.ite ?_ ?_
    · exact Same.step (State.judgeMap_same ..) rfl (Same.step (State.sendTraining_same ..) rfl (Same.step (State.modTile_same ..) rfl (by assumption)))
    · assumption
  · refine SameNext.ite ?_ ?_
    · exact SameNext.next (Same.refl _ _)
    · exact SameNext.next (Same.step (State.judgeMap_same ..) rfl (Same.step (State.modTile_same ..) rfl (Same.refl _ _)))
  · exact SameNext.next (Same.refl _ _)
  · refine SameNext.ite ?_ ?_
    · exact SameNext.next (Same.refl _ _)
    · refine SameNext.ite ?_ ?_
      · exact SameNext.next (Same.step (State.modTile_same ..) rfl (Same.refl _ _))
      · exact SameNext.ite (SameNext.next (Same.refl _ _)) (SameNext.next (Same.step (State.retrain_same ..) rfl (Same.refl _ _)))

theorem execShoeRequestSend_same (a1 : Nat) (a2 : State) :
    SameNext [.tiles, .counters, .out] (execShoeRequestSend a1 a2) a2 := by
  unfold execShoeRequestSend
  extract_lets +onlyGivenNames x3
  clear_value x3
  split
  · refine SameNext.ite ?_ ?_
    · exact SameNext.next (Same.refl _ _)
    · refine SameNext.ite ?_ ?_
      · exact SameNext.next (Same.step (State.sendShoe_same ..) rfl (Same.refl _ _))
      · split
        · exact SameNext.next (Same.step (State.sendShoe_same ..) rfl (Same.refl _ _))
        · exact SameNext.next (Same.refl _ _)
  · exact SameNext.next (Same.refl _ _)

theorem execTrainingPhaseTimeout_same (a1 : Nat) (a2 : State) :
    SameNext [.routing, .tiles, .sched, .ports, .hearth, .quench, .counters, .out] (execTrainingPhaseTimeout a1 a2) a2 := by
  unfold execTrainingPhaseTimeout
  extract_lets +onlyGivenNames x3
  clear_value x3
  refine SameNext.ite ?_ ?_
  · extract_lets +onlyGivenNames x4
    clear_value x4
    extract_lets +onlyGivenNames x5
    have h5 : Same [.routing, .tiles, .sched, .ports, .hearth, .quench, .counters, .out] x5 a2 := by
      unfold x5
      exact Same.step (State.startMap_same ..) rfl (Same.step (State.modTile_same ..) rfl (Same.refl _ _))
    clear_value x5
    extract_lets +onlyGivenNames x7
    have h7 : Same [.routing, .tiles, .sched, .ports, .hearth, .quench, .counters, .out] x7 a2 := by
      unfold x7
      refine Same.ite ?_ ?_
      · exact Same.step (State.raiseAt_same ..) rfl (by assumption)
      · assumption
    clear_value x7
    exact SameNext.next (Same.step (State.bringupExit_same ..) rfl (by assumption))
  · exact SameNext.next (Same.refl _ _)

theorem execFreewheelBlock_same (a1 : Nat) (a2 : List Nat) (a3 : State) :
    SameNext [.tiles, .counters] (execFreewheelBlock a1 a2 a3) a3 := by
  unfold execFreewheelBlock
  extract_lets +onlyGivenNames x4
  clear_value x4
  extract_lets +onlyGivenNames x5
  clear_value x5
  refine SameNext.next (Same.step (State.modTile_same ..) rfl ?_)
  exact Same.ite (Same.step (State.count_same ..) rfl (Same.refl _ _)) (Same.refl _ _)

theorem execRateQualifyEnd_same (a1 : Nat) (a2 : Bool) (a3 : Bool) (a4 : List Nat) (a5 : State) :
    SameNext [.routing, .tiles, .sched, .ports, .hearth, .quench, .counters, .out] (execRateQualifyEnd a1 a2 a3 a4 a5) a5 := by
  unfold execRateQualifyEnd
  extract_lets +onlyGivenNames x6
  clear_value x6
  refine SameNext.ite ?_ ?_
  · exact SameNext.next (Same.refl _ _)
  · refine SameNext.ite ?_ ?_
    · exact SameNext.next (Same.step (State.stepOrUp_same ..) rfl (Same.step (State.modTile_same ..) rfl (Same.refl _ _)))
    · exact SameNext.next (Same.step (State.reachUp_same ..) rfl (Same.step (State.raiseAt_same ..) rfl (Same.step (State.modTile_same ..) rfl (Same.refl _ _))))

theorem execCongestionSummarySend_same (a1 : State) :
    SameNext [.tiles, .counters, .out] (execCongestionSummarySend a1) a1 := by
  unfold execCongestionSummarySend
  extract_lets +onlyGivenNames x2
  clear_value x2
  refine SameNext.next ?_
  refine Same.foldl ?_ _ ?_
  · intro y3
    intro y4
    exact Same.ite (Same.step (State.sendLink_same ..) rfl (Same.refl _ _)) (Same.refl _ _)
  · exact Same.refl _ _

theorem execRateStepSwitch_same (a1 : Nat) (a2 : State) :
    SameNext [.tiles, .counters, .out] (execRateStepSwitch a1 a2) a2 := by
  unfold execRateStepSwitch
  extract_lets +onlyGivenNames x3
  clear_value x3
  split
  · refine SameNext.ite ?_ ?_
    · exact SameNext.next (Same.step (State.sendTraining_same ..) rfl (Same.step (State.modTile_same ..) rfl (Same.refl _ _)))
    · exact SameNext.next (Same.refl _ _)
  · exact SameNext.next (Same.refl _ _)

theorem execShoeStepRelock_same (a1 : Nat) (a2 : Int) (a3 : Int) (a4 : State) :
    SameNext [.routing, .tiles, .sched, .quench, .counters, .out] (execShoeStepRelock a1 a2 a3 a4) a4 := by
  unfold execShoeStepRelock
  split
  · refine SameNext.ite ?_ ?_
    · extract_lets +onlyGivenNames x8
      have h8 : Same [.routing, .tiles, .sched, .quench, .counters, .out] x8 a4 := by
        unfold x8
        exact Same.step (State.modTile_same ..) rfl (Same.step (State.stepShift_same ..) rfl (Same.refl _ _))
      clear_value x8
      exact SameNext.next (Same.step (State.shoeFinish_same ..) rfl (Same.step (State.sendShoe_same ..) rfl (by assumption)))
    · exact SameNext.next (Same.refl _ _)
  · exact SameNext.next (Same.refl _ _)

theorem State.startShoe_same (a1 : State) (a2 : Nat) :
    Same [.tiles, .counters, .free, .out] (State.startShoe a1 a2) a1 := by
  unfold State.startShoe
  extract_lets +onlyGivenNames x3
  clear_value x3
  split
  · refine Same.ite ?_ ?_
    · split
      extract_lets +onlyGivenNames x14
      clear_value x14
      refine Same.step (State.sendShoe_same ..) rfl (Same.step (State.modTile_same ..) rfl (Same.ofSnd (by assumption) ?_))
      refine Same.iteSnd ?_ ?_
      · exact Same.step (State.drawFree_same ..) rfl (Same.refl _ _)
      · dsimp only
        exact Same.refl _ _
    · exact Same.refl _ _
  · exact Same.refl _ _

theorem execEyeScanComplete_same (a1 : Nat) (a2 : Nat) (a3 : BitVec 6) (a4 : BitVec 6) (a5 : State) :
    SameNext [.tiles, .counters, .free, .out] (execEyeScanComplete a1 a2 a3 a4 a5) a5 := by
  unfold execEyeScanComplete
  refine SameNext.ite ?_ ?_
  · exact SameNext.next (Same.refl _ _)
  · extract_lets +onlyGivenNames x6
    clear_value x6
    extract_lets +onlyGivenNames x7
    clear_value x7
    extract_lets +onlyGivenNames x8
    clear_value x8
    extract_lets +onlyGivenNames x9
    clear_value x9
    extract_lets +onlyGivenNames x10
    clear_value x10
    extract_lets +onlyGivenNames x11
    clear_value x11
    extract_lets +onlyGivenNames x12
    clear_value x12
    extract_lets +onlyGivenNames x13
    have h13 : Same [.tiles, .counters, .free, .out] x13 a5 := by
      unfold x13
      exact Same.step (State.modTile_same ..) rfl (Same.refl _ _)
    clear_value x13
    split
    · exact SameNext.next (by assumption)
    · exact SameNext.next (Same.step (State.startShoe_same ..) rfl (Same.step (State.modTile_same ..) rfl (by assumption)))

theorem execMarginCriticalExpiry_same (a1 : Nat) (a2 : Nat) (a3 : State) :
    SameNext [.routing, .tiles, .sched, .time, .ports, .draw, .vises, .hearth, .quench, .counters, .out] (execMarginCriticalExpiry a1 a2 a3) a3 := by
  unfold execMarginCriticalExpiry
  extract_lets +onlyGivenNames x4
  clear_value x4
  exact SameNext.ite (SameNext.next (Same.step (State.retrain_same ..) rfl (Same.refl _ _))) (SameNext.next (Same.refl _ _))

theorem execHelloSend_same (a1 : Nat) (a2 : State) :
    SameNext [.tiles, .counters, .out] (execHelloSend a1 a2) a2 := by
  unfold execHelloSend
  extract_lets +onlyGivenNames x3
  clear_value x3
  refine SameNext.ite ?_ ?_
  · exact SameNext.next (Same.step (State.sendLink_same ..) rfl (Same.refl _ _))
  · refine SameNext.ite ?_ ?_
    · extract_lets +onlyGivenNames x4
      have h4 : Same [.tiles, .counters, .out] x4 a2 := by
        unfold x4
        exact Same.ite (Same.step (State.modTile_same ..) rfl (Same.refl _ _)) (Same.refl _ _)
      clear_value x4
      exact SameNext.next (Same.step (State.sendLink_same ..) rfl (by assumption))
    · refine SameNext.ite ?_ ?_
      · exact SameNext.next (Same.step (State.sendLink_same ..) rfl (Same.step (State.modTile_same ..) rfl (Same.refl _ _)))
      · exact SameNext.next (Same.refl _ _)

theorem execBellowsUpdate_same (a1 : State) :
    SameNext [.tiles] (execBellowsUpdate a1) a1 := by
  unfold execBellowsUpdate
  extract_lets +onlyGivenNames x2
  clear_value x2
  exact SameNext.next (Same.setTiles rfl (Same.refl _ _))

theorem execShoeBeginFrame_same (a1 : Nat) (a2 : State) :
    SameNext [.tiles, .counters, .out] (execShoeBeginFrame a1 a2) a2 := by
  unfold execShoeBeginFrame
  split
  · refine SameNext.ite ?_ ?_
    · exact SameNext.next (Same.step (State.sendTraining_same ..) rfl (Same.step (State.modTile_same ..) rfl (Same.refl _ _)))
    · exact SameNext.next (Same.refl _ _)
  · exact SameNext.next (Same.refl _ _)

theorem execIdleRunStart_same (a1 : Nat) (a2 : State) :
    SameNext [.tiles, .counters, .free, .out] (execIdleRunStart a1 a2) a2 := by
  unfold execIdleRunStart
  refine SameNext.ite ?_ ?_
  · extract_lets +onlyGivenNames x3
    have h3 : Same [.tiles, .counters, .free, .out] x3 a2 := by
      unfold x3
      exact Same.step (State.modTile_same ..) rfl (Same.refl _ _)
    clear_value x3
    refine SameNext.next ?_
    refine Same.ite ?_ ?_
    · exact Same.step (State.startShoe_same ..) rfl (by assumption)
    · assumption
  · exact SameNext.next (Same.refl _ _)

theorem execShoeRetryTimer_same (a1 : Nat) (a2 : State) :
    SameNext [.tiles, .counters, .free, .out] (execShoeRetryTimer a1 a2) a2 := by
  unfold execShoeRetryTimer
  exact SameNext.next (Same.ite (Same.step (State.startShoe_same ..) rfl (Same.refl _ _)) (Same.refl _ _))

theorem execLaneLockLoss_same (a1 : Nat) (a2 : Nat) (a3 : State) :
    SameNext [.routing, .tiles, .sched, .time, .ports, .draw, .vises, .hearth, .quench, .counters, .out] (execLaneLockLoss a1 a2 a3) a3 := by
  unfold execLaneLockLoss
  extract_lets +onlyGivenNames x4
  clear_value x4
  refine SameNext.ite ?_ ?_
  · exact SameNext.next (Same.step (State.modTile_same ..) rfl (Same.refl _ _))
  · refine SameNext.ite ?_ ?_
    · exact SameNext.next (Same.step (State.retrain_same ..) rfl (Same.refl _ _))
    · exact SameNext.next (Same.step (State.modTile_same ..) rfl (Same.refl _ _))

theorem execShoeWaitExpiry_same (a1 : Nat) (a2 : State) :
    SameNext [.routing, .tiles, .sched, .quench, .counters, .out] (execShoeWaitExpiry a1 a2) a2 := by
  unfold execShoeWaitExpiry
  split
  · split
    · refine SameNext.ite ?_ ?_
      · exact SameNext.next (Same.refl _ _)
      · exact SameNext.next (Same.step (State.modTile_same ..) rfl (Same.step (State.clearShoe_same ..) rfl (Same.step (State.sendShoe_same ..) rfl (Same.refl _ _))))
    · exact SameNext.next (Same.refl _ _)
  · exact SameNext.next (Same.refl _ _)

theorem execClockRecoveryPhaseMove_same (a1 : Nat) (a2 : Nat) (a3 : Bool) (a4 : Int) (a5 : State) :
    SameNext [.tiles, .quench, .counters] (execClockRecoveryPhaseMove a1 a2 a3 a4 a5) a5 := by
  unfold execClockRecoveryPhaseMove
  extract_lets +onlyGivenNames x6
  clear_value x6
  extract_lets +onlyGivenNames x7
  clear_value x7
  extract_lets +onlyGivenNames x8
  clear_value x8
  extract_lets +onlyGivenNames x9
  clear_value x9
  extract_lets +onlyGivenNames x10
  clear_value x10
  extract_lets +onlyGivenNames x11
  clear_value x11
  extract_lets +onlyGivenNames x12
  have h12 : Same [.tiles, .quench, .counters] x12 a5 := by
    unfold x12
    exact Same.step (State.modTile_same ..) rfl (Same.refl _ _)
  clear_value x12
  refine SameNext.next ?_
  refine Same.ite ?_ ?_
  · exact Same.ite (Same.step (State.pathShift_same ..) rfl (by assumption)) (Same.step (State.pathShift_same ..) rfl (by assumption))
  · assumption

theorem execReplayTimeout_same (a1 : Nat) (a2 : Ticks) (a3 : State) :
    SameNext [.routing, .tiles, .sched, .time, .ports, .draw, .vises, .hearth, .quench, .counters, .out] (execReplayTimeout a1 a2 a3) a3 := by
  unfold execReplayTimeout
  extract_lets +onlyGivenNames x4
  have h4 : Same [.routing, .tiles, .sched, .time, .ports, .draw, .vises, .hearth, .quench, .counters, .out] x4 a3 := by
    unfold x4
    exact Same.step (State.advance_same ..) rfl (Same.refl _ _)
  clear_value x4
  extract_lets +onlyGivenNames x6
  clear_value x6
  split
  · refine SameNext.next ?_
    refine Same.ite ?_ ?_
    · exact Same.step (State.replay_same ..) rfl (by assumption)
    · assumption
  · exact SameNext.next (by assumption)

theorem execShoeStepTimeout_same (a1 : Nat) (a2 : State) :
    SameNext [.routing, .tiles, .sched, .time, .ports, .draw, .vises, .hearth, .quench, .counters, .out] (execShoeStepTimeout a1 a2) a2 := by
  unfold execShoeStepTimeout
  exact SameNext.next (Same.ite (Same.step (State.retrain_same ..) rfl (Same.step (State.modTile_same ..) rfl (Same.refl _ _))) (Same.refl _ _))

theorem execWidthRestore_same (a1 : Nat) (a2 : State) :
    SameNext [.tiles, .counters, .free, .out] (execWidthRestore a1 a2) a2 := by
  unfold execWidthRestore
  extract_lets +onlyGivenNames x3
  clear_value x3
  extract_lets +onlyGivenNames x4
  clear_value x4
  extract_lets +onlyGivenNames x5
  clear_value x5
  extract_lets +onlyGivenNames x6
  clear_value x6
  split
  · refine SameNext.ite ?_ ?_
    · exact SameNext.next (Same.step (State.startShoe_same ..) rfl (Same.step (State.modTile_same ..) rfl (Same.refl _ _)))
    · exact SameNext.next (Same.refl _ _)
  · exact SameNext.next (Same.refl _ _)

theorem execSoleUseClear_same (a1 : Nat) (a2 : State) :
    SameNext [.tiles] (execSoleUseClear a1 a2) a2 := by
  unfold execSoleUseClear
  exact SameNext.next (Same.ite (Same.step (State.modTile_same ..) rfl (Same.refl _ _)) (Same.refl _ _))

theorem execTrainingBackoffExpiry_same (a1 : Nat) (a2 : State) :
    SameNext [.tiles, .counters, .out] (execTrainingBackoffExpiry a1 a2) a2 := by
  unfold execTrainingBackoffExpiry
  exact SameNext.next (Same.ite (Same.step (State.startMap_same ..) rfl (Same.step (State.modTile_same ..) rfl (Same.refl _ _))) (Same.refl _ _))

theorem execShodSet_same (a1 : Nat) (a2 : State) :
    SameNext [.tiles, .counters, .out] (execShodSet a1 a2) a2 := by
  unfold execShodSet
  extract_lets +onlyGivenNames x3
  clear_value x3
  split
  · refine SameNext.ite ?_ ?_
    · extract_lets +onlyGivenNames x7
      clear_value x7
      exact SameNext.next (Same.step (State.shoeBegin_same ..) rfl (Same.step (State.sendShoe_same ..) rfl (Same.step (State.modTile_same ..) rfl (Same.refl _ _))))
    · exact SameNext.next (Same.refl _ _)
  · exact SameNext.next (Same.refl _ _)

theorem execCreditDecay_same (a1 : Nat) (a2 : State) :
    SameNext [.tiles] (execCreditDecay a1 a2) a2 := by
  unfold execCreditDecay
  exact SameNext.next (Same.step (State.modTile_same ..) rfl (Same.refl _ _))

theorem execExchangeIntervalEnd_same (a1 : Nat) (a2 : State) :
    SameNext [.routing, .tiles, .sched, .time, .quench, .counters] (execExchangeIntervalEnd a1 a2) a2 := by
  unfold execExchangeIntervalEnd
  exact SameNext.next (Same.step (State.elect_same ..) rfl (Same.step (State.modTile_same ..) rfl (Same.refl _ _)))

end Sys2Proof.Machine
end

