-- ==== Sys2Proof/Laws/FrameFlow.lean ====
section
/-! SUPPORT. Frames of the operations and commands of Sys2Proof/Machine/Flow.lean: each changes no part of the module but those it
names, and keeps module memory canonical. -/

namespace Sys2Proof.Machine

open Sys2Proof

theorem State.noteInjected_same (a1 : State) (a2 : Packet) :
    Same [.remote, .counters] (State.noteInjected a1 a2) a1 := by
  unfold State.noteInjected
  extract_lets +onlyGivenNames x3
  clear_value x3
  extract_lets +onlyGivenNames x4
  have h4 : Same [.remote, .counters] x4 a1 := by
    unfold x4
    exact Same.step (State.count_same ..) rfl (Same.refl _ _)
  clear_value x4
  refine Same.ite ?_ ?_
  · exact Same.setRemote rfl (by assumption)
  · refine Same.ite ?_ ?_
    · assumption
    · extract_lets +onlyGivenNames x6
      clear_value x6
      extract_lets +onlyGivenNames x7
      clear_value x7
      extract_lets +onlyGivenNames x8
      have h8 : Same [.remote, .counters] x8 a1 := by
        unfold x8
        exact Same.setRemote rfl (by assumption)
      clear_value x8
      split
      · assumption
      · exact Same.setCounters rfl id (by assumption)

theorem State.inject_same (a1 : State) (a2 : Nat) (a3 : Packet) :
    Same [.routing, .tiles, .sched, .remote, .quench, .counters] (State.inject a1 a2 a3) a1 := by
  unfold State.inject
  refine Same.ite ?_ ?_
  · split
    · exact Same.ofFst (by assumption) (Same.step (State.deliverOrWait_same ..) rfl (Same.step (State.noteInjected_same ..) rfl (Same.refl _ _)))
    · exact Same.setRouting rfl (Same.ofFst (by assumption) (Same.step (State.deliverOrWait_same ..) rfl (Same.step (State.noteInjected_same ..) rfl (Same.refl _ _))))
  · extract_lets +onlyGivenNames x4
    clear_value x4
    extract_lets +onlyGivenNames x5
    extract_lets +onlyGivenNames x6
    have h6 : Same [.routing, .tiles, .sched, .remote, .quench, .counters] x6 a1 := by
      unfold x6
      exact Same.setSched rfl id (Same.refl _ _)
    clear_value x6
    exact Same.step (State.noteQueue_same ..) rfl (by assumption)

theorem execRouteSwapFire_same (a1 : Ticks) (a2 : State) :
    SameNext [.routing, .tiles, .sched, .time, .ports, .hearth, .quench, .counters, .out] (execRouteSwapFire a1 a2) a2 := by
  unfold execRouteSwapFire
  extract_lets +onlyGivenNames x3
  have h3 : Same [.routing, .tiles, .sched, .time, .ports, .hearth, .quench, .counters, .out] x3 a2 := by
    unfold x3
    exact Same.step (State.advance_same ..) rfl (Same.refl _ _)
  clear_value x3
  extract_lets +onlyGivenNames x5
  clear_value x5
  refine SameNext.ite ?_ ?_
  · extract_lets +onlyGivenNames x6
    clear_value x6
    refine SameNext.ite ?_ ?_
    · extract_lets +onlyGivenNames x7
      clear_value x7
      exact SameNext.next (Same.step (State.rejoinAll_same ..) rfl (Same.step (State.eventManager_same ..) rfl (Same.setRouting rfl (by assumption))))
    · exact SameNext.next (Same.step (State.eventManager_same ..) rfl (Same.step (State.raiseAt_same ..) rfl (Same.setRouting rfl (by assumption))))
  · exact SameNext.next (by assumption)

theorem State.takeBytes_same (a1 : State) (a2 : Nat) (a3 : QPkt) (a4 : Nat) :
    Same [.tiles, .sched, .counters] (State.takeBytes a1 a2 a3 a4).1 a1 := by
  unfold State.takeBytes
  extract_lets +onlyGivenNames x5
  clear_value x5
  extract_lets +onlyGivenNames x6
  clear_value x6
  extract_lets +onlyGivenNames x7
  clear_value x7
  extract_lets +onlyGivenNames x8
  clear_value x8
  extract_lets +onlyGivenNames x9
  clear_value x9
  extract_lets +onlyGivenNames x10
  clear_value x10
  extract_lets +onlyGivenNames x11
  have h11 : Same [.tiles, .sched, .counters] x11 a1 := by
    unfold x11
    exact Same.step (State.modTile_same ..) rfl (Same.refl _ _)
  clear_value x11
  extract_lets +onlyGivenNames x13
  have h13 : Same [.tiles, .sched, .counters] x13 a1 := by
    unfold x13
    refine Same.ite ?_ ?_
    · exact Same.step (State.count_same ..) rfl (Same.step (State.noteQueue_same ..) rfl (by assumption))
    · assumption
  clear_value x13
  extract_lets +onlyGivenNames x15
  clear_value x15
  extract_lets +onlyGivenNames x16
  clear_value x16
  extract_lets +onlyGivenNames x17
  have h17 : Same [.tiles, .sched, .counters] x17 a1 := by
    unfold x17
    refine Same.ite ?_ ?_
    · refine Same.ite ?_ ?_
      · exact Same.step (State.freeIn_same ..) rfl (by assumption)
      · assumption
    · split
      · assumption
      · exact Same.step (State.modTile_same ..) rfl (by assumption)
  clear_value x17
  dsimp only
  assumption

theorem State.startNext_same (a1 : State) (a2 : Nat) (a3 : Option Nat) :
    Same [.tiles] (State.startNext a1 a2 a3).1 a1 := by
  unfold State.startNext
  split
  · dsimp only
    exact Same.step (State.modTile_same ..) rfl (Same.refl _ _)
  · extract_lets +onlyGivenNames x8
    clear_value x8
    refine Same.iteFst ?_ ?_
    · dsimp only
      exact Same.step (State.modTile_same ..) rfl (Same.refl _ _)
    · dsimp only
      exact Same.refl _ _

theorem State.fillFlit_same (a1 : State) (a2 : Nat) (a3 : Nat) (a4 : QPkt) (a5 : List Byte) (a6 : Nat) :
    Same [.tiles, .sched, .counters] (State.fillFlit a1 a2 a3 a4 a5 a6).1 a1 := by
  induction a3 generalizing a1 a4 a5 a6 with
  | zero => exact Same.refl _ _
  | succ n ih =>
    unfold State.fillFlit
    extract_lets +onlyGivenNames x8
    clear_value x8
    split
    extract_lets +onlyGivenNames x14
    clear_value x14
    extract_lets +onlyGivenNames x15
    clear_value x15
    refine Same.iteFst ?_ ?_
    · dsimp only
      exact Same.ofFst3 (by assumption) (Same.step (State.takeBytes_same ..) rfl (Same.refl _ _))
    · refine Same.iteFst ?_ ?_
      · dsimp only
        exact Same.ofFst3 (by assumption) (Same.step (State.takeBytes_same ..) rfl (Same.refl _ _))
      · split
        · dsimp only
          exact Same.ofFst (by assumption) (Same.step (State.startNext_same ..) rfl (Same.ofFst3 (by assumption) (Same.step (State.takeBytes_same ..) rfl (Same.refl _ _))))
        · exact Same.step (ih ..) rfl (Same.ofFst (by assumption) (Same.step (State.startNext_same ..) rfl (Same.ofFst3 (by assumption) (Same.step (State.takeBytes_same ..) rfl (Same.refl _ _)))))

theorem State.sendSync_same (a1 : State) (a2 : StreamKey) :
    Same [.routing, .tiles, .sched, .counters] (State.sendSync a1 a2) a1 := by
  unfold State.sendSync
  extract_lets +onlyGivenNames x3
  clear_value x3
  extract_lets +onlyGivenNames x4
  clear_value x4
  exact Same.step (State.sendAck_same ..) rfl (Same.refl _ _)

theorem execE2eAck_same (a1 : Nat) (a2 : Packet) (a3 : State) :
    SameNext [.routing, .tiles, .sched, .quench, .counters] (execE2eAck a1 a2 a3) a3 := by
  unfold execE2eAck
  refine SameNext.ite ?_ ?_
  · exact SameNext.next (Same.refl _ _)
  · extract_lets +onlyGivenNames x4
    have h4 : Same [.routing, .tiles, .sched, .quench, .counters] x4 a3 := by
      unfold x4
      exact Same.step (State.takeArrival_same ..) rfl (Same.refl _ _)
    clear_value x4
    extract_lets +onlyGivenNames x6
    clear_value x6
    extract_lets +onlyGivenNames x7
    clear_value x7
    refine SameNext.ite ?_ ?_
    · extract_lets +onlyGivenNames x8
      clear_value x8
      exact SameNext.next (Same.step (State.sendAck_same ..) rfl (Same.setRouting rfl (by assumption)))
    · extract_lets +onlyGivenNames x8
      clear_value x8
      extract_lets +onlyGivenNames x9
      clear_value x9
      refine SameNext.ite ?_ ?_
      · exact SameNext.next (Same.step (State.sendSync_same ..) rfl (by assumption))
      · extract_lets +onlyGivenNames x10
        have h10 : Same [.routing, .tiles, .sched, .quench, .counters] x10 a3 := by
          unfold x10
          exact Same.setRouting rfl (by assumption)
        clear_value x10
        extract_lets +onlyGivenNames x12
        have h12 : Same [.routing, .tiles, .sched, .quench, .counters] x12 a3 := by
          unfold x12
          refine Same.ite ?_ ?_
          · exact Same.step (State.raise_same ..) rfl (by assumption)
          · assumption
        clear_value x12
        exact SameNext.next (Same.step (State.pumpStreams_same ..) rfl (by assumption))

theorem execTc3StreamSyncRetry_same (a1 : StreamKey) (a2 : State) :
    SameNext [.routing, .tiles, .sched, .counters] (execTc3StreamSyncRetry a1 a2) a2 := by
  unfold execTc3StreamSyncRetry
  exact SameNext.next (Same.ite (Same.step (State.sendSync_same ..) rfl (Same.refl _ _)) (Same.refl _ _))

theorem State.chargeInject_same (a1 : State) (a2 : Nat) (a3 : QPkt) (a4 : Nat) (a5 : Word) :
    Same [.tiles, .sched] (State.chargeInject a1 a2 a3 a4 a5) a1 := by
  unfold State.chargeInject
  extract_lets +onlyGivenNames x6
  clear_value x6
  extract_lets +onlyGivenNames x7
  clear_value x7
  extract_lets +onlyGivenNames x8
  clear_value x8
  extract_lets +onlyGivenNames x9
  clear_value x9
  extract_lets +onlyGivenNames x10
  clear_value x10
  extract_lets +onlyGivenNames x11
  extract_lets +onlyGivenNames x12
  have h12 : Same [.tiles, .sched] x12 a1 := by
    unfold x12
    exact Same.setSched rfl id (Same.refl _ _)
  clear_value x12
  extract_lets +onlyGivenNames x14
  have h14 : Same [.tiles, .sched] x14 a1 := by
    unfold x14
    refine Same.ite ?_ ?_
    · assumption
    · exact Same.step (State.modTile_same ..) rfl (by assumption)
  clear_value x14
  exact Same.step (State.noteQueue_same ..) rfl (by assumption)

theorem State.injectCast_same (a1 : State) (a2 : Nat) (a3 : QPkt) (a4 : Nat) (a5 : Word) :
    Same [.routing, .tiles, .sched, .remote, .quench, .counters] (State.injectCast a1 a2 a3 a4 a5) a1 := by
  unfold State.injectCast
  extract_lets +onlyGivenNames x6
  have h6 : Same [.routing, .tiles, .sched, .remote, .quench, .counters] x6 a1 := by
    unfold x6
    exact Same.step (State.chargeInject_same ..) rfl (Same.refl _ _)
  clear_value x6
  extract_lets +onlyGivenNames x8
  clear_value x8
  extract_lets +onlyGivenNames x9
  have h9 : Same [.routing, .tiles, .sched, .remote, .quench, .counters] x9 a1 := by
    unfold x9
    split
    · exact Same.ofFst (by assumption) (Same.step (State.place_same ..) rfl (by assumption))
    · exact Same.setRouting rfl (Same.ofFst (by assumption) (Same.step (State.place_same ..) rfl (by assumption)))
  clear_value x9
  exact Same.step (State.noteInjected_same ..) rfl (by assumption)

theorem State.pump_same (a1 : State) (a2 : Nat) (a3 : Nat) (a4 : QPkt) :
    Same [.tiles, .sched, .counters, .out] (State.pump a1 a2 a3 a4) a1 := by
  induction a3 generalizing a1 a4 with
  | zero => exact Same.refl _ _
  | succ n ih =>
    unfold State.pump
    refine Same.ite ?_ ?_
    · exact Same.refl _ _
    · extract_lets +onlyGivenNames x6
      clear_value x6
      split
      extract_lets +onlyGivenNames x13
      have h13 : Same [.tiles, .sched, .counters, .out] x13 a1 := by
        unfold x13
        exact Same.step (State.sendFlit_same ..) rfl (Same.ofFst3 (by assumption) (Same.step (State.fillFlit_same ..) rfl (Same.refl _ _)))
      clear_value x13
      split
      · exact Same.step (ih ..) rfl (by assumption)
      · assumption

theorem execBankRetire_same (a1 : Ticks) (a2 : State) :
    SameNext [.routing, .time] (execBankRetire a1 a2) a2 := by
  unfold execBankRetire
  extract_lets +onlyGivenNames x3
  have h3 : Same [.routing, .time] x3 a2 := by
    unfold x3
    exact Same.step (State.advance_same ..) rfl (Same.refl _ _)
  clear_value x3
  extract_lets +onlyGivenNames x5
  clear_value x5
  exact SameNext.ite (SameNext.next (Same.setRouting rfl (by assumption))) (SameNext.next (by assumption))

theorem execRouteWaitExpiry_same (a1 : Ticks) (a2 : State) :
    SameNext [.routing, .tiles, .sched, .time, .quench, .counters] (execRouteWaitExpiry a1 a2) a2 := by
  unfold execRouteWaitExpiry
  extract_lets +onlyGivenNames x3
  have h3 : Same [.routing, .tiles, .sched, .time, .quench, .counters] x3 a2 := by
    unfold x3
    exact Same.step (State.advance_same ..) rfl (Same.refl _ _)
  clear_value x3
  extract_lets +onlyGivenNames x5
  clear_value x5
  extract_lets +onlyGivenNames x6
  clear_value x6
  extract_lets +onlyGivenNames x7
  clear_value x7
  extract_lets +onlyGivenNames x8
  clear_value x8
  extract_lets +onlyGivenNames x9
  clear_value x9
  extract_lets +onlyGivenNames x10
  clear_value x10
  extract_lets +onlyGivenNames x11
  clear_value x11
  extract_lets +onlyGivenNames x12
  extract_lets +onlyGivenNames x13
  have h13 : Same [.routing, .tiles, .sched, .time, .quench, .counters] x13 a2 := by
    unfold x13
    exact Same.setRoutingTilesSched rfl rfl rfl id (by assumption)
  clear_value x13
  extract_lets +onlyGivenNames x15
  extract_lets +onlyGivenNames x16
  have h16 : Same [.routing, .tiles, .sched, .time, .quench, .counters] x16 a2 := by
    unfold x16
    refine Same.foldl ?_ _ ?_
    · intro y17
      intro y18
      unfold x15
      exact Same.step (State.freeIn_same ..) rfl (Same.step (State.discardAt_same ..) rfl (Same.step (State.count_same ..) rfl (Same.refl _ _)))
    · assumption
  clear_value x16
  extract_lets +onlyGivenNames x18
  have h18 : Same [.routing, .tiles, .sched, .time, .quench, .counters] x18 a2 := by
    unfold x18
    refine Same.foldl ?_ _ ?_
    · intro y19
      intro y20
      unfold x15
      exact Same.step (State.freeIn_same ..) rfl (Same.step (State.discardAt_same ..) rfl (Same.step (State.count_same ..) rfl (Same.refl _ _)))
    · assumption
  clear_value x18
  extract_lets +onlyGivenNames x20
  have h20 : Same [.routing, .tiles, .sched, .time, .quench, .counters] x20 a2 := by
    unfold x20
    refine Same.foldl ?_ _ ?_
    · intro y21
      intro y22
      unfold x15
      exact Same.step (State.freeIn_same ..) rfl (Same.step (State.discardAt_same ..) rfl (Same.step (State.count_same ..) rfl (Same.refl _ _)))
    · assumption
  clear_value x20
  refine SameNext.next ?_
  refine Same.ite ?_ ?_
  · assumption
  · exact Same.step (State.retryWaiting_same ..) rfl (by assumption)

theorem State.injectNow_same (a1 : State) (a2 : Nat) (a3 : QPkt) (a4 : QPkt) (a5 : Nat) (a6 : Word) :
    Same [.tiles, .sched, .remote, .counters] (State.injectNow a1 a2 a3 a4 a5 a6) a1 := by
  unfold State.injectNow
  exact Same.step (State.noteInjected_same ..) rfl (Same.step (State.enqueue_same ..) rfl (Same.step (State.chargeInject_same ..) rfl (Same.refl _ _)))

theorem execSampleEpoch_same (a1 : Ticks) (a2 : State) :
    SameNext [.sched, .time, .mem, .poison] (execSampleEpoch a1 a2) a2 := by
  unfold execSampleEpoch
  extract_lets +onlyGivenNames x3
  have h3 : Same [.sched, .time, .mem, .poison] x3 a2 := by
    unfold x3
    exact Same.step (State.advance_same ..) rfl (Same.refl _ _)
  clear_value x3
  extract_lets +onlyGivenNames x5
  clear_value x5
  extract_lets +onlyGivenNames x6
  clear_value x6
  extract_lets +onlyGivenNames x7
  clear_value x7
  refine SameNext.ite ?_ ?_
  · exact SameNext.next (by assumption)
  · extract_lets +onlyGivenNames x8
    clear_value x8
    extract_lets +onlyGivenNames x9
    have h9 : Same [.sched, .time, .mem, .poison] x9 a2 := by
      unfold x9
      refine Same.foldl ?_ _ ?_
      · intro y10
        intro y11
        extract_lets +onlyGivenNames x12
        clear_value x12
        extract_lets +onlyGivenNames x13
        clear_value x13
        extract_lets +onlyGivenNames x14
        clear_value x14
        extract_lets +onlyGivenNames x15
        clear_value x15
        extract_lets +onlyGivenNames x16
        have hl : x16.length = 32 := by unfold x16; simp only [List.length_append, leBytes_length]
        clear_value x16
        split
        · rename_i hr
          split
          · rename_i hlt
            refine Same.ofRings (V := [.sched, .time, .mem, .outside, .poison]) ?_ rfl fun hs => ?_
            · exact Same.setSched rfl id (Same.step (State.storeMem_same ..) rfl (Same.refl _ _))
            · have hin := hs.2.2.2 _ _ hr
              unfold inReport at hin
              exact Same.setSched rfl id (Same.step (State.storeMem_report _ _ _ _ (by unfold inReport; omega)) rfl (Same.refl _ _))
          · exact Same.setSched rfl id (Same.refl _ _)
        · exact Same.setSched rfl id (Same.refl _ _)
      · assumption
    clear_value x9
    exact SameNext.next (Same.setSched rfl id (by assumption))

theorem execE2eAckTimer_same (a1 : StreamKey) (a2 : State) :
    SameNext [.routing, .tiles, .sched, .counters] (execE2eAckTimer a1 a2) a2 := by
  unfold execE2eAckTimer
  split
  · exact SameNext.ite (SameNext.next (Same.step (State.sendAck_same ..) rfl (Same.setRouting rfl (Same.refl _ _)))) (SameNext.next (Same.refl _ _))
  · exact SameNext.next (Same.refl _ _)

theorem execPortEgressDecision_same (a1 : Nat) (a2 : State) :
    SameNext [.tiles, .sched, .counters, .out] (execPortEgressDecision a1 a2) a2 := by
  unfold execPortEgressDecision
  extract_lets +onlyGivenNames x3
  clear_value x3
  refine SameNext.ite ?_ ?_
  · exact SameNext.next (Same.refl _ _)
  · extract_lets +onlyGivenNames x4
    clear_value x4
    split
    · exact SameNext.next (Same.step (State.pump_same ..) rfl (Same.refl _ _))
    · split
      · exact SameNext.next (Same.ofFst (by assumption) (Same.step (State.startNext_same ..) rfl (Same.refl _ _)))
      · exact SameNext.next (Same.step (State.pump_same ..) rfl (Same.ofFst (by assumption) (Same.step (State.startNext_same ..) rfl (Same.refl _ _))))

theorem State.injectHop_same (a1 : State) (a2 : QPkt) :
    Same [.routing, .tiles, .counters, .free] (State.injectHop a1 a2).1 a1 := by
  unfold State.injectHop
  extract_lets +onlyGivenNames x3
  clear_value x3
  extract_lets +onlyGivenNames x4
  clear_value x4
  refine Same.iteFst ?_ ?_
  · exact Same.step (State.lookup_same ..) rfl (Same.refl _ _)
  · extract_lets +onlyGivenNames x5
    clear_value x5
    extract_lets +onlyGivenNames x6
    clear_value x6
    extract_lets +onlyGivenNames x7
    clear_value x7
    extract_lets +onlyGivenNames x8
    clear_value x8
    extract_lets +onlyGivenNames x9
    clear_value x9
    extract_lets +onlyGivenNames x10
    clear_value x10
    extract_lets +onlyGivenNames x11
    clear_value x11
    refine Same.iteFst ?_ ?_
    · exact Same.step (State.lookup_same ..) rfl (Same.refl _ _)
    · split
      extract_lets +onlyGivenNames x16
      clear_value x16
      extract_lets +onlyGivenNames x17
      clear_value x17
      split
      extract_lets +onlyGivenNames x22
      clear_value x22
      extract_lets +onlyGivenNames x23
      clear_value x23
      split
      extract_lets +onlyGivenNames x28
      clear_value x28
      refine Same.iteFst ?_ ?_
      · refine Same.step (State.lookup_same ..) rfl (Same.ofSnd (by assumption) ?_)
        refine Same.iteSnd ?_ ?_
        · dsimp only
          exact Same.ofSnd (by assumption) (Same.step (State.drawFree_same ..) rfl (Same.refl _ _))
        · exact Same.step (State.drawFree_same ..) rfl (Same.ofSnd (by assumption) (Same.step (State.drawFree_same ..) rfl (Same.refl _ _)))
      · split
        · dsimp only
          refine Same.step (State.count_same ..) rfl (Same.ofSnd (by assumption) ?_)
          refine Same.iteSnd ?_ ?_
          · dsimp only
            exact Same.ofSnd (by assumption) (Same.step (State.drawFree_same ..) rfl (Same.refl _ _))
          · exact Same.step (State.drawFree_same ..) rfl (Same.ofSnd (by assumption) (Same.step (State.drawFree_same ..) rfl (Same.refl _ _)))
        · refine Same.step (State.lookup_same ..) rfl (Same.ofSnd (by assumption) ?_)
          refine Same.iteSnd ?_ ?_
          · dsimp only
            exact Same.ofSnd (by assumption) (Same.step (State.drawFree_same ..) rfl (Same.refl _ _))
          · exact Same.step (State.drawFree_same ..) rfl (Same.ofSnd (by assumption) (Same.step (State.drawFree_same ..) rfl (Same.refl _ _)))

end Sys2Proof.Machine
end

