-- ==== Sys2Proof/Laws/FrameFleso.lean ====
section
/-! SUPPORT. Frames of the operations and commands of Sys2Proof/Machine/Fleso.lean: each changes no part of the module but those it
names, and keeps module memory canonical. -/

namespace Sys2Proof.Machine

open Sys2Proof

theorem State.sendReads_same (a1 : State) (a2 : Nat) (a3 : Nat) :
    Same [.ports, .counters, .out] (State.sendReads a1 a2 a3) a1 := by
  induction a3 generalizing a1 with
  | zero => exact Same.refl _ _
  | succ n ih =>
    unfold State.sendReads
    split
    · exact Same.refl _ _
    · refine Same.ite ?_ ?_
      · exact Same.refl _ _
      · extract_lets +onlyGivenNames x9
        have h9 : Same [.ports, .counters, .out] x9 a1 := by
          unfold x9
          exact Same.step (State.modPort_same ..) rfl (Same.refl _ _)
        clear_value x9
        refine Same.step (ih ..) rfl ?_
        refine Same.foldl ?_ _ ?_
        · intro y11
          intro y12
          exact Same.step (State.emit_same ..) rfl (Same.refl _ _)
        · assumption

theorem State.addD2h_same (a1 : State) (a2 : Nat) (a3 : D2hRead) :
    Same [.ports, .counters, .out] (State.addD2h a1 a2 a3) a1 := by
  unfold State.addD2h
  exact Same.step (State.sendReads_same ..) rfl (Same.step (State.modPort_same ..) rfl (Same.refl _ _))

theorem State.reply_same (a1 : State) (a2 : Call) (a3 : BitVec 16) (a4 : Reply) :
    Same [.routing, .tiles, .sched, .ports, .hearth, .quench, .counters, .out] (State.reply a1 a2 a3 a4) a1 := by
  unfold State.reply
  split
  · exact Same.step (State.answer_same ..) rfl (Same.refl _ _)
  · exact Same.step (State.answer_same ..) rfl (Same.refl _ _)
  · exact Same.refl _ _

theorem State.take_same (a1 : State) (a2 : QCmd) :
    Same [.hearth, .counters] (State.take a1 a2) a1 := by
  unfold State.take
  extract_lets +onlyGivenNames x3
  clear_value x3
  extract_lets +onlyGivenNames x4
  have h4 : Same [.hearth, .counters] x4 a1 := by
    unfold x4
    exact Same.step (State.count_same ..) rfl (Same.refl _ _)
  clear_value x4
  extract_lets +onlyGivenNames x6
  have h6 : Same [.hearth, .counters] x6 a1 := by
    unfold x6
    exact Same.setHearth rfl (by assumption)
  clear_value x6
  split
  · exact Same.step (State.modMbox_same ..) rfl (by assumption)
  · assumption

theorem State.serveHeader_same (a1 : State) (a2 : QCmd) :
    Same [.routing, .tiles, .sched, .ports, .hearth, .quench, .counters, .out] (State.serveHeader a1 a2) a1 := by
  unfold State.serveHeader
  extract_lets +onlyGivenNames x3
  clear_value x3
  extract_lets +onlyGivenNames x4
  extract_lets +onlyGivenNames x5
  have h5 : Same [.routing, .tiles, .sched, .ports, .hearth, .quench, .counters, .out] x5 a1 := by
    unfold x5
    exact Same.step (State.take_same ..) rfl (Same.refl _ _)
  clear_value x5
  refine Same.ite ?_ ?_
  · unfold x4
    exact Same.step (State.answer_same ..) rfl (by assumption)
  · split
    · unfold x4
      exact Same.step (State.answer_same ..) rfl (by assumption)
    · refine Same.ite ?_ ?_
      · unfold x4
        exact Same.step (State.answer_same ..) rfl (by assumption)
      · refine Same.ite ?_ ?_
        · unfold x4
          exact Same.step (State.answer_same ..) rfl (by assumption)
        · refine Same.ite ?_ ?_
          · unfold x4
            exact Same.step (State.answer_same ..) rfl (by assumption)
          · extract_lets +onlyGivenNames x9
            clear_value x9
            refine Same.ite ?_ ?_
            · unfold x4
              exact Same.step (State.answer_same ..) rfl (by assumption)
            · exact Same.step (State.sendTc3_same ..) rfl (by assumption)

theorem State.serveHeads_same (a1 : State) (a2 : Nat) :
    Same [.routing, .tiles, .sched, .ports, .hearth, .quench, .counters, .out] (State.serveHeads a1 a2) a1 := by
  induction a2 generalizing a1 with
  | zero => exact Same.refl _ _
  | succ n ih =>
    unfold State.serveHeads
    refine Same.ite ?_ ?_
    · exact Same.refl _ _
    · extract_lets +onlyGivenNames x4
      clear_value x4
      split
      · exact Same.refl _ _
      · exact Same.step (ih ..) rfl (Same.step (State.serveHeader_same ..) rfl (Same.refl _ _))

theorem State.setReady_same (a1 : State) (a2 : Bool) :
    Same [.hearth, .counters, .out] (State.setReady a1 a2) a1 := by
  unfold State.setReady
  exact Same.ite (Same.refl _ _) (Same.step (State.emit_same ..) rfl (Same.setHearth rfl (Same.refl _ _)))

theorem State.activate_same (a1 : State) :
    Same [.ports, .hearth, .counters, .out] (State.activate a1) a1 := by
  unfold State.activate
  extract_lets +onlyGivenNames x2
  clear_value x2
  split
  · exact Same.refl _ _
  · refine Same.ite ?_ ?_
    · exact Same.refl _ _
    · exact Same.step (State.emit_same ..) rfl (Same.step (State.setReady_same ..) rfl (Same.step (State.setMode_same ..) rfl (Same.setHearth rfl (Same.refl _ _))))

theorem State.serve_same (a1 : State) :
    Same [.routing, .tiles, .sched, .ports, .hearth, .quench, .counters, .out] (State.serve a1) a1 := by
  unfold State.serve
  exact Same.step (State.activate_same ..) rfl (Same.step (State.serveHeads_same ..) rfl (Same.refl _ _))

/-- A Fleso command changes what its effect changes, and what an answer changes. -/
theorem fleso_same {W : List Part} {c : Call} {op : BitVec 16} {may : Auth → Bool} {body : Auth → State → State × Reply} {s : State}
    (hW : subParts [.routing, .tiles, .sched, .ports, .hearth, .quench, .counters, .out] W = true)
    (hb : ∀ a u, Same W (body a u).1 u) : SameNext W (s.fleso c op may body) s := by
  have fin : ∀ (u : State) (r : Reply), Same W (u.reply c op r).serve u := fun u r =>
    Same.step (State.serve_same ..) hW (Same.step (State.reply_same ..) hW (Same.refl _ _))
  unfold State.fleso
  split
  · exact SameNext.next (Same.refl _ _)
  · extract_lets a u
    have hu : Same W u s := by
      unfold u
      exact Same.trans (Same.step (State.take_same ..) (V := [.hearth, .counters]) (W := [.routing, .tiles, .sched, .ports, .hearth, .quench, .counters, .out]) rfl (Same.refl _ _) |>.step hW (Same.refl _ _)) (Same.refl _ _)
    refine SameNext.ite (SameNext.next ((fin _ _).trans hu)) ?_
    refine SameNext.ite (SameNext.next ((fin _ _).trans hu)) ?_
    refine SameNext.ite (SameNext.next ((fin _ _).trans hu)) ?_
    split
    · exact SameNext.next ((fin _ _).trans hu)
    · exact SameNext.next ((fin _ _).trans ((hb _ _).trans hu))

theorem State.dropD2h_same (a1 : State) (a2 : Nat) (a3 : D2hTag) :
    Same [.ports, .counters, .out] (State.dropD2h a1 a2 a3) a1 := by
  unfold State.dropD2h
  exact Same.step (State.sendReads_same ..) rfl (Same.step (State.modPort_same ..) rfl (Same.refl _ _))

theorem State.setSlot_same (a1 : State) (a2 : Fn) (a3 : Nat) (a4 : Slot) :
    Same [.hearth] (State.setSlot a1 a2 a3 a4) a1 := by
  unfold State.setSlot
  exact Same.step (State.modMbox_same ..) rfl (Same.refl _ _)

theorem State.badWrite_same (a1 : State) :
    Same [.quench, .counters] (State.badWrite a1) a1 := by
  unfold State.badWrite
  exact Same.step (State.raiseAt_same ..) rfl (Same.refl _ _)

theorem execMboxSubmit_same (a1 : Fn) (a2 : Nat) (a3 : Word) (a4 : Bool) (a5 : ReqHdr) (a6 : State) :
    SameNext [.routing, .tiles, .sched, .ports, .hearth, .quench, .counters, .out] (execMboxSubmit a1 a2 a3 a4 a5 a6) a6 := by
  unfold execMboxSubmit
  extract_lets +onlyGivenNames x7
  clear_value x7
  refine SameNext.ite ?_ ?_
  · extract_lets +onlyGivenNames x8
    have h8 : Same [.routing, .tiles, .sched, .ports, .hearth, .quench, .counters, .out] x8 a6 := by
      unfold x8
      exact Same.step (State.setSlot_same ..) rfl (Same.refl _ _)
    clear_value x8
    exact SameNext.next (Same.step (State.serve_same ..) rfl (Same.setHearth rfl (by assumption)))
  · exact SameNext.next (Same.step (State.badWrite_same ..) rfl (Same.refl _ _))

theorem execMgmtCmd_same (a1 : Nat) (a2 : Packet) (a3 : State) :
    SameNext [.routing, .tiles, .sched, .ports, .hearth, .quench, .counters, .out] (execMgmtCmd a1 a2 a3) a3 := by
  unfold execMgmtCmd
  refine SameNext.ite ?_ ?_
  · exact SameNext.next (Same.refl _ _)
  · extract_lets +onlyGivenNames x4
    have h4 : Same [.routing, .tiles, .sched, .ports, .hearth, .quench, .counters, .out] x4 a3 := by
      unfold x4
      exact Same.step (State.takeArrival_same ..) rfl (Same.refl _ _)
    clear_value x4
    extract_lets +onlyGivenNames x6
    clear_value x6
    extract_lets +onlyGivenNames x7
    clear_value x7
    extract_lets +onlyGivenNames x8
    clear_value x8
    extract_lets +onlyGivenNames x9
    clear_value x9
    extract_lets +onlyGivenNames x10
    clear_value x10
    refine SameNext.ite ?_ ?_
    · exact SameNext.next (Same.step (State.serve_same ..) rfl (Same.setHearth rfl (by assumption)))
    · refine SameNext.ite ?_ ?_
      · exact SameNext.next (Same.step (State.serve_same ..) rfl (Same.setHearth rfl (by assumption)))
      · exact SameNext.next (Same.step (State.answer_same ..) rfl (Same.setHearth rfl (by assumption)))

theorem execMctpRequest_same (a1 : BitVec 8) (a2 : ReqHdr) (a3 : State) :
    SameNext [.routing, .tiles, .sched, .ports, .hearth, .quench, .counters, .out] (execMctpRequest a1 a2 a3) a3 := by
  unfold execMctpRequest
  split
  · exact SameNext.next (Same.step (State.emit_same ..) rfl (Same.setHearth rfl (Same.refl _ _)))
  · exact SameNext.next (Same.step (State.serve_same ..) rfl (Same.setHearth rfl (Same.refl _ _)))

theorem execEvHeadWrite_same (a1 : Fn) (a2 : BitVec 32) (a3 : State) :
    SameNext [.ports, .hearth, .counters, .out] (execEvHeadWrite a1 a2 a3) a3 := by
  unfold execEvHeadWrite
  extract_lets +onlyGivenNames x4
  clear_value x4
  refine SameNext.ite ?_ ?_
  · exact SameNext.next (Same.refl _ _)
  · extract_lets +onlyGivenNames x5
    clear_value x5
    refine SameNext.ite ?_ ?_
    · extract_lets +onlyGivenNames x6
      clear_value x6
      exact SameNext.next (Same.step (State.signal_same ..) rfl (Same.step (State.modMbox_same ..) rfl (Same.refl _ _)))
    · exact SameNext.next (Same.step (State.modMbox_same ..) rfl (Same.refl _ _))

theorem execMboxRelease_same (a1 : Fn) (a2 : Nat) (a3 : Word) (a4 : Bool) (a5 : State) :
    SameNext [.hearth, .quench, .counters] (execMboxRelease a1 a2 a3 a4 a5) a5 := by
  unfold execMboxRelease
  extract_lets +onlyGivenNames x6
  clear_value x6
  refine SameNext.ite ?_ ?_
  · exact SameNext.next (Same.step (State.setSlot_same ..) rfl (Same.refl _ _))
  · exact SameNext.next (Same.step (State.badWrite_same ..) rfl (Same.refl _ _))

theorem State.freeSlots_same (a1 : State) (a2 : Fn) :
    Same [.hearth] (State.freeSlots a1 a2) a1 := by
  unfold State.freeSlots
  extract_lets +onlyGivenNames x3
  clear_value x3
  extract_lets +onlyGivenNames x4
  have h4 : Same [.hearth] x4 a1 := by
    unfold x4
    exact Same.step (State.modMbox_same ..) rfl (Same.refl _ _)
  clear_value x4
  exact Same.setHearth rfl (by assumption)

theorem execMboxWithdraw_same (a1 : Fn) (a2 : Nat) (a3 : Word) (a4 : Bool) (a5 : State) :
    SameNext [.routing, .tiles, .sched, .ports, .hearth, .quench, .counters, .out] (execMboxWithdraw a1 a2 a3 a4 a5) a5 := by
  unfold execMboxWithdraw
  extract_lets +onlyGivenNames x6
  clear_value x6
  refine SameNext.ite ?_ ?_
  · extract_lets +onlyGivenNames x7
    have h7 : Same [.routing, .tiles, .sched, .ports, .hearth, .quench, .counters, .out] x7 a5 := by
      unfold x7
      exact Same.step (State.setSlot_same ..) rfl (Same.refl _ _)
    clear_value x7
    exact SameNext.next (Same.step (State.serve_same ..) rfl (Same.setHearth rfl (by assumption)))
  · exact SameNext.next (Same.step (State.badWrite_same ..) rfl (Same.refl _ _))

end Sys2Proof.Machine
end

