-- ==== Sys2Proof/Laws/State.lean ====
section
/-! SUPPORT. One lemma per field per update: what each named operation on State leaves of every other part, and what reading back
an updated part gives. -/

namespace Sys2Proof.Machine

open Sys2Proof

/-! ### Tables -/

@[simp] theorem tget_tset_same {α : Type} (t : Table α) (k : Nat) (v : α) : tget (tset t k v) k = some v := by
  induction t with
  | nil => simp [tset, tget]
  | cons e t ih =>
    unfold tset
    split
    · simp [tget]
    · split
      · simp [tget]
      · rename_i h1 h2
        rw [tget, if_neg (fun h => h2 h.symm)]
        exact ih

theorem tget_tset_ne {α : Type} (t : Table α) (k j : Nat) (v : α) (h : j ≠ k) : tget (tset t k v) j = tget t j := by
  induction t with
  | nil => simp [tset, tget, Ne.symm h]
  | cons e t ih =>
    unfold tset
    split
    · rw [tget, if_neg (fun hk => h hk.symm)]
    · split
      · rename_i h1 h2
        rw [tget, if_neg (fun hk => h hk.symm), tget, if_neg (fun hk => h (by rw [h2, hk]))]
      · simp only [tget, ih]

@[simp] theorem tgetD_tset_same {α : Type} (t : Table α) (k : Nat) (v d : α) : tgetD (tset t k v) k d = v := by
  simp [tgetD]

theorem tgetD_tset_ne {α : Type} (t : Table α) (k j : Nat) (v d : α) (h : j ≠ k) : tgetD (tset t k v) j d = tgetD t j d := by
  simp [tgetD, tget_tset_ne t k j v h]

@[simp] theorem tgetD_tmod_same {α : Type} (t : Table α) (k : Nat) (d : α) (f : α → α) : tgetD (tmod t k d f) k d = f (tgetD t k d) := by
  simp [tmod]

theorem tgetD_tmod_ne {α : Type} (t : Table α) (k j : Nat) (d : α) (f : α → α) (h : j ≠ k) : tgetD (tmod t k d f) j d = tgetD t j d := by
  simp [tmod, tgetD_tset_ne t k j _ d h]

theorem tget_tdel_same {α : Type} (t : Table α) (k : Nat) : tget (tdel t k) k = none := by
  induction t with
  | nil => rfl
  | cons e t ih =>
    unfold tdel
    split
    · exact ih
    · rename_i h
      rw [tget, if_neg h]
      exact ih

theorem tget_tmap {α β : Type} (t : Table α) (f : Nat → α → β) (k : Nat) : tget (tmap t f) k = (tget t k).map (f k) := by
  induction t with
  | nil => rfl
  | cons e t ih =>
    show tget ((e.1, f e.1 e.2) :: tmap t f) k = _
    unfold tget
    split
    · rename_i h
      rw [← h]
      rfl
    · exact ih

/-! ### Reading back -/

@[simp] theorem tile_modTile (s : State) (p : Nat) (f : Tile → Tile) : (s.modTile p f).tile p = f (s.tile p) := by
  simp [State.tile, State.modTile]
@[simp] theorem port_modPort (s : State) (p : Nat) (f : HostPort → HostPort) : (s.modPort p f).port p = f (s.port p) := by
  simp [State.port, State.modPort]
@[simp] theorem inst_modInst (s : State) (i : Nat) (f : Inst → Inst) : (s.modInst i f).inst i = f (s.inst i) := by
  simp [State.inst, State.modInst]
@[simp] theorem mbox_modMbox (s : State) (f : Fn) (g : Mbox → Mbox) : (s.modMbox f g).mbox f = g (s.mbox f) := by
  simp [State.mbox, State.modMbox]
@[simp] theorem tally_modTally (s : State) (t : Nat) (f : Tally → Tally) : (s.modTally t f).tally t = f (s.tally t) := by
  simp [State.tally, State.modTally]
@[simp] theorem cell_modCell (s : State) (n : Nat) (f : Cell → Cell) : (s.modCell n f).cell n = f (s.cell n) := by
  simp [State.cell, State.modCell]
@[simp] theorem chan_modChan (s : State) (n : Nat) (f : Chan → Chan) : (s.modChan n f).chan n = f (s.chan n) := by
  simp [State.chan, State.modChan]
@[simp] theorem vise_modVise (s : State) (n : Nat) (f : Vise → Vise) : (s.modVise n f).vise n = f (s.vise n) := by
  simp [State.vise, State.modVise]
theorem wq_modWq (s : State) (q : Nat) (f : Wq → Wq) : (s.modWq q f).wq q = (s.wq q).map f := by
  unfold State.modWq State.wq
  cases h : tget s.wqs q with
  | none => simp [h]
  | some w => simp
theorem cq_modCq (s : State) (r : Nat) (f : Cq → Cq) : (s.modCq r f).cq r = (s.cq r).map f := by
  unfold State.modCq State.cq
  cases h : tget s.cqs r with
  | none => simp [h]
  | some c => simp

/-! ### What each operation leaves -/

@[simp] theorem routing_advance (a1 : State) (a2 : Ticks) : (State.advance a1 a2).routing = a1.routing :=
  (State.advance_same ..).parts .routing rfl
@[simp] theorem tiles_advance (a1 : State) (a2 : Ticks) : (State.advance a1 a2).tiles = a1.tiles :=
  (State.advance_same ..).parts .tiles rfl
@[simp] theorem sched_advance (a1 : State) (a2 : Ticks) : (State.advance a1 a2).sched = a1.sched :=
  (State.advance_same ..).parts .sched rfl
@[simp] theorem ports_advance (a1 : State) (a2 : Ticks) : (State.advance a1 a2).ports = a1.ports :=
  (State.advance_same ..).parts .ports rfl
@[simp] theorem wqs_advance (a1 : State) (a2 : Ticks) : (State.advance a1 a2).wqs = a1.wqs :=
  (State.advance_same ..).parts .wqs rfl
@[simp] theorem cqs_advance (a1 : State) (a2 : Ticks) : (State.advance a1 a2).cqs = a1.cqs :=
  (State.advance_same ..).parts .cqs rfl
@[simp] theorem remote_advance (a1 : State) (a2 : Ticks) : (State.advance a1 a2).remote = a1.remote :=
  (State.advance_same ..).parts .remote rfl
@[simp] theorem matching_advance (a1 : State) (a2 : Ticks) : (State.advance a1 a2).matching = a1.matching :=
  (State.advance_same ..).parts .matching rfl
@[simp] theorem coll_advance (a1 : State) (a2 : Ticks) : (State.advance a1 a2).coll = a1.coll :=
  (State.advance_same ..).parts .coll rfl
@[simp] theorem striker_advance (a1 : State) (a2 : Ticks) : (State.advance a1 a2).striker = a1.striker :=
  (State.advance_same ..).parts .striker rfl
@[simp] theorem trans_advance (a1 : State) (a2 : Ticks) : (State.advance a1 a2).trans = a1.trans :=
  (State.advance_same ..).parts .trans rfl
@[simp] theorem insts_advance (a1 : State) (a2 : Ticks) : (State.advance a1 a2).insts = a1.insts :=
  (State.advance_same ..).parts .insts rfl
@[simp] theorem draw_advance (a1 : State) (a2 : Ticks) : (State.advance a1 a2).draw = a1.draw :=
  (State.advance_same ..).parts .draw rfl
@[simp] theorem vises_advance (a1 : State) (a2 : Ticks) : (State.advance a1 a2).vises = a1.vises :=
  (State.advance_same ..).parts .vises rfl
@[simp] theorem hearth_advance (a1 : State) (a2 : Ticks) : (State.advance a1 a2).hearth = a1.hearth :=
  (State.advance_same ..).parts .hearth rfl
@[simp] theorem quench_advance (a1 : State) (a2 : Ticks) : (State.advance a1 a2).quench = a1.quench :=
  (State.advance_same ..).parts .quench rfl
@[simp] theorem counters_advance (a1 : State) (a2 : Ticks) : (State.advance a1 a2).counters = a1.counters :=
  (State.advance_same ..).parts .counters rfl
@[simp] theorem power_advance (a1 : State) (a2 : Ticks) : (State.advance a1 a2).power = a1.power :=
  (State.advance_same ..).parts .power rfl
@[simp] theorem segments_advance (a1 : State) (a2 : Ticks) : (State.advance a1 a2).segments = a1.segments :=
  (State.advance_same ..).parts .segments rfl
@[simp] theorem mem_advance (a1 : State) (a2 : Ticks) : (State.advance a1 a2).mem = a1.mem :=
  (State.advance_same ..).parts .mem rfl
@[simp] theorem poison_advance (a1 : State) (a2 : Ticks) : (State.advance a1 a2).poison = a1.poison :=
  (State.advance_same ..).parts .poison rfl
@[simp] theorem free_advance (a1 : State) (a2 : Ticks) : (State.advance a1 a2).free = a1.free :=
  (State.advance_same ..).parts .free rfl
@[simp] theorem out_advance (a1 : State) (a2 : Ticks) : (State.advance a1 a2).out = a1.out :=
  (State.advance_same ..).parts .out rfl
@[simp] theorem pending_advance (a1 : State) (a2 : Ticks) : (State.advance a1 a2).pending = a1.pending :=
  (State.advance_same ..).parts .pending rfl
@[simp] theorem routing_tick (a1 : State) : (State.tick a1).routing = a1.routing :=
  (State.tick_same ..).parts .routing rfl
@[simp] theorem tiles_tick (a1 : State) : (State.tick a1).tiles = a1.tiles :=
  (State.tick_same ..).parts .tiles rfl
@[simp] theorem sched_tick (a1 : State) : (State.tick a1).sched = a1.sched :=
  (State.tick_same ..).parts .sched rfl
@[simp] theorem ports_tick (a1 : State) : (State.tick a1).ports = a1.ports :=
  (State.tick_same ..).parts .ports rfl
@[simp] theorem wqs_tick (a1 : State) : (State.tick a1).wqs = a1.wqs :=
  (State.tick_same ..).parts .wqs rfl
@[simp] theorem cqs_tick (a1 : State) : (State.tick a1).cqs = a1.cqs :=
  (State.tick_same ..).parts .cqs rfl
@[simp] theorem remote_tick (a1 : State) : (State.tick a1).remote = a1.remote :=
  (State.tick_same ..).parts .remote rfl
@[simp] theorem matching_tick (a1 : State) : (State.tick a1).matching = a1.matching :=
  (State.tick_same ..).parts .matching rfl
@[simp] theorem coll_tick (a1 : State) : (State.tick a1).coll = a1.coll :=
  (State.tick_same ..).parts .coll rfl
@[simp] theorem striker_tick (a1 : State) : (State.tick a1).striker = a1.striker :=
  (State.tick_same ..).parts .striker rfl
@[simp] theorem trans_tick (a1 : State) : (State.tick a1).trans = a1.trans :=
  (State.tick_same ..).parts .trans rfl
@[simp] theorem insts_tick (a1 : State) : (State.tick a1).insts = a1.insts :=
  (State.tick_same ..).parts .insts rfl
@[simp] theorem draw_tick (a1 : State) : (State.tick a1).draw = a1.draw :=
  (State.tick_same ..).parts .draw rfl
@[simp] theorem vises_tick (a1 : State) : (State.tick a1).vises = a1.vises :=
  (State.tick_same ..).parts .vises rfl
@[simp] theorem hearth_tick (a1 : State) : (State.tick a1).hearth = a1.hearth :=
  (State.tick_same ..).parts .hearth rfl
@[simp] theorem quench_tick (a1 : State) : (State.tick a1).quench = a1.quench :=
  (State.tick_same ..).parts .quench rfl
@[simp] theorem counters_tick (a1 : State) : (State.tick a1).counters = a1.counters :=
  (State.tick_same ..).parts .counters rfl
@[simp] theorem power_tick (a1 : State) : (State.tick a1).power = a1.power :=
  (State.tick_same ..).parts .power rfl
@[simp] theorem segments_tick (a1 : State) : (State.tick a1).segments = a1.segments :=
  (State.tick_same ..).parts .segments rfl
@[simp] theorem mem_tick (a1 : State) : (State.tick a1).mem = a1.mem :=
  (State.tick_same ..).parts .mem rfl
@[simp] theorem poison_tick (a1 : State) : (State.tick a1).poison = a1.poison :=
  (State.tick_same ..).parts .poison rfl
@[simp] theorem free_tick (a1 : State) : (State.tick a1).free = a1.free :=
  (State.tick_same ..).parts .free rfl
@[simp] theorem out_tick (a1 : State) : (State.tick a1).out = a1.out :=
  (State.tick_same ..).parts .out rfl
@[simp] theorem pending_tick (a1 : State) : (State.tick a1).pending = a1.pending :=
  (State.tick_same ..).parts .pending rfl
@[simp] theorem routing_count (a1 : State) (a2 : Nat) (a3 : Nat) (a4 : Nat) (a5 : Nat) : (State.count a1 a2 a3 a4 a5).routing = a1.routing :=
  (State.count_same ..).parts .routing rfl
@[simp] theorem tiles_count (a1 : State) (a2 : Nat) (a3 : Nat) (a4 : Nat) (a5 : Nat) : (State.count a1 a2 a3 a4 a5).tiles = a1.tiles :=
  (State.count_same ..).parts .tiles rfl
@[simp] theorem sched_count (a1 : State) (a2 : Nat) (a3 : Nat) (a4 : Nat) (a5 : Nat) : (State.count a1 a2 a3 a4 a5).sched = a1.sched :=
  (State.count_same ..).parts .sched rfl
@[simp] theorem time_count (a1 : State) (a2 : Nat) (a3 : Nat) (a4 : Nat) (a5 : Nat) : (State.count a1 a2 a3 a4 a5).time = a1.time :=
  (State.count_same ..).parts .time rfl
@[simp] theorem ports_count (a1 : State) (a2 : Nat) (a3 : Nat) (a4 : Nat) (a5 : Nat) : (State.count a1 a2 a3 a4 a5).ports = a1.ports :=
  (State.count_same ..).parts .ports rfl
@[simp] theorem wqs_count (a1 : State) (a2 : Nat) (a3 : Nat) (a4 : Nat) (a5 : Nat) : (State.count a1 a2 a3 a4 a5).wqs = a1.wqs :=
  (State.count_same ..).parts .wqs rfl
@[simp] theorem cqs_count (a1 : State) (a2 : Nat) (a3 : Nat) (a4 : Nat) (a5 : Nat) : (State.count a1 a2 a3 a4 a5).cqs = a1.cqs :=
  (State.count_same ..).parts .cqs rfl
@[simp] theorem remote_count (a1 : State) (a2 : Nat) (a3 : Nat) (a4 : Nat) (a5 : Nat) : (State.count a1 a2 a3 a4 a5).remote = a1.remote :=
  (State.count_same ..).parts .remote rfl
@[simp] theorem matching_count (a1 : State) (a2 : Nat) (a3 : Nat) (a4 : Nat) (a5 : Nat) : (State.count a1 a2 a3 a4 a5).matching = a1.matching :=
  (State.count_same ..).parts .matching rfl
@[simp] theorem coll_count (a1 : State) (a2 : Nat) (a3 : Nat) (a4 : Nat) (a5 : Nat) : (State.count a1 a2 a3 a4 a5).coll = a1.coll :=
  (State.count_same ..).parts .coll rfl
@[simp] theorem striker_count (a1 : State) (a2 : Nat) (a3 : Nat) (a4 : Nat) (a5 : Nat) : (State.count a1 a2 a3 a4 a5).striker = a1.striker :=
  (State.count_same ..).parts .striker rfl
@[simp] theorem trans_count (a1 : State) (a2 : Nat) (a3 : Nat) (a4 : Nat) (a5 : Nat) : (State.count a1 a2 a3 a4 a5).trans = a1.trans :=
  (State.count_same ..).parts .trans rfl
@[simp] theorem insts_count (a1 : State) (a2 : Nat) (a3 : Nat) (a4 : Nat) (a5 : Nat) : (State.count a1 a2 a3 a4 a5).insts = a1.insts :=
  (State.count_same ..).parts .insts rfl
@[simp] theorem draw_count (a1 : State) (a2 : Nat) (a3 : Nat) (a4 : Nat) (a5 : Nat) : (State.count a1 a2 a3 a4 a5).draw = a1.draw :=
  (State.count_same ..).parts .draw rfl
@[simp] theorem vises_count (a1 : State) (a2 : Nat) (a3 : Nat) (a4 : Nat) (a5 : Nat) : (State.count a1 a2 a3 a4 a5).vises = a1.vises :=
  (State.count_same ..).parts .vises rfl
@[simp] theorem hearth_count (a1 : State) (a2 : Nat) (a3 : Nat) (a4 : Nat) (a5 : Nat) : (State.count a1 a2 a3 a4 a5).hearth = a1.hearth :=
  (State.count_same ..).parts .hearth rfl
@[simp] theorem quench_count (a1 : State) (a2 : Nat) (a3 : Nat) (a4 : Nat) (a5 : Nat) : (State.count a1 a2 a3 a4 a5).quench = a1.quench :=
  (State.count_same ..).parts .quench rfl
@[simp] theorem power_count (a1 : State) (a2 : Nat) (a3 : Nat) (a4 : Nat) (a5 : Nat) : (State.count a1 a2 a3 a4 a5).power = a1.power :=
  (State.count_same ..).parts .power rfl
@[simp] theorem segments_count (a1 : State) (a2 : Nat) (a3 : Nat) (a4 : Nat) (a5 : Nat) : (State.count a1 a2 a3 a4 a5).segments = a1.segments :=
  (State.count_same ..).parts .segments rfl
@[simp] theorem mem_count (a1 : State) (a2 : Nat) (a3 : Nat) (a4 : Nat) (a5 : Nat) : (State.count a1 a2 a3 a4 a5).mem = a1.mem :=
  (State.count_same ..).parts .mem rfl
@[simp] theorem poison_count (a1 : State) (a2 : Nat) (a3 : Nat) (a4 : Nat) (a5 : Nat) : (State.count a1 a2 a3 a4 a5).poison = a1.poison :=
  (State.count_same ..).parts .poison rfl
@[simp] theorem free_count (a1 : State) (a2 : Nat) (a3 : Nat) (a4 : Nat) (a5 : Nat) : (State.count a1 a2 a3 a4 a5).free = a1.free :=
  (State.count_same ..).parts .free rfl
@[simp] theorem out_count (a1 : State) (a2 : Nat) (a3 : Nat) (a4 : Nat) (a5 : Nat) : (State.count a1 a2 a3 a4 a5).out = a1.out :=
  (State.count_same ..).parts .out rfl
@[simp] theorem pending_count (a1 : State) (a2 : Nat) (a3 : Nat) (a4 : Nat) (a5 : Nat) : (State.count a1 a2 a3 a4 a5).pending = a1.pending :=
  (State.count_same ..).parts .pending rfl
@[simp] theorem routing_emit (a1 : State) (a2 : Output) : (State.emit a1 a2).routing = a1.routing :=
  (State.emit_same ..).parts .routing rfl
@[simp] theorem tiles_emit (a1 : State) (a2 : Output) : (State.emit a1 a2).tiles = a1.tiles :=
  (State.emit_same ..).parts .tiles rfl
@[simp] theorem sched_emit (a1 : State) (a2 : Output) : (State.emit a1 a2).sched = a1.sched :=
  (State.emit_same ..).parts .sched rfl
@[simp] theorem time_emit (a1 : State) (a2 : Output) : (State.emit a1 a2).time = a1.time :=
  (State.emit_same ..).parts .time rfl
@[simp] theorem ports_emit (a1 : State) (a2 : Output) : (State.emit a1 a2).ports = a1.ports :=
  (State.emit_same ..).parts .ports rfl
@[simp] theorem wqs_emit (a1 : State) (a2 : Output) : (State.emit a1 a2).wqs = a1.wqs :=
  (State.emit_same ..).parts .wqs rfl
@[simp] theorem cqs_emit (a1 : State) (a2 : Output) : (State.emit a1 a2).cqs = a1.cqs :=
  (State.emit_same ..).parts .cqs rfl
@[simp] theorem remote_emit (a1 : State) (a2 : Output) : (State.emit a1 a2).remote = a1.remote :=
  (State.emit_same ..).parts .remote rfl
@[simp] theorem matching_emit (a1 : State) (a2 : Output) : (State.emit a1 a2).matching = a1.matching :=
  (State.emit_same ..).parts .matching rfl
@[simp] theorem coll_emit (a1 : State) (a2 : Output) : (State.emit a1 a2).coll = a1.coll :=
  (State.emit_same ..).parts .coll rfl
@[simp] theorem striker_emit (a1 : State) (a2 : Output) : (State.emit a1 a2).striker = a1.striker :=
  (State.emit_same ..).parts .striker rfl
@[simp] theorem trans_emit (a1 : State) (a2 : Output) : (State.emit a1 a2).trans = a1.trans :=
  (State.emit_same ..).parts .trans rfl
@[simp] theorem insts_emit (a1 : State) (a2 : Output) : (State.emit a1 a2).insts = a1.insts :=
  (State.emit_same ..).parts .insts rfl
@[simp] theorem draw_emit (a1 : State) (a2 : Output) : (State.emit a1 a2).draw = a1.draw :=
  (State.emit_same ..).parts .draw rfl
@[simp] theorem vises_emit (a1 : State) (a2 : Output) : (State.emit a1 a2).vises = a1.vises :=
  (State.emit_same ..).parts .vises rfl
@[simp] theorem hearth_emit (a1 : State) (a2 : Output) : (State.emit a1 a2).hearth = a1.hearth :=
  (State.emit_same ..).parts .hearth rfl
@[simp] theorem quench_emit (a1 : State) (a2 : Output) : (State.emit a1 a2).quench = a1.quench :=
  (State.emit_same ..).parts .quench rfl
@[simp] theorem power_emit (a1 : State) (a2 : Output) : (State.emit a1 a2).power = a1.power :=
  (State.emit_same ..).parts .power rfl
@[simp] theorem segments_emit (a1 : State) (a2 : Output) : (State.emit a1 a2).segments = a1.segments :=
  (State.emit_same ..).parts .segments rfl
@[simp] theorem mem_emit (a1 : State) (a2 : Output) : (State.emit a1 a2).mem = a1.mem :=
  (State.emit_same ..).parts .mem rfl
@[simp] theorem poison_emit (a1 : State) (a2 : Output) : (State.emit a1 a2).poison = a1.poison :=
  (State.emit_same ..).parts .poison rfl
@[simp] theorem free_emit (a1 : State) (a2 : Output) : (State.emit a1 a2).free = a1.free :=
  (State.emit_same ..).parts .free rfl
@[simp] theorem pending_emit (a1 : State) (a2 : Output) : (State.emit a1 a2).pending = a1.pending :=
  (State.emit_same ..).parts .pending rfl
@[simp] theorem routing_raise (a1 : State) (a2 : QEvent) : (State.raise a1 a2).routing = a1.routing :=
  (State.raise_same ..).parts .routing rfl
@[simp] theorem tiles_raise (a1 : State) (a2 : QEvent) : (State.raise a1 a2).tiles = a1.tiles :=
  (State.raise_same ..).parts .tiles rfl
@[simp] theorem sched_raise (a1 : State) (a2 : QEvent) : (State.raise a1 a2).sched = a1.sched :=
  (State.raise_same ..).parts .sched rfl
@[simp] theorem time_raise (a1 : State) (a2 : QEvent) : (State.raise a1 a2).time = a1.time :=
  (State.raise_same ..).parts .time rfl
@[simp] theorem ports_raise (a1 : State) (a2 : QEvent) : (State.raise a1 a2).ports = a1.ports :=
  (State.raise_same ..).parts .ports rfl
@[simp] theorem wqs_raise (a1 : State) (a2 : QEvent) : (State.raise a1 a2).wqs = a1.wqs :=
  (State.raise_same ..).parts .wqs rfl
@[simp] theorem cqs_raise (a1 : State) (a2 : QEvent) : (State.raise a1 a2).cqs = a1.cqs :=
  (State.raise_same ..).parts .cqs rfl
@[simp] theorem remote_raise (a1 : State) (a2 : QEvent) : (State.raise a1 a2).remote = a1.remote :=
  (State.raise_same ..).parts .remote rfl
@[simp] theorem matching_raise (a1 : State) (a2 : QEvent) : (State.raise a1 a2).matching = a1.matching :=
  (State.raise_same ..).parts .matching rfl
@[simp] theorem coll_raise (a1 : State) (a2 : QEvent) : (State.raise a1 a2).coll = a1.coll :=
  (State.raise_same ..).parts .coll rfl
@[simp] theorem striker_raise (a1 : State) (a2 : QEvent) : (State.raise a1 a2).striker = a1.striker :=
  (State.raise_same ..).parts .striker rfl
@[simp] theorem trans_raise (a1 : State) (a2 : QEvent) : (State.raise a1 a2).trans = a1.trans :=
  (State.raise_same ..).parts .trans rfl
@[simp] theorem insts_raise (a1 : State) (a2 : QEvent) : (State.raise a1 a2).insts = a1.insts :=
  (State.raise_same ..).parts .insts rfl
@[simp] theorem draw_raise (a1 : State) (a2 : QEvent) : (State.raise a1 a2).draw = a1.draw :=
  (State.raise_same ..).parts .draw rfl
@[simp] theorem vises_raise (a1 : State) (a2 : QEvent) : (State.raise a1 a2).vises = a1.vises :=
  (State.raise_same ..).parts .vises rfl
@[simp] theorem hearth_raise (a1 : State) (a2 : QEvent) : (State.raise a1 a2).hearth = a1.hearth :=
  (State.raise_same ..).parts .hearth rfl
@[simp] theorem power_raise (a1 : State) (a2 : QEvent) : (State.raise a1 a2).power = a1.power :=
  (State.raise_same ..).parts .power rfl
@[simp] theorem segments_raise (a1 : State) (a2 : QEvent) : (State.raise a1 a2).segments = a1.segments :=
  (State.raise_same ..).parts .segments rfl
@[simp] theorem mem_raise (a1 : State) (a2 : QEvent) : (State.raise a1 a2).mem = a1.mem :=
  (State.raise_same ..).parts .mem rfl
@[simp] theorem poison_raise (a1 : State) (a2 : QEvent) : (State.raise a1 a2).poison = a1.poison :=
  (State.raise_same ..).parts .poison rfl
@[simp] theorem free_raise (a1 : State) (a2 : QEvent) : (State.raise a1 a2).free = a1.free :=
  (State.raise_same ..).parts .free rfl
@[simp] theorem out_raise (a1 : State) (a2 : QEvent) : (State.raise a1 a2).out = a1.out :=
  (State.raise_same ..).parts .out rfl
@[simp] theorem pending_raise (a1 : State) (a2 : QEvent) : (State.raise a1 a2).pending = a1.pending :=
  (State.raise_same ..).parts .pending rfl
@[simp] theorem routing_raiseAt (a1 : State) (a2 : Nat) (a3 : Nat) : (State.raiseAt a1 a2 a3).routing = a1.routing :=
  (State.raiseAt_same ..).parts .routing rfl
@[simp] theorem tiles_raiseAt (a1 : State) (a2 : Nat) (a3 : Nat) : (State.raiseAt a1 a2 a3).tiles = a1.tiles :=
  (State.raiseAt_same ..).parts .tiles rfl
@[simp] theorem sched_raiseAt (a1 : State) (a2 : Nat) (a3 : Nat) : (State.raiseAt a1 a2 a3).sched = a1.sched :=
  (State.raiseAt_same ..).parts .sched rfl
@[simp] theorem time_raiseAt (a1 : State) (a2 : Nat) (a3 : Nat) : (State.raiseAt a1 a2 a3).time = a1.time :=
  (State.raiseAt_same ..).parts .time rfl
@[simp] theorem ports_raiseAt (a1 : State) (a2 : Nat) (a3 : Nat) : (State.raiseAt a1 a2 a3).ports = a1.ports :=
  (State.raiseAt_same ..).parts .ports rfl
@[simp] theorem wqs_raiseAt (a1 : State) (a2 : Nat) (a3 : Nat) : (State.raiseAt a1 a2 a3).wqs = a1.wqs :=
  (State.raiseAt_same ..).parts .wqs rfl
@[simp] theorem cqs_raiseAt (a1 : State) (a2 : Nat) (a3 : Nat) : (State.raiseAt a1 a2 a3).cqs = a1.cqs :=
  (State.raiseAt_same ..).parts .cqs rfl
@[simp] theorem remote_raiseAt (a1 : State) (a2 : Nat) (a3 : Nat) : (State.raiseAt a1 a2 a3).remote = a1.remote :=
  (State.raiseAt_same ..).parts .remote rfl
@[simp] theorem matching_raiseAt (a1 : State) (a2 : Nat) (a3 : Nat) : (State.raiseAt a1 a2 a3).matching = a1.matching :=
  (State.raiseAt_same ..).parts .matching rfl
@[simp] theorem coll_raiseAt (a1 : State) (a2 : Nat) (a3 : Nat) : (State.raiseAt a1 a2 a3).coll = a1.coll :=
  (State.raiseAt_same ..).parts .coll rfl
@[simp] theorem striker_raiseAt (a1 : State) (a2 : Nat) (a3 : Nat) : (State.raiseAt a1 a2 a3).striker = a1.striker :=
  (State.raiseAt_same ..).parts .striker rfl
@[simp] theorem trans_raiseAt (a1 : State) (a2 : Nat) (a3 : Nat) : (State.raiseAt a1 a2 a3).trans = a1.trans :=
  (State.raiseAt_same ..).parts .trans rfl
@[simp] theorem insts_raiseAt (a1 : State) (a2 : Nat) (a3 : Nat) : (State.raiseAt a1 a2 a3).insts = a1.insts :=
  (State.raiseAt_same ..).parts .insts rfl
@[simp] theorem draw_raiseAt (a1 : State) (a2 : Nat) (a3 : Nat) : (State.raiseAt a1 a2 a3).draw = a1.draw :=
  (State.raiseAt_same ..).parts .draw rfl
@[simp] theorem vises_raiseAt (a1 : State) (a2 : Nat) (a3 : Nat) : (State.raiseAt a1 a2 a3).vises = a1.vises :=
  (State.raiseAt_same ..).parts .vises rfl
@[simp] theorem hearth_raiseAt (a1 : State) (a2 : Nat) (a3 : Nat) : (State.raiseAt a1 a2 a3).hearth = a1.hearth :=
  (State.raiseAt_same ..).parts .hearth rfl
@[simp] theorem power_raiseAt (a1 : State) (a2 : Nat) (a3 : Nat) : (State.raiseAt a1 a2 a3).power = a1.power :=
  (State.raiseAt_same ..).parts .power rfl
@[simp] theorem segments_raiseAt (a1 : State) (a2 : Nat) (a3 : Nat) : (State.raiseAt a1 a2 a3).segments = a1.segments :=
  (State.raiseAt_same ..).parts .segments rfl
@[simp] theorem mem_raiseAt (a1 : State) (a2 : Nat) (a3 : Nat) : (State.raiseAt a1 a2 a3).mem = a1.mem :=
  (State.raiseAt_same ..).parts .mem rfl
@[simp] theorem poison_raiseAt (a1 : State) (a2 : Nat) (a3 : Nat) : (State.raiseAt a1 a2 a3).poison = a1.poison :=
  (State.raiseAt_same ..).parts .poison rfl
@[simp] theorem free_raiseAt (a1 : State) (a2 : Nat) (a3 : Nat) : (State.raiseAt a1 a2 a3).free = a1.free :=
  (State.raiseAt_same ..).parts .free rfl
@[simp] theorem out_raiseAt (a1 : State) (a2 : Nat) (a3 : Nat) : (State.raiseAt a1 a2 a3).out = a1.out :=
  (State.raiseAt_same ..).parts .out rfl
@[simp] theorem pending_raiseAt (a1 : State) (a2 : Nat) (a3 : Nat) : (State.raiseAt a1 a2 a3).pending = a1.pending :=
  (State.raiseAt_same ..).parts .pending rfl
@[simp] theorem routing_storeMem (a1 : State) (a2 : Nat) (a3 : List Byte) (a4 : Bool) : (State.storeMem a1 a2 a3 a4).routing = a1.routing :=
  (State.storeMem_same ..).parts .routing rfl
@[simp] theorem tiles_storeMem (a1 : State) (a2 : Nat) (a3 : List Byte) (a4 : Bool) : (State.storeMem a1 a2 a3 a4).tiles = a1.tiles :=
  (State.storeMem_same ..).parts .tiles rfl
@[simp] theorem sched_storeMem (a1 : State) (a2 : Nat) (a3 : List Byte) (a4 : Bool) : (State.storeMem a1 a2 a3 a4).sched = a1.sched :=
  (State.storeMem_same ..).parts .sched rfl
@[simp] theorem time_storeMem (a1 : State) (a2 : Nat) (a3 : List Byte) (a4 : Bool) : (State.storeMem a1 a2 a3 a4).time = a1.time :=
  (State.storeMem_same ..).parts .time rfl
@[simp] theorem ports_storeMem (a1 : State) (a2 : Nat) (a3 : List Byte) (a4 : Bool) : (State.storeMem a1 a2 a3 a4).ports = a1.ports :=
  (State.storeMem_same ..).parts .ports rfl
@[simp] theorem wqs_storeMem (a1 : State) (a2 : Nat) (a3 : List Byte) (a4 : Bool) : (State.storeMem a1 a2 a3 a4).wqs = a1.wqs :=
  (State.storeMem_same ..).parts .wqs rfl
@[simp] theorem cqs_storeMem (a1 : State) (a2 : Nat) (a3 : List Byte) (a4 : Bool) : (State.storeMem a1 a2 a3 a4).cqs = a1.cqs :=
  (State.storeMem_same ..).parts .cqs rfl
@[simp] theorem remote_storeMem (a1 : State) (a2 : Nat) (a3 : List Byte) (a4 : Bool) : (State.storeMem a1 a2 a3 a4).remote = a1.remote :=
  (State.storeMem_same ..).parts .remote rfl
@[simp] theorem matching_storeMem (a1 : State) (a2 : Nat) (a3 : List Byte) (a4 : Bool) : (State.storeMem a1 a2 a3 a4).matching = a1.matching :=
  (State.storeMem_same ..).parts .matching rfl
@[simp] theorem coll_storeMem (a1 : State) (a2 : Nat) (a3 : List Byte) (a4 : Bool) : (State.storeMem a1 a2 a3 a4).coll = a1.coll :=
  (State.storeMem_same ..).parts .coll rfl
@[simp] theorem striker_storeMem (a1 : State) (a2 : Nat) (a3 : List Byte) (a4 : Bool) : (State.storeMem a1 a2 a3 a4).striker = a1.striker :=
  (State.storeMem_same ..).parts .striker rfl
@[simp] theorem trans_storeMem (a1 : State) (a2 : Nat) (a3 : List Byte) (a4 : Bool) : (State.storeMem a1 a2 a3 a4).trans = a1.trans :=
  (State.storeMem_same ..).parts .trans rfl
@[simp] theorem insts_storeMem (a1 : State) (a2 : Nat) (a3 : List Byte) (a4 : Bool) : (State.storeMem a1 a2 a3 a4).insts = a1.insts :=
  (State.storeMem_same ..).parts .insts rfl
@[simp] theorem draw_storeMem (a1 : State) (a2 : Nat) (a3 : List Byte) (a4 : Bool) : (State.storeMem a1 a2 a3 a4).draw = a1.draw :=
  (State.storeMem_same ..).parts .draw rfl
@[simp] theorem vises_storeMem (a1 : State) (a2 : Nat) (a3 : List Byte) (a4 : Bool) : (State.storeMem a1 a2 a3 a4).vises = a1.vises :=
  (State.storeMem_same ..).parts .vises rfl
@[simp] theorem hearth_storeMem (a1 : State) (a2 : Nat) (a3 : List Byte) (a4 : Bool) : (State.storeMem a1 a2 a3 a4).hearth = a1.hearth :=
  (State.storeMem_same ..).parts .hearth rfl
@[simp] theorem quench_storeMem (a1 : State) (a2 : Nat) (a3 : List Byte) (a4 : Bool) : (State.storeMem a1 a2 a3 a4).quench = a1.quench :=
  (State.storeMem_same ..).parts .quench rfl
@[simp] theorem counters_storeMem (a1 : State) (a2 : Nat) (a3 : List Byte) (a4 : Bool) : (State.storeMem a1 a2 a3 a4).counters = a1.counters :=
  (State.storeMem_same ..).parts .counters rfl
@[simp] theorem power_storeMem (a1 : State) (a2 : Nat) (a3 : List Byte) (a4 : Bool) : (State.storeMem a1 a2 a3 a4).power = a1.power :=
  (State.storeMem_same ..).parts .power rfl
@[simp] theorem segments_storeMem (a1 : State) (a2 : Nat) (a3 : List Byte) (a4 : Bool) : (State.storeMem a1 a2 a3 a4).segments = a1.segments :=
  (State.storeMem_same ..).parts .segments rfl
@[simp] theorem free_storeMem (a1 : State) (a2 : Nat) (a3 : List Byte) (a4 : Bool) : (State.storeMem a1 a2 a3 a4).free = a1.free :=
  (State.storeMem_same ..).parts .free rfl
@[simp] theorem out_storeMem (a1 : State) (a2 : Nat) (a3 : List Byte) (a4 : Bool) : (State.storeMem a1 a2 a3 a4).out = a1.out :=
  (State.storeMem_same ..).parts .out rfl
@[simp] theorem pending_storeMem (a1 : State) (a2 : Nat) (a3 : List Byte) (a4 : Bool) : (State.storeMem a1 a2 a3 a4).pending = a1.pending :=
  (State.storeMem_same ..).parts .pending rfl
@[simp] theorem routing_zeroMem (a1 : State) (a2 : Nat) (a3 : Nat) : (State.zeroMem a1 a2 a3).routing = a1.routing :=
  (State.zeroMem_same ..).parts .routing rfl
@[simp] theorem tiles_zeroMem (a1 : State) (a2 : Nat) (a3 : Nat) : (State.zeroMem a1 a2 a3).tiles = a1.tiles :=
  (State.zeroMem_same ..).parts .tiles rfl
@[simp] theorem sched_zeroMem (a1 : State) (a2 : Nat) (a3 : Nat) : (State.zeroMem a1 a2 a3).sched = a1.sched :=
  (State.zeroMem_same ..).parts .sched rfl
@[simp] theorem time_zeroMem (a1 : State) (a2 : Nat) (a3 : Nat) : (State.zeroMem a1 a2 a3).time = a1.time :=
  (State.zeroMem_same ..).parts .time rfl
@[simp] theorem ports_zeroMem (a1 : State) (a2 : Nat) (a3 : Nat) : (State.zeroMem a1 a2 a3).ports = a1.ports :=
  (State.zeroMem_same ..).parts .ports rfl
@[simp] theorem wqs_zeroMem (a1 : State) (a2 : Nat) (a3 : Nat) : (State.zeroMem a1 a2 a3).wqs = a1.wqs :=
  (State.zeroMem_same ..).parts .wqs rfl
@[simp] theorem cqs_zeroMem (a1 : State) (a2 : Nat) (a3 : Nat) : (State.zeroMem a1 a2 a3).cqs = a1.cqs :=
  (State.zeroMem_same ..).parts .cqs rfl
@[simp] theorem remote_zeroMem (a1 : State) (a2 : Nat) (a3 : Nat) : (State.zeroMem a1 a2 a3).remote = a1.remote :=
  (State.zeroMem_same ..).parts .remote rfl
@[simp] theorem matching_zeroMem (a1 : State) (a2 : Nat) (a3 : Nat) : (State.zeroMem a1 a2 a3).matching = a1.matching :=
  (State.zeroMem_same ..).parts .matching rfl
@[simp] theorem coll_zeroMem (a1 : State) (a2 : Nat) (a3 : Nat) : (State.zeroMem a1 a2 a3).coll = a1.coll :=
  (State.zeroMem_same ..).parts .coll rfl
@[simp] theorem striker_zeroMem (a1 : State) (a2 : Nat) (a3 : Nat) : (State.zeroMem a1 a2 a3).striker = a1.striker :=
  (State.zeroMem_same ..).parts .striker rfl
@[simp] theorem trans_zeroMem (a1 : State) (a2 : Nat) (a3 : Nat) : (State.zeroMem a1 a2 a3).trans = a1.trans :=
  (State.zeroMem_same ..).parts .trans rfl
@[simp] theorem insts_zeroMem (a1 : State) (a2 : Nat) (a3 : Nat) : (State.zeroMem a1 a2 a3).insts = a1.insts :=
  (State.zeroMem_same ..).parts .insts rfl
@[simp] theorem draw_zeroMem (a1 : State) (a2 : Nat) (a3 : Nat) : (State.zeroMem a1 a2 a3).draw = a1.draw :=
  (State.zeroMem_same ..).parts .draw rfl
@[simp] theorem vises_zeroMem (a1 : State) (a2 : Nat) (a3 : Nat) : (State.zeroMem a1 a2 a3).vises = a1.vises :=
  (State.zeroMem_same ..).parts .vises rfl
@[simp] theorem hearth_zeroMem (a1 : State) (a2 : Nat) (a3 : Nat) : (State.zeroMem a1 a2 a3).hearth = a1.hearth :=
  (State.zeroMem_same ..).parts .hearth rfl
@[simp] theorem quench_zeroMem (a1 : State) (a2 : Nat) (a3 : Nat) : (State.zeroMem a1 a2 a3).quench = a1.quench :=
  (State.zeroMem_same ..).parts .quench rfl
@[simp] theorem counters_zeroMem (a1 : State) (a2 : Nat) (a3 : Nat) : (State.zeroMem a1 a2 a3).counters = a1.counters :=
  (State.zeroMem_same ..).parts .counters rfl
@[simp] theorem power_zeroMem (a1 : State) (a2 : Nat) (a3 : Nat) : (State.zeroMem a1 a2 a3).power = a1.power :=
  (State.zeroMem_same ..).parts .power rfl
@[simp] theorem segments_zeroMem (a1 : State) (a2 : Nat) (a3 : Nat) : (State.zeroMem a1 a2 a3).segments = a1.segments :=
  (State.zeroMem_same ..).parts .segments rfl
@[simp] theorem poison_zeroMem (a1 : State) (a2 : Nat) (a3 : Nat) : (State.zeroMem a1 a2 a3).poison = a1.poison :=
  (State.zeroMem_same ..).parts .poison rfl
@[simp] theorem free_zeroMem (a1 : State) (a2 : Nat) (a3 : Nat) : (State.zeroMem a1 a2 a3).free = a1.free :=
  (State.zeroMem_same ..).parts .free rfl
@[simp] theorem out_zeroMem (a1 : State) (a2 : Nat) (a3 : Nat) : (State.zeroMem a1 a2 a3).out = a1.out :=
  (State.zeroMem_same ..).parts .out rfl
@[simp] theorem pending_zeroMem (a1 : State) (a2 : Nat) (a3 : Nat) : (State.zeroMem a1 a2 a3).pending = a1.pending :=
  (State.zeroMem_same ..).parts .pending rfl
@[simp] theorem routing_modTile (a1 : State) (a2 : Nat) (a3 : Tile → Tile) : (State.modTile a1 a2 a3).routing = a1.routing :=
  (State.modTile_same ..).parts .routing rfl
@[simp] theorem sched_modTile (a1 : State) (a2 : Nat) (a3 : Tile → Tile) : (State.modTile a1 a2 a3).sched = a1.sched :=
  (State.modTile_same ..).parts .sched rfl
@[simp] theorem time_modTile (a1 : State) (a2 : Nat) (a3 : Tile → Tile) : (State.modTile a1 a2 a3).time = a1.time :=
  (State.modTile_same ..).parts .time rfl
@[simp] theorem ports_modTile (a1 : State) (a2 : Nat) (a3 : Tile → Tile) : (State.modTile a1 a2 a3).ports = a1.ports :=
  (State.modTile_same ..).parts .ports rfl
@[simp] theorem wqs_modTile (a1 : State) (a2 : Nat) (a3 : Tile → Tile) : (State.modTile a1 a2 a3).wqs = a1.wqs :=
  (State.modTile_same ..).parts .wqs rfl
@[simp] theorem cqs_modTile (a1 : State) (a2 : Nat) (a3 : Tile → Tile) : (State.modTile a1 a2 a3).cqs = a1.cqs :=
  (State.modTile_same ..).parts .cqs rfl
@[simp] theorem remote_modTile (a1 : State) (a2 : Nat) (a3 : Tile → Tile) : (State.modTile a1 a2 a3).remote = a1.remote :=
  (State.modTile_same ..).parts .remote rfl
@[simp] theorem matching_modTile (a1 : State) (a2 : Nat) (a3 : Tile → Tile) : (State.modTile a1 a2 a3).matching = a1.matching :=
  (State.modTile_same ..).parts .matching rfl
@[simp] theorem coll_modTile (a1 : State) (a2 : Nat) (a3 : Tile → Tile) : (State.modTile a1 a2 a3).coll = a1.coll :=
  (State.modTile_same ..).parts .coll rfl
@[simp] theorem striker_modTile (a1 : State) (a2 : Nat) (a3 : Tile → Tile) : (State.modTile a1 a2 a3).striker = a1.striker :=
  (State.modTile_same ..).parts .striker rfl
@[simp] theorem trans_modTile (a1 : State) (a2 : Nat) (a3 : Tile → Tile) : (State.modTile a1 a2 a3).trans = a1.trans :=
  (State.modTile_same ..).parts .trans rfl
@[simp] theorem insts_modTile (a1 : State) (a2 : Nat) (a3 : Tile → Tile) : (State.modTile a1 a2 a3).insts = a1.insts :=
  (State.modTile_same ..).parts .insts rfl
@[simp] theorem draw_modTile (a1 : State) (a2 : Nat) (a3 : Tile → Tile) : (State.modTile a1 a2 a3).draw = a1.draw :=
  (State.modTile_same ..).parts .draw rfl
@[simp] theorem vises_modTile (a1 : State) (a2 : Nat) (a3 : Tile → Tile) : (State.modTile a1 a2 a3).vises = a1.vises :=
  (State.modTile_same ..).parts .vises rfl
@[simp] theorem hearth_modTile (a1 : State) (a2 : Nat) (a3 : Tile → Tile) : (State.modTile a1 a2 a3).hearth = a1.hearth :=
  (State.modTile_same ..).parts .hearth rfl
@[simp] theorem quench_modTile (a1 : State) (a2 : Nat) (a3 : Tile → Tile) : (State.modTile a1 a2 a3).quench = a1.quench :=
  (State.modTile_same ..).parts .quench rfl
@[simp] theorem counters_modTile (a1 : State) (a2 : Nat) (a3 : Tile → Tile) : (State.modTile a1 a2 a3).counters = a1.counters :=
  (State.modTile_same ..).parts .counters rfl
@[simp] theorem power_modTile (a1 : State) (a2 : Nat) (a3 : Tile → Tile) : (State.modTile a1 a2 a3).power = a1.power :=
  (State.modTile_same ..).parts .power rfl
@[simp] theorem segments_modTile (a1 : State) (a2 : Nat) (a3 : Tile → Tile) : (State.modTile a1 a2 a3).segments = a1.segments :=
  (State.modTile_same ..).parts .segments rfl
@[simp] theorem mem_modTile (a1 : State) (a2 : Nat) (a3 : Tile → Tile) : (State.modTile a1 a2 a3).mem = a1.mem :=
  (State.modTile_same ..).parts .mem rfl
@[simp] theorem poison_modTile (a1 : State) (a2 : Nat) (a3 : Tile → Tile) : (State.modTile a1 a2 a3).poison = a1.poison :=
  (State.modTile_same ..).parts .poison rfl
@[simp] theorem free_modTile (a1 : State) (a2 : Nat) (a3 : Tile → Tile) : (State.modTile a1 a2 a3).free = a1.free :=
  (State.modTile_same ..).parts .free rfl
@[simp] theorem out_modTile (a1 : State) (a2 : Nat) (a3 : Tile → Tile) : (State.modTile a1 a2 a3).out = a1.out :=
  (State.modTile_same ..).parts .out rfl
@[simp] theorem pending_modTile (a1 : State) (a2 : Nat) (a3 : Tile → Tile) : (State.modTile a1 a2 a3).pending = a1.pending :=
  (State.modTile_same ..).parts .pending rfl
@[simp] theorem routing_modPort (a1 : State) (a2 : Nat) (a3 : HostPort → HostPort) : (State.modPort a1 a2 a3).routing = a1.routing :=
  (State.modPort_same ..).parts .routing rfl
@[simp] theorem tiles_modPort (a1 : State) (a2 : Nat) (a3 : HostPort → HostPort) : (State.modPort a1 a2 a3).tiles = a1.tiles :=
  (State.modPort_same ..).parts .tiles rfl
@[simp] theorem sched_modPort (a1 : State) (a2 : Nat) (a3 : HostPort → HostPort) : (State.modPort a1 a2 a3).sched = a1.sched :=
  (State.modPort_same ..).parts .sched rfl
@[simp] theorem time_modPort (a1 : State) (a2 : Nat) (a3 : HostPort → HostPort) : (State.modPort a1 a2 a3).time = a1.time :=
  (State.modPort_same ..).parts .time rfl
@[simp] theorem wqs_modPort (a1 : State) (a2 : Nat) (a3 : HostPort → HostPort) : (State.modPort a1 a2 a3).wqs = a1.wqs :=
  (State.modPort_same ..).parts .wqs rfl
@[simp] theorem cqs_modPort (a1 : State) (a2 : Nat) (a3 : HostPort → HostPort) : (State.modPort a1 a2 a3).cqs = a1.cqs :=
  (State.modPort_same ..).parts .cqs rfl
@[simp] theorem remote_modPort (a1 : State) (a2 : Nat) (a3 : HostPort → HostPort) : (State.modPort a1 a2 a3).remote = a1.remote :=
  (State.modPort_same ..).parts .remote rfl
@[simp] theorem matching_modPort (a1 : State) (a2 : Nat) (a3 : HostPort → HostPort) : (State.modPort a1 a2 a3).matching = a1.matching :=
  (State.modPort_same ..).parts .matching rfl
@[simp] theorem coll_modPort (a1 : State) (a2 : Nat) (a3 : HostPort → HostPort) : (State.modPort a1 a2 a3).coll = a1.coll :=
  (State.modPort_same ..).parts .coll rfl
@[simp] theorem striker_modPort (a1 : State) (a2 : Nat) (a3 : HostPort → HostPort) : (State.modPort a1 a2 a3).striker = a1.striker :=
  (State.modPort_same ..).parts .striker rfl
@[simp] theorem trans_modPort (a1 : State) (a2 : Nat) (a3 : HostPort → HostPort) : (State.modPort a1 a2 a3).trans = a1.trans :=
  (State.modPort_same ..).parts .trans rfl
@[simp] theorem insts_modPort (a1 : State) (a2 : Nat) (a3 : HostPort → HostPort) : (State.modPort a1 a2 a3).insts = a1.insts :=
  (State.modPort_same ..).parts .insts rfl
@[simp] theorem draw_modPort (a1 : State) (a2 : Nat) (a3 : HostPort → HostPort) : (State.modPort a1 a2 a3).draw = a1.draw :=
  (State.modPort_same ..).parts .draw rfl
@[simp] theorem vises_modPort (a1 : State) (a2 : Nat) (a3 : HostPort → HostPort) : (State.modPort a1 a2 a3).vises = a1.vises :=
  (State.modPort_same ..).parts .vises rfl
@[simp] theorem hearth_modPort (a1 : State) (a2 : Nat) (a3 : HostPort → HostPort) : (State.modPort a1 a2 a3).hearth = a1.hearth :=
  (State.modPort_same ..).parts .hearth rfl
@[simp] theorem quench_modPort (a1 : State) (a2 : Nat) (a3 : HostPort → HostPort) : (State.modPort a1 a2 a3).quench = a1.quench :=
  (State.modPort_same ..).parts .quench rfl
@[simp] theorem counters_modPort (a1 : State) (a2 : Nat) (a3 : HostPort → HostPort) : (State.modPort a1 a2 a3).counters = a1.counters :=
  (State.modPort_same ..).parts .counters rfl
@[simp] theorem power_modPort (a1 : State) (a2 : Nat) (a3 : HostPort → HostPort) : (State.modPort a1 a2 a3).power = a1.power :=
  (State.modPort_same ..).parts .power rfl
@[simp] theorem segments_modPort (a1 : State) (a2 : Nat) (a3 : HostPort → HostPort) : (State.modPort a1 a2 a3).segments = a1.segments :=
  (State.modPort_same ..).parts .segments rfl
@[simp] theorem mem_modPort (a1 : State) (a2 : Nat) (a3 : HostPort → HostPort) : (State.modPort a1 a2 a3).mem = a1.mem :=
  (State.modPort_same ..).parts .mem rfl
@[simp] theorem poison_modPort (a1 : State) (a2 : Nat) (a3 : HostPort → HostPort) : (State.modPort a1 a2 a3).poison = a1.poison :=
  (State.modPort_same ..).parts .poison rfl
@[simp] theorem free_modPort (a1 : State) (a2 : Nat) (a3 : HostPort → HostPort) : (State.modPort a1 a2 a3).free = a1.free :=
  (State.modPort_same ..).parts .free rfl
@[simp] theorem out_modPort (a1 : State) (a2 : Nat) (a3 : HostPort → HostPort) : (State.modPort a1 a2 a3).out = a1.out :=
  (State.modPort_same ..).parts .out rfl
@[simp] theorem pending_modPort (a1 : State) (a2 : Nat) (a3 : HostPort → HostPort) : (State.modPort a1 a2 a3).pending = a1.pending :=
  (State.modPort_same ..).parts .pending rfl
@[simp] theorem routing_modWq (a1 : State) (a2 : Nat) (a3 : Wq → Wq) : (State.modWq a1 a2 a3).routing = a1.routing :=
  (State.modWq_same ..).parts .routing rfl
@[simp] theorem tiles_modWq (a1 : State) (a2 : Nat) (a3 : Wq → Wq) : (State.modWq a1 a2 a3).tiles = a1.tiles :=
  (State.modWq_same ..).parts .tiles rfl
@[simp] theorem sched_modWq (a1 : State) (a2 : Nat) (a3 : Wq → Wq) : (State.modWq a1 a2 a3).sched = a1.sched :=
  (State.modWq_same ..).parts .sched rfl
@[simp] theorem time_modWq (a1 : State) (a2 : Nat) (a3 : Wq → Wq) : (State.modWq a1 a2 a3).time = a1.time :=
  (State.modWq_same ..).parts .time rfl
@[simp] theorem ports_modWq (a1 : State) (a2 : Nat) (a3 : Wq → Wq) : (State.modWq a1 a2 a3).ports = a1.ports :=
  (State.modWq_same ..).parts .ports rfl
@[simp] theorem cqs_modWq (a1 : State) (a2 : Nat) (a3 : Wq → Wq) : (State.modWq a1 a2 a3).cqs = a1.cqs :=
  (State.modWq_same ..).parts .cqs rfl
@[simp] theorem remote_modWq (a1 : State) (a2 : Nat) (a3 : Wq → Wq) : (State.modWq a1 a2 a3).remote = a1.remote :=
  (State.modWq_same ..).parts .remote rfl
@[simp] theorem matching_modWq (a1 : State) (a2 : Nat) (a3 : Wq → Wq) : (State.modWq a1 a2 a3).matching = a1.matching :=
  (State.modWq_same ..).parts .matching rfl
@[simp] theorem coll_modWq (a1 : State) (a2 : Nat) (a3 : Wq → Wq) : (State.modWq a1 a2 a3).coll = a1.coll :=
  (State.modWq_same ..).parts .coll rfl
@[simp] theorem striker_modWq (a1 : State) (a2 : Nat) (a3 : Wq → Wq) : (State.modWq a1 a2 a3).striker = a1.striker :=
  (State.modWq_same ..).parts .striker rfl
@[simp] theorem trans_modWq (a1 : State) (a2 : Nat) (a3 : Wq → Wq) : (State.modWq a1 a2 a3).trans = a1.trans :=
  (State.modWq_same ..).parts .trans rfl
@[simp] theorem insts_modWq (a1 : State) (a2 : Nat) (a3 : Wq → Wq) : (State.modWq a1 a2 a3).insts = a1.insts :=
  (State.modWq_same ..).parts .insts rfl
@[simp] theorem draw_modWq (a1 : State) (a2 : Nat) (a3 : Wq → Wq) : (State.modWq a1 a2 a3).draw = a1.draw :=
  (State.modWq_same ..).parts .draw rfl
@[simp] theorem vises_modWq (a1 : State) (a2 : Nat) (a3 : Wq → Wq) : (State.modWq a1 a2 a3).vises = a1.vises :=
  (State.modWq_same ..).parts .vises rfl
@[simp] theorem hearth_modWq (a1 : State) (a2 : Nat) (a3 : Wq → Wq) : (State.modWq a1 a2 a3).hearth = a1.hearth :=
  (State.modWq_same ..).parts .hearth rfl
@[simp] theorem quench_modWq (a1 : State) (a2 : Nat) (a3 : Wq → Wq) : (State.modWq a1 a2 a3).quench = a1.quench :=
  (State.modWq_same ..).parts .quench rfl
@[simp] theorem counters_modWq (a1 : State) (a2 : Nat) (a3 : Wq → Wq) : (State.modWq a1 a2 a3).counters = a1.counters :=
  (State.modWq_same ..).parts .counters rfl
@[simp] theorem power_modWq (a1 : State) (a2 : Nat) (a3 : Wq → Wq) : (State.modWq a1 a2 a3).power = a1.power :=
  (State.modWq_same ..).parts .power rfl
@[simp] theorem segments_modWq (a1 : State) (a2 : Nat) (a3 : Wq → Wq) : (State.modWq a1 a2 a3).segments = a1.segments :=
  (State.modWq_same ..).parts .segments rfl
@[simp] theorem mem_modWq (a1 : State) (a2 : Nat) (a3 : Wq → Wq) : (State.modWq a1 a2 a3).mem = a1.mem :=
  (State.modWq_same ..).parts .mem rfl
@[simp] theorem poison_modWq (a1 : State) (a2 : Nat) (a3 : Wq → Wq) : (State.modWq a1 a2 a3).poison = a1.poison :=
  (State.modWq_same ..).parts .poison rfl
@[simp] theorem free_modWq (a1 : State) (a2 : Nat) (a3 : Wq → Wq) : (State.modWq a1 a2 a3).free = a1.free :=
  (State.modWq_same ..).parts .free rfl
@[simp] theorem out_modWq (a1 : State) (a2 : Nat) (a3 : Wq → Wq) : (State.modWq a1 a2 a3).out = a1.out :=
  (State.modWq_same ..).parts .out rfl
@[simp] theorem pending_modWq (a1 : State) (a2 : Nat) (a3 : Wq → Wq) : (State.modWq a1 a2 a3).pending = a1.pending :=
  (State.modWq_same ..).parts .pending rfl
@[simp] theorem routing_modCq (a1 : State) (a2 : Nat) (a3 : Cq → Cq) : (State.modCq a1 a2 a3).routing = a1.routing :=
  (State.modCq_same ..).parts .routing rfl
@[simp] theorem tiles_modCq (a1 : State) (a2 : Nat) (a3 : Cq → Cq) : (State.modCq a1 a2 a3).tiles = a1.tiles :=
  (State.modCq_same ..).parts .tiles rfl
@[simp] theorem sched_modCq (a1 : State) (a2 : Nat) (a3 : Cq → Cq) : (State.modCq a1 a2 a3).sched = a1.sched :=
  (State.modCq_same ..).parts .sched rfl
@[simp] theorem time_modCq (a1 : State) (a2 : Nat) (a3 : Cq → Cq) : (State.modCq a1 a2 a3).time = a1.time :=
  (State.modCq_same ..).parts .time rfl
@[simp] theorem ports_modCq (a1 : State) (a2 : Nat) (a3 : Cq → Cq) : (State.modCq a1 a2 a3).ports = a1.ports :=
  (State.modCq_same ..).parts .ports rfl
@[simp] theorem wqs_modCq (a1 : State) (a2 : Nat) (a3 : Cq → Cq) : (State.modCq a1 a2 a3).wqs = a1.wqs :=
  (State.modCq_same ..).parts .wqs rfl
@[simp] theorem remote_modCq (a1 : State) (a2 : Nat) (a3 : Cq → Cq) : (State.modCq a1 a2 a3).remote = a1.remote :=
  (State.modCq_same ..).parts .remote rfl
@[simp] theorem matching_modCq (a1 : State) (a2 : Nat) (a3 : Cq → Cq) : (State.modCq a1 a2 a3).matching = a1.matching :=
  (State.modCq_same ..).parts .matching rfl
@[simp] theorem coll_modCq (a1 : State) (a2 : Nat) (a3 : Cq → Cq) : (State.modCq a1 a2 a3).coll = a1.coll :=
  (State.modCq_same ..).parts .coll rfl
@[simp] theorem striker_modCq (a1 : State) (a2 : Nat) (a3 : Cq → Cq) : (State.modCq a1 a2 a3).striker = a1.striker :=
  (State.modCq_same ..).parts .striker rfl
@[simp] theorem trans_modCq (a1 : State) (a2 : Nat) (a3 : Cq → Cq) : (State.modCq a1 a2 a3).trans = a1.trans :=
  (State.modCq_same ..).parts .trans rfl
@[simp] theorem insts_modCq (a1 : State) (a2 : Nat) (a3 : Cq → Cq) : (State.modCq a1 a2 a3).insts = a1.insts :=
  (State.modCq_same ..).parts .insts rfl
@[simp] theorem draw_modCq (a1 : State) (a2 : Nat) (a3 : Cq → Cq) : (State.modCq a1 a2 a3).draw = a1.draw :=
  (State.modCq_same ..).parts .draw rfl
@[simp] theorem vises_modCq (a1 : State) (a2 : Nat) (a3 : Cq → Cq) : (State.modCq a1 a2 a3).vises = a1.vises :=
  (State.modCq_same ..).parts .vises rfl
@[simp] theorem hearth_modCq (a1 : State) (a2 : Nat) (a3 : Cq → Cq) : (State.modCq a1 a2 a3).hearth = a1.hearth :=
  (State.modCq_same ..).parts .hearth rfl
@[simp] theorem quench_modCq (a1 : State) (a2 : Nat) (a3 : Cq → Cq) : (State.modCq a1 a2 a3).quench = a1.quench :=
  (State.modCq_same ..).parts .quench rfl
@[simp] theorem counters_modCq (a1 : State) (a2 : Nat) (a3 : Cq → Cq) : (State.modCq a1 a2 a3).counters = a1.counters :=
  (State.modCq_same ..).parts .counters rfl
@[simp] theorem power_modCq (a1 : State) (a2 : Nat) (a3 : Cq → Cq) : (State.modCq a1 a2 a3).power = a1.power :=
  (State.modCq_same ..).parts .power rfl
@[simp] theorem segments_modCq (a1 : State) (a2 : Nat) (a3 : Cq → Cq) : (State.modCq a1 a2 a3).segments = a1.segments :=
  (State.modCq_same ..).parts .segments rfl
@[simp] theorem mem_modCq (a1 : State) (a2 : Nat) (a3 : Cq → Cq) : (State.modCq a1 a2 a3).mem = a1.mem :=
  (State.modCq_same ..).parts .mem rfl
@[simp] theorem poison_modCq (a1 : State) (a2 : Nat) (a3 : Cq → Cq) : (State.modCq a1 a2 a3).poison = a1.poison :=
  (State.modCq_same ..).parts .poison rfl
@[simp] theorem free_modCq (a1 : State) (a2 : Nat) (a3 : Cq → Cq) : (State.modCq a1 a2 a3).free = a1.free :=
  (State.modCq_same ..).parts .free rfl
@[simp] theorem out_modCq (a1 : State) (a2 : Nat) (a3 : Cq → Cq) : (State.modCq a1 a2 a3).out = a1.out :=
  (State.modCq_same ..).parts .out rfl
@[simp] theorem pending_modCq (a1 : State) (a2 : Nat) (a3 : Cq → Cq) : (State.modCq a1 a2 a3).pending = a1.pending :=
  (State.modCq_same ..).parts .pending rfl
@[simp] theorem routing_modInst (a1 : State) (a2 : Nat) (a3 : Inst → Inst) : (State.modInst a1 a2 a3).routing = a1.routing :=
  (State.modInst_same ..).parts .routing rfl
@[simp] theorem tiles_modInst (a1 : State) (a2 : Nat) (a3 : Inst → Inst) : (State.modInst a1 a2 a3).tiles = a1.tiles :=
  (State.modInst_same ..).parts .tiles rfl
@[simp] theorem sched_modInst (a1 : State) (a2 : Nat) (a3 : Inst → Inst) : (State.modInst a1 a2 a3).sched = a1.sched :=
  (State.modInst_same ..).parts .sched rfl
@[simp] theorem time_modInst (a1 : State) (a2 : Nat) (a3 : Inst → Inst) : (State.modInst a1 a2 a3).time = a1.time :=
  (State.modInst_same ..).parts .time rfl
@[simp] theorem ports_modInst (a1 : State) (a2 : Nat) (a3 : Inst → Inst) : (State.modInst a1 a2 a3).ports = a1.ports :=
  (State.modInst_same ..).parts .ports rfl
@[simp] theorem wqs_modInst (a1 : State) (a2 : Nat) (a3 : Inst → Inst) : (State.modInst a1 a2 a3).wqs = a1.wqs :=
  (State.modInst_same ..).parts .wqs rfl
@[simp] theorem cqs_modInst (a1 : State) (a2 : Nat) (a3 : Inst → Inst) : (State.modInst a1 a2 a3).cqs = a1.cqs :=
  (State.modInst_same ..).parts .cqs rfl
@[simp] theorem remote_modInst (a1 : State) (a2 : Nat) (a3 : Inst → Inst) : (State.modInst a1 a2 a3).remote = a1.remote :=
  (State.modInst_same ..).parts .remote rfl
@[simp] theorem matching_modInst (a1 : State) (a2 : Nat) (a3 : Inst → Inst) : (State.modInst a1 a2 a3).matching = a1.matching :=
  (State.modInst_same ..).parts .matching rfl
@[simp] theorem coll_modInst (a1 : State) (a2 : Nat) (a3 : Inst → Inst) : (State.modInst a1 a2 a3).coll = a1.coll :=
  (State.modInst_same ..).parts .coll rfl
@[simp] theorem striker_modInst (a1 : State) (a2 : Nat) (a3 : Inst → Inst) : (State.modInst a1 a2 a3).striker = a1.striker :=
  (State.modInst_same ..).parts .striker rfl
@[simp] theorem trans_modInst (a1 : State) (a2 : Nat) (a3 : Inst → Inst) : (State.modInst a1 a2 a3).trans = a1.trans :=
  (State.modInst_same ..).parts .trans rfl
@[simp] theorem draw_modInst (a1 : State) (a2 : Nat) (a3 : Inst → Inst) : (State.modInst a1 a2 a3).draw = a1.draw :=
  (State.modInst_same ..).parts .draw rfl
@[simp] theorem vises_modInst (a1 : State) (a2 : Nat) (a3 : Inst → Inst) : (State.modInst a1 a2 a3).vises = a1.vises :=
  (State.modInst_same ..).parts .vises rfl
@[simp] theorem hearth_modInst (a1 : State) (a2 : Nat) (a3 : Inst → Inst) : (State.modInst a1 a2 a3).hearth = a1.hearth :=
  (State.modInst_same ..).parts .hearth rfl
@[simp] theorem quench_modInst (a1 : State) (a2 : Nat) (a3 : Inst → Inst) : (State.modInst a1 a2 a3).quench = a1.quench :=
  (State.modInst_same ..).parts .quench rfl
@[simp] theorem counters_modInst (a1 : State) (a2 : Nat) (a3 : Inst → Inst) : (State.modInst a1 a2 a3).counters = a1.counters :=
  (State.modInst_same ..).parts .counters rfl
@[simp] theorem power_modInst (a1 : State) (a2 : Nat) (a3 : Inst → Inst) : (State.modInst a1 a2 a3).power = a1.power :=
  (State.modInst_same ..).parts .power rfl
@[simp] theorem segments_modInst (a1 : State) (a2 : Nat) (a3 : Inst → Inst) : (State.modInst a1 a2 a3).segments = a1.segments :=
  (State.modInst_same ..).parts .segments rfl
@[simp] theorem mem_modInst (a1 : State) (a2 : Nat) (a3 : Inst → Inst) : (State.modInst a1 a2 a3).mem = a1.mem :=
  (State.modInst_same ..).parts .mem rfl
@[simp] theorem poison_modInst (a1 : State) (a2 : Nat) (a3 : Inst → Inst) : (State.modInst a1 a2 a3).poison = a1.poison :=
  (State.modInst_same ..).parts .poison rfl
@[simp] theorem free_modInst (a1 : State) (a2 : Nat) (a3 : Inst → Inst) : (State.modInst a1 a2 a3).free = a1.free :=
  (State.modInst_same ..).parts .free rfl
@[simp] theorem out_modInst (a1 : State) (a2 : Nat) (a3 : Inst → Inst) : (State.modInst a1 a2 a3).out = a1.out :=
  (State.modInst_same ..).parts .out rfl
@[simp] theorem pending_modInst (a1 : State) (a2 : Nat) (a3 : Inst → Inst) : (State.modInst a1 a2 a3).pending = a1.pending :=
  (State.modInst_same ..).parts .pending rfl
@[simp] theorem routing_modMbox (a1 : State) (a2 : Fn) (a3 : Mbox → Mbox) : (State.modMbox a1 a2 a3).routing = a1.routing :=
  (State.modMbox_same ..).parts .routing rfl
@[simp] theorem tiles_modMbox (a1 : State) (a2 : Fn) (a3 : Mbox → Mbox) : (State.modMbox a1 a2 a3).tiles = a1.tiles :=
  (State.modMbox_same ..).parts .tiles rfl
@[simp] theorem sched_modMbox (a1 : State) (a2 : Fn) (a3 : Mbox → Mbox) : (State.modMbox a1 a2 a3).sched = a1.sched :=
  (State.modMbox_same ..).parts .sched rfl
@[simp] theorem time_modMbox (a1 : State) (a2 : Fn) (a3 : Mbox → Mbox) : (State.modMbox a1 a2 a3).time = a1.time :=
  (State.modMbox_same ..).parts .time rfl
@[simp] theorem ports_modMbox (a1 : State) (a2 : Fn) (a3 : Mbox → Mbox) : (State.modMbox a1 a2 a3).ports = a1.ports :=
  (State.modMbox_same ..).parts .ports rfl
@[simp] theorem wqs_modMbox (a1 : State) (a2 : Fn) (a3 : Mbox → Mbox) : (State.modMbox a1 a2 a3).wqs = a1.wqs :=
  (State.modMbox_same ..).parts .wqs rfl
@[simp] theorem cqs_modMbox (a1 : State) (a2 : Fn) (a3 : Mbox → Mbox) : (State.modMbox a1 a2 a3).cqs = a1.cqs :=
  (State.modMbox_same ..).parts .cqs rfl
@[simp] theorem remote_modMbox (a1 : State) (a2 : Fn) (a3 : Mbox → Mbox) : (State.modMbox a1 a2 a3).remote = a1.remote :=
  (State.modMbox_same ..).parts .remote rfl
@[simp] theorem matching_modMbox (a1 : State) (a2 : Fn) (a3 : Mbox → Mbox) : (State.modMbox a1 a2 a3).matching = a1.matching :=
  (State.modMbox_same ..).parts .matching rfl
@[simp] theorem coll_modMbox (a1 : State) (a2 : Fn) (a3 : Mbox → Mbox) : (State.modMbox a1 a2 a3).coll = a1.coll :=
  (State.modMbox_same ..).parts .coll rfl
@[simp] theorem striker_modMbox (a1 : State) (a2 : Fn) (a3 : Mbox → Mbox) : (State.modMbox a1 a2 a3).striker = a1.striker :=
  (State.modMbox_same ..).parts .striker rfl
@[simp] theorem trans_modMbox (a1 : State) (a2 : Fn) (a3 : Mbox → Mbox) : (State.modMbox a1 a2 a3).trans = a1.trans :=
  (State.modMbox_same ..).parts .trans rfl
@[simp] theorem insts_modMbox (a1 : State) (a2 : Fn) (a3 : Mbox → Mbox) : (State.modMbox a1 a2 a3).insts = a1.insts :=
  (State.modMbox_same ..).parts .insts rfl
@[simp] theorem draw_modMbox (a1 : State) (a2 : Fn) (a3 : Mbox → Mbox) : (State.modMbox a1 a2 a3).draw = a1.draw :=
  (State.modMbox_same ..).parts .draw rfl
@[simp] theorem vises_modMbox (a1 : State) (a2 : Fn) (a3 : Mbox → Mbox) : (State.modMbox a1 a2 a3).vises = a1.vises :=
  (State.modMbox_same ..).parts .vises rfl
@[simp] theorem quench_modMbox (a1 : State) (a2 : Fn) (a3 : Mbox → Mbox) : (State.modMbox a1 a2 a3).quench = a1.quench :=
  (State.modMbox_same ..).parts .quench rfl
@[simp] theorem counters_modMbox (a1 : State) (a2 : Fn) (a3 : Mbox → Mbox) : (State.modMbox a1 a2 a3).counters = a1.counters :=
  (State.modMbox_same ..).parts .counters rfl
@[simp] theorem power_modMbox (a1 : State) (a2 : Fn) (a3 : Mbox → Mbox) : (State.modMbox a1 a2 a3).power = a1.power :=
  (State.modMbox_same ..).parts .power rfl
@[simp] theorem segments_modMbox (a1 : State) (a2 : Fn) (a3 : Mbox → Mbox) : (State.modMbox a1 a2 a3).segments = a1.segments :=
  (State.modMbox_same ..).parts .segments rfl
@[simp] theorem mem_modMbox (a1 : State) (a2 : Fn) (a3 : Mbox → Mbox) : (State.modMbox a1 a2 a3).mem = a1.mem :=
  (State.modMbox_same ..).parts .mem rfl
@[simp] theorem poison_modMbox (a1 : State) (a2 : Fn) (a3 : Mbox → Mbox) : (State.modMbox a1 a2 a3).poison = a1.poison :=
  (State.modMbox_same ..).parts .poison rfl
@[simp] theorem free_modMbox (a1 : State) (a2 : Fn) (a3 : Mbox → Mbox) : (State.modMbox a1 a2 a3).free = a1.free :=
  (State.modMbox_same ..).parts .free rfl
@[simp] theorem out_modMbox (a1 : State) (a2 : Fn) (a3 : Mbox → Mbox) : (State.modMbox a1 a2 a3).out = a1.out :=
  (State.modMbox_same ..).parts .out rfl
@[simp] theorem pending_modMbox (a1 : State) (a2 : Fn) (a3 : Mbox → Mbox) : (State.modMbox a1 a2 a3).pending = a1.pending :=
  (State.modMbox_same ..).parts .pending rfl
@[simp] theorem routing_modTally (a1 : State) (a2 : Nat) (a3 : Tally → Tally) : (State.modTally a1 a2 a3).routing = a1.routing :=
  (State.modTally_same ..).parts .routing rfl
@[simp] theorem tiles_modTally (a1 : State) (a2 : Nat) (a3 : Tally → Tally) : (State.modTally a1 a2 a3).tiles = a1.tiles :=
  (State.modTally_same ..).parts .tiles rfl
@[simp] theorem sched_modTally (a1 : State) (a2 : Nat) (a3 : Tally → Tally) : (State.modTally a1 a2 a3).sched = a1.sched :=
  (State.modTally_same ..).parts .sched rfl
@[simp] theorem time_modTally (a1 : State) (a2 : Nat) (a3 : Tally → Tally) : (State.modTally a1 a2 a3).time = a1.time :=
  (State.modTally_same ..).parts .time rfl
@[simp] theorem ports_modTally (a1 : State) (a2 : Nat) (a3 : Tally → Tally) : (State.modTally a1 a2 a3).ports = a1.ports :=
  (State.modTally_same ..).parts .ports rfl
@[simp] theorem wqs_modTally (a1 : State) (a2 : Nat) (a3 : Tally → Tally) : (State.modTally a1 a2 a3).wqs = a1.wqs :=
  (State.modTally_same ..).parts .wqs rfl
@[simp] theorem cqs_modTally (a1 : State) (a2 : Nat) (a3 : Tally → Tally) : (State.modTally a1 a2 a3).cqs = a1.cqs :=
  (State.modTally_same ..).parts .cqs rfl
@[simp] theorem matching_modTally (a1 : State) (a2 : Nat) (a3 : Tally → Tally) : (State.modTally a1 a2 a3).matching = a1.matching :=
  (State.modTally_same ..).parts .matching rfl
@[simp] theorem coll_modTally (a1 : State) (a2 : Nat) (a3 : Tally → Tally) : (State.modTally a1 a2 a3).coll = a1.coll :=
  (State.modTally_same ..).parts .coll rfl
@[simp] theorem striker_modTally (a1 : State) (a2 : Nat) (a3 : Tally → Tally) : (State.modTally a1 a2 a3).striker = a1.striker :=
  (State.modTally_same ..).parts .striker rfl
@[simp] theorem trans_modTally (a1 : State) (a2 : Nat) (a3 : Tally → Tally) : (State.modTally a1 a2 a3).trans = a1.trans :=
  (State.modTally_same ..).parts .trans rfl
@[simp] theorem insts_modTally (a1 : State) (a2 : Nat) (a3 : Tally → Tally) : (State.modTally a1 a2 a3).insts = a1.insts :=
  (State.modTally_same ..).parts .insts rfl
@[simp] theorem draw_modTally (a1 : State) (a2 : Nat) (a3 : Tally → Tally) : (State.modTally a1 a2 a3).draw = a1.draw :=
  (State.modTally_same ..).parts .draw rfl
@[simp] theorem vises_modTally (a1 : State) (a2 : Nat) (a3 : Tally → Tally) : (State.modTally a1 a2 a3).vises = a1.vises :=
  (State.modTally_same ..).parts .vises rfl
@[simp] theorem hearth_modTally (a1 : State) (a2 : Nat) (a3 : Tally → Tally) : (State.modTally a1 a2 a3).hearth = a1.hearth :=
  (State.modTally_same ..).parts .hearth rfl
@[simp] theorem quench_modTally (a1 : State) (a2 : Nat) (a3 : Tally → Tally) : (State.modTally a1 a2 a3).quench = a1.quench :=
  (State.modTally_same ..).parts .quench rfl
@[simp] theorem counters_modTally (a1 : State) (a2 : Nat) (a3 : Tally → Tally) : (State.modTally a1 a2 a3).counters = a1.counters :=
  (State.modTally_same ..).parts .counters rfl
@[simp] theorem power_modTally (a1 : State) (a2 : Nat) (a3 : Tally → Tally) : (State.modTally a1 a2 a3).power = a1.power :=
  (State.modTally_same ..).parts .power rfl
@[simp] theorem segments_modTally (a1 : State) (a2 : Nat) (a3 : Tally → Tally) : (State.modTally a1 a2 a3).segments = a1.segments :=
  (State.modTally_same ..).parts .segments rfl
@[simp] theorem mem_modTally (a1 : State) (a2 : Nat) (a3 : Tally → Tally) : (State.modTally a1 a2 a3).mem = a1.mem :=
  (State.modTally_same ..).parts .mem rfl
@[simp] theorem poison_modTally (a1 : State) (a2 : Nat) (a3 : Tally → Tally) : (State.modTally a1 a2 a3).poison = a1.poison :=
  (State.modTally_same ..).parts .poison rfl
@[simp] theorem free_modTally (a1 : State) (a2 : Nat) (a3 : Tally → Tally) : (State.modTally a1 a2 a3).free = a1.free :=
  (State.modTally_same ..).parts .free rfl
@[simp] theorem out_modTally (a1 : State) (a2 : Nat) (a3 : Tally → Tally) : (State.modTally a1 a2 a3).out = a1.out :=
  (State.modTally_same ..).parts .out rfl
@[simp] theorem pending_modTally (a1 : State) (a2 : Nat) (a3 : Tally → Tally) : (State.modTally a1 a2 a3).pending = a1.pending :=
  (State.modTally_same ..).parts .pending rfl
@[simp] theorem routing_modCtx (a1 : State) (a2 : Nat) (a3 : Ctx → Ctx) : (State.modCtx a1 a2 a3).routing = a1.routing :=
  (State.modCtx_same ..).parts .routing rfl
@[simp] theorem tiles_modCtx (a1 : State) (a2 : Nat) (a3 : Ctx → Ctx) : (State.modCtx a1 a2 a3).tiles = a1.tiles :=
  (State.modCtx_same ..).parts .tiles rfl
@[simp] theorem sched_modCtx (a1 : State) (a2 : Nat) (a3 : Ctx → Ctx) : (State.modCtx a1 a2 a3).sched = a1.sched :=
  (State.modCtx_same ..).parts .sched rfl
@[simp] theorem time_modCtx (a1 : State) (a2 : Nat) (a3 : Ctx → Ctx) : (State.modCtx a1 a2 a3).time = a1.time :=
  (State.modCtx_same ..).parts .time rfl
@[simp] theorem ports_modCtx (a1 : State) (a2 : Nat) (a3 : Ctx → Ctx) : (State.modCtx a1 a2 a3).ports = a1.ports :=
  (State.modCtx_same ..).parts .ports rfl
@[simp] theorem wqs_modCtx (a1 : State) (a2 : Nat) (a3 : Ctx → Ctx) : (State.modCtx a1 a2 a3).wqs = a1.wqs :=
  (State.modCtx_same ..).parts .wqs rfl
@[simp] theorem cqs_modCtx (a1 : State) (a2 : Nat) (a3 : Ctx → Ctx) : (State.modCtx a1 a2 a3).cqs = a1.cqs :=
  (State.modCtx_same ..).parts .cqs rfl
@[simp] theorem remote_modCtx (a1 : State) (a2 : Nat) (a3 : Ctx → Ctx) : (State.modCtx a1 a2 a3).remote = a1.remote :=
  (State.modCtx_same ..).parts .remote rfl
@[simp] theorem coll_modCtx (a1 : State) (a2 : Nat) (a3 : Ctx → Ctx) : (State.modCtx a1 a2 a3).coll = a1.coll :=
  (State.modCtx_same ..).parts .coll rfl
@[simp] theorem striker_modCtx (a1 : State) (a2 : Nat) (a3 : Ctx → Ctx) : (State.modCtx a1 a2 a3).striker = a1.striker :=
  (State.modCtx_same ..).parts .striker rfl
@[simp] theorem trans_modCtx (a1 : State) (a2 : Nat) (a3 : Ctx → Ctx) : (State.modCtx a1 a2 a3).trans = a1.trans :=
  (State.modCtx_same ..).parts .trans rfl
@[simp] theorem insts_modCtx (a1 : State) (a2 : Nat) (a3 : Ctx → Ctx) : (State.modCtx a1 a2 a3).insts = a1.insts :=
  (State.modCtx_same ..).parts .insts rfl
@[simp] theorem draw_modCtx (a1 : State) (a2 : Nat) (a3 : Ctx → Ctx) : (State.modCtx a1 a2 a3).draw = a1.draw :=
  (State.modCtx_same ..).parts .draw rfl
@[simp] theorem vises_modCtx (a1 : State) (a2 : Nat) (a3 : Ctx → Ctx) : (State.modCtx a1 a2 a3).vises = a1.vises :=
  (State.modCtx_same ..).parts .vises rfl
@[simp] theorem hearth_modCtx (a1 : State) (a2 : Nat) (a3 : Ctx → Ctx) : (State.modCtx a1 a2 a3).hearth = a1.hearth :=
  (State.modCtx_same ..).parts .hearth rfl
@[simp] theorem quench_modCtx (a1 : State) (a2 : Nat) (a3 : Ctx → Ctx) : (State.modCtx a1 a2 a3).quench = a1.quench :=
  (State.modCtx_same ..).parts .quench rfl
@[simp] theorem counters_modCtx (a1 : State) (a2 : Nat) (a3 : Ctx → Ctx) : (State.modCtx a1 a2 a3).counters = a1.counters :=
  (State.modCtx_same ..).parts .counters rfl
@[simp] theorem power_modCtx (a1 : State) (a2 : Nat) (a3 : Ctx → Ctx) : (State.modCtx a1 a2 a3).power = a1.power :=
  (State.modCtx_same ..).parts .power rfl
@[simp] theorem segments_modCtx (a1 : State) (a2 : Nat) (a3 : Ctx → Ctx) : (State.modCtx a1 a2 a3).segments = a1.segments :=
  (State.modCtx_same ..).parts .segments rfl
@[simp] theorem mem_modCtx (a1 : State) (a2 : Nat) (a3 : Ctx → Ctx) : (State.modCtx a1 a2 a3).mem = a1.mem :=
  (State.modCtx_same ..).parts .mem rfl
@[simp] theorem poison_modCtx (a1 : State) (a2 : Nat) (a3 : Ctx → Ctx) : (State.modCtx a1 a2 a3).poison = a1.poison :=
  (State.modCtx_same ..).parts .poison rfl
@[simp] theorem free_modCtx (a1 : State) (a2 : Nat) (a3 : Ctx → Ctx) : (State.modCtx a1 a2 a3).free = a1.free :=
  (State.modCtx_same ..).parts .free rfl
@[simp] theorem out_modCtx (a1 : State) (a2 : Nat) (a3 : Ctx → Ctx) : (State.modCtx a1 a2 a3).out = a1.out :=
  (State.modCtx_same ..).parts .out rfl
@[simp] theorem pending_modCtx (a1 : State) (a2 : Nat) (a3 : Ctx → Ctx) : (State.modCtx a1 a2 a3).pending = a1.pending :=
  (State.modCtx_same ..).parts .pending rfl
@[simp] theorem routing_modCell (a1 : State) (a2 : Nat) (a3 : Cell → Cell) : (State.modCell a1 a2 a3).routing = a1.routing :=
  (State.modCell_same ..).parts .routing rfl
@[simp] theorem tiles_modCell (a1 : State) (a2 : Nat) (a3 : Cell → Cell) : (State.modCell a1 a2 a3).tiles = a1.tiles :=
  (State.modCell_same ..).parts .tiles rfl
@[simp] theorem sched_modCell (a1 : State) (a2 : Nat) (a3 : Cell → Cell) : (State.modCell a1 a2 a3).sched = a1.sched :=
  (State.modCell_same ..).parts .sched rfl
@[simp] theorem time_modCell (a1 : State) (a2 : Nat) (a3 : Cell → Cell) : (State.modCell a1 a2 a3).time = a1.time :=
  (State.modCell_same ..).parts .time rfl
@[simp] theorem ports_modCell (a1 : State) (a2 : Nat) (a3 : Cell → Cell) : (State.modCell a1 a2 a3).ports = a1.ports :=
  (State.modCell_same ..).parts .ports rfl
@[simp] theorem wqs_modCell (a1 : State) (a2 : Nat) (a3 : Cell → Cell) : (State.modCell a1 a2 a3).wqs = a1.wqs :=
  (State.modCell_same ..).parts .wqs rfl
@[simp] theorem cqs_modCell (a1 : State) (a2 : Nat) (a3 : Cell → Cell) : (State.modCell a1 a2 a3).cqs = a1.cqs :=
  (State.modCell_same ..).parts .cqs rfl
@[simp] theorem remote_modCell (a1 : State) (a2 : Nat) (a3 : Cell → Cell) : (State.modCell a1 a2 a3).remote = a1.remote :=
  (State.modCell_same ..).parts .remote rfl
@[simp] theorem matching_modCell (a1 : State) (a2 : Nat) (a3 : Cell → Cell) : (State.modCell a1 a2 a3).matching = a1.matching :=
  (State.modCell_same ..).parts .matching rfl
@[simp] theorem coll_modCell (a1 : State) (a2 : Nat) (a3 : Cell → Cell) : (State.modCell a1 a2 a3).coll = a1.coll :=
  (State.modCell_same ..).parts .coll rfl
@[simp] theorem trans_modCell (a1 : State) (a2 : Nat) (a3 : Cell → Cell) : (State.modCell a1 a2 a3).trans = a1.trans :=
  (State.modCell_same ..).parts .trans rfl
@[simp] theorem insts_modCell (a1 : State) (a2 : Nat) (a3 : Cell → Cell) : (State.modCell a1 a2 a3).insts = a1.insts :=
  (State.modCell_same ..).parts .insts rfl
@[simp] theorem draw_modCell (a1 : State) (a2 : Nat) (a3 : Cell → Cell) : (State.modCell a1 a2 a3).draw = a1.draw :=
  (State.modCell_same ..).parts .draw rfl
@[simp] theorem vises_modCell (a1 : State) (a2 : Nat) (a3 : Cell → Cell) : (State.modCell a1 a2 a3).vises = a1.vises :=
  (State.modCell_same ..).parts .vises rfl
@[simp] theorem hearth_modCell (a1 : State) (a2 : Nat) (a3 : Cell → Cell) : (State.modCell a1 a2 a3).hearth = a1.hearth :=
  (State.modCell_same ..).parts .hearth rfl
@[simp] theorem quench_modCell (a1 : State) (a2 : Nat) (a3 : Cell → Cell) : (State.modCell a1 a2 a3).quench = a1.quench :=
  (State.modCell_same ..).parts .quench rfl
@[simp] theorem counters_modCell (a1 : State) (a2 : Nat) (a3 : Cell → Cell) : (State.modCell a1 a2 a3).counters = a1.counters :=
  (State.modCell_same ..).parts .counters rfl
@[simp] theorem power_modCell (a1 : State) (a2 : Nat) (a3 : Cell → Cell) : (State.modCell a1 a2 a3).power = a1.power :=
  (State.modCell_same ..).parts .power rfl
@[simp] theorem segments_modCell (a1 : State) (a2 : Nat) (a3 : Cell → Cell) : (State.modCell a1 a2 a3).segments = a1.segments :=
  (State.modCell_same ..).parts .segments rfl
@[simp] theorem mem_modCell (a1 : State) (a2 : Nat) (a3 : Cell → Cell) : (State.modCell a1 a2 a3).mem = a1.mem :=
  (State.modCell_same ..).parts .mem rfl
@[simp] theorem poison_modCell (a1 : State) (a2 : Nat) (a3 : Cell → Cell) : (State.modCell a1 a2 a3).poison = a1.poison :=
  (State.modCell_same ..).parts .poison rfl
@[simp] theorem free_modCell (a1 : State) (a2 : Nat) (a3 : Cell → Cell) : (State.modCell a1 a2 a3).free = a1.free :=
  (State.modCell_same ..).parts .free rfl
@[simp] theorem out_modCell (a1 : State) (a2 : Nat) (a3 : Cell → Cell) : (State.modCell a1 a2 a3).out = a1.out :=
  (State.modCell_same ..).parts .out rfl
@[simp] theorem pending_modCell (a1 : State) (a2 : Nat) (a3 : Cell → Cell) : (State.modCell a1 a2 a3).pending = a1.pending :=
  (State.modCell_same ..).parts .pending rfl
@[simp] theorem routing_modChan (a1 : State) (a2 : Nat) (a3 : Chan → Chan) : (State.modChan a1 a2 a3).routing = a1.routing :=
  (State.modChan_same ..).parts .routing rfl
@[simp] theorem tiles_modChan (a1 : State) (a2 : Nat) (a3 : Chan → Chan) : (State.modChan a1 a2 a3).tiles = a1.tiles :=
  (State.modChan_same ..).parts .tiles rfl
@[simp] theorem sched_modChan (a1 : State) (a2 : Nat) (a3 : Chan → Chan) : (State.modChan a1 a2 a3).sched = a1.sched :=
  (State.modChan_same ..).parts .sched rfl
@[simp] theorem time_modChan (a1 : State) (a2 : Nat) (a3 : Chan → Chan) : (State.modChan a1 a2 a3).time = a1.time :=
  (State.modChan_same ..).parts .time rfl
@[simp] theorem ports_modChan (a1 : State) (a2 : Nat) (a3 : Chan → Chan) : (State.modChan a1 a2 a3).ports = a1.ports :=
  (State.modChan_same ..).parts .ports rfl
@[simp] theorem wqs_modChan (a1 : State) (a2 : Nat) (a3 : Chan → Chan) : (State.modChan a1 a2 a3).wqs = a1.wqs :=
  (State.modChan_same ..).parts .wqs rfl
@[simp] theorem cqs_modChan (a1 : State) (a2 : Nat) (a3 : Chan → Chan) : (State.modChan a1 a2 a3).cqs = a1.cqs :=
  (State.modChan_same ..).parts .cqs rfl
@[simp] theorem remote_modChan (a1 : State) (a2 : Nat) (a3 : Chan → Chan) : (State.modChan a1 a2 a3).remote = a1.remote :=
  (State.modChan_same ..).parts .remote rfl
@[simp] theorem matching_modChan (a1 : State) (a2 : Nat) (a3 : Chan → Chan) : (State.modChan a1 a2 a3).matching = a1.matching :=
  (State.modChan_same ..).parts .matching rfl
@[simp] theorem coll_modChan (a1 : State) (a2 : Nat) (a3 : Chan → Chan) : (State.modChan a1 a2 a3).coll = a1.coll :=
  (State.modChan_same ..).parts .coll rfl
@[simp] theorem striker_modChan (a1 : State) (a2 : Nat) (a3 : Chan → Chan) : (State.modChan a1 a2 a3).striker = a1.striker :=
  (State.modChan_same ..).parts .striker rfl
@[simp] theorem trans_modChan (a1 : State) (a2 : Nat) (a3 : Chan → Chan) : (State.modChan a1 a2 a3).trans = a1.trans :=
  (State.modChan_same ..).parts .trans rfl
@[simp] theorem insts_modChan (a1 : State) (a2 : Nat) (a3 : Chan → Chan) : (State.modChan a1 a2 a3).insts = a1.insts :=
  (State.modChan_same ..).parts .insts rfl
@[simp] theorem vises_modChan (a1 : State) (a2 : Nat) (a3 : Chan → Chan) : (State.modChan a1 a2 a3).vises = a1.vises :=
  (State.modChan_same ..).parts .vises rfl
@[simp] theorem hearth_modChan (a1 : State) (a2 : Nat) (a3 : Chan → Chan) : (State.modChan a1 a2 a3).hearth = a1.hearth :=
  (State.modChan_same ..).parts .hearth rfl
@[simp] theorem quench_modChan (a1 : State) (a2 : Nat) (a3 : Chan → Chan) : (State.modChan a1 a2 a3).quench = a1.quench :=
  (State.modChan_same ..).parts .quench rfl
@[simp] theorem counters_modChan (a1 : State) (a2 : Nat) (a3 : Chan → Chan) : (State.modChan a1 a2 a3).counters = a1.counters :=
  (State.modChan_same ..).parts .counters rfl
@[simp] theorem power_modChan (a1 : State) (a2 : Nat) (a3 : Chan → Chan) : (State.modChan a1 a2 a3).power = a1.power :=
  (State.modChan_same ..).parts .power rfl
@[simp] theorem segments_modChan (a1 : State) (a2 : Nat) (a3 : Chan → Chan) : (State.modChan a1 a2 a3).segments = a1.segments :=
  (State.modChan_same ..).parts .segments rfl
@[simp] theorem mem_modChan (a1 : State) (a2 : Nat) (a3 : Chan → Chan) : (State.modChan a1 a2 a3).mem = a1.mem :=
  (State.modChan_same ..).parts .mem rfl
@[simp] theorem poison_modChan (a1 : State) (a2 : Nat) (a3 : Chan → Chan) : (State.modChan a1 a2 a3).poison = a1.poison :=
  (State.modChan_same ..).parts .poison rfl
@[simp] theorem free_modChan (a1 : State) (a2 : Nat) (a3 : Chan → Chan) : (State.modChan a1 a2 a3).free = a1.free :=
  (State.modChan_same ..).parts .free rfl
@[simp] theorem out_modChan (a1 : State) (a2 : Nat) (a3 : Chan → Chan) : (State.modChan a1 a2 a3).out = a1.out :=
  (State.modChan_same ..).parts .out rfl
@[simp] theorem pending_modChan (a1 : State) (a2 : Nat) (a3 : Chan → Chan) : (State.modChan a1 a2 a3).pending = a1.pending :=
  (State.modChan_same ..).parts .pending rfl
@[simp] theorem routing_modVise (a1 : State) (a2 : Nat) (a3 : Vise → Vise) : (State.modVise a1 a2 a3).routing = a1.routing :=
  (State.modVise_same ..).parts .routing rfl
@[simp] theorem tiles_modVise (a1 : State) (a2 : Nat) (a3 : Vise → Vise) : (State.modVise a1 a2 a3).tiles = a1.tiles :=
  (State.modVise_same ..).parts .tiles rfl
@[simp] theorem sched_modVise (a1 : State) (a2 : Nat) (a3 : Vise → Vise) : (State.modVise a1 a2 a3).sched = a1.sched :=
  (State.modVise_same ..).parts .sched rfl
@[simp] theorem time_modVise (a1 : State) (a2 : Nat) (a3 : Vise → Vise) : (State.modVise a1 a2 a3).time = a1.time :=
  (State.modVise_same ..).parts .time rfl
@[simp] theorem ports_modVise (a1 : State) (a2 : Nat) (a3 : Vise → Vise) : (State.modVise a1 a2 a3).ports = a1.ports :=
  (State.modVise_same ..).parts .ports rfl
@[simp] theorem wqs_modVise (a1 : State) (a2 : Nat) (a3 : Vise → Vise) : (State.modVise a1 a2 a3).wqs = a1.wqs :=
  (State.modVise_same ..).parts .wqs rfl
@[simp] theorem cqs_modVise (a1 : State) (a2 : Nat) (a3 : Vise → Vise) : (State.modVise a1 a2 a3).cqs = a1.cqs :=
  (State.modVise_same ..).parts .cqs rfl
@[simp] theorem remote_modVise (a1 : State) (a2 : Nat) (a3 : Vise → Vise) : (State.modVise a1 a2 a3).remote = a1.remote :=
  (State.modVise_same ..).parts .remote rfl
@[simp] theorem matching_modVise (a1 : State) (a2 : Nat) (a3 : Vise → Vise) : (State.modVise a1 a2 a3).matching = a1.matching :=
  (State.modVise_same ..).parts .matching rfl
@[simp] theorem coll_modVise (a1 : State) (a2 : Nat) (a3 : Vise → Vise) : (State.modVise a1 a2 a3).coll = a1.coll :=
  (State.modVise_same ..).parts .coll rfl
@[simp] theorem striker_modVise (a1 : State) (a2 : Nat) (a3 : Vise → Vise) : (State.modVise a1 a2 a3).striker = a1.striker :=
  (State.modVise_same ..).parts .striker rfl
@[simp] theorem trans_modVise (a1 : State) (a2 : Nat) (a3 : Vise → Vise) : (State.modVise a1 a2 a3).trans = a1.trans :=
  (State.modVise_same ..).parts .trans rfl
@[simp] theorem insts_modVise (a1 : State) (a2 : Nat) (a3 : Vise → Vise) : (State.modVise a1 a2 a3).insts = a1.insts :=
  (State.modVise_same ..).parts .insts rfl
@[simp] theorem draw_modVise (a1 : State) (a2 : Nat) (a3 : Vise → Vise) : (State.modVise a1 a2 a3).draw = a1.draw :=
  (State.modVise_same ..).parts .draw rfl
@[simp] theorem hearth_modVise (a1 : State) (a2 : Nat) (a3 : Vise → Vise) : (State.modVise a1 a2 a3).hearth = a1.hearth :=
  (State.modVise_same ..).parts .hearth rfl
@[simp] theorem quench_modVise (a1 : State) (a2 : Nat) (a3 : Vise → Vise) : (State.modVise a1 a2 a3).quench = a1.quench :=
  (State.modVise_same ..).parts .quench rfl
@[simp] theorem counters_modVise (a1 : State) (a2 : Nat) (a3 : Vise → Vise) : (State.modVise a1 a2 a3).counters = a1.counters :=
  (State.modVise_same ..).parts .counters rfl
@[simp] theorem power_modVise (a1 : State) (a2 : Nat) (a3 : Vise → Vise) : (State.modVise a1 a2 a3).power = a1.power :=
  (State.modVise_same ..).parts .power rfl
@[simp] theorem segments_modVise (a1 : State) (a2 : Nat) (a3 : Vise → Vise) : (State.modVise a1 a2 a3).segments = a1.segments :=
  (State.modVise_same ..).parts .segments rfl
@[simp] theorem mem_modVise (a1 : State) (a2 : Nat) (a3 : Vise → Vise) : (State.modVise a1 a2 a3).mem = a1.mem :=
  (State.modVise_same ..).parts .mem rfl
@[simp] theorem poison_modVise (a1 : State) (a2 : Nat) (a3 : Vise → Vise) : (State.modVise a1 a2 a3).poison = a1.poison :=
  (State.modVise_same ..).parts .poison rfl
@[simp] theorem free_modVise (a1 : State) (a2 : Nat) (a3 : Vise → Vise) : (State.modVise a1 a2 a3).free = a1.free :=
  (State.modVise_same ..).parts .free rfl
@[simp] theorem out_modVise (a1 : State) (a2 : Nat) (a3 : Vise → Vise) : (State.modVise a1 a2 a3).out = a1.out :=
  (State.modVise_same ..).parts .out rfl
@[simp] theorem pending_modVise (a1 : State) (a2 : Nat) (a3 : Vise → Vise) : (State.modVise a1 a2 a3).pending = a1.pending :=
  (State.modVise_same ..).parts .pending rfl
@[simp] theorem routing_modGroup (a1 : State) (a2 : Nat) (a3 : Group → Group) : (State.modGroup a1 a2 a3).routing = a1.routing :=
  (State.modGroup_same ..).parts .routing rfl
@[simp] theorem tiles_modGroup (a1 : State) (a2 : Nat) (a3 : Group → Group) : (State.modGroup a1 a2 a3).tiles = a1.tiles :=
  (State.modGroup_same ..).parts .tiles rfl
@[simp] theorem sched_modGroup (a1 : State) (a2 : Nat) (a3 : Group → Group) : (State.modGroup a1 a2 a3).sched = a1.sched :=
  (State.modGroup_same ..).parts .sched rfl
@[simp] theorem time_modGroup (a1 : State) (a2 : Nat) (a3 : Group → Group) : (State.modGroup a1 a2 a3).time = a1.time :=
  (State.modGroup_same ..).parts .time rfl
@[simp] theorem ports_modGroup (a1 : State) (a2 : Nat) (a3 : Group → Group) : (State.modGroup a1 a2 a3).ports = a1.ports :=
  (State.modGroup_same ..).parts .ports rfl
@[simp] theorem wqs_modGroup (a1 : State) (a2 : Nat) (a3 : Group → Group) : (State.modGroup a1 a2 a3).wqs = a1.wqs :=
  (State.modGroup_same ..).parts .wqs rfl
@[simp] theorem cqs_modGroup (a1 : State) (a2 : Nat) (a3 : Group → Group) : (State.modGroup a1 a2 a3).cqs = a1.cqs :=
  (State.modGroup_same ..).parts .cqs rfl
@[simp] theorem remote_modGroup (a1 : State) (a2 : Nat) (a3 : Group → Group) : (State.modGroup a1 a2 a3).remote = a1.remote :=
  (State.modGroup_same ..).parts .remote rfl
@[simp] theorem matching_modGroup (a1 : State) (a2 : Nat) (a3 : Group → Group) : (State.modGroup a1 a2 a3).matching = a1.matching :=
  (State.modGroup_same ..).parts .matching rfl
@[simp] theorem striker_modGroup (a1 : State) (a2 : Nat) (a3 : Group → Group) : (State.modGroup a1 a2 a3).striker = a1.striker :=
  (State.modGroup_same ..).parts .striker rfl
@[simp] theorem trans_modGroup (a1 : State) (a2 : Nat) (a3 : Group → Group) : (State.modGroup a1 a2 a3).trans = a1.trans :=
  (State.modGroup_same ..).parts .trans rfl
@[simp] theorem insts_modGroup (a1 : State) (a2 : Nat) (a3 : Group → Group) : (State.modGroup a1 a2 a3).insts = a1.insts :=
  (State.modGroup_same ..).parts .insts rfl
@[simp] theorem draw_modGroup (a1 : State) (a2 : Nat) (a3 : Group → Group) : (State.modGroup a1 a2 a3).draw = a1.draw :=
  (State.modGroup_same ..).parts .draw rfl
@[simp] theorem vises_modGroup (a1 : State) (a2 : Nat) (a3 : Group → Group) : (State.modGroup a1 a2 a3).vises = a1.vises :=
  (State.modGroup_same ..).parts .vises rfl
@[simp] theorem hearth_modGroup (a1 : State) (a2 : Nat) (a3 : Group → Group) : (State.modGroup a1 a2 a3).hearth = a1.hearth :=
  (State.modGroup_same ..).parts .hearth rfl
@[simp] theorem quench_modGroup (a1 : State) (a2 : Nat) (a3 : Group → Group) : (State.modGroup a1 a2 a3).quench = a1.quench :=
  (State.modGroup_same ..).parts .quench rfl
@[simp] theorem counters_modGroup (a1 : State) (a2 : Nat) (a3 : Group → Group) : (State.modGroup a1 a2 a3).counters = a1.counters :=
  (State.modGroup_same ..).parts .counters rfl
@[simp] theorem power_modGroup (a1 : State) (a2 : Nat) (a3 : Group → Group) : (State.modGroup a1 a2 a3).power = a1.power :=
  (State.modGroup_same ..).parts .power rfl
@[simp] theorem segments_modGroup (a1 : State) (a2 : Nat) (a3 : Group → Group) : (State.modGroup a1 a2 a3).segments = a1.segments :=
  (State.modGroup_same ..).parts .segments rfl
@[simp] theorem mem_modGroup (a1 : State) (a2 : Nat) (a3 : Group → Group) : (State.modGroup a1 a2 a3).mem = a1.mem :=
  (State.modGroup_same ..).parts .mem rfl
@[simp] theorem poison_modGroup (a1 : State) (a2 : Nat) (a3 : Group → Group) : (State.modGroup a1 a2 a3).poison = a1.poison :=
  (State.modGroup_same ..).parts .poison rfl
@[simp] theorem free_modGroup (a1 : State) (a2 : Nat) (a3 : Group → Group) : (State.modGroup a1 a2 a3).free = a1.free :=
  (State.modGroup_same ..).parts .free rfl
@[simp] theorem out_modGroup (a1 : State) (a2 : Nat) (a3 : Group → Group) : (State.modGroup a1 a2 a3).out = a1.out :=
  (State.modGroup_same ..).parts .out rfl
@[simp] theorem pending_modGroup (a1 : State) (a2 : Nat) (a3 : Group → Group) : (State.modGroup a1 a2 a3).pending = a1.pending :=
  (State.modGroup_same ..).parts .pending rfl
@[simp] theorem routing_mendOver (a1 : State) (a2 : Nat) : (State.mendOver a1 a2).routing = a1.routing :=
  (State.mendOver_same ..).parts .routing rfl
@[simp] theorem tiles_mendOver (a1 : State) (a2 : Nat) : (State.mendOver a1 a2).tiles = a1.tiles :=
  (State.mendOver_same ..).parts .tiles rfl
@[simp] theorem sched_mendOver (a1 : State) (a2 : Nat) : (State.mendOver a1 a2).sched = a1.sched :=
  (State.mendOver_same ..).parts .sched rfl
@[simp] theorem time_mendOver (a1 : State) (a2 : Nat) : (State.mendOver a1 a2).time = a1.time :=
  (State.mendOver_same ..).parts .time rfl
@[simp] theorem ports_mendOver (a1 : State) (a2 : Nat) : (State.mendOver a1 a2).ports = a1.ports :=
  (State.mendOver_same ..).parts .ports rfl
@[simp] theorem wqs_mendOver (a1 : State) (a2 : Nat) : (State.mendOver a1 a2).wqs = a1.wqs :=
  (State.mendOver_same ..).parts .wqs rfl
@[simp] theorem cqs_mendOver (a1 : State) (a2 : Nat) : (State.mendOver a1 a2).cqs = a1.cqs :=
  (State.mendOver_same ..).parts .cqs rfl
@[simp] theorem remote_mendOver (a1 : State) (a2 : Nat) : (State.mendOver a1 a2).remote = a1.remote :=
  (State.mendOver_same ..).parts .remote rfl
@[simp] theorem matching_mendOver (a1 : State) (a2 : Nat) : (State.mendOver a1 a2).matching = a1.matching :=
  (State.mendOver_same ..).parts .matching rfl
@[simp] theorem coll_mendOver (a1 : State) (a2 : Nat) : (State.mendOver a1 a2).coll = a1.coll :=
  (State.mendOver_same ..).parts .coll rfl
@[simp] theorem striker_mendOver (a1 : State) (a2 : Nat) : (State.mendOver a1 a2).striker = a1.striker :=
  (State.mendOver_same ..).parts .striker rfl
@[simp] theorem trans_mendOver (a1 : State) (a2 : Nat) : (State.mendOver a1 a2).trans = a1.trans :=
  (State.mendOver_same ..).parts .trans rfl
@[simp] theorem insts_mendOver (a1 : State) (a2 : Nat) : (State.mendOver a1 a2).insts = a1.insts :=
  (State.mendOver_same ..).parts .insts rfl
@[simp] theorem draw_mendOver (a1 : State) (a2 : Nat) : (State.mendOver a1 a2).draw = a1.draw :=
  (State.mendOver_same ..).parts .draw rfl
@[simp] theorem vises_mendOver (a1 : State) (a2 : Nat) : (State.mendOver a1 a2).vises = a1.vises :=
  (State.mendOver_same ..).parts .vises rfl
@[simp] theorem hearth_mendOver (a1 : State) (a2 : Nat) : (State.mendOver a1 a2).hearth = a1.hearth :=
  (State.mendOver_same ..).parts .hearth rfl
@[simp] theorem counters_mendOver (a1 : State) (a2 : Nat) : (State.mendOver a1 a2).counters = a1.counters :=
  (State.mendOver_same ..).parts .counters rfl
@[simp] theorem power_mendOver (a1 : State) (a2 : Nat) : (State.mendOver a1 a2).power = a1.power :=
  (State.mendOver_same ..).parts .power rfl
@[simp] theorem segments_mendOver (a1 : State) (a2 : Nat) : (State.mendOver a1 a2).segments = a1.segments :=
  (State.mendOver_same ..).parts .segments rfl
@[simp] theorem mem_mendOver (a1 : State) (a2 : Nat) : (State.mendOver a1 a2).mem = a1.mem :=
  (State.mendOver_same ..).parts .mem rfl
@[simp] theorem poison_mendOver (a1 : State) (a2 : Nat) : (State.mendOver a1 a2).poison = a1.poison :=
  (State.mendOver_same ..).parts .poison rfl
@[simp] theorem free_mendOver (a1 : State) (a2 : Nat) : (State.mendOver a1 a2).free = a1.free :=
  (State.mendOver_same ..).parts .free rfl
@[simp] theorem out_mendOver (a1 : State) (a2 : Nat) : (State.mendOver a1 a2).out = a1.out :=
  (State.mendOver_same ..).parts .out rfl
@[simp] theorem pending_mendOver (a1 : State) (a2 : Nat) : (State.mendOver a1 a2).pending = a1.pending :=
  (State.mendOver_same ..).parts .pending rfl
@[simp] theorem routing_signal (a1 : State) (a2 : Fn) (a3 : Nat) : (State.signal a1 a2 a3).routing = a1.routing :=
  (State.signal_same ..).parts .routing rfl
@[simp] theorem tiles_signal (a1 : State) (a2 : Fn) (a3 : Nat) : (State.signal a1 a2 a3).tiles = a1.tiles :=
  (State.signal_same ..).parts .tiles rfl
@[simp] theorem sched_signal (a1 : State) (a2 : Fn) (a3 : Nat) : (State.signal a1 a2 a3).sched = a1.sched :=
  (State.signal_same ..).parts .sched rfl
@[simp] theorem time_signal (a1 : State) (a2 : Fn) (a3 : Nat) : (State.signal a1 a2 a3).time = a1.time :=
  (State.signal_same ..).parts .time rfl
@[simp] theorem wqs_signal (a1 : State) (a2 : Fn) (a3 : Nat) : (State.signal a1 a2 a3).wqs = a1.wqs :=
  (State.signal_same ..).parts .wqs rfl
@[simp] theorem cqs_signal (a1 : State) (a2 : Fn) (a3 : Nat) : (State.signal a1 a2 a3).cqs = a1.cqs :=
  (State.signal_same ..).parts .cqs rfl
@[simp] theorem remote_signal (a1 : State) (a2 : Fn) (a3 : Nat) : (State.signal a1 a2 a3).remote = a1.remote :=
  (State.signal_same ..).parts .remote rfl
@[simp] theorem matching_signal (a1 : State) (a2 : Fn) (a3 : Nat) : (State.signal a1 a2 a3).matching = a1.matching :=
  (State.signal_same ..).parts .matching rfl
@[simp] theorem coll_signal (a1 : State) (a2 : Fn) (a3 : Nat) : (State.signal a1 a2 a3).coll = a1.coll :=
  (State.signal_same ..).parts .coll rfl
@[simp] theorem striker_signal (a1 : State) (a2 : Fn) (a3 : Nat) : (State.signal a1 a2 a3).striker = a1.striker :=
  (State.signal_same ..).parts .striker rfl
@[simp] theorem trans_signal (a1 : State) (a2 : Fn) (a3 : Nat) : (State.signal a1 a2 a3).trans = a1.trans :=
  (State.signal_same ..).parts .trans rfl
@[simp] theorem insts_signal (a1 : State) (a2 : Fn) (a3 : Nat) : (State.signal a1 a2 a3).insts = a1.insts :=
  (State.signal_same ..).parts .insts rfl
@[simp] theorem draw_signal (a1 : State) (a2 : Fn) (a3 : Nat) : (State.signal a1 a2 a3).draw = a1.draw :=
  (State.signal_same ..).parts .draw rfl
@[simp] theorem vises_signal (a1 : State) (a2 : Fn) (a3 : Nat) : (State.signal a1 a2 a3).vises = a1.vises :=
  (State.signal_same ..).parts .vises rfl
@[simp] theorem hearth_signal (a1 : State) (a2 : Fn) (a3 : Nat) : (State.signal a1 a2 a3).hearth = a1.hearth :=
  (State.signal_same ..).parts .hearth rfl
@[simp] theorem quench_signal (a1 : State) (a2 : Fn) (a3 : Nat) : (State.signal a1 a2 a3).quench = a1.quench :=
  (State.signal_same ..).parts .quench rfl
@[simp] theorem power_signal (a1 : State) (a2 : Fn) (a3 : Nat) : (State.signal a1 a2 a3).power = a1.power :=
  (State.signal_same ..).parts .power rfl
@[simp] theorem segments_signal (a1 : State) (a2 : Fn) (a3 : Nat) : (State.signal a1 a2 a3).segments = a1.segments :=
  (State.signal_same ..).parts .segments rfl
@[simp] theorem mem_signal (a1 : State) (a2 : Fn) (a3 : Nat) : (State.signal a1 a2 a3).mem = a1.mem :=
  (State.signal_same ..).parts .mem rfl
@[simp] theorem poison_signal (a1 : State) (a2 : Fn) (a3 : Nat) : (State.signal a1 a2 a3).poison = a1.poison :=
  (State.signal_same ..).parts .poison rfl
@[simp] theorem free_signal (a1 : State) (a2 : Fn) (a3 : Nat) : (State.signal a1 a2 a3).free = a1.free :=
  (State.signal_same ..).parts .free rfl
@[simp] theorem pending_signal (a1 : State) (a2 : Fn) (a3 : Nat) : (State.signal a1 a2 a3).pending = a1.pending :=
  (State.signal_same ..).parts .pending rfl
@[simp] theorem routing_event (a1 : State) (a2 : Fn) (a3 : BitVec 16) (a4 : BitVec 32) (a5 : BitVec 128) : (State.event a1 a2 a3 a4 a5).routing = a1.routing :=
  (State.event_same ..).parts .routing rfl
@[simp] theorem tiles_event (a1 : State) (a2 : Fn) (a3 : BitVec 16) (a4 : BitVec 32) (a5 : BitVec 128) : (State.event a1 a2 a3 a4 a5).tiles = a1.tiles :=
  (State.event_same ..).parts .tiles rfl
@[simp] theorem sched_event (a1 : State) (a2 : Fn) (a3 : BitVec 16) (a4 : BitVec 32) (a5 : BitVec 128) : (State.event a1 a2 a3 a4 a5).sched = a1.sched :=
  (State.event_same ..).parts .sched rfl
@[simp] theorem time_event (a1 : State) (a2 : Fn) (a3 : BitVec 16) (a4 : BitVec 32) (a5 : BitVec 128) : (State.event a1 a2 a3 a4 a5).time = a1.time :=
  (State.event_same ..).parts .time rfl
@[simp] theorem wqs_event (a1 : State) (a2 : Fn) (a3 : BitVec 16) (a4 : BitVec 32) (a5 : BitVec 128) : (State.event a1 a2 a3 a4 a5).wqs = a1.wqs :=
  (State.event_same ..).parts .wqs rfl
@[simp] theorem cqs_event (a1 : State) (a2 : Fn) (a3 : BitVec 16) (a4 : BitVec 32) (a5 : BitVec 128) : (State.event a1 a2 a3 a4 a5).cqs = a1.cqs :=
  (State.event_same ..).parts .cqs rfl
@[simp] theorem remote_event (a1 : State) (a2 : Fn) (a3 : BitVec 16) (a4 : BitVec 32) (a5 : BitVec 128) : (State.event a1 a2 a3 a4 a5).remote = a1.remote :=
  (State.event_same ..).parts .remote rfl
@[simp] theorem matching_event (a1 : State) (a2 : Fn) (a3 : BitVec 16) (a4 : BitVec 32) (a5 : BitVec 128) : (State.event a1 a2 a3 a4 a5).matching = a1.matching :=
  (State.event_same ..).parts .matching rfl
@[simp] theorem coll_event (a1 : State) (a2 : Fn) (a3 : BitVec 16) (a4 : BitVec 32) (a5 : BitVec 128) : (State.event a1 a2 a3 a4 a5).coll = a1.coll :=
  (State.event_same ..).parts .coll rfl
@[simp] theorem striker_event (a1 : State) (a2 : Fn) (a3 : BitVec 16) (a4 : BitVec 32) (a5 : BitVec 128) : (State.event a1 a2 a3 a4 a5).striker = a1.striker :=
  (State.event_same ..).parts .striker rfl
@[simp] theorem trans_event (a1 : State) (a2 : Fn) (a3 : BitVec 16) (a4 : BitVec 32) (a5 : BitVec 128) : (State.event a1 a2 a3 a4 a5).trans = a1.trans :=
  (State.event_same ..).parts .trans rfl
@[simp] theorem insts_event (a1 : State) (a2 : Fn) (a3 : BitVec 16) (a4 : BitVec 32) (a5 : BitVec 128) : (State.event a1 a2 a3 a4 a5).insts = a1.insts :=
  (State.event_same ..).parts .insts rfl
@[simp] theorem draw_event (a1 : State) (a2 : Fn) (a3 : BitVec 16) (a4 : BitVec 32) (a5 : BitVec 128) : (State.event a1 a2 a3 a4 a5).draw = a1.draw :=
  (State.event_same ..).parts .draw rfl
@[simp] theorem vises_event (a1 : State) (a2 : Fn) (a3 : BitVec 16) (a4 : BitVec 32) (a5 : BitVec 128) : (State.event a1 a2 a3 a4 a5).vises = a1.vises :=
  (State.event_same ..).parts .vises rfl
@[simp] theorem quench_event (a1 : State) (a2 : Fn) (a3 : BitVec 16) (a4 : BitVec 32) (a5 : BitVec 128) : (State.event a1 a2 a3 a4 a5).quench = a1.quench :=
  (State.event_same ..).parts .quench rfl
@[simp] theorem power_event (a1 : State) (a2 : Fn) (a3 : BitVec 16) (a4 : BitVec 32) (a5 : BitVec 128) : (State.event a1 a2 a3 a4 a5).power = a1.power :=
  (State.event_same ..).parts .power rfl
@[simp] theorem segments_event (a1 : State) (a2 : Fn) (a3 : BitVec 16) (a4 : BitVec 32) (a5 : BitVec 128) : (State.event a1 a2 a3 a4 a5).segments = a1.segments :=
  (State.event_same ..).parts .segments rfl
@[simp] theorem mem_event (a1 : State) (a2 : Fn) (a3 : BitVec 16) (a4 : BitVec 32) (a5 : BitVec 128) : (State.event a1 a2 a3 a4 a5).mem = a1.mem :=
  (State.event_same ..).parts .mem rfl
@[simp] theorem poison_event (a1 : State) (a2 : Fn) (a3 : BitVec 16) (a4 : BitVec 32) (a5 : BitVec 128) : (State.event a1 a2 a3 a4 a5).poison = a1.poison :=
  (State.event_same ..).parts .poison rfl
@[simp] theorem free_event (a1 : State) (a2 : Fn) (a3 : BitVec 16) (a4 : BitVec 32) (a5 : BitVec 128) : (State.event a1 a2 a3 a4 a5).free = a1.free :=
  (State.event_same ..).parts .free rfl
@[simp] theorem pending_event (a1 : State) (a2 : Fn) (a3 : BitVec 16) (a4 : BitVec 32) (a5 : BitVec 128) : (State.event a1 a2 a3 a4 a5).pending = a1.pending :=
  (State.event_same ..).parts .pending rfl
@[simp] theorem time_sendTc3 (a1 : State) (a2 : Bool) (a3 : Packet) : (State.sendTc3 a1 a2 a3).time = a1.time :=
  (State.sendTc3_same ..).parts .time rfl
@[simp] theorem ports_sendTc3 (a1 : State) (a2 : Bool) (a3 : Packet) : (State.sendTc3 a1 a2 a3).ports = a1.ports :=
  (State.sendTc3_same ..).parts .ports rfl
@[simp] theorem wqs_sendTc3 (a1 : State) (a2 : Bool) (a3 : Packet) : (State.sendTc3 a1 a2 a3).wqs = a1.wqs :=
  (State.sendTc3_same ..).parts .wqs rfl
@[simp] theorem cqs_sendTc3 (a1 : State) (a2 : Bool) (a3 : Packet) : (State.sendTc3 a1 a2 a3).cqs = a1.cqs :=
  (State.sendTc3_same ..).parts .cqs rfl
@[simp] theorem remote_sendTc3 (a1 : State) (a2 : Bool) (a3 : Packet) : (State.sendTc3 a1 a2 a3).remote = a1.remote :=
  (State.sendTc3_same ..).parts .remote rfl
@[simp] theorem matching_sendTc3 (a1 : State) (a2 : Bool) (a3 : Packet) : (State.sendTc3 a1 a2 a3).matching = a1.matching :=
  (State.sendTc3_same ..).parts .matching rfl
@[simp] theorem coll_sendTc3 (a1 : State) (a2 : Bool) (a3 : Packet) : (State.sendTc3 a1 a2 a3).coll = a1.coll :=
  (State.sendTc3_same ..).parts .coll rfl
@[simp] theorem striker_sendTc3 (a1 : State) (a2 : Bool) (a3 : Packet) : (State.sendTc3 a1 a2 a3).striker = a1.striker :=
  (State.sendTc3_same ..).parts .striker rfl
@[simp] theorem trans_sendTc3 (a1 : State) (a2 : Bool) (a3 : Packet) : (State.sendTc3 a1 a2 a3).trans = a1.trans :=
  (State.sendTc3_same ..).parts .trans rfl
@[simp] theorem insts_sendTc3 (a1 : State) (a2 : Bool) (a3 : Packet) : (State.sendTc3 a1 a2 a3).insts = a1.insts :=
  (State.sendTc3_same ..).parts .insts rfl
@[simp] theorem draw_sendTc3 (a1 : State) (a2 : Bool) (a3 : Packet) : (State.sendTc3 a1 a2 a3).draw = a1.draw :=
  (State.sendTc3_same ..).parts .draw rfl
@[simp] theorem vises_sendTc3 (a1 : State) (a2 : Bool) (a3 : Packet) : (State.sendTc3 a1 a2 a3).vises = a1.vises :=
  (State.sendTc3_same ..).parts .vises rfl
@[simp] theorem hearth_sendTc3 (a1 : State) (a2 : Bool) (a3 : Packet) : (State.sendTc3 a1 a2 a3).hearth = a1.hearth :=
  (State.sendTc3_same ..).parts .hearth rfl
@[simp] theorem power_sendTc3 (a1 : State) (a2 : Bool) (a3 : Packet) : (State.sendTc3 a1 a2 a3).power = a1.power :=
  (State.sendTc3_same ..).parts .power rfl
@[simp] theorem segments_sendTc3 (a1 : State) (a2 : Bool) (a3 : Packet) : (State.sendTc3 a1 a2 a3).segments = a1.segments :=
  (State.sendTc3_same ..).parts .segments rfl
@[simp] theorem mem_sendTc3 (a1 : State) (a2 : Bool) (a3 : Packet) : (State.sendTc3 a1 a2 a3).mem = a1.mem :=
  (State.sendTc3_same ..).parts .mem rfl
@[simp] theorem poison_sendTc3 (a1 : State) (a2 : Bool) (a3 : Packet) : (State.sendTc3 a1 a2 a3).poison = a1.poison :=
  (State.sendTc3_same ..).parts .poison rfl
@[simp] theorem free_sendTc3 (a1 : State) (a2 : Bool) (a3 : Packet) : (State.sendTc3 a1 a2 a3).free = a1.free :=
  (State.sendTc3_same ..).parts .free rfl
@[simp] theorem out_sendTc3 (a1 : State) (a2 : Bool) (a3 : Packet) : (State.sendTc3 a1 a2 a3).out = a1.out :=
  (State.sendTc3_same ..).parts .out rfl
@[simp] theorem pending_sendTc3 (a1 : State) (a2 : Bool) (a3 : Packet) : (State.sendTc3 a1 a2 a3).pending = a1.pending :=
  (State.sendTc3_same ..).parts .pending rfl
@[simp] theorem time_respond (a1 : State) (a2 : Arrival) (a3 : Resp) : (State.respond a1 a2 a3).time = a1.time :=
  (State.respond_same ..).parts .time rfl
@[simp] theorem wqs_respond (a1 : State) (a2 : Arrival) (a3 : Resp) : (State.respond a1 a2 a3).wqs = a1.wqs :=
  (State.respond_same ..).parts .wqs rfl
@[simp] theorem cqs_respond (a1 : State) (a2 : Arrival) (a3 : Resp) : (State.respond a1 a2 a3).cqs = a1.cqs :=
  (State.respond_same ..).parts .cqs rfl
@[simp] theorem remote_respond (a1 : State) (a2 : Arrival) (a3 : Resp) : (State.respond a1 a2 a3).remote = a1.remote :=
  (State.respond_same ..).parts .remote rfl
@[simp] theorem matching_respond (a1 : State) (a2 : Arrival) (a3 : Resp) : (State.respond a1 a2 a3).matching = a1.matching :=
  (State.respond_same ..).parts .matching rfl
@[simp] theorem coll_respond (a1 : State) (a2 : Arrival) (a3 : Resp) : (State.respond a1 a2 a3).coll = a1.coll :=
  (State.respond_same ..).parts .coll rfl
@[simp] theorem striker_respond (a1 : State) (a2 : Arrival) (a3 : Resp) : (State.respond a1 a2 a3).striker = a1.striker :=
  (State.respond_same ..).parts .striker rfl
@[simp] theorem trans_respond (a1 : State) (a2 : Arrival) (a3 : Resp) : (State.respond a1 a2 a3).trans = a1.trans :=
  (State.respond_same ..).parts .trans rfl
@[simp] theorem insts_respond (a1 : State) (a2 : Arrival) (a3 : Resp) : (State.respond a1 a2 a3).insts = a1.insts :=
  (State.respond_same ..).parts .insts rfl
@[simp] theorem draw_respond (a1 : State) (a2 : Arrival) (a3 : Resp) : (State.respond a1 a2 a3).draw = a1.draw :=
  (State.respond_same ..).parts .draw rfl
@[simp] theorem vises_respond (a1 : State) (a2 : Arrival) (a3 : Resp) : (State.respond a1 a2 a3).vises = a1.vises :=
  (State.respond_same ..).parts .vises rfl
@[simp] theorem power_respond (a1 : State) (a2 : Arrival) (a3 : Resp) : (State.respond a1 a2 a3).power = a1.power :=
  (State.respond_same ..).parts .power rfl
@[simp] theorem segments_respond (a1 : State) (a2 : Arrival) (a3 : Resp) : (State.respond a1 a2 a3).segments = a1.segments :=
  (State.respond_same ..).parts .segments rfl
@[simp] theorem mem_respond (a1 : State) (a2 : Arrival) (a3 : Resp) : (State.respond a1 a2 a3).mem = a1.mem :=
  (State.respond_same ..).parts .mem rfl
@[simp] theorem poison_respond (a1 : State) (a2 : Arrival) (a3 : Resp) : (State.respond a1 a2 a3).poison = a1.poison :=
  (State.respond_same ..).parts .poison rfl
@[simp] theorem free_respond (a1 : State) (a2 : Arrival) (a3 : Resp) : (State.respond a1 a2 a3).free = a1.free :=
  (State.respond_same ..).parts .free rfl
@[simp] theorem pending_respond (a1 : State) (a2 : Arrival) (a3 : Resp) : (State.respond a1 a2 a3).pending = a1.pending :=
  (State.respond_same ..).parts .pending rfl
@[simp] theorem time_answer (a1 : State) (a2 : Arrival) (a3 : BitVec 32) (a4 : BitVec 16) (a5 : BitVec 8) (a6 : List Byte) : (State.answer a1 a2 a3 a4 a5 a6).time = a1.time :=
  (State.answer_same ..).parts .time rfl
@[simp] theorem wqs_answer (a1 : State) (a2 : Arrival) (a3 : BitVec 32) (a4 : BitVec 16) (a5 : BitVec 8) (a6 : List Byte) : (State.answer a1 a2 a3 a4 a5 a6).wqs = a1.wqs :=
  (State.answer_same ..).parts .wqs rfl
@[simp] theorem cqs_answer (a1 : State) (a2 : Arrival) (a3 : BitVec 32) (a4 : BitVec 16) (a5 : BitVec 8) (a6 : List Byte) : (State.answer a1 a2 a3 a4 a5 a6).cqs = a1.cqs :=
  (State.answer_same ..).parts .cqs rfl
@[simp] theorem remote_answer (a1 : State) (a2 : Arrival) (a3 : BitVec 32) (a4 : BitVec 16) (a5 : BitVec 8) (a6 : List Byte) : (State.answer a1 a2 a3 a4 a5 a6).remote = a1.remote :=
  (State.answer_same ..).parts .remote rfl
@[simp] theorem matching_answer (a1 : State) (a2 : Arrival) (a3 : BitVec 32) (a4 : BitVec 16) (a5 : BitVec 8) (a6 : List Byte) : (State.answer a1 a2 a3 a4 a5 a6).matching = a1.matching :=
  (State.answer_same ..).parts .matching rfl
@[simp] theorem coll_answer (a1 : State) (a2 : Arrival) (a3 : BitVec 32) (a4 : BitVec 16) (a5 : BitVec 8) (a6 : List Byte) : (State.answer a1 a2 a3 a4 a5 a6).coll = a1.coll :=
  (State.answer_same ..).parts .coll rfl
@[simp] theorem striker_answer (a1 : State) (a2 : Arrival) (a3 : BitVec 32) (a4 : BitVec 16) (a5 : BitVec 8) (a6 : List Byte) : (State.answer a1 a2 a3 a4 a5 a6).striker = a1.striker :=
  (State.answer_same ..).parts .striker rfl
@[simp] theorem trans_answer (a1 : State) (a2 : Arrival) (a3 : BitVec 32) (a4 : BitVec 16) (a5 : BitVec 8) (a6 : List Byte) : (State.answer a1 a2 a3 a4 a5 a6).trans = a1.trans :=
  (State.answer_same ..).parts .trans rfl
@[simp] theorem insts_answer (a1 : State) (a2 : Arrival) (a3 : BitVec 32) (a4 : BitVec 16) (a5 : BitVec 8) (a6 : List Byte) : (State.answer a1 a2 a3 a4 a5 a6).insts = a1.insts :=
  (State.answer_same ..).parts .insts rfl
@[simp] theorem draw_answer (a1 : State) (a2 : Arrival) (a3 : BitVec 32) (a4 : BitVec 16) (a5 : BitVec 8) (a6 : List Byte) : (State.answer a1 a2 a3 a4 a5 a6).draw = a1.draw :=
  (State.answer_same ..).parts .draw rfl
@[simp] theorem vises_answer (a1 : State) (a2 : Arrival) (a3 : BitVec 32) (a4 : BitVec 16) (a5 : BitVec 8) (a6 : List Byte) : (State.answer a1 a2 a3 a4 a5 a6).vises = a1.vises :=
  (State.answer_same ..).parts .vises rfl
@[simp] theorem power_answer (a1 : State) (a2 : Arrival) (a3 : BitVec 32) (a4 : BitVec 16) (a5 : BitVec 8) (a6 : List Byte) : (State.answer a1 a2 a3 a4 a5 a6).power = a1.power :=
  (State.answer_same ..).parts .power rfl
@[simp] theorem segments_answer (a1 : State) (a2 : Arrival) (a3 : BitVec 32) (a4 : BitVec 16) (a5 : BitVec 8) (a6 : List Byte) : (State.answer a1 a2 a3 a4 a5 a6).segments = a1.segments :=
  (State.answer_same ..).parts .segments rfl
@[simp] theorem mem_answer (a1 : State) (a2 : Arrival) (a3 : BitVec 32) (a4 : BitVec 16) (a5 : BitVec 8) (a6 : List Byte) : (State.answer a1 a2 a3 a4 a5 a6).mem = a1.mem :=
  (State.answer_same ..).parts .mem rfl
@[simp] theorem poison_answer (a1 : State) (a2 : Arrival) (a3 : BitVec 32) (a4 : BitVec 16) (a5 : BitVec 8) (a6 : List Byte) : (State.answer a1 a2 a3 a4 a5 a6).poison = a1.poison :=
  (State.answer_same ..).parts .poison rfl
@[simp] theorem free_answer (a1 : State) (a2 : Arrival) (a3 : BitVec 32) (a4 : BitVec 16) (a5 : BitVec 8) (a6 : List Byte) : (State.answer a1 a2 a3 a4 a5 a6).free = a1.free :=
  (State.answer_same ..).parts .free rfl
@[simp] theorem pending_answer (a1 : State) (a2 : Arrival) (a3 : BitVec 32) (a4 : BitVec 16) (a5 : BitVec 8) (a6 : List Byte) : (State.answer a1 a2 a3 a4 a5 a6).pending = a1.pending :=
  (State.answer_same ..).parts .pending rfl
@[simp] theorem routing_take (a1 : State) (a2 : QCmd) : (State.take a1 a2).routing = a1.routing :=
  (State.take_same ..).parts .routing rfl
@[simp] theorem tiles_take (a1 : State) (a2 : QCmd) : (State.take a1 a2).tiles = a1.tiles :=
  (State.take_same ..).parts .tiles rfl
@[simp] theorem sched_take (a1 : State) (a2 : QCmd) : (State.take a1 a2).sched = a1.sched :=
  (State.take_same ..).parts .sched rfl
@[simp] theorem time_take (a1 : State) (a2 : QCmd) : (State.take a1 a2).time = a1.time :=
  (State.take_same ..).parts .time rfl
@[simp] theorem ports_take (a1 : State) (a2 : QCmd) : (State.take a1 a2).ports = a1.ports :=
  (State.take_same ..).parts .ports rfl
@[simp] theorem wqs_take (a1 : State) (a2 : QCmd) : (State.take a1 a2).wqs = a1.wqs :=
  (State.take_same ..).parts .wqs rfl
@[simp] theorem cqs_take (a1 : State) (a2 : QCmd) : (State.take a1 a2).cqs = a1.cqs :=
  (State.take_same ..).parts .cqs rfl
@[simp] theorem remote_take (a1 : State) (a2 : QCmd) : (State.take a1 a2).remote = a1.remote :=
  (State.take_same ..).parts .remote rfl
@[simp] theorem matching_take (a1 : State) (a2 : QCmd) : (State.take a1 a2).matching = a1.matching :=
  (State.take_same ..).parts .matching rfl
@[simp] theorem coll_take (a1 : State) (a2 : QCmd) : (State.take a1 a2).coll = a1.coll :=
  (State.take_same ..).parts .coll rfl
@[simp] theorem striker_take (a1 : State) (a2 : QCmd) : (State.take a1 a2).striker = a1.striker :=
  (State.take_same ..).parts .striker rfl
@[simp] theorem trans_take (a1 : State) (a2 : QCmd) : (State.take a1 a2).trans = a1.trans :=
  (State.take_same ..).parts .trans rfl
@[simp] theorem insts_take (a1 : State) (a2 : QCmd) : (State.take a1 a2).insts = a1.insts :=
  (State.take_same ..).parts .insts rfl
@[simp] theorem draw_take (a1 : State) (a2 : QCmd) : (State.take a1 a2).draw = a1.draw :=
  (State.take_same ..).parts .draw rfl
@[simp] theorem vises_take (a1 : State) (a2 : QCmd) : (State.take a1 a2).vises = a1.vises :=
  (State.take_same ..).parts .vises rfl
@[simp] theorem quench_take (a1 : State) (a2 : QCmd) : (State.take a1 a2).quench = a1.quench :=
  (State.take_same ..).parts .quench rfl
@[simp] theorem power_take (a1 : State) (a2 : QCmd) : (State.take a1 a2).power = a1.power :=
  (State.take_same ..).parts .power rfl
@[simp] theorem segments_take (a1 : State) (a2 : QCmd) : (State.take a1 a2).segments = a1.segments :=
  (State.take_same ..).parts .segments rfl
@[simp] theorem mem_take (a1 : State) (a2 : QCmd) : (State.take a1 a2).mem = a1.mem :=
  (State.take_same ..).parts .mem rfl
@[simp] theorem poison_take (a1 : State) (a2 : QCmd) : (State.take a1 a2).poison = a1.poison :=
  (State.take_same ..).parts .poison rfl
@[simp] theorem free_take (a1 : State) (a2 : QCmd) : (State.take a1 a2).free = a1.free :=
  (State.take_same ..).parts .free rfl
@[simp] theorem out_take (a1 : State) (a2 : QCmd) : (State.take a1 a2).out = a1.out :=
  (State.take_same ..).parts .out rfl
@[simp] theorem pending_take (a1 : State) (a2 : QCmd) : (State.take a1 a2).pending = a1.pending :=
  (State.take_same ..).parts .pending rfl
@[simp] theorem time_reply (a1 : State) (a2 : Call) (a3 : BitVec 16) (a4 : Reply) : (State.reply a1 a2 a3 a4).time = a1.time :=
  (State.reply_same ..).parts .time rfl
@[simp] theorem wqs_reply (a1 : State) (a2 : Call) (a3 : BitVec 16) (a4 : Reply) : (State.reply a1 a2 a3 a4).wqs = a1.wqs :=
  (State.reply_same ..).parts .wqs rfl
@[simp] theorem cqs_reply (a1 : State) (a2 : Call) (a3 : BitVec 16) (a4 : Reply) : (State.reply a1 a2 a3 a4).cqs = a1.cqs :=
  (State.reply_same ..).parts .cqs rfl
@[simp] theorem remote_reply (a1 : State) (a2 : Call) (a3 : BitVec 16) (a4 : Reply) : (State.reply a1 a2 a3 a4).remote = a1.remote :=
  (State.reply_same ..).parts .remote rfl
@[simp] theorem matching_reply (a1 : State) (a2 : Call) (a3 : BitVec 16) (a4 : Reply) : (State.reply a1 a2 a3 a4).matching = a1.matching :=
  (State.reply_same ..).parts .matching rfl
@[simp] theorem coll_reply (a1 : State) (a2 : Call) (a3 : BitVec 16) (a4 : Reply) : (State.reply a1 a2 a3 a4).coll = a1.coll :=
  (State.reply_same ..).parts .coll rfl
@[simp] theorem striker_reply (a1 : State) (a2 : Call) (a3 : BitVec 16) (a4 : Reply) : (State.reply a1 a2 a3 a4).striker = a1.striker :=
  (State.reply_same ..).parts .striker rfl
@[simp] theorem trans_reply (a1 : State) (a2 : Call) (a3 : BitVec 16) (a4 : Reply) : (State.reply a1 a2 a3 a4).trans = a1.trans :=
  (State.reply_same ..).parts .trans rfl
@[simp] theorem insts_reply (a1 : State) (a2 : Call) (a3 : BitVec 16) (a4 : Reply) : (State.reply a1 a2 a3 a4).insts = a1.insts :=
  (State.reply_same ..).parts .insts rfl
@[simp] theorem draw_reply (a1 : State) (a2 : Call) (a3 : BitVec 16) (a4 : Reply) : (State.reply a1 a2 a3 a4).draw = a1.draw :=
  (State.reply_same ..).parts .draw rfl
@[simp] theorem vises_reply (a1 : State) (a2 : Call) (a3 : BitVec 16) (a4 : Reply) : (State.reply a1 a2 a3 a4).vises = a1.vises :=
  (State.reply_same ..).parts .vises rfl
@[simp] theorem power_reply (a1 : State) (a2 : Call) (a3 : BitVec 16) (a4 : Reply) : (State.reply a1 a2 a3 a4).power = a1.power :=
  (State.reply_same ..).parts .power rfl
@[simp] theorem segments_reply (a1 : State) (a2 : Call) (a3 : BitVec 16) (a4 : Reply) : (State.reply a1 a2 a3 a4).segments = a1.segments :=
  (State.reply_same ..).parts .segments rfl
@[simp] theorem mem_reply (a1 : State) (a2 : Call) (a3 : BitVec 16) (a4 : Reply) : (State.reply a1 a2 a3 a4).mem = a1.mem :=
  (State.reply_same ..).parts .mem rfl
@[simp] theorem poison_reply (a1 : State) (a2 : Call) (a3 : BitVec 16) (a4 : Reply) : (State.reply a1 a2 a3 a4).poison = a1.poison :=
  (State.reply_same ..).parts .poison rfl
@[simp] theorem free_reply (a1 : State) (a2 : Call) (a3 : BitVec 16) (a4 : Reply) : (State.reply a1 a2 a3 a4).free = a1.free :=
  (State.reply_same ..).parts .free rfl
@[simp] theorem pending_reply (a1 : State) (a2 : Call) (a3 : BitVec 16) (a4 : Reply) : (State.reply a1 a2 a3 a4).pending = a1.pending :=
  (State.reply_same ..).parts .pending rfl
@[simp] theorem time_serve (a1 : State) : (State.serve a1).time = a1.time :=
  (State.serve_same ..).parts .time rfl
@[simp] theorem wqs_serve (a1 : State) : (State.serve a1).wqs = a1.wqs :=
  (State.serve_same ..).parts .wqs rfl
@[simp] theorem cqs_serve (a1 : State) : (State.serve a1).cqs = a1.cqs :=
  (State.serve_same ..).parts .cqs rfl
@[simp] theorem remote_serve (a1 : State) : (State.serve a1).remote = a1.remote :=
  (State.serve_same ..).parts .remote rfl
@[simp] theorem matching_serve (a1 : State) : (State.serve a1).matching = a1.matching :=
  (State.serve_same ..).parts .matching rfl
@[simp] theorem coll_serve (a1 : State) : (State.serve a1).coll = a1.coll :=
  (State.serve_same ..).parts .coll rfl
@[simp] theorem striker_serve (a1 : State) : (State.serve a1).striker = a1.striker :=
  (State.serve_same ..).parts .striker rfl
@[simp] theorem trans_serve (a1 : State) : (State.serve a1).trans = a1.trans :=
  (State.serve_same ..).parts .trans rfl
@[simp] theorem insts_serve (a1 : State) : (State.serve a1).insts = a1.insts :=
  (State.serve_same ..).parts .insts rfl
@[simp] theorem draw_serve (a1 : State) : (State.serve a1).draw = a1.draw :=
  (State.serve_same ..).parts .draw rfl
@[simp] theorem vises_serve (a1 : State) : (State.serve a1).vises = a1.vises :=
  (State.serve_same ..).parts .vises rfl
@[simp] theorem power_serve (a1 : State) : (State.serve a1).power = a1.power :=
  (State.serve_same ..).parts .power rfl
@[simp] theorem segments_serve (a1 : State) : (State.serve a1).segments = a1.segments :=
  (State.serve_same ..).parts .segments rfl
@[simp] theorem mem_serve (a1 : State) : (State.serve a1).mem = a1.mem :=
  (State.serve_same ..).parts .mem rfl
@[simp] theorem poison_serve (a1 : State) : (State.serve a1).poison = a1.poison :=
  (State.serve_same ..).parts .poison rfl
@[simp] theorem free_serve (a1 : State) : (State.serve a1).free = a1.free :=
  (State.serve_same ..).parts .free rfl
@[simp] theorem pending_serve (a1 : State) : (State.serve a1).pending = a1.pending :=
  (State.serve_same ..).parts .pending rfl
@[simp] theorem routing_badWrite (a1 : State) : (State.badWrite a1).routing = a1.routing :=
  (State.badWrite_same ..).parts .routing rfl
@[simp] theorem tiles_badWrite (a1 : State) : (State.badWrite a1).tiles = a1.tiles :=
  (State.badWrite_same ..).parts .tiles rfl
@[simp] theorem sched_badWrite (a1 : State) : (State.badWrite a1).sched = a1.sched :=
  (State.badWrite_same ..).parts .sched rfl
@[simp] theorem time_badWrite (a1 : State) : (State.badWrite a1).time = a1.time :=
  (State.badWrite_same ..).parts .time rfl
@[simp] theorem ports_badWrite (a1 : State) : (State.badWrite a1).ports = a1.ports :=
  (State.badWrite_same ..).parts .ports rfl
@[simp] theorem wqs_badWrite (a1 : State) : (State.badWrite a1).wqs = a1.wqs :=
  (State.badWrite_same ..).parts .wqs rfl
@[simp] theorem cqs_badWrite (a1 : State) : (State.badWrite a1).cqs = a1.cqs :=
  (State.badWrite_same ..).parts .cqs rfl
@[simp] theorem remote_badWrite (a1 : State) : (State.badWrite a1).remote = a1.remote :=
  (State.badWrite_same ..).parts .remote rfl
@[simp] theorem matching_badWrite (a1 : State) : (State.badWrite a1).matching = a1.matching :=
  (State.badWrite_same ..).parts .matching rfl
@[simp] theorem coll_badWrite (a1 : State) : (State.badWrite a1).coll = a1.coll :=
  (State.badWrite_same ..).parts .coll rfl
@[simp] theorem striker_badWrite (a1 : State) : (State.badWrite a1).striker = a1.striker :=
  (State.badWrite_same ..).parts .striker rfl
@[simp] theorem trans_badWrite (a1 : State) : (State.badWrite a1).trans = a1.trans :=
  (State.badWrite_same ..).parts .trans rfl
@[simp] theorem insts_badWrite (a1 : State) : (State.badWrite a1).insts = a1.insts :=
  (State.badWrite_same ..).parts .insts rfl
@[simp] theorem draw_badWrite (a1 : State) : (State.badWrite a1).draw = a1.draw :=
  (State.badWrite_same ..).parts .draw rfl
@[simp] theorem vises_badWrite (a1 : State) : (State.badWrite a1).vises = a1.vises :=
  (State.badWrite_same ..).parts .vises rfl
@[simp] theorem hearth_badWrite (a1 : State) : (State.badWrite a1).hearth = a1.hearth :=
  (State.badWrite_same ..).parts .hearth rfl
@[simp] theorem power_badWrite (a1 : State) : (State.badWrite a1).power = a1.power :=
  (State.badWrite_same ..).parts .power rfl
@[simp] theorem segments_badWrite (a1 : State) : (State.badWrite a1).segments = a1.segments :=
  (State.badWrite_same ..).parts .segments rfl
@[simp] theorem mem_badWrite (a1 : State) : (State.badWrite a1).mem = a1.mem :=
  (State.badWrite_same ..).parts .mem rfl
@[simp] theorem poison_badWrite (a1 : State) : (State.badWrite a1).poison = a1.poison :=
  (State.badWrite_same ..).parts .poison rfl
@[simp] theorem free_badWrite (a1 : State) : (State.badWrite a1).free = a1.free :=
  (State.badWrite_same ..).parts .free rfl
@[simp] theorem out_badWrite (a1 : State) : (State.badWrite a1).out = a1.out :=
  (State.badWrite_same ..).parts .out rfl
@[simp] theorem pending_badWrite (a1 : State) : (State.badWrite a1).pending = a1.pending :=
  (State.badWrite_same ..).parts .pending rfl
@[simp] theorem routing_setMode (a1 : State) (a2 : Mode) : (State.setMode a1 a2).routing = a1.routing :=
  (State.setMode_same ..).parts .routing rfl
@[simp] theorem tiles_setMode (a1 : State) (a2 : Mode) : (State.setMode a1 a2).tiles = a1.tiles :=
  (State.setMode_same ..).parts .tiles rfl
@[simp] theorem sched_setMode (a1 : State) (a2 : Mode) : (State.setMode a1 a2).sched = a1.sched :=
  (State.setMode_same ..).parts .sched rfl
@[simp] theorem time_setMode (a1 : State) (a2 : Mode) : (State.setMode a1 a2).time = a1.time :=
  (State.setMode_same ..).parts .time rfl
@[simp] theorem wqs_setMode (a1 : State) (a2 : Mode) : (State.setMode a1 a2).wqs = a1.wqs :=
  (State.setMode_same ..).parts .wqs rfl
@[simp] theorem cqs_setMode (a1 : State) (a2 : Mode) : (State.setMode a1 a2).cqs = a1.cqs :=
  (State.setMode_same ..).parts .cqs rfl
@[simp] theorem remote_setMode (a1 : State) (a2 : Mode) : (State.setMode a1 a2).remote = a1.remote :=
  (State.setMode_same ..).parts .remote rfl
@[simp] theorem matching_setMode (a1 : State) (a2 : Mode) : (State.setMode a1 a2).matching = a1.matching :=
  (State.setMode_same ..).parts .matching rfl
@[simp] theorem coll_setMode (a1 : State) (a2 : Mode) : (State.setMode a1 a2).coll = a1.coll :=
  (State.setMode_same ..).parts .coll rfl
@[simp] theorem striker_setMode (a1 : State) (a2 : Mode) : (State.setMode a1 a2).striker = a1.striker :=
  (State.setMode_same ..).parts .striker rfl
@[simp] theorem trans_setMode (a1 : State) (a2 : Mode) : (State.setMode a1 a2).trans = a1.trans :=
  (State.setMode_same ..).parts .trans rfl
@[simp] theorem insts_setMode (a1 : State) (a2 : Mode) : (State.setMode a1 a2).insts = a1.insts :=
  (State.setMode_same ..).parts .insts rfl
@[simp] theorem draw_setMode (a1 : State) (a2 : Mode) : (State.setMode a1 a2).draw = a1.draw :=
  (State.setMode_same ..).parts .draw rfl
@[simp] theorem vises_setMode (a1 : State) (a2 : Mode) : (State.setMode a1 a2).vises = a1.vises :=
  (State.setMode_same ..).parts .vises rfl
@[simp] theorem quench_setMode (a1 : State) (a2 : Mode) : (State.setMode a1 a2).quench = a1.quench :=
  (State.setMode_same ..).parts .quench rfl
@[simp] theorem power_setMode (a1 : State) (a2 : Mode) : (State.setMode a1 a2).power = a1.power :=
  (State.setMode_same ..).parts .power rfl
@[simp] theorem segments_setMode (a1 : State) (a2 : Mode) : (State.setMode a1 a2).segments = a1.segments :=
  (State.setMode_same ..).parts .segments rfl
@[simp] theorem mem_setMode (a1 : State) (a2 : Mode) : (State.setMode a1 a2).mem = a1.mem :=
  (State.setMode_same ..).parts .mem rfl
@[simp] theorem poison_setMode (a1 : State) (a2 : Mode) : (State.setMode a1 a2).poison = a1.poison :=
  (State.setMode_same ..).parts .poison rfl
@[simp] theorem free_setMode (a1 : State) (a2 : Mode) : (State.setMode a1 a2).free = a1.free :=
  (State.setMode_same ..).parts .free rfl
@[simp] theorem pending_setMode (a1 : State) (a2 : Mode) : (State.setMode a1 a2).pending = a1.pending :=
  (State.setMode_same ..).parts .pending rfl
@[simp] theorem routing_eventManager (a1 : State) (a2 : BitVec 16) (a3 : BitVec 32) (a4 : BitVec 128) : (State.eventManager a1 a2 a3 a4).routing = a1.routing :=
  (State.eventManager_same ..).parts .routing rfl
@[simp] theorem tiles_eventManager (a1 : State) (a2 : BitVec 16) (a3 : BitVec 32) (a4 : BitVec 128) : (State.eventManager a1 a2 a3 a4).tiles = a1.tiles :=
  (State.eventManager_same ..).parts .tiles rfl
@[simp] theorem sched_eventManager (a1 : State) (a2 : BitVec 16) (a3 : BitVec 32) (a4 : BitVec 128) : (State.eventManager a1 a2 a3 a4).sched = a1.sched :=
  (State.eventManager_same ..).parts .sched rfl
@[simp] theorem time_eventManager (a1 : State) (a2 : BitVec 16) (a3 : BitVec 32) (a4 : BitVec 128) : (State.eventManager a1 a2 a3 a4).time = a1.time :=
  (State.eventManager_same ..).parts .time rfl
@[simp] theorem wqs_eventManager (a1 : State) (a2 : BitVec 16) (a3 : BitVec 32) (a4 : BitVec 128) : (State.eventManager a1 a2 a3 a4).wqs = a1.wqs :=
  (State.eventManager_same ..).parts .wqs rfl
@[simp] theorem cqs_eventManager (a1 : State) (a2 : BitVec 16) (a3 : BitVec 32) (a4 : BitVec 128) : (State.eventManager a1 a2 a3 a4).cqs = a1.cqs :=
  (State.eventManager_same ..).parts .cqs rfl
@[simp] theorem remote_eventManager (a1 : State) (a2 : BitVec 16) (a3 : BitVec 32) (a4 : BitVec 128) : (State.eventManager a1 a2 a3 a4).remote = a1.remote :=
  (State.eventManager_same ..).parts .remote rfl
@[simp] theorem matching_eventManager (a1 : State) (a2 : BitVec 16) (a3 : BitVec 32) (a4 : BitVec 128) : (State.eventManager a1 a2 a3 a4).matching = a1.matching :=
  (State.eventManager_same ..).parts .matching rfl
@[simp] theorem coll_eventManager (a1 : State) (a2 : BitVec 16) (a3 : BitVec 32) (a4 : BitVec 128) : (State.eventManager a1 a2 a3 a4).coll = a1.coll :=
  (State.eventManager_same ..).parts .coll rfl
@[simp] theorem striker_eventManager (a1 : State) (a2 : BitVec 16) (a3 : BitVec 32) (a4 : BitVec 128) : (State.eventManager a1 a2 a3 a4).striker = a1.striker :=
  (State.eventManager_same ..).parts .striker rfl
@[simp] theorem trans_eventManager (a1 : State) (a2 : BitVec 16) (a3 : BitVec 32) (a4 : BitVec 128) : (State.eventManager a1 a2 a3 a4).trans = a1.trans :=
  (State.eventManager_same ..).parts .trans rfl
@[simp] theorem insts_eventManager (a1 : State) (a2 : BitVec 16) (a3 : BitVec 32) (a4 : BitVec 128) : (State.eventManager a1 a2 a3 a4).insts = a1.insts :=
  (State.eventManager_same ..).parts .insts rfl
@[simp] theorem draw_eventManager (a1 : State) (a2 : BitVec 16) (a3 : BitVec 32) (a4 : BitVec 128) : (State.eventManager a1 a2 a3 a4).draw = a1.draw :=
  (State.eventManager_same ..).parts .draw rfl
@[simp] theorem vises_eventManager (a1 : State) (a2 : BitVec 16) (a3 : BitVec 32) (a4 : BitVec 128) : (State.eventManager a1 a2 a3 a4).vises = a1.vises :=
  (State.eventManager_same ..).parts .vises rfl
@[simp] theorem quench_eventManager (a1 : State) (a2 : BitVec 16) (a3 : BitVec 32) (a4 : BitVec 128) : (State.eventManager a1 a2 a3 a4).quench = a1.quench :=
  (State.eventManager_same ..).parts .quench rfl
@[simp] theorem power_eventManager (a1 : State) (a2 : BitVec 16) (a3 : BitVec 32) (a4 : BitVec 128) : (State.eventManager a1 a2 a3 a4).power = a1.power :=
  (State.eventManager_same ..).parts .power rfl
@[simp] theorem segments_eventManager (a1 : State) (a2 : BitVec 16) (a3 : BitVec 32) (a4 : BitVec 128) : (State.eventManager a1 a2 a3 a4).segments = a1.segments :=
  (State.eventManager_same ..).parts .segments rfl
@[simp] theorem mem_eventManager (a1 : State) (a2 : BitVec 16) (a3 : BitVec 32) (a4 : BitVec 128) : (State.eventManager a1 a2 a3 a4).mem = a1.mem :=
  (State.eventManager_same ..).parts .mem rfl
@[simp] theorem poison_eventManager (a1 : State) (a2 : BitVec 16) (a3 : BitVec 32) (a4 : BitVec 128) : (State.eventManager a1 a2 a3 a4).poison = a1.poison :=
  (State.eventManager_same ..).parts .poison rfl
@[simp] theorem free_eventManager (a1 : State) (a2 : BitVec 16) (a3 : BitVec 32) (a4 : BitVec 128) : (State.eventManager a1 a2 a3 a4).free = a1.free :=
  (State.eventManager_same ..).parts .free rfl
@[simp] theorem pending_eventManager (a1 : State) (a2 : BitVec 16) (a3 : BitVec 32) (a4 : BitVec 128) : (State.eventManager a1 a2 a3 a4).pending = a1.pending :=
  (State.eventManager_same ..).parts .pending rfl

end Sys2Proof.Machine
end

