-- ==== Sys2Proof/Laws/Fleso.lean ====
section
/-! SUPPORT. What State.fleso answers, once for every Fleso command. -/

namespace Sys2Proof.Machine

open Sys2Proof

/-- A Fleso command that executes: its effect on the state in which it is running, then its answer. -/
theorem fleso_executes {s : State} {i : Instr} {c : Call} {code : BitVec 16} {k : Allowed} {may : Auth → Bool} {body : Auth → State → State × Reply}
    (h : s.Executes i c code k) (hm : may (s.authOf c.via) = s.allows k code (s.authOf c.via)) :
    ∃ q, s.front c.via c.seq code = some q ∧
      s.fleso c code may body = .next (((body (s.authOf c.via) (s.take q)).1.reply c code (body (s.authOf c.via) (s.take q)).2).serve) := by
  obtain ⟨q, hq⟩ := Option.isSome_iff_exists.mp h.heads
  refine ⟨q, hq, ?_⟩
  unfold State.fleso
  rw [hq]
  have h1 : (s.take q).modeRefuses (s.authOf c.via) code = false := by
    have := h.mode
    have e : (s.take q).hearth.mode = s.hearth.mode := by
      unfold State.take
      dsimp only
      split <;> simp [State.modMbox, State.count] <;> split <;> rfl
    unfold State.modeRefuses at this ⊢
    rw [e]; exact this
  have h2 : ((s.take q).quench.halted && !haltOps.contains code) = false := by
    rw [quench_take]
    rcases h.running with h | h
    · rw [h]; rfl
    · rw [h]; simp
  simp only [h1, hm, h.allowed, h2, h.whole]
  rfl

/-- A command that does not wait, or not first, changes nothing. -/
theorem fleso_not_first {s : State} {c : Call} {code : BitVec 16} {may : Auth → Bool} {body : Auth → State → State × Reply}
    (h : s.front c.via c.seq code = none) : s.fleso c code may body = .next s := by
  unfold State.fleso
  rw [h]

end Sys2Proof.Machine
end

