-- ==== Sys2Proof/Laws/FrameWindows.lean ====
section
/-! SUPPORT. Frames of the operations and commands of Sys2Proof/Machine/Windows.lean: each changes no part of the module but those it
names, and keeps module memory canonical. -/

namespace Sys2Proof.Machine

open Sys2Proof

theorem State.mboxWord_same (a1 : State) (a2 : Fn) (a3 : Nat) :
    Same [.free] (State.mboxWord a1 a2 a3).2 a1 := by
  unfold State.mboxWord
  extract_lets +onlyGivenNames x4
  clear_value x4
  extract_lets +onlyGivenNames x5
  clear_value x5
  refine Same.iteSnd ?_ ?_
  · dsimp only
    exact Same.refl _ _
  · refine Same.iteSnd ?_ ?_
    · dsimp only
      exact Same.refl _ _
    · refine Same.iteSnd ?_ ?_
      · dsimp only
        exact Same.refl _ _
      · refine Same.iteSnd ?_ ?_
        · dsimp only
          exact Same.refl _ _
        · refine Same.iteSnd ?_ ?_
          · refine Same.iteSnd ?_ ?_
            · exact Same.step (State.drawFree_same ..) rfl (Same.refl _ _)
            · dsimp only
              exact Same.refl _ _
          · dsimp only
            exact Same.refl _ _

theorem State.barWord_same (a1 : State) (a2 : Fn) (a3 : Nat) :
    Same [.free] (State.barWord a1 a2 a3).2 a1 := by
  unfold State.barWord
  extract_lets +onlyGivenNames x4
  clear_value x4
  split
  · dsimp only
    exact Same.refl _ _
  · exact Same.step (State.mboxWord_same ..) rfl (Same.refl _ _)
  · extract_lets +onlyGivenNames x8
    clear_value x8
    dsimp only
    exact Same.refl _ _
  · extract_lets +onlyGivenNames x8
    clear_value x8
    dsimp only
    exact Same.refl _ _
  · refine Same.iteSnd ?_ ?_
    · dsimp only
      exact Same.refl _ _
    · refine Same.iteSnd ?_ ?_
      · exact Same.step (State.drawFree_same ..) rfl (Same.refl _ _)
      · split
        dsimp only
        exact Same.ofSnd (by assumption) (Same.step (State.drawFree_same ..) rfl (Same.refl _ _))
  · dsimp only
    exact Same.refl _ _
  · dsimp only
    exact Same.refl _ _
  · dsimp only
    exact Same.refl _ _

theorem State.barRead_same (a1 : State) (a2 : Fn) (a3 : Nat) (a4 : Bool) :
    Same [.free] (State.barRead a1 a2 a3 a4).2 a1 := by
  unfold State.barRead
  split
  dsimp only
  exact Same.ofSnd (by assumption) (Same.step (State.barWord_same ..) rfl (Same.refl _ _))

theorem execRegisterWriteUndefined_same (a1 : Fn) (a2 : BitVec 32) (a3 : State) :
    SameNext [.quench, .counters] (execRegisterWriteUndefined a1 a2 a3) a3 := by
  unfold execRegisterWriteUndefined
  exact SameNext.next (Same.ite (Same.refl _ _) (Same.step (State.badWrite_same ..) rfl (Same.refl _ _)))

end Sys2Proof.Machine
end

