-- ==== Sys2Proof/Laws/FrameWalk.lean ====
section
/-! SUPPORT. Frames of the operations and commands of Sys2Proof/Machine/Walk.lean: each changes no part of the module but those it
names, and keeps module memory canonical. -/

namespace Sys2Proof.Machine

open Sys2Proof

theorem State.noteFailed_same (a1 : State) (a2 : Nat) :
    Same [.ports, .quench, .counters] (State.noteFailed a1 a2) a1 := by
  unfold State.noteFailed
  exact Same.step (State.raiseAt_same ..) rfl (Same.step (State.modPort_same ..) rfl (Same.refl _ _))

theorem State.noteAccess_same (a1 : State) (a2 : Nat) (a3 : Access) :
    Same [.ports, .quench, .counters] (State.noteAccess a1 a2 a3) a1 := by
  unfold State.noteAccess
  exact Same.ite (Same.step (State.noteFailed_same ..) rfl (Same.refl _ _)) (Same.refl _ _)

theorem State.endWalk_same (a1 : State) (a2 : Nat) :
    Same [.trans] (State.endWalk a1 a2) a1 := by
  unfold State.endWalk
  exact Same.setTrans rfl (Same.refl _ _)

theorem State.writeLines_same (a1 : State) (a2 : Nat) (a3 : Nat) (a4 : Word) (a5 : List Byte) (a6 : Bool) :
    Same [.counters, .out] (State.writeLines a1 a2 a3 a4 a5 a6) a1 := by
  unfold State.writeLines
  refine Same.ite ?_ ?_
  · exact Same.refl _ _
  · refine Same.foldl ?_ _ ?_
    · intro y7
      intro y8
      exact Same.step (State.emit_same ..) rfl (Same.refl _ _)
    · exact Same.refl _ _

theorem State.logFault_same (a1 : State) (a2 : Walk) (a3 : BitVec 8) (a4 : Nat) :
    Same [.trans, .counters, .free, .out] (State.logFault a1 a2 a3 a4) a1 := by
  unfold State.logFault
  split
  · exact Same.refl _ _
  · extract_lets +onlyGivenNames x8
    clear_value x8
    extract_lets +onlyGivenNames x9
    extract_lets +onlyGivenNames x10
    clear_value x10
    extract_lets +onlyGivenNames x11
    clear_value x11
    split
    extract_lets +onlyGivenNames x16
    refine Same.ite ?_ ?_
    · unfold x9
      refine Same.setTrans rfl (Same.ofSnd (by assumption) ?_)
      refine Same.iteSnd ?_ ?_
      · exact Same.step (State.drawFree_same ..) rfl (Same.refl _ _)
      · dsimp only
        exact Same.refl _ _
    · refine Same.ite ?_ ?_
      · extract_lets +onlyGivenNames x17
        clear_value x17
        extract_lets +onlyGivenNames x18
        have h18 : Same [.trans, .counters, .free, .out] x18 a1 := by
          unfold x18
          refine Same.step (State.writeLines_same ..) rfl (Same.ofSnd (by assumption) ?_)
          refine Same.iteSnd ?_ ?_
          · exact Same.step (State.drawFree_same ..) rfl (Same.refl _ _)
          · dsimp only
            exact Same.refl _ _
        clear_value x18
        unfold x9
        exact Same.setTrans rfl (Same.step (State.writeLines_same ..) rfl (by assumption))
      · unfold x9
        refine Same.setTrans rfl (Same.step (State.writeLines_same ..) rfl (Same.ofSnd (by assumption) ?_))
        refine Same.iteSnd ?_ ?_
        · exact Same.step (State.drawFree_same ..) rfl (Same.refl _ _)
        · dsimp only
          exact Same.refl _ _

theorem State.lockFail_same (a1 : State) (a2 : Nat) (a3 : BitVec 8) :
    Same [.routing, .tiles, .sched, .ports, .trans, .hearth, .quench, .counters, .out] (State.lockFail a1 a2 a3) a1 := by
  unfold State.lockFail
  split
  · exact Same.refl _ _
  · extract_lets +onlyGivenNames x7
    clear_value x7
    extract_lets +onlyGivenNames x8
    have h8 : Same [.routing, .tiles, .sched, .ports, .trans, .hearth, .quench, .counters, .out] x8 a1 := by
      unfold x8
      exact Same.setTrans rfl (Same.refl _ _)
    clear_value x8
    split
    · exact Same.step (State.answer_same ..) rfl (by assumption)
    · extract_lets +onlyGivenNames x12
      clear_value x12
      extract_lets +onlyGivenNames x13
      have h13 : Same [.routing, .tiles, .sched, .ports, .trans, .hearth, .quench, .counters, .out] x13 a1 := by
        unfold x13
        exact Same.setTrans rfl (by assumption)
      clear_value x13
      extract_lets +onlyGivenNames x15
      have h15 : Same [.routing, .tiles, .sched, .ports, .trans, .hearth, .quench, .counters, .out] x15 a1 := by
        unfold x15
        exact Same.step (State.raise_same ..) rfl (by assumption)
      clear_value x15
      extract_lets +onlyGivenNames x17
      clear_value x17
      exact Same.step (State.signal_same ..) rfl (by assumption)

theorem State.failLock_same (a1 : State) (a2 : Walk) (a3 : BitVec 8) :
    Same [.routing, .tiles, .sched, .ports, .trans, .hearth, .quench, .counters, .out] (State.failLock a1 a2 a3) a1 := by
  unfold State.failLock
  split
  · exact Same.step (State.lockFail_same ..) rfl (Same.refl _ _)
  · exact Same.refl _ _

theorem State.walkFault_same (a1 : State) (a2 : Walk) (a3 : BitVec 8) (a4 : Nat) :
    Same [.routing, .tiles, .sched, .ports, .trans, .hearth, .quench, .counters, .free, .out] (State.walkFault a1 a2 a3 a4) a1 := by
  unfold State.walkFault
  extract_lets +onlyGivenNames x5
  have h5 : Same [.routing, .tiles, .sched, .ports, .trans, .hearth, .quench, .counters, .free, .out] x5 a1 := by
    unfold x5
    exact Same.step (State.endWalk_same ..) rfl (Same.refl _ _)
  clear_value x5
  extract_lets +onlyGivenNames x7
  have h7 : Same [.routing, .tiles, .sched, .ports, .trans, .hearth, .quench, .counters, .free, .out] x7 a1 := by
    unfold x7
    refine Same.ite ?_ ?_
    · exact Same.step (State.count_same ..) rfl (by assumption)
    · assumption
  clear_value x7
  exact Same.step (State.failLock_same ..) rfl (Same.step (State.logFault_same ..) rfl (Same.setTrans rfl (by assumption)))

theorem State.setWalk_same (a1 : State) (a2 : Walk) :
    Same [.trans] (State.setWalk a1 a2) a1 := by
  unfold State.setWalk
  exact Same.setTrans rfl (Same.refl _ _)

theorem State.readEntry_same (a1 : State) (a2 : Walk) :
    Same [.routing, .tiles, .sched, .ports, .trans, .hearth, .quench, .counters, .free, .out] (State.readEntry a1 a2) a1 := by
  unfold State.readEntry
  extract_lets +onlyGivenNames x3
  clear_value x3
  extract_lets +onlyGivenNames x4
  clear_value x4
  refine Same.ite ?_ ?_
  · exact Same.step (State.walkFault_same ..) rfl (Same.refl _ _)
  · exact Same.step (State.addD2h_same ..) rfl (Same.step (State.setWalk_same ..) rfl (Same.refl _ _))

theorem State.walkFrom_same (a1 : State) (a2 : Walk) :
    Same [.routing, .tiles, .sched, .ports, .trans, .hearth, .quench, .counters, .free, .out] (State.walkFrom a1 a2) a1 := by
  unfold State.walkFrom
  extract_lets +onlyGivenNames x3
  clear_value x3
  split
  exact Same.step (State.readEntry_same ..) rfl (Same.refl _ _)

theorem State.beginWalk_same (a1 : State) (a2 : Walk) :
    Same [.routing, .tiles, .sched, .ports, .trans, .hearth, .quench, .counters, .free, .out] (State.beginWalk a1 a2) a1 := by
  unfold State.beginWalk
  exact Same.ite (Same.setTrans rfl (Same.refl _ _)) (Same.step (State.walkFrom_same ..) rfl (Same.setTrans rfl (Same.refl _ _)))

theorem State.touchPage_same (a1 : State) (a2 : Nat) (a3 : Word) (a4 : BitVec 2) (a5 : BitVec 29) (a6 : BitVec 32) (a7 : Bool) :
    Same [.routing, .tiles, .sched, .ports, .trans, .hearth, .quench, .counters, .free, .out] (State.touchPage a1 a2 a3 a4 a5 a6 a7) a1 := by
  unfold State.touchPage
  extract_lets +onlyGivenNames x8
  clear_value x8
  split
  extract_lets +onlyGivenNames x13
  have h13 : Same [.routing, .tiles, .sched, .ports, .trans, .hearth, .quench, .counters, .free, .out] x13 a1 := by
    unfold x13
    refine Same.ite ?_ ?_
    · exact Same.step (State.count_same ..) rfl (Same.ofSnd (by assumption) (Same.step (State.drawFree_same ..) rfl (Same.refl _ _)))
    · exact Same.ofSnd (by assumption) (Same.step (State.drawFree_same ..) rfl (Same.refl _ _))
  clear_value x13
  extract_lets +onlyGivenNames x15
  clear_value x15
  refine Same.ite ?_ ?_
  · exact Same.step (State.logFault_same ..) rfl (by assumption)
  · refine Same.ite ?_ ?_
    · exact Same.step (State.logFault_same ..) rfl (by assumption)
    · split
      · exact Same.setTrans rfl (by assumption)
      · extract_lets +onlyGivenNames x18
        have h18 : Same [.routing, .tiles, .sched, .ports, .trans, .hearth, .quench, .counters, .free, .out] x18 a1 := by
          unfold x18
          refine Same.ite ?_ ?_
          · exact Same.step (State.count_same ..) rfl (by assumption)
          · assumption
        clear_value x18
        refine Same.ite ?_ ?_
        · assumption
        · exact Same.step (State.beginWalk_same ..) rfl (Same.setTrans rfl (by assumption))

theorem State.touch_same (a1 : State) (a2 : Nat) (a3 : Word) (a4 : Nat) (a5 : BitVec 2) (a6 : BitVec 29) (a7 : BitVec 32) (a8 : Bool) :
    Same [.routing, .tiles, .sched, .ports, .trans, .hearth, .quench, .counters, .free, .out] (State.touch a1 a2 a3 a4 a5 a6 a7 a8) a1 := by
  unfold State.touch
  refine Same.ite ?_ ?_
  · exact Same.refl _ _
  · extract_lets +onlyGivenNames x9
    clear_value x9
    extract_lets +onlyGivenNames x10
    clear_value x10
    refine Same.foldl ?_ _ ?_
    · intro y11
      intro y12
      exact Same.step (State.touchPage_same ..) rfl (Same.refl _ _)
    · exact Same.refl _ _

theorem State.hostPut_same (a1 : State) (a2 : Nat) (a3 : Nat) (a4 : Word) (a5 : List Byte) (a6 : Bool) (a7 : BitVec 29) (a8 : BitVec 32) (a9 : Bool) :
    Same [.routing, .tiles, .sched, .ports, .trans, .hearth, .quench, .counters, .free, .out] (State.hostPut a1 a2 a3 a4 a5 a6 a7 a8 a9) a1 := by
  unfold State.hostPut
  exact Same.step (State.writeLines_same ..) rfl (Same.step (State.touch_same ..) rfl (Same.refl _ _))

theorem State.writePhys_same (a1 : State) (a2 : Nat) (a3 : Word) (a4 : List Byte) :
    Same [.counters, .out] (State.writePhys a1 a2 a3 a4) a1 := by
  unfold State.writePhys
  refine Same.ite ?_ ?_
  · exact Same.refl _ _
  · refine Same.foldl ?_ _ ?_
    · intro y5
      intro y6
      exact Same.step (State.emit_same ..) rfl (Same.refl _ _)
    · exact Same.refl _ _

theorem State.noteRead_same (a1 : State) (a2 : Nat) (a3 : ReadResult) :
    Same [.ports, .quench, .counters] (State.noteRead a1 a2 a3) a1 := by
  unfold State.noteRead
  exact Same.ite (Same.step (State.noteFailed_same ..) rfl (Same.refl _ _)) (Same.refl _ _)

theorem State.hostRead_same (a1 : State) (a2 : Nat) (a3 : D2hTag) (a4 : Nat) (a5 : Word) (a6 : Nat) (a7 : BitVec 29) (a8 : BitVec 32) :
    Same [.routing, .tiles, .sched, .ports, .trans, .hearth, .quench, .counters, .free, .out] (State.hostRead a1 a2 a3 a4 a5 a6 a7 a8) a1 := by
  unfold State.hostRead
  exact Same.step (State.addD2h_same ..) rfl (Same.step (State.touch_same ..) rfl (Same.refl _ _))

theorem State.startHeld_same (a1 : State) (a2 : Nat) :
    Same [.routing, .tiles, .sched, .ports, .trans, .hearth, .quench, .counters, .free, .out] (State.startHeld a1 a2) a1 := by
  induction a2 generalizing a1 with
  | zero => exact Same.refl _ _
  | succ n ih =>
    unfold State.startHeld
    split
    · exact Same.refl _ _
    · exact Same.step (ih ..) rfl (Same.step (State.beginWalk_same ..) rfl (Same.setTrans rfl (Same.refl _ _)))

theorem State.resumeWalks_same (a1 : State) :
    Same [.routing, .tiles, .sched, .ports, .trans, .hearth, .quench, .counters, .free, .out] (State.resumeWalks a1) a1 := by
  unfold State.resumeWalks
  exact Same.step (State.serve_same ..) rfl (Same.step (State.startHeld_same ..) rfl (Same.refl _ _))

theorem State.install_same (a1 : State) (a2 : TlbEntry) :
    Same [.trans] (State.install a1 a2) a1 := by
  unfold State.install
  extract_lets +onlyGivenNames x3
  clear_value x3
  extract_lets +onlyGivenNames x4
  clear_value x4
  extract_lets +onlyGivenNames x5
  clear_value x5
  extract_lets +onlyGivenNames x6
  clear_value x6
  extract_lets +onlyGivenNames x7
  clear_value x7
  exact Same.setTrans rfl (Same.refl _ _)

theorem State.lockPages_same (a1 : State) (a2 : LockJob) :
    Same [.trans] (State.lockPages a1 a2) a1 := by
  unfold State.lockPages
  refine Same.foldl ?_ _ ?_
  · intro y3
    intro y4
    refine Same.foldl ?_ _ ?_
    · intro y5
      intro y6
      exact Same.step (State.install_same ..) rfl (Same.refl _ _)
    · exact Same.refl _ _
  · exact Same.refl _ _

theorem State.lockWalk_same (a1 : State) (a2 : LockJob) :
    Same [.routing, .tiles, .sched, .ports, .trans, .hearth, .quench, .counters, .free, .out] (State.lockWalk a1 a2) a1 := by
  unfold State.lockWalk
  split
  extract_lets +onlyGivenNames x7
  clear_value x7
  extract_lets +onlyGivenNames x8
  clear_value x8
  refine Same.ite ?_ ?_
  · exact Same.step (State.lockFail_same ..) rfl (Same.step (State.logFault_same ..) rfl (Same.ofSnd (by assumption) (Same.step (State.drawFree_same ..) rfl (Same.refl _ _))))
  · refine Same.ite ?_ ?_
    · exact Same.step (State.lockFail_same ..) rfl (Same.step (State.logFault_same ..) rfl (Same.ofSnd (by assumption) (Same.step (State.drawFree_same ..) rfl (Same.refl _ _))))
    · exact Same.step (State.beginWalk_same ..) rfl (Same.setTrans rfl (Same.ofSnd (by assumption) (Same.step (State.drawFree_same ..) rfl (Same.refl _ _))))

theorem State.lockFound_same (a1 : State) (a2 : Nat) (a3 : TlbEntry) :
    Same [.routing, .tiles, .sched, .ports, .trans, .hearth, .quench, .counters, .free, .out] (State.lockFound a1 a2 a3) a1 := by
  unfold State.lockFound
  split
  · exact Same.refl _ _
  · extract_lets +onlyGivenNames x7
    refine Same.ite ?_ ?_
    · exact Same.step (State.lockWalk_same ..) rfl (Same.setTrans rfl (Same.refl _ _))
    · extract_lets +onlyGivenNames x8
      clear_value x8
      extract_lets +onlyGivenNames x9
      have h9 : Same [.routing, .tiles, .sched, .ports, .trans, .hearth, .quench, .counters, .free, .out] x9 a1 := by
        unfold x9
        exact Same.setTrans rfl (Same.refl _ _)
      clear_value x9
      split
      · exact Same.step (State.lockPages_same ..) rfl (by assumption)
      · split
        · exact Same.step (State.reply_same ..) rfl (by assumption)
        · exact Same.step (State.answer_same ..) rfl (Same.step (State.lockPages_same ..) rfl (by assumption))

theorem State.walkDone_same (a1 : State) (a2 : Walk) (a3 : TlbEntry) :
    Same [.routing, .tiles, .sched, .ports, .trans, .hearth, .quench, .counters, .free, .out] (State.walkDone a1 a2 a3) a1 := by
  unfold State.walkDone
  split
  · exact Same.step (State.lockFound_same ..) rfl (Same.step (State.endWalk_same ..) rfl (Same.refl _ _))
  · exact Same.step (State.install_same ..) rfl (Same.step (State.endWalk_same ..) rfl (Same.refl _ _))

theorem State.descend_same (a1 : State) (a2 : Walk) (a3 : Word) :
    Same [.routing, .tiles, .sched, .ports, .trans, .hearth, .quench, .counters, .free, .out] (State.descend a1 a2 a3) a1 := by
  unfold State.descend
  extract_lets +onlyGivenNames x4
  clear_value x4
  extract_lets +onlyGivenNames x5
  clear_value x5
  split
  extract_lets +onlyGivenNames x10
  clear_value x10
  extract_lets +onlyGivenNames x11
  clear_value x11
  extract_lets +onlyGivenNames x12
  have h12 : Same [.routing, .tiles, .sched, .ports, .trans, .hearth, .quench, .counters, .free, .out] x12 a1 := by
    unfold x12
    refine Same.setTrans rfl (Same.ofSnd (by assumption) ?_)
    refine Same.iteSnd ?_ ?_
    · exact Same.step (State.drawFree_same ..) rfl (Same.refl _ _)
    · dsimp only
      exact Same.refl _ _
  clear_value x12
  exact Same.step (State.readEntry_same ..) rfl (by assumption)

theorem State.walkRestart_same (a1 : State) (a2 : Walk) :
    Same [.routing, .tiles, .sched, .ports, .trans, .hearth, .quench, .counters, .free, .out] (State.walkRestart a1 a2) a1 := by
  unfold State.walkRestart
  exact Same.step (State.walkFrom_same ..) rfl (Same.setTrans rfl (Same.refl _ _))

theorem State.entryIn_same (a1 : State) (a2 : Nat) (a3 : ReadResult) :
    Same [.routing, .tiles, .sched, .ports, .trans, .hearth, .quench, .counters, .free, .out] (State.entryIn a1 a2 a3) a1 := by
  unfold State.entryIn
  split
  · exact Same.refl _ _
  · extract_lets +onlyGivenNames x7
    have h7 : Same [.routing, .tiles, .sched, .ports, .trans, .hearth, .quench, .counters, .free, .out] x7 a1 := by
      unfold x7
      exact Same.step (State.noteRead_same ..) rfl (Same.step (State.dropD2h_same ..) rfl (Same.refl _ _))
    clear_value x7
    refine Same.ite ?_ ?_
    · exact Same.step (State.walkFault_same ..) rfl (by assumption)
    · split
      · exact Same.step (State.walkFault_same ..) rfl (by assumption)
      · exact Same.step (State.walkFault_same ..) rfl (by assumption)
      · extract_lets +onlyGivenNames x11
        clear_value x11
        extract_lets +onlyGivenNames x12
        clear_value x12
        refine Same.ite ?_ ?_
        · exact Same.step (State.walkFault_same ..) rfl (by assumption)
        · split
          · exact Same.step (State.walkFault_same ..) rfl (by assumption)
          · extract_lets +onlyGivenNames x15
            clear_value x15
            split
            · exact Same.step (State.walkFault_same ..) rfl (by assumption)
            · refine Same.ite ?_ ?_
              · extract_lets +onlyGivenNames x18
                clear_value x18
                extract_lets +onlyGivenNames x19
                clear_value x19
                exact Same.step (State.addD2h_same ..) rfl (Same.step (State.setWalk_same ..) rfl (by assumption))
              · refine Same.ite ?_ ?_
                · exact Same.step (State.walkRestart_same ..) rfl (by assumption)
                · exact Same.ite (Same.step (State.walkDone_same ..) rfl (by assumption)) (Same.step (State.descend_same ..) rfl (by assumption))

theorem execWalkEntryRead_same (a1 : Nat) (a2 : ReadResult) (a3 : State) :
    SameNext [.routing, .tiles, .sched, .ports, .trans, .hearth, .quench, .counters, .free, .out] (execWalkEntryRead a1 a2 a3) a3 := by
  unfold execWalkEntryRead
  exact SameNext.next (Same.step (State.resumeWalks_same ..) rfl (Same.step (State.entryIn_same ..) rfl (Same.refl _ _)))

theorem State.lineBack_same (a1 : State) (a2 : Nat) (a3 : Nat) :
    Same [.ports, .counters, .out] (State.lineBack a1 a2 a3) a1 := by
  unfold State.lineBack
  split
  · exact Same.refl _ _
  · exact Same.step (State.emit_same ..) rfl (Same.step (State.modPort_same ..) rfl (Same.refl _ _))

theorem State.dropDomain_same (a1 : State) (a2 : Nat) :
    Same [.trans] (State.dropDomain a1 a2) a1 := by
  unfold State.dropDomain
  exact Same.setTrans rfl (Same.refl _ _)

theorem State.disableDomain_same (a1 : State) (a2 : Nat) :
    Same [.trans] (State.disableDomain a1 a2) a1 := by
  unfold State.disableDomain
  exact Same.step (State.dropDomain_same ..) rfl (Same.setTrans rfl (Same.refl _ _))

theorem State.cacheLine_same (a1 : State) (a2 : Nat) (a3 : Nat) (a4 : Line) :
    Same [.ports, .counters, .out] (State.cacheLine a1 a2 a3 a4) a1 := by
  unfold State.cacheLine
  extract_lets +onlyGivenNames x5
  clear_value x5
  extract_lets +onlyGivenNames x6
  have h6 : Same [.ports, .counters, .out] x6 a1 := by
    unfold x6
    refine Same.ite ?_ ?_
    · exact Same.refl _ _
    · split
      · exact Same.refl _ _
      · exact Same.step (State.emit_same ..) rfl (Same.step (State.modPort_same ..) rfl (Same.refl _ _))
  clear_value x6
  exact Same.step (State.modPort_same ..) rfl (by assumption)

theorem State.adDone_same (a1 : State) (a2 : Nat) (a3 : Walk) :
    Same [.routing, .tiles, .sched, .ports, .trans, .hearth, .quench, .counters, .free, .out] (State.adDone a1 a2 a3) a1 := by
  unfold State.adDone
  extract_lets +onlyGivenNames x4
  clear_value x4
  extract_lets +onlyGivenNames x5
  clear_value x5
  extract_lets +onlyGivenNames x6
  have h6 : Same [.routing, .tiles, .sched, .ports, .trans, .hearth, .quench, .counters, .free, .out] x6 a1 := by
    unfold x6
    exact Same.step (State.lineBack_same ..) rfl (Same.refl _ _)
  clear_value x6
  refine Same.ite ?_ ?_
  · exact Same.step (State.walkFault_same ..) rfl (by assumption)
  · refine Same.ite ?_ ?_
    · exact Same.step (State.walkRestart_same ..) rfl (by assumption)
    · exact Same.ite (Same.step (State.walkDone_same ..) rfl (by assumption)) (Same.step (State.descend_same ..) rfl (by assumption))

theorem State.adOwned_same (a1 : State) (a2 : Nat) (a3 : Walk) (a4 : Line) :
    Same [.routing, .tiles, .sched, .ports, .trans, .hearth, .quench, .counters, .free, .out] (State.adOwned a1 a2 a3 a4) a1 := by
  unfold State.adOwned
  extract_lets +onlyGivenNames x5
  clear_value x5
  extract_lets +onlyGivenNames x6
  clear_value x6
  extract_lets +onlyGivenNames x7
  clear_value x7
  extract_lets +onlyGivenNames x8
  clear_value x8
  refine Same.ite ?_ ?_
  · exact Same.step (State.walkFault_same ..) rfl (Same.step (State.emit_same ..) rfl (Same.refl _ _))
  · refine Same.ite ?_ ?_
    · extract_lets +onlyGivenNames x9
      have h9 : Same [.routing, .tiles, .sched, .ports, .trans, .hearth, .quench, .counters, .free, .out] x9 a1 := by
        unfold x9
        exact Same.step (State.emit_same ..) rfl (Same.refl _ _)
      clear_value x9
      extract_lets +onlyGivenNames x11
      exact Same.ite (Same.step (State.walkFault_same ..) rfl (by assumption)) (Same.step (State.walkRestart_same ..) rfl (by assumption))
    · extract_lets +onlyGivenNames x9
      clear_value x9
      exact Same.step (State.cacheLine_same ..) rfl (Same.step (State.setWalk_same ..) rfl (Same.refl _ _))

theorem execAdUpdateLine_same (a1 : Nat) (a2 : Line) (a3 : State) :
    SameNext [.routing, .tiles, .sched, .ports, .trans, .hearth, .quench, .counters, .free, .out] (execAdUpdateLine a1 a2 a3) a3 := by
  unfold execAdUpdateLine
  split
  · exact SameNext.next (Same.refl _ _)
  · extract_lets +onlyGivenNames x7
    clear_value x7
    refine SameNext.ite ?_ ?_
    · exact SameNext.next (Same.step (State.resumeWalks_same ..) rfl (Same.step (State.adDone_same ..) rfl (Same.refl _ _)))
    · refine SameNext.ite ?_ ?_
      · exact SameNext.next (Same.step (State.resumeWalks_same ..) rfl (Same.step (State.adOwned_same ..) rfl (Same.step (State.dropD2h_same ..) rfl (Same.refl _ _))))
      · exact SameNext.next (Same.refl _ _)

end Sys2Proof.Machine
end

