-- ==== Sys2Proof/Laws/FrameRings.lean ====
section
/-! SUPPORT. Frames of the operations and commands of Sys2Proof/Machine/Rings.lean: each changes no part of the module but those it
names, and keeps module memory canonical. -/

namespace Sys2Proof.Machine

open Sys2Proof

theorem State.countStale_same (a1 : State) (a2 : Option Nat) :
    Same [.insts] (State.countStale a1 a2) a1 := by
  unfold State.countStale
  split
  · exact Same.step (State.modInst_same ..) rfl (Same.refl _ _)
  · exact Same.refl _ _

theorem State.fillEvent_same (a1 : State) (a2 : Rec) :
    Same [.wqs] (State.fillEvent a1 a2).2 a1 := by
  unfold State.fillEvent
  refine Same.iteSnd ?_ ?_
  · dsimp only
    exact Same.refl _ _
  · split
    · dsimp only
      exact Same.refl _ _
    · extract_lets +onlyGivenNames x6
      clear_value x6
      dsimp only
      exact Same.step (State.modWq_same ..) rfl (Same.refl _ _)

theorem State.drainRing_same (a1 : State) (a2 : Nat) (a3 : Nat) :
    Same [.routing, .tiles, .sched, .ports, .wqs, .cqs, .trans, .insts, .hearth, .quench, .counters, .free, .out] (State.drainRing a1 a2 a3) a1 := by
  induction a3 generalizing a1 with
  | zero => exact Same.refl _ _
  | succ n ih =>
    unfold State.drainRing
    split
    · exact Same.refl _ _
    · split
      · exact Same.refl _ _
      · refine Same.ite ?_ ?_
        · exact Same.step (ih ..) rfl (Same.step (State.countStale_same ..) rfl (Same.step (State.modCq_same ..) rfl (Same.refl _ _)))
        · refine Same.ite ?_ ?_
          · split
            extract_lets +onlyGivenNames x16
            clear_value x16
            extract_lets +onlyGivenNames x17
            have h17 : Same [.routing, .tiles, .sched, .ports, .wqs, .cqs, .trans, .insts, .hearth, .quench, .counters, .free, .out] x17 a1 := by
              unfold x17
              exact Same.step (State.modCq_same ..) rfl (Same.ofSnd (by assumption) (Same.step (State.fillEvent_same ..) rfl (Same.refl _ _)))
            clear_value x17
            extract_lets +onlyGivenNames x19
            clear_value x19
            exact Same.step (ih ..) rfl (Same.step (State.emit_same ..) rfl (Same.step (State.touch_same ..) rfl (by assumption)))
          · exact Same.refl _ _

theorem State.drain_same (a1 : State) (a2 : Nat) :
    Same [.routing, .tiles, .sched, .ports, .wqs, .cqs, .trans, .insts, .hearth, .quench, .counters, .free, .out] (State.drain a1 a2) a1 := by
  unfold State.drain
  split
  · exact Same.refl _ _
  · exact Same.step (State.drainRing_same ..) rfl (Same.refl _ _)

theorem State.makeRec_same (a1 : State) (a2 : Nat) (a3 : Rec) :
    Same [.routing, .tiles, .sched, .ports, .wqs, .cqs, .trans, .insts, .hearth, .quench, .counters, .free, .out] (State.makeRec a1 a2 a3) a1 := by
  unfold State.makeRec
  refine Same.ite ?_ ?_
  · exact Same.refl _ _
  · refine Same.ite ?_ ?_
    · exact Same.step (State.countStale_same ..) rfl (Same.refl _ _)
    · extract_lets +onlyGivenNames x4
      clear_value x4
      extract_lets +onlyGivenNames x5
      have h5 : Same [.routing, .tiles, .sched, .ports, .wqs, .cqs, .trans, .insts, .hearth, .quench, .counters, .free, .out] x5 a1 := by
        unfold x5
        refine Same.ite ?_ ?_
        · refine Same.getDMap ?_ ?_
          · intro y6
            exact Same.step (State.count_same ..) rfl (Same.refl _ _)
          · exact Same.refl _ _
        · exact Same.refl _ _
      clear_value x5
      exact Same.step (State.drain_same ..) rfl (Same.step (State.modCq_same ..) rfl (by assumption))

theorem State.updateWait_same (a1 : State) (a2 : Nat) :
    Same [.wqs] (State.updateWait a1 a2) a1 := by
  unfold State.updateWait
  split
  · exact Same.refl _ _
  · exact Same.setWqs rfl (Same.refl _ _)

theorem State.owe_same (a1 : State) (a2 : Nat) (a3 : Int) :
    Same [.wqs, .cqs] (State.owe a1 a2 a3) a1 := by
  unfold State.owe
  exact Same.step (State.updateWait_same ..) rfl (Same.step (State.modCq_same ..) rfl (Same.refl _ _))

theorem State.ringAppend_same (a1 : State) (a2 : Nat) (a3 : Nat) (a4 : Nat) (a5 : List Byte) :
    Same [.mem, .outside, .poison] (State.ringAppend a1 a2 a3 a4 a5).1 a1 := by
  unfold State.ringAppend
  dsimp only
  exact Same.iteFst (Same.step (State.storeMem_same ..) rfl (State.storeMem_same ..)) (State.storeMem_same ..)

/-- A record appended to a ring that lies in the report segment. -/
theorem State.ringAppend_report (a1 : State) (a2 : Nat) (a3 : Nat) (a4 : Nat) (a5 : List Byte) (h : inReport a2 (64 + a5.length * 2 ^ a3)) :
    Same [.mem, .poison] (State.ringAppend a1 a2 a3 a4 a5).1 a1 := by
  have hm : a5.length * (a4 % 2 ^ a3) + a5.length ≤ a5.length * 2 ^ a3 := by
    have : a4 % 2 ^ a3 + 1 ≤ 2 ^ a3 := Nat.mod_lt _ (Nat.two_pow_pos a3)
    calc a5.length * (a4 % 2 ^ a3) + a5.length = a5.length * (a4 % 2 ^ a3 + 1) := by rw [Nat.mul_add, Nat.mul_one]
      _ ≤ _ := Nat.mul_le_mul_left _ this
  unfold inReport at h
  unfold State.ringAppend
  dsimp only
  refine Same.iteFst (Same.step (State.storeMem_report _ _ _ _ ?_) rfl (State.storeMem_report _ _ _ _ ?_)) (State.storeMem_report _ _ _ _ ?_) <;>
    unfold inReport <;> (try simp only [leBytes_length]) <;> omega

theorem tagBytes_length (t : Tagged) (status : BitVec 8) (now : Ticks) : (tagBytes t status now).length = 64 := by
  simp [tagBytes, leBytes_length]

theorem State.tagDone_same (a1 : State) (a2 : Nat) (a3 : BitVec 32) (a4 : BitVec 8) :
    Same [.counters, .mem, .poison] (State.tagDone a1 a2 a3 a4) a1 := by
  have gen : ∀ W : List Part, W.contains .counters = true →
      (bits a1.counters.tagRing 36 0 ≠ 0 → ∀ u t status now, Same W (State.ringAppend u (bits a1.counters.tagRing 36 0)
        (bits a1.counters.tagRing 41 37) u.counters.tagTail (tagBytes t status now)).1 u) →
      Same W (State.tagDone a1 a2 a3 a4) a1 := by
    intro W hw ha
    unfold State.tagDone
    split
    · exact Same.refl _ _
    · dsimp only
      split
      · exact Same.setCounters hw id (Same.refl _ _)
      · rename_i hb
        split
        · rename_i he
          exact Same.setCounters hw id (Same.ofFst he ((ha hb _ _ _ _).trans (Same.setCounters hw id (Same.refl _ _))))
        · rename_i he
          exact Same.setCounters hw id (Same.ofFst he ((ha hb _ _ _ _).trans (Same.setCounters hw id (Same.refl _ _))))
  refine Same.ofRings (gen [.counters, .mem, .outside, .poison] rfl fun _ _ _ _ _ => Same.step (State.ringAppend_same ..) rfl (Same.refl _ _)) rfl
    fun hs => gen [.counters, .mem, .poison] rfl fun hb _ _ _ _ => ?_
  exact Same.step (State.ringAppend_report _ _ _ _ _ (by rw [tagBytes_length]; exact hs.1 hb)) rfl (Same.refl _ _)

theorem State.writeBackWq_same (a1 : State) (a2 : Nat) :
    Same [.routing, .tiles, .sched, .ports, .wqs, .trans, .hearth, .quench, .counters, .free, .out] (State.writeBackWq a1 a2) a1 := by
  unfold State.writeBackWq
  split
  · exact Same.refl _ _
  · exact Same.ite (Same.refl _ _) (Same.step (State.hostPut_same ..) rfl (Same.step (State.modWq_same ..) rfl (Same.refl _ _)))

theorem State.queueGone_same (a1 : State) (a2 : Nat) :
    Same [.routing, .tiles, .sched, .ports, .wqs, .trans, .hearth, .quench, .counters, .free, .out] (State.queueGone a1 a2) a1 := by
  unfold State.queueGone
  split
  · exact Same.refl _ _
  · extract_lets +onlyGivenNames x6
    clear_value x6
    refine Same.ite ?_ ?_
    · extract_lets +onlyGivenNames x7
      have h7 : Same [.routing, .tiles, .sched, .ports, .wqs, .trans, .hearth, .quench, .counters, .free, .out] x7 a1 := by
        unfold x7
        exact Same.step (State.writeBackWq_same ..) rfl (Same.refl _ _)
      clear_value x7
      extract_lets +onlyGivenNames x9
      have h9 : Same [.routing, .tiles, .sched, .ports, .wqs, .trans, .hearth, .quench, .counters, .free, .out] x9 a1 := by
        unfold x9
        exact Same.setWqs rfl (by assumption)
      clear_value x9
      split
      · exact Same.step (State.answer_same ..) rfl (by assumption)
      · assumption
    · exact Same.refl _ _

theorem State.complete_same (a1 : State) (a2 : Nat) (a3 : BitVec 32) (a4 : Line) (a5 : BitVec 16) (a6 : BitVec 8) (a7 : Nat) (a8 : BitVec 256) :
    Same [.routing, .tiles, .sched, .ports, .wqs, .cqs, .trans, .insts, .hearth, .quench, .counters, .mem, .poison, .free, .out] (State.complete a1 a2 a3 a4 a5 a6 a7 a8) a1 := by
  unfold State.complete
  split
  · exact Same.refl _ _
  · refine Same.ite ?_ ?_
    · exact Same.refl _ _
    · extract_lets +onlyGivenNames x12
      clear_value x12
      extract_lets +onlyGivenNames x13
      have h13 : Same [.routing, .tiles, .sched, .ports, .wqs, .cqs, .trans, .insts, .hearth, .quench,   .counters, .mem, .poison, .free, .out] x13 a1 := by
        unfold x13
        exact Same.step (State.modWq_same ..) rfl (Same.refl _ _)
      clear_value x13
      extract_lets +onlyGivenNames x15
      have h15 : Same [.routing, .tiles, .sched, .ports, .wqs, .cqs, .trans, .insts, .hearth, .quench,   .counters, .mem, .poison, .free, .out] x15 a1 := by
        unfold x15
        exact Same.step (State.owe_same ..) rfl (by assumption)
      clear_value x15
      extract_lets +onlyGivenNames x17
      have h17 : Same [.routing, .tiles, .sched, .ports, .wqs, .cqs, .trans, .insts, .hearth, .quench,   .counters, .mem, .poison, .free, .out] x17 a1 := by
        unfold x17
        refine Same.ite ?_ ?_
        · assumption
        · exact Same.step (State.makeRec_same ..) rfl (by assumption)
      clear_value x17
      exact Same.step (State.queueGone_same ..) rfl (Same.step (State.tagDone_same ..) rfl (Same.step (State.updateWait_same ..) rfl (by assumption)))

theorem State.started_same (a1 : State) (a2 : Nat) :
    Same [.wqs] (State.started a1 a2) a1 := by
  unfold State.started
  exact Same.step (State.modWq_same ..) rfl (Same.refl _ _)

theorem State.takeBack_same (a1 : State) (a2 : Rec) :
    Same [.wqs, .matching] (State.takeBack a1 a2) a1 := by
  unfold State.takeBack
  refine Same.ite ?_ ?_
  · exact Same.step (State.modCtx_same ..) rfl (Same.refl _ _)
  · exact Same.ite (Same.step (State.modWq_same ..) rfl (Same.refl _ _)) (Same.refl _ _)

theorem State.unwrite_same (a1 : State) (a2 : Nat) :
    Same [.wqs, .cqs, .matching] (State.unwrite a1 a2) a1 := by
  unfold State.unwrite
  split
  · exact Same.refl _ _
  · extract_lets +onlyGivenNames x6
    clear_value x6
    refine Same.foldl ?_ _ ?_
    · intro y7
      intro y8
      exact Same.step (State.takeBack_same ..) rfl (Same.refl _ _)
    · exact Same.step (State.modCq_same ..) rfl (Same.refl _ _)

theorem State.ringError_same (a1 : State) (a2 : Nat) :
    Same [.wqs, .cqs, .matching, .quench, .counters] (State.ringError a1 a2) a1 := by
  unfold State.ringError
  split
  · exact Same.refl _ _
  · refine Same.ite ?_ ?_
    · exact Same.refl _ _
    · exact Same.step (State.raise_same ..) rfl (Same.step (State.modCq_same ..) rfl (Same.step (State.unwrite_same ..) rfl (Same.refl _ _)))

theorem State.missedArrivals_same (a1 : State) (a2 : Nat) :
    Same [.routing, .tiles, .sched, .ports, .wqs, .cqs, .matching, .trans, .insts, .hearth, .quench, .counters, .free, .out] (State.missedArrivals a1 a2) a1 := by
  unfold State.missedArrivals
  refine Same.foldl ?_ _ ?_
  · intro y3
    intro y4
    refine Same.ite ?_ ?_
    · split
      · refine Same.ite ?_ ?_
        · extract_lets +onlyGivenNames x8
          clear_value x8
          exact Same.step (State.makeRec_same ..) rfl (Same.step (State.modCtx_same ..) rfl (Same.refl _ _))
        · exact Same.refl _ _
      · exact Same.refl _ _
    · exact Same.refl _ _
  · exact Same.refl _ _

theorem State.queueEvent_same (a1 : State) (a2 : Nat) (a3 : BitVec 8) (a4 : BitVec 32) :
    Same [.routing, .tiles, .sched, .ports, .wqs, .cqs, .trans, .insts, .hearth, .quench, .counters, .free, .out] (State.queueEvent a1 a2 a3 a4) a1 := by
  unfold State.queueEvent
  split
  · exact Same.refl _ _
  · refine Same.ite ?_ ?_
    · exact Same.step (State.modWq_same ..) rfl (Same.refl _ _)
    · extract_lets +onlyGivenNames x8
      clear_value x8
      exact Same.step (State.makeRec_same ..) rfl (Same.step (State.modWq_same ..) rfl (Same.refl _ _))

theorem State.queueError_same (a1 : State) (a2 : Nat) (a3 : BitVec 32) (a4 : BitVec 4) :
    Same [.routing, .tiles, .sched, .ports, .wqs, .cqs, .trans, .insts, .hearth, .quench, .counters, .free, .out] (State.queueError a1 a2 a3 a4) a1 := by
  unfold State.queueError
  split
  · exact Same.refl _ _
  · extract_lets +onlyGivenNames x8
    clear_value x8
    extract_lets +onlyGivenNames x9
    clear_value x9
    extract_lets +onlyGivenNames x10
    have h10 : Same [.routing, .tiles, .sched, .ports, .wqs, .cqs, .trans, .insts, .hearth, .quench, .counters, .free, .out] x10 a1 := by
      unfold x10
      exact Same.step (State.modWq_same ..) rfl (Same.refl _ _)
    clear_value x10
    extract_lets +onlyGivenNames x12
    extract_lets +onlyGivenNames x13
    have h13 : Same [.routing, .tiles, .sched, .ports, .wqs, .cqs, .trans, .insts, .hearth, .quench, .counters, .free, .out] x13 a1 := by
      unfold x13
      exact Same.setCounters rfl id (by assumption)
    clear_value x13
    extract_lets +onlyGivenNames x15
    have h15 : Same [.routing, .tiles, .sched, .ports, .wqs, .cqs, .trans, .insts, .hearth, .quench, .counters, .free, .out] x15 a1 := by
      unfold x15
      exact Same.step (State.owe_same ..) rfl (by assumption)
    clear_value x15
    extract_lets +onlyGivenNames x17
    have h17 : Same [.routing, .tiles, .sched, .ports, .wqs, .cqs, .trans, .insts, .hearth, .quench, .counters, .free, .out] x17 a1 := by
      unfold x17
      exact Same.step (State.queueEvent_same ..) rfl (by assumption)
    clear_value x17
    exact Same.step (State.raise_same ..) rfl (by assumption)

theorem State.modTag_same (a1 : State) (a2 : Nat) (a3 : BitVec 32) (a4 : Tagged → Tagged) :
    Same [.counters] (State.modTag a1 a2 a3 a4) a1 := by
  unfold State.modTag
  exact Same.setCounters rfl id (Same.refl _ _)

theorem State.tagFetch_same (a1 : State) (a2 : Nat) (a3 : Nat) (a4 : BitVec 32) (a5 : BitVec 8) :
    Same [.counters] (State.tagFetch a1 a2 a3 a4 a5).1 a1 := by
  unfold State.tagFetch
  extract_lets +onlyGivenNames x6
  extract_lets +onlyGivenNames x7
  clear_value x7
  refine Same.iteFst ?_ ?_
  · dsimp only
    exact Same.refl _ _
  · extract_lets +onlyGivenNames x8
    clear_value x8
    extract_lets +onlyGivenNames x9
    refine Same.iteFst ?_ ?_
    · dsimp only
      exact Same.setCounters rfl id (Same.refl _ _)
    · refine Same.iteFst ?_ ?_
      · dsimp only
        exact Same.setCounters rfl id (Same.refl _ _)
      · extract_lets +onlyGivenNames x10
        clear_value x10
        dsimp only
        exact Same.setCounters rfl id (Same.refl _ _)

theorem execDescriptorReadComplete_same (a1 : Nat) (a2 : ReadResult) (a3 : State) :
    SameNext [.routing, .tiles, .sched, .ports, .wqs, .cqs, .trans, .insts, .hearth, .quench, .counters, .mem, .poison, .free, .out] (execDescriptorReadComplete a1 a2 a3) a3 := by
  unfold execDescriptorReadComplete
  split
  · exact SameNext.next (Same.refl _ _)
  · split
    · exact SameNext.next (Same.refl _ _)
    · extract_lets +onlyGivenNames x10
      have h10 : Same [.routing, .tiles, .sched, .ports, .wqs, .cqs, .trans, .insts, .hearth, .quench, .counters, .mem, .poison, .free, .out] x10 a3 := by
        unfold x10
        exact Same.step (State.noteRead_same ..) rfl (Same.step (State.dropD2h_same ..) rfl (Same.refl _ _))
      clear_value x10
      split
      · exact SameNext.next (Same.step (State.queueError_same ..) rfl (by assumption))
      · exact SameNext.next (Same.step (State.queueError_same ..) rfl (by assumption))
      · refine SameNext.ite ?_ ?_
        · exact SameNext.next (Same.step (State.queueError_same ..) rfl (by assumption))
        · extract_lets +onlyGivenNames x14
          clear_value x14
          extract_lets +onlyGivenNames x15
          have h15 : Same [.routing, .tiles, .sched, .ports, .wqs, .cqs, .trans, .insts, .hearth, .quench, .counters, .mem, .poison, .free, .out] x15 a3 := by
            unfold x15
            refine Same.getDMap ?_ ?_
            · intro y16
              exact Same.step (State.count_same ..) rfl (by assumption)
            · assumption
          clear_value x15
          split
          extract_lets +onlyGivenNames x21
          have h21 : Same [.routing, .tiles, .sched, .ports, .wqs, .cqs, .trans, .insts, .hearth, .quench, .counters, .mem, .poison, .free, .out] x21 a3 := by
            unfold x21
            exact Same.step (State.modWq_same ..) rfl (Same.ofFst (by assumption) (Same.step (State.tagFetch_same ..) rfl (by assumption)))
          clear_value x21
          split
          · exact SameNext.next (Same.step (State.complete_same ..) rfl (by assumption))
          · exact SameNext.next (Same.step (State.modWq_same ..) rfl (by assumption))

theorem execQueueStatus_same (a1 : Call) (a2 : Bool) (a3 : Nat) (a4 : Word) (a5 : State) :
    SameNext [.routing, .tiles, .sched, .ports, .wqs, .cqs, .hearth, .quench, .counters, .out] (execQueueStatus a1 a2 a3 a4 a5) a5 := by
  unfold execQueueStatus
  refine fleso_same rfl ?_
  intro y6
  intro y7
  refine Same.iteFst ?_ ?_
  · split
    · dsimp only
      exact Same.refl _ _
    · refine Same.iteFst ?_ ?_
      · dsimp only
        exact Same.refl _ _
      · refine Same.iteFst ?_ ?_
        · dsimp only
          exact Same.refl _ _
        · dsimp only
          exact Same.step (State.modCq_same ..) rfl (Same.refl _ _)
  · split
    · dsimp only
      exact Same.refl _ _
    · refine Same.iteFst ?_ ?_
      · dsimp only
        exact Same.refl _ _
      · refine Same.iteFst ?_ ?_
        · dsimp only
          exact Same.refl _ _
        · dsimp only
          exact Same.step (State.modWq_same ..) rfl (Same.refl _ _)

theorem execCqSignal_same (a1 : Call) (a2 : Nat) (a3 : Bool) (a4 : Nat) (a5 : State) :
    SameNext [.routing, .tiles, .sched, .ports, .cqs, .hearth, .quench, .counters, .out] (execCqSignal a1 a2 a3 a4 a5) a5 := by
  unfold execCqSignal
  refine fleso_same rfl ?_
  intro y6
  intro y7
  split
  · dsimp only
    exact Same.refl _ _
  · refine Same.iteFst ?_ ?_
    · dsimp only
      exact Same.refl _ _
    · refine Same.iteFst ?_ ?_
      · dsimp only
        exact Same.refl _ _
      · dsimp only
        exact Same.step (State.modCq_same ..) rfl (Same.refl _ _)

theorem execRecordWriteComplete_same (a1 : Nat) (a2 : State) :
    SameNext [.routing, .tiles, .sched, .ports, .wqs, .cqs, .trans, .hearth, .quench, .counters, .free, .out] (execRecordWriteComplete a1 a2) a2 := by
  unfold execRecordWriteComplete
  split
  · exact SameNext.next (Same.refl _ _)
  · split
    · exact SameNext.next (Same.refl _ _)
    · extract_lets +onlyGivenNames x10
      have h10 : Same [.routing, .tiles, .sched, .ports, .wqs, .cqs, .trans, .hearth, .quench, .counters, .free, .out] x10 a2 := by
        unfold x10
        exact Same.step (State.modCq_same ..) rfl (Same.refl _ _)
      clear_value x10
      refine SameNext.next ?_
      refine Same.ite ?_ ?_
      · exact Same.step (State.queueGone_same ..) rfl (by assumption)
      · assumption

theorem execCqCreate_same (a1 : Call) (a2 : Option Nat) (a3 : Option Nat) (a4 : Nat) (a5 : Word) (a6 : Word) (a7 : Nat) (a8 : Bool) (a9 : State) :
    SameNext [.routing, .tiles, .sched, .ports, .cqs, .hearth, .quench, .counters, .out] (execCqCreate a1 a2 a3 a4 a5 a6 a7 a8 a9) a9 := by
  unfold execCqCreate
  refine fleso_same rfl ?_
  intro y10
  intro y11
  split
  · dsimp only
    exact Same.refl _ _
  · dsimp only
    exact Same.refl _ _
  · refine Same.iteFst ?_ ?_
    · dsimp only
      exact Same.refl _ _
    · refine Same.iteFst ?_ ?_
      · dsimp only
        exact Same.refl _ _
      · split
        · dsimp only
          exact Same.refl _ _
        · refine Same.iteFst ?_ ?_
          · dsimp only
            exact Same.refl _ _
          · split
            · dsimp only
              exact Same.refl _ _
            · refine Same.iteFst ?_ ?_
              · dsimp only
                exact Same.refl _ _
              · extract_lets +onlyGivenNames x23
                clear_value x23
                dsimp only
                exact Same.setCqs rfl (Same.refl _ _)

theorem execWqCreate_same (a1 : Call) (a2 : Option Nat) (a3 : Option Nat) (a4 : Nat) (a5 : Word) (a6 : Word) (a7 : Nat) (a8 : State) :
    SameNext [.routing, .tiles, .sched, .ports, .wqs, .hearth, .quench, .counters, .out] (execWqCreate a1 a2 a3 a4 a5 a6 a7 a8) a8 := by
  unfold execWqCreate
  refine fleso_same rfl ?_
  intro y9
  intro y10
  split
  · dsimp only
    exact Same.refl _ _
  · dsimp only
    exact Same.refl _ _
  · refine Same.iteFst ?_ ?_
    · dsimp only
      exact Same.refl _ _
    · split
      · dsimp only
        exact Same.refl _ _
      · split
        · dsimp only
          exact Same.refl _ _
        · refine Same.iteFst ?_ ?_
          · dsimp only
            exact Same.refl _ _
          · refine Same.iteFst ?_ ?_
            · dsimp only
              exact Same.refl _ _
            · refine Same.iteFst ?_ ?_
              · dsimp only
                exact Same.refl _ _
              · refine Same.iteFst ?_ ?_
                · dsimp only
                  exact Same.refl _ _
                · split
                  · dsimp only
                    exact Same.refl _ _
                  · refine Same.iteFst ?_ ?_
                    · dsimp only
                      exact Same.refl _ _
                    · extract_lets +onlyGivenNames x25
                      clear_value x25
                      dsimp only
                      exact Same.step (State.updateWait_same ..) rfl (Same.setWqs rfl (Same.refl _ _))

theorem State.refusedBell_same (a1 : State) (a2 : Fn) :
    Same [.counters] (State.refusedBell a1 a2) a1 := by
  unfold State.refusedBell
  refine Same.getDMap ?_ ?_
  · intro y3
    exact Same.step (State.count_same ..) rfl (Same.refl _ _)
  · exact Same.refl _ _

theorem State.badDoorbell_same (a1 : State) (a2 : Fn) (a3 : BitVec 14) :
    Same [.quench, .counters] (State.badDoorbell a1 a2 a3) a1 := by
  unfold State.badDoorbell
  exact Same.step (State.raise_same ..) rfl (Same.refl _ _)

theorem execWqDoorbell_same (a1 : Fn) (a2 : BitVec 14) (a3 : BitVec 32) (a4 : BitVec 17) (a5 : Bool) (a6 : State) :
    SameNext [.routing, .tiles, .sched, .ports, .wqs, .cqs, .trans, .insts, .hearth, .quench, .counters, .free, .out] (execWqDoorbell a1 a2 a3 a4 a5 a6) a6 := by
  unfold execWqDoorbell
  split
  · exact SameNext.next (Same.step (State.badDoorbell_same ..) rfl (Same.step (State.refusedBell_same ..) rfl (Same.refl _ _)))
  · refine SameNext.ite ?_ ?_
    · exact SameNext.next (Same.refl _ _)
    · refine SameNext.ite ?_ ?_
      · exact SameNext.next (Same.step (State.badDoorbell_same ..) rfl (Same.step (State.refusedBell_same ..) rfl (Same.refl _ _)))
      · refine SameNext.ite ?_ ?_
        · exact SameNext.next (Same.step (State.queueEvent_same ..) rfl (Same.step (State.modWq_same ..) rfl (Same.step (State.refusedBell_same ..) rfl (Same.refl _ _))))
        · refine SameNext.ite ?_ ?_
          · exact SameNext.next (Same.step (State.queueEvent_same ..) rfl (Same.step (State.modWq_same ..) rfl (Same.step (State.refusedBell_same ..) rfl (Same.refl _ _))))
          · exact SameNext.next (Same.step (State.modWq_same ..) rfl (Same.refl _ _))

theorem State.writeBackCq_same (a1 : State) (a2 : Nat) :
    Same [.routing, .tiles, .sched, .ports, .cqs, .trans, .hearth, .quench, .counters, .free, .out] (State.writeBackCq a1 a2) a1 := by
  unfold State.writeBackCq
  split
  · exact Same.refl _ _
  · refine Same.ite ?_ ?_
    · exact Same.refl _ _
    · extract_lets +onlyGivenNames x6
      have h6 : Same [.routing, .tiles, .sched, .ports, .cqs, .trans, .hearth, .quench, .counters, .free, .out] x6 a1 := by
        unfold x6
        exact Same.step (State.hostPut_same ..) rfl (Same.step (State.modCq_same ..) rfl (Same.refl _ _))
      clear_value x6
      refine Same.ite ?_ ?_
      · exact Same.step (State.signal_same ..) rfl (by assumption)
      · assumption

theorem execWriteBackWord_same (a1 : Bool) (a2 : Nat) (a3 : State) :
    SameNext [.routing, .tiles, .sched, .ports, .wqs, .cqs, .trans, .hearth, .quench, .counters, .free, .out] (execWriteBackWord a1 a2 a3) a3 := by
  unfold execWriteBackWord
  exact SameNext.next (Same.ite (Same.step (State.writeBackCq_same ..) rfl (Same.refl _ _)) (Same.step (State.writeBackWq_same ..) rfl (Same.refl _ _)))

theorem execCqRestart_same (a1 : Call) (a2 : Nat) (a3 : State) :
    SameNext [.routing, .tiles, .sched, .ports, .wqs, .cqs, .matching, .trans, .insts, .hearth, .quench, .counters, .free, .out] (execCqRestart a1 a2 a3) a3 := by
  unfold execCqRestart
  refine fleso_same rfl ?_
  intro y4
  intro y5
  split
  · dsimp only
    exact Same.refl _ _
  · refine Same.iteFst ?_ ?_
    · dsimp only
      exact Same.refl _ _
    · refine Same.iteFst ?_ ?_
      · dsimp only
        exact Same.refl _ _
      · dsimp only
        exact Same.step (State.updateWait_same ..) rfl (Same.step (State.missedArrivals_same ..) rfl (Same.step (State.drain_same ..) rfl (Same.step (State.modCq_same ..) rfl (Same.refl _ _))))

theorem execWqRestart_same (a1 : Call) (a2 : Nat) (a3 : Bool) (a4 : State) :
    SameNext [.routing, .tiles, .sched, .ports, .wqs, .cqs, .trans, .insts, .hearth, .quench, .counters, .mem, .poison, .free, .out] (execWqRestart a1 a2 a3 a4) a4 := by
  unfold execWqRestart
  refine fleso_same rfl ?_
  intro y5
  intro y6
  split
  · dsimp only
    exact Same.refl _ _
  · refine Same.iteFst ?_ ?_
    · dsimp only
      exact Same.refl _ _
    · refine Same.iteFst ?_ ?_
      · dsimp only
        exact Same.refl _ _
      · refine Same.iteFst ?_ ?_
        · extract_lets +onlyGivenNames x10
          clear_value x10
          extract_lets +onlyGivenNames x11
          have h11 : Same [.routing, .tiles, .sched, .ports, .wqs, .cqs, .trans, .insts, .hearth, .quench,   .counters, .mem, .poison, .free, .out] x11 y6 := by
            unfold x11
            exact Same.step (State.modWq_same ..) rfl (Same.refl _ _)
          clear_value x11
          dsimp only
          exact Same.step (State.complete_same ..) rfl (Same.step (State.owe_same ..) rfl (by assumption))
        · dsimp only
          exact Same.step (State.modWq_same ..) rfl (Same.refl _ _)

theorem execCqDoorbell_same (a1 : Fn) (a2 : BitVec 14) (a3 : BitVec 32) (a4 : BitVec 17) (a5 : Bool) (a6 : State) :
    SameNext [.routing, .tiles, .sched, .ports, .wqs, .cqs, .matching, .trans, .insts, .hearth, .quench, .counters, .free, .out] (execCqDoorbell a1 a2 a3 a4 a5 a6) a6 := by
  unfold execCqDoorbell
  split
  · exact SameNext.next (Same.step (State.badDoorbell_same ..) rfl (Same.refl _ _))
  · refine SameNext.ite ?_ ?_
    · exact SameNext.next (Same.refl _ _)
    · refine SameNext.ite ?_ ?_
      · exact SameNext.next (Same.step (State.badDoorbell_same ..) rfl (Same.refl _ _))
      · refine SameNext.ite ?_ ?_
        · extract_lets +onlyGivenNames x10
          have h10 : Same [.routing, .tiles, .sched, .ports, .wqs, .cqs, .matching, .trans, .insts, .hearth, .quench, .counters, .free, .out] x10 a6 := by
            unfold x10
            exact Same.step (State.modCq_same ..) rfl (Same.refl _ _)
          clear_value x10
          exact SameNext.next (Same.step (State.updateWait_same ..) rfl (Same.step (State.missedArrivals_same ..) rfl (Same.step (State.drain_same ..) rfl (by assumption))))
        · exact SameNext.next (Same.step (State.badDoorbell_same ..) rfl (Same.step (State.modCq_same ..) rfl (Same.refl _ _)))

theorem execNop_same (a1 : Nat) (a2 : State) :
    SameNext [.routing, .tiles, .sched, .ports, .wqs, .cqs, .trans, .insts, .hearth, .quench, .counters, .mem, .poison, .free, .out] (execNop a1 a2) a2 := by
  unfold execNop
  split
  · exact SameNext.next (Same.refl _ _)
  · exact SameNext.next (Same.step (State.complete_same ..) rfl (Same.step (State.started_same ..) rfl (Same.refl _ _)))

theorem execQueueDestroy_same (a1 : Call) (a2 : Bool) (a3 : Nat) (a4 : State) :
    SameNext [.routing, .tiles, .sched, .ports, .wqs, .cqs, .trans, .hearth, .quench, .counters, .free, .out] (execQueueDestroy a1 a2 a3 a4) a4 := by
  unfold execQueueDestroy
  refine fleso_same rfl ?_
  intro y5
  intro y6
  refine Same.iteFst ?_ ?_
  · split
    · dsimp only
      exact Same.refl _ _
    · refine Same.iteFst ?_ ?_
      · dsimp only
        exact Same.refl _ _
      · refine Same.iteFst ?_ ?_
        · dsimp only
          exact Same.refl _ _
        · extract_lets +onlyGivenNames x10
          have h10 : Same [.routing, .tiles, .sched, .ports, .wqs, .cqs, .trans, .hearth, .quench, .counters, .free, .out] x10 y6 := by
            unfold x10
            exact Same.step (State.writeBackCq_same ..) rfl (Same.refl _ _)
          clear_value x10
          dsimp only
          exact Same.setCqs rfl (by assumption)
  · split
    · dsimp only
      exact Same.refl _ _
    · refine Same.iteFst ?_ ?_
      · dsimp only
        exact Same.refl _ _
      · refine Same.iteFst ?_ ?_
        · dsimp only
          exact Same.refl _ _
        · extract_lets +onlyGivenNames x10
          clear_value x10
          extract_lets +onlyGivenNames x11
          have h11 : Same [.routing, .tiles, .sched, .ports, .wqs, .cqs, .trans, .hearth, .quench, .counters, .free, .out] x11 y6 := by
            unfold x11
            exact Same.step (State.modWq_same ..) rfl (Same.refl _ _)
          clear_value x11
          dsimp only
          exact Same.step (State.queueGone_same ..) rfl (Same.step (State.owe_same ..) rfl (by assumption))

theorem execDescriptorFetch_same (a1 : Nat) (a2 : State) :
    SameNext [.routing, .tiles, .sched, .ports, .wqs, .cqs, .trans, .hearth, .quench, .counters, .free, .out] (execDescriptorFetch a1 a2) a2 := by
  unfold execDescriptorFetch
  split
  · exact SameNext.next (Same.refl _ _)
  · split
    · exact SameNext.next (Same.refl _ _)
    · extract_lets +onlyGivenNames x9
      clear_value x9
      refine SameNext.ite ?_ ?_
      · exact SameNext.next (Same.refl _ _)
      · refine SameNext.ite ?_ ?_
        · exact SameNext.next (Same.step (State.updateWait_same ..) rfl (Same.refl _ _))
        · extract_lets +onlyGivenNames x10
          clear_value x10
          extract_lets +onlyGivenNames x11
          have h11 : Same [.routing, .tiles, .sched, .ports, .wqs, .cqs, .trans, .hearth, .quench, .counters, .free, .out] x11 a2 := by
            unfold x11
            exact Same.step (State.owe_same ..) rfl (Same.step (State.modWq_same ..) rfl (Same.refl _ _))
          clear_value x11
          exact SameNext.next (Same.step (State.hostRead_same ..) rfl (by assumption))

end Sys2Proof.Machine
end

