-- ==== Sys2Proof/Laws/FrameTally.lean ====
section
/-! SUPPORT. Frames of the operations and commands of Sys2Proof/Machine/Tally.lean: each changes no part of the module but those it
names, and keeps module memory canonical. -/

namespace Sys2Proof.Machine

open Sys2Proof

theorem State.logPage_same (a1 : State) (a2 : Nat) (a3 : Nat) :
    Same [.insts, .quench, .counters, .free, .out] (State.logPage a1 a2 a3) a1 := by
  unfold State.logPage
  extract_lets +onlyGivenNames x4
  clear_value x4
  extract_lets +onlyGivenNames x5
  clear_value x5
  extract_lets +onlyGivenNames x6
  clear_value x6
  extract_lets +onlyGivenNames x7
  refine Same.ite ?_ ?_
  · extract_lets +onlyGivenNames x8
    clear_value x8
    refine Same.ite ?_ ?_
    · exact Same.ite (Same.step (State.emit_same ..) rfl (Same.refl _ _)) (Same.refl _ _)
    · unfold x7
      exact Same.step (State.raise_same ..) rfl (Same.step (State.modInst_same ..) rfl (Same.refl _ _))
  · refine Same.ite ?_ ?_
    · extract_lets +onlyGivenNames x8
      clear_value x8
      split
      extract_lets +onlyGivenNames x13
      clear_value x13
      refine Same.ite ?_ ?_
      · extract_lets +onlyGivenNames x14
        have h14 : Same [.insts, .quench, .counters, .free, .out] x14 a1 := by
          unfold x14
          refine Same.step (State.writePhys_same ..) rfl (Same.ofSnd (by assumption) ?_)
          refine Same.iteSnd ?_ ?_
          · exact Same.step (State.drawFree_same ..) rfl (Same.refl _ _)
          · dsimp only
            exact Same.refl _ _
        clear_value x14
        exact Same.step (State.modInst_same ..) rfl (Same.step (State.writePhys_same ..) rfl (by assumption))
      · extract_lets +onlyGivenNames x14
        have h14 : Same [.insts, .quench, .counters, .free, .out] x14 a1 := by
          unfold x14
          refine Same.step (State.writePhys_same ..) rfl (Same.ofSnd (by assumption) ?_)
          refine Same.iteSnd ?_ ?_
          · exact Same.step (State.drawFree_same ..) rfl (Same.refl _ _)
          · dsimp only
            exact Same.refl _ _
        clear_value x14
        unfold x7
        exact Same.step (State.raise_same ..) rfl (Same.step (State.modInst_same ..) rfl (Same.step (State.modInst_same ..) rfl (by assumption)))
    · exact Same.refl _ _

theorem State.logPages_same (a1 : State) (a2 : Nat) (a3 : Word) (a4 : Nat) :
    Same [.insts, .quench, .counters, .free, .out] (State.logPages a1 a2 a3 a4) a1 := by
  unfold State.logPages
  refine Same.ite ?_ ?_
  · exact Same.refl _ _
  · extract_lets +onlyGivenNames x5
    clear_value x5
    refine Same.foldl ?_ _ ?_
    · intro y6
      intro y7
      exact Same.step (State.logPage_same ..) rfl (Same.refl _ _)
    · exact Same.refl _ _

theorem State.fire_same (a1 : State) (a2 : Nat) :
    Same [.routing, .tiles, .sched, .ports, .wqs, .cqs, .remote, .trans, .insts, .hearth, .quench, .counters, .free, .out] (State.fire a1 a2) a1 := by
  unfold State.fire
  extract_lets +onlyGivenNames x3
  clear_value x3
  refine Same.ite ?_ ?_
  · extract_lets +onlyGivenNames x4
    have h4 : Same [.routing, .tiles, .sched, .ports, .wqs, .cqs, .remote, .trans, .insts, .hearth, .quench, .counters, .free, .out] x4 a1 := by
      unfold x4
      exact Same.step (State.modTally_same ..) rfl (Same.refl _ _)
    clear_value x4
    refine Same.ite ?_ ?_
    · assumption
    · extract_lets +onlyGivenNames x6
      clear_value x6
      extract_lets +onlyGivenNames x7
      have h7 : Same [.routing, .tiles, .sched, .ports, .wqs, .cqs, .remote, .trans, .insts, .hearth, .quench, .counters, .free, .out] x7 a1 := by
        unfold x7
        exact Same.step (State.owe_same ..) rfl (by assumption)
      clear_value x7
      exact Same.ite (Same.step (State.modTally_same ..) rfl (by assumption)) (Same.step (State.makeRec_same ..) rfl (by assumption))
  · exact Same.refl _ _

theorem State.wakeTally_same (a1 : State) (a2 : Nat) :
    Same [.draw] (State.wakeTally a1 a2) a1 := by
  unfold State.wakeTally
  extract_lets +onlyGivenNames x3
  clear_value x3
  exact Same.setDraw rfl (Same.refl _ _)

theorem State.tallyAdd_same (a1 : State) (a2 : Nat) (a3 : Word) :
    Same [.routing, .tiles, .sched, .ports, .wqs, .cqs, .remote, .trans, .insts, .draw, .hearth, .quench, .counters, .free, .out] (State.tallyAdd a1 a2 a3) a1 := by
  unfold State.tallyAdd
  refine Same.ite ?_ ?_
  · exact Same.refl _ _
  · refine Same.ite ?_ ?_
    · exact Same.step (State.modTally_same ..) rfl (Same.refl _ _)
    · extract_lets +onlyGivenNames x4
      have h4 : Same [.routing, .tiles, .sched, .ports, .wqs, .cqs, .remote, .trans, .insts, .draw, .hearth, .quench, .counters, .free, .out] x4 a1 := by
        unfold x4
        exact Same.step (State.modTally_same ..) rfl (Same.refl _ _)
      clear_value x4
      exact Same.step (State.wakeTally_same ..) rfl (Same.step (State.fire_same ..) rfl (by assumption))

theorem execTallyMirrorWrite_same (a1 : Nat) (a2 : Access) (a3 : State) :
    SameNext [.routing, .tiles, .sched, .ports, .wqs, .cqs, .remote, .trans, .insts, .hearth, .quench, .counters, .free, .out] (execTallyMirrorWrite a1 a2 a3) a3 := by
  unfold execTallyMirrorWrite
  extract_lets +onlyGivenNames x4
  clear_value x4
  extract_lets +onlyGivenNames x5
  clear_value x5
  extract_lets +onlyGivenNames x6
  clear_value x6
  refine SameNext.ite ?_ ?_
  · exact SameNext.next (Same.refl _ _)
  · extract_lets +onlyGivenNames x7
    have h7 : Same [.routing, .tiles, .sched, .ports, .wqs, .cqs, .remote, .trans, .insts, .hearth, .quench, .counters, .free, .out] x7 a3 := by
      unfold x7
      exact Same.step (State.noteAccess_same ..) rfl (Same.step (State.logPages_same ..) rfl (Same.refl _ _))
    clear_value x7
    extract_lets +onlyGivenNames x9
    have h9 : Same [.routing, .tiles, .sched, .ports, .wqs, .cqs, .remote, .trans, .insts, .hearth, .quench, .counters, .free, .out] x9 a3 := by
      unfold x9
      split
      · exact Same.step (State.hostPut_same ..) rfl (by assumption)
      · assumption
    clear_value x9
    extract_lets +onlyGivenNames x11
    have h11 : Same [.routing, .tiles, .sched, .ports, .wqs, .cqs, .remote, .trans, .insts, .hearth, .quench, .counters, .free, .out] x11 a3 := by
      unfold x11
      exact Same.step (State.modTally_same ..) rfl (by assumption)
    clear_value x11
    refine SameNext.next ?_
    refine Same.foldl ?_ _ ?_
    · intro y13
      intro y14
      exact Same.step (State.makeRec_same ..) rfl (Same.refl _ _)
    · assumption

theorem State.disarm_same (a1 : State) (a2 : Nat) :
    Same [.wqs, .cqs, .remote] (State.disarm a1 a2) a1 := by
  unfold State.disarm
  extract_lets +onlyGivenNames x3
  clear_value x3
  extract_lets +onlyGivenNames x4
  have h4 : Same [.wqs, .cqs, .remote] x4 a1 := by
    unfold x4
    exact Same.ite (Same.step (State.owe_same ..) rfl (Same.refl _ _)) (Same.refl _ _)
  clear_value x4
  exact Same.step (State.modTally_same ..) rfl (by assumption)

theorem State.arm_same (a1 : State) (a2 : Nat) (a3 : Word) :
    Same [.routing, .tiles, .sched, .ports, .wqs, .cqs, .remote, .trans, .insts, .hearth, .quench, .counters, .free, .out] (State.arm a1 a2 a3) a1 := by
  unfold State.arm
  extract_lets +onlyGivenNames x4
  clear_value x4
  extract_lets +onlyGivenNames x5
  have h5 : Same [.routing, .tiles, .sched, .ports, .wqs, .cqs, .remote, .trans, .insts, .hearth, .quench, .counters, .free, .out] x5 a1 := by
    unfold x5
    exact Same.step (State.modTally_same ..) rfl (Same.refl _ _)
  clear_value x5
  extract_lets +onlyGivenNames x7
  have h7 : Same [.routing, .tiles, .sched, .ports, .wqs, .cqs, .remote, .trans, .insts, .hearth, .quench, .counters, .free, .out] x7 a1 := by
    unfold x7
    refine Same.ite ?_ ?_
    · exact Same.step (State.owe_same ..) rfl (by assumption)
    · assumption
  clear_value x7
  exact Same.step (State.fire_same ..) rfl (by assumption)

theorem execTallyAlloc_same (a1 : Call) (a2 : Option Nat) (a3 : Option Nat) (a4 : Bool) (a5 : Option Nat) (a6 : Word) (a7 : Option Word) (a8 : State) :
    SameNext [.routing, .tiles, .sched, .ports, .remote, .hearth, .quench, .counters, .out] (execTallyAlloc a1 a2 a3 a4 a5 a6 a7 a8) a8 := by
  unfold execTallyAlloc
  refine fleso_same rfl ?_
  intro y9
  intro y10
  split
  · dsimp only
    exact Same.refl _ _
  · extract_lets +onlyGivenNames x15
    clear_value x15
    split
    · dsimp only
      exact Same.refl _ _
    · extract_lets +onlyGivenNames x19
      clear_value x19
      refine Same.iteFst ?_ ?_
      · dsimp only
        exact Same.refl _ _
      · refine Same.iteFst ?_ ?_
        · dsimp only
          exact Same.refl _ _
        · refine Same.iteFst ?_ ?_
          · dsimp only
            exact Same.refl _ _
          · refine Same.iteFst ?_ ?_
            · dsimp only
              exact Same.refl _ _
            · refine Same.iteFst ?_ ?_
              · dsimp only
                exact Same.refl _ _
              · refine Same.iteFst ?_ ?_
                · dsimp only
                  exact Same.refl _ _
                · split
                  · dsimp only
                    exact Same.refl _ _
                  · extract_lets +onlyGivenNames x23
                    clear_value x23
                    dsimp only
                    exact Same.setRemote rfl (Same.refl _ _)

theorem execTallyFree_same (a1 : Call) (a2 : Option Nat) (a3 : Nat) (a4 : State) :
    SameNext [.routing, .tiles, .sched, .ports, .wqs, .cqs, .remote, .trans, .insts, .hearth, .quench, .counters, .free, .out] (execTallyFree a1 a2 a3 a4) a4 := by
  unfold execTallyFree
  refine fleso_same rfl ?_
  intro y5
  intro y6
  split
  · dsimp only
    exact Same.refl _ _
  · split
    · dsimp only
      exact Same.refl _ _
    · extract_lets +onlyGivenNames x14
      clear_value x14
      extract_lets +onlyGivenNames x15
      have h15 : Same [.routing, .tiles, .sched, .ports, .wqs, .cqs, .remote, .trans, .insts, .hearth,   .quench, .counters, .free, .out] x15 y6 := by
        unfold x15
        refine Same.foldl ?_ _ ?_
        · intro y16
          intro y17
          exact Same.step (State.makeRec_same ..) rfl (Same.refl _ _)
        · exact Same.step (State.disarm_same ..) rfl (Same.refl _ _)
      clear_value x15
      dsimp only
      exact Same.setRemote rfl (by assumption)

theorem execTallyRead_same (a1 : Call) (a2 : Option Nat) (a3 : Nat) (a4 : State) :
    SameNext [.routing, .tiles, .sched, .ports, .hearth, .quench, .counters, .out] (execTallyRead a1 a2 a3 a4) a4 := by
  unfold execTallyRead
  refine fleso_same rfl ?_
  intro y5
  intro y6
  split
  · dsimp only
    exact Same.refl _ _
  · split
    · dsimp only
      exact Same.refl _ _
    · dsimp only
      exact Same.refl _ _

theorem execRemoteCfg_same (a1 : Call) (a2 : Word) (a3 : State) :
    SameNext [.routing, .tiles, .sched, .ports, .remote, .hearth, .quench, .counters, .out] (execRemoteCfg a1 a2 a3) a3 := by
  unfold execRemoteCfg
  refine fleso_same rfl ?_
  intro y4
  intro y5
  extract_lets +onlyGivenNames x6
  clear_value x6
  extract_lets +onlyGivenNames x7
  clear_value x7
  extract_lets +onlyGivenNames x8
  clear_value x8
  extract_lets +onlyGivenNames x9
  clear_value x9
  extract_lets +onlyGivenNames x10
  clear_value x10
  split
  · dsimp only
    exact Same.refl _ _
  · dsimp only
    exact Same.setRemote rfl (Same.refl _ _)

theorem execTallyArm_same (a1 : Call) (a2 : Option Nat) (a3 : Nat) (a4 : Word) (a5 : State) :
    SameNext [.routing, .tiles, .sched, .ports, .wqs, .cqs, .remote, .trans, .insts, .hearth, .quench, .counters, .free, .out] (execTallyArm a1 a2 a3 a4 a5) a5 := by
  unfold execTallyArm
  refine fleso_same rfl ?_
  intro y6
  intro y7
  split
  · dsimp only
    exact Same.refl _ _
  · split
    · dsimp only
      exact Same.refl _ _
    · dsimp only
      exact Same.step (State.arm_same ..) rfl (Same.refl _ _)

end Sys2Proof.Machine
end

