-- ==== Sys2Proof/Laws/FrameTrans.lean ====
section
/-! SUPPORT. Frames of the operations and commands of Sys2Proof/Machine/Trans.lean: each changes no part of the module but those it
names, and keeps module memory canonical. -/

namespace Sys2Proof.Machine

open Sys2Proof

theorem execTransLock_same (a1 : Call) (a2 : Nat) (a3 : Word) (a4 : Nat) (a5 : Bool) (a6 : State) :
    SameNext [.routing, .tiles, .sched, .ports, .trans, .hearth, .quench, .counters, .free, .out] (execTransLock a1 a2 a3 a4 a5 a6) a6 := by
  unfold execTransLock
  refine fleso_same rfl ?_
  intro y7
  intro y8
  refine Same.iteFst ?_ ?_
  · dsimp only
    exact Same.refl _ _
  · refine Same.iteFst ?_ ?_
    · dsimp only
      exact Same.refl _ _
    · refine Same.iteFst ?_ ?_
      · dsimp only
        exact Same.refl _ _
      · extract_lets +onlyGivenNames x9
        clear_value x9
        dsimp only
        exact Same.step (State.lockWalk_same ..) rfl (Same.setTrans rfl (Same.refl _ _))

theorem State.rewalk_same (a1 : State) (a2 : Nat) (a3 : List TlbEntry) :
    Same [.routing, .tiles, .sched, .ports, .trans, .hearth, .quench, .counters, .free, .out] (State.rewalk a1 a2 a3) a1 := by
  unfold State.rewalk
  refine Same.foldl ?_ _ ?_
  · intro y4
    intro y5
    extract_lets +onlyGivenNames x6
    clear_value x6
    exact Same.step (State.lockWalk_same ..) rfl (Same.setTrans rfl (Same.refl _ _))
  · exact Same.refl _ _

theorem execFaultLog_same (a1 : Call) (a2 : Nat) (a3 : Word) (a4 : Nat) (a5 : State) :
    SameNext [.routing, .tiles, .sched, .ports, .trans, .hearth, .quench, .counters, .out] (execFaultLog a1 a2 a3 a4 a5) a5 := by
  unfold execFaultLog
  refine fleso_same rfl ?_
  intro y6
  intro y7
  refine Same.iteFst ?_ ?_
  · dsimp only
    exact Same.refl _ _
  · refine Same.iteFst ?_ ?_
    · dsimp only
      exact Same.refl _ _
    · refine Same.iteFst ?_ ?_
      · dsimp only
        exact Same.refl _ _
      · refine Same.iteFst ?_ ?_
        · dsimp only
          exact Same.refl _ _
        · dsimp only
          exact Same.setTrans rfl (Same.refl _ _)

theorem execDeviceRange_same (a1 : Call) (a2 : Nat) (a3 : Nat) (a4 : Word) (a5 : Nat) (a6 : State) :
    SameNext [.routing, .tiles, .sched, .ports, .hearth, .quench, .counters, .out] (execDeviceRange a1 a2 a3 a4 a5 a6) a6 := by
  unfold execDeviceRange
  refine fleso_same rfl ?_
  intro y7
  intro y8
  refine Same.iteFst ?_ ?_
  · dsimp only
    exact Same.refl _ _
  · refine Same.iteFst ?_ ?_
    · dsimp only
      exact Same.refl _ _
    · refine Same.iteFst ?_ ?_
      · dsimp only
        exact Same.refl _ _
      · refine Same.iteFst ?_ ?_
        · dsimp only
          exact Same.refl _ _
        · dsimp only
          exact Same.step (State.modPort_same ..) rfl (Same.refl _ _)

theorem execTransDomain_same (a1 : Call) (a2 : Nat) (a3 : Word) (a4 : Word) (a5 : State) :
    SameNext [.routing, .tiles, .sched, .ports, .trans, .hearth, .quench, .counters, .out] (execTransDomain a1 a2 a3 a4 a5) a5 := by
  unfold execTransDomain
  refine fleso_same rfl ?_
  intro y6
  intro y7
  refine Same.iteFst ?_ ?_
  · dsimp only
    exact Same.refl _ _
  · refine Same.iteFst ?_ ?_
    · dsimp only
      exact Same.refl _ _
    · refine Same.iteFst ?_ ?_
      · dsimp only
        exact Same.refl _ _
      · refine Same.iteFst ?_ ?_
        · dsimp only
          exact Same.refl _ _
        · refine Same.iteFst ?_ ?_
          · dsimp only
            exact Same.refl _ _
          · extract_lets +onlyGivenNames x8
            clear_value x8
            extract_lets +onlyGivenNames x9
            clear_value x9
            extract_lets +onlyGivenNames x10
            clear_value x10
            dsimp only
            exact Same.setTrans rfl (Same.refl _ _)

theorem execTransInval_same (a1 : Call) (a2 : Nat) (a3 : Bool) (a4 : List (Word × Nat)) (a5 : State) :
    SameNext [.routing, .tiles, .sched, .ports, .trans, .hearth, .quench, .counters, .free, .out] (execTransInval a1 a2 a3 a4 a5) a5 := by
  unfold execTransInval
  refine fleso_same rfl ?_
  intro y6
  intro y7
  refine Same.iteFst ?_ ?_
  · dsimp only
    exact Same.refl _ _
  · refine Same.iteFst ?_ ?_
    · dsimp only
      exact Same.refl _ _
    · refine Same.iteFst ?_ ?_
      · dsimp only
        exact Same.refl _ _
      · extract_lets +onlyGivenNames x8
        clear_value x8
        extract_lets +onlyGivenNames x9
        clear_value x9
        extract_lets +onlyGivenNames x10
        clear_value x10
        extract_lets +onlyGivenNames x11
        clear_value x11
        extract_lets +onlyGivenNames x12
        clear_value x12
        extract_lets +onlyGivenNames x13
        have h13 : Same [.routing, .tiles, .sched, .ports, .trans, .hearth, .quench, .counters, .free, .out] x13 y7 := by
          unfold x13
          exact Same.setTrans rfl (Same.refl _ _)
        clear_value x13
        dsimp only
        exact Same.step (State.rewalk_same ..) rfl (by assumption)

theorem execInvalidationDrainComplete_same (a1 : Nat) (a2 : State) :
    SameNext [.routing, .tiles, .sched, .ports, .trans, .hearth, .quench, .counters, .out] (execInvalidationDrainComplete a1 a2) a2 := by
  unfold execInvalidationDrainComplete
  split
  · exact SameNext.next (Same.refl _ _)
  · refine SameNext.ite ?_ ?_
    · exact SameNext.next (Same.refl _ _)
    · extract_lets +onlyGivenNames x6
      clear_value x6
      extract_lets +onlyGivenNames x7
      have h7 : Same [.routing, .tiles, .sched, .ports, .trans, .hearth, .quench, .counters, .out] x7 a2 := by
        unfold x7
        exact Same.setTrans rfl (Same.refl _ _)
      clear_value x7
      exact SameNext.next (Same.step (State.serve_same ..) rfl (Same.step (State.answer_same ..) rfl (by assumption)))

theorem execTransUnlock_same (a1 : Call) (a2 : Nat) (a3 : Word) (a4 : Nat) (a5 : State) :
    SameNext [.routing, .tiles, .sched, .ports, .trans, .hearth, .quench, .counters, .out] (execTransUnlock a1 a2 a3 a4 a5) a5 := by
  unfold execTransUnlock
  refine fleso_same rfl ?_
  intro y6
  intro y7
  refine Same.iteFst ?_ ?_
  · dsimp only
    exact Same.refl _ _
  · refine Same.iteFst ?_ ?_
    · dsimp only
      exact Same.refl _ _
    · refine Same.iteFst ?_ ?_
      · dsimp only
        exact Same.refl _ _
      · extract_lets +onlyGivenNames x8
        clear_value x8
        dsimp only
        exact Same.setTrans rfl (Same.refl _ _)

end Sys2Proof.Machine
end

