-- ==== Sys2Proof/Laws/FrameDraw.lean ====
section
/-! SUPPORT. Frames of the operations and commands of Sys2Proof/Machine/Draw.lean: each changes no part of the module but those it
names, and keeps module memory canonical. -/

namespace Sys2Proof.Machine

open Sys2Proof

theorem State.setRecord_same (a1 : State) (a2 : Chan) (a3 : DrawSet) (a4 : BitVec 8) (a5 : Nat) (a6 : Word) (a7 : Word) :
    Same [.routing, .tiles, .sched, .ports, .wqs, .cqs, .trans, .insts, .hearth, .quench, .counters, .mem, .poison, .free, .out] (State.setRecord a1 a2 a3 a4 a5 a6 a7) a1 := by
  unfold State.setRecord
  extract_lets +onlyGivenNames x8
  clear_value x8
  split
  · exact Same.step (State.complete_same ..) rfl (Same.refl _ _)
  · split
    · exact Same.step (State.makeRec_same ..) rfl (Same.refl _ _)
    · exact Same.refl _ _

theorem State.supersede_same (a1 : State) (a2 : Chan) (a3 : DrawSet) :
    Same [.routing, .tiles, .sched, .ports, .wqs, .cqs, .trans, .insts, .draw, .hearth, .quench, .counters, .mem, .poison, .free, .out] (State.supersede a1 a2 a3) a1 := by
  unfold State.supersede
  exact Same.step (State.setRecord_same ..) rfl (Same.setDraw rfl (Same.refl _ _))

theorem State.dropJobs_same (a1 : State) (a2 : Nat) :
    Same [.ports, .draw] (State.dropJobs a1 a2) a1 := by
  unfold State.dropJobs
  exact Same.step (State.modChan_same ..) rfl (Same.step (State.modPort_same ..) rfl (Same.refl _ _))

theorem State.takeSet_same (a1 : State) (a2 : Nat) :
    Same [.draw] (State.takeSet a1 a2) a1 := by
  unfold State.takeSet
  exact Same.step (State.modChan_same ..) rfl (Same.refl _ _)

theorem State.endSet_same (a1 : State) (a2 : Nat) (a3 : BitVec 8) (a4 : Word) :
    Same [.routing, .tiles, .sched, .ports, .wqs, .cqs, .trans, .insts, .draw, .hearth, .quench, .counters, .mem, .poison, .free, .out] (State.endSet a1 a2 a3 a4) a1 := by
  unfold State.endSet
  extract_lets +onlyGivenNames x5
  clear_value x5
  split
  · exact Same.refl _ _
  · extract_lets +onlyGivenNames x9
    have h9 : Same [.routing, .tiles, .sched, .ports, .wqs, .cqs, .trans, .insts, .draw, .hearth, .quench, .counters, .mem, .poison, .free, .out] x9 a1 := by
      unfold x9
      exact Same.step (State.setRecord_same ..) rfl (Same.refl _ _)
    clear_value x9
    exact Same.step (State.takeSet_same ..) rfl (Same.step (State.dropJobs_same ..) rfl (Same.step (State.modChan_same ..) rfl (by assumption)))

theorem State.stopChan_same (a1 : State) (a2 : Nat) :
    Same [.routing, .tiles, .sched, .ports, .wqs, .cqs, .trans, .insts, .draw, .vises, .hearth, .quench, .counters, .mem, .poison, .free, .out] (State.stopChan a1 a2) a1 := by
  unfold State.stopChan
  extract_lets +onlyGivenNames x3
  clear_value x3
  extract_lets +onlyGivenNames x4
  have h4 : Same [.routing, .tiles, .sched, .ports, .wqs, .cqs, .trans, .insts, .draw, .vises,   .hearth, .quench, .counters, .mem, .poison, .free, .out] x4 a1 := by
    unfold x4
    exact Same.step (State.modChan_same ..) rfl (Same.refl _ _)
  clear_value x4
  extract_lets +onlyGivenNames x6
  have h6 : Same [.routing, .tiles, .sched, .ports, .wqs, .cqs, .trans, .insts, .draw, .vises,   .hearth, .quench, .counters, .mem, .poison, .free, .out] x6 a1 := by
    unfold x6
    exact Same.step (State.endSet_same ..) rfl (by assumption)
  clear_value x6
  extract_lets +onlyGivenNames x8
  have h8 : Same [.routing, .tiles, .sched, .ports, .wqs, .cqs, .trans, .insts, .draw, .vises,   .hearth, .quench, .counters, .mem, .poison, .free, .out] x8 a1 := by
    unfold x8
    split
    · exact Same.step (State.setRecord_same ..) rfl (by assumption)
    · assumption
  clear_value x8
  exact Same.step (State.breakIdentity_same ..) rfl (by assumption)

theorem execDrawStop_same (a1 : Call) (a2 : Nat) (a3 : State) :
    SameNext [.routing, .tiles, .sched, .ports, .wqs, .cqs, .trans, .insts, .draw, .vises, .hearth, .quench, .counters, .mem, .poison, .free, .out] (execDrawStop a1 a2 a3) a3 := by
  unfold execDrawStop
  refine fleso_same rfl ?_
  intro y4
  intro y5
  extract_lets +onlyGivenNames x6
  clear_value x6
  refine Same.iteFst ?_ ?_
  · dsimp only
    exact Same.refl _ _
  · refine Same.iteFst ?_ ?_
    · dsimp only
      exact Same.refl _ _
    · refine Same.iteFst ?_ ?_
      · dsimp only
        exact Same.refl _ _
      · dsimp only
        exact Same.step (State.stopChan_same ..) rfl (Same.refl _ _)

theorem State.dropChan_same (a1 : State) (a2 : Nat) :
    Same [.ports, .draw, .vises, .hearth, .counters, .out] (State.dropChan a1 a2) a1 := by
  unfold State.dropChan
  exact Same.step (State.breakIdentity_same ..) rfl (Same.step (State.dropJobs_same ..) rfl (Same.step (State.modChan_same ..) rfl (Same.step (State.dropD2h_same ..) rfl (Same.refl _ _))))

theorem State.space1Write_same (a1 : State) (a2 : Chan) (a3 : Nat) (a4 : List Byte) :
    Same [.mem, .outside, .poison] (State.space1Write a1 a2 a3 a4) a1 := by
  unfold State.space1Write
  refine Same.foldl ?_ _ ?_
  · intro y5
    intro y6
    extract_lets +onlyGivenNames x7
    clear_value x7
    extract_lets +onlyGivenNames x8
    clear_value x8
    exact Same.step (State.storeMem_same ..) rfl (Same.refl _ _)
  · exact Same.refl _ _

theorem State.moveWrite_same (a1 : State) (a2 : Chan) (a3 : Bool) (a4 : Word) (a5 : List Byte) :
    Same [.routing, .tiles, .sched, .ports, .trans, .insts, .hearth, .quench, .counters, .mem, .outside, .poison, .free, .out] (State.moveWrite a1 a2 a3 a4 a5) a1 := by
  unfold State.moveWrite
  refine Same.ite ?_ ?_
  · exact Same.refl _ _
  · refine Same.ite ?_ ?_
    · exact Same.step (State.space1Write_same ..) rfl (Same.refl _ _)
    · extract_lets +onlyGivenNames x6
      have h6 : Same [.routing, .tiles, .sched, .ports, .trans, .insts, .hearth, .quench, .counters, .mem, .outside, .poison, .free, .out] x6 a1 := by
        unfold x6
        split
        · exact Same.step (State.logPages_same ..) rfl (Same.refl _ _)
        · exact Same.refl _ _
      clear_value x6
      exact Same.step (State.hostPut_same ..) rfl (by assumption)

theorem execDrawWaitTimeout_same (a1 : Nat) (a2 : Ticks) (a3 : State) :
    SameNext [.routing, .tiles, .sched, .time, .ports, .wqs, .cqs, .trans, .insts, .draw, .vises, .hearth, .quench, .counters, .mem, .poison, .free, .out] (execDrawWaitTimeout a1 a2 a3) a3 := by
  unfold execDrawWaitTimeout
  extract_lets +onlyGivenNames x4
  have h4 : Same [.routing, .tiles, .sched, .time, .ports, .wqs, .cqs, .trans, .insts, .draw,   .vises, .hearth, .quench, .counters, .mem, .poison, .free, .out] x4 a3 := by
    unfold x4
    exact Same.step (State.advance_same ..) rfl (Same.refl _ _)
  clear_value x4
  extract_lets +onlyGivenNames x6
  clear_value x6
  split
  · extract_lets +onlyGivenNames x10
    clear_value x10
    refine SameNext.ite ?_ ?_
    · extract_lets +onlyGivenNames x11
      have h11 : Same [.routing, .tiles, .sched, .time, .ports, .wqs, .cqs, .trans, .insts, .draw,   .vises, .hearth, .quench, .counters, .mem, .poison, .free, .out] x11 a3 := by
        unfold x11
        refine Same.ite ?_ ?_
        · exact Same.step (State.withdraw_same ..) rfl (by assumption)
        · assumption
      clear_value x11
      exact SameNext.next (Same.step (State.endSet_same ..) rfl (by assumption))
    · exact SameNext.next (by assumption)
  · exact SameNext.next (by assumption)

theorem execSignal_same (a1 : Nat) (a2 : State) :
    SameNext [.routing, .tiles, .sched, .ports, .wqs, .cqs, .remote, .trans, .insts, .draw, .vises, .hearth, .quench, .counters, .mem, .poison, .free, .out] (execSignal a1 a2) a2 := by
  unfold execSignal
  extract_lets +onlyGivenNames x3
  clear_value x3
  split
  · refine SameNext.ite ?_ ?_
    · exact SameNext.next (Same.refl _ _)
    · extract_lets +onlyGivenNames x10
      extract_lets +onlyGivenNames x11
      have h11 : Same [.routing, .tiles, .sched, .ports, .wqs, .cqs, .remote, .trans, .insts, .draw,   .vises, .hearth, .quench, .counters, .mem, .poison, .free, .out] x11 a2 := by
        unfold x11
        exact Same.step (State.endSet_same ..) rfl (Same.refl _ _)
      clear_value x11
      split
      · split
        · exact SameNext.next (by assumption)
        · refine SameNext.next ?_
          unfold x10
          exact Same.step (State.modChan_same ..) rfl (Same.step (State.tallyAdd_same ..) rfl (Same.refl _ _))
      · extract_lets +onlyGivenNames x15
        clear_value x15
        refine SameNext.ite ?_ ?_
        · exact SameNext.next (by assumption)
        · refine SameNext.next ?_
          unfold x10
          exact Same.step (State.modChan_same ..) rfl (Same.step (State.signal_same ..) rfl (Same.refl _ _))
      · extract_lets +onlyGivenNames x15
        clear_value x15
        split
        · exact SameNext.next (by assumption)
        · extract_lets +onlyGivenNames x19
          clear_value x19
          refine SameNext.ite ?_ ?_
          · exact SameNext.next (by assumption)
          · refine SameNext.ite ?_ ?_
            · exact SameNext.next (Same.step (State.modChan_same ..) rfl (Same.refl _ _))
            · extract_lets +onlyGivenNames x20
              clear_value x20
              refine SameNext.next ?_
              unfold x10
              exact Same.step (State.modChan_same ..) rfl (Same.step (State.makeRec_same ..) rfl (Same.refl _ _))
      · extract_lets +onlyGivenNames x17
        clear_value x17
        refine SameNext.ite ?_ ?_
        · exact SameNext.next (by assumption)
        · refine SameNext.next ?_
          unfold x10
          exact Same.step (State.modChan_same ..) rfl (Same.step (State.releaseVise_same ..) rfl (Same.refl _ _))
  · exact SameNext.next (Same.refl _ _)

theorem State.readBeat_same (a1 : State) (a2 : Nat) (a3 : DrawJob) :
    Same [.routing, .tiles, .sched, .ports, .trans, .draw, .hearth, .quench, .counters, .free, .out] (State.readBeat a1 a2 a3) a1 := by
  unfold State.readBeat
  extract_lets +onlyGivenNames x4
  clear_value x4
  extract_lets +onlyGivenNames x5
  clear_value x5
  extract_lets +onlyGivenNames x6
  have h6 : Same [.routing, .tiles, .sched, .ports, .trans, .draw, .hearth, .quench, .counters, .free, .out] x6 a1 := by
    unfold x6
    exact Same.step (State.count_same ..) rfl (Same.refl _ _)
  clear_value x6
  extract_lets +onlyGivenNames x8
  have h8 : Same [.routing, .tiles, .sched, .ports, .trans, .draw, .hearth, .quench, .counters, .free, .out] x8 a1 := by
    unfold x8
    refine Same.ite ?_ ?_
    · assumption
    · exact Same.step (State.hostRead_same ..) rfl (by assumption)
  clear_value x8
  extract_lets +onlyGivenNames x10
  clear_value x10
  extract_lets +onlyGivenNames x11
  clear_value x11
  extract_lets +onlyGivenNames x12
  have h12 : Same [.routing, .tiles, .sched, .ports, .trans, .draw, .hearth, .quench, .counters, .free, .out] x12 a1 := by
    unfold x12
    exact Same.setDraw rfl (by assumption)
  clear_value x12
  exact Same.step (State.modChan_same ..) rfl (by assumption)

theorem State.grantBeat_same (a1 : State) (a2 : Bool) (a3 : Nat) (a4 : Nat) :
    Same [.draw] (State.grantBeat a1 a2 a3 a4) a1 := by
  unfold State.grantBeat
  extract_lets +onlyGivenNames x5
  clear_value x5
  extract_lets +onlyGivenNames x6
  clear_value x6
  extract_lets +onlyGivenNames x7
  have h7 : Same [.draw] x7 a1 := by
    unfold x7
    exact Same.setDraw rfl (Same.refl _ _)
  clear_value x7
  split
  · assumption
  · extract_lets +onlyGivenNames x10
    have h10 : Same [.draw] x10 a1 := by
      unfold x10
      exact Same.step (State.modChan_same ..) rfl (by assumption)
    clear_value x10
    exact Same.setDraw rfl (by assumption)

theorem State.stopMove_same (a1 : State) (a2 : Nat) (a3 : DrawJob) (a4 : BitVec 8) (a5 : Word) :
    Same [.routing, .tiles, .sched, .ports, .wqs, .cqs, .trans, .insts, .draw, .hearth, .quench, .counters, .mem, .poison, .free, .out] (State.stopMove a1 a2 a3 a4 a5) a1 := by
  unfold State.stopMove
  exact Same.step (State.endSet_same ..) rfl (Same.step (State.modChan_same ..) rfl (Same.refl _ _))

theorem State.writeBeat_same (a1 : State) (a2 : Nat) (a3 : DrawJob) (a4 : Access) :
    Same [.routing, .tiles, .sched, .ports, .wqs, .cqs, .trans, .insts, .draw, .hearth, .quench, .counters, .mem, .outside, .poison, .free, .out] (State.writeBeat a1 a2 a3 a4) a1 := by
  unfold State.writeBeat
  extract_lets +onlyGivenNames x5
  clear_value x5
  split
  extract_lets +onlyGivenNames x10
  clear_value x10
  extract_lets +onlyGivenNames x11
  clear_value x11
  refine Same.ite ?_ ?_
  · exact Same.step (State.stopMove_same ..) rfl (Same.refl _ _)
  · split
    · exact Same.step (State.stopMove_same ..) rfl (Same.refl _ _)
    · exact Same.step (State.stopMove_same ..) rfl (Same.step (State.raise_same ..) rfl (Same.step (State.noteAccess_same ..) rfl (Same.refl _ _)))
    · extract_lets +onlyGivenNames x12
      have h12 : Same [.routing, .tiles, .sched, .ports, .wqs, .cqs, .trans, .insts, .draw, .hearth, .quench, .counters, .mem, .outside, .poison, .free, .out] x12 a1 := by
        unfold x12
        exact Same.step (State.moveWrite_same ..) rfl (Same.refl _ _)
      clear_value x12
      extract_lets +onlyGivenNames x14
      have h14 : Same [.routing, .tiles, .sched, .ports, .wqs, .cqs, .trans, .insts, .draw, .hearth, .quench, .counters, .mem, .outside, .poison, .free, .out] x14 a1 := by
        unfold x14
        exact Same.step (State.count_same ..) rfl (Same.step (State.count_same ..) rfl (by assumption))
      clear_value x14
      extract_lets +onlyGivenNames x16
      have h16 : Same [.routing, .tiles, .sched, .ports, .wqs, .cqs, .trans, .insts, .draw, .hearth, .quench, .counters, .mem, .outside, .poison, .free, .out] x16 a1 := by
        unfold x16
        exact Same.step (State.modChan_same ..) rfl (by assumption)
      clear_value x16
      split
      · exact Same.step (State.modChan_same ..) rfl (by assumption)
      · extract_lets +onlyGivenNames x21
        clear_value x21
        exact Same.step (State.stopMove_same ..) rfl (by assumption)

theorem execMove_same (a1 : Nat) (a2 : Bool) (a3 : Access) (a4 : State) :
    SameNext [.routing, .tiles, .sched, .ports, .wqs, .cqs, .trans, .insts, .draw, .hearth, .quench, .counters, .mem, .outside, .poison, .free, .out] (execMove a1 a2 a3 a4) a4 := by
  unfold execMove
  extract_lets +onlyGivenNames x5
  clear_value x5
  refine SameNext.ite ?_ ?_
  · exact SameNext.next (Same.refl _ _)
  · refine SameNext.ite ?_ ?_
    · exact SameNext.next (Same.step (State.modChan_same ..) rfl (Same.refl _ _))
    · refine SameNext.ite ?_ ?_
      · exact SameNext.next (Same.step (State.snoopOut_same ..) rfl (Same.refl _ _))
      · refine SameNext.ite ?_ ?_
        · exact SameNext.next (Same.refl _ _)
        · extract_lets +onlyGivenNames x6
          have h6 : Same [.routing, .tiles, .sched, .ports, .wqs, .cqs, .trans, .insts, .draw, .hearth, .quench, .counters, .mem, .outside, .poison, .free, .out] x6 a4 := by
            unfold x6
            exact Same.step (State.grantBeat_same ..) rfl (Same.refl _ _)
          clear_value x6
          split
          · exact SameNext.next (by assumption)
          · exact SameNext.next (Same.ite (Same.step (State.writeBeat_same ..) rfl (by assumption)) (Same.step (State.readBeat_same ..) rfl (by assumption)))

theorem State.failAt_same (a1 : State) (a2 : Nat) (a3 : BitVec 8) :
    Same [.routing, .tiles, .sched, .ports, .wqs, .cqs, .trans, .insts, .draw, .hearth, .quench, .counters, .mem, .poison, .free, .out] (State.failAt a1 a2 a3) a1 := by
  unfold State.failAt
  exact Same.ite (Same.step (State.endSet_same ..) rfl (Same.refl _ _)) (Same.refl _ _)

theorem execLoop_same (a1 : Nat) (a2 : State) :
    SameNext [.routing, .tiles, .sched, .ports, .wqs, .cqs, .trans, .insts, .draw, .hearth, .quench, .counters, .mem, .poison, .free, .out] (execLoop a1 a2) a2 := by
  unfold execLoop
  extract_lets +onlyGivenNames x3
  clear_value x3
  split
  · refine SameNext.ite ?_ ?_
    · exact SameNext.next (Same.refl _ _)
    · extract_lets +onlyGivenNames x10
      clear_value x10
      extract_lets +onlyGivenNames x11
      clear_value x11
      extract_lets +onlyGivenNames x12
      clear_value x12
      refine SameNext.ite ?_ ?_
      · exact SameNext.next (Same.step (State.failAt_same ..) rfl (Same.refl _ _))
      · extract_lets +onlyGivenNames x13
        clear_value x13
        split
        · exact SameNext.next (Same.refl _ _)
        · refine SameNext.ite ?_ ?_
          · exact SameNext.next (Same.step (State.modChan_same ..) rfl (Same.refl _ _))
          · extract_lets +onlyGivenNames x16
            clear_value x16
            extract_lets +onlyGivenNames x17
            clear_value x17
            exact SameNext.next (Same.step (State.modChan_same ..) rfl (Same.refl _ _))
  · exact SameNext.next (Same.refl _ _)

theorem State.drawIn_same (a1 : State) (a2 : Nat) (a3 : Nat) (a4 : Nat) (a5 : ReadResult) :
    Same [.draw] (State.drawIn a1 a2 a3 a4 a5) a1 := by
  unfold State.drawIn
  split
  · exact Same.refl _ _
  · exact Same.step (State.modChan_same ..) rfl (Same.refl _ _)

theorem execDrawChannel_same (a1 : Call) (a2 : Option Nat) (a3 : Option Nat) (a4 : BitVec 2) (a5 : Bool) (a6 : State) :
    SameNext [.routing, .tiles, .sched, .ports, .draw, .hearth, .quench, .counters, .free, .out] (execDrawChannel a1 a2 a3 a4 a5 a6) a6 := by
  unfold execDrawChannel
  refine fleso_same rfl ?_
  intro y7
  intro y8
  refine Same.iteFst ?_ ?_
  · dsimp only
    exact Same.refl _ _
  · refine Same.iteFst ?_ ?_
    · split
      · dsimp only
        exact Same.refl _ _
      · extract_lets +onlyGivenNames x10
        clear_value x10
        refine Same.iteFst ?_ ?_
        · dsimp only
          exact Same.refl _ _
        · refine Same.iteFst ?_ ?_
          · dsimp only
            exact Same.refl _ _
          · refine Same.iteFst ?_ ?_
            · dsimp only
              exact Same.refl _ _
            · dsimp only
              exact Same.step (State.modChan_same ..) rfl (Same.refl _ _)
    · split
      · dsimp only
        exact Same.refl _ _
      · extract_lets +onlyGivenNames x12
        refine Same.iteFst ?_ ?_
        · dsimp only
          exact Same.refl _ _
        · refine Same.iteFst ?_ ?_
          · dsimp only
            exact Same.refl _ _
          · refine Same.iteFst ?_ ?_
            · dsimp only
              exact Same.refl _ _
            · extract_lets +onlyGivenNames x13
              clear_value x13
              split
              · dsimp only
                exact Same.refl _ _
              · refine Same.iteFst ?_ ?_
                · dsimp only
                  exact Same.refl _ _
                · split
                  extract_lets +onlyGivenNames x21
                  clear_value x21
                  dsimp only
                  refine Same.step (State.modChan_same ..) rfl (Same.ofSnd (by assumption) ?_)
                  refine Same.iteSnd ?_ ?_
                  · dsimp only
                    exact Same.refl _ _
                  · split
                    dsimp only
                    exact Same.ofSnd (by assumption) (Same.step (State.drawFree_same ..) rfl (Same.refl _ _))

theorem execViseRelease_same (a1 : Call) (a2 : Nat) (a3 : State) :
    SameNext [.routing, .tiles, .sched, .ports, .draw, .vises, .hearth, .quench, .counters, .out] (execViseRelease a1 a2 a3) a3 := by
  unfold execViseRelease
  refine fleso_same rfl ?_
  intro y4
  intro y5
  extract_lets +onlyGivenNames x6
  clear_value x6
  extract_lets +onlyGivenNames x7
  clear_value x7
  refine Same.iteFst ?_ ?_
  · dsimp only
    exact Same.refl _ _
  · refine Same.iteFst ?_ ?_
    · dsimp only
      exact Same.step (State.releaseVise_same ..) rfl (Same.refl _ _)
    · dsimp only
      exact Same.step (State.notOwner_same ..) rfl (Same.refl _ _)

theorem State.beginLoad_same (a1 : State) (a2 : Nat) (a3 : DrawLoading) :
    Same [.routing, .tiles, .sched, .ports, .wqs, .cqs, .trans, .insts, .draw, .hearth, .quench, .counters, .mem, .poison, .free, .out] (State.beginLoad a1 a2 a3) a1 := by
  unfold State.beginLoad
  extract_lets +onlyGivenNames x4
  clear_value x4
  extract_lets +onlyGivenNames x5
  have h5 : Same [.routing, .tiles, .sched, .ports, .wqs, .cqs, .trans, .insts, .draw, .hearth, .quench, .counters, .mem, .poison, .free, .out] x5 a1 := by
    unfold x5
    split
    · exact Same.step (State.supersede_same ..) rfl (Same.refl _ _)
    · exact Same.refl _ _
  clear_value x5
  extract_lets +onlyGivenNames x7
  have h7 : Same [.routing, .tiles, .sched, .ports, .wqs, .cqs, .trans, .insts, .draw, .hearth, .quench, .counters, .mem, .poison, .free, .out] x7 a1 := by
    unfold x7
    split
    · extract_lets +onlyGivenNames x11
      have h11 : Same [.routing, .tiles, .sched, .ports, .wqs, .cqs, .trans, .insts, .draw, .hearth, .quench, .counters, .mem, .poison, .free, .out] x11 a1 := by
        unfold x11
        exact Same.step (State.dropD2h_same ..) rfl (Same.step (State.supersede_same ..) rfl (by assumption))
      clear_value x11
      split
      · exact Same.step (State.answer_same ..) rfl (by assumption)
      · assumption
    · assumption
  clear_value x7
  extract_lets +onlyGivenNames x9
  have h9 : Same [.routing, .tiles, .sched, .ports, .wqs, .cqs, .trans, .insts, .draw, .hearth, .quench, .counters, .mem, .poison, .free, .out] x9 a1 := by
    unfold x9
    exact Same.step (State.modChan_same ..) rfl (by assumption)
  clear_value x9
  refine Same.ite ?_ ?_
  · assumption
  · exact Same.step (State.hostRead_same ..) rfl (by assumption)

theorem execDrawRun_same (a1 : Nat) (a2 : State) :
    SameNext [.routing, .tiles, .sched, .ports, .wqs, .cqs, .trans, .insts, .draw, .hearth, .quench, .counters, .mem, .poison, .free, .out] (execDrawRun a1 a2) a2 := by
  unfold execDrawRun
  split
  · exact SameNext.next (Same.refl _ _)
  · extract_lets +onlyGivenNames x7
    clear_value x7
    extract_lets +onlyGivenNames x8
    clear_value x8
    extract_lets +onlyGivenNames x9
    clear_value x9
    extract_lets +onlyGivenNames x10
    extract_lets +onlyGivenNames x11
    clear_value x11
    refine SameNext.ite ?_ ?_
    · refine SameNext.next ?_
      unfold x10
      exact Same.step (State.complete_same ..) rfl (Same.step (State.started_same ..) rfl (Same.refl _ _))
    · refine SameNext.ite ?_ ?_
      · refine SameNext.next ?_
        unfold x10
        exact Same.step (State.complete_same ..) rfl (Same.step (State.started_same ..) rfl (Same.refl _ _))
      · refine SameNext.ite ?_ ?_
        · refine SameNext.next ?_
          unfold x10
          exact Same.step (State.complete_same ..) rfl (Same.step (State.started_same ..) rfl (Same.refl _ _))
        · refine SameNext.ite ?_ ?_
          · exact SameNext.next (Same.refl _ _)
          · extract_lets +onlyGivenNames x12
            clear_value x12
            extract_lets +onlyGivenNames x13
            clear_value x13
            exact SameNext.next (Same.step (State.beginLoad_same ..) rfl (Same.step (State.started_same ..) rfl (Same.refl _ _)))

theorem State.loadFailed_same (a1 : State) (a2 : Nat) (a3 : DrawLoading) (a4 : BitVec 8) (a5 : BitVec 8) (a6 : List Byte) :
    Same [.routing, .tiles, .sched, .ports, .wqs, .cqs, .trans, .insts, .draw, .hearth, .quench, .counters, .mem, .poison, .free, .out] (State.loadFailed a1 a2 a3 a4 a5 a6) a1 := by
  unfold State.loadFailed
  extract_lets +onlyGivenNames x7
  clear_value x7
  extract_lets +onlyGivenNames x8
  have h8 : Same [.routing, .tiles, .sched, .ports, .wqs, .cqs, .trans, .insts, .draw, .hearth,   .quench, .counters, .mem, .poison, .free, .out] x8 a1 := by
    unfold x8
    exact Same.step (State.modChan_same ..) rfl (Same.refl _ _)
  clear_value x8
  extract_lets +onlyGivenNames x10
  clear_value x10
  extract_lets +onlyGivenNames x11
  have h11 : Same [.routing, .tiles, .sched, .ports, .wqs, .cqs, .trans, .insts, .draw, .hearth,   .quench, .counters, .mem, .poison, .free, .out] x11 a1 := by
    unfold x11
    exact Same.setDraw rfl (by assumption)
  clear_value x11
  split
  · exact Same.step (State.serve_same ..) rfl (Same.step (State.answer_same ..) rfl (by assumption))
  · exact Same.step (State.setRecord_same ..) rfl (by assumption)

theorem execEndProg_same (a1 : Nat) (a2 : State) :
    SameNext [.routing, .tiles, .sched, .ports, .wqs, .cqs, .trans, .insts, .draw, .hearth, .quench, .counters, .mem, .poison, .free, .out] (execEndProg a1 a2) a2 := by
  unfold execEndProg
  extract_lets +onlyGivenNames x3
  clear_value x3
  split
  · exact SameNext.ite (SameNext.next (Same.step (State.endSet_same ..) rfl (Same.refl _ _))) (SameNext.next (Same.refl _ _))
  · exact SameNext.next (Same.refl _ _)

theorem execViseClaim_same (a1 : Call) (a2 : Nat) (a3 : State) :
    SameNext [.routing, .tiles, .sched, .ports, .vises, .hearth, .quench, .counters, .out] (execViseClaim a1 a2 a3) a3 := by
  unfold execViseClaim
  refine fleso_same rfl ?_
  intro y4
  intro y5
  extract_lets +onlyGivenNames x6
  clear_value x6
  refine Same.iteFst ?_ ?_
  · dsimp only
    exact Same.refl _ _
  · refine Same.iteFst ?_ ?_
    · dsimp only
      exact Same.step (State.notOwner_same ..) rfl (Same.refl _ _)
    · extract_lets +onlyGivenNames x7
      have h7 : Same [.routing, .tiles, .sched, .ports, .vises, .hearth, .quench, .counters, .out] x7 y5 := by
        unfold x7
        exact Same.step (State.claim_same ..) rfl (Same.refl _ _)
      clear_value x7
      dsimp only
      assumption

theorem execWait_same (a1 : Nat) (a2 : State) :
    SameNext [.routing, .tiles, .sched, .ports, .wqs, .cqs, .trans, .insts, .draw, .vises, .hearth, .quench, .counters, .mem, .poison, .free, .out] (execWait a1 a2) a2 := by
  unfold execWait
  extract_lets +onlyGivenNames x3
  clear_value x3
  split
  · refine SameNext.ite ?_ ?_
    · exact SameNext.next (Same.refl _ _)
    · extract_lets +onlyGivenNames x10
      extract_lets +onlyGivenNames x11
      split
      · split
        · exact SameNext.next (Same.step (State.failAt_same ..) rfl (Same.refl _ _))
        · refine SameNext.ite ?_ ?_
          · refine SameNext.next ?_
            unfold x11
            exact Same.step (State.modChan_same ..) rfl (Same.refl _ _)
          · refine SameNext.next ?_
            unfold x10
            exact Same.step (State.modChan_same ..) rfl (Same.refl _ _)
      · refine SameNext.ite ?_ ?_
        · refine SameNext.next ?_
          unfold x11
          exact Same.step (State.modChan_same ..) rfl (Same.refl _ _)
        · refine SameNext.next ?_
          unfold x10
          exact Same.step (State.modChan_same ..) rfl (Same.refl _ _)
      · extract_lets +onlyGivenNames x15
        clear_value x15
        extract_lets +onlyGivenNames x16
        clear_value x16
        refine SameNext.ite ?_ ?_
        · exact SameNext.next (Same.ite (Same.step (State.endSet_same ..) rfl (Same.step (State.notOwner_same ..) rfl (Same.refl _ _))) (Same.refl _ _))
        · extract_lets +onlyGivenNames x17
          have h17 : Same [.routing, .tiles, .sched, .ports, .wqs, .cqs, .trans, .insts, .draw, .vises, .hearth, .quench, .counters, .mem, .poison, .free, .out] x17 a2 := by
            unfold x17
            exact Same.step (State.claim_same ..) rfl (Same.refl _ _)
          clear_value x17
          refine SameNext.ite ?_ ?_
          · exact SameNext.next (Same.step (State.modChan_same ..) rfl (by assumption))
          · refine SameNext.next ?_
            unfold x10
            exact Same.step (State.modChan_same ..) rfl (by assumption)
  · exact SameNext.next (Same.refl _ _)

theorem State.drawLost_same (a1 : State) (a2 : Nat) :
    Same [.draw] (State.drawLost a1 a2) a1 := by
  unfold State.drawLost
  exact Same.setDraw rfl (Same.refl _ _)

theorem execDrawWaitInstant_same (a1 : Nat) (a2 : Ticks) (a3 : State) :
    SameNext [.time, .draw] (execDrawWaitInstant a1 a2 a3) a3 := by
  unfold execDrawWaitInstant
  extract_lets +onlyGivenNames x4
  have h4 : Same [.time, .draw] x4 a3 := by
    unfold x4
    exact Same.step (State.advance_same ..) rfl (Same.refl _ _)
  clear_value x4
  extract_lets +onlyGivenNames x6
  clear_value x6
  split
  · exact SameNext.ite (SameNext.next (Same.step (State.modChan_same ..) rfl (by assumption))) (SameNext.next (by assumption))
  · exact SameNext.next (by assumption)

theorem execDrawLoad_same (a1 : Call) (a2 : DrawLoadArgs) (a3 : Option Nat) (a4 : Word) (a5 : State) :
    SameNext [.routing, .tiles, .sched, .ports, .wqs, .cqs, .trans, .insts, .draw, .hearth, .quench, .counters, .mem, .poison, .free, .out] (execDrawLoad a1 a2 a3 a4 a5) a5 := by
  unfold execDrawLoad
  refine fleso_same rfl ?_
  intro y6
  intro y7
  extract_lets +onlyGivenNames x8
  clear_value x8
  refine Same.iteFst ?_ ?_
  · dsimp only
    exact Same.refl _ _
  · refine Same.iteFst ?_ ?_
    · dsimp only
      exact Same.refl _ _
    · refine Same.iteFst ?_ ?_
      · dsimp only
        exact Same.refl _ _
      · refine Same.iteFst ?_ ?_
        · dsimp only
          exact Same.refl _ _
        · extract_lets +onlyGivenNames x9
          clear_value x9
          refine Same.iteFst ?_ ?_
          · dsimp only
            exact Same.refl _ _
          · refine Same.iteFst ?_ ?_
            · dsimp only
              exact Same.refl _ _
            · refine Same.iteFst ?_ ?_
              · dsimp only
                exact Same.refl _ _
              · extract_lets +onlyGivenNames x10
                clear_value x10
                extract_lets +onlyGivenNames x11
                clear_value x11
                dsimp only
                exact Same.step (State.beginLoad_same ..) rfl (Same.refl _ _)

theorem execDrawSetCommit_same (a1 : Nat) (a2 : ReadResult) (a3 : State) :
    SameNext [.routing, .tiles, .sched, .ports, .wqs, .cqs, .trans, .insts, .draw, .hearth, .quench, .counters, .mem, .poison, .free, .out] (execDrawSetCommit a1 a2 a3) a3 := by
  unfold execDrawSetCommit
  extract_lets +onlyGivenNames x4
  clear_value x4
  split
  · exact SameNext.next (Same.refl _ _)
  · extract_lets +onlyGivenNames x8
    have h8 : Same [.routing, .tiles, .sched, .ports, .wqs, .cqs, .trans, .insts, .draw, .hearth, .quench, .counters, .mem, .poison, .free, .out] x8 a3 := by
      unfold x8
      exact Same.step (State.noteRead_same ..) rfl (Same.step (State.dropD2h_same ..) rfl (Same.refl _ _))
    clear_value x8
    extract_lets +onlyGivenNames x10
    clear_value x10
    extract_lets +onlyGivenNames x11
    clear_value x11
    split
    · exact SameNext.next (Same.step (State.loadFailed_same ..) rfl (by assumption))
    · exact SameNext.next (Same.step (State.loadFailed_same ..) rfl (by assumption))
    · exact SameNext.next (Same.step (State.loadFailed_same ..) rfl (by assumption))
    · extract_lets +onlyGivenNames x14
      clear_value x14
      refine SameNext.ite ?_ ?_
      · exact SameNext.next (Same.step (State.loadFailed_same ..) rfl (by assumption))
      · refine SameNext.ite ?_ ?_
        · exact SameNext.next (Same.step (State.loadFailed_same ..) rfl (by assumption))
        · extract_lets +onlyGivenNames x15
          clear_value x15
          extract_lets +onlyGivenNames x16
          clear_value x16
          extract_lets +onlyGivenNames x17
          clear_value x17
          extract_lets +onlyGivenNames x18
          have h18 : Same [.routing, .tiles, .sched, .ports, .wqs, .cqs, .trans, .insts, .draw, .hearth, .quench, .counters, .mem, .poison, .free, .out] x18 a3 := by
            unfold x18
            exact Same.step (State.takeSet_same ..) rfl (Same.step (State.modChan_same ..) rfl (by assumption))
          clear_value x18
          split
          · exact SameNext.next (Same.step (State.serve_same ..) rfl (Same.step (State.answer_same ..) rfl (by assumption)))
          · exact SameNext.next (by assumption)

end Sys2Proof.Machine
end

