-- ==== Sys2Proof/Laws/FrameRemote.lean ====
section
/-! SUPPORT. Frames of the operations and commands of Sys2Proof/Machine/Remote.lean: each changes no part of the module but those it
names, and keeps module memory canonical. -/

namespace Sys2Proof.Machine

open Sys2Proof

theorem State.nextE2e_same (a1 : State) (a2 : StreamKey) (a3 : Nat) :
    Same [.remote] (State.nextE2e a1 a2 a3).2 a1 := by
  unfold State.nextE2e
  split
  · dsimp only
    exact Same.setRemote rfl (Same.refl _ _)
  · dsimp only
    exact Same.setRemote rfl (Same.refl _ _)

theorem State.writePieces_same (a1 : State) (a2 : Nat) (a3 : Nat) (a4 : Option Nat) (a5 : Endpoint) (a6 : BitVec 32) (a7 : Bool) (a8 : List (Word × Nat)) (a9 : List Byte) :
    Same [.routing, .tiles, .sched, .ports, .trans, .insts, .hearth, .quench, .counters, .free, .out] (State.writePieces a1 a2 a3 a4 a5 a6 a7 a8 a9) a1 := by
  induction a8 generalizing a1 a9 with
  | nil => exact Same.refl _ _
  | cons x l ih =>
    unfold State.writePieces
    extract_lets +onlyGivenNames x12
    have h12 : Same [.routing, .tiles, .sched, .ports, .trans, .insts, .hearth, .quench, .counters, .free, .out] x12 a1 := by
      unfold x12
      split
      · exact Same.step (State.logPages_same ..) rfl (Same.refl _ _)
      · exact Same.refl _ _
    clear_value x12
    exact Same.step (ih ..) rfl (Same.step (State.hostPut_same ..) rfl (by assumption))

theorem State.retryLocal_same (a1 : State) :
    Same [.routing, .tiles, .sched, .quench, .counters] (State.retryLocal a1) a1 := by
  unfold State.retryLocal
  extract_lets +onlyGivenNames x2
  clear_value x2
  refine Same.ite ?_ ?_
  · exact Same.refl _ _
  · split
    exact Same.setRouting rfl (Same.ofFst (by assumption) (Same.step (State.retryList_same ..) rfl (Same.setRouting rfl (Same.refl _ _))))

theorem State.unfill_same (a1 : State) :
    Same [.routing, .tiles, .sched, .quench, .counters] (State.unfill a1) a1 := by
  unfold State.unfill
  exact Same.step (State.retryLocal_same ..) rfl (Same.setRouting rfl (Same.refl _ _))

theorem State.addLocal_same (a1 : State) (a2 : Option Nat) (a3 : Line) (a4 : Nat) :
    Same [.routing, .tiles, .sched, .ports, .wqs, .cqs, .remote, .trans, .insts, .draw, .hearth, .quench, .counters, .free, .out] (State.addLocal a1 a2 a3 a4) a1 := by
  unfold State.addLocal
  split
  · split
    · exact Same.step (State.tallyAdd_same ..) rfl (Same.refl _ _)
    · exact Same.refl _ _
  · exact Same.refl _ _

theorem State.refuse_same (a1 : State) (a2 : Nat) (a3 : Wq) (a4 : Fetched) (a5 : BitVec 8) (a6 : Bool) :
    Same [.routing, .tiles, .sched, .ports, .wqs, .cqs, .remote, .trans, .insts, .draw, .hearth, .quench, .counters, .mem, .poison, .free, .out] (State.refuse a1 a2 a3 a4 a5 a6) a1 := by
  unfold State.refuse
  exact Same.step (State.complete_same ..) rfl (Same.ite (Same.step (State.addLocal_same ..) rfl (Same.refl _ _)) (Same.refl _ _))

theorem State.setTomb_same (a1 : State) (a2 : Tomb) :
    Same [.remote] (State.setTomb a1 a2) a1 := by
  unfold State.setTomb
  exact Same.setRemote rfl (Same.refl _ _)

theorem State.readLocal_same (a1 : State) (a2 : SrcOp) (a3 : D2hTag) (a4 : Nat) (a5 : Nat) :
    Same [.routing, .tiles, .sched, .ports, .trans, .hearth, .quench, .counters, .free, .out] (State.readLocal a1 a2 a3 a4 a5) a1 := by
  unfold State.readLocal
  split
  extract_lets +onlyGivenNames x10
  clear_value x10
  refine Same.step (State.addD2h_same ..) rfl ?_
  refine Same.foldl ?_ _ ?_
  · intro y11
    intro y12
    exact Same.step (State.touch_same ..) rfl (Same.refl _ _)
  · exact Same.refl _ _

theorem State.sendGetResp_same (a1 : State) (a2 : Packet) (a3 : Nat) (a4 : List Byte) (a5 : Bool) (a6 : Bool) :
    Same [.routing, .tiles, .sched, .remote, .quench, .counters] (State.sendGetResp a1 a2 a3 a4 a5 a6) a1 := by
  unfold State.sendGetResp
  split
  exact Same.step (State.inject_same ..) rfl (Same.ofSnd (by assumption) (Same.step (State.nextE2e_same ..) rfl (Same.refl _ _)))

theorem State.readForGet_same (a1 : State) (a2 : Packet) (a3 : Nat) (a4 : Bool) :
    Same [.routing, .tiles, .sched, .ports, .remote, .trans, .hearth, .quench, .counters, .free, .out] (State.readForGet a1 a2 a3 a4) a1 := by
  unfold State.readForGet
  extract_lets +onlyGivenNames x5
  clear_value x5
  extract_lets +onlyGivenNames x6
  clear_value x6
  refine Same.ite ?_ ?_
  · split
    · exact Same.step (State.readLocal_same ..) rfl (Same.refl _ _)
    · exact Same.refl _ _
  · extract_lets +onlyGivenNames x7
    clear_value x7
    extract_lets +onlyGivenNames x8
    clear_value x8
    extract_lets +onlyGivenNames x9
    clear_value x9
    refine Same.ite ?_ ?_
    · extract_lets +onlyGivenNames x10
      clear_value x10
      exact Same.step (State.sendGetResp_same ..) rfl (Same.refl _ _)
    · exact Same.step (State.hostRead_same ..) rfl (Same.refl _ _)

theorem State.rereadLocal_same (a1 : State) (a2 : Packet) (a3 : List Nat) :
    Same [.routing, .tiles, .sched, .ports, .remote, .trans, .hearth, .quench, .counters, .free, .out] (State.rereadLocal a1 a2 a3).1 a1 := by
  unfold State.rereadLocal
  refine Same.foldlFst ?_ _ ?_
  · rintro ⟨y4, z4⟩
    intro y6
    dsimp only
    refine Same.iteFst ?_ ?_
    · dsimp only
      exact Same.step (State.readForGet_same ..) rfl (Same.refl _ _)
    · dsimp only
      exact Same.step (State.snoopOut_same ..) rfl (Same.refl _ _)
  · dsimp only
    exact Same.refl _ _

theorem State.setOpen_same (a1 : State) (a2 : OpenOp) :
    Same [.remote] (State.setOpen a1 a2) a1 := by
  unfold State.setOpen
  extract_lets +onlyGivenNames x3
  clear_value x3
  extract_lets +onlyGivenNames x4
  clear_value x4
  extract_lets +onlyGivenNames x5
  clear_value x5
  exact Same.setRemote rfl (Same.refl _ _)

theorem State.countDup_same (a1 : State) (a2 : Packet) :
    Same [.remote, .counters] (State.countDup a1 a2) a1 := by
  unfold State.countDup
  extract_lets +onlyGivenNames x3
  have h3 : Same [.remote, .counters] x3 a1 := by
    unfold x3
    exact Same.step (State.count_same ..) rfl (Same.refl _ _)
  clear_value x3
  exact Same.setRemote rfl (by assumption)

theorem State.sendResponse_same (a1 : State) (a2 : Endpoint) (a3 : Endpoint) (a4 : BitVec 2) (a5 : BitVec 32) (a6 : Word) (a7 : Bool) :
    Same [.routing, .tiles, .sched, .remote, .quench, .counters] (State.sendResponse a1 a2 a3 a4 a5 a6 a7) a1 := by
  unfold State.sendResponse
  split
  exact Same.step (State.inject_same ..) rfl (Same.ofSnd (by assumption) (Same.step (State.nextE2e_same ..) rfl (Same.refl _ _)))

theorem State.dropOpen_same (a1 : State) (a2 : Endpoint) (a3 : BitVec 32) :
    Same [.remote] (State.dropOpen a1 a2 a3) a1 := by
  unfold State.dropOpen
  exact Same.setRemote rfl (Same.refl _ _)

theorem State.addTomb_same (a1 : State) (a2 : Tomb) :
    Same [.remote, .quench, .counters] (State.addTomb a1 a2) a1 := by
  unfold State.addTomb
  extract_lets +onlyGivenNames x3
  clear_value x3
  extract_lets +onlyGivenNames x4
  have h4 : Same [.remote, .quench, .counters] x4 a1 := by
    unfold x4
    exact Same.step (State.count_same ..) rfl (Same.step (State.dropOpen_same ..) rfl (Same.refl _ _))
  clear_value x4
  exact Same.ite (Same.setRemote rfl (by assumption)) (Same.step (State.raiseAt_same ..) rfl (Same.setRemote rfl (by assumption)))

theorem State.setSrc_same (a1 : State) (a2 : SrcOp) :
    Same [.remote] (State.setSrc a1 a2) a1 := by
  unfold State.setSrc
  exact Same.setRemote rfl (Same.refl _ _)

theorem State.sendPacket_same (a1 : State) (a2 : SrcOp) (a3 : Nat) (a4 : Bool) :
    Same [.routing, .tiles, .sched, .ports, .remote, .trans, .hearth, .quench, .counters, .free, .out] (State.sendPacket a1 a2 a3 a4) a1 := by
  unfold State.sendPacket
  split
  · exact Same.step (State.readLocal_same ..) rfl (Same.refl _ _)
  · exact Same.step (State.inject_same ..) rfl (Same.refl _ _)

theorem State.launch_same (a1 : State) (a2 : SrcOp) :
    Same [.routing, .tiles, .sched, .ports, .remote, .trans, .hearth, .quench, .counters, .free, .out] (State.launch a1 a2) a1 := by
  unfold State.launch
  exact Same.step (State.sendPacket_same ..) rfl (Same.step (State.setSrc_same ..) rfl (Same.refl _ _))

theorem State.nextTag_same (a1 : State) (a2 : Nat) :
    Same [.remote] (State.nextTag a1 a2).2 a1 := by
  unfold State.nextTag
  extract_lets +onlyGivenNames x3
  clear_value x3
  dsimp only
  exact Same.setRemote rfl (Same.refl _ _)

theorem State.readTable_same (a1 : State) (a2 : SrcOp) (a3 : Word) (a4 : Nat) :
    Same [.routing, .tiles, .sched, .ports, .remote, .trans, .hearth, .quench, .counters, .free, .out] (State.readTable a1 a2 a3 a4) a1 := by
  unfold State.readTable
  extract_lets +onlyGivenNames x5
  clear_value x5
  split
  exact Same.step (State.hostRead_same ..) rfl (Same.step (State.setSrc_same ..) rfl (Same.refl _ _))

theorem State.releaseSends_same (a1 : State) (a2 : StreamKey) :
    Same [.routing, .tiles, .sched, .ports, .remote, .trans, .hearth, .quench, .counters, .free, .out] (State.releaseSends a1 a2) a1 := by
  unfold State.releaseSends
  extract_lets +onlyGivenNames x3
  clear_value x3
  split
  · exact Same.refl _ _
  · exact Same.ite (Same.step (State.launch_same ..) rfl (Same.refl _ _)) (Same.refl _ _)

theorem State.dropSrc_same (a1 : State) (a2 : SrcOp) :
    Same [.remote] (State.dropSrc a1 a2) a1 := by
  unfold State.dropSrc
  exact Same.setRemote rfl (Same.refl _ _)

theorem State.finishSrc_same (a1 : State) (a2 : SrcOp) (a3 : BitVec 8) (a4 : Nat) (a5 : BitVec 256) :
    Same [.routing, .tiles, .sched, .ports, .wqs, .cqs, .remote, .trans, .insts, .draw, .hearth, .quench, .counters, .mem, .poison, .free, .out] (State.finishSrc a1 a2 a3 a4 a5) a1 := by
  unfold State.finishSrc
  refine Same.ite ?_ ?_
  · exact Same.step (State.countStale_same ..) rfl (Same.refl _ _)
  · extract_lets +onlyGivenNames x6
    clear_value x6
    extract_lets +onlyGivenNames x7
    have h7 : Same [.routing, .tiles, .sched, .ports, .wqs, .cqs, .remote, .trans, .insts, .draw, .hearth, .quench, .counters, .mem, .poison, .free, .out] x7 a1 := by
      unfold x7
      exact Same.step (State.addLocal_same ..) rfl (Same.step (State.dropSrc_same ..) rfl (Same.refl _ _))
    clear_value x7
    extract_lets +onlyGivenNames x9
    have h9 : Same [.routing, .tiles, .sched, .ports, .wqs, .cqs, .remote, .trans, .insts, .draw, .hearth, .quench, .counters, .mem, .poison, .free, .out] x9 a1 := by
      unfold x9
      exact Same.step (State.complete_same ..) rfl (by assumption)
    clear_value x9
    refine Same.ite ?_ ?_
    · exact Same.step (State.releaseSends_same ..) rfl (by assumption)
    · assumption

theorem State.chainRead_same (a1 : State) (a2 : SrcOp) (a3 : List Byte) :
    Same [.routing, .tiles, .sched, .ports, .wqs, .cqs, .remote, .trans, .insts, .draw, .hearth, .quench, .counters, .mem, .poison, .free, .out] (State.chainRead a1 a2 a3) a1 := by
  unfold State.chainRead
  split
  · exact Same.step (State.finishSrc_same ..) rfl (Same.refl _ _)
  · exact Same.step (State.readTable_same ..) rfl (Same.refl _ _)
  · refine Same.ite ?_ ?_
    · exact Same.step (State.finishSrc_same ..) rfl (Same.refl _ _)
    · extract_lets +onlyGivenNames x7
      clear_value x7
      refine Same.ite ?_ ?_
      · exact Same.step (State.releaseSends_same ..) rfl (Same.step (State.setSrc_same ..) rfl (Same.refl _ _))
      · exact Same.step (State.launch_same ..) rfl (Same.step (State.setSrc_same ..) rfl (Same.refl _ _))

theorem State.mcastNotice_same (a1 : State) (a2 : Packet) :
    Same [.quench, .counters] (State.mcastNotice a1 a2) a1 := by
  unfold State.mcastNotice
  exact Same.step (State.raise_same ..) rfl (Same.refl _ _)

theorem State.refuseOp_same (a1 : State) (a2 : Packet) (a3 : BitVec 8) :
    Same [.routing, .tiles, .sched, .remote, .quench, .counters] (State.refuseOp a1 a2 a3) a1 := by
  unfold State.refuseOp
  extract_lets +onlyGivenNames x4
  clear_value x4
  extract_lets +onlyGivenNames x5
  have h5 : Same [.routing, .tiles, .sched, .remote, .quench, .counters] x5 a1 := by
    unfold x5
    exact Same.step (State.addTomb_same ..) rfl (Same.refl _ _)
  clear_value x5
  exact Same.ite (Same.step (State.mcastNotice_same ..) rfl (by assumption)) (Same.step (State.sendResponse_same ..) rfl (by assumption))

theorem State.sendAtomicResp_same (a1 : State) (a2 : Endpoint) (a3 : Endpoint) (a4 : BitVec 2) (a5 : BitVec 32) (a6 : BitVec 128) (a7 : Bool) (a8 : Bool) :
    Same [.routing, .tiles, .sched, .remote, .quench, .counters] (State.sendAtomicResp a1 a2 a3 a4 a5 a6 a7 a8) a1 := by
  unfold State.sendAtomicResp
  split
  exact Same.step (State.inject_same ..) rfl (Same.ofSnd (by assumption) (Same.step (State.nextE2e_same ..) rfl (Same.refl _ _)))

theorem State.sendStored_same (a1 : State) (a2 : Tomb) :
    Same [.routing, .tiles, .sched, .ports, .remote, .trans, .hearth, .quench, .counters, .free, .out] (State.sendStored a1 a2) a1 := by
  unfold State.sendStored
  refine Same.ite ?_ ?_
  · exact Same.refl _ _
  · split
    · exact Same.step (State.sendAtomicResp_same ..) rfl (Same.refl _ _)
    · refine Same.ite ?_ ?_
      · refine Same.ite ?_ ?_
        · split
          exact Same.step (State.setTomb_same ..) rfl (Same.ofFst (by assumption) (Same.step (State.rereadLocal_same ..) rfl (Same.refl _ _)))
        · exact Same.step (State.readForGet_same ..) rfl (Same.step (State.setTomb_same ..) rfl (Same.refl _ _))
      · exact Same.step (State.sendResponse_same ..) rfl (Same.refl _ _)
    · exact Same.step (State.sendResponse_same ..) rfl (Same.refl _ _)

theorem State.takeEject_same (a1 : State) (a2 : Nat) :
    Same [.routing, .tiles, .sched, .quench, .counters] (State.takeEject a1 a2) a1 := by
  unfold State.takeEject
  split
  · exact Same.refl _ _
  · extract_lets +onlyGivenNames x7
    extract_lets +onlyGivenNames x8
    have h8 : Same [.routing, .tiles, .sched, .quench, .counters] x8 a1 := by
      unfold x8
      exact Same.setSched rfl id (Same.refl _ _)
    clear_value x8
    exact Same.step (State.retryLocal_same ..) rfl (Same.step (State.noteQueue_same ..) rfl (by assumption))

theorem State.srcOf_same (a1 : State) (a2 : Wq) :
    Same [.free] (State.srcOf a1 a2).2.2 a1 := by
  unfold State.srcOf
  split
  · dsimp only
    exact Same.refl _ _
  · split
    dsimp only
    exact Same.ofSnd (by assumption) (Same.step (State.drawFree_same ..) rfl (Same.refl _ _))

theorem State.beginOp_same (a1 : State) (a2 : Nat) (a3 : Wq) (a4 : Fetched) (a5 : Nat) (a6 : Endpoint) (a7 : SrcOp) :
    Same [.routing, .tiles, .sched, .ports, .remote, .trans, .hearth, .quench, .counters, .free, .out] (State.beginOp a1 a2 a3 a4 a5 a6 a7) a1 := by
  unfold State.beginOp
  extract_lets +onlyGivenNames x8
  clear_value x8
  split
  split
  extract_lets +onlyGivenNames x17
  clear_value x17
  extract_lets +onlyGivenNames x18
  clear_value x18
  extract_lets +onlyGivenNames x19
  have h19 : Same [.routing, .tiles, .sched, .ports, .remote, .trans, .hearth, .quench, .counters, .free, .out] x19 a1 := by
    unfold x19
    exact Same.setRemote rfl (Same.ofSnd (by assumption) (Same.step (State.nextE2e_same ..) rfl (Same.ofSnd (by assumption) (Same.step (State.nextTag_same ..) rfl (Same.refl _ _)))))
  clear_value x19
  refine Same.ite ?_ ?_
  · exact Same.step (State.readTable_same ..) rfl (by assumption)
  · refine Same.ite ?_ ?_
    · assumption
    · exact Same.step (State.launch_same ..) rfl (by assumption)

theorem State.ownedWrite_same (a1 : State) (a2 : Nat) (a3 : Nat) (a4 : Word) (a5 : Nat) (a6 : BitVec 128) (a7 : Bool) :
    Same [.counters, .out] (State.ownedWrite a1 a2 a3 a4 a5 a6 a7) a1 := by
  unfold State.ownedWrite
  exact Same.ite (Same.refl _ _) (Same.step (State.emit_same ..) rfl (Same.step (State.emit_same ..) rfl (Same.refl _ _)))

theorem State.sealFails_same (a1 : State) (a2 : Packet) (a3 : Counts) :
    Same [.routing, .tiles, .sched, .remote, .quench, .counters] (State.sealFails a1 a2 a3).1 a1 := by
  unfold State.sealFails
  extract_lets +onlyGivenNames x4
  clear_value x4
  extract_lets +onlyGivenNames x5
  have h5 : Same [.routing, .tiles, .sched, .remote, .quench, .counters] x5 a1 := by
    unfold x5
    exact Same.step (State.raise_same ..) rfl (Same.refl _ _)
  clear_value x5
  refine Same.iteFst ?_ ?_
  · dsimp only
    assumption
  · extract_lets +onlyGivenNames x7
    have h7 : Same [.routing, .tiles, .sched, .remote, .quench, .counters] x7 a1 := by
      unfold x7
      exact Same.ite (Same.step (State.sendFault_same ..) rfl (by assumption)) (Same.step (State.sendResponse_same ..) rfl (by assumption))
    clear_value x7
    dsimp only
    assumption

theorem State.acceptAtomic_same (a1 : State) (a2 : Packet) (a3 : BitVec 128) (a4 : Bool) (a5 : Access) :
    Same [.routing, .tiles, .sched, .ports, .wqs, .cqs, .remote, .trans, .insts, .draw, .hearth, .quench, .counters, .mem, .outside, .poison, .free, .out] (State.acceptAtomic a1 a2 a3 a4 a5) a1 := by
  unfold State.acceptAtomic
  extract_lets +onlyGivenNames x6
  clear_value x6
  extract_lets +onlyGivenNames x7
  clear_value x7
  extract_lets +onlyGivenNames x8
  clear_value x8
  extract_lets +onlyGivenNames x9
  clear_value x9
  split
  · extract_lets +onlyGivenNames x13
    have h13 : Same [.routing, .tiles, .sched, .ports, .wqs, .cqs, .remote, .trans, .insts, .draw, .hearth, .quench, .counters, .mem, .outside, .poison, .free, .out] x13 a1 := by
      unfold x13
      exact Same.step (State.countDup_same ..) rfl (Same.refl _ _)
    clear_value x13
    refine Same.ite ?_ ?_
    · exact Same.step (State.sendStored_same ..) rfl (by assumption)
    · assumption
  · split
    · exact Same.step (State.refuseOp_same ..) rfl (Same.refl _ _)
    · extract_lets +onlyGivenNames x14
      clear_value x14
      extract_lets +onlyGivenNames x15
      clear_value x15
      extract_lets +onlyGivenNames x16
      clear_value x16
      extract_lets +onlyGivenNames x17
      clear_value x17
      extract_lets +onlyGivenNames x18
      clear_value x18
      extract_lets +onlyGivenNames x19
      clear_value x19
      extract_lets +onlyGivenNames x20
      clear_value x20
      refine Same.ite ?_ ?_
      · exact Same.step (State.countDup_same ..) rfl (Same.refl _ _)
      · refine Same.ite ?_ ?_
        · split
          · exact Same.step (State.refuseOp_same ..) rfl (Same.ofFst3 (by assumption) (Same.step (State.sealFails_same ..) rfl (Same.refl _ _)))
          · exact Same.step (State.setOpen_same ..) rfl (Same.ofFst3 (by assumption) (Same.step (State.sealFails_same ..) rfl (Same.refl _ _)))
        · extract_lets +onlyGivenNames x21
          clear_value x21
          extract_lets +onlyGivenNames x22
          clear_value x22
          split
          · exact Same.step (State.setOpen_same ..) rfl (Same.refl _ _)
          · refine Same.ite ?_ ?_
            · split
              · exact Same.refl _ _
              · extract_lets +onlyGivenNames x26
                have h26 : Same [.routing, .tiles, .sched, .ports, .wqs, .cqs, .remote, .trans, .insts, .draw, .hearth, .quench, .counters, .mem, .outside, .poison, .free, .out] x26 a1 := by
                  unfold x26
                  exact Same.step (State.tallyAdd_same ..) rfl (Same.refl _ _)
                clear_value x26
                extract_lets +onlyGivenNames x28
                have h28 : Same [.routing, .tiles, .sched, .ports, .wqs, .cqs, .remote, .trans, .insts, .draw, .hearth, .quench, .counters, .mem, .outside, .poison, .free, .out] x28 a1 := by
                  unfold x28
                  refine Same.ite ?_ ?_
                  · exact Same.step (State.arm_same ..) rfl (by assumption)
                  · assumption
                clear_value x28
                exact Same.step (State.setOpen_same ..) rfl (by assumption)
            · extract_lets +onlyGivenNames x23
              clear_value x23
              extract_lets +onlyGivenNames x24
              have h24 : Same [.routing, .tiles, .sched, .ports, .wqs, .cqs, .remote, .trans, .insts, .draw, .hearth, .quench, .counters, .mem, .outside, .poison, .free, .out] x24 a1 := by
                unfold x24
                exact Same.ite (Same.refl _ _) (Same.step (State.noteAccess_same ..) rfl (Same.step (State.logPages_same ..) rfl (Same.refl _ _)))
              clear_value x24
              split
              · exact Same.step (State.setOpen_same ..) rfl (by assumption)
              · extract_lets +onlyGivenNames x28
                clear_value x28
                extract_lets +onlyGivenNames x29
                clear_value x29
                extract_lets +onlyGivenNames x30
                clear_value x30
                extract_lets +onlyGivenNames x31
                have h31 : Same [.routing, .tiles, .sched, .ports, .wqs, .cqs, .remote, .trans, .insts, .draw, .hearth, .quench, .counters, .mem, .outside, .poison, .free, .out] x31 a1 := by
                  unfold x31
                  refine Same.ite ?_ ?_
                  · exact Same.step (State.storeMem_same ..) rfl (by assumption)
                  · exact Same.step (State.ownedWrite_same ..) rfl (Same.step (State.touch_same ..) rfl (by assumption))
                clear_value x31
                exact Same.step (State.setOpen_same ..) rfl (by assumption)

theorem execAtomicReq_same (a1 : Packet) (a2 : BitVec 128) (a3 : Bool) (a4 : Access) (a5 : State) :
    SameNext [.routing, .tiles, .sched, .ports, .wqs, .cqs, .remote, .trans, .insts, .draw, .hearth, .quench, .counters, .mem, .outside, .poison, .free, .out] (execAtomicReq a1 a2 a3 a4 a5) a5 := by
  unfold execAtomicReq
  split
  · exact SameNext.next (Same.refl _ _)
  · refine SameNext.ite ?_ ?_
    · exact SameNext.next (Same.refl _ _)
    · extract_lets +onlyGivenNames x9
      clear_value x9
      extract_lets +onlyGivenNames x10
      clear_value x10
      refine SameNext.next ?_
      refine Same.ite ?_ ?_
      · exact Same.step (State.unfill_same ..) rfl (Same.step (State.acceptAtomic_same ..) rfl (Same.step (State.takeEject_same ..) rfl (Same.refl _ _)))
      · exact Same.step (State.snoopOut_same ..) rfl (Same.refl _ _)

theorem execMulticastPutSettle_same (a1 : Endpoint) (a2 : BitVec 32) (a3 : Ticks) (a4 : State) :
    SameNext [.routing, .tiles, .sched, .time, .ports, .wqs, .cqs, .remote, .trans, .insts, .draw, .hearth, .quench, .counters, .mem, .poison, .free, .out] (execMulticastPutSettle a1 a2 a3 a4) a4 := by
  unfold execMulticastPutSettle
  extract_lets +onlyGivenNames x5
  have h5 : Same [.routing, .tiles, .sched, .time, .ports, .wqs, .cqs, .remote, .trans, .insts, .draw, .hearth, .quench, .counters, .mem, .poison, .free, .out] x5 a4 := by
    unfold x5
    exact Same.step (State.advance_same ..) rfl (Same.refl _ _)
  clear_value x5
  split
  · exact SameNext.next (by assumption)
  · exact SameNext.ite (SameNext.next (by assumption)) (SameNext.next (Same.step (State.finishSrc_same ..) rfl (by assumption)))

theorem execOperationEnd_same (a1 : Endpoint) (a2 : BitVec 32) (a3 : State) :
    SameNext [.routing, .tiles, .sched, .ports, .wqs, .cqs, .remote, .trans, .insts, .draw, .hearth, .quench, .counters, .free, .out] (execOperationEnd a1 a2 a3) a3 := by
  unfold execOperationEnd
  split
  · exact SameNext.next (Same.refl _ _)
  · extract_lets +onlyGivenNames x7
    clear_value x7
    refine SameNext.ite ?_ ?_
    · exact SameNext.next (Same.refl _ _)
    · refine SameNext.ite ?_ ?_
      · exact SameNext.next (Same.step (State.unfill_same ..) rfl (Same.step (State.countStale_same ..) rfl (Same.step (State.dropOpen_same ..) rfl (Same.refl _ _))))
      · extract_lets +onlyGivenNames x8
        clear_value x8
        extract_lets +onlyGivenNames x9
        extract_lets +onlyGivenNames x10
        clear_value x10
        extract_lets +onlyGivenNames x11
        have h11 : Same [.routing, .tiles, .sched, .ports, .wqs, .cqs, .remote, .trans, .insts, .draw, .hearth, .quench, .counters, .free, .out] x11 a3 := by
          unfold x11
          refine Same.ite ?_ ?_
          · split
            · exact Same.step (State.tallyAdd_same ..) rfl (Same.refl _ _)
            · exact Same.refl _ _
          · exact Same.refl _ _
        clear_value x11
        extract_lets +onlyGivenNames x13
        clear_value x13
        extract_lets +onlyGivenNames x14
        clear_value x14
        extract_lets +onlyGivenNames x15
        have h15 : Same [.routing, .tiles, .sched, .ports, .wqs, .cqs, .remote, .trans, .insts, .draw, .hearth, .quench, .counters, .free, .out] x15 a3 := by
          unfold x15
          exact Same.step (State.addTomb_same ..) rfl (by assumption)
        clear_value x15
        refine SameNext.ite ?_ ?_
        · refine SameNext.next (Same.step (State.unfill_same ..) rfl ?_)
          refine Same.ite ?_ ?_
          · assumption
          · exact Same.step (State.raise_same ..) rfl (by assumption)
        · refine SameNext.next (Same.step (State.unfill_same ..) rfl ?_)
          split
          · exact Same.step (State.sendAtomicResp_same ..) rfl (by assumption)
          · refine Same.ite ?_ ?_
            · assumption
            · exact Same.step (State.sendResponse_same ..) rfl (by assumption)
          · exact Same.step (State.sendResponse_same ..) rfl (by assumption)

theorem State.serveGet_same (a1 : State) (a2 : Packet) (a3 : Nat) (a4 : Nat) :
    Same [.routing, .tiles, .sched, .ports, .remote, .trans, .hearth, .quench, .counters, .free, .out] (State.serveGet a1 a2 a3 a4) a1 := by
  induction a3 generalizing a1 a4 with
  | zero => exact Same.refl _ _
  | succ n ih =>
    unfold State.serveGet
    refine Same.ite ?_ ?_
    · exact Same.refl _ _
    · refine Same.ite ?_ ?_
      · exact Same.step (ih ..) rfl (Same.step (State.readForGet_same ..) rfl (Same.refl _ _))
      · exact Same.step (State.readForGet_same ..) rfl (Same.refl _ _)

theorem execTallyAdd_same (a1 : Nat) (a2 : State) :
    SameNext [.routing, .tiles, .sched, .ports, .wqs, .cqs, .remote, .trans, .insts, .draw, .hearth, .quench, .counters, .mem, .poison, .free, .out] (execTallyAdd a1 a2) a2 := by
  unfold execTallyAdd
  split
  · exact SameNext.next (Same.refl _ _)
  · extract_lets +onlyGivenNames x7
    clear_value x7
    extract_lets +onlyGivenNames x8
    have h8 : Same [.routing, .tiles, .sched, .ports, .wqs, .cqs, .remote, .trans, .insts, .draw, .hearth, .quench, .counters, .mem, .poison, .free, .out] x8 a2 := by
      unfold x8
      exact Same.step (State.started_same ..) rfl (Same.refl _ _)
    clear_value x8
    refine SameNext.ite ?_ ?_
    · exact SameNext.next (Same.step (State.refuse_same ..) rfl (by assumption))
    · refine SameNext.ite ?_ ?_
      · exact SameNext.next (Same.step (State.refuse_same ..) rfl (by assumption))
      · refine SameNext.ite ?_ ?_
        · split
          · exact SameNext.next (Same.step (State.refuse_same ..) rfl (by assumption))
          · extract_lets +onlyGivenNames x13
            clear_value x13
            extract_lets +onlyGivenNames x14
            have h14 : Same [.routing, .tiles, .sched, .ports, .wqs, .cqs, .remote, .trans, .insts, .draw, .hearth, .quench, .counters, .mem, .poison, .free, .out] x14 a2 := by
              unfold x14
              exact Same.step (State.tallyAdd_same ..) rfl (by assumption)
            clear_value x14
            extract_lets +onlyGivenNames x16
            have h16 : Same [.routing, .tiles, .sched, .ports, .wqs, .cqs, .remote, .trans, .insts, .draw, .hearth, .quench, .counters, .mem, .poison, .free, .out] x16 a2 := by
              unfold x16
              refine Same.ite ?_ ?_
              · exact Same.step (State.arm_same ..) rfl (by assumption)
              · assumption
            clear_value x16
            exact SameNext.next (Same.step (State.complete_same ..) rfl (by assumption))
        · refine SameNext.ite ?_ ?_
          · exact SameNext.next (Same.step (State.refuse_same ..) rfl (by assumption))
          · split
            exact SameNext.next (Same.step (State.beginOp_same ..) rfl (Same.ofThd (by assumption) (Same.step (State.srcOf_same ..) rfl (by assumption))))

theorem State.writeWindow_same (a1 : State) (a2 : Packet) (a3 : Nat) (a4 : List Byte) (a5 : Bool) :
    Same [.routing, .tiles, .sched, .ports, .trans, .insts, .hearth, .quench, .counters, .mem, .outside, .poison, .free, .out] (State.writeWindow a1 a2 a3 a4 a5) a1 := by
  unfold State.writeWindow
  extract_lets +onlyGivenNames x6
  clear_value x6
  extract_lets +onlyGivenNames x7
  have h7 : Same [.routing, .tiles, .sched, .ports, .trans, .insts, .hearth, .quench, .counters, .mem, .outside, .poison, .free, .out] x7 a1 := by
    unfold x7
    exact Same.step (State.count_same ..) rfl (Same.refl _ _)
  clear_value x7
  extract_lets +onlyGivenNames x9
  clear_value x9
  extract_lets +onlyGivenNames x10
  clear_value x10
  refine Same.ite ?_ ?_
  · exact Same.step (State.storeMem_same ..) rfl (by assumption)
  · exact Same.step (State.hostPut_same ..) rfl (Same.step (State.logPages_same ..) rfl (by assumption))

theorem State.endBeyond_same (a1 : State) (a2 : Packet) :
    Same [.routing, .tiles, .sched, .remote, .quench, .counters] (State.endBeyond a1 a2) a1 := by
  unfold State.endBeyond
  exact Same.step (State.refuseOp_same ..) rfl (Same.step (State.raise_same ..) rfl (Same.refl _ _))

theorem State.acceptPut_same (a1 : State) (a2 : Packet) (a3 : Access) :
    Same [.routing, .tiles, .sched, .ports, .remote, .trans, .insts, .hearth, .quench, .counters, .mem, .outside, .poison, .free, .out] (State.acceptPut a1 a2 a3) a1 := by
  unfold State.acceptPut
  split
  · extract_lets +onlyGivenNames x7
    have h7 : Same [.routing, .tiles, .sched, .ports, .remote, .trans, .insts, .hearth, .quench, .counters, .mem, .outside, .poison, .free, .out] x7 a1 := by
      unfold x7
      exact Same.step (State.countDup_same ..) rfl (Same.refl _ _)
    clear_value x7
    refine Same.ite ?_ ?_
    · exact Same.step (State.sendStored_same ..) rfl (by assumption)
    · assumption
  · split
    · exact Same.step (State.refuseOp_same ..) rfl (Same.refl _ _)
    · extract_lets +onlyGivenNames x8
      clear_value x8
      extract_lets +onlyGivenNames x9
      clear_value x9
      extract_lets +onlyGivenNames x10
      clear_value x10
      refine Same.ite ?_ ?_
      · exact Same.step (State.countDup_same ..) rfl (Same.refl _ _)
      · refine Same.ite ?_ ?_
        · exact Same.step (State.endBeyond_same ..) rfl (Same.refl _ _)
        · extract_lets +onlyGivenNames x11
          clear_value x11
          refine Same.ite ?_ ?_
          · split
            · exact Same.step (State.refuseOp_same ..) rfl (Same.ofFst3 (by assumption) (Same.step (State.sealFails_same ..) rfl (Same.refl _ _)))
            · exact Same.step (State.setOpen_same ..) rfl (Same.ofFst3 (by assumption) (Same.step (State.sealFails_same ..) rfl (Same.refl _ _)))
          · split
            extract_lets +onlyGivenNames x16
            clear_value x16
            refine Same.step (State.setOpen_same ..) rfl (Same.ofFst (by assumption) ?_)
            split
            · dsimp only
              exact Same.refl _ _
            · split
              · extract_lets +onlyGivenNames x20
                have h20 : Same [.routing, .tiles, .sched, .ports, .remote, .trans, .insts, .hearth, .quench, .counters, .mem, .outside, .poison, .free, .out] x20 a1 := by
                  unfold x20
                  exact Same.ite (Same.refl _ _) (Same.step (State.noteAccess_same ..) rfl (Same.refl _ _))
                clear_value x20
                dsimp only
                refine Same.ite ?_ ?_
                · assumption
                · exact Same.step (State.logPages_same ..) rfl (by assumption)
              · dsimp only
                exact Same.step (State.writeWindow_same ..) rfl (Same.refl _ _)

theorem State.startRemote_same (a1 : State) (a2 : Nat) (a3 : Nat) (a4 : OpKind) :
    Same [.routing, .tiles, .sched, .ports, .wqs, .cqs, .remote, .trans, .insts, .draw, .hearth, .quench, .counters, .mem, .poison, .free, .out] (State.startRemote a1 a2 a3 a4) a1 := by
  unfold State.startRemote
  split
  · exact Same.refl _ _
  · extract_lets +onlyGivenNames x9
    clear_value x9
    extract_lets +onlyGivenNames x10
    have h10 : Same [.routing, .tiles, .sched, .ports, .wqs, .cqs, .remote, .trans, .insts, .draw, .hearth, .quench, .counters, .mem, .poison, .free, .out] x10 a1 := by
      unfold x10
      exact Same.step (State.started_same ..) rfl (Same.refl _ _)
    clear_value x10
    split
    · exact Same.step (State.refuse_same ..) rfl (by assumption)
    · split
      extract_lets +onlyGivenNames x19
      clear_value x19
      exact Same.step (State.beginOp_same ..) rfl (Same.ofThd (by assumption) (Same.step (State.srcOf_same ..) rfl (by assumption)))

theorem execAtomic_same (a1 : Nat) (a2 : State) :
    SameNext [.routing, .tiles, .sched, .ports, .wqs, .cqs, .remote, .trans, .insts, .draw, .hearth, .quench, .counters, .mem, .poison, .free, .out] (execAtomic a1 a2) a2 := by
  unfold execAtomic
  exact SameNext.next (Same.step (State.startRemote_same ..) rfl (Same.refl _ _))

theorem execOpenEntryExpiry_same (a1 : Endpoint) (a2 : BitVec 32) (a3 : Ticks) (a4 : State) :
    SameNext [.routing, .tiles, .sched, .time, .remote, .quench, .counters] (execOpenEntryExpiry a1 a2 a3 a4) a4 := by
  unfold execOpenEntryExpiry
  extract_lets +onlyGivenNames x5
  have h5 : Same [.routing, .tiles, .sched, .time, .remote, .quench, .counters] x5 a4 := by
    unfold x5
    exact Same.step (State.advance_same ..) rfl (Same.refl _ _)
  clear_value x5
  split
  · exact SameNext.next (by assumption)
  · refine SameNext.ite ?_ ?_
    · exact SameNext.next (by assumption)
    · extract_lets +onlyGivenNames x10
      have h10 : Same [.routing, .tiles, .sched, .time, .remote, .quench, .counters] x10 a4 := by
        unfold x10
        exact Same.step (State.dropOpen_same ..) rfl (by assumption)
      clear_value x10
      exact SameNext.next (Same.step (State.unfill_same ..) rfl (Same.step (State.raise_same ..) rfl (Same.setRemote rfl (by assumption))))

theorem execPut_same (a1 : Nat) (a2 : State) :
    SameNext [.routing, .tiles, .sched, .ports, .wqs, .cqs, .remote, .trans, .insts, .draw, .hearth, .quench, .counters, .mem, .poison, .free, .out] (execPut a1 a2) a2 := by
  unfold execPut
  exact SameNext.next (Same.step (State.startRemote_same ..) rfl (Same.refl _ _))

theorem execTombstoneExpiry_same (a1 : Endpoint) (a2 : BitVec 32) (a3 : Ticks) (a4 : State) :
    SameNext [.time, .remote] (execTombstoneExpiry a1 a2 a3 a4) a4 := by
  unfold execTombstoneExpiry
  extract_lets +onlyGivenNames x5
  have h5 : Same [.time, .remote] x5 a4 := by
    unfold x5
    exact Same.step (State.advance_same ..) rfl (Same.refl _ _)
  clear_value x5
  split
  · exact SameNext.next (by assumption)
  · exact SameNext.ite (SameNext.next (by assumption)) (SameNext.next (Same.setRemote rfl (by assumption)))

theorem execGet_same (a1 : Nat) (a2 : State) :
    SameNext [.routing, .tiles, .sched, .ports, .wqs, .cqs, .remote, .trans, .insts, .draw, .hearth, .quench, .counters, .mem, .poison, .free, .out] (execGet a1 a2) a2 := by
  unfold execGet
  exact SameNext.next (Same.step (State.startRemote_same ..) rfl (Same.refl _ _))

theorem execPutPacket_same (a1 : Packet) (a2 : Access) (a3 : State) :
    SameNext [.routing, .tiles, .sched, .ports, .remote, .trans, .insts, .hearth, .quench, .counters, .mem, .outside, .poison, .free, .out] (execPutPacket a1 a2 a3) a3 := by
  unfold execPutPacket
  split
  · exact SameNext.next (Same.refl _ _)
  · refine SameNext.ite ?_ ?_
    · exact SameNext.next (Same.refl _ _)
    · refine SameNext.ite ?_ ?_
      · exact SameNext.next (Same.step (State.snoopOut_same ..) rfl (Same.refl _ _))
      · extract_lets +onlyGivenNames x7
        have h7 : Same [.routing, .tiles, .sched, .ports, .remote, .trans, .insts, .hearth, .quench, .counters, .mem, .outside, .poison, .free, .out] x7 a3 := by
          unfold x7
          exact Same.step (State.takeEject_same ..) rfl (Same.refl _ _)
        clear_value x7
        refine SameNext.ite ?_ ?_
        · exact SameNext.next (Same.step (State.raiseAt_same ..) rfl (Same.setRouting rfl (by assumption)))
        · exact SameNext.next (Same.step (State.unfill_same ..) rfl (Same.step (State.acceptPut_same ..) rfl (by assumption)))

theorem State.writeLocal_same (a1 : State) (a2 : SrcOp) (a3 : Nat) (a4 : List Byte) (a5 : Bool) :
    Same [.routing, .tiles, .sched, .ports, .trans, .insts, .hearth, .quench, .counters, .free, .out] (State.writeLocal a1 a2 a3 a4 a5) a1 := by
  unfold State.writeLocal
  split
  extract_lets +onlyGivenNames x10
  clear_value x10
  extract_lets +onlyGivenNames x11
  have h11 : Same [.routing, .tiles, .sched, .ports, .trans, .insts, .hearth, .quench, .counters, .free, .out] x11 a1 := by
    unfold x11
    refine Same.getDMap ?_ ?_
    · intro y12
      exact Same.step (State.count_same ..) rfl (Same.refl _ _)
    · exact Same.refl _ _
  clear_value x11
  exact Same.step (State.writePieces_same ..) rfl (by assumption)

end Sys2Proof.Machine
end

