-- ==== Sys2Proof/Laws/FramePlace.lean ====
section
/-! SUPPORT. Frames of the operations and commands of Sys2Proof/Machine/Place.lean: each changes no part of the module but those it
names, and keeps module memory canonical. -/

namespace Sys2Proof.Machine

open Sys2Proof

theorem placeBytes_length (r : PlaceRec) : (placeBytes r).length = 32 := by simp [placeBytes, leBytes_length]

theorem State.logPlace_same (a1 : State) (a2 : Nat) (a3 : Nat) (a4 : Nat) (a5 : Nat) (a6 : Nat) (a7 : Nat) (a8 : Nat) :
    Same [.striker, .mem, .poison] (State.logPlace a1 a2 a3 a4 a5 a6 a7 a8) a1 := by
  have gen : ∀ W : List Part, W.contains .striker = true →
      (∀ off n, a1.striker.logRing = some (off, n) → ∀ tail r, Same W (State.ringAppend a1 (reportBase + off) (Nat.log2 n) tail (placeBytes r)).1 a1) →
      Same W (State.logPlace a1 a2 a3 a4 a5 a6 a7 a8) a1 := by
    intro W hw ha
    unfold State.logPlace
    refine Same.ite (Same.refl _ _) ?_
    split
    · exact Same.refl _ _
    · rename_i hr
      dsimp only
      split
      · rename_i he
        exact Same.setStriker hw id (Same.ofFst he (ha _ _ hr _ _))
      · rename_i he
        exact Same.setStriker hw id (Same.ofFst he (ha _ _ hr _ _))
  refine Same.ofRings (gen [.striker, .mem, .outside, .poison] rfl fun _ _ _ _ _ => Same.step (State.ringAppend_same ..) rfl (Same.refl _ _)) rfl
    fun hs => gen [.striker, .mem, .poison] rfl fun _ _ hr _ _ => ?_
  exact Same.step (State.ringAppend_report _ _ _ _ _ (by rw [placeBytes_length]; exact hs.2.2.1 _ _ hr)) rfl (Same.refl _ _)

end Sys2Proof.Machine
end

