-- ==== Sys2Proof/Laws/FrameMatching.lean ====
section
/-! SUPPORT. Frames of the operations and commands of Sys2Proof/Machine/Matching.lean: each changes no part of the module but those it
names, and keeps module memory canonical. -/

namespace Sys2Proof.Machine

open Sys2Proof

theorem State.dropActive_same (a1 : State) (a2 : Nat) (a3 : Recv) :
    Same [.matching] (State.dropActive a1 a2 a3) a1 := by
  unfold State.dropActive
  extract_lets +onlyGivenNames x4
  have h4 : Same [.matching] x4 a1 := by
    unfold x4
    exact Same.step (State.modCtx_same ..) rfl (Same.refl _ _)
  clear_value x4
  split
  · refine Same.ite ?_ ?_
    · exact Same.setMatching rfl (by assumption)
    · assumption
  · assumption

theorem State.finalResp_same (a1 : State) (a2 : Msg) (a3 : BitVec 8) (a4 : Bool) :
    Same [.routing, .tiles, .sched, .remote, .quench, .counters] (State.finalResp a1 a2 a3 a4) a1 := by
  unfold State.finalResp
  extract_lets +onlyGivenNames x5
  clear_value x5
  exact Same.step (State.sendResponse_same ..) rfl (Same.step (State.addTomb_same ..) rfl (Same.refl _ _))

theorem State.endRecv_same (a1 : State) (a2 : Nat) (a3 : Recv) (a4 : Bool) :
    Same [.routing, .tiles, .sched, .ports, .wqs, .cqs, .remote, .matching, .trans, .insts, .hearth, .quench, .counters, .mem, .poison, .free, .out] (State.endRecv a1 a2 a3 a4) a1 := by
  unfold State.endRecv
  split
  · exact Same.refl _ _
  · extract_lets +onlyGivenNames x8
    clear_value x8
    extract_lets +onlyGivenNames x9
    clear_value x9
    extract_lets +onlyGivenNames x10
    clear_value x10
    extract_lets +onlyGivenNames x11
    clear_value x11
    extract_lets +onlyGivenNames x12
    have h12 : Same [.routing, .tiles, .sched, .ports, .wqs, .cqs, .remote, .matching, .trans, .insts, .hearth, .quench, .counters, .mem, .poison, .free, .out] x12 a1 := by
      unfold x12
      exact Same.step (State.dropActive_same ..) rfl (Same.refl _ _)
    clear_value x12
    extract_lets +onlyGivenNames x14
    have h14 : Same [.routing, .tiles, .sched, .ports, .wqs, .cqs, .remote, .matching, .trans, .insts, .hearth, .quench, .counters, .mem, .poison, .free, .out] x14 a1 := by
      unfold x14
      refine Same.ite ?_ ?_
      · exact Same.step (State.modCtx_same ..) rfl (by assumption)
      · assumption
    clear_value x14
    extract_lets +onlyGivenNames x16
    have h16 : Same [.routing, .tiles, .sched, .ports, .wqs, .cqs, .remote, .matching, .trans, .insts, .hearth, .quench, .counters, .mem, .poison, .free, .out] x16 a1 := by
      unfold x16
      refine Same.ite ?_ ?_
      · exact Same.step (State.finalResp_same ..) rfl (by assumption)
      · assumption
    clear_value x16
    exact Same.step (State.complete_same ..) rfl (by assumption)

theorem State.checkRecv_same (a1 : State) (a2 : Nat) (a3 : Recv) :
    Same [.routing, .tiles, .sched, .ports, .wqs, .cqs, .remote, .matching, .trans, .insts, .hearth, .quench, .counters, .mem, .poison, .free, .out] (State.checkRecv a1 a2 a3) a1 := by
  unfold State.checkRecv
  split
  · exact Same.refl _ _
  · exact Same.ite (Same.step (State.endRecv_same ..) rfl (Same.refl _ _)) (Same.refl _ _)

theorem State.arrivalRec_same (a1 : State) (a2 : Nat) (a3 : BitVec 8) (a4 : BitVec 256) :
    Same [.routing, .tiles, .sched, .ports, .wqs, .cqs, .matching, .trans, .insts, .hearth, .quench, .counters, .free, .out] (State.arrivalRec a1 a2 a3 a4) a1 := by
  unfold State.arrivalRec
  split
  · exact Same.refl _ _
  · split
    · exact Same.refl _ _
    · extract_lets +onlyGivenNames x11
      have h11 : Same [.routing, .tiles, .sched, .ports, .wqs, .cqs, .matching, .trans, .insts, .hearth, .quench, .counters, .free, .out] x11 a1 := by
        unfold x11
        exact Same.step (State.missedArrivals_same ..) rfl (Same.refl _ _)
      clear_value x11
      extract_lets +onlyGivenNames x13
      clear_value x13
      extract_lets +onlyGivenNames x14
      clear_value x14
      exact Same.ite (Same.step (State.makeRec_same ..) rfl (by assumption)) (Same.step (State.modCtx_same ..) rfl (by assumption))

theorem State.arrived_same (a1 : State) (a2 : Nat) (a3 : Msg) :
    Same [.routing, .tiles, .sched, .ports, .wqs, .cqs, .matching, .trans, .insts, .hearth, .quench, .counters, .free, .out] (State.arrived a1 a2 a3) a1 := by
  unfold State.arrived
  exact Same.step (State.arrivalRec_same ..) rfl (Same.refl _ _)

theorem State.noteLast_same (a1 : State) (a2 : Nat) (a3 : Msg) (a4 : Packet) :
    Same [.routing, .tiles, .sched, .ports, .wqs, .cqs, .matching, .trans, .insts, .hearth, .quench, .counters, .free, .out] (State.noteLast a1 a2 a3 a4).1 a1 := by
  unfold State.noteLast
  refine Same.iteFst ?_ ?_
  · extract_lets +onlyGivenNames x5
    clear_value x5
    refine Same.iteFst ?_ ?_
    · dsimp only
      exact Same.step (State.arrived_same ..) rfl (Same.refl _ _)
    · dsimp only
      exact Same.refl _ _
  · dsimp only
    exact Same.refl _ _

theorem State.readRdv_same (a1 : State) (a2 : Nat) (a3 : Recv) (a4 : Msg) (a5 : Nat) (a6 : Nat) :
    Same [.routing, .tiles, .sched, .ports, .remote, .trans, .hearth, .quench, .counters, .free, .out] (State.readRdv a1 a2 a3 a4 a5 a6) a1 := by
  unfold State.readRdv
  extract_lets +onlyGivenNames x7
  clear_value x7
  split
  split
  extract_lets +onlyGivenNames x16
  clear_value x16
  extract_lets +onlyGivenNames x17
  clear_value x17
  exact Same.step (State.launch_same ..) rfl (Same.setRemote rfl (Same.ofSnd (by assumption) (Same.step (State.nextE2e_same ..) rfl (Same.ofSnd (by assumption) (Same.step (State.nextTag_same ..) rfl (Same.refl _ _))))))

theorem State.askRdv_same (a1 : State) (a2 : Nat) (a3 : Recv) :
    Same [.routing, .tiles, .sched, .ports, .remote, .matching, .trans, .hearth, .quench, .counters, .free, .out] (State.askRdv a1 a2 a3) a1 := by
  unfold State.askRdv
  split
  · exact Same.refl _ _
  · refine Same.ite ?_ ?_
    · exact Same.refl _ _
    · split
      · exact Same.refl _ _
      · extract_lets +onlyGivenNames x10
        clear_value x10
        exact Same.step (State.readRdv_same ..) rfl (Same.step (State.modCtx_same ..) rfl (Same.refl _ _))

theorem State.recvPacket_same (a1 : State) (a2 : Nat) (a3 : Recv) (a4 : Packet) (a5 : Access) :
    Same [.routing, .tiles, .sched, .ports, .wqs, .cqs, .remote, .matching, .trans, .insts, .hearth, .quench, .counters, .mem, .poison, .free, .out] (State.recvPacket a1 a2 a3 a4 a5) a1 := by
  unfold State.recvPacket
  split
  · exact Same.refl _ _
  · extract_lets +onlyGivenNames x9
    clear_value x9
    extract_lets +onlyGivenNames x10
    clear_value x10
    extract_lets +onlyGivenNames x11
    refine Same.ite ?_ ?_
    · exact Same.step (State.countDup_same ..) rfl (Same.refl _ _)
    · refine Same.ite ?_ ?_
      · split
        extract_lets +onlyGivenNames x16
        clear_value x16
        extract_lets +onlyGivenNames x17
        clear_value x17
        refine Same.step (State.askRdv_same ..) rfl ?_
        unfold x11
        exact Same.step (State.modCtx_same ..) rfl (Same.ofFst (by assumption) (Same.step (State.noteLast_same ..) rfl (Same.refl _ _)))
      · refine Same.ite ?_ ?_
        · refine Same.ite ?_ ?_
          · extract_lets +onlyGivenNames x12
            have h12 : Same [.routing, .tiles, .sched, .ports, .wqs, .cqs, .remote, .matching, .trans, .insts, .hearth, .quench, .counters, .mem, .poison, .free, .out] x12 a1 := by
              unfold x12
              exact Same.step (State.raise_same ..) rfl (Same.refl _ _)
            clear_value x12
            refine Same.ite ?_ ?_
            · exact Same.step (State.endRecv_same ..) rfl (by assumption)
            · extract_lets +onlyGivenNames x14
              clear_value x14
              extract_lets +onlyGivenNames x15
              clear_value x15
              refine Same.step (State.sendResponse_same ..) rfl ?_
              unfold x11
              exact Same.step (State.modCtx_same ..) rfl (by assumption)
          · split
            split
            extract_lets +onlyGivenNames x21
            have h21 : Same [.routing, .tiles, .sched, .ports, .wqs, .cqs, .remote, .matching, .trans, .insts, .hearth, .quench, .counters, .mem, .poison, .free, .out] x21 a1 := by
              unfold x21
              exact Same.step (State.noteAccess_same ..) rfl (Same.ofFst (by assumption) (Same.step (State.noteLast_same ..) rfl (Same.refl _ _)))
            clear_value x21
            split
            extract_lets +onlyGivenNames x27
            clear_value x27
            refine Same.step (State.checkRecv_same ..) rfl ?_
            unfold x11
            refine Same.step (State.modCtx_same ..) rfl (Same.ofFst (by assumption) ?_)
            split
            · dsimp only
              assumption
            · dsimp only
              exact Same.step (State.writePieces_same ..) rfl (Same.step (State.count_same ..) rfl (by assumption))
        · split
          extract_lets +onlyGivenNames x16
          clear_value x16
          extract_lets +onlyGivenNames x17
          clear_value x17
          extract_lets +onlyGivenNames x18
          clear_value x18
          extract_lets +onlyGivenNames x19
          have h19 : Same [.routing, .tiles, .sched, .ports, .wqs, .cqs, .remote, .matching, .trans, .insts, .hearth, .quench, .counters, .mem, .poison, .free, .out] x19 a1 := by
            unfold x19
            unfold x11
            exact Same.step (State.modCtx_same ..) rfl (Same.ofFst (by assumption) (Same.step (State.noteLast_same ..) rfl (Same.refl _ _)))
          clear_value x19
          exact Same.ite (Same.step (State.readRdv_same ..) rfl (by assumption)) (Same.step (State.checkRecv_same ..) rfl (by assumption))

theorem State.recvFailed_same (a1 : State) (a2 : Nat) (a3 : Recv) (a4 : Packet) (a5 : BitVec 8) :
    Same [.routing, .tiles, .sched, .ports, .wqs, .cqs, .remote, .matching, .trans, .insts, .hearth, .quench, .counters, .mem, .poison, .free, .out] (State.recvFailed a1 a2 a3 a4 a5) a1 := by
  unfold State.recvFailed
  split
  · exact Same.refl _ _
  · split
    extract_lets +onlyGivenNames x13
    clear_value x13
    exact Same.step (State.checkRecv_same ..) rfl (Same.step (State.modCtx_same ..) rfl (Same.ofFst (by assumption) (Same.step (State.noteLast_same ..) rfl (Same.refl _ _))))

theorem State.storedIn_same (a1 : State) (a2 : Nat) (a3 : Nat) (a4 : BitVec 32) (a5 : Nat) (a6 : ReadResult) (a7 : Access) :
    Same [.routing, .tiles, .sched, .ports, .wqs, .cqs, .remote, .matching, .trans, .insts, .hearth, .quench, .counters, .mem, .poison, .free, .out] (State.storedIn a1 a2 a3 a4 a5 a6 a7) a1 := by
  unfold State.storedIn
  split
  · exact Same.refl _ _
  · split
    · exact Same.refl _ _
    · split
      · exact Same.refl _ _
      · extract_lets +onlyGivenNames x18
        clear_value x18
        extract_lets +onlyGivenNames x19
        have h19 : Same [.routing, .tiles, .sched, .ports, .wqs, .cqs, .remote, .matching, .trans, .insts, .hearth, .quench, .counters, .mem, .poison, .free, .out] x19 a1 := by
          unfold x19
          exact Same.step (State.modCtx_same ..) rfl (Same.refl _ _)
        clear_value x19
        split
        · extract_lets +onlyGivenNames x23
          clear_value x23
          exact Same.step (State.recvPacket_same ..) rfl (by assumption)
        · exact Same.step (State.recvFailed_same ..) rfl (by assumption)
        · exact Same.step (State.recvFailed_same ..) rfl (by assumption)

theorem State.bind__same (a1 : State) (a2 : Nat) (a3 : Recv) (a4 : Msg) (a5 : Bool) (a6 : Access) :
    Same [.routing, .tiles, .sched, .ports, .wqs, .cqs, .remote, .matching, .trans, .insts, .hearth, .quench, .counters, .mem, .poison, .free, .out] (State.bind_ a1 a2 a3 a4 a5 a6) a1 := by
  unfold State.bind_
  extract_lets +onlyGivenNames x7
  clear_value x7
  extract_lets +onlyGivenNames x8
  clear_value x8
  extract_lets +onlyGivenNames x9
  have h9 : Same [.routing, .tiles, .sched, .ports, .wqs, .cqs, .remote, .matching, .trans, .insts, .hearth, .quench, .counters, .mem, .poison, .free, .out] x9 a1 := by
    unfold x9
    exact Same.step (State.modCtx_same ..) rfl (Same.refl _ _)
  clear_value x9
  refine Same.ite ?_ ?_
  · exact Same.step (State.askRdv_same ..) rfl (by assumption)
  · refine Same.ite ?_ ?_
    · extract_lets +onlyGivenNames x11
      clear_value x11
      extract_lets +onlyGivenNames x12
      clear_value x12
      refine Same.foldl ?_ _ ?_
      · intro y13
        intro y14
        exact Same.ite (Same.step (State.storedIn_same ..) rfl (Same.refl _ _)) (Same.step (State.hostRead_same ..) rfl (Same.refl _ _))
      · assumption
    · refine Same.foldl ?_ _ ?_
      · intro y11
        intro y12
        split
        · exact Same.step (State.recvPacket_same ..) rfl (Same.refl _ _)
        · exact Same.refl _ _
      · assumption

theorem State.answerStored_same (a1 : State) (a2 : Msg) :
    Same [.routing, .tiles, .sched, .remote, .quench, .counters] (State.answerStored a1 a2).1 a1 := by
  unfold State.answerStored
  refine Same.iteFst ?_ ?_
  · dsimp only
    exact Same.step (State.finalResp_same ..) rfl (Same.refl _ _)
  · dsimp only
    exact Same.refl _ _

theorem State.headerOnly__same (a1 : State) (a2 : Nat) (a3 : Msg) :
    Same [.matching] (State.headerOnly_ a1 a2 a3).1 a1 := by
  unfold State.headerOnly_
  dsimp only
  exact Same.step (State.modCtx_same ..) rfl (Same.refl _ _)

theorem State.storePacket_same (a1 : State) (a2 : Nat) (a3 : Ctx) (a4 : Msg) (a5 : Packet) (a6 : Access) :
    Same [.routing, .tiles, .sched, .ports, .wqs, .cqs, .remote, .matching, .trans, .insts, .hearth, .quench, .counters, .free, .out] (State.storePacket a1 a2 a3 a4 a5 a6).1 a1 := by
  unfold State.storePacket
  refine Same.iteFst ?_ ?_
  · dsimp only
    exact Same.step (State.countDup_same ..) rfl (Same.refl _ _)
  · extract_lets +onlyGivenNames x7
    clear_value x7
    extract_lets +onlyGivenNames x8
    clear_value x8
    extract_lets +onlyGivenNames x9
    clear_value x9
    extract_lets +onlyGivenNames x10
    clear_value x10
    split
    refine Same.iteFst ?_ ?_
    · dsimp only
      exact Same.ofFst (by assumption) (Same.step (State.noteLast_same ..) rfl (Same.refl _ _))
    · extract_lets +onlyGivenNames x15
      clear_value x15
      extract_lets +onlyGivenNames x16
      clear_value x16
      extract_lets +onlyGivenNames x17
      clear_value x17
      split
      · exact Same.step (State.headerOnly__same ..) rfl (Same.ofFst (by assumption) (Same.step (State.noteLast_same ..) rfl (Same.refl _ _)))
      · refine Same.iteFst ?_ ?_
        · split
          · exact Same.step (State.headerOnly__same ..) rfl (Same.ofFst (by assumption) (Same.step (State.noteLast_same ..) rfl (Same.refl _ _)))
          · extract_lets +onlyGivenNames x22
            clear_value x22
            extract_lets +onlyGivenNames x23
            have h23 : Same [.routing, .tiles, .sched, .ports, .wqs, .cqs, .remote, .matching, .trans, .insts, .hearth, .quench, .counters, .free, .out] x23 a1 := by
              unfold x23
              exact Same.step (State.hostPut_same ..) rfl (Same.ofFst (by assumption) (Same.step (State.noteLast_same ..) rfl (Same.refl _ _)))
            clear_value x23
            dsimp only
            assumption
          · exact Same.step (State.headerOnly__same ..) rfl (Same.step (State.modCtx_same ..) rfl (Same.ofFst (by assumption) (Same.step (State.noteLast_same ..) rfl (Same.refl _ _))))
        · dsimp only
          exact Same.ofFst (by assumption) (Same.step (State.noteLast_same ..) rfl (Same.refl _ _))

theorem State.addStored_same (a1 : State) (a2 : Nat) (a3 : Ctx) (a4 : Msg) (a5 : Packet) (a6 : Access) :
    Same [.routing, .tiles, .sched, .ports, .wqs, .cqs, .remote, .matching, .trans, .insts, .hearth, .quench, .counters, .free, .out] (State.addStored a1 a2 a3 a4 a5 a6) a1 := by
  unfold State.addStored
  extract_lets +onlyGivenNames x7
  clear_value x7
  split
  split
  extract_lets +onlyGivenNames x16
  clear_value x16
  exact Same.step (State.modCtx_same ..) rfl (Same.ofFst (by assumption) (Same.step (State.answerStored_same ..) rfl (Same.ofFst (by assumption) (Same.step (State.storePacket_same ..) rfl (Same.refl _ _)))))

theorem State.joinUnexp_same (a1 : State) (a2 : Nat) (a3 : Msg) (a4 : List Packet) (a5 : Access) :
    Same [.routing, .tiles, .sched, .ports, .wqs, .cqs, .remote, .matching, .trans, .insts, .hearth, .quench, .counters, .free, .out] (State.joinUnexp a1 a2 a3 a4 a5) a1 := by
  unfold State.joinUnexp
  split
  extract_lets +onlyGivenNames x10
  have h10 : Same [.routing, .tiles, .sched, .ports, .wqs, .cqs, .remote, .matching, .trans, .insts, .hearth, .quench, .counters, .free, .out] x10 a1 := by
    unfold x10
    refine Same.step (State.modCtx_same ..) rfl (Same.step (State.count_same ..) rfl (Same.ofFst (by assumption) ?_))
    refine Same.iteFst ?_ ?_
    · dsimp only
      exact Same.step (State.arrived_same ..) rfl (Same.refl _ _)
    · dsimp only
      exact Same.refl _ _
  clear_value x10
  extract_lets +onlyGivenNames x12
  have h12 : Same [.routing, .tiles, .sched, .ports, .wqs, .cqs, .remote, .matching, .trans, .insts, .hearth, .quench, .counters, .free, .out] x12 a1 := by
    unfold x12
    refine Same.ite ?_ ?_
    · assumption
    · refine Same.foldl ?_ _ ?_
      · intro y13
        intro y14
        split
        · exact Same.refl _ _
        · split
          · exact Same.step (State.addStored_same ..) rfl (Same.refl _ _)
          · exact Same.refl _ _
      · assumption
  clear_value x12
  split
  · refine Same.ite ?_ ?_
    · exact Same.step (State.arrivalRec_same ..) rfl (Same.step (State.raise_same ..) rfl (Same.step (State.modCtx_same ..) rfl (by assumption)))
    · assumption
  · assumption

theorem State.refill_same (a1 : State) (a2 : Nat) :
    Same [.matching] (State.refill a1 a2) a1 := by
  unfold State.refill
  refine Same.foldl ?_ _ ?_
  · intro y3
    intro y4
    exact Same.ite (Same.refl _ _) (Same.step (State.modCtx_same ..) rfl (Same.refl _ _))
  · exact Same.refl _ _

theorem State.post_same {s t : State} {k : Nat} {c : Ctx} {r : Recv} (h : s.post k c r = some t) :
    Same [.matching] t s := by
  unfold State.post at h
  split at h
  · cases h
  · split at h
    · cases h; exact State.modCtx_same ..
    · split at h
      · cases h; exact State.modCtx_same ..
      · cases h

theorem State.unpost_same (a1 : State) (a2 : Nat) (a3 : Recv) :
    Same [.matching] (State.unpost a1 a2 a3) a1 := by
  unfold State.unpost
  split
  · exact Same.refl _ _
  · exact Same.step (State.refill_same ..) rfl (Same.step (State.modCtx_same ..) rfl (Same.refl _ _))

theorem State.newMsg_same (a1 : State) (a2 : Nat) (a3 : List Packet) (a4 : Access) :
    Same [.routing, .tiles, .sched, .ports, .wqs, .cqs, .remote, .matching, .trans, .insts, .hearth, .quench, .counters, .mem, .poison, .free, .out] (State.newMsg a1 a2 a3 a4) a1 := by
  unfold State.newMsg
  split
  · exact Same.refl _ _
  · extract_lets +onlyGivenNames x7
    clear_value x7
    split
    · exact Same.step (State.finalResp_same ..) rfl (Same.refl _ _)
    · refine Same.ite ?_ ?_
      · exact Same.step (State.finalResp_same ..) rfl (Same.refl _ _)
      · split
        · exact Same.step (State.bind__same ..) rfl (Same.step (State.unpost_same ..) rfl (Same.refl _ _))
        · exact Same.step (State.joinUnexp_same ..) rfl (Same.refl _ _)

theorem State.applyPackets_same (a1 : State) (a2 : Nat) (a3 : List Packet) (a4 : Access) :
    Same [.routing, .tiles, .sched, .ports, .wqs, .cqs, .remote, .matching, .trans, .insts, .hearth, .quench, .counters, .mem, .poison, .free, .out] (State.applyPackets a1 a2 a3 a4) a1 := by
  unfold State.applyPackets
  split
  · exact Same.refl _ _
  · extract_lets +onlyGivenNames x7
    clear_value x7
    extract_lets +onlyGivenNames x8
    have h8 : Same [.routing, .tiles, .sched, .ports, .wqs, .cqs, .remote, .matching, .trans, .insts, .hearth, .quench, .counters, .mem, .poison, .free, .out] x8 a1 := by
      unfold x8
      exact Same.step (State.modCtx_same ..) rfl (Same.refl _ _)
    clear_value x8
    refine Same.ite ?_ ?_
    · exact Same.step (State.newMsg_same ..) rfl (by assumption)
    · refine Same.foldl ?_ _ ?_
      · intro y10
        intro y11
        split
        · exact Same.refl _ _
        · split
          · exact Same.step (State.recvPacket_same ..) rfl (Same.refl _ _)
          · split
            · exact Same.ite (Same.step (State.countDup_same ..) rfl (Same.refl _ _)) (Same.step (State.addStored_same ..) rfl (Same.refl _ _))
            · exact Same.refl _ _
      · assumption

theorem State.passPackets_same (a1 : State) (a2 : Nat) (a3 : List Packet) (a4 : Access) :
    Same [.routing, .tiles, .sched, .ports, .wqs, .cqs, .remote, .matching, .trans, .insts, .hearth, .quench, .counters, .mem, .poison, .free, .out] (State.passPackets a1 a2 a3 a4) a1 := by
  unfold State.passPackets
  split
  · exact Same.ite (Same.step (State.modCtx_same ..) rfl (Same.refl _ _)) (Same.step (State.applyPackets_same ..) rfl (Same.refl _ _))
  · exact Same.step (State.applyPackets_same ..) rfl (Same.refl _ _)

theorem State.letIn_same (a1 : State) (a2 : Access) (a3 : Nat) :
    Same [.routing, .tiles, .sched, .ports, .wqs, .cqs, .remote, .matching, .trans, .insts, .hearth, .quench, .counters, .mem, .poison, .free, .out] (State.letIn a1 a2 a3) a1 := by
  induction a3 generalizing a1 with
  | zero => exact Same.refl _ _
  | succ n ih =>
    unfold State.letIn
    extract_lets +onlyGivenNames x5
    clear_value x5
    extract_lets +onlyGivenNames x6
    clear_value x6
    split
    · exact Same.refl _ _
    · extract_lets +onlyGivenNames x11
      clear_value x11
      extract_lets +onlyGivenNames x12
      have h12 : Same [.routing, .tiles, .sched, .ports, .wqs, .cqs, .remote, .matching, .trans, .insts, .hearth, .quench, .counters, .mem, .poison, .free, .out] x12 a1 := by
        unfold x12
        exact Same.setMatching rfl (Same.refl _ _)
      clear_value x12
      exact Same.step (ih ..) rfl (Same.step (State.passPackets_same ..) rfl (by assumption))

theorem State.leaveStall_same (a1 : State) (a2 : Nat) (a3 : Access) :
    Same [.routing, .tiles, .sched, .ports, .wqs, .cqs, .remote, .matching, .trans, .insts, .hearth, .quench, .counters, .mem, .poison, .free, .out] (State.leaveStall a1 a2 a3) a1 := by
  unfold State.leaveStall
  exact Same.step (State.letIn_same ..) rfl (Same.step (State.modCtx_same ..) rfl (Same.refl _ _))

theorem State.applyRecv_same (a1 : State) (a2 : Nat) (a3 : Fetched) (a4 : List (Word × Nat)) (a5 : Access) :
    Same [.routing, .tiles, .sched, .ports, .wqs, .cqs, .remote, .matching, .trans, .insts, .hearth, .quench, .counters, .mem, .poison, .free, .out] (State.applyRecv a1 a2 a3 a4 a5) a1 := by
  unfold State.applyRecv
  split
  · exact Same.refl _ _
  · extract_lets +onlyGivenNames x9
    clear_value x9
    extract_lets +onlyGivenNames x10
    split
    · unfold x10
      exact Same.step (State.complete_same ..) rfl (Same.refl _ _)
    · extract_lets +onlyGivenNames x14
      clear_value x14
      split
      · unfold x10
        exact Same.step (State.complete_same ..) rfl (Same.refl _ _)
      · refine Same.ite ?_ ?_
        · unfold x10
          exact Same.step (State.complete_same ..) rfl (Same.refl _ _)
        · extract_lets +onlyGivenNames x18
          have h18 : Same [.routing, .tiles, .sched, .ports, .wqs, .cqs, .remote, .matching, .trans, .insts, .hearth, .quench, .counters, .mem, .poison, .free, .out] x18 a1 := by
            unfold x18
            exact Same.step (State.modCtx_same ..) rfl (Same.refl _ _)
          clear_value x18
          extract_lets +onlyGivenNames x20
          clear_value x20
          extract_lets +onlyGivenNames x21
          clear_value x21
          refine Same.ite ?_ ?_
          · extract_lets +onlyGivenNames x22
            clear_value x22
            split
            · unfold x10
              exact Same.step (State.complete_same ..) rfl (by assumption)
            · exact Same.step (State.leaveStall_same ..) rfl (Same.step (State.bind__same ..) rfl (Same.step (State.modCtx_same ..) rfl (by assumption)))
          · split
            · refine Same.ite ?_ ?_
              · unfold x10
                exact Same.step (State.complete_same ..) rfl (by assumption)
              · split
                · unfold x10
                  exact Same.step (State.complete_same ..) rfl (by assumption)
                · exact Same.step (State.letIn_same ..) rfl (Same.step (State.post_same (by assumption)) rfl (by assumption))
            · extract_lets +onlyGivenNames x23
              clear_value x23
              refine Same.ite ?_ ?_
              · unfold x10
                exact Same.step (State.complete_same ..) rfl (by assumption)
              · refine Same.ite ?_ ?_
                · extract_lets +onlyGivenNames x24
                  clear_value x24
                  extract_lets +onlyGivenNames x25
                  have h25 : Same [.routing, .tiles, .sched, .ports, .wqs, .cqs, .remote, .matching, .trans, .insts, .hearth, .quench, .counters, .mem, .poison, .free, .out] x25 a1 := by
                    unfold x25
                    exact Same.step (State.modCtx_same ..) rfl (by assumption)
                  clear_value x25
                  unfold x10
                  exact Same.step (State.complete_same ..) rfl (by assumption)
                · exact Same.step (State.leaveStall_same ..) rfl (Same.step (State.bind__same ..) rfl (Same.step (State.modCtx_same ..) rfl (by assumption)))

theorem State.recvIn_same (a1 : State) (a2 : Nat) (a3 : Fetched) (a4 : List (Word × Nat)) (a5 : Access) :
    Same [.routing, .tiles, .sched, .ports, .wqs, .cqs, .remote, .matching, .trans, .insts, .hearth, .quench, .counters, .mem, .poison, .free, .out] (State.recvIn a1 a2 a3 a4 a5) a1 := by
  unfold State.recvIn
  extract_lets +onlyGivenNames x6
  clear_value x6
  extract_lets +onlyGivenNames x7
  clear_value x7
  split
  · exact Same.ite (Same.step (State.modCtx_same ..) rfl (Same.refl _ _)) (Same.step (State.applyRecv_same ..) rfl (Same.refl _ _))
  · exact Same.step (State.applyRecv_same ..) rfl (Same.refl _ _)

theorem State.recvChain_same (a1 : State) (a2 : Nat) (a3 : BitVec 32) (a4 : ReadResult) :
    Same [.routing, .tiles, .sched, .ports, .wqs, .cqs, .remote, .matching, .trans, .insts, .hearth, .quench, .counters, .mem, .poison, .free, .out] (State.recvChain a1 a2 a3 a4) a1 := by
  unfold State.recvChain
  split
  · extract_lets +onlyGivenNames x11
    extract_lets +onlyGivenNames x12
    clear_value x12
    split
    · split
      · refine Same.step (State.complete_same ..) rfl ?_
        unfold x11
        exact Same.setMatching rfl (Same.refl _ _)
      · extract_lets +onlyGivenNames x19
        clear_value x19
        exact Same.step (State.hostRead_same ..) rfl (Same.setMatching rfl (Same.refl _ _))
      · refine Same.ite ?_ ?_
        · refine Same.step (State.complete_same ..) rfl ?_
          unfold x11
          exact Same.setMatching rfl (Same.refl _ _)
        · refine Same.step (State.recvIn_same ..) rfl ?_
          unfold x11
          exact Same.setMatching rfl (Same.refl _ _)
    · refine Same.step (State.queueError_same ..) rfl ?_
      unfold x11
      exact Same.setMatching rfl (Same.refl _ _)
    · refine Same.step (State.queueError_same ..) rfl ?_
      unfold x11
      exact Same.setMatching rfl (Same.refl _ _)
  · exact Same.refl _ _

theorem State.setEntry_same (a1 : State) (a2 : OrderEntry) :
    Same [.matching] (State.setEntry a1 a2) a1 := by
  unfold State.setEntry
  exact Same.setMatching rfl (Same.refl _ _)

theorem State.passOrStall_same (a1 : State) (a2 : OrderEntry) (a3 : HeldMsg) (a4 : Access) :
    Same [.routing, .tiles, .sched, .ports, .wqs, .cqs, .remote, .matching, .trans, .insts, .hearth, .quench, .counters, .mem, .poison, .free, .out] (State.passOrStall a1 a2 a3 a4) a1 := by
  unfold State.passOrStall
  extract_lets +onlyGivenNames x5
  clear_value x5
  extract_lets +onlyGivenNames x6
  clear_value x6
  refine Same.ite ?_ ?_
  · split
    · refine Same.ite ?_ ?_
      · exact Same.step (State.setEntry_same ..) rfl (Same.refl _ _)
      · extract_lets +onlyGivenNames x10
        clear_value x10
        extract_lets +onlyGivenNames x11
        have h11 : Same [.routing, .tiles, .sched, .ports, .wqs, .cqs, .remote, .matching, .trans, .insts, .hearth, .quench, .counters, .mem, .poison, .free, .out] x11 a1 := by
          unfold x11
          exact Same.setMatching rfl (Same.refl _ _)
        clear_value x11
        exact Same.step (State.setEntry_same ..) rfl (by assumption)
    · exact Same.refl _ _
  · exact Same.step (State.passPackets_same ..) rfl (Same.refl _ _)

theorem State.applyCancel_same (a1 : State) (a2 : Nat) (a3 : Fetched) :
    Same [.routing, .tiles, .sched, .ports, .wqs, .cqs, .matching, .trans, .insts, .hearth, .quench, .counters, .mem, .poison, .free, .out] (State.applyCancel a1 a2 a3) a1 := by
  unfold State.applyCancel
  split
  · exact Same.refl _ _
  · extract_lets +onlyGivenNames x7
    clear_value x7
    extract_lets +onlyGivenNames x8
    extract_lets +onlyGivenNames x9
    clear_value x9
    extract_lets +onlyGivenNames x10
    clear_value x10
    split
    · unfold x8
      exact Same.step (State.complete_same ..) rfl (Same.refl _ _)
    · refine Same.ite ?_ ?_
      · unfold x8
        exact Same.step (State.complete_same ..) rfl (Same.refl _ _)
      · split
        · unfold x8
          exact Same.step (State.complete_same ..) rfl (Same.refl _ _)
        · split
          · unfold x8
            exact Same.step (State.complete_same ..) rfl (Same.refl _ _)
          · extract_lets +onlyGivenNames x21
            have h21 : Same [.routing, .tiles, .sched, .ports, .wqs, .cqs, .matching, .trans, .insts, .hearth, .quench, .counters, .mem, .poison, .free, .out] x21 a1 := by
              unfold x21
              exact Same.step (State.modCtx_same ..) rfl (Same.step (State.unpost_same ..) rfl (Same.refl _ _))
            clear_value x21
            unfold x8
            exact Same.step (State.complete_same ..) rfl (Same.step (State.complete_same ..) rfl (by assumption))

theorem State.applyInput_same (a1 : State) (a2 : Nat) (a3 : CtxInput) :
    Same [.routing, .tiles, .sched, .ports, .wqs, .cqs, .remote, .matching, .trans, .insts, .hearth, .quench, .counters, .mem, .poison, .free, .out] (State.applyInput a1 a2 a3) a1 := by
  unfold State.applyInput
  split
  · split
    · exact Same.step (State.passOrStall_same ..) rfl (Same.refl _ _)
    · exact Same.step (State.applyPackets_same ..) rfl (Same.refl _ _)
  · exact Same.step (State.applyRecv_same ..) rfl (Same.refl _ _)
  · exact Same.step (State.applyCancel_same ..) rfl (Same.refl _ _)

theorem State.closeCtx_same (a1 : State) (a2 : Nat) (a3 : Bool) :
    Same [.routing, .tiles, .sched, .ports, .wqs, .cqs, .remote, .matching, .striker, .trans, .insts, .hearth, .quench, .counters, .mem, .poison, .free, .out] (State.closeCtx a1 a2 a3) a1 := by
  unfold State.closeCtx
  split
  · exact Same.refl _ _
  · extract_lets +onlyGivenNames x7
    have h7 : Same [.routing, .tiles, .sched, .ports, .wqs, .cqs, .remote, .matching, .striker, .trans, .insts, .hearth, .quench, .counters, .mem, .poison, .free, .out] x7 a1 := by
      unfold x7
      exact Same.step (State.modCell_same ..) rfl (Same.refl _ _)
    clear_value x7
    extract_lets +onlyGivenNames x9
    have h9 : Same [.routing, .tiles, .sched, .ports, .wqs, .cqs, .remote, .matching, .striker, .trans, .insts, .hearth, .quench, .counters, .mem, .poison, .free, .out] x9 a1 := by
      unfold x9
      exact Same.step (State.refill_same ..) rfl (Same.step (State.modCtx_same ..) rfl (by assumption))
    clear_value x9
    extract_lets +onlyGivenNames x11
    have h11 : Same [.routing, .tiles, .sched, .ports, .wqs, .cqs, .remote, .matching, .striker, .trans, .insts, .hearth, .quench, .counters, .mem, .poison, .free, .out] x11 a1 := by
      unfold x11
      refine Same.ite ?_ ?_
      · refine Same.foldl ?_ _ ?_
        · intro y12
          intro y13
          exact Same.step (State.complete_same ..) rfl (Same.refl _ _)
        · assumption
      · assumption
    clear_value x11
    extract_lets +onlyGivenNames x13
    clear_value x13
    extract_lets +onlyGivenNames x14
    clear_value x14
    extract_lets +onlyGivenNames x15
    have h15 : Same [.routing, .tiles, .sched, .ports, .wqs, .cqs, .remote, .matching, .striker, .trans, .insts, .hearth, .quench, .counters, .mem, .poison, .free, .out] x15 a1 := by
      unfold x15
      exact Same.setMatching rfl (by assumption)
    clear_value x15
    extract_lets +onlyGivenNames x17
    have h17 : Same [.routing, .tiles, .sched, .ports, .wqs, .cqs, .remote, .matching, .striker, .trans, .insts, .hearth, .quench, .counters, .mem, .poison, .free, .out] x17 a1 := by
      unfold x17
      refine Same.foldl ?_ _ ?_
      · intro y18
        intro y19
        split
        · exact Same.step (State.finalResp_same ..) rfl (Same.refl _ _)
        · exact Same.refl _ _
      · assumption
    clear_value x17
    extract_lets +onlyGivenNames x19
    have h19 : Same [.routing, .tiles, .sched, .ports, .wqs, .cqs, .remote, .matching, .striker, .trans, .insts, .hearth, .quench, .counters, .mem, .poison, .free, .out] x19 a1 := by
      unfold x19
      refine Same.ite ?_ ?_
      · refine Same.foldl ?_ _ ?_
        · intro y20
          intro y21
          exact Same.step (State.applyInput_same ..) rfl (Same.refl _ _)
        · assumption
      · assumption
    clear_value x19
    split
    · refine Same.step (State.unfill_same ..) rfl (Same.step (State.letIn_same ..) rfl ?_)
      refine Same.ite ?_ ?_
      · exact Same.setMatching rfl (by assumption)
      · assumption
    · assumption

theorem State.evictEntry_same (a1 : State) :
    Same [.matching] (State.evictEntry a1) a1 := by
  unfold State.evictEntry
  refine Same.ite ?_ ?_
  · exact Same.refl _ _
  · split
    · exact Same.setMatching rfl (Same.refl _ _)
    · exact Same.refl _ _

theorem State.release__same (a1 : State) (a2 : StreamKey) (a3 : HeldMsg) (a4 : Access) (a5 : Nat) :
    Same [.routing, .tiles, .sched, .ports, .wqs, .cqs, .remote, .matching, .trans, .insts, .hearth, .quench, .counters, .mem, .poison, .free, .out] (State.release_ a1 a2 a3 a4 a5) a1 := by
  induction a5 generalizing a1 a3 with
  | zero => exact Same.refl _ _
  | succ n ih =>
    unfold State.release_
    split
    · exact Same.refl _ _
    · extract_lets +onlyGivenNames x10
      clear_value x10
      extract_lets +onlyGivenNames x11
      have h11 : Same [.routing, .tiles, .sched, .ports, .wqs, .cqs, .remote, .matching, .trans, .insts, .hearth, .quench, .counters, .mem, .poison, .free, .out] x11 a1 := by
        unfold x11
        exact Same.step (State.passOrStall_same ..) rfl (Same.step (State.count_same ..) rfl (Same.step (State.setEntry_same ..) rfl (Same.refl _ _)))
      clear_value x11
      split
      · assumption
      · split
        · exact Same.step (ih ..) rfl (by assumption)
        · assumption

theorem State.query_same (a1 : State) (a2 : StreamKey) (a3 : BitVec 32) :
    Same [.routing, .tiles, .sched, .remote, .quench, .counters] (State.query a1 a2 a3) a1 := by
  unfold State.query
  exact Same.step (State.sendResponse_same ..) rfl (Same.refl _ _)

theorem State.order_same (a1 : State) (a2 : Packet) (a3 : Access) :
    Same [.routing, .tiles, .sched, .ports, .wqs, .cqs, .remote, .matching, .trans, .insts, .hearth, .quench, .counters, .mem, .poison, .free, .out] (State.order a1 a2 a3) a1 := by
  unfold State.order
  extract_lets +onlyGivenNames x4
  clear_value x4
  extract_lets +onlyGivenNames x5
  clear_value x5
  extract_lets +onlyGivenNames x6
  clear_value x6
  extract_lets +onlyGivenNames x7
  clear_value x7
  extract_lets +onlyGivenNames x8
  clear_value x8
  split
  · split
    · extract_lets +onlyGivenNames x15
      clear_value x15
      exact Same.ite (Same.step (State.release__same ..) rfl (Same.refl _ _)) (Same.step (State.setEntry_same ..) rfl (Same.refl _ _))
    · refine Same.ite ?_ ?_
      · exact Same.step (State.passPackets_same ..) rfl (Same.refl _ _)
      · refine Same.ite ?_ ?_
        · exact Same.step (State.release__same ..) rfl (Same.refl _ _)
        · exact Same.step (State.setEntry_same ..) rfl (Same.step (State.count_same ..) rfl (Same.refl _ _))
  · extract_lets +onlyGivenNames x11
    have h11 : Same [.routing, .tiles, .sched, .ports, .wqs, .cqs, .remote, .matching, .trans, .insts, .hearth, .quench, .counters, .mem, .poison, .free, .out] x11 a1 := by
      unfold x11
      exact Same.step (State.evictEntry_same ..) rfl (Same.refl _ _)
    clear_value x11
    refine Same.ite ?_ ?_
    · exact Same.step (State.release__same ..) rfl (Same.step (State.setEntry_same ..) rfl (by assumption))
    · exact Same.step (State.query_same ..) rfl (Same.step (State.setEntry_same ..) rfl (Same.step (State.count_same ..) rfl (by assumption)))

theorem State.msgIn_same (a1 : State) (a2 : Packet) (a3 : Access) :
    Same [.routing, .tiles, .sched, .ports, .wqs, .cqs, .remote, .matching, .trans, .insts, .hearth, .quench, .counters, .mem, .poison, .free, .out] (State.msgIn a1 a2 a3) a1 := by
  unfold State.msgIn
  split
  · extract_lets +onlyGivenNames x7
    have h7 : Same [.routing, .tiles, .sched, .ports, .wqs, .cqs, .remote, .matching, .trans, .insts, .hearth, .quench, .counters, .mem, .poison, .free, .out] x7 a1 := by
      unfold x7
      exact Same.step (State.countDup_same ..) rfl (Same.refl _ _)
    clear_value x7
    refine Same.ite ?_ ?_
    · exact Same.step (State.sendStored_same ..) rfl (by assumption)
    · assumption
  · split
    · exact Same.step (State.refuseOp_same ..) rfl (Same.refl _ _)
    · refine Same.ite ?_ ?_
      · extract_lets +onlyGivenNames x8
        clear_value x8
        extract_lets +onlyGivenNames x9
        have h9 : Same [.routing, .tiles, .sched, .ports, .wqs, .cqs, .remote, .matching, .trans, .insts, .hearth, .quench, .counters, .mem, .poison, .free, .out] x9 a1 := by
          unfold x9
          exact Same.step (State.raise_same ..) rfl (Same.refl _ _)
        clear_value x9
        refine Same.ite ?_ ?_
        · exact Same.step (State.refuseOp_same ..) rfl (Same.setMatching rfl (by assumption))
        · exact Same.step (State.sendResponse_same ..) rfl (Same.setMatching rfl (by assumption))
      · exact Same.step (State.order_same ..) rfl (Same.setMatching rfl (Same.refl _ _))

theorem State.msgRow_same (a1 : State) (a2 : Packet) (a3 : BitVec 5) (a4 : Access) :
    Same [.routing, .tiles, .sched, .ports, .wqs, .cqs, .remote, .matching, .trans, .insts, .hearth, .quench, .counters, .mem, .poison, .free, .out] (State.msgRow a1 a2 a3 a4) a1 := by
  unfold State.msgRow
  split
  · exact Same.refl _ _
  · refine Same.ite ?_ ?_
    · exact Same.refl _ _
    · exact Same.step (State.unfill_same ..) rfl (Same.step (State.msgIn_same ..) rfl (Same.step (State.takeEject_same ..) rfl (Same.refl _ _)))

theorem execMsgRts_same (a1 : Packet) (a2 : State) :
    SameNext [.routing, .tiles, .sched, .ports, .wqs, .cqs, .remote, .matching, .trans, .insts, .hearth, .quench, .counters, .mem, .poison, .free, .out] (execMsgRts a1 a2) a2 := by
  unfold execMsgRts
  exact SameNext.next (Same.step (State.msgRow_same ..) rfl (Same.refl _ _))

theorem State.endRdv_same (a1 : State) (a2 : SrcOp) (a3 : BitVec 8) (a4 : Bool) :
    Same [.routing, .tiles, .sched, .ports, .wqs, .cqs, .remote, .matching, .trans, .insts, .hearth, .quench, .counters, .mem, .poison, .free, .out] (State.endRdv a1 a2 a3 a4) a1 := by
  unfold State.endRdv
  extract_lets +onlyGivenNames x5
  have h5 : Same [.routing, .tiles, .sched, .ports, .wqs, .cqs, .remote, .matching, .trans, .insts, .hearth, .quench, .counters, .mem, .poison, .free, .out] x5 a1 := by
    unfold x5
    exact Same.step (State.dropSrc_same ..) rfl (Same.refl _ _)
  clear_value x5
  split
  · assumption
  · split
    · assumption
    · refine Same.ite ?_ ?_
      · exact Same.step (State.countStale_same ..) rfl (by assumption)
      · extract_lets +onlyGivenNames x13
        clear_value x13
        extract_lets +onlyGivenNames x14
        clear_value x14
        extract_lets +onlyGivenNames x15
        refine Same.ite ?_ ?_
        · extract_lets +onlyGivenNames x16
          clear_value x16
          exact Same.step (State.checkRecv_same ..) rfl (Same.step (State.modCtx_same ..) rfl (by assumption))
        · exact Same.step (State.endRecv_same ..) rfl (by assumption)

theorem execOrderQueryTimer_same (a1 : StreamKey) (a2 : BitVec 32) (a3 : Ticks) (a4 : State) :
    SameNext [.routing, .tiles, .sched, .time, .remote, .matching, .quench, .counters] (execOrderQueryTimer a1 a2 a3 a4) a4 := by
  unfold execOrderQueryTimer
  extract_lets +onlyGivenNames x5
  have h5 : Same [.routing, .tiles, .sched, .time, .remote, .matching, .quench, .counters] x5 a4 := by
    unfold x5
    exact Same.step (State.advance_same ..) rfl (Same.refl _ _)
  clear_value x5
  split
  · exact SameNext.next (by assumption)
  · split
    · exact SameNext.next (by assumption)
    · refine SameNext.ite ?_ ?_
      · exact SameNext.next (by assumption)
      · extract_lets +onlyGivenNames x13
        clear_value x13
        extract_lets +onlyGivenNames x14
        have h14 : Same [.routing, .tiles, .sched, .time, .remote, .matching, .quench, .counters] x14 a4 := by
          unfold x14
          exact Same.setMatching rfl (by assumption)
        clear_value x14
        refine SameNext.next ?_
        split
        · exact Same.step (State.query_same ..) rfl (by assumption)
        · assumption

theorem execMsgSend_same (a1 : Nat) (a2 : State) :
    SameNext [.routing, .tiles, .sched, .ports, .wqs, .cqs, .remote, .matching, .trans, .insts, .draw, .hearth, .quench, .counters, .mem, .poison, .free, .out] (execMsgSend a1 a2) a2 := by
  unfold execMsgSend
  split
  · exact SameNext.next (Same.refl _ _)
  · extract_lets +onlyGivenNames x7
    clear_value x7
    extract_lets +onlyGivenNames x8
    have h8 : Same [.routing, .tiles, .sched, .ports, .wqs, .cqs, .remote, .matching, .trans, .insts, .draw, .hearth, .quench, .counters, .mem, .poison, .free, .out] x8 a2 := by
      unfold x8
      exact Same.step (State.started_same ..) rfl (Same.refl _ _)
    clear_value x8
    extract_lets +onlyGivenNames x10
    clear_value x10
    extract_lets +onlyGivenNames x11
    clear_value x11
    refine SameNext.ite ?_ ?_
    · exact SameNext.next (Same.step (State.refuse_same ..) rfl (by assumption))
    · refine SameNext.ite ?_ ?_
      · exact SameNext.next (Same.step (State.refuse_same ..) rfl (by assumption))
      · extract_lets +onlyGivenNames x12
        clear_value x12
        extract_lets +onlyGivenNames x13
        clear_value x13
        extract_lets +onlyGivenNames x14
        clear_value x14
        split
        extract_lets +onlyGivenNames x20
        clear_value x20
        extract_lets +onlyGivenNames x21
        clear_value x21
        extract_lets +onlyGivenNames x22
        clear_value x22
        extract_lets +onlyGivenNames x23
        clear_value x23
        extract_lets +onlyGivenNames x24
        clear_value x24
        extract_lets +onlyGivenNames x25
        clear_value x25
        extract_lets +onlyGivenNames x26
        clear_value x26
        extract_lets +onlyGivenNames x27
        have h27 : Same [.routing, .tiles, .sched, .ports, .wqs, .cqs, .remote, .matching, .trans, .insts, .draw, .hearth, .quench, .counters, .mem, .poison, .free, .out] x27 a2 := by
          unfold x27
          exact Same.setMatching rfl (Same.ofThd (by assumption) (Same.step (State.srcOf_same ..) rfl (by assumption)))
        clear_value x27
        extract_lets +onlyGivenNames x29
        clear_value x29
        exact SameNext.next (Same.step (State.beginOp_same ..) rfl (by assumption))

theorem execMsgEager_same (a1 : Packet) (a2 : Access) (a3 : State) :
    SameNext [.routing, .tiles, .sched, .ports, .wqs, .cqs, .remote, .matching, .trans, .insts, .hearth, .quench, .counters, .mem, .poison, .free, .out] (execMsgEager a1 a2 a3) a3 := by
  unfold execMsgEager
  exact SameNext.next (Same.step (State.msgRow_same ..) rfl (Same.refl _ _))

theorem execMsgRecv_same (a1 : Nat) (a2 : Access) (a3 : State) :
    SameNext [.routing, .tiles, .sched, .ports, .wqs, .cqs, .remote, .matching, .trans, .insts, .draw, .hearth, .quench, .counters, .mem, .poison, .free, .out] (execMsgRecv a1 a2 a3) a3 := by
  unfold execMsgRecv
  split
  · exact SameNext.next (Same.refl _ _)
  · extract_lets +onlyGivenNames x8
    clear_value x8
    extract_lets +onlyGivenNames x9
    clear_value x9
    refine SameNext.ite ?_ ?_
    · exact SameNext.next (Same.refl _ _)
    · extract_lets +onlyGivenNames x10
      have h10 : Same [.routing, .tiles, .sched, .ports, .wqs, .cqs, .remote, .matching, .trans, .insts, .draw, .hearth, .quench, .counters, .mem, .poison, .free, .out] x10 a3 := by
        unfold x10
        exact Same.step (State.started_same ..) rfl (Same.refl _ _)
      clear_value x10
      split
      · exact SameNext.next (Same.step (State.refuse_same ..) rfl (by assumption))
      · refine SameNext.ite ?_ ?_
        · extract_lets +onlyGivenNames x14
          clear_value x14
          exact SameNext.next (Same.step (State.hostRead_same ..) rfl (Same.setMatching rfl (by assumption)))
        · exact SameNext.next (Same.step (State.recvIn_same ..) rfl (by assumption))

theorem execMsgCancel_same (a1 : Nat) (a2 : State) :
    SameNext [.routing, .tiles, .sched, .ports, .wqs, .cqs, .remote, .matching, .trans, .insts, .draw, .hearth, .quench, .counters, .mem, .poison, .free, .out] (execMsgCancel a1 a2) a2 := by
  unfold execMsgCancel
  split
  · exact SameNext.next (Same.refl _ _)
  · extract_lets +onlyGivenNames x7
    clear_value x7
    extract_lets +onlyGivenNames x8
    clear_value x8
    extract_lets +onlyGivenNames x9
    clear_value x9
    extract_lets +onlyGivenNames x10
    clear_value x10
    refine SameNext.ite ?_ ?_
    · exact SameNext.next (Same.refl _ _)
    · extract_lets +onlyGivenNames x11
      have h11 : Same [.routing, .tiles, .sched, .ports, .wqs, .cqs, .remote, .matching, .trans,   .insts, .draw, .hearth, .quench, .counters, .mem, .poison, .free, .out] x11 a2 := by
        unfold x11
        exact Same.step (State.started_same ..) rfl (Same.refl _ _)
      clear_value x11
      refine SameNext.ite ?_ ?_
      · exact SameNext.next (Same.step (State.refuse_same ..) rfl (by assumption))
      · refine SameNext.ite ?_ ?_
        · exact SameNext.next (Same.step (State.refuse_same ..) rfl (by assumption))
        · refine SameNext.ite ?_ ?_
          · exact SameNext.next (Same.step (State.modCtx_same ..) rfl (by assumption))
          · exact SameNext.next (Same.step (State.applyCancel_same ..) rfl (by assumption))

theorem State.replayHold_same (a1 : State) (a2 : Nat) :
    Same [.routing, .tiles, .sched, .ports, .wqs, .cqs, .remote, .matching, .trans, .insts, .hearth, .quench, .counters, .mem, .poison, .free, .out] (State.replayHold a1 a2) a1 := by
  unfold State.replayHold
  split
  · exact Same.refl _ _
  · refine Same.foldl ?_ _ ?_
    · intro y6
      intro y7
      exact Same.step (State.applyInput_same ..) rfl (Same.refl _ _)
    · exact Same.step (State.modCtx_same ..) rfl (Same.refl _ _)

theorem execOrderAbandon_same (a1 : StreamKey) (a2 : BitVec 32) (a3 : Ticks) (a4 : State) :
    SameNext [.routing, .tiles, .sched, .time, .matching, .quench, .counters] (execOrderAbandon a1 a2 a3 a4) a4 := by
  unfold execOrderAbandon
  extract_lets +onlyGivenNames x5
  have h5 : Same [.routing, .tiles, .sched, .time, .matching, .quench, .counters] x5 a4 := by
    unfold x5
    exact Same.step (State.advance_same ..) rfl (Same.refl _ _)
  clear_value x5
  split
  · exact SameNext.next (by assumption)
  · split
    · exact SameNext.next (by assumption)
    · refine SameNext.ite ?_ ?_
      · exact SameNext.next (by assumption)
      · exact SameNext.next (Same.step (State.unfill_same ..) rfl (Same.step (State.raise_same ..) rfl (Same.setMatching rfl (by assumption))))

theorem execCtxDestroy_same (a1 : Call) (a2 : Option Nat) (a3 : Nat) (a4 : State) :
    SameNext [.routing, .tiles, .sched, .ports, .wqs, .cqs, .remote, .matching, .striker, .trans, .insts, .hearth, .quench, .counters, .mem, .poison, .free, .out] (execCtxDestroy a1 a2 a3 a4) a4 := by
  unfold execCtxDestroy
  refine fleso_same rfl ?_
  intro y5
  intro y6
  split
  · dsimp only
    exact Same.refl _ _
  · refine Same.iteFst ?_ ?_
    · dsimp only
      exact Same.refl _ _
    · split
      · dsimp only
        exact Same.refl _ _
      · refine Same.iteFst ?_ ?_
        · dsimp only
          exact Same.refl _ _
        · dsimp only
          exact Same.step (State.closeCtx_same ..) rfl (Same.refl _ _)

theorem execMatchCfg_same (a1 : Call) (a2 : Word) (a3 : Option (Nat × Word)) (a4 : State) :
    SameNext [.routing, .tiles, .sched, .ports, .matching, .hearth, .quench, .counters, .out] (execMatchCfg a1 a2 a3 a4) a4 := by
  unfold execMatchCfg
  refine fleso_same rfl ?_
  intro y5
  intro y6
  extract_lets +onlyGivenNames x7
  clear_value x7
  extract_lets +onlyGivenNames x8
  clear_value x8
  extract_lets +onlyGivenNames x9
  clear_value x9
  extract_lets +onlyGivenNames x10
  clear_value x10
  split
  · dsimp only
    exact Same.refl _ _
  · extract_lets +onlyGivenNames x13
    clear_value x13
    refine Same.iteFst ?_ ?_
    · dsimp only
      exact Same.refl _ _
    · dsimp only
      exact Same.setMatching rfl (Same.refl _ _)

theorem execCtxCreate_same (a1 : Call) (a2 : Option Nat) (a3 : Nat) (a4 : Nat) (a5 : Nat) (a6 : Option Nat) (a7 : Word) (a8 : Word) (a9 : Nat) (a10 : Nat) (a11 : Nat) (a12 : State) :
    SameNext [.routing, .tiles, .sched, .ports, .matching, .striker, .hearth, .quench, .counters, .mem, .poison, .out] (execCtxCreate a1 a2 a3 a4 a5 a6 a7 a8 a9 a10 a11 a12) a12 := by
  unfold execCtxCreate
  refine fleso_same rfl ?_
  intro y13
  intro y14
  split
  · dsimp only
    exact Same.refl _ _
  · refine Same.iteFst ?_ ?_
    · dsimp only
      exact Same.refl _ _
    · refine Same.iteFst ?_ ?_
      · dsimp only
        exact Same.refl _ _
      · refine Same.iteFst ?_ ?_
        · dsimp only
          exact Same.refl _ _
        · refine Same.iteFst ?_ ?_
          · dsimp only
            exact Same.refl _ _
          · refine Same.iteFst ?_ ?_
            · dsimp only
              exact Same.refl _ _
            · refine Same.iteFst ?_ ?_
              · dsimp only
                exact Same.refl _ _
              · extract_lets +onlyGivenNames x19
                clear_value x19
                extract_lets +onlyGivenNames x20
                clear_value x20
                refine Same.iteFst ?_ ?_
                · dsimp only
                  exact Same.refl _ _
                · refine Same.iteFst ?_ ?_
                  · dsimp only
                    exact Same.refl _ _
                  · refine Same.iteFst ?_ ?_
                    · dsimp only
                      exact Same.refl _ _
                    · refine Same.iteFst ?_ ?_
                      · dsimp only
                        exact Same.refl _ _
                      · refine Same.iteFst ?_ ?_
                        · dsimp only
                          exact Same.refl _ _
                        · split
                          extract_lets +onlyGivenNames x25
                          clear_value x25
                          extract_lets +onlyGivenNames x26
                          clear_value x26
                          extract_lets +onlyGivenNames x27
                          have h27 : Same [.routing, .tiles, .sched, .ports, .matching, .striker, .hearth, .quench, .counters,   .mem, .poison, .out] x27 y14 := by
                            unfold x27
                            exact Same.setMatching rfl (Same.refl _ _)
                          clear_value x27
                          dsimp only
                          exact Same.step (State.logPlace_same ..) rfl (Same.step (State.modCell_same ..) rfl (by assumption))

end Sys2Proof.Machine
end

