-- ==== Sys2Proof/Laws/FrameResponse.lean ====
section
/-! SUPPORT. Frames of the operations and commands of Sys2Proof/Machine/Response.lean: each changes no part of the module but those it
names, and keeps module memory canonical. -/

namespace Sys2Proof.Machine

open Sys2Proof

theorem State.resumeReads_same (a1 : State) :
    Same [.routing, .tiles, .sched, .ports, .remote, .trans, .hearth, .quench, .counters, .free, .out] (State.resumeReads a1) a1 := by
  unfold State.resumeReads
  extract_lets +onlyGivenNames x2
  have h2 : Same [.routing, .tiles, .sched, .ports, .remote, .trans, .hearth, .quench, .counters, .free, .out] x2 a1 := by
    unfold x2
    refine Same.foldl ?_ _ ?_
    · intro y3
      intro y4
      split
      · refine Same.ite ?_ ?_
        · split
          exact Same.step (State.setOpen_same ..) rfl (Same.ofFst (by assumption) (Same.step (State.rereadLocal_same ..) rfl (Same.refl _ _)))
        · exact Same.refl _ _
      · exact Same.refl _ _
    · exact Same.refl _ _
  clear_value x2
  refine Same.foldl ?_ _ ?_
  · intro y4
    intro y5
    split
    · refine Same.ite ?_ ?_
      · split
        exact Same.step (State.setTomb_same ..) rfl (Same.ofFst (by assumption) (Same.step (State.rereadLocal_same ..) rfl (Same.refl _ _)))
      · exact Same.refl _ _
    · exact Same.refl _ _
  · assumption

theorem State.respondIn_same (a1 : State) (a2 : Endpoint) (a3 : BitVec 32) (a4 : Nat) (a5 : ReadResult) :
    Same [.routing, .tiles, .sched, .ports, .remote, .trans, .insts, .hearth, .quench, .counters, .free, .out] (State.respondIn a1 a2 a3 a4 a5) a1 := by
  unfold State.respondIn
  split
  · split
    · exact Same.refl _ _
    · refine Same.ite ?_ ?_
      · exact Same.step (State.countStale_same ..) rfl (Same.refl _ _)
      · extract_lets +onlyGivenNames x12
        clear_value x12
        extract_lets +onlyGivenNames x13
        clear_value x13
        split
        · exact Same.step (State.setOpen_same ..) rfl (Same.refl _ _)
        · exact Same.step (State.setOpen_same ..) rfl (Same.refl _ _)
        · extract_lets +onlyGivenNames x16
          clear_value x16
          extract_lets +onlyGivenNames x17
          clear_value x17
          extract_lets +onlyGivenNames x18
          clear_value x18
          extract_lets +onlyGivenNames x19
          have h19 : Same [.routing, .tiles, .sched, .ports, .remote, .trans, .insts, .hearth, .quench, .counters, .free, .out] x19 a1 := by
            unfold x19
            exact Same.step (State.setOpen_same ..) rfl (Same.refl _ _)
          clear_value x19
          extract_lets +onlyGivenNames x21
          have h21 : Same [.routing, .tiles, .sched, .ports, .remote, .trans, .insts, .hearth, .quench, .counters, .free, .out] x21 a1 := by
            unfold x21
            exact Same.step (State.sendGetResp_same ..) rfl (by assumption)
          clear_value x21
          refine Same.ite ?_ ?_
          · exact Same.step (State.readForGet_same ..) rfl (by assumption)
          · assumption
  · split
    · exact Same.refl _ _
    · split
      · refine Same.ite ?_ ?_
        · extract_lets +onlyGivenNames x16
          clear_value x16
          extract_lets +onlyGivenNames x17
          have h17 : Same [.routing, .tiles, .sched, .ports, .remote, .trans, .insts, .hearth, .quench, .counters, .free, .out] x17 a1 := by
            unfold x17
            exact Same.step (State.sendGetResp_same ..) rfl (Same.step (State.setTomb_same ..) rfl (Same.refl _ _))
          clear_value x17
          split
          · refine Same.ite ?_ ?_
            · exact Same.step (State.readForGet_same ..) rfl (by assumption)
            · assumption
          · assumption
        · exact Same.refl _ _
      · exact Same.refl _ _

theorem State.payloadIn_same (a1 : State) (a2 : SrcOp) (a3 : Nat) (a4 : ReadResult) :
    Same [.routing, .tiles, .sched, .ports, .wqs, .cqs, .remote, .trans, .insts, .draw, .hearth, .quench, .counters, .mem, .poison, .free, .out] (State.payloadIn a1 a2 a3 a4) a1 := by
  unfold State.payloadIn
  refine Same.ite ?_ ?_
  · exact Same.step (State.countStale_same ..) rfl (Same.refl _ _)
  · extract_lets +onlyGivenNames x5
    clear_value x5
    extract_lets +onlyGivenNames x6
    clear_value x6
    split
    · exact Same.step (State.finishSrc_same ..) rfl (Same.step (State.setSrc_same ..) rfl (Same.refl _ _))
    · exact Same.step (State.finishSrc_same ..) rfl (Same.step (State.setSrc_same ..) rfl (Same.refl _ _))
    · extract_lets +onlyGivenNames x9
      clear_value x9
      extract_lets +onlyGivenNames x10
      clear_value x10
      extract_lets +onlyGivenNames x11
      clear_value x11
      extract_lets +onlyGivenNames x12
      clear_value x12
      extract_lets +onlyGivenNames x13
      clear_value x13
      extract_lets +onlyGivenNames x14
      have h14 : Same [.routing, .tiles, .sched, .ports, .wqs, .cqs, .remote, .trans, .insts, .draw, .hearth, .quench, .counters, .mem, .poison, .free, .out] x14 a1 := by
        unfold x14
        exact Same.step (State.modTag_same ..) rfl (Same.step (State.setSrc_same ..) rfl (Same.refl _ _))
      clear_value x14
      extract_lets +onlyGivenNames x16
      have h16 : Same [.routing, .tiles, .sched, .ports, .wqs, .cqs, .remote, .trans, .insts, .draw, .hearth, .quench, .counters, .mem, .poison, .free, .out] x16 a1 := by
        unfold x16
        exact Same.step (State.inject_same ..) rfl (by assumption)
      clear_value x16
      refine Same.ite ?_ ?_
      · split
        · exact Same.step (State.sendPacket_same ..) rfl (by assumption)
        · assumption
      · assumption

theorem State.tableLost_same (a1 : State) (a2 : SrcOp) (a3 : BitVec 4) :
    Same [.routing, .tiles, .sched, .ports, .wqs, .cqs, .remote, .trans, .insts, .hearth, .quench, .counters, .free, .out] (State.tableLost a1 a2 a3) a1 := by
  unfold State.tableLost
  extract_lets +onlyGivenNames x4
  have h4 : Same [.routing, .tiles, .sched, .ports, .wqs, .cqs, .remote, .trans, .insts, .hearth, .quench, .counters, .free, .out] x4 a1 := by
    unfold x4
    exact Same.step (State.queueError_same ..) rfl (Same.step (State.dropSrc_same ..) rfl (Same.refl _ _))
  clear_value x4
  refine Same.ite ?_ ?_
  · exact Same.step (State.releaseSends_same ..) rfl (by assumption)
  · assumption

theorem execPayloadReadReturn_same (a1 : Nat) (a2 : D2hTag) (a3 : ReadResult) (a4 : State) :
    SameNext [.routing, .tiles, .sched, .ports, .wqs, .cqs, .remote, .matching, .trans, .insts, .draw, .hearth, .quench, .counters, .mem, .poison, .free, .out] (execPayloadReadReturn a1 a2 a3 a4) a4 := by
  unfold execPayloadReadReturn
  refine SameNext.ite ?_ ?_
  · exact SameNext.next (Same.refl _ _)
  · extract_lets +onlyGivenNames x5
    have h5 : Same [.routing, .tiles, .sched, .ports, .wqs, .cqs, .remote, .matching, .trans, .insts, .draw, .hearth, .quench, .counters, .mem, .poison, .free, .out] x5 a4 := by
      unfold x5
      exact Same.step (State.noteRead_same ..) rfl (Same.refl _ _)
    clear_value x5
    split
    · split
      · exact SameNext.next (Same.step (State.dropD2h_same ..) rfl (by assumption))
      · extract_lets +onlyGivenNames x12
        have h12 : Same [.routing, .tiles, .sched, .ports, .wqs, .cqs, .remote, .matching, .trans, .insts, .draw, .hearth, .quench, .counters, .mem, .poison, .free, .out] x12 a4 := by
          unfold x12
          exact Same.step (State.dropD2h_same ..) rfl (by assumption)
        clear_value x12
        refine SameNext.ite ?_ ?_
        · exact SameNext.next (Same.step (State.countStale_same ..) rfl (by assumption))
        · split
          · exact SameNext.next (Same.step (State.chainRead_same ..) rfl (by assumption))
          · exact SameNext.next (Same.step (State.tableLost_same ..) rfl (by assumption))
          · exact SameNext.next (Same.step (State.tableLost_same ..) rfl (by assumption))
    · exact SameNext.next (Same.step (State.recvChain_same ..) rfl (Same.step (State.dropD2h_same ..) rfl (by assumption)))
    · split
      · exact SameNext.next (Same.step (State.dropD2h_same ..) rfl (by assumption))
      · exact SameNext.next (Same.step (State.payloadIn_same ..) rfl (Same.step (State.dropD2h_same ..) rfl (by assumption)))
    · exact SameNext.next (Same.step (State.respondIn_same ..) rfl (Same.step (State.dropD2h_same ..) rfl (by assumption)))
    · exact SameNext.next (Same.step (State.drawIn_same ..) rfl (Same.step (State.dropD2h_same ..) rfl (by assumption)))
    · exact SameNext.next (Same.step (State.storedIn_same ..) rfl (Same.step (State.dropD2h_same ..) rfl (by assumption)))
    · exact SameNext.next (by assumption)

theorem State.resendSrc_same (a1 : State) (a2 : SrcOp) (a3 : Nat) :
    Same [.routing, .tiles, .sched, .ports, .remote, .trans, .hearth, .quench, .counters, .free, .out] (State.resendSrc a1 a2 a3) a1 := by
  unfold State.resendSrc
  split
  · exact Same.step (State.sendPacket_same ..) rfl (Same.step (State.setSrc_same ..) rfl (Same.refl _ _))
  · exact Same.step (State.sendPacket_same ..) rfl (Same.step (State.setSrc_same ..) rfl (Same.refl _ _))

theorem State.resendAnswer_same (a1 : State) (a2 : Endpoint) (a3 : BitVec 32) (a4 : Nat) (a5 : Bool) :
    Same [.routing, .tiles, .sched, .ports, .remote, .trans, .hearth, .quench, .counters, .free, .out] (State.resendAnswer a1 a2 a3 a4 a5) a1 := by
  unfold State.resendAnswer
  split
  · split
    · refine Same.ite ?_ ?_
      · refine Same.ite ?_ ?_
        · split
          exact Same.step (State.setOpen_same ..) rfl (Same.ofFst (by assumption) (Same.step (State.rereadLocal_same ..) rfl (Same.refl _ _)))
        · exact Same.step (State.readForGet_same ..) rfl (Same.step (State.setOpen_same ..) rfl (Same.refl _ _))
      · exact Same.refl _ _
    · exact Same.refl _ _
  · split
    · refine Same.ite ?_ ?_
      · refine Same.ite ?_ ?_
        · split
          exact Same.step (State.setTomb_same ..) rfl (Same.ofFst (by assumption) (Same.step (State.rereadLocal_same ..) rfl (Same.refl _ _)))
        · exact Same.step (State.readForGet_same ..) rfl (Same.step (State.setTomb_same ..) rfl (Same.refl _ _))
      · exact Same.step (State.sendStored_same ..) rfl (Same.refl _ _)
    · exact Same.step (State.sendStored_same ..) rfl (Same.refl _ _)
  · exact Same.refl _ _

theorem State.acceptGet_same (a1 : State) (a2 : Packet) (a3 : Access) :
    Same [.routing, .tiles, .sched, .ports, .remote, .trans, .hearth, .quench, .counters, .free, .out] (State.acceptGet a1 a2 a3) a1 := by
  unfold State.acceptGet
  split
  · extract_lets +onlyGivenNames x7
    have h7 : Same [.routing, .tiles, .sched, .ports, .remote, .trans, .hearth, .quench, .counters, .free, .out] x7 a1 := by
      unfold x7
      exact Same.step (State.countDup_same ..) rfl (Same.refl _ _)
    clear_value x7
    refine Same.ite ?_ ?_
    · exact Same.step (State.sendStored_same ..) rfl (by assumption)
    · assumption
  · split
    · exact Same.step (State.refuseOp_same ..) rfl (Same.refl _ _)
    · extract_lets +onlyGivenNames x8
      clear_value x8
      extract_lets +onlyGivenNames x9
      clear_value x9
      extract_lets +onlyGivenNames x10
      clear_value x10
      extract_lets +onlyGivenNames x11
      clear_value x11
      refine Same.ite ?_ ?_
      · exact Same.step (State.countDup_same ..) rfl (Same.refl _ _)
      · refine Same.ite ?_ ?_
        · split
          · exact Same.step (State.refuseOp_same ..) rfl (Same.ofFst3 (by assumption) (Same.step (State.sealFails_same ..) rfl (Same.refl _ _)))
          · exact Same.step (State.setOpen_same ..) rfl (Same.ofFst3 (by assumption) (Same.step (State.sealFails_same ..) rfl (Same.refl _ _)))
        · extract_lets +onlyGivenNames x12
          clear_value x12
          extract_lets +onlyGivenNames x13
          clear_value x13
          split
          · exact Same.step (State.setOpen_same ..) rfl (Same.refl _ _)
          · extract_lets +onlyGivenNames x14
            have h14 : Same [.routing, .tiles, .sched, .ports, .remote, .trans, .hearth, .quench, .counters, .free, .out] x14 a1 := by
              unfold x14
              exact Same.step (State.setOpen_same ..) rfl (Same.refl _ _)
            clear_value x14
            extract_lets +onlyGivenNames x16
            clear_value x16
            extract_lets +onlyGivenNames x17
            have h17 : Same [.routing, .tiles, .sched, .ports, .remote, .trans, .hearth, .quench, .counters, .free, .out] x17 a1 := by
              unfold x17
              refine Same.ite ?_ ?_
              · exact Same.setRemote rfl (by assumption)
              · assumption
            clear_value x17
            refine Same.ite ?_ ?_
            · assumption
            · exact Same.step (State.serveGet_same ..) rfl (by assumption)

theorem execGetReq_same (a1 : Packet) (a2 : Access) (a3 : State) :
    SameNext [.routing, .tiles, .sched, .ports, .remote, .trans, .hearth, .quench, .counters, .free, .out] (execGetReq a1 a2 a3) a3 := by
  unfold execGetReq
  split
  · exact SameNext.next (Same.refl _ _)
  · refine SameNext.ite ?_ ?_
    · exact SameNext.next (Same.refl _ _)
    · extract_lets +onlyGivenNames x7
      clear_value x7
      refine SameNext.next ?_
      refine Same.ite ?_ ?_
      · exact Same.step (State.unfill_same ..) rfl (Same.step (State.acceptGet_same ..) rfl (Same.step (State.takeEject_same ..) rfl (Same.refl _ _)))
      · exact Same.step (State.snoopOut_same ..) rfl (Same.refl _ _)

theorem State.collResend_same (a1 : State) (a2 : Nat) (a3 : BitVec 16) (a4 : Packet) (a5 : ModId) :
    Same [.routing, .tiles, .sched, .remote, .coll, .quench, .counters] (State.collResend a1 a2 a3 a4 a5) a1 := by
  unfold State.collResend
  extract_lets +onlyGivenNames x6
  have h6 : Same [.routing, .tiles, .sched, .remote, .coll, .quench, .counters] x6 a1 := by
    unfold x6
    exact Same.step (State.modGroup_same ..) rfl (Same.refl _ _)
  clear_value x6
  refine Same.ite ?_ ?_
  · exact Same.step (State.inject_same ..) rfl (by assumption)
  · extract_lets +onlyGivenNames x8
    clear_value x8
    split
    extract_lets +onlyGivenNames x13
    clear_value x13
    exact Same.step (State.inject_same ..) rfl (Same.step (State.modGroup_same ..) rfl (Same.ofSnd (by assumption) (Same.step (State.nextE2e_same ..) rfl (by assumption))))

theorem State.noteAnswer_same (a1 : State) (a2 : SrcOp) :
    Same [.counters] (State.noteAnswer a1 a2) a1 := by
  unfold State.noteAnswer
  exact Same.step (State.modTag_same ..) rfl (Same.refl _ _)

theorem execResponse_same (a1 : Packet) (a2 : State) :
    SameNext [.routing, .tiles, .sched, .ports, .wqs, .cqs, .remote, .matching, .coll, .trans, .insts, .draw, .hearth, .quench, .counters, .mem, .poison, .free, .out] (execResponse a1 a2) a2 := by
  unfold execResponse
  split
  · exact SameNext.next (Same.refl _ _)
  · refine SameNext.ite ?_ ?_
    · exact SameNext.next (Same.refl _ _)
    · extract_lets +onlyGivenNames x6
      have h6 : Same [.routing, .tiles, .sched, .ports, .wqs, .cqs, .remote, .matching, .coll, .trans, .insts, .draw, .hearth, .quench, .counters, .mem, .poison, .free, .out] x6 a2 := by
        unfold x6
        exact Same.step (State.takeEject_same ..) rfl (Same.refl _ _)
      clear_value x6
      extract_lets +onlyGivenNames x8
      clear_value x8
      extract_lets +onlyGivenNames x9
      clear_value x9
      refine SameNext.ite ?_ ?_
      · exact SameNext.next (Same.step (State.sendFault_same ..) rfl (Same.step (State.raise_same ..) rfl (by assumption)))
      · refine SameNext.ite ?_ ?_
        · refine SameNext.next ?_
          refine Same.foldl ?_ _ ?_
          · intro y10
            intro y11
            exact Same.step (State.collResend_same ..) rfl (Same.refl _ _)
          · assumption
        · split
          · refine SameNext.next ?_
            refine Same.ite ?_ ?_
            · exact Same.step (State.resendAnswer_same ..) rfl (by assumption)
            · assumption
          · refine SameNext.ite ?_ ?_
            · exact SameNext.next (Same.step (State.countStale_same ..) rfl (by assumption))
            · refine SameNext.ite ?_ ?_
              · exact SameNext.next (Same.ite (Same.step (State.setSrc_same ..) rfl (by assumption)) (Same.step (State.resendSrc_same ..) rfl (by assumption)))
              · refine SameNext.ite ?_ ?_
                · exact SameNext.next (Same.ite (Same.step (State.setSrc_same ..) rfl (by assumption)) (Same.step (State.resendSrc_same ..) rfl (by assumption)))
                · refine SameNext.ite ?_ ?_
                  · exact SameNext.next (Same.step (State.setSrc_same ..) rfl (by assumption))
                  · refine SameNext.ite ?_ ?_
                    · exact SameNext.next (Same.step (State.endRdv_same ..) rfl (by assumption))
                    · exact SameNext.next (Same.step (State.finishSrc_same ..) rfl (Same.step (State.noteAnswer_same ..) rfl (by assumption)))

theorem execOpTimeout_same (a1 : Endpoint) (a2 : BitVec 32) (a3 : Ticks) (a4 : State) :
    SameNext [.routing, .tiles, .sched, .time, .ports, .wqs, .cqs, .remote, .matching, .trans, .insts, .draw, .hearth, .quench, .counters, .mem, .poison, .free, .out] (execOpTimeout a1 a2 a3 a4) a4 := by
  unfold execOpTimeout
  extract_lets +onlyGivenNames x5
  have h5 : Same [.routing, .tiles, .sched, .time, .ports, .wqs, .cqs, .remote, .matching, .trans, .insts, .draw, .hearth, .quench, .counters, .mem, .poison, .free, .out] x5 a4 := by
    unfold x5
    exact Same.step (State.advance_same ..) rfl (Same.refl _ _)
  clear_value x5
  split
  · exact SameNext.next (by assumption)
  · extract_lets +onlyGivenNames x10
    clear_value x10
    refine SameNext.ite ?_ ?_
    · exact SameNext.next (by assumption)
    · extract_lets +onlyGivenNames x11
      have h11 : Same [.routing, .tiles, .sched, .time, .ports, .wqs, .cqs, .remote, .matching, .trans, .insts, .draw, .hearth, .quench, .counters, .mem, .poison, .free, .out] x11 a4 := by
        unfold x11
        exact Same.step (State.raise_same ..) rfl (by assumption)
      clear_value x11
      exact SameNext.next (Same.ite (Same.step (State.endRdv_same ..) rfl (by assumption)) (Same.step (State.finishSrc_same ..) rfl (by assumption)))

theorem State.endRead_same (a1 : State) (a2 : SrcOp) (a3 : BitVec 8) :
    Same [.routing, .tiles, .sched, .ports, .wqs, .cqs, .remote, .matching, .trans, .insts, .draw, .hearth, .quench, .counters, .mem, .poison, .free, .out] (State.endRead a1 a2 a3) a1 := by
  unfold State.endRead
  refine Same.ite ?_ ?_
  · exact Same.step (State.endRdv_same ..) rfl (Same.refl _ _)
  · exact Same.step (State.finishSrc_same ..) rfl (Same.step (State.noteAnswer_same ..) rfl (Same.refl _ _))

theorem execGetResp_same (a1 : Packet) (a2 : Access) (a3 : State) :
    SameNext [.routing, .tiles, .sched, .ports, .wqs, .cqs, .remote, .matching, .trans, .insts, .draw, .hearth, .quench, .counters, .mem, .poison, .free, .out] (execGetResp a1 a2 a3) a3 := by
  unfold execGetResp
  split
  · exact SameNext.next (Same.refl _ _)
  · refine SameNext.ite ?_ ?_
    · exact SameNext.next (Same.refl _ _)
    · extract_lets +onlyGivenNames x7
      have h7 : Same [.routing, .tiles, .sched, .ports, .wqs, .cqs, .remote, .matching, .trans, .insts, .draw, .hearth, .quench, .counters, .mem, .poison, .free, .out] x7 a3 := by
        unfold x7
        exact Same.step (State.takeEject_same ..) rfl (Same.refl _ _)
      clear_value x7
      split
      · exact SameNext.next (Same.step (State.countDup_same ..) rfl (by assumption))
      · refine SameNext.ite ?_ ?_
        · exact SameNext.next (Same.step (State.countStale_same ..) rfl (by assumption))
        · refine SameNext.ite ?_ ?_
          · exact SameNext.next (Same.step (State.countDup_same ..) rfl (Same.step (State.setSrc_same ..) rfl (by assumption)))
          · refine SameNext.ite ?_ ?_
            · exact SameNext.next (Same.step (State.endRead_same ..) rfl (Same.step (State.raise_same ..) rfl (by assumption)))
            · refine SameNext.ite ?_ ?_
              · split
                · exact SameNext.next (Same.step (State.endRead_same ..) rfl (Same.ofFst3 (by assumption) (Same.step (State.sealFails_same ..) rfl (by assumption))))
                · exact SameNext.next (Same.step (State.setSrc_same ..) rfl (Same.ofFst3 (by assumption) (Same.step (State.sealFails_same ..) rfl (by assumption))))
              · extract_lets +onlyGivenNames x12
                clear_value x12
                extract_lets +onlyGivenNames x13
                have h13 : Same [.routing, .tiles, .sched, .ports, .wqs, .cqs, .remote, .matching, .trans, .insts, .draw, .hearth, .quench, .counters, .mem, .poison, .free, .out] x13 a3 := by
                  unfold x13
                  exact Same.step (State.noteAccess_same ..) rfl (by assumption)
                clear_value x13
                split
                extract_lets +onlyGivenNames x19
                clear_value x19
                extract_lets +onlyGivenNames x20
                have h20 : Same [.routing, .tiles, .sched, .ports, .wqs, .cqs, .remote, .matching, .trans, .insts, .draw, .hearth, .quench, .counters, .mem, .poison, .free, .out] x20 a3 := by
                  unfold x20
                  refine Same.step (State.setSrc_same ..) rfl (Same.ofFst (by assumption) ?_)
                  split
                  · dsimp only
                    assumption
                  · dsimp only
                    exact Same.step (State.writeLocal_same ..) rfl (by assumption)
                clear_value x20
                refine SameNext.next ?_
                refine Same.ite ?_ ?_
                · exact Same.step (State.endRead_same ..) rfl (by assumption)
                · assumption

theorem execAtomicResp_same (a1 : Packet) (a2 : Access) (a3 : State) :
    SameNext [.routing, .tiles, .sched, .ports, .wqs, .cqs, .remote, .trans, .insts, .draw, .hearth, .quench, .counters, .mem, .poison, .free, .out] (execAtomicResp a1 a2 a3) a3 := by
  unfold execAtomicResp
  split
  · exact SameNext.next (Same.refl _ _)
  · refine SameNext.ite ?_ ?_
    · exact SameNext.next (Same.refl _ _)
    · extract_lets +onlyGivenNames x7
      have h7 : Same [.routing, .tiles, .sched, .ports, .wqs, .cqs, .remote, .trans, .insts, .draw, .hearth, .quench, .counters, .mem, .poison, .free, .out] x7 a3 := by
        unfold x7
        exact Same.step (State.takeEject_same ..) rfl (Same.refl _ _)
      clear_value x7
      split
      · exact SameNext.next (Same.step (State.countDup_same ..) rfl (by assumption))
      · extract_lets +onlyGivenNames x12
        clear_value x12
        refine SameNext.ite ?_ ?_
        · exact SameNext.next (Same.step (State.countStale_same ..) rfl (by assumption))
        · refine SameNext.ite ?_ ?_
          · exact SameNext.next (Same.step (State.countDup_same ..) rfl (by assumption))
          · refine SameNext.ite ?_ ?_
            · split
              · exact SameNext.next (Same.step (State.finishSrc_same ..) rfl (Same.ofFst3 (by assumption) (Same.step (State.sealFails_same ..) rfl (by assumption))))
              · exact SameNext.next (Same.step (State.setSrc_same ..) rfl (Same.ofFst3 (by assumption) (Same.step (State.sealFails_same ..) rfl (by assumption))))
            · extract_lets +onlyGivenNames x13
              have h13 : Same [.routing, .tiles, .sched, .ports, .wqs, .cqs, .remote, .trans, .insts, .draw, .hearth, .quench, .counters, .mem, .poison, .free, .out] x13 a3 := by
                unfold x13
                exact Same.step (State.noteAccess_same ..) rfl (by assumption)
              clear_value x13
              split
              refine SameNext.next (Same.step (State.finishSrc_same ..) rfl (Same.step (State.noteAnswer_same ..) rfl (Same.ofFst (by assumption) ?_)))
              split
              · dsimp only
                assumption
              · dsimp only
                exact Same.step (State.writeLocal_same ..) rfl (by assumption)

end Sys2Proof.Machine
end

