-- ==== Sys2Proof/Laws/FrameColl.lean ====
section
/-! SUPPORT. Frames of the operations and commands of Sys2Proof/Machine/Coll.lean: each changes no part of the module but those it
names, and keeps module memory canonical. -/

namespace Sys2Proof.Machine

open Sys2Proof

theorem State.modOp_same (a1 : State) (a2 : Nat) (a3 : BitVec 16) (a4 : CollOp → CollOp) :
    Same [.coll] (State.modOp a1 a2 a3 a4) a1 := by
  unfold State.modOp
  exact Same.step (State.modGroup_same ..) rfl (Same.refl _ _)

theorem State.collSend_same (a1 : State) (a2 : Nat) (a3 : BitVec 16) (a4 : ModId) (a5 : Option (Nat × Nat)) (a6 : Nat) (a7 : Nat) (a8 : Nat) (a9 : Bool) (a10 : List Byte) (a11 : Bool) :
    Same [.routing, .tiles, .sched, .remote, .coll, .quench, .counters] (State.collSend a1 a2 a3 a4 a5 a6 a7 a8 a9 a10 a11) a1 := by
  unfold State.collSend
  split
  · exact Same.refl _ _
  · extract_lets +onlyGivenNames x16
    clear_value x16
    extract_lets +onlyGivenNames x17
    clear_value x17
    extract_lets +onlyGivenNames x18
    clear_value x18
    extract_lets +onlyGivenNames x19
    clear_value x19
    extract_lets +onlyGivenNames x20
    clear_value x20
    extract_lets +onlyGivenNames x21
    clear_value x21
    split
    extract_lets +onlyGivenNames x26
    refine Same.foldlFst ?_ _ ?_
    · rintro ⟨y27, z27, w27⟩
      intro y30
      dsimp only
      unfold x26
      split
      extract_lets +onlyGivenNames x36
      clear_value x36
      dsimp only
      refine Same.step (State.inject_same ..) rfl (Same.step (State.modOp_same ..) rfl (Same.ofFst3 (by assumption) ?_))
      dsimp only
      exact Same.refl _ _
    · dsimp only
      exact Same.ofSnd (by assumption) (Same.step (State.nextE2e_same ..) rfl (Same.refl _ _))

theorem State.sendCtrl_same (a1 : State) (a2 : ModId) (a3 : CollCtrl) :
    Same [.routing, .tiles, .sched, .quench, .counters] (State.sendCtrl a1 a2 a3) a1 := by
  unfold State.sendCtrl
  exact Same.step (State.sendTc3_same ..) rfl (Same.refl _ _)

theorem State.closeOp_same (a1 : State) (a2 : Nat) (a3 : BitVec 16) :
    Same [.coll] (State.closeOp a1 a2 a3) a1 := by
  unfold State.closeOp
  exact Same.step (State.modGroup_same ..) rfl (Same.refl _ _)

theorem State.collDone_same (a1 : State) (a2 : Nat) (a3 : BitVec 16) (a4 : Nat) (a5 : Nat) :
    Same [.routing, .tiles, .sched, .coll, .quench, .counters] (State.collDone a1 a2 a3 a4 a5) a1 := by
  induction a4 generalizing a1 a5 with
  | zero => exact Same.refl _ _
  | succ n ih =>
    unfold State.collDone
    split
    · exact Same.refl _ _
    · extract_lets +onlyGivenNames x11
      clear_value x11
      extract_lets +onlyGivenNames x12
      clear_value x12
      split
      · exact Same.refl _ _
      · refine Same.ite ?_ ?_
        · exact Same.refl _ _
        · extract_lets +onlyGivenNames x16
          clear_value x16
          extract_lets +onlyGivenNames x17
          have h17 : Same [.routing, .tiles, .sched, .coll, .quench, .counters] x17 a1 := by
            unfold x17
            exact Same.step (State.modOp_same ..) rfl (Same.refl _ _)
          clear_value x17
          split
          · refine Same.step (State.closeOp_same ..) rfl ?_
            refine Same.foldl ?_ _ ?_
            · intro y21
              intro y22
              exact Same.step (State.sendCtrl_same ..) rfl (Same.refl _ _)
            · assumption
          · split
            · assumption
            · refine Same.ite ?_ ?_
              · exact Same.step (State.sendCtrl_same ..) rfl (by assumption)
              · refine Same.ite ?_ ?_
                · exact Same.step (ih ..) rfl (by assumption)
                · assumption

theorem State.checkDone_same (a1 : State) (a2 : Nat) (a3 : BitVec 16) :
    Same [.routing, .tiles, .sched, .coll, .quench, .counters] (State.checkDone a1 a2 a3) a1 := by
  unfold State.checkDone
  split
  · exact Same.refl _ _
  · split
    refine Same.ite ?_ ?_
    · exact Same.refl _ _
    · split
      · exact Same.refl _ _
      · exact Same.step (State.collDone_same ..) rfl (Same.refl _ _)

theorem State.modPart_same (a1 : State) (a2 : Nat) (a3 : BitVec 16) (a4 : Nat) (a5 : CollPart → CollPart) :
    Same [.coll] (State.modPart a1 a2 a3 a4 a5) a1 := by
  unfold State.modPart
  exact Same.step (State.modOp_same ..) rfl (Same.refl _ _)

theorem State.endPart_same (a1 : State) (a2 : Nat) (a3 : BitVec 16) (a4 : CollPart) (a5 : BitVec 8) :
    Same [.routing, .tiles, .sched, .ports, .wqs, .cqs, .coll, .trans, .insts, .hearth, .quench, .counters, .mem, .poison, .free, .out] (State.endPart a1 a2 a3 a4 a5) a1 := by
  unfold State.endPart
  split
  · exact Same.refl _ _
  · extract_lets +onlyGivenNames x10
    have h10 : Same [.routing, .tiles, .sched, .ports, .wqs, .cqs, .coll, .trans, .insts, .hearth,   .quench, .counters, .mem, .poison, .free, .out] x10 a1 := by
      unfold x10
      exact Same.step (State.modPart_same ..) rfl (Same.refl _ _)
    clear_value x10
    exact Same.ite (Same.step (State.countStale_same ..) rfl (by assumption)) (Same.step (State.complete_same ..) rfl (by assumption))

theorem State.collDownFail_same (a1 : State) (a2 : Nat) (a3 : BitVec 16) (a4 : BitVec 8) :
    Same [.routing, .tiles, .sched, .ports, .wqs, .cqs, .remote, .coll, .trans, .insts, .hearth, .quench, .counters, .mem, .poison, .free, .out] (State.collDownFail a1 a2 a3 a4) a1 := by
  unfold State.collDownFail
  split
  · exact Same.refl _ _
  · extract_lets +onlyGivenNames x9
    clear_value x9
    extract_lets +onlyGivenNames x10
    clear_value x10
    extract_lets +onlyGivenNames x11
    clear_value x11
    extract_lets +onlyGivenNames x12
    clear_value x12
    extract_lets +onlyGivenNames x13
    clear_value x13
    extract_lets +onlyGivenNames x14
    have h14 : Same [.routing, .tiles, .sched, .ports, .wqs, .cqs, .remote, .coll, .trans, .insts, .hearth, .quench, .counters, .mem, .poison, .free, .out] x14 a1 := by
      unfold x14
      exact Same.step (State.modOp_same ..) rfl (Same.refl _ _)
    clear_value x14
    extract_lets +onlyGivenNames x16
    have h16 : Same [.routing, .tiles, .sched, .ports, .wqs, .cqs, .remote, .coll, .trans, .insts, .hearth, .quench, .counters, .mem, .poison, .free, .out] x16 a1 := by
      unfold x16
      refine Same.foldl ?_ _ ?_
      · intro y17
        intro y18
        exact Same.step (State.collSend_same ..) rfl (Same.refl _ _)
      · assumption
    clear_value x16
    refine Same.step (State.checkDone_same ..) rfl ?_
    refine Same.foldl ?_ _ ?_
    · intro y18
      intro y19
      exact Same.ite (Same.refl _ _) (Same.step (State.endPart_same ..) rfl (Same.refl _ _))
    · assumption

theorem State.collAnswer_same (a1 : State) (a2 : Packet) :
    Same [.routing, .tiles, .sched, .remote, .quench, .counters] (State.collAnswer a1 a2) a1 := by
  unfold State.collAnswer
  extract_lets +onlyGivenNames x3
  clear_value x3
  split
  exact Same.step (State.inject_same ..) rfl (Same.ofSnd (by assumption) (Same.step (State.nextE2e_same ..) rfl (Same.refl _ _)))

theorem State.collSealNote_same (a1 : State) (a2 : Nat) (a3 : BitVec 16) (a4 : Packet) :
    Same [.routing, .tiles, .sched, .remote, .coll, .quench, .counters] (State.collSealNote a1 a2 a3 a4).1 a1 := by
  unfold State.collSealNote
  extract_lets +onlyGivenNames x5
  clear_value x5
  extract_lets +onlyGivenNames x6
  clear_value x6
  extract_lets +onlyGivenNames x7
  have h7 : Same [.routing, .tiles, .sched, .remote, .coll, .quench, .counters] x7 a1 := by
    unfold x7
    exact Same.step (State.raise_same ..) rfl (Same.refl _ _)
  clear_value x7
  refine Same.iteFst ?_ ?_
  · dsimp only
    assumption
  · dsimp only
    exact Same.step (State.collAnswer_same ..) rfl (Same.step (State.modOp_same ..) rfl (by assumption))

theorem State.giveSeg_same (a1 : State) (a2 : Nat) (a3 : BitVec 16) (a4 : Nat) (a5 : Nat) (a6 : Access) (a7 : Bool) :
    Same [.routing, .tiles, .sched, .ports, .wqs, .cqs, .remote, .coll, .trans, .insts, .hearth, .quench, .counters, .mem, .poison, .free, .out] (State.giveSeg a1 a2 a3 a4 a5 a6 a7) a1 := by
  unfold State.giveSeg
  split
  · exact Same.refl _ _
  · split
    · split
      · exact Same.refl _ _
      · refine Same.ite ?_ ?_
        · exact Same.refl _ _
        · refine Same.ite ?_ ?_
          · refine Same.foldl ?_ _ ?_
            · intro y24
              intro y25
              split
              · exact Same.ofFst (by assumption) (Same.step (State.collSealNote_same ..) rfl (Same.refl _ _))
              · exact Same.step (State.collDownFail_same ..) rfl (Same.ofFst (by assumption) (Same.step (State.collSealNote_same ..) rfl (Same.refl _ _)))
            · exact Same.step (State.modOp_same ..) rfl (Same.refl _ _)
          · extract_lets +onlyGivenNames x24
            clear_value x24
            extract_lets +onlyGivenNames x25
            clear_value x25
            extract_lets +onlyGivenNames x26
            clear_value x26
            extract_lets +onlyGivenNames x27
            clear_value x27
            extract_lets +onlyGivenNames x28
            clear_value x28
            extract_lets +onlyGivenNames x29
            have h29 : Same [.routing, .tiles, .sched, .ports, .wqs, .cqs, .remote, .coll, .trans, .insts, .hearth, .quench, .counters, .mem, .poison, .free, .out] x29 a1 := by
              unfold x29
              exact Same.ite (Same.refl _ _) (Same.step (State.noteAccess_same ..) rfl (Same.refl _ _))
            clear_value x29
            extract_lets +onlyGivenNames x31
            have h31 : Same [.routing, .tiles, .sched, .ports, .wqs, .cqs, .remote, .coll, .trans, .insts, .hearth, .quench, .counters, .mem, .poison, .free, .out] x31 a1 := by
              unfold x31
              refine Same.ite ?_ ?_
              · split
                · exact Same.step (State.writePieces_same ..) rfl (Same.step (State.count_same ..) rfl (by assumption))
                · assumption
              · assumption
            clear_value x31
            extract_lets +onlyGivenNames x33
            clear_value x33
            extract_lets +onlyGivenNames x34
            have h34 : Same [.routing, .tiles, .sched, .ports, .wqs, .cqs, .remote, .coll, .trans, .insts, .hearth, .quench, .counters, .mem, .poison, .free, .out] x34 a1 := by
              unfold x34
              exact Same.step (State.modPart_same ..) rfl (by assumption)
            clear_value x34
            refine Same.ite ?_ ?_
            · exact Same.step (State.endPart_same ..) rfl (by assumption)
            · assumption
    · exact Same.refl _ _

theorem State.collDeliver_same (a1 : State) (a2 : Nat) (a3 : BitVec 16) (a4 : Nat) (a5 : List Byte) (a6 : Bool) (a7 : List Packet) (a8 : Access) :
    Same [.routing, .tiles, .sched, .ports, .wqs, .cqs, .remote, .coll, .trans, .insts, .hearth, .quench, .counters, .mem, .poison, .free, .out] (State.collDeliver a1 a2 a3 a4 a5 a6 a7 a8) a1 := by
  unfold State.collDeliver
  split
  · exact Same.refl _ _
  · refine Same.ite ?_ ?_
    · exact Same.refl _ _
    · extract_lets +onlyGivenNames x13
      have h13 : Same [.routing, .tiles, .sched, .ports, .wqs, .cqs, .remote, .coll, .trans, .insts, .hearth, .quench, .counters, .mem, .poison, .free, .out] x13 a1 := by
        unfold x13
        exact Same.step (State.modOp_same ..) rfl (Same.refl _ _)
      clear_value x13
      refine Same.step (State.checkDone_same ..) rfl ?_
      refine Same.foldl ?_ _ ?_
      · intro y15
        intro y16
        exact Same.step (State.giveSeg_same ..) rfl (Same.refl _ _)
      · assumption

theorem State.collDown_same (a1 : State) (a2 : Nat) (a3 : BitVec 16) (a4 : Nat) (a5 : List Byte) (a6 : Bool) (a7 : List Packet) (a8 : Access) (a9 : Nat) (a10 : Nat) :
    Same [.routing, .tiles, .sched, .ports, .wqs, .cqs, .remote, .coll, .trans, .insts, .hearth, .quench, .counters, .mem, .poison, .free, .out] (State.collDown a1 a2 a3 a4 a5 a6 a7 a8 a9 a10) a1 := by
  induction a9 generalizing a1 a5 a7 a10 with
  | zero => exact Same.refl _ _
  | succ n ih =>
    unfold State.collDown
    split
    · exact Same.refl _ _
    · extract_lets +onlyGivenNames x16
      clear_value x16
      extract_lets +onlyGivenNames x17
      clear_value x17
      split
      · refine Same.ite ?_ ?_
        · exact Same.refl _ _
        · extract_lets +onlyGivenNames x24
          have h24 : Same [.routing, .tiles, .sched, .ports, .wqs, .cqs, .remote, .coll, .trans, .insts, .hearth, .quench, .counters, .mem, .poison, .free, .out] x24 a1 := by
            unfold x24
            exact Same.step (State.modOp_same ..) rfl (Same.refl _ _)
          clear_value x24
          refine Same.ite ?_ ?_
          · exact Same.step (State.collDeliver_same ..) rfl (by assumption)
          · extract_lets +onlyGivenNames x26
            clear_value x26
            extract_lets +onlyGivenNames x27
            clear_value x27
            extract_lets +onlyGivenNames x28
            clear_value x28
            extract_lets +onlyGivenNames x29
            clear_value x29
            extract_lets +onlyGivenNames x30
            have h30 : Same [.routing, .tiles, .sched, .ports, .wqs, .cqs, .remote, .coll, .trans, .insts, .hearth, .quench, .counters, .mem, .poison, .free, .out] x30 a1 := by
              unfold x30
              refine Same.foldl ?_ _ ?_
              · intro y31
                intro y32
                extract_lets +onlyGivenNames x33
                clear_value x33
                exact Same.step (State.collSend_same ..) rfl (Same.refl _ _)
              · assumption
            clear_value x30
            refine Same.foldl ?_ _ ?_
            · intro y32
              intro y33
              exact Same.step (ih ..) rfl (Same.refl _ _)
            · assumption
      · exact Same.refl _ _

theorem State.ensureOp_same (a1 : State) (a2 : Nat) (a3 : BitVec 16) (a4 : Bool) :
    Same [.coll, .striker] (State.ensureOp a1 a2 a3 a4) a1 := by
  unfold State.ensureOp
  refine Same.ite ?_ ?_
  · exact Same.refl _ _
  · extract_lets +onlyGivenNames x5
    clear_value x5
    exact Same.step (State.modGroup_same ..) rfl (Same.setStriker rfl id (Same.refl _ _))

theorem State.collStatus_same (a1 : State) (a2 : Nat) (a3 : BitVec 16) :
    Same [.routing, .tiles, .sched, .ports, .wqs, .cqs, .remote, .coll, .trans, .insts, .hearth, .quench, .counters, .mem, .poison, .free, .out] (State.collStatus a1 a2 a3) a1 := by
  unfold State.collStatus
  split
  · exact Same.refl _ _
  · refine Same.ite ?_ ?_
    · exact Same.refl _ _
    · extract_lets +onlyGivenNames x8
      clear_value x8
      extract_lets +onlyGivenNames x9
      clear_value x9
      split
      extract_lets +onlyGivenNames x14
      refine Same.foldl ?_ _ ?_
      · intro y15
        intro y16
        split
        · exact Same.refl _ _
        · extract_lets +onlyGivenNames x21
          clear_value x21
          refine Same.ite ?_ ?_
          · exact Same.refl _ _
          · extract_lets +onlyGivenNames x22
            have h22 : Same [.routing, .tiles, .sched, .ports, .wqs, .cqs, .remote, .coll, .trans, .insts, .hearth, .quench, .counters, .mem, .poison, .free, .out] x22 y15 := by
              unfold x22
              exact Same.step (State.modOp_same ..) rfl (Same.refl _ _)
            clear_value x22
            split
            · unfold x14
              extract_lets +onlyGivenNames x26
              have h26 : Same [.routing, .tiles, .sched, .ports, .wqs, .cqs, .remote, .coll, .trans, .insts, .hearth, .quench, .counters, .mem, .poison, .free, .out] x26 y15 := by
                unfold x26
                refine Same.foldl ?_ _ ?_
                · intro y27
                  intro y28
                  exact Same.step (State.collSend_same ..) rfl (Same.refl _ _)
                · assumption
              clear_value x26
              split
              · assumption
              · refine Same.step (State.checkDone_same ..) rfl ?_
                refine Same.foldl ?_ _ ?_
                · intro y32
                  intro y33
                  exact Same.ite (Same.refl _ _) (Same.step (State.endPart_same ..) rfl (Same.refl _ _))
                · assumption
            · extract_lets +onlyGivenNames x27
              clear_value x27
              exact Same.ite (Same.step (State.modOp_same ..) rfl (by assumption)) (Same.step (State.collSend_same ..) rfl (by assumption))
      · exact Same.refl _ _

theorem State.collScatter_same (a1 : State) (a2 : Nat) (a3 : BitVec 16) (a4 : Nat) (a5 : Access) :
    Same [.routing, .tiles, .sched, .ports, .wqs, .cqs, .remote, .coll, .trans, .insts, .hearth, .quench, .counters, .mem, .poison, .free, .out] (State.collScatter a1 a2 a3 a4 a5) a1 := by
  unfold State.collScatter
  split
  · exact Same.refl _ _
  · split
    · exact Same.refl _ _
    · extract_lets +onlyGivenNames x13
      clear_value x13
      extract_lets +onlyGivenNames x14
      clear_value x14
      extract_lets +onlyGivenNames x15
      clear_value x15
      refine Same.foldl ?_ _ ?_
      · intro y16
        intro y17
        extract_lets +onlyGivenNames x18
        clear_value x18
        split
        · exact Same.refl _ _
        · refine Same.ite ?_ ?_
          · exact Same.refl _ _
          · extract_lets +onlyGivenNames x23
            clear_value x23
            split
            · exact Same.refl _ _
            · extract_lets +onlyGivenNames x28
              have h28 : Same [.routing, .tiles, .sched, .ports, .wqs, .cqs, .remote, .coll, .trans, .insts, .hearth, .quench, .counters, .mem, .poison, .free, .out] x28 y16 := by
                unfold x28
                exact Same.step (State.modOp_same ..) rfl (Same.refl _ _)
              clear_value x28
              exact Same.ite (Same.step (State.collDeliver_same ..) rfl (by assumption)) (Same.step (State.collSend_same ..) rfl (by assumption))
      · exact Same.refl _ _

theorem State.collRootDown_same (a1 : State) (a2 : Nat) (a3 : BitVec 16) (a4 : Nat) (a5 : Nat) (a6 : List Byte) (a7 : Bool) (a8 : Access) :
    Same [.routing, .tiles, .sched, .ports, .wqs, .cqs, .remote, .coll, .trans, .insts, .hearth, .quench, .counters, .mem, .poison, .free, .out] (State.collRootDown a1 a2 a3 a4 a5 a6 a7 a8) a1 := by
  unfold State.collRootDown
  split
  · exact Same.refl _ _
  · extract_lets +onlyGivenNames x13
    clear_value x13
    split
    · exact Same.refl _ _
    · refine Same.ite ?_ ?_
      · exact Same.step (State.collDown_same ..) rfl (Same.refl _ _)
      · refine Same.ite ?_ ?_
        · exact Same.step (State.modOp_same ..) rfl (Same.refl _ _)
        · refine Same.ite ?_ ?_
          · exact Same.refl _ _
          · extract_lets +onlyGivenNames x17
            have h17 : Same [.routing, .tiles, .sched, .ports, .wqs, .cqs, .remote, .coll, .trans, .insts, .hearth, .quench, .counters, .mem, .poison, .free, .out] x17 a1 := by
              unfold x17
              exact Same.step (State.modOp_same ..) rfl (Same.refl _ _)
            clear_value x17
            extract_lets +onlyGivenNames x19
            clear_value x19
            extract_lets +onlyGivenNames x20
            have h20 : Same [.routing, .tiles, .sched, .ports, .wqs, .cqs, .remote, .coll, .trans, .insts, .hearth, .quench, .counters, .mem, .poison, .free, .out] x20 a1 := by
              unfold x20
              refine Same.ite ?_ ?_
              · assumption
              · exact Same.step (State.collSend_same ..) rfl (by assumption)
            clear_value x20
            refine Same.ite ?_ ?_
            · exact Same.step (State.collDeliver_same ..) rfl (by assumption)
            · assumption

theorem State.collPrefix_same (a1 : State) (a2 : Nat) (a3 : BitVec 16) (a4 : Nat) (a5 : List Byte) (a6 : Bool) (a7 : List Packet) (a8 : Access) (a9 : Nat) (a10 : Nat) :
    Same [.routing, .tiles, .sched, .ports, .wqs, .cqs, .remote, .coll, .trans, .insts, .hearth, .quench, .counters, .mem, .poison, .free, .out] (State.collPrefix a1 a2 a3 a4 a5 a6 a7 a8 a9 a10) a1 := by
  induction a9 generalizing a1 a5 a6 a7 a10 with
  | zero => exact Same.refl _ _
  | succ n ih =>
    unfold State.collPrefix
    split
    · exact Same.refl _ _
    · extract_lets +onlyGivenNames x16
      clear_value x16
      extract_lets +onlyGivenNames x17
      clear_value x17
      split
      · refine Same.ite ?_ ?_
        · exact Same.refl _ _
        · extract_lets +onlyGivenNames x24
          have h24 : Same [.routing, .tiles, .sched, .ports, .wqs, .cqs, .remote, .coll, .trans, .insts, .hearth, .quench, .counters, .mem, .poison, .free, .out] x24 a1 := by
            unfold x24
            exact Same.step (State.modOp_same ..) rfl (Same.refl _ _)
          clear_value x24
          refine Same.ite ?_ ?_
          · exact Same.step (State.collDeliver_same ..) rfl (by assumption)
          · refine Same.foldlFst ?_ _ ?_
            · rintro ⟨y26, z26, w26⟩
              intro y29
              dsimp only
              split
              · dsimp only
                exact Same.ite (Same.step (ih ..) rfl (Same.refl _ _)) (Same.step (State.collSend_same ..) rfl (Same.refl _ _))
              · dsimp only
                exact Same.ite (Same.step (ih ..) rfl (Same.refl _ _)) (Same.step (State.collSend_same ..) rfl (Same.refl _ _))
            · dsimp only
              assumption
      · exact Same.refl _ _

theorem State.collRoot_same (a1 : State) (a2 : Nat) (a3 : BitVec 16) (a4 : Nat) (a5 : Nat) (a6 : List Byte) (a7 : Bool) (a8 : Access) :
    Same [.routing, .tiles, .sched, .ports, .wqs, .cqs, .remote, .coll, .trans, .insts, .hearth, .quench, .counters, .mem, .poison, .free, .out] (State.collRoot a1 a2 a3 a4 a5 a6 a7 a8) a1 := by
  unfold State.collRoot
  split
  · exact Same.refl _ _
  · split
    · exact Same.refl _ _
    · refine Same.ite ?_ ?_
      · exact Same.step (State.collPrefix_same ..) rfl (Same.refl _ _)
      · extract_lets +onlyGivenNames x16
        clear_value x16
        refine Same.ite ?_ ?_
        · exact Same.step (State.collScatter_same ..) rfl (Same.step (State.modOp_same ..) rfl (Same.refl _ _))
        · exact Same.step (State.collRootDown_same ..) rfl (Same.refl _ _)

theorem State.collUp_same (a1 : State) (a2 : Nat) (a3 : BitVec 16) (a4 : Nat) (a5 : Access) (a6 : Nat) (a7 : Nat) (a8 : List Byte) (a9 : Bool) :
    Same [.routing, .tiles, .sched, .ports, .wqs, .cqs, .remote, .coll, .trans, .insts, .hearth, .quench, .counters, .mem, .poison, .free, .out] (State.collUp a1 a2 a3 a4 a5 a6 a7 a8 a9) a1 := by
  induction a6 generalizing a1 a7 a8 a9 with
  | zero => exact Same.refl _ _
  | succ n ih =>
    unfold State.collUp
    split
    · exact Same.refl _ _
    · extract_lets +onlyGivenNames x15
      clear_value x15
      split
      · split
        · exact Same.step (State.collRoot_same ..) rfl (Same.refl _ _)
        · extract_lets +onlyGivenNames x25
          clear_value x25
          extract_lets +onlyGivenNames x26
          clear_value x26
          refine Same.ite ?_ ?_
          · exact Same.step (State.collSend_same ..) rfl (Same.refl _ _)
          · extract_lets +onlyGivenNames x27
            clear_value x27
            extract_lets +onlyGivenNames x28
            clear_value x28
            refine Same.ite ?_ ?_
            · exact Same.step (State.modOp_same ..) rfl (Same.refl _ _)
            · split
              extract_lets +onlyGivenNames x33
              clear_value x33
              exact Same.step (ih ..) rfl (Same.step (State.modOp_same ..) rfl (Same.refl _ _))
      · exact Same.refl _ _

theorem State.contribute_same (a1 : State) (a2 : Nat) (a3 : BitVec 16) (a4 : Access) :
    Same [.routing, .tiles, .sched, .ports, .wqs, .cqs, .remote, .coll, .trans, .insts, .hearth, .quench, .counters, .mem, .poison, .free, .out] (State.contribute a1 a2 a3 a4) a1 := by
  unfold State.contribute
  split
  · exact Same.refl _ _
  · extract_lets +onlyGivenNames x9
    clear_value x9
    split
    split
    · refine Same.ite ?_ ?_
      · exact Same.refl _ _
      · refine Same.ite ?_ ?_
        · exact Same.step (State.collStatus_same ..) rfl (Same.refl _ _)
        · extract_lets +onlyGivenNames x20
          clear_value x20
          extract_lets +onlyGivenNames x21
          have h21 : Same [.routing, .tiles, .sched, .ports, .wqs, .cqs, .remote, .coll, .trans, .insts, .hearth, .quench, .counters, .mem, .poison, .free, .out] x21 a1 := by
            unfold x21
            exact Same.step (State.modOp_same ..) rfl (Same.refl _ _)
          clear_value x21
          refine Same.foldl ?_ _ ?_
          · intro y23
            intro y24
            refine Same.ite ?_ ?_
            · exact Same.refl _ _
            · split
              exact Same.step (State.collUp_same ..) rfl (Same.refl _ _)
          · assumption
    · exact Same.refl _ _

theorem State.collTry_same (a1 : State) (a2 : Nat) (a3 : BitVec 16) (a4 : Nat) (a5 : Nat) (a6 : Access) :
    Same [.routing, .tiles, .sched, .ports, .wqs, .cqs, .remote, .coll, .trans, .insts, .hearth, .quench, .counters, .mem, .poison, .free, .out] (State.collTry a1 a2 a3 a4 a5 a6) a1 := by
  unfold State.collTry
  split
  · exact Same.refl _ _
  · extract_lets +onlyGivenNames x11
    clear_value x11
    split
    · exact Same.refl _ _
    · refine Same.ite ?_ ?_
      · exact Same.refl _ _
      · split
        extract_lets +onlyGivenNames x19
        clear_value x19
        exact Same.step (State.collUp_same ..) rfl (Same.step (State.modOp_same ..) rfl (Same.refl _ _))

theorem State.collDup_same (a1 : State) :
    Same [.coll] (State.collDup a1) a1 := by
  unfold State.collDup
  exact Same.setColl rfl (Same.refl _ _)

theorem State.collInput_same (a1 : State) (a2 : Nat) (a3 : BitVec 16) (a4 : Packet) (a5 : CollParams) (a6 : Access) :
    Same [.routing, .tiles, .sched, .ports, .wqs, .cqs, .remote, .coll, .trans, .insts, .hearth, .quench, .counters, .mem, .poison, .free, .out] (State.collInput a1 a2 a3 a4 a5 a6) a1 := by
  unfold State.collInput
  split
  · exact Same.refl _ _
  · extract_lets l self from_ seg edges input
    clear_value edges input
    split
    · exact Same.step (State.collDup_same ..) rfl (Same.refl _ _)
    · dsimp only
      refine Same.step (State.collStatus_same ..) rfl (Same.step (State.collTry_same ..) rfl ?_)
      refine Same.step (State.modOp_same ..) rfl (Same.ite ?_ (Same.refl _ _))
      exact Same.step (State.raise_same ..) rfl (Same.refl _ _)

theorem State.collUpFail_same (a1 : State) (a2 : Nat) (a3 : BitVec 16) (a4 : Packet) :
    Same [.routing, .tiles, .sched, .ports, .wqs, .cqs, .remote, .coll, .trans, .insts, .hearth, .quench, .counters, .mem, .poison, .free, .out] (State.collUpFail a1 a2 a3 a4) a1 := by
  unfold State.collUpFail
  split
  · exact Same.refl _ _
  · extract_lets +onlyGivenNames x9
    clear_value x9
    extract_lets +onlyGivenNames x10
    clear_value x10
    extract_lets +onlyGivenNames x11
    clear_value x11
    extract_lets +onlyGivenNames x12
    clear_value x12
    extract_lets +onlyGivenNames x13
    clear_value x13
    exact Same.step (State.collStatus_same ..) rfl (Same.step (State.modOp_same ..) rfl (Same.refl _ _))

theorem State.collSealBad_same (a1 : State) (a2 : Nat) (a3 : BitVec 16) (a4 : Packet) :
    Same [.routing, .tiles, .sched, .ports, .wqs, .cqs, .remote, .coll, .trans, .insts, .hearth, .quench, .counters, .mem, .poison, .free, .out] (State.collSealBad a1 a2 a3 a4) a1 := by
  unfold State.collSealBad
  split
  · exact Same.ofFst (by assumption) (Same.step (State.collSealNote_same ..) rfl (Same.refl _ _))
  · refine Same.ite ?_ ?_
    · exact Same.step (State.collUpFail_same ..) rfl (Same.ofFst (by assumption) (Same.step (State.collSealNote_same ..) rfl (Same.refl _ _)))
    · exact Same.step (State.collDownFail_same ..) rfl (Same.ofFst (by assumption) (Same.step (State.collSealNote_same ..) rfl (Same.refl _ _)))

theorem State.collResultIn_same (a1 : State) (a2 : Nat) (a3 : BitVec 16) (a4 : Packet) (a5 : CollParams) (a6 : Access) :
    Same [.routing, .tiles, .sched, .ports, .wqs, .cqs, .remote, .coll, .trans, .insts, .hearth, .quench, .counters, .mem, .poison, .free, .out] (State.collResultIn a1 a2 a3 a4 a5 a6) a1 := by
  unfold State.collResultIn
  split
  · exact Same.refl _ _
  · extract_lets +onlyGivenNames x11
    clear_value x11
    extract_lets +onlyGivenNames x12
    clear_value x12
    extract_lets +onlyGivenNames x13
    clear_value x13
    extract_lets +onlyGivenNames x14
    clear_value x14
    extract_lets +onlyGivenNames x15
    clear_value x15
    extract_lets +onlyGivenNames x16
    have h16 : Same [.routing, .tiles, .sched, .ports, .wqs, .cqs, .remote, .coll, .trans, .insts, .hearth, .quench, .counters, .mem, .poison, .free, .out] x16 a1 := by
      unfold x16
      exact Same.ite (Same.step (State.modOp_same ..) rfl (Same.refl _ _)) (Same.refl _ _)
    clear_value x16
    extract_lets +onlyGivenNames x18
    clear_value x18
    extract_lets +onlyGivenNames x19
    clear_value x19
    refine Same.ite ?_ ?_
    · extract_lets +onlyGivenNames x20
      have h20 : Same [.routing, .tiles, .sched, .ports, .wqs, .cqs, .remote, .coll, .trans, .insts, .hearth, .quench, .counters, .mem, .poison, .free, .out] x20 a1 := by
        unfold x20
        exact Same.step (State.modOp_same ..) rfl (by assumption)
      clear_value x20
      refine Same.step (State.checkDone_same ..) rfl ?_
      refine Same.foldl ?_ _ ?_
      · intro y22
        intro y23
        exact Same.ite (Same.refl _ _) (Same.step (State.endPart_same ..) rfl (Same.refl _ _))
      · assumption
    · refine Same.ite ?_ ?_
      · extract_lets +onlyGivenNames x20
        clear_value x20
        refine Same.ite ?_ ?_
        · exact Same.ite (Same.step (State.collDup_same ..) rfl (by assumption)) (Same.step (State.collDeliver_same ..) rfl (by assumption))
        · extract_lets +onlyGivenNames x21
          have h21 : Same [.routing, .tiles, .sched, .ports, .wqs, .cqs, .remote, .coll, .trans, .insts, .hearth, .quench, .counters, .mem, .poison, .free, .out] x21 a1 := by
            unfold x21
            refine Same.foldl ?_ _ ?_
            · intro y22
              intro y23
              exact Same.step (State.collDown_same ..) rfl (Same.refl _ _)
            · assumption
          clear_value x21
          refine Same.ite ?_ ?_
          · assumption
          · exact Same.step (State.collDeliver_same ..) rfl (by assumption)
      · refine Same.ite ?_ ?_
        · extract_lets +onlyGivenNames x20
          clear_value x20
          extract_lets +onlyGivenNames x21
          clear_value x21
          exact Same.ite (Same.step (State.collDup_same ..) rfl (by assumption)) (Same.step (State.collDeliver_same ..) rfl (by assumption))
        · refine Same.ite ?_ ?_
          · exact Same.step (State.collDup_same ..) rfl (by assumption)
          · refine Same.foldl ?_ _ ?_
            · intro y20
              intro y21
              split
              · exact Same.refl _ _
              · extract_lets +onlyGivenNames x26
                clear_value x26
                extract_lets +onlyGivenNames x27
                clear_value x27
                extract_lets +onlyGivenNames x28
                clear_value x28
                extract_lets +onlyGivenNames x29
                clear_value x29
                extract_lets +onlyGivenNames x30
                have h30 : Same [.routing, .tiles, .sched, .ports, .wqs, .cqs, .remote, .coll, .trans, .insts, .hearth, .quench, .counters, .mem, .poison, .free, .out] x30 y20 := by
                  unfold x30
                  exact Same.step (State.modOp_same ..) rfl (Same.refl _ _)
                clear_value x30
                refine Same.ite ?_ ?_
                · exact Same.step (State.collPrefix_same ..) rfl (by assumption)
                · assumption
            · assumption

theorem State.collDiscard_same (a1 : State) :
    Same [.routing] (State.collDiscard a1) a1 := by
  unfold State.collDiscard
  exact Same.setRouting rfl (Same.refl _ _)

theorem execCollData_same (a1 : Packet) (a2 : Access) (a3 : State) :
    SameNext [.routing, .tiles, .sched, .ports, .wqs, .cqs, .remote, .coll, .striker, .trans, .insts, .hearth, .quench, .counters, .mem, .poison, .free, .out] (execCollData a1 a2 a3) a3 := by
  unfold execCollData
  refine SameNext.ite ?_ ?_
  · exact SameNext.next (Same.refl _ _)
  · extract_lets +onlyGivenNames x4
    clear_value x4
    extract_lets +onlyGivenNames x5
    clear_value x5
    split
    · extract_lets +onlyGivenNames x13
      clear_value x13
      refine SameNext.ite ?_ ?_
      · exact SameNext.next (Same.refl _ _)
      · extract_lets +onlyGivenNames x14
        have h14 : Same [.routing, .tiles, .sched, .ports, .wqs, .cqs, .remote, .coll, .striker, .trans, .insts, .hearth, .quench, .counters, .mem, .poison, .free, .out] x14 a3 := by
          unfold x14
          exact Same.step (State.takeArrival_same ..) rfl (Same.refl _ _)
        clear_value x14
        refine SameNext.ite ?_ ?_
        · exact SameNext.next (Same.step (State.unfill_same ..) rfl (Same.step (State.collDup_same ..) rfl (by assumption)))
        · refine SameNext.ite ?_ ?_
          · exact SameNext.next (Same.step (State.unfill_same ..) rfl (Same.step (State.collDiscard_same ..) rfl (by assumption)))
          · extract_lets +onlyGivenNames x16
            have h16 : Same [.routing, .tiles, .sched, .ports, .wqs, .cqs, .remote, .coll, .striker, .trans, .insts, .hearth, .quench, .counters, .mem, .poison, .free, .out] x16 a3 := by
              unfold x16
              exact Same.step (State.ensureOp_same ..) rfl (by assumption)
            clear_value x16
            refine SameNext.next (Same.step (State.unfill_same ..) rfl ?_)
            refine Same.ite ?_ ?_
            · exact Same.step (State.collSealBad_same ..) rfl (by assumption)
            · exact Same.ite (Same.step (State.collInput_same ..) rfl (by assumption)) (Same.step (State.collResultIn_same ..) rfl (by assumption))
    · exact SameNext.next (Same.step (State.unfill_same ..) rfl (Same.step (State.collDiscard_same ..) rfl (Same.step (State.takeArrival_same ..) rfl (Same.refl _ _))))

theorem State.giveAll_same (a1 : State) (a2 : Nat) (a3 : BitVec 16) (a4 : Nat) (a5 : Access) (a6 : Option Nat) :
    Same [.routing, .tiles, .sched, .ports, .wqs, .cqs, .remote, .coll, .trans, .insts, .hearth, .quench, .counters, .mem, .poison, .free, .out] (State.giveAll a1 a2 a3 a4 a5 a6) a1 := by
  unfold State.giveAll
  split
  · exact Same.refl _ _
  · refine Same.foldl ?_ _ ?_
    · intro y11
      intro y12
      exact Same.step (State.giveSeg_same ..) rfl (Same.refl _ _)
    · exact Same.refl _ _

theorem execCollReleaseAt_same (a1 : BitVec 24) (a2 : BitVec 16) (a3 : Nat) (a4 : Ticks) (a5 : Access) (a6 : State) :
    SameNext [.routing, .tiles, .sched, .time, .ports, .wqs, .cqs, .remote, .coll, .trans, .insts, .hearth, .quench, .counters, .mem, .poison, .free, .out] (execCollReleaseAt a1 a2 a3 a4 a5 a6) a6 := by
  unfold execCollReleaseAt
  extract_lets +onlyGivenNames x7
  have h7 : Same [.routing, .tiles, .sched, .time, .ports, .wqs, .cqs, .remote, .coll, .trans, .insts, .hearth, .quench, .counters, .mem, .poison, .free, .out] x7 a6 := by
    unfold x7
    exact Same.step (State.advance_same ..) rfl (Same.refl _ _)
  clear_value x7
  split
  · exact SameNext.next (by assumption)
  · refine SameNext.next ?_
    refine Same.ite ?_ ?_
    · assumption
    · exact Same.step (State.unfill_same ..) rfl (Same.step (State.checkDone_same ..) rfl (Same.step (State.giveAll_same ..) rfl (by assumption)))

theorem execCollective_same (a1 : Nat) (a2 : State) :
    SameNext [.routing, .tiles, .sched, .ports, .wqs, .cqs, .remote, .coll, .striker, .trans, .insts, .draw, .hearth, .quench, .counters, .mem, .poison, .free, .out] (execCollective a1 a2) a2 := by
  unfold execCollective
  split
  · exact SameNext.next (Same.refl _ _)
  · extract_lets +onlyGivenNames x7
    clear_value x7
    split
    extract_lets +onlyGivenNames x12
    refine SameNext.ite ?_ ?_
    · unfold x12
      exact SameNext.next (Same.step (State.refuse_same ..) rfl (Same.step (State.started_same ..) rfl (Same.refl _ _)))
    · refine SameNext.ite ?_ ?_
      · unfold x12
        exact SameNext.next (Same.step (State.refuse_same ..) rfl (Same.step (State.started_same ..) rfl (Same.refl _ _)))
      · split
        · unfold x12
          exact SameNext.next (Same.step (State.refuse_same ..) rfl (Same.step (State.started_same ..) rfl (Same.refl _ _)))
        · split
          · unfold x12
            exact SameNext.next (Same.step (State.refuse_same ..) rfl (Same.step (State.started_same ..) rfl (Same.refl _ _)))
          · refine SameNext.ite ?_ ?_
            · unfold x12
              exact SameNext.next (Same.step (State.refuse_same ..) rfl (Same.step (State.started_same ..) rfl (Same.refl _ _)))
            · refine SameNext.ite ?_ ?_
              · unfold x12
                exact SameNext.next (Same.step (State.refuse_same ..) rfl (Same.step (State.started_same ..) rfl (Same.refl _ _)))
              · extract_lets +onlyGivenNames x20
                clear_value x20
                extract_lets +onlyGivenNames x21
                clear_value x21
                refine SameNext.ite ?_ ?_
                · exact SameNext.next (Same.refl _ _)
                · extract_lets +onlyGivenNames x22
                  have h22 : Same [.routing, .tiles, .sched, .ports, .wqs, .cqs, .remote, .coll, .striker, .trans, .insts, .draw, .hearth, .quench, .counters, .mem, .poison, .free, .out] x22 a2 := by
                    unfold x22
                    exact Same.step (State.started_same ..) rfl (Same.refl _ _)
                  clear_value x22
                  extract_lets +onlyGivenNames x24
                  clear_value x24
                  extract_lets +onlyGivenNames x25
                  have h25 : Same [.routing, .tiles, .sched, .ports, .wqs, .cqs, .remote, .coll, .striker, .trans, .insts, .draw, .hearth, .quench, .counters, .mem, .poison, .free, .out] x25 a2 := by
                    unfold x25
                    exact Same.step (State.ensureOp_same ..) rfl (by assumption)
                  clear_value x25
                  extract_lets +onlyGivenNames x27
                  have h27 : Same [.routing, .tiles, .sched, .ports, .wqs, .cqs, .remote, .coll, .striker, .trans, .insts, .draw, .hearth, .quench, .counters, .mem, .poison, .free, .out] x27 a2 := by
                    unfold x27
                    exact Same.step (State.modGroup_same ..) rfl (by assumption)
                  clear_value x27
                  extract_lets +onlyGivenNames x29
                  clear_value x29
                  extract_lets +onlyGivenNames x30
                  clear_value x30
                  extract_lets +onlyGivenNames x31
                  have h31 : Same [.routing, .tiles, .sched, .ports, .wqs, .cqs, .remote, .coll, .striker, .trans, .insts, .draw, .hearth, .quench, .counters, .mem, .poison, .free, .out] x31 a2 := by
                    unfold x31
                    exact Same.step (State.modOp_same ..) rfl (by assumption)
                  clear_value x31
                  exact SameNext.next (Same.step (State.collStatus_same ..) rfl (Same.step (State.contribute_same ..) rfl (by assumption)))

theorem execCollStartAt_same (a1 : BitVec 24) (a2 : BitVec 16) (a3 : Nat) (a4 : Ticks) (a5 : ReadResult) (a6 : State) :
    SameNext [.routing, .tiles, .sched, .time, .ports, .wqs, .cqs, .remote, .coll, .trans, .insts, .hearth, .quench, .counters, .mem, .poison, .free, .out] (execCollStartAt a1 a2 a3 a4 a5 a6) a6 := by
  unfold execCollStartAt
  extract_lets +onlyGivenNames x7
  have h7 : Same [.routing, .tiles, .sched, .time, .ports, .wqs, .cqs, .remote, .coll, .trans, .insts, .hearth, .quench, .counters, .mem, .poison, .free, .out] x7 a6 := by
    unfold x7
    exact Same.step (State.advance_same ..) rfl (Same.refl _ _)
  clear_value x7
  split
  · exact SameNext.next (by assumption)
  · split
    · exact SameNext.next (by assumption)
    · refine SameNext.ite ?_ ?_
      · exact SameNext.next (by assumption)
      · refine SameNext.ite ?_ ?_
        · exact SameNext.next (Same.step (State.countStale_same ..) rfl (by assumption))
        · split
          · exact SameNext.next (by assumption)
          · extract_lets +onlyGivenNames x19
            clear_value x19
            extract_lets +onlyGivenNames x20
            have h20 : Same [.routing, .tiles, .sched, .time, .ports, .wqs, .cqs, .remote, .coll, .trans, .insts, .hearth, .quench, .counters, .mem, .poison, .free, .out] x20 a6 := by
              unfold x20
              refine Same.ite ?_ ?_
              · assumption
              · exact Same.step (State.emit_same ..) rfl (Same.step (State.touch_same ..) rfl (by assumption))
            clear_value x20
            extract_lets +onlyGivenNames x22
            have h22 : Same [.routing, .tiles, .sched, .time, .ports, .wqs, .cqs, .remote, .coll, .trans, .insts, .hearth, .quench, .counters, .mem, .poison, .free, .out] x22 a6 := by
              unfold x22
              refine Same.ite ?_ ?_
              · assumption
              · exact Same.step (State.noteRead_same ..) rfl (by assumption)
            clear_value x22
            split
            · extract_lets +onlyGivenNames x28
              have h28 : Same [.routing, .tiles, .sched, .time, .ports, .wqs, .cqs, .remote, .coll, .trans, .insts, .hearth, .quench, .counters, .mem, .poison, .free, .out] x28 a6 := by
                unfold x28
                exact Same.step (State.modPart_same ..) rfl (by assumption)
              clear_value x28
              exact SameNext.next (Same.step (State.collStatus_same ..) rfl (Same.step (State.contribute_same ..) rfl (by assumption)))
            · exact SameNext.next (Same.step (State.checkDone_same ..) rfl (Same.step (State.collStatus_same ..) rfl (Same.step (State.endPart_same ..) rfl (by assumption))))
            · exact SameNext.next (Same.step (State.checkDone_same ..) rfl (Same.step (State.collStatus_same ..) rfl (Same.step (State.endPart_same ..) rfl (by assumption))))

end Sys2Proof.Machine
end

