-- ==== Sys2Proof/Laws/FrameCollCtrl.lean ====
section
/-! SUPPORT. Frames of the operations and commands of Sys2Proof/Machine/CollCtrl.lean: each changes no part of the module but those it
names, and keeps module memory canonical. -/

namespace Sys2Proof.Machine

open Sys2Proof

/-- A control row changes what its effect changes, and the arrival's bookkeeping. -/
theorem ctrlRow_same {W : List Part} {s : State} {kind : BitVec 4} {p : Packet} {f : State → ModId → CollCtrl → State}
    (hW : subParts [.routing, .coll, .quench, .counters] W = true) (hf : ∀ u m c, Same W (f u m c) u) :
    SameNext W (s.ctrlRow kind p f) s := by
  unfold State.ctrlRow
  refine SameNext.ite (SameNext.next (Same.refl _ _)) ?_
  split
  · exact SameNext.next (Same.refl _ _)
  · extract_lets known s1 from_
    have h1 : Same [.routing, .coll, .quench, .counters] s1 s := by
      unfold s1
      exact Same.step (State.takeArrival_same ..) rfl (Same.refl _ _)
    have h1' : Same W s1 s := h1.step hW (Same.refl _ _)
    refine SameNext.ite (SameNext.next (Same.refl _ _)) ?_
    refine SameNext.ite (SameNext.next ((hf _ _ _).trans h1')) (SameNext.next ?_)
    refine Same.step ?_ hW h1'
    exact Same.step (State.raise_same ..) rfl (Same.setColl rfl (Same.refl _ _))

theorem execCollDone_same (a1 : Packet) (a2 : State) :
    SameNext [.routing, .tiles, .sched, .coll, .quench, .counters] (execCollDone a1 a2) a2 := by
  unfold execCollDone
  refine ctrlRow_same rfl ?_
  intro y3
  intro y4
  intro y5
  split
  · exact Same.refl _ _
  · split
    · exact Same.refl _ _
    · extract_lets +onlyGivenNames x13
      clear_value x13
      extract_lets +onlyGivenNames x14
      clear_value x14
      split
      · exact Same.refl _ _
      · exact Same.step (State.collDone_same ..) rfl (Same.refl _ _)

theorem State.countStall_same (a1 : State) :
    Same [.coll] (State.countStall a1) a1 := by
  unfold State.countStall
  exact Same.setColl rfl (Same.refl _ _)

theorem State.endOps_same (a1 : State) (a2 : Nat) (a3 : BitVec 8) :
    Same [.routing, .tiles, .sched, .ports, .wqs, .cqs, .coll, .trans, .insts, .hearth, .quench, .counters, .mem, .poison, .free, .out] (State.endOps a1 a2 a3) a1 := by
  unfold State.endOps
  split
  · exact Same.refl _ _
  · refine Same.foldl ?_ _ ?_
    · intro y7
      intro y8
      refine Same.foldl ?_ _ ?_
      · intro y9
        intro y10
        exact Same.ite (Same.refl _ _) (Same.step (State.endPart_same ..) rfl (Same.refl _ _))
      · exact Same.refl _ _
    · exact Same.refl _ _

theorem State.abortHere_same (a1 : State) (a2 : Nat) (a3 : ModId) :
    Same [.routing, .tiles, .sched, .ports, .wqs, .cqs, .coll, .trans, .insts, .hearth, .quench, .counters, .mem, .poison, .free, .out] (State.abortHere a1 a2 a3) a1 := by
  unfold State.abortHere
  split
  · exact Same.refl _ _
  · refine Same.ite ?_ ?_
    · exact Same.refl _ _
    · extract_lets +onlyGivenNames x7
      have h7 : Same [.routing, .tiles, .sched, .ports, .wqs, .cqs, .coll, .trans, .insts, .hearth,   .quench, .counters, .mem, .poison, .free, .out] x7 a1 := by
        unfold x7
        exact Same.step (State.modGroup_same ..) rfl (Same.step (State.endOps_same ..) rfl (Same.refl _ _))
      clear_value x7
      exact Same.step (State.raise_same ..) rfl (Same.setColl rfl (by assumption))

theorem State.abortGroup_same (a1 : State) (a2 : Nat) (a3 : ModId) :
    Same [.routing, .tiles, .sched, .ports, .wqs, .cqs, .coll, .trans, .insts, .hearth, .quench, .counters, .mem, .poison, .free, .out] (State.abortGroup a1 a2 a3) a1 := by
  unfold State.abortGroup
  split
  · exact Same.refl _ _
  · extract_lets +onlyGivenNames x7
    have h7 : Same [.routing, .tiles, .sched, .ports, .wqs, .cqs, .coll, .trans, .insts, .hearth,   .quench, .counters, .mem, .poison, .free, .out] x7 a1 := by
      unfold x7
      exact Same.step (State.abortHere_same ..) rfl (Same.refl _ _)
    clear_value x7
    refine Same.foldl ?_ _ ?_
    · intro y9
      intro y10
      exact Same.step (State.sendCtrl_same ..) rfl (Same.refl _ _)
    · assumption

theorem State.recover_same (a1 : State) (a2 : Nat) (a3 : BitVec 16) (a4 : Option ModId) :
    Same [.routing, .tiles, .sched, .ports, .wqs, .cqs, .coll, .trans, .insts, .hearth, .quench, .counters, .mem, .poison, .free, .out] (State.recover a1 a2 a3 a4) a1 := by
  unfold State.recover
  split
  · exact Same.refl _ _
  · refine Same.ite ?_ ?_
    · exact Same.refl _ _
    · split
      · exact Same.step (State.abortGroup_same ..) rfl (Same.refl _ _)
      · extract_lets +onlyGivenNames x10
        clear_value x10
        extract_lets +onlyGivenNames x11
        have h11 : Same [.routing, .tiles, .sched, .ports, .wqs, .cqs, .coll, .trans, .insts, .hearth, .quench, .counters, .mem, .poison, .free, .out] x11 a1 := by
          unfold x11
          exact Same.step (State.modGroup_same ..) rfl (Same.refl _ _)
        clear_value x11
        refine Same.ite ?_ ?_
        · assumption
        · refine Same.foldl ?_ _ ?_
          · intro y13
            intro y14
            exact Same.step (State.sendCtrl_same ..) rfl (Same.refl _ _)
          · assumption

theorem State.partialLost_same (a1 : State) (a2 : Nat) (a3 : BitVec 16) :
    Same [.routing, .tiles, .sched, .ports, .wqs, .cqs, .coll, .trans, .insts, .hearth, .quench, .counters, .mem, .poison, .free, .out] (State.partialLost a1 a2 a3) a1 := by
  unfold State.partialLost
  split
  · exact Same.refl _ _
  · extract_lets +onlyGivenNames x8
    have h8 : Same [.routing, .tiles, .sched, .ports, .wqs, .cqs, .coll, .trans, .insts, .hearth, .quench, .counters, .mem, .poison, .free, .out] x8 a1 := by
      unfold x8
      exact Same.step (State.modOp_same ..) rfl (Same.refl _ _)
    clear_value x8
    exact Same.ite (Same.step (State.recover_same ..) rfl (by assumption)) (Same.step (State.sendCtrl_same ..) rfl (by assumption))

theorem execCollDestroy_same (a1 : Packet) (a2 : State) :
    SameNext [.routing, .tiles, .sched, .ports, .wqs, .cqs, .coll, .trans, .insts, .hearth, .quench, .counters, .mem, .poison, .free, .out] (execCollDestroy a1 a2) a2 := by
  unfold execCollDestroy
  refine ctrlRow_same rfl ?_
  intro y3
  intro y4
  intro y5
  split
  · exact Same.refl _ _
  · extract_lets +onlyGivenNames x10
    have h10 : Same [.routing, .tiles, .sched, .ports, .wqs, .cqs, .coll, .trans, .insts, .hearth,   .quench, .counters, .mem, .poison, .free, .out] x10 y3 := by
      unfold x10
      exact Same.step (State.endOps_same ..) rfl (Same.refl _ _)
    clear_value x10
    exact Same.setColl rfl (by assumption)

theorem State.probe_same (a1 : State) (a2 : Nat) (a3 : BitVec 16) (a4 : List ModId) :
    Same [.routing, .tiles, .sched, .ports, .wqs, .cqs, .coll, .trans, .insts, .hearth, .quench, .counters, .mem, .poison, .free, .out] (State.probe a1 a2 a3 a4) a1 := by
  unfold State.probe
  split
  · exact Same.refl _ _
  · extract_lets +onlyGivenNames x9
    clear_value x9
    extract_lets +onlyGivenNames x10
    have h10 : Same [.routing, .tiles, .sched, .ports, .wqs, .cqs, .coll, .trans, .insts, .hearth, .quench, .counters, .mem, .poison, .free, .out] x10 a1 := by
      unfold x10
      exact Same.step (State.modOp_same ..) rfl (Same.refl _ _)
    clear_value x10
    extract_lets +onlyGivenNames x12
    have h12 : Same [.routing, .tiles, .sched, .ports, .wqs, .cqs, .coll, .trans, .insts, .hearth, .quench, .counters, .mem, .poison, .free, .out] x12 a1 := by
      unfold x12
      refine Same.foldl ?_ _ ?_
      · intro y13
        intro y14
        exact Same.step (State.sendCtrl_same ..) rfl (Same.refl _ _)
      · assumption
    clear_value x12
    split
    · exact Same.step (State.recover_same ..) rfl (by assumption)
    · assumption

theorem execCollStall_same (a1 : Packet) (a2 : State) :
    SameNext [.routing, .tiles, .sched, .ports, .wqs, .cqs, .coll, .striker, .trans, .insts, .hearth, .quench, .counters, .mem, .poison, .free, .out] (execCollStall a1 a2) a2 := by
  unfold execCollStall
  refine ctrlRow_same rfl ?_
  intro y3
  intro y4
  intro y5
  split
  · exact Same.refl _ _
  · refine Same.ite ?_ ?_
    · exact Same.refl _ _
    · extract_lets +onlyGivenNames x10
      have h10 : Same [.routing, .tiles, .sched, .ports, .wqs, .cqs, .coll, .striker, .trans, .insts, .hearth, .quench, .counters, .mem, .poison, .free, .out] x10 y3 := by
        unfold x10
        exact Same.step (State.ensureOp_same ..) rfl (Same.step (State.countStall_same ..) rfl (Same.refl _ _))
      clear_value x10
      extract_lets +onlyGivenNames x12
      clear_value x12
      extract_lets +onlyGivenNames x13
      have h13 : Same [.routing, .tiles, .sched, .ports, .wqs, .cqs, .coll, .striker, .trans, .insts, .hearth, .quench, .counters, .mem, .poison, .free, .out] x13 y3 := by
        unfold x13
        exact Same.step (State.modOp_same ..) rfl (by assumption)
      clear_value x13
      exact Same.ite (Same.step (State.recover_same ..) rfl (by assumption)) (Same.step (State.probe_same ..) rfl (by assumption))

theorem State.treeEntry_same (a1 : State) (a2 : Group) (a3 : List CollNode) (a4 : ModId) :
    Same [.free] (State.treeEntry a1 a2 a3 a4).2 a1 := by
  unfold State.treeEntry
  extract_lets +onlyGivenNames x5
  clear_value x5
  extract_lets +onlyGivenNames x6
  clear_value x6
  split
  dsimp only
  refine Same.ofSnd (by assumption) ?_
  refine Same.iteSnd ?_ ?_
  · dsimp only
    exact Same.refl _ _
  · exact Same.step (State.drawFree_same ..) rfl (Same.refl _ _)

theorem State.installed_same (a1 : State) (a2 : Nat) :
    Same [.routing, .tiles, .sched, .ports, .wqs, .cqs, .coll, .trans, .insts, .hearth, .quench, .counters, .mem, .poison, .free, .out] (State.installed a1 a2) a1 := by
  unfold State.installed
  split
  · exact Same.refl _ _
  · split
    · refine Same.ite ?_ ?_
      · extract_lets +onlyGivenNames x10
        have h10 : Same [.routing, .tiles, .sched, .ports, .wqs, .cqs, .coll, .trans, .insts, .hearth,   .quench, .counters, .mem, .poison, .free, .out] x10 a1 := by
          unfold x10
          refine Same.foldl ?_ _ ?_
          · intro y11
            intro y12
            exact Same.step (State.sendCtrl_same ..) rfl (Same.refl _ _)
          · exact Same.refl _ _
        clear_value x10
        extract_lets +onlyGivenNames x12
        have h12 : Same [.routing, .tiles, .sched, .ports, .wqs, .cqs, .coll, .trans, .insts, .hearth,   .quench, .counters, .mem, .poison, .free, .out] x12 a1 := by
          unfold x12
          split
          · exact Same.step (State.reply_same ..) rfl (by assumption)
          · assumption
        clear_value x12
        exact Same.ite (Same.step (State.modGroup_same ..) rfl (by assumption)) (Same.setColl rfl (by assumption))
      · refine Same.ite ?_ ?_
        · exact Same.step (State.abortGroup_same ..) rfl (Same.step (State.modGroup_same ..) rfl (Same.refl _ _))
        · exact Same.step (State.modGroup_same ..) rfl (Same.refl _ _)
    · extract_lets +onlyGivenNames x8
      have h8 : Same [.routing, .tiles, .sched, .ports, .wqs, .cqs, .coll, .trans, .insts, .hearth,   .quench, .counters, .mem, .poison, .free, .out] x8 a1 := by
        unfold x8
        exact Same.step (State.modGroup_same ..) rfl (Same.refl _ _)
      clear_value x8
      refine Same.ite ?_ ?_
      · split
        · exact Same.step (State.reply_same ..) rfl (Same.step (State.modGroup_same ..) rfl (by assumption))
        · assumption
      · refine Same.ite ?_ ?_
        · refine Same.foldl ?_ _ ?_
          · intro y10
            intro y11
            exact Same.step (State.sendCtrl_same ..) rfl (Same.refl _ _)
          · assumption
        · refine Same.foldl ?_ _ ?_
          · intro y10
            intro y11
            exact Same.step (State.sendCtrl_same ..) rfl (Same.refl _ _)
          · assumption

theorem State.ackIn_same (a1 : State) (a2 : Nat) (a3 : ModId) (a4 : Option (Option Endpoint)) :
    Same [.routing, .tiles, .sched, .ports, .wqs, .cqs, .coll, .trans, .insts, .hearth, .quench, .counters, .mem, .poison, .free, .out] (State.ackIn a1 a2 a3 a4) a1 := by
  unfold State.ackIn
  split
  · exact Same.refl _ _
  · refine Same.ite ?_ ?_
    · exact Same.refl _ _
    · extract_lets +onlyGivenNames x8
      have h8 : Same [.routing, .tiles, .sched, .ports, .wqs, .cqs, .coll, .trans, .insts, .hearth, .quench, .counters, .mem, .poison, .free, .out] x8 a1 := by
        unfold x8
        exact Same.step (State.modGroup_same ..) rfl (Same.refl _ _)
      clear_value x8
      refine Same.ite ?_ ?_
      · exact Same.step (State.installed_same ..) rfl (by assumption)
      · assumption

theorem State.sendInstalls_same (a1 : State) (a2 : Nat) (a3 : Group) (a4 : Bool) (a5 : List CollNode) :
    Same [.routing, .tiles, .sched, .ports, .wqs, .cqs, .coll, .trans, .insts, .hearth, .quench, .counters, .mem, .poison, .free, .out] (State.sendInstalls a1 a2 a3 a4 a5) a1 := by
  unfold State.sendInstalls
  extract_lets +onlyGivenNames x6
  clear_value x6
  extract_lets +onlyGivenNames x7
  clear_value x7
  extract_lets +onlyGivenNames x8
  clear_value x8
  extract_lets +onlyGivenNames x9
  clear_value x9
  extract_lets +onlyGivenNames x10
  clear_value x10
  extract_lets +onlyGivenNames x11
  clear_value x11
  extract_lets +onlyGivenNames x12
  have h12 : Same [.routing, .tiles, .sched, .ports, .wqs, .cqs, .coll, .trans, .insts, .hearth, .quench, .counters, .mem, .poison, .free, .out] x12 a1 := by
    unfold x12
    exact Same.setColl rfl (Same.refl _ _)
  clear_value x12
  extract_lets +onlyGivenNames x14
  have h14 : Same [.routing, .tiles, .sched, .ports, .wqs, .cqs, .coll, .trans, .insts, .hearth, .quench, .counters, .mem, .poison, .free, .out] x14 a1 := by
    unfold x14
    refine Same.foldl ?_ _ ?_
    · intro y15
      intro y16
      exact Same.step (State.sendCtrl_same ..) rfl (Same.refl _ _)
    · assumption
  clear_value x14
  extract_lets +onlyGivenNames x16
  clear_value x16
  extract_lets +onlyGivenNames x17
  have h17 : Same [.routing, .tiles, .sched, .ports, .wqs, .cqs, .coll, .trans, .insts, .hearth, .quench, .counters, .mem, .poison, .free, .out] x17 a1 := by
    unfold x17
    refine Same.foldl ?_ _ ?_
    · intro y18
      intro y19
      split
      extract_lets +onlyGivenNames x24
      clear_value x24
      refine Same.step (State.sendCtrl_same ..) rfl (Same.ofSnd (by assumption) ?_)
      refine Same.iteSnd ?_ ?_
      · dsimp only
        exact Same.refl _ _
      · split
        dsimp only
        exact Same.ofSnd (by assumption) (Same.step (State.treeEntry_same ..) rfl (Same.refl _ _))
    · assumption
  clear_value x17
  refine Same.foldl ?_ _ ?_
  · intro y19
    intro y20
    exact Same.step (State.ackIn_same ..) rfl (Same.refl _ _)
  · assumption

theorem State.placeShape_same (a1 : State) (a2 : Nat) :
    Same [.routing, .tiles, .sched, .ports, .wqs, .cqs, .coll, .striker, .trans, .insts, .hearth, .quench, .counters, .mem, .poison, .free, .out] (State.placeShape a1 a2) a1 := by
  unfold State.placeShape
  split
  · exact Same.refl _ _
  · extract_lets +onlyGivenNames x6
    clear_value x6
    split
    extract_lets +onlyGivenNames x11
    clear_value x11
    extract_lets +onlyGivenNames x12
    clear_value x12
    extract_lets +onlyGivenNames x13
    have h13 : Same [.routing, .tiles, .sched, .ports, .wqs, .cqs, .coll, .striker, .trans, .insts, .hearth, .quench, .counters, .mem, .poison, .free, .out] x13 a1 := by
      unfold x13
      exact Same.step (State.logPlace_same ..) rfl (Same.refl _ _)
    clear_value x13
    exact Same.step (State.sendInstalls_same ..) rfl (by assumption)

theorem State.summaryKnown_same (a1 : State) (a2 : ModId) :
    Same [.routing, .tiles, .sched, .ports, .wqs, .cqs, .coll, .striker, .trans, .insts, .hearth, .quench, .counters, .mem, .poison, .free, .out] (State.summaryKnown a1 a2) a1 := by
  unfold State.summaryKnown
  refine Same.foldl ?_ _ ?_
  · intro y3
    intro y4
    refine Same.ite ?_ ?_
    · extract_lets +onlyGivenNames x5
      have h5 : Same [.routing, .tiles, .sched, .ports, .wqs, .cqs, .coll, .striker, .trans, .insts, .hearth, .quench, .counters, .mem, .poison, .free, .out] x5 y3 := by
        unfold x5
        exact Same.step (State.modGroup_same ..) rfl (Same.refl _ _)
      clear_value x5
      refine Same.ite ?_ ?_
      · exact Same.step (State.placeShape_same ..) rfl (by assumption)
      · assumption
    · exact Same.refl _ _
  · exact Same.refl _ _

theorem State.ackInstall_same (a1 : State) (a2 : ModId) (a3 : BitVec 24) (a4 : Option Endpoint) :
    Same [.routing, .tiles, .sched, .quench, .counters] (State.ackInstall a1 a2 a3 a4) a1 := by
  unfold State.ackInstall
  exact Same.step (State.sendCtrl_same ..) rfl (Same.refl _ _)

theorem execCollInstall_same (a1 : Packet) (a2 : State) :
    SameNext [.routing, .tiles, .sched, .coll, .quench, .counters] (execCollInstall a1 a2) a2 := by
  unfold execCollInstall
  refine ctrlRow_same rfl ?_
  intro y3
  intro y4
  intro y5
  split
  · exact Same.refl _ _
  · extract_lets +onlyGivenNames x9
    clear_value x9
    split
    · exact Same.step (State.ackInstall_same ..) rfl (Same.refl _ _)
    · extract_lets +onlyGivenNames x12
      clear_value x12
      split
      · exact Same.step (State.ackInstall_same ..) rfl (Same.refl _ _)
      · extract_lets +onlyGivenNames x15
        clear_value x15
        extract_lets +onlyGivenNames x16
        clear_value x16
        extract_lets +onlyGivenNames x17
        clear_value x17
        extract_lets +onlyGivenNames x18
        have h18 : Same [.routing, .tiles, .sched, .coll, .quench, .counters] x18 y3 := by
          unfold x18
          exact Same.setRoutingColl rfl rfl (Same.refl _ _)
        clear_value x18
        exact Same.step (State.ackInstall_same ..) rfl (by assumption)

theorem execCollCfg_same (a1 : Call) (a2 : Word) (a3 : State) :
    SameNext [.routing, .tiles, .sched, .ports, .coll, .hearth, .quench, .counters, .out] (execCollCfg a1 a2 a3) a3 := by
  unfold execCollCfg
  refine fleso_same rfl ?_
  intro y4
  intro y5
  extract_lets +onlyGivenNames x6
  clear_value x6
  extract_lets +onlyGivenNames x7
  clear_value x7
  split
  · dsimp only
    exact Same.refl _ _
  · dsimp only
    exact Same.setColl rfl (Same.refl _ _)

theorem State.collFenced_same (a1 : State) (a2 : ModId) :
    Same [.routing, .tiles, .sched, .ports, .wqs, .cqs, .coll, .trans, .insts, .hearth, .quench, .counters, .mem, .poison, .free, .out] (State.collFenced a1 a2) a1 := by
  unfold State.collFenced
  refine Same.foldl ?_ _ ?_
  · intro y3
    intro y4
    extract_lets +onlyGivenNames x5
    clear_value x5
    refine Same.ite ?_ ?_
    · extract_lets +onlyGivenNames x6
      have h6 : Same [.routing, .tiles, .sched, .ports, .wqs, .cqs, .coll, .trans, .insts, .hearth,   .quench, .counters, .mem, .poison, .free, .out] x6 y3 := by
        unfold x6
        split
        · exact Same.step (State.recover_same ..) rfl (Same.refl _ _)
        · exact Same.refl _ _
      clear_value x6
      extract_lets +onlyGivenNames x8
      have h8 : Same [.routing, .tiles, .sched, .ports, .wqs, .cqs, .coll, .trans, .insts, .hearth,   .quench, .counters, .mem, .poison, .free, .out] x8 y3 := by
        unfold x8
        exact Same.step (State.ackIn_same ..) rfl (by assumption)
      clear_value x8
      refine Same.ite ?_ ?_
      · exact Same.step (State.abortGroup_same ..) rfl (by assumption)
      · assumption
    · exact Same.ite (Same.step (State.abortHere_same ..) rfl (Same.refl _ _)) (Same.refl _ _)
  · exact Same.refl _ _

theorem execCollProbeAnswer_same (a1 : Packet) (a2 : State) :
    SameNext [.routing, .tiles, .sched, .ports, .wqs, .cqs, .coll, .trans, .insts, .hearth, .quench, .counters, .mem, .poison, .free, .out] (execCollProbeAnswer a1 a2) a2 := by
  unfold execCollProbeAnswer
  refine ctrlRow_same rfl ?_
  intro y3
  intro y4
  intro y5
  split
  · exact Same.refl _ _
  · refine Same.ite ?_ ?_
    · exact Same.refl _ _
    · split
      · exact Same.step (State.ackIn_same ..) rfl (Same.refl _ _)
      · exact Same.step (State.probe_same ..) rfl (Same.refl _ _)

theorem execCollFinalQuery_same (a1 : Packet) (a2 : State) :
    SameNext [.routing, .tiles, .sched, .coll, .quench, .counters] (execCollFinalQuery a1 a2) a2 := by
  unfold execCollFinalQuery
  refine ctrlRow_same rfl ?_
  intro y3
  intro y4
  intro y5
  split
  · exact Same.refl _ _
  · extract_lets +onlyGivenNames x10
    clear_value x10
    exact Same.step (State.sendCtrl_same ..) rfl (Same.refl _ _)

theorem State.querySummary_same (a1 : State) (a2 : ModId) :
    Same [.routing, .tiles, .sched, .striker, .quench, .counters] (State.querySummary a1 a2) a1 := by
  unfold State.querySummary
  extract_lets +onlyGivenNames x3
  clear_value x3
  exact Same.step (State.sendTc3_same ..) rfl (Same.setStriker rfl id (Same.refl _ _))

theorem State.drawModule_same (a1 : State) (a2 : Nat) (a3 : ModId) :
    Same [.free] (State.drawModule a1 a2 a3).2 a1 := by
  unfold State.drawModule
  extract_lets +onlyGivenNames x4
  clear_value x4
  split
  split
  extract_lets +onlyGivenNames x14
  clear_value x14
  extract_lets +onlyGivenNames x15
  clear_value x15
  extract_lets +onlyGivenNames x16
  clear_value x16
  dsimp only
  exact Same.ofSnd (by assumption) (Same.step (State.drawFree_same ..) rfl (Same.refl _ _))

theorem State.drawOthers_same (a1 : State) (a2 : Group) :
    Same [.free] (State.drawOthers a1 a2).2 a1 := by
  unfold State.drawOthers
  refine Same.foldlSnd ?_ _ ?_
  · rintro ⟨y3, z3⟩
    intro y5
    dsimp only
    refine Same.foldlSnd ?_ _ ?_
    · rintro ⟨y6, z6⟩
      intro y8
      dsimp only
      exact Same.step (State.drawModule_same ..) rfl (Same.refl _ _)
    · dsimp only
      exact Same.refl _ _
  · dsimp only
    exact Same.refl _ _

theorem State.beginPlacing_same (a1 : State) (a2 : Nat) (a3 : Nat) :
    Same [.routing, .tiles, .sched, .ports, .wqs, .cqs, .coll, .striker, .trans, .insts, .hearth, .quench, .counters, .mem, .poison, .free, .out] (State.beginPlacing a1 a2 a3) a1 := by
  unfold State.beginPlacing
  split
  · exact Same.refl _ _
  · split
    extract_lets +onlyGivenNames x11
    clear_value x11
    extract_lets +onlyGivenNames x12
    clear_value x12
    extract_lets +onlyGivenNames x13
    have h13 : Same [.routing, .tiles, .sched, .ports, .wqs, .cqs, .coll, .striker, .trans, .insts, .hearth, .quench, .counters, .mem, .poison, .free, .out] x13 a1 := by
      unfold x13
      refine Same.step (State.modGroup_same ..) rfl (Same.ofSnd (by assumption) ?_)
      refine Same.iteSnd ?_ ?_
      · dsimp only
        exact Same.refl _ _
      · exact Same.step (State.drawOthers_same ..) rfl (Same.refl _ _)
    clear_value x13
    extract_lets +onlyGivenNames x15
    have h15 : Same [.routing, .tiles, .sched, .ports, .wqs, .cqs, .coll, .striker, .trans, .insts, .hearth, .quench, .counters, .mem, .poison, .free, .out] x15 a1 := by
      unfold x15
      refine Same.foldl ?_ _ ?_
      · intro y16
        intro y17
        exact Same.ite (Same.refl _ _) (Same.step (State.querySummary_same ..) rfl (Same.refl _ _))
      · assumption
    clear_value x15
    refine Same.ite ?_ ?_
    · exact Same.step (State.placeShape_same ..) rfl (by assumption)
    · assumption

theorem State.recoverOn_same (a1 : State) (a2 : Nat) :
    Same [.routing, .tiles, .sched, .ports, .wqs, .cqs, .coll, .striker, .trans, .insts, .hearth, .quench, .counters, .mem, .poison, .free, .out] (State.recoverOn a1 a2) a1 := by
  unfold State.recoverOn
  split
  · exact Same.refl _ _
  · extract_lets +onlyGivenNames x6
    clear_value x6
    extract_lets +onlyGivenNames x7
    clear_value x7
    extract_lets +onlyGivenNames x8
    have h8 : Same [.routing, .tiles, .sched, .ports, .wqs, .cqs, .coll, .striker, .trans, .insts, .hearth, .quench, .counters, .mem, .poison, .free, .out] x8 a1 := by
      unfold x8
      refine Same.foldl ?_ _ ?_
      · intro y9
        intro y10
        extract_lets +onlyGivenNames x11
        clear_value x11
        extract_lets +onlyGivenNames x12
        clear_value x12
        extract_lets +onlyGivenNames x13
        clear_value x13
        exact Same.ite (Same.refl _ _) (Same.step (State.sendCtrl_same ..) rfl (Same.refl _ _))
      · exact Same.refl _ _
    clear_value x8
    extract_lets +onlyGivenNames x10
    clear_value x10
    exact Same.step (State.beginPlacing_same ..) rfl (Same.step (State.modGroup_same ..) rfl (by assumption))

theorem execGroupCreate_same (a1 : Call) (a2 : BitVec 24) (a3 : Word) (a4 : Nat) (a5 : BitVec 2) (a6 : BitVec 13) (a7 : BitVec 13) (a8 : Option ModId) (a9 : Nat) (a10 : Bool) (a11 : State) :
    SameNext [.routing, .tiles, .sched, .ports, .wqs, .cqs, .coll, .striker, .trans, .insts, .hearth, .quench, .counters, .mem, .poison, .free, .out] (execGroupCreate a1 a2 a3 a4 a5 a6 a7 a8 a9 a10 a11) a11 := by
  unfold execGroupCreate
  refine fleso_same rfl ?_
  intro y12
  intro y13
  extract_lets +onlyGivenNames x14
  clear_value x14
  extract_lets +onlyGivenNames x15
  clear_value x15
  extract_lets +onlyGivenNames x16
  clear_value x16
  extract_lets +onlyGivenNames x17
  clear_value x17
  refine Same.iteFst ?_ ?_
  · dsimp only
    exact Same.refl _ _
  · refine Same.iteFst ?_ ?_
    · dsimp only
      exact Same.refl _ _
    · refine Same.iteFst ?_ ?_
      · dsimp only
        exact Same.refl _ _
      · refine Same.iteFst ?_ ?_
        · dsimp only
          exact Same.refl _ _
        · refine Same.iteFst ?_ ?_
          · dsimp only
            exact Same.refl _ _
          · refine Same.iteFst ?_ ?_
            · dsimp only
              exact Same.refl _ _
            · refine Same.iteFst ?_ ?_
              · dsimp only
                exact Same.refl _ _
              · refine Same.iteFst ?_ ?_
                · dsimp only
                  exact Same.refl _ _
                · split
                  · dsimp only
                    exact Same.refl _ _
                  · extract_lets +onlyGivenNames x21
                    clear_value x21
                    dsimp only
                    exact Same.step (State.beginPlacing_same ..) rfl (Same.setColl rfl (Same.refl _ _))

theorem execCollProbe_same (a1 : Packet) (a2 : State) :
    SameNext [.routing, .tiles, .sched, .coll, .quench, .counters] (execCollProbe a1 a2) a2 := by
  unfold execCollProbe
  refine ctrlRow_same rfl ?_
  intro y3
  intro y4
  intro y5
  split
  · exact Same.refl _ _
  · extract_lets +onlyGivenNames x10
    clear_value x10
    extract_lets +onlyGivenNames x11
    clear_value x11
    exact Same.step (State.sendCtrl_same ..) rfl (Same.refl _ _)

theorem execCollAbort_same (a1 : Packet) (a2 : State) :
    SameNext [.routing, .tiles, .sched, .ports, .wqs, .cqs, .coll, .trans, .insts, .hearth, .quench, .counters, .mem, .poison, .free, .out] (execCollAbort a1 a2) a2 := by
  unfold execCollAbort
  refine ctrlRow_same rfl ?_
  intro y3
  intro y4
  intro y5
  split
  · exact Same.refl _ _
  · exact Same.ite (Same.step (State.abortGroup_same ..) rfl (Same.refl _ _)) (Same.step (State.abortHere_same ..) rfl (Same.refl _ _))

theorem State.memberLost_same (a1 : State) (a2 : Nat) :
    Same [.routing, .tiles, .sched, .ports, .wqs, .cqs, .coll, .trans, .insts, .hearth, .quench, .counters, .mem, .poison, .free, .out] (State.memberLost a1 a2) a1 := by
  unfold State.memberLost
  extract_lets +onlyGivenNames x3
  extract_lets +onlyGivenNames x4
  refine Same.foldl ?_ _ ?_
  · intro y5
    intro y6
    refine Same.ite ?_ ?_
    · exact Same.refl _ _
    · refine Same.ite ?_ ?_
      · exact Same.step (State.abortGroup_same ..) rfl (Same.refl _ _)
      · exact Same.step (State.sendCtrl_same ..) rfl (Same.step (State.abortHere_same ..) rfl (Same.refl _ _))
  · exact Same.refl _ _

theorem execGroupDestroy_same (a1 : Call) (a2 : BitVec 24) (a3 : State) :
    SameNext [.routing, .tiles, .sched, .ports, .hearth, .quench, .counters, .out] (execGroupDestroy a1 a2 a3) a3 := by
  unfold execGroupDestroy
  refine fleso_same rfl ?_
  intro y4
  intro y5
  split
  · dsimp only
    exact Same.refl _ _
  · refine Same.iteFst ?_ ?_
    · dsimp only
      exact Same.refl _ _
    · dsimp only
      refine Same.foldl ?_ _ ?_
      · intro y10
        intro y11
        exact Same.step (State.sendCtrl_same ..) rfl (Same.refl _ _)
      · exact Same.refl _ _

theorem execShapeCompare_same (a1 : BitVec 24) (a2 : Ticks) (a3 : Nat) (a4 : State) :
    SameNext [.routing, .tiles, .sched, .time, .ports, .wqs, .cqs, .coll, .striker, .trans, .insts, .hearth, .quench, .counters, .mem, .poison, .free, .out] (execShapeCompare a1 a2 a3 a4) a4 := by
  unfold execShapeCompare
  extract_lets +onlyGivenNames x5
  have h5 : Same [.routing, .tiles, .sched, .time, .ports, .wqs, .cqs, .coll, .striker, .trans, .insts, .hearth, .quench, .counters, .mem, .poison, .free, .out] x5 a4 := by
    unfold x5
    exact Same.step (State.advance_same ..) rfl (Same.refl _ _)
  clear_value x5
  split
  · exact SameNext.next (by assumption)
  · refine SameNext.ite ?_ ?_
    · exact SameNext.next (by assumption)
    · extract_lets +onlyGivenNames x11
      clear_value x11
      extract_lets +onlyGivenNames x12
      clear_value x12
      extract_lets +onlyGivenNames x13
      have h13 : Same [.routing, .tiles, .sched, .time, .ports, .wqs, .cqs, .coll, .striker, .trans, .insts, .hearth, .quench, .counters, .mem, .poison, .free, .out] x13 a4 := by
        unfold x13
        exact Same.step (State.modGroup_same ..) rfl (by assumption)
      clear_value x13
      extract_lets +onlyGivenNames x15
      clear_value x15
      refine SameNext.ite ?_ ?_
      · exact SameNext.next (Same.step (State.beginPlacing_same ..) rfl (Same.step (State.modGroup_same ..) rfl (by assumption)))
      · exact SameNext.next (by assumption)

theorem execCollTimeout_same (a1 : BitVec 24) (a2 : BitVec 16) (a3 : Ticks) (a4 : State) :
    SameNext [.routing, .tiles, .sched, .time, .coll, .quench, .counters] (execCollTimeout a1 a2 a3 a4) a4 := by
  unfold execCollTimeout
  extract_lets +onlyGivenNames x5
  have h5 : Same [.routing, .tiles, .sched, .time, .coll, .quench, .counters] x5 a4 := by
    unfold x5
    exact Same.step (State.advance_same ..) rfl (Same.refl _ _)
  clear_value x5
  split
  · exact SameNext.next (by assumption)
  · split
    · exact SameNext.next (by assumption)
    · refine SameNext.ite ?_ ?_
      · exact SameNext.next (by assumption)
      · extract_lets +onlyGivenNames x14
        have h14 : Same [.routing, .tiles, .sched, .time, .coll, .quench, .counters] x14 a4 := by
          unfold x14
          exact Same.step (State.modOp_same ..) rfl (by assumption)
        clear_value x14
        exact SameNext.next (Same.step (State.sendCtrl_same ..) rfl (Same.step (State.countStall_same ..) rfl (by assumption)))

theorem execCollFinalAnswer_same (a1 : Packet) (a2 : State) :
    SameNext [.routing, .tiles, .sched, .ports, .wqs, .cqs, .remote, .coll, .striker, .trans, .insts, .hearth, .quench, .counters, .mem, .poison, .free, .out] (execCollFinalAnswer a1 a2) a2 := by
  unfold execCollFinalAnswer
  refine ctrlRow_same rfl ?_
  intro y3
  intro y4
  intro y5
  split
  · exact Same.refl _ _
  · refine Same.ite ?_ ?_
    · split
      · exact Same.refl _ _
      · refine Same.foldl ?_ _ ?_
        · intro y13
          intro y14
          split
          · exact Same.refl _ _
          · extract_lets +onlyGivenNames x18
            clear_value x18
            refine Same.foldl ?_ _ ?_
            · intro y19
              intro y20
              exact Same.step (State.collSend_same ..) rfl (Same.refl _ _)
            · exact Same.refl _ _
        · exact Same.refl _ _
    · refine Same.ite ?_ ?_
      · exact Same.refl _ _
      · extract_lets +onlyGivenNames x10
        have h10 : Same [.routing, .tiles, .sched, .ports, .wqs, .cqs, .remote, .coll, .striker, .trans, .insts, .hearth, .quench, .counters, .mem, .poison, .free, .out] x10 y3 := by
          unfold x10
          exact Same.step (State.modGroup_same ..) rfl (Same.refl _ _)
        clear_value x10
        refine Same.ite ?_ ?_
        · exact Same.step (State.recoverOn_same ..) rfl (by assumption)
        · assumption

theorem execCollRestart_same (a1 : Packet) (a2 : State) :
    SameNext [.routing, .tiles, .sched, .ports, .wqs, .cqs, .remote, .coll, .trans, .insts, .hearth, .quench, .counters, .mem, .poison, .free, .out] (execCollRestart a1 a2) a2 := by
  unfold execCollRestart
  refine ctrlRow_same rfl ?_
  intro y3
  intro y4
  intro y5
  split
  · exact Same.refl _ _
  · refine Same.ite ?_ ?_
    · exact Same.refl _ _
    · extract_lets +onlyGivenNames x10
      clear_value x10
      extract_lets +onlyGivenNames x11
      have h11 : Same [.routing, .tiles, .sched, .ports, .wqs, .cqs, .remote, .coll, .trans, .insts, .hearth, .quench, .counters, .mem, .poison, .free, .out] x11 y3 := by
        unfold x11
        exact Same.step (State.modGroup_same ..) rfl (Same.refl _ _)
      clear_value x11
      extract_lets +onlyGivenNames x13
      clear_value x13
      extract_lets +onlyGivenNames x14
      have h14 : Same [.routing, .tiles, .sched, .ports, .wqs, .cqs, .remote, .coll, .trans, .insts, .hearth, .quench, .counters, .mem, .poison, .free, .out] x14 y3 := by
        unfold x14
        exact Same.setColl rfl (by assumption)
      clear_value x14
      extract_lets +onlyGivenNames x16
      clear_value x16
      refine Same.foldl ?_ _ ?_
      · intro y17
        intro y18
        exact Same.step (State.checkDone_same ..) rfl (Same.step (State.collStatus_same ..) rfl (Same.step (State.contribute_same ..) rfl (Same.refl _ _)))
      · assumption

theorem execCollSwitch_same (a1 : Packet) (a2 : State) :
    SameNext [.routing, .coll, .quench, .counters] (execCollSwitch a1 a2) a2 := by
  unfold execCollSwitch
  refine ctrlRow_same rfl ?_
  intro y3
  intro y4
  intro y5
  split
  · exact Same.refl _ _
  · exact Same.step (State.modGroup_same ..) rfl (Same.refl _ _)

theorem execCollClose_same (a1 : Packet) (a2 : State) :
    SameNext [.routing, .coll, .quench, .counters] (execCollClose a1 a2) a2 := by
  unfold execCollClose
  refine ctrlRow_same rfl ?_
  intro y3
  intro y4
  intro y5
  split
  · exact Same.refl _ _
  · exact Same.step (State.closeOp_same ..) rfl (Same.refl _ _)

end Sys2Proof.Machine
end

