-- ==== Sys2Proof/Laws/FrameInject.lean ====
section
/-! SUPPORT. Frames of the operations and commands of Sys2Proof/Machine/Inject.lean: each changes no part of the module but those it
names, and keeps module memory canonical. -/

namespace Sys2Proof.Machine

open Sys2Proof

theorem State.refuseCast_same (a1 : State) (a2 : Packet) :
    Same [.routing, .tiles, .sched, .ports, .wqs, .cqs, .remote, .coll, .trans, .insts, .draw, .hearth, .quench, .counters, .mem, .poison, .free, .out] (State.refuseCast a1 a2) a1 := by
  unfold State.refuseCast
  extract_lets +onlyGivenNames x3
  clear_value x3
  extract_lets +onlyGivenNames x4
  extract_lets +onlyGivenNames x5
  have h5 : Same [.routing, .tiles, .sched, .ports, .wqs, .cqs, .remote, .coll, .trans, .insts, .draw, .hearth, .quench, .counters, .mem, .poison, .free, .out] x5 a1 := by
    unfold x5
    exact Same.setSched rfl id (Same.refl _ _)
  clear_value x5
  refine Same.ite ?_ ?_
  · split
    · assumption
    · extract_lets +onlyGivenNames x11
      clear_value x11
      exact Same.step (State.collStatus_same ..) rfl (Same.step (State.modOp_same ..) rfl (by assumption))
  · split
    · exact Same.step (State.finishSrc_same ..) rfl (by assumption)
    · assumption

theorem execInjectionDecision_same (a1 : BitVec 2) (a2 : State) :
    SameNext [.routing, .tiles, .sched, .ports, .wqs, .cqs, .remote, .coll, .trans, .insts, .draw, .hearth, .quench, .counters, .mem, .poison, .free, .out] (execInjectionDecision a1 a2) a2 := by
  unfold execInjectionDecision
  refine SameNext.ite (SameNext.next (Same.refl _ _)) ?_
  extract_lets heads bad s1 heads2 live v c s2 look stuck gated noteGates mark marked ready
  have h1 : Same [.routing, .tiles, .sched, .ports, .wqs, .cqs, .remote, .coll, .trans, .insts, .draw, .hearth, .quench, .counters, .mem, .poison, .free, .out] s1 a2 := by
    unfold s1
    exact Same.foldl (fun s _ => State.refuseCast_same s _) _ (Same.refl _ _)
  have h2 : Same [.routing, .tiles, .sched, .ports, .wqs, .cqs, .remote, .coll, .trans, .insts, .draw, .hearth, .quench, .counters, .mem, .poison, .free, .out] s2 a2 := by
    unfold s2
    exact Same.setSched rfl id h1
  have hg : ∀ x, Same [.routing, .tiles, .sched, .ports, .wqs, .cqs, .remote, .coll, .trans, .insts, .draw, .hearth, .quench, .counters, .mem, .poison, .free, .out] (noteGates x) x := by
    intro x
    unfold noteGates
    refine Same.foldl ?_ _ (Same.refl _ _)
    exact fun y _ => Same.step (State.count_same ..) rfl (Same.refl _ _)
  have hm : ∀ x, Same [.routing, .tiles, .sched, .ports, .wqs, .cqs, .remote, .coll, .trans, .insts, .draw, .hearth, .quench, .counters, .mem, .poison, .free, .out] (marked x) x := fun x => Same.setSched rfl id (Same.refl _ _)
  have hlook : ∀ e ∈ look, Same [.routing, .tiles, .sched, .ports, .wqs, .cqs, .remote, .coll, .trans, .insts, .draw, .hearth, .quench, .counters, .mem, .poison, .free, .out] e.2.2.1 a2 := by
    intro e he
    unfold look at he
    obtain ⟨h, _, rfl⟩ := List.mem_map.mp he
    dsimp only
    refine Same.iteFst h2 ?_
    exact Same.step (State.injectHop_same ..) rfl h2
  clear_value s2
  split
  · exact SameNext.next ((hm _).trans ((hg _).trans h2))
  · split
    · rename_i hf
      have hr : _ ∈ ready := List.mem_of_find?_eq_some hf
      have h4 := hlook _ (List.mem_filter.mp hr).1
      refine SameNext.next (Same.step (State.relook_same ..) rfl ((hm _).trans ((hg _).trans ?_)))
      exact Same.ite (Same.step (State.injectCast_same ..) rfl h2) (Same.step (State.injectNow_same ..) rfl h4)
    · exact SameNext.next ((hm _).trans ((hg _).trans h2))

end Sys2Proof.Machine
end

