-- ==== Sys2Proof/Laws/FrameReport.lean ====
section
/-! SUPPORT. Frames of the operations and commands of Sys2Proof/Machine/Report.lean: each changes no part of the module but those it
names, and keeps module memory canonical. -/

namespace Sys2Proof.Machine

open Sys2Proof

theorem State.freeArea_same (a1 : State) (a2 : Nat) :
    Same [.hearth] (State.freeArea a1 a2) a1 := by
  unfold State.freeArea
  exact Same.setHearth rfl (Same.refl _ _)

theorem State.allocArea_same {x : Nat} {t : State} {a1 : State} {a2 : Arrival} {a3 : Nat} (h : State.allocArea a1 a2 a3 = some (x, t)) :
    Same [.hearth, .mem] t a1 := by
  unfold State.allocArea at h
  obtain ⟨o, hf, ho⟩ := Option.map_eq_some_iff.mp h
  cases ho
  have := firstFit_le hf
  exact Same.setHearth rfl (Same.step (State.zeroMem_report _ _ _ (by unfold inReport; omega)) rfl (Same.refl _ _))

/-- An area lies in the report segment (R265). -/
theorem State.allocArea_in {x : Nat} {t : State} {a1 : State} {a2 : Arrival} {a3 : Nat} (h : State.allocArea a1 a2 a3 = some (x, t)) :
    x + a3 ≤ Config.segBytes := by
  unfold State.allocArea at h
  obtain ⟨o, hf, ho⟩ := Option.map_eq_some_iff.mp h
  cases ho
  exact firstFit_le hf

theorem execStageClose_same (a1 : Call) (a2 : Nat) (a3 : State) :
    SameNext [.routing, .tiles, .sched, .ports, .hearth, .quench, .counters, .out] (execStageClose a1 a2 a3) a3 := by
  unfold execStageClose
  refine fleso_same rfl ?_
  intro y4
  intro y5
  split
  · dsimp only
    exact Same.refl _ _
  · dsimp only
    exact Same.setHearth rfl (Same.refl _ _)

theorem State.noSummary_same (a1 : State) (a2 : ModId) :
    Same [.routing, .tiles, .sched, .ports, .wqs, .cqs, .coll, .striker, .trans, .insts, .hearth, .quench, .counters, .mem, .poison, .free, .out] (State.noSummary a1 a2) a1 := by
  unfold State.noSummary
  exact Same.ite (Same.step (State.summaryKnown_same ..) rfl (Same.setStriker rfl id (Same.refl _ _))) (Same.refl _ _)

theorem State.fenceStream_same (a1 : State) (a2 : StreamTx) :
    Same [.routing, .tiles, .sched, .ports, .wqs, .cqs, .coll, .striker, .trans, .insts, .hearth, .quench, .counters, .mem, .poison, .free, .out] (State.fenceStream a1 a2) a1 := by
  unfold State.fenceStream
  extract_lets +onlyGivenNames x3
  clear_value x3
  extract_lets +onlyGivenNames x4
  clear_value x4
  extract_lets +onlyGivenNames x5
  clear_value x5
  extract_lets +onlyGivenNames x6
  have h6 : Same [.routing, .tiles, .sched, .ports, .wqs, .cqs, .coll, .striker, .trans, .insts, .hearth, .quench, .counters, .mem, .poison, .free, .out] x6 a1 := by
    unfold x6
    exact Same.setRouting rfl (Same.refl _ _)
  clear_value x6
  extract_lets +onlyGivenNames x8
  have h8 : Same [.routing, .tiles, .sched, .ports, .wqs, .cqs, .coll, .striker, .trans, .insts, .hearth, .quench, .counters, .mem, .poison, .free, .out] x8 a1 := by
    unfold x8
    exact Same.step (State.pumpStreams_same ..) rfl (Same.step (State.raise_same ..) rfl (by assumption))
  clear_value x8
  refine Same.ite ?_ ?_
  · assumption
  · extract_lets +onlyGivenNames x10
    have h10 : Same [.routing, .tiles, .sched, .ports, .wqs, .cqs, .coll, .striker, .trans, .insts, .hearth, .quench, .counters, .mem, .poison, .free, .out] x10 a1 := by
      unfold x10
      exact Same.step (State.collFenced_same ..) rfl (by assumption)
    clear_value x10
    extract_lets +onlyGivenNames x12
    clear_value x12
    refine Same.step (State.noSummary_same ..) rfl ?_
    refine Same.foldl ?_ _ ?_
    · intro y13
      intro y14
      exact Same.step (State.answer_same ..) rfl (Same.refl _ _)
    · assumption

theorem execPlacementSummaryTimeout_same (a1 : ModId) (a2 : State) :
    SameNext [.routing, .tiles, .sched, .ports, .wqs, .cqs, .coll, .striker, .trans, .insts, .hearth, .quench, .counters, .mem, .poison, .free, .out] (execPlacementSummaryTimeout a1 a2) a2 := by
  unfold execPlacementSummaryTimeout
  exact SameNext.next (Same.step (State.noSummary_same ..) rfl (Same.refl _ _))

theorem execMgmtResp_same (a1 : Nat) (a2 : Packet) (a3 : State) :
    SameNext [.routing, .tiles, .sched, .ports, .wqs, .cqs, .coll, .striker, .trans, .insts, .hearth, .quench, .counters, .mem, .poison, .free, .out] (execMgmtResp a1 a2 a3) a3 := by
  unfold execMgmtResp
  refine SameNext.ite ?_ ?_
  · exact SameNext.next (Same.refl _ _)
  · extract_lets +onlyGivenNames x4
    have h4 : Same [.routing, .tiles, .sched, .ports, .wqs, .cqs, .coll, .striker, .trans, .insts, .hearth, .quench, .counters, .mem, .poison, .free, .out] x4 a3 := by
      unfold x4
      exact Same.step (State.takeArrival_same ..) rfl (Same.refl _ _)
    clear_value x4
    extract_lets +onlyGivenNames x6
    clear_value x6
    extract_lets +onlyGivenNames x7
    clear_value x7
    split
    · exact SameNext.next (Same.step (State.respond_same ..) rfl (Same.setHearth rfl (by assumption)))
    · refine SameNext.ite ?_ ?_
      · extract_lets +onlyGivenNames x10
        extract_lets +onlyGivenNames x11
        have h11 : Same [.routing, .tiles, .sched, .ports, .wqs, .cqs, .coll, .striker, .trans, .insts, .hearth, .quench, .counters, .mem, .poison, .free, .out] x11 a3 := by
          unfold x11
          exact Same.setStriker rfl id (by assumption)
        clear_value x11
        exact SameNext.next (Same.step (State.summaryKnown_same ..) rfl (by assumption))
      · exact SameNext.next (by assumption)

theorem execStrikerCfg_same (a1 : Call) (a2 : Word) (a3 : State) :
    SameNext [.routing, .tiles, .sched, .ports, .striker, .hearth, .quench, .counters, .out] (execStrikerCfg a1 a2 a3) a3 := by
  unfold execStrikerCfg
  refine fleso_same rfl ?_
  intro y4
  intro y5
  extract_lets +onlyGivenNames x6
  clear_value x6
  split
  · dsimp only
    exact Same.refl _ _
  · dsimp only
    exact Same.setStriker rfl id (Same.refl _ _)

theorem State.strayFault_same (a1 : State) :
    Same [.routing] (State.strayFault a1) a1 := by
  unfold State.strayFault
  exact Same.setRouting rfl (Same.refl _ _)

theorem execReportRead_same (a1 : Call) (a2 : BitVec 32) (a3 : Nat) (a4 : State) :
    SameNext [.routing, .tiles, .sched, .ports, .hearth, .quench, .counters, .out] (execReportRead a1 a2 a3 a4) a4 := by
  unfold execReportRead
  refine fleso_same rfl ?_
  intro y5
  intro y6
  extract_lets +onlyGivenNames x7
  clear_value x7
  refine Same.iteFst ?_ ?_
  · dsimp only
    exact Same.refl _ _
  · refine Same.iteFst ?_ ?_
    · dsimp only
      exact Same.refl _ _
    · dsimp only
      exact Same.refl _ _

theorem State.faultSrc_same (a1 : State) (a2 : SrcOp) (a3 : Nat) :
    Same [.routing, .tiles, .sched, .ports, .wqs, .cqs, .remote, .matching, .trans, .insts, .draw, .hearth, .quench, .counters, .mem, .poison, .free, .out] (State.faultSrc a1 a2 a3) a1 := by
  unfold State.faultSrc
  extract_lets +onlyGivenNames x4
  clear_value x4
  refine Same.ite ?_ ?_
  · exact Same.step (State.countStale_same ..) rfl (Same.refl _ _)
  · refine Same.ite ?_ ?_
    · exact Same.step (State.strayFault_same ..) rfl (Same.refl _ _)
    · refine Same.ite ?_ ?_
      · extract_lets +onlyGivenNames x5
        have h5 : Same [.routing, .tiles, .sched, .ports, .wqs, .cqs, .remote, .matching, .trans, .insts, .draw, .hearth, .quench, .counters, .mem, .poison, .free, .out] x5 a1 := by
          unfold x5
          exact Same.step (State.raise_same ..) rfl (Same.refl _ _)
        clear_value x5
        exact Same.ite (Same.step (State.endRdv_same ..) rfl (by assumption)) (Same.step (State.finishSrc_same ..) rfl (by assumption))
      · exact Same.step (State.resendSrc_same ..) rfl (Same.refl _ _)

theorem execStageWrite_same (a1 : Call) (a2 : Nat) (a3 : BitVec 32) (a4 : List Byte) (a5 : State) :
    SameNext [.routing, .tiles, .sched, .ports, .hearth, .quench, .counters, .mem, .outside, .poison, .out] (execStageWrite a1 a2 a3 a4 a5) a5 := by
  unfold execStageWrite
  refine fleso_same rfl ?_
  intro y6
  intro y7
  split
  · dsimp only
    exact Same.refl _ _
  · refine Same.iteFst ?_ ?_
    · dsimp only
      exact Same.refl _ _
    · refine Same.iteFst ?_ ?_
      · dsimp only
        exact Same.refl _ _
      · dsimp only
        exact Same.step (State.storeMem_same ..) rfl (Same.refl _ _)

theorem execPlaceSummary_same (a1 : Call) (a2 : State) :
    SameNext [.routing, .tiles, .sched, .ports, .hearth, .quench, .counters, .out] (execPlaceSummary a1 a2) a2 := by
  unfold execPlaceSummary
  refine fleso_same rfl ?_
  intro y3
  intro y4
  dsimp only
  exact Same.refl _ _

theorem execPlaceLog_same (a1 : Call) (a2 : Bool) (a3 : Nat) (a4 : State) :
    SameNext [.routing, .tiles, .sched, .ports, .striker, .hearth, .quench, .counters, .mem, .out] (execPlaceLog a1 a2 a3 a4) a4 := by
  unfold execPlaceLog
  refine fleso_same rfl ?_
  intro y5
  intro y6
  refine Same.iteFst ?_ ?_
  · refine Same.iteFst ?_ ?_
    · dsimp only
      exact Same.refl _ _
    · dsimp only
      exact Same.setStriker rfl id (Same.refl _ _)
  · refine Same.diteFst (fun _ => ?_) (fun hp => ?_)
    · dsimp only
      exact Same.refl _ _
    · extract_lets +onlyGivenNames x7
      have h7 : Same [.routing, .tiles, .sched, .ports, .striker, .hearth, .quench, .counters, .mem,   .out] x7 y6 := by
        unfold x7
        split
        · exact Same.step (State.freeArea_same ..) rfl (Same.refl _ _)
        · exact Same.refl _ _
      clear_value x7
      split
      · dsimp only
        exact Same.refl _ _
      · rename_i ha
        have hin := State.allocArea_in ha
        have he := Decidable.not_not.mp hp
        dsimp only
        exact Same.setStriker rfl (fun hs => ⟨hs.1, hs.2.1, fun off n e => by cases e; rw [he]; unfold inReport; omega, hs.2.2.2⟩) (Same.step (State.allocArea_same (by assumption)) rfl (by assumption))

theorem execSampling_same (a1 : Call) (a2 : List (BitVec 32)) (a3 : Nat) (a4 : Bool) (a5 : Nat) (a6 : State) :
    SameNext [.routing, .tiles, .sched, .ports, .hearth, .quench, .counters, .mem, .out] (execSampling a1 a2 a3 a4 a5 a6) a6 := by
  unfold execSampling
  refine fleso_same rfl ?_
  intro y7
  intro y8
  refine Same.iteFst ?_ ?_
  · dsimp only
    exact Same.refl _ _
  · refine Same.iteFst ?_ ?_
    · dsimp only
      exact Same.refl _ _
    · refine Same.iteFst ?_ ?_
      · refine Same.iteFst ?_ ?_
        · dsimp only
          exact Same.refl _ _
        · extract_lets +onlyGivenNames x9
          clear_value x9
          dsimp only
          exact Same.setSched rfl id (Same.refl _ _)
      · extract_lets +onlyGivenNames x9
        have h9 : Same [.routing, .tiles, .sched, .ports, .hearth, .quench, .counters, .mem, .out] x9 y8 := by
          unfold x9
          split
          · exact Same.step (State.freeArea_same ..) rfl (Same.refl _ _)
          · exact Same.refl _ _
        clear_value x9
        split
        · dsimp only
          exact Same.refl _ _
        · rename_i ha
          have hin := State.allocArea_in ha
          extract_lets +onlyGivenNames x15
          clear_value x15
          dsimp only
          exact Same.setSched rfl (fun hs => ⟨hs.1, hs.2.1, hs.2.2.1, fun off n e => by cases e; unfold inReport; omega⟩) (Same.step (State.allocArea_same (by assumption)) rfl (by assumption))

theorem State.faultColl_same (a1 : State) (a2 : Nat) (a3 : Endpoint) (a4 : BitVec 32) (a5 : ModId) (a6 : Nat) :
    Same [.routing, .tiles, .sched, .remote, .coll, .quench, .counters] (State.faultColl a1 a2 a3 a4 a5 a6) a1 := by
  unfold State.faultColl
  split
  · exact Same.step (State.strayFault_same ..) rfl (Same.refl _ _)
  · refine Same.ite ?_ ?_
    · split
      · exact Same.refl _ _
      · refine Same.foldl ?_ _ ?_
        · intro y15
          intro y16
          refine Same.foldl ?_ _ ?_
          · intro y17
            intro y18
            exact Same.step (State.collSend_same ..) rfl (Same.refl _ _)
          · exact Same.refl _ _
        · exact Same.refl _ _
    · extract_lets +onlyGivenNames x12
      clear_value x12
      extract_lets +onlyGivenNames x13
      clear_value x13
      exact Same.ite (Same.refl _ _) (Same.step (State.inject_same ..) rfl (Same.step (State.modOp_same ..) rfl (Same.refl _ _)))

theorem execStageOpen_same (a1 : Call) (a2 : Nat) (a3 : State) :
    SameNext [.routing, .tiles, .sched, .ports, .hearth, .quench, .counters, .out] (execStageOpen a1 a2 a3) a3 := by
  unfold execStageOpen
  refine fleso_same rfl ?_
  intro y4
  intro y5
  refine Same.iteFst ?_ ?_
  · dsimp only
    exact Same.refl _ _
  · split
    · dsimp only
      exact Same.setHearth rfl (Same.refl _ _)
    · dsimp only
      exact Same.refl _ _

theorem execTc3ResendTimeout_same (a1 : StreamKey) (a2 : Ticks) (a3 : State) :
    SameNext [.routing, .tiles, .sched, .time, .ports, .wqs, .cqs, .coll, .striker, .trans, .insts, .hearth, .quench, .counters, .mem, .poison, .free, .out] (execTc3ResendTimeout a1 a2 a3) a3 := by
  unfold execTc3ResendTimeout
  extract_lets +onlyGivenNames x4
  have h4 : Same [.routing, .tiles, .sched, .time, .ports, .wqs, .cqs, .coll, .striker, .trans,   .insts, .hearth, .quench, .counters, .mem, .poison, .free, .out] x4 a3 := by
    unfold x4
    exact Same.step (State.advance_same ..) rfl (Same.refl _ _)
  clear_value x4
  extract_lets +onlyGivenNames x6
  clear_value x6
  extract_lets +onlyGivenNames x7
  clear_value x7
  refine SameNext.ite ?_ ?_
  · exact SameNext.next (by assumption)
  · refine SameNext.ite ?_ ?_
    · exact SameNext.next (Same.step (State.fenceStream_same ..) rfl (by assumption))
    · extract_lets +onlyGivenNames x8
      clear_value x8
      extract_lets +onlyGivenNames x9
      have h9 : Same [.routing, .tiles, .sched, .time, .ports, .wqs, .cqs, .coll, .striker, .trans,   .insts, .hearth, .quench, .counters, .mem, .poison, .free, .out] x9 a3 := by
        unfold x9
        exact Same.setRouting rfl (by assumption)
      clear_value x9
      extract_lets +onlyGivenNames x11
      have h11 : Same [.routing, .tiles, .sched, .time, .ports, .wqs, .cqs, .coll, .striker, .trans,   .insts, .hearth, .quench, .counters, .mem, .poison, .free, .out] x11 a3 := by
        unfold x11
        exact Same.step (State.count_same ..) rfl (by assumption)
      clear_value x11
      refine SameNext.next ?_
      refine Same.foldl ?_ _ ?_
      · intro y13
        intro y14
        exact Same.step (State.sendOut_same ..) rfl (Same.refl _ _)
      · assumption

theorem execFault_same (a1 : Packet) (a2 : State) :
    SameNext [.routing, .tiles, .sched, .ports, .wqs, .cqs, .remote, .matching, .coll, .trans, .insts, .draw, .hearth, .quench, .counters, .mem, .poison, .free, .out] (execFault a1 a2) a2 := by
  unfold execFault
  refine SameNext.ite ?_ ?_
  · exact SameNext.next (Same.refl _ _)
  · extract_lets +onlyGivenNames x3
    have h3 : Same [.routing, .tiles, .sched, .ports, .wqs, .cqs, .remote, .matching, .coll,   .trans, .insts, .draw, .hearth, .quench, .counters, .mem, .poison, .free,   .out] x3 a2 := by
      unfold x3
      exact Same.step (State.takeArrival_same ..) rfl (Same.refl _ _)
    clear_value x3
    refine SameNext.ite ?_ ?_
    · exact SameNext.next (Same.step (State.emit_same ..) rfl (by assumption))
    · extract_lets +onlyGivenNames x5
      clear_value x5
      extract_lets +onlyGivenNames x6
      clear_value x6
      extract_lets +onlyGivenNames x7
      clear_value x7
      extract_lets +onlyGivenNames x8
      clear_value x8
      extract_lets +onlyGivenNames x9
      clear_value x9
      extract_lets +onlyGivenNames x10
      clear_value x10
      extract_lets +onlyGivenNames x11
      clear_value x11
      extract_lets +onlyGivenNames x12
      clear_value x12
      refine SameNext.ite ?_ ?_
      · exact SameNext.next (Same.step (State.strayFault_same ..) rfl (by assumption))
      · refine SameNext.ite ?_ ?_
        · exact SameNext.next (Same.step (State.faultColl_same ..) rfl (by assumption))
        · refine SameNext.ite ?_ ?_
          · exact SameNext.next (Same.ite (Same.step (State.resendAnswer_same ..) rfl (by assumption)) (Same.step (State.strayFault_same ..) rfl (by assumption)))
          · split
            · exact SameNext.next (Same.step (State.faultSrc_same ..) rfl (by assumption))
            · exact SameNext.next (Same.step (State.strayFault_same ..) rfl (by assumption))

end Sys2Proof.Machine
end

