-- ==== Sys2Proof/Laws/FrameStriker.lean ====
section
/-! SUPPORT. Frames of the operations and commands of Sys2Proof/Machine/Striker.lean: each changes no part of the module but those it
names, and keeps module memory canonical. -/

namespace Sys2Proof.Machine

open Sys2Proof

theorem State.roleDone_same (a1 : State) :
    Same [.routing, .tiles, .sched, .ports, .hearth, .quench, .counters, .out] (State.roleDone a1) a1 := by
  unfold State.roleDone
  split
  · exact Same.refl _ _
  · exact Same.ite (Same.refl _ _) (Same.step (State.answer_same ..) rfl (Same.setHearth rfl (Same.refl _ _)))

theorem State.abortMove_same (a1 : State) (a2 : Nat) :
    Same [.routing, .tiles, .sched, .ports, .wqs, .cqs, .remote, .matching, .striker, .trans, .insts, .hearth, .quench, .counters, .mem, .poison, .free, .out] (State.abortMove a1 a2) a1 := by
  unfold State.abortMove
  split
  · exact Same.refl _ _
  · split
    · exact Same.refl _ _
    · extract_lets +onlyGivenNames x9
      extract_lets +onlyGivenNames x10
      have h10 : Same [.routing, .tiles, .sched, .ports, .wqs, .cqs, .remote, .matching, .striker, .trans, .insts, .hearth, .quench, .counters, .mem, .poison, .free, .out] x10 a1 := by
        unfold x10
        exact Same.setStriker rfl id (Same.refl _ _)
      clear_value x10
      extract_lets +onlyGivenNames x12
      have h12 : Same [.routing, .tiles, .sched, .ports, .wqs, .cqs, .remote, .matching, .striker, .trans, .insts, .hearth, .quench, .counters, .mem, .poison, .free, .out] x12 a1 := by
        unfold x12
        exact Same.step (State.logPlace_same ..) rfl (by assumption)
      clear_value x12
      exact Same.step (State.unfill_same ..) rfl (Same.step (State.replayHold_same ..) rfl (Same.step (State.modCtx_same ..) rfl (Same.step (State.raise_same ..) rfl (by assumption))))

theorem State.refreshStriker_same (a1 : State) :
    Same [.striker] (State.refreshStriker a1) a1 := by
  unfold State.refreshStriker
  extract_lets +onlyGivenNames x2
  clear_value x2
  exact Same.setStriker rfl id (Same.refl _ _)

theorem State.fenceCell_same (a1 : State) (a2 : Nat) :
    Same [.routing, .tiles, .sched, .ports, .wqs, .cqs, .remote, .matching, .striker, .trans, .insts, .hearth, .quench, .counters, .mem, .poison, .free, .out] (State.fenceCell a1 a2) a1 := by
  unfold State.fenceCell
  extract_lets +onlyGivenNames x3
  clear_value x3
  refine Same.ite ?_ ?_
  · exact Same.refl _ _
  · extract_lets +onlyGivenNames x4
    clear_value x4
    extract_lets +onlyGivenNames x5
    have h5 : Same [.routing, .tiles, .sched, .ports, .wqs, .cqs, .remote, .matching, .striker, .trans, .insts, .hearth, .quench, .counters, .mem, .poison, .free, .out] x5 a1 := by
      unfold x5
      exact Same.step (State.modCell_same ..) rfl (Same.refl _ _)
    clear_value x5
    extract_lets +onlyGivenNames x7
    have h7 : Same [.routing, .tiles, .sched, .ports, .wqs, .cqs, .remote, .matching, .striker, .trans, .insts, .hearth, .quench, .counters, .mem, .poison, .free, .out] x7 a1 := by
      unfold x7
      refine Same.foldl ?_ _ ?_
      · intro y8
        intro y9
        exact Same.step (State.abortMove_same ..) rfl (Same.refl _ _)
      · assumption
    clear_value x7
    extract_lets +onlyGivenNames x9
    extract_lets +onlyGivenNames x10
    clear_value x10
    extract_lets +onlyGivenNames x11
    have h11 : Same [.routing, .tiles, .sched, .ports, .wqs, .cqs, .remote, .matching, .striker, .trans, .insts, .hearth, .quench, .counters, .mem, .poison, .free, .out] x11 a1 := by
      unfold x11
      refine Same.ite ?_ ?_
      · assumption
      · exact Same.step (State.roleDone_same ..) rfl (Same.setStrikerHearth rfl rfl id (by assumption))
    clear_value x11
    refine Same.ite ?_ ?_
    · assumption
    · extract_lets +onlyGivenNames x13
      have h13 : Same [.routing, .tiles, .sched, .ports, .wqs, .cqs, .remote, .matching, .striker, .trans, .insts, .hearth, .quench, .counters, .mem, .poison, .free, .out] x13 a1 := by
        unfold x13
        exact Same.step (State.raise_same ..) rfl (by assumption)
      have e13 : x13.striker = x11.striker := (State.raise_same ..).parts .striker rfl
      clear_value x13
      extract_lets +onlyGivenNames x15
      extract_lets +onlyGivenNames x16
      have h16 : Same [.routing, .tiles, .sched, .ports, .wqs, .cqs, .remote, .matching, .striker, .trans, .insts, .hearth, .quench, .counters, .mem, .poison, .free, .out] x16 a1 := by
        unfold x16
        exact Same.setStriker rfl (fun hs => ⟨hs.1, hs.2.1, fun off n e => hs.2.2.1 off n (by rw [e13]; exact e), hs.2.2.2⟩) (by assumption)
      clear_value x16
      extract_lets +onlyGivenNames x18
      have h18 : Same [.routing, .tiles, .sched, .ports, .wqs, .cqs, .remote, .matching, .striker, .trans, .insts, .hearth, .quench, .counters, .mem, .poison, .free, .out] x18 a1 := by
        unfold x18
        split
        · extract_lets +onlyGivenNames x22
          have h22 : Same [.routing, .tiles, .sched, .ports, .wqs, .cqs, .remote, .matching, .striker, .trans, .insts, .hearth, .quench, .counters, .mem, .poison, .free, .out] x22 a1 := by
            unfold x22
            exact Same.step (State.modCell_same ..) rfl (by assumption)
          clear_value x22
          exact Same.setStriker rfl id (by assumption)
        · refine Same.ite ?_ ?_
          · assumption
          · exact Same.step (State.raise_same ..) rfl (by assumption)
      clear_value x18
      extract_lets +onlyGivenNames x20
      extract_lets +onlyGivenNames x21
      have h21 : Same [.routing, .tiles, .sched, .ports, .wqs, .cqs, .remote, .matching, .striker, .trans, .insts, .hearth, .quench, .counters, .mem, .poison, .free, .out] x21 a1 := by
        unfold x21
        refine Same.foldl ?_ _ ?_
        · intro y22
          intro y23
          exact Same.ite (Same.step (State.modCtx_same ..) rfl (Same.refl _ _)) (Same.refl _ _)
        · assumption
      clear_value x21
      extract_lets +onlyGivenNames x23
      have h23 : Same [.routing, .tiles, .sched, .ports, .wqs, .cqs, .remote, .matching, .striker, .trans, .insts, .hearth, .quench, .counters, .mem, .poison, .free, .out] x23 a1 := by
        unfold x23
        refine Same.foldl ?_ _ ?_
        · intro y24
          intro y25
          exact Same.ite (Same.step (State.modTally_same ..) rfl (Same.refl _ _)) (Same.refl _ _)
        · assumption
      clear_value x23
      exact Same.step (State.refreshStriker_same ..) rfl (by assumption)

theorem State.dropPins_same (a1 : State) (a2 : Nat) :
    Same [.matching, .striker, .mem, .poison] (State.dropPins a1 a2) a1 := by
  unfold State.dropPins
  extract_lets +onlyGivenNames x3
  have h3 : Same [.matching, .striker, .mem, .poison] x3 a1 := by
    unfold x3
    exact Same.step (State.modCell_same ..) rfl (Same.refl _ _)
  clear_value x3
  refine Same.foldl ?_ _ ?_
  · intro y5
    intro y6
    extract_lets +onlyGivenNames x7
    have h7 : Same [.matching, .striker, .mem, .poison] x7 y5 := by
      unfold x7
      exact Same.step (State.modCtx_same ..) rfl (Same.refl _ _)
    clear_value x7
    exact Same.step (State.logPlace_same ..) rfl (Same.setStriker rfl id (by assumption))
  · assumption

theorem State.startMove_same (a1 : State) (a2 : Nat) (a3 : Nat) (a4 : Nat) (a5 : Nat) :
    Same [.matching] (State.startMove a1 a2 a3 a4 a5) a1 := by
  unfold State.startMove
  exact Same.step (State.modCtx_same ..) rfl (Same.refl _ _)

theorem State.moveTally_same (a1 : State) (a2 : Nat) (a3 : Nat) :
    Same [.remote] (State.moveTally a1 a2 a3) a1 := by
  unfold State.moveTally
  exact Same.step (State.modTally_same ..) rfl (Same.refl _ _)

theorem State.drained_same (a1 : State) (a2 : Nat) :
    Same [.routing, .tiles, .sched, .ports, .striker, .hearth, .quench, .counters, .out] (State.drained a1 a2) a1 := by
  unfold State.drained
  extract_lets +onlyGivenNames x3
  clear_value x3
  refine Same.ite ?_ ?_
  · extract_lets +onlyGivenNames x4
    clear_value x4
    extract_lets +onlyGivenNames x5
    have h5 : Same [.routing, .tiles, .sched, .ports, .striker, .hearth, .quench, .counters, .out] x5 a1 := by
      unfold x5
      exact Same.step (State.modCell_same ..) rfl (Same.refl _ _)
    clear_value x5
    exact Same.step (State.roleDone_same ..) rfl (Same.step (State.refreshStriker_same ..) rfl (Same.setStriker rfl id (by assumption)))
  · exact Same.refl _ _

theorem State.drainMoves_same (a1 : State) (a2 : Nat) :
    Same [.routing, .tiles, .sched, .ports, .remote, .matching, .striker, .hearth, .quench, .counters, .out] (State.drainMoves a1 a2) a1 := by
  unfold State.drainMoves
  extract_lets +onlyGivenNames x3
  have h3 : Same [.routing, .tiles, .sched, .ports, .remote, .matching, .striker, .hearth, .quench, .counters, .out] x3 a1 := by
    unfold x3
    refine Same.foldl ?_ _ ?_
    · intro y4
      intro y5
      refine Same.ite ?_ ?_
      · exact Same.refl _ _
      · extract_lets +onlyGivenNames x6
        clear_value x6
        exact Same.step (State.startMove_same ..) rfl (Same.refl _ _)
    · exact Same.refl _ _
  clear_value x3
  extract_lets +onlyGivenNames x5
  have h5 : Same [.routing, .tiles, .sched, .ports, .remote, .matching, .striker, .hearth, .quench, .counters, .out] x5 a1 := by
    unfold x5
    refine Same.foldl ?_ _ ?_
    · intro y6
      intro y7
      refine Same.ite ?_ ?_
      · exact Same.refl _ _
      · refine Same.ite ?_ ?_
        · split
          · exact Same.step (State.moveTally_same ..) rfl (Same.refl _ _)
          · exact Same.refl _ _
        · exact Same.step (State.moveTally_same ..) rfl (Same.refl _ _)
    · assumption
  clear_value x5
  exact Same.step (State.drained_same ..) rfl (by assumption)

theorem State.drainCell_same (a1 : State) (a2 : Nat) :
    Same [.routing, .tiles, .sched, .ports, .remote, .matching, .striker, .hearth, .quench, .counters, .mem, .poison, .out] (State.drainCell a1 a2) a1 := by
  unfold State.drainCell
  extract_lets +onlyGivenNames x3
  have h3 : Same [.routing, .tiles, .sched, .ports, .remote, .matching, .striker, .hearth, .quench, .counters, .mem, .poison, .out] x3 a1 := by
    unfold x3
    exact Same.step (State.dropPins_same ..) rfl (Same.refl _ _)
  clear_value x3
  refine Same.ite ?_ ?_
  · assumption
  · extract_lets +onlyGivenNames x5
    have h5 : Same [.routing, .tiles, .sched, .ports, .remote, .matching, .striker, .hearth, .quench, .counters, .mem, .poison, .out] x5 a1 := by
      unfold x5
      refine Same.foldl ?_ _ ?_
      · intro y6
        intro y7
        exact Same.ite (Same.step (State.logPlace_same ..) rfl (Same.refl _ _)) (Same.refl _ _)
      · assumption
    clear_value x5
    exact Same.step (State.drainMoves_same ..) rfl (by assumption)

theorem State.respread_same (a1 : State) (a2 : Nat) (a3 : Nat) :
    Same [.coll, .striker] (State.respread a1 a2 a3) a1 := by
  unfold State.respread
  extract_lets +onlyGivenNames x4
  clear_value x4
  exact Same.setCollStriker rfl rfl id (Same.refl _ _)

theorem State.rehome_same (a1 : State) (a2 : Nat) (a3 : Nat) :
    Same [.routing, .tiles, .sched, .ports, .wqs, .cqs, .remote, .matching, .striker, .trans, .insts, .hearth, .quench, .counters, .mem, .poison, .free, .out] (State.rehome a1 a2 a3) a1 := by
  unfold State.rehome
  split
  · exact Same.refl _ _
  · extract_lets +onlyGivenNames x7
    have h7 : Same [.routing, .tiles, .sched, .ports, .wqs, .cqs, .remote, .matching, .striker, .trans, .insts, .hearth, .quench, .counters, .mem, .poison, .free, .out] x7 a1 := by
      unfold x7
      exact Same.ite (Same.refl _ _) (Same.step (State.modCell_same ..) rfl (Same.step (State.modCell_same ..) rfl (Same.refl _ _)))
    clear_value x7
    extract_lets +onlyGivenNames x9
    have h9 : Same [.routing, .tiles, .sched, .ports, .wqs, .cqs, .remote, .matching, .striker, .trans, .insts, .hearth, .quench, .counters, .mem, .poison, .free, .out] x9 a1 := by
      unfold x9
      exact Same.step (State.refill_same ..) rfl (Same.step (State.refill_same ..) rfl (Same.step (State.modCtx_same ..) rfl (by assumption)))
    clear_value x9
    exact Same.step (State.unfill_same ..) rfl (Same.step (State.replayHold_same ..) rfl (by assumption))

theorem execMigrationCommit_same (a1 : Nat) (a2 : Bool) (a3 : State) :
    SameNext [.routing, .tiles, .sched, .ports, .wqs, .cqs, .remote, .matching, .striker, .trans, .insts, .hearth, .quench, .counters, .mem, .poison, .free, .out] (execMigrationCommit a1 a2 a3) a3 := by
  unfold execMigrationCommit
  split
  · exact SameNext.next (Same.refl _ _)
  · split
    · exact SameNext.next (Same.refl _ _)
    · extract_lets +onlyGivenNames x10
      clear_value x10
      refine SameNext.ite ?_ ?_
      · exact SameNext.next (Same.refl _ _)
      · refine SameNext.ite ?_ ?_
        · exact SameNext.next (Same.step (State.abortMove_same ..) rfl (Same.refl _ _))
        · extract_lets +onlyGivenNames x11
          extract_lets +onlyGivenNames x12
          have h12 : Same [.routing, .tiles, .sched, .ports, .wqs, .cqs, .remote, .matching, .striker, .trans, .insts, .hearth, .quench, .counters, .mem, .poison, .free, .out] x12 a3 := by
            unfold x12
            exact Same.setStriker rfl id (Same.refl _ _)
          clear_value x12
          extract_lets +onlyGivenNames x14
          have h14 : Same [.routing, .tiles, .sched, .ports, .wqs, .cqs, .remote, .matching, .striker, .trans, .insts, .hearth, .quench, .counters, .mem, .poison, .free, .out] x14 a3 := by
            unfold x14
            exact Same.step (State.logPlace_same ..) rfl (by assumption)
          clear_value x14
          exact SameNext.next (Same.step (State.drained_same ..) rfl (Same.step (State.rehome_same ..) rfl (by assumption)))

theorem execPlaceHint_same (a1 : Call) (a2 : Hint) (a3 : State) :
    SameNext [.routing, .tiles, .sched, .ports, .remote, .matching, .coll, .striker, .hearth, .quench, .counters, .mem, .poison, .out] (execPlaceHint a1 a2 a3) a3 := by
  unfold execPlaceHint
  refine fleso_same rfl ?_
  intro y4
  intro y5
  extract_lets +onlyGivenNames x6
  clear_value x6
  extract_lets +onlyGivenNames x7
  split
  · unfold x7
    refine Same.iteFst ?_ ?_
    · dsimp only
      exact Same.refl _ _
    · split
      · dsimp only
        exact Same.refl _ _
      · refine Same.iteFst ?_ ?_
        · dsimp only
          exact Same.refl _ _
        · split
          · dsimp only
            exact Same.step (State.modCtx_same ..) rfl (Same.refl _ _)
          · refine Same.iteFst ?_ ?_
            · dsimp only
              exact Same.refl _ _
            · extract_lets +onlyGivenNames x14
              have h14 : Same [.routing, .tiles, .sched, .ports, .remote, .matching, .coll, .striker, .hearth, .quench, .counters, .mem, .poison, .out] x14 y5 := by
                unfold x14
                exact Same.step (State.modCtx_same ..) rfl (Same.refl _ _)
              clear_value x14
              dsimp only
              refine Same.ite ?_ ?_
              · assumption
              · exact Same.step (State.startMove_same ..) rfl (by assumption)
  · unfold x7
    refine Same.iteFst ?_ ?_
    · dsimp only
      exact Same.refl _ _
    · split
      · dsimp only
        exact Same.refl _ _
      · refine Same.iteFst ?_ ?_
        · dsimp only
          exact Same.refl _ _
        · refine Same.iteFst ?_ ?_
          · dsimp only
            exact Same.refl _ _
          · extract_lets +onlyGivenNames x13
            have h13 : Same [.routing, .tiles, .sched, .ports, .remote, .matching, .coll, .striker, .hearth, .quench, .counters, .mem, .poison, .out] x13 y5 := by
              unfold x13
              exact Same.step (State.modCtx_same ..) rfl (Same.refl _ _)
            clear_value x13
            refine Same.iteFst ?_ ?_
            · dsimp only
              assumption
            · dsimp only
              exact Same.step (State.startMove_same ..) rfl (by assumption)
  · unfold x7
    refine Same.iteFst ?_ ?_
    · dsimp only
      exact Same.refl _ _
    · split
      · dsimp only
        exact Same.refl _ _
      · refine Same.iteFst ?_ ?_
        · dsimp only
          exact Same.refl _ _
        · dsimp only
          exact Same.step (State.modCtx_same ..) rfl (Same.refl _ _)
  · unfold x7
    refine Same.iteFst ?_ ?_
    · dsimp only
      exact Same.refl _ _
    · split
      · dsimp only
        exact Same.refl _ _
      · refine Same.iteFst ?_ ?_
        · dsimp only
          exact Same.refl _ _
        · dsimp only
          exact Same.step (State.modCtx_same ..) rfl (Same.refl _ _)
  · extract_lets +onlyGivenNames x10
    clear_value x10
    refine Same.iteFst ?_ ?_
    · dsimp only
      exact Same.refl _ _
    · refine Same.iteFst ?_ ?_
      · dsimp only
        exact Same.refl _ _
      · refine Same.iteFst ?_ ?_
        · dsimp only
          exact Same.refl _ _
        · dsimp only
          exact Same.step (State.modTally_same ..) rfl (Same.refl _ _)
  · refine Same.iteFst ?_ ?_
    · dsimp only
      exact Same.refl _ _
    · refine Same.iteFst ?_ ?_
      · dsimp only
        exact Same.refl _ _
      · refine Same.iteFst ?_ ?_
        · dsimp only
          exact Same.refl _ _
        · dsimp only
          exact Same.step (State.drainCell_same ..) rfl (Same.refl _ _)
  · refine Same.iteFst ?_ ?_
    · dsimp only
      exact Same.refl _ _
    · refine Same.iteFst ?_ ?_
      · dsimp only
        exact Same.refl _ _
      · split
        · dsimp only
          exact Same.refl _ _
        · refine Same.iteFst ?_ ?_
          · dsimp only
            exact Same.refl _ _
          · dsimp only
            exact Same.step (State.modGroup_same ..) rfl (Same.refl _ _)

theorem State.startDemotion_same (a1 : State) (a2 : Nat) :
    Same [.matching] (State.startDemotion a1 a2) a1 := by
  unfold State.startDemotion
  refine Same.ite ?_ ?_
  · exact Same.refl _ _
  · split
    · exact Same.refl _ _
    · split
      · exact Same.refl _ _
      · exact Same.step (State.modCtx_same ..) rfl (Same.refl _ _)

theorem execDemotionCommit_same (a1 : Nat) (a2 : State) :
    SameNext [.routing, .tiles, .sched, .ports, .matching, .striker, .trans, .hearth, .quench, .counters, .free, .out] (execDemotionCommit a1 a2) a2 := by
  unfold execDemotionCommit
  split
  · exact SameNext.next (Same.refl _ _)
  · split
    · exact SameNext.next (Same.refl _ _)
    · extract_lets +onlyGivenNames x10
      clear_value x10
      extract_lets +onlyGivenNames x11
      have h11 : Same [.routing, .tiles, .sched, .ports, .matching, .striker, .trans, .hearth, .quench, .counters, .free, .out] x11 a2 := by
        unfold x11
        exact Same.step (State.modCtx_same ..) rfl (Same.refl _ _)
      clear_value x11
      split
      · exact SameNext.next (Same.step (State.startDemotion_same ..) rfl (by assumption))
      · extract_lets +onlyGivenNames x16
        clear_value x16
        extract_lets +onlyGivenNames x17
        clear_value x17
        extract_lets +onlyGivenNames x18
        clear_value x18
        split
        · exact SameNext.next (by assumption)
        · extract_lets +onlyGivenNames x20
          have h20 : Same [.routing, .tiles, .sched, .ports, .matching, .striker, .trans, .hearth, .quench, .counters, .free, .out] x20 a2 := by
            unfold x20
            refine Same.foldl ?_ _ ?_
            · intro y21
              intro y22
              exact Same.step (State.hostPut_same ..) rfl (Same.refl _ _)
            · assumption
          clear_value x20
          extract_lets +onlyGivenNames x22
          clear_value x22
          extract_lets +onlyGivenNames x23
          have h23 : Same [.routing, .tiles, .sched, .ports, .matching, .striker, .trans, .hearth, .quench, .counters, .free, .out] x23 a2 := by
            unfold x23
            exact Same.step (State.modCtx_same ..) rfl (by assumption)
          clear_value x23
          exact SameNext.next (Same.step (State.startDemotion_same ..) rfl (Same.step (State.modCell_same ..) rfl (by assumption)))

theorem State.planMoves_same (a1 : State) (a2 : Nat) (a3 : Nat) (a4 : Projection) (a5 : Projection) :
    Same [.matching] (State.planMoves a1 a2 a3 a4 a5) a1 := by
  induction a3 generalizing a1 a2 a4 a5 with
  | zero => exact Same.refl _ _
  | succ n ih =>
    unfold State.planMoves
    split
    · exact Same.refl _ _
    · extract_lets +onlyGivenNames x11
      clear_value x11
      refine Same.ite ?_ ?_
      · exact Same.refl _ _
      · extract_lets +onlyGivenNames x12
        clear_value x12
        split
        · exact Same.step (ih ..) rfl (Same.refl _ _)
        · split
          extract_lets +onlyGivenNames x22
          clear_value x22
          split
          · exact Same.step (ih ..) rfl (Same.refl _ _)
          · refine Same.ite ?_ ?_
            · exact Same.refl _ _
            · refine Same.ite ?_ ?_
              · exact Same.step (ih ..) rfl (Same.refl _ _)
              · extract_lets +onlyGivenNames x27
                clear_value x27
                exact Same.step (ih ..) rfl (Same.step (State.startMove_same ..) rfl (Same.refl _ _))

theorem State.plan_same (a1 : State) :
    Same [.matching] (State.plan a1) a1 := by
  unfold State.plan
  extract_lets +onlyGivenNames x2
  clear_value x2
  extract_lets +onlyGivenNames x3
  clear_value x3
  exact Same.step (State.planMoves_same ..) rfl (Same.refl _ _)

theorem State.closeEpoch_same (a1 : State) :
    Same [.remote, .matching] (State.closeEpoch a1) a1 := by
  unfold State.closeEpoch
  exact Same.setRemoteMatching rfl rfl (Same.refl _ _)

theorem State.judgeTally_same (a1 : State) (a2 : Nat) (a3 : Nat) :
    Same [.remote] (State.judgeTally a1 a2 a3) a1 := by
  unfold State.judgeTally
  extract_lets +onlyGivenNames x4
  clear_value x4
  refine Same.ite ?_ ?_
  · exact Same.refl _ _
  · extract_lets +onlyGivenNames x5
    clear_value x5
    refine Same.ite ?_ ?_
    · refine Same.ite ?_ ?_
      · split
        · exact Same.step (State.moveTally_same ..) rfl (Same.refl _ _)
        · exact Same.refl _ _
      · exact Same.refl _ _
    · extract_lets +onlyGivenNames x6
      clear_value x6
      exact Same.ite (Same.step (State.moveTally_same ..) rfl (Same.refl _ _)) (Same.refl _ _)

theorem execPlacementEpoch_same (a1 : Ticks) (a2 : List (Nat × Nat)) (a3 : List (Nat × Nat)) (a4 : State) :
    SameNext [.routing, .tiles, .sched, .time, .ports, .remote, .matching, .striker, .hearth, .quench, .counters, .out] (execPlacementEpoch a1 a2 a3 a4) a4 := by
  unfold execPlacementEpoch
  extract_lets +onlyGivenNames x5
  have h5 : Same [.routing, .tiles, .sched, .time, .ports, .remote, .matching, .striker, .hearth, .quench, .counters, .out] x5 a4 := by
    unfold x5
    exact Same.step (State.advance_same ..) rfl (Same.refl _ _)
  clear_value x5
  extract_lets +onlyGivenNames x7
  clear_value x7
  refine SameNext.ite ?_ ?_
  · exact SameNext.next (by assumption)
  · extract_lets +onlyGivenNames x8
    extract_lets +onlyGivenNames x9
    have h9 : Same [.routing, .tiles, .sched, .time, .ports, .remote, .matching, .striker, .hearth, .quench, .counters, .out] x9 a4 := by
      unfold x9
      exact Same.setStriker rfl id (by assumption)
    clear_value x9
    extract_lets +onlyGivenNames x11
    have h11 : Same [.routing, .tiles, .sched, .time, .ports, .remote, .matching, .striker, .hearth, .quench, .counters, .out] x11 a4 := by
      unfold x11
      assumption
    clear_value x11
    extract_lets +onlyGivenNames x13
    have h13 : Same [.routing, .tiles, .sched, .time, .ports, .remote, .matching, .striker, .hearth, .quench, .counters, .out] x13 a4 := by
      unfold x13
      exact Same.step (State.closeEpoch_same ..) rfl (by assumption)
    clear_value x13
    refine SameNext.ite ?_ ?_
    · exact SameNext.next (by assumption)
    · extract_lets +onlyGivenNames x15
      have h15 : Same [.routing, .tiles, .sched, .time, .ports, .remote, .matching, .striker, .hearth, .quench, .counters, .out] x15 a4 := by
        unfold x15
        refine Same.foldl ?_ _ ?_
        · intro y16
          intro y17
          exact Same.step (State.drainMoves_same ..) rfl (Same.refl _ _)
        · assumption
      clear_value x15
      extract_lets +onlyGivenNames x17
      have h17 : Same [.routing, .tiles, .sched, .time, .ports, .remote, .matching, .striker, .hearth, .quench, .counters, .out] x17 a4 := by
        unfold x17
        exact Same.step (State.plan_same ..) rfl (by assumption)
      clear_value x17
      extract_lets +onlyGivenNames x19
      clear_value x19
      extract_lets +onlyGivenNames x20
      have h20 : Same [.routing, .tiles, .sched, .time, .ports, .remote, .matching, .striker, .hearth, .quench, .counters, .out] x20 a4 := by
        unfold x20
        exact Same.setMatching rfl (by assumption)
      clear_value x20
      extract_lets +onlyGivenNames x22
      have h22 : Same [.routing, .tiles, .sched, .time, .ports, .remote, .matching, .striker, .hearth, .quench, .counters, .out] x22 a4 := by
        unfold x22
        refine Same.foldl ?_ _ ?_
        · intro y23
          intro y24
          exact Same.step (State.startDemotion_same ..) rfl (Same.refl _ _)
        · assumption
      clear_value x22
      refine SameNext.next ?_
      refine Same.foldl ?_ _ ?_
      · intro y24
        intro y25
        exact Same.step (State.judgeTally_same ..) rfl (Same.refl _ _)
      · assumption

theorem State.commitTally_same (a1 : State) (a2 : Nat) (a3 : Nat) :
    Same [.routing, .tiles, .sched, .ports, .wqs, .cqs, .remote, .striker, .trans, .insts, .draw, .hearth, .quench, .counters, .mem, .poison, .free, .out] (State.commitTally a1 a2 a3) a1 := by
  unfold State.commitTally
  extract_lets +onlyGivenNames x4
  clear_value x4
  split
  · exact Same.refl _ _
  · extract_lets +onlyGivenNames x8
    clear_value x8
    extract_lets +onlyGivenNames x9
    have h9 : Same [.routing, .tiles, .sched, .ports, .wqs, .cqs, .remote, .striker, .trans, .insts, .draw, .hearth, .quench, .counters, .mem, .poison, .free, .out] x9 a1 := by
      unfold x9
      split
      · exact Same.step (State.modCell_same ..) rfl (Same.refl _ _)
      · exact Same.refl _ _
    clear_value x9
    extract_lets +onlyGivenNames x11
    have h11 : Same [.routing, .tiles, .sched, .ports, .wqs, .cqs, .remote, .striker, .trans, .insts, .draw, .hearth, .quench, .counters, .mem, .poison, .free, .out] x11 a1 := by
      unfold x11
      split
      · exact Same.step (State.modCell_same ..) rfl (by assumption)
      · assumption
    clear_value x11
    extract_lets +onlyGivenNames x13
    have h13 : Same [.routing, .tiles, .sched, .ports, .wqs, .cqs, .remote, .striker, .trans, .insts, .draw, .hearth, .quench, .counters, .mem, .poison, .free, .out] x13 a1 := by
      unfold x13
      exact Same.step (State.logPlace_same ..) rfl (by assumption)
    clear_value x13
    extract_lets +onlyGivenNames x15
    have h15 : Same [.routing, .tiles, .sched, .ports, .wqs, .cqs, .remote, .striker, .trans, .insts, .draw, .hearth, .quench, .counters, .mem, .poison, .free, .out] x15 a1 := by
      unfold x15
      exact Same.step (State.modTally_same ..) rfl (by assumption)
    clear_value x15
    refine Same.foldl ?_ _ ?_
    · intro y17
      intro y18
      exact Same.step (State.tallyAdd_same ..) rfl (Same.refl _ _)
    · assumption

theorem State.objectLost_same (a1 : State) (a2 : Nat) (a3 : Nat) (a4 : Nat) :
    Same [.striker, .quench, .counters, .mem, .poison] (State.objectLost a1 a2 a3 a4) a1 := by
  unfold State.objectLost
  extract_lets +onlyGivenNames x5
  extract_lets +onlyGivenNames x6
  have h6 : Same [.striker, .quench, .counters, .mem, .poison] x6 a1 := by
    unfold x6
    exact Same.setStriker rfl id (Same.refl _ _)
  clear_value x6
  exact Same.step (State.raise_same ..) rfl (Same.step (State.logPlace_same ..) rfl (by assumption))

theorem State.partialsGone_same (a1 : State) (a2 : Nat) (a3 : Nat) :
    Same [.striker, .quench, .counters, .mem, .poison] (State.partialsGone a1 a2 a3) a1 := by
  unfold State.partialsGone
  split
  · exact Same.refl _ _
  · extract_lets +onlyGivenNames x7
    extract_lets +onlyGivenNames x8
    have h8 : Same [.striker, .quench, .counters, .mem, .poison] x8 a1 := by
      unfold x8
      exact Same.setStriker rfl id (Same.refl _ _)
    clear_value x8
    exact Same.step (State.raise_same ..) rfl (Same.step (State.logPlace_same ..) rfl (by assumption))

theorem execSubstitutionCopyComplete_same (a1 : Nat) (a2 : List Nat) (a3 : List Nat) (a4 : List (Nat × BitVec 16)) (a5 : State) :
    SameNext [.routing, .tiles, .sched, .ports, .wqs, .cqs, .remote, .matching, .coll, .striker, .trans, .insts, .draw, .vises, .hearth, .quench, .counters, .mem, .poison, .free, .out] (execSubstitutionCopyComplete a1 a2 a3 a4 a5) a5 := by
  unfold execSubstitutionCopyComplete
  split
  · exact SameNext.next (Same.refl _ _)
  · extract_lets +onlyGivenNames x9
    clear_value x9
    extract_lets +onlyGivenNames x10
    extract_lets +onlyGivenNames x11
    have h11 : Same [.routing, .tiles, .sched, .ports, .wqs, .cqs, .remote, .matching, .coll, .striker, .trans, .insts, .draw, .vises, .hearth, .quench, .counters, .mem, .poison, .free, .out] x11 a5 := by
      unfold x11
      exact Same.setStriker rfl id (Same.refl _ _)
    clear_value x11
    extract_lets +onlyGivenNames x13
    clear_value x13
    extract_lets +onlyGivenNames x14
    have h14 : Same [.routing, .tiles, .sched, .ports, .wqs, .cqs, .remote, .matching, .coll, .striker, .trans, .insts, .draw, .vises, .hearth, .quench, .counters, .mem, .poison, .free, .out] x14 a5 := by
      unfold x14
      split
      · exact Same.step (State.breakByFault_same ..) rfl (by assumption)
      · exact Same.step (State.passVises_same ..) rfl (by assumption)
    clear_value x14
    extract_lets +onlyGivenNames x16
    have h16 : Same [.routing, .tiles, .sched, .ports, .wqs, .cqs, .remote, .matching, .coll, .striker, .trans, .insts, .draw, .vises, .hearth, .quench, .counters, .mem, .poison, .free, .out] x16 a5 := by
      unfold x16
      exact Same.step (State.logPlace_same ..) rfl (by assumption)
    clear_value x16
    extract_lets +onlyGivenNames x18
    have h18 : Same [.routing, .tiles, .sched, .ports, .wqs, .cqs, .remote, .matching, .coll, .striker, .trans, .insts, .draw, .vises, .hearth, .quench, .counters, .mem, .poison, .free, .out] x18 a5 := by
      unfold x18
      refine Same.foldl ?_ _ ?_
      · intro y19
        intro y20
        refine Same.ite ?_ ?_
        · refine Same.ite ?_ ?_
          · extract_lets +onlyGivenNames x21
            have h21 : Same [.routing, .tiles, .sched, .ports, .wqs, .cqs, .remote, .matching, .coll, .striker, .trans, .insts, .draw, .vises, .hearth, .quench, .counters, .mem, .poison, .free, .out] x21 y19 := by
              unfold x21
              exact Same.step (State.modCtx_same ..) rfl (Same.refl _ _)
            clear_value x21
            exact Same.setStriker rfl id (by assumption)
          · exact Same.refl _ _
        · refine Same.ite ?_ ?_
          · exact Same.step (State.closeCtx_same ..) rfl (Same.step (State.objectLost_same ..) rfl (Same.refl _ _))
          · refine Same.ite ?_ ?_
            · extract_lets +onlyGivenNames x21
              have h21 : Same [.routing, .tiles, .sched, .ports, .wqs, .cqs, .remote, .matching, .coll, .striker, .trans, .insts, .draw, .vises, .hearth, .quench, .counters, .mem, .poison, .free, .out] x21 y19 := by
                unfold x21
                exact Same.step (State.modCtx_same ..) rfl (Same.refl _ _)
              clear_value x21
              extract_lets +onlyGivenNames x23
              extract_lets +onlyGivenNames x24
              have h24 : Same [.routing, .tiles, .sched, .ports, .wqs, .cqs, .remote, .matching, .coll, .striker, .trans, .insts, .draw, .vises, .hearth, .quench, .counters, .mem, .poison, .free, .out] x24 y19 := by
                unfold x24
                exact Same.setStriker rfl id (by assumption)
              clear_value x24
              extract_lets +onlyGivenNames x26
              clear_value x26
              exact Same.step (State.rehome_same ..) rfl (Same.step (State.logPlace_same ..) rfl (by assumption))
            · exact Same.step (State.rehome_same ..) rfl (Same.refl _ _)
      · assumption
    clear_value x18
    extract_lets +onlyGivenNames x20
    have h20 : Same [.routing, .tiles, .sched, .ports, .wqs, .cqs, .remote, .matching, .coll, .striker, .trans, .insts, .draw, .vises, .hearth, .quench, .counters, .mem, .poison, .free, .out] x20 a5 := by
      unfold x20
      refine Same.foldl ?_ _ ?_
      · intro y21
        intro y22
        refine Same.ite ?_ ?_
        · exact Same.refl _ _
        · refine Same.ite ?_ ?_
          · extract_lets +onlyGivenNames x23
            have h23 : Same [.routing, .tiles, .sched, .ports, .wqs, .cqs, .remote, .matching, .coll, .striker, .trans, .insts, .draw, .vises, .hearth, .quench, .counters, .mem, .poison, .free, .out] x23 y21 := by
              unfold x23
              exact Same.step (State.disarm_same ..) rfl (Same.refl _ _)
            clear_value x23
            extract_lets +onlyGivenNames x25
            have h25 : Same [.routing, .tiles, .sched, .ports, .wqs, .cqs, .remote, .matching, .coll, .striker, .trans, .insts, .draw, .vises, .hearth, .quench, .counters, .mem, .poison, .free, .out] x25 y21 := by
              unfold x25
              exact Same.step (State.objectLost_same ..) rfl (Same.step (State.modTally_same ..) rfl (by assumption))
            clear_value x25
            refine Same.foldl ?_ _ ?_
            · intro y27
              intro y28
              exact Same.step (State.tallyAdd_same ..) rfl (Same.refl _ _)
            · assumption
          · exact Same.step (State.commitTally_same ..) rfl (Same.refl _ _)
      · assumption
    clear_value x20
    extract_lets +onlyGivenNames x22
    have h22 : Same [.routing, .tiles, .sched, .ports, .wqs, .cqs, .remote, .matching, .coll, .striker, .trans, .insts, .draw, .vises, .hearth, .quench, .counters, .mem, .poison, .free, .out] x22 a5 := by
      unfold x22
      exact Same.step (State.modCell_same ..) rfl (by assumption)
    clear_value x22
    extract_lets +onlyGivenNames x24
    have h24 : Same [.routing, .tiles, .sched, .ports, .wqs, .cqs, .remote, .matching, .coll, .striker, .trans, .insts, .draw, .vises, .hearth, .quench, .counters, .mem, .poison, .free, .out] x24 a5 := by
      unfold x24
      refine Same.ite ?_ ?_
      · assumption
      · exact Same.step (State.modCell_same ..) rfl (by assumption)
    clear_value x24
    extract_lets +onlyGivenNames x26
    clear_value x26
    extract_lets +onlyGivenNames x27
    have h27 : Same [.routing, .tiles, .sched, .ports, .wqs, .cqs, .remote, .matching, .coll, .striker, .trans, .insts, .draw, .vises, .hearth, .quench, .counters, .mem, .poison, .free, .out] x27 a5 := by
      unfold x27
      exact Same.step (State.respread_same ..) rfl (by assumption)
    clear_value x27
    extract_lets +onlyGivenNames x29
    have h29 : Same [.routing, .tiles, .sched, .ports, .wqs, .cqs, .remote, .matching, .coll, .striker, .trans, .insts, .draw, .vises, .hearth, .quench, .counters, .mem, .poison, .free, .out] x29 a5 := by
      unfold x29
      refine Same.foldl ?_ _ ?_
      · intro y30
        intro y31
        exact Same.step (State.partialLost_same ..) rfl (Same.step (State.partialsGone_same ..) rfl (Same.refl _ _))
      · assumption
    clear_value x29
    exact SameNext.next (Same.step (State.refreshStriker_same ..) rfl (by assumption))

theorem execTallyMoveCommit_same (a1 : Nat) (a2 : State) :
    SameNext [.routing, .tiles, .sched, .ports, .wqs, .cqs, .remote, .striker, .trans, .insts, .draw, .hearth, .quench, .counters, .mem, .poison, .free, .out] (execTallyMoveCommit a1 a2) a2 := by
  unfold execTallyMoveCommit
  extract_lets +onlyGivenNames x3
  clear_value x3
  extract_lets +onlyGivenNames x4
  clear_value x4
  refine SameNext.ite ?_ ?_
  · exact SameNext.next (Same.refl _ _)
  · refine SameNext.ite ?_ ?_
    · extract_lets +onlyGivenNames x5
      have h5 : Same [.routing, .tiles, .sched, .ports, .wqs, .cqs, .remote, .striker, .trans, .insts, .draw, .hearth, .quench, .counters, .mem, .poison, .free, .out] x5 a2 := by
        unfold x5
        exact Same.step (State.modTally_same ..) rfl (Same.refl _ _)
      clear_value x5
      refine SameNext.next ?_
      refine Same.foldl ?_ _ ?_
      · intro y7
        intro y8
        exact Same.step (State.tallyAdd_same ..) rfl (Same.refl _ _)
      · assumption
    · extract_lets +onlyGivenNames x5
      clear_value x5
      extract_lets +onlyGivenNames x6
      have h6 : Same [.routing, .tiles, .sched, .ports, .wqs, .cqs, .remote, .striker, .trans, .insts, .draw, .hearth, .quench, .counters, .mem, .poison, .free, .out] x6 a2 := by
        unfold x6
        exact Same.step (State.commitTally_same ..) rfl (Same.refl _ _)
      clear_value x6
      refine SameNext.next ?_
      split
      · exact Same.step (State.drained_same ..) rfl (by assumption)
      · assumption

end Sys2Proof.Machine
end

