-- ==== Sys2Proof/Laws/FrameInstances.lean ====
section
/-! SUPPORT. Frames of the operations and commands of Sys2Proof/Machine/Instances.lean: each changes no part of the module but those it
names, and keeps module memory canonical. -/

namespace Sys2Proof.Machine

open Sys2Proof

theorem State.answerInst_same (a1 : State) (a2 : Nat) (a3 : BitVec 8) (a4 : List Byte) :
    Same [.routing, .tiles, .sched, .ports, .insts, .hearth, .quench, .counters, .out] (State.answerInst a1 a2 a3 a4) a1 := by
  unfold State.answerInst
  extract_lets +onlyGivenNames x5
  clear_value x5
  refine Same.foldl ?_ _ ?_
  · intro y6
    intro y7
    exact Same.step (State.answer_same ..) rfl (Same.refl _ _)
  · exact Same.step (State.modInst_same ..) rfl (Same.refl _ _)

theorem State.enter_same (a1 : State) (a2 : Nat) (a3 : IState) :
    Same [.ports, .insts, .hearth, .counters, .out] (State.enter a1 a2 a3) a1 := by
  unfold State.enter
  extract_lets +onlyGivenNames x4
  clear_value x4
  extract_lets +onlyGivenNames x5
  have h5 : Same [.ports, .insts, .hearth, .counters, .out] x5 a1 := by
    unfold x5
    exact Same.step (State.modInst_same ..) rfl (Same.refl _ _)
  clear_value x5
  refine Same.ite ?_ ?_
  · assumption
  · extract_lets +onlyGivenNames x7
    clear_value x7
    extract_lets +onlyGivenNames x8
    clear_value x8
    extract_lets +onlyGivenNames x9
    clear_value x9
    refine Same.foldl ?_ _ ?_
    · intro y10
      intro y11
      exact Same.step (State.event_same ..) rfl (Same.refl _ _)
    · assumption

theorem State.dropFetched_same (a1 : State) (a2 : Nat) :
    Same [.ports, .wqs, .cqs, .counters, .out] (State.dropFetched a1 a2) a1 := by
  unfold State.dropFetched
  split
  · exact Same.refl _ _
  · extract_lets +onlyGivenNames x6
    clear_value x6
    extract_lets +onlyGivenNames x7
    have h7 : Same [.ports, .wqs, .cqs, .counters, .out] x7 a1 := by
      unfold x7
      split
      · exact Same.step (State.dropD2h_same ..) rfl (Same.refl _ _)
      · exact Same.refl _ _
    clear_value x7
    exact Same.step (State.owe_same ..) rfl (Same.step (State.modWq_same ..) rfl (by assumption))

theorem State.beginReset_same (a1 : State) (a2 : Nat) (a3 : BitVec 3) :
    Same [.routing, .tiles, .sched, .ports, .wqs, .cqs, .coll, .trans, .insts, .draw, .vises, .hearth, .quench, .counters, .mem, .poison, .free, .out] (State.beginReset a1 a2 a3) a1 := by
  unfold State.beginReset
  extract_lets +onlyGivenNames x4
  clear_value x4
  refine Same.ite ?_ ?_
  · exact Same.refl _ _
  · extract_lets +onlyGivenNames x5
    have h5 : Same [.routing, .tiles, .sched, .ports, .wqs, .cqs, .coll, .trans, .insts, .draw,   .vises, .hearth, .quench, .counters, .mem, .poison, .free, .out] x5 a1 := by
      unfold x5
      exact Same.step (State.answerInst_same ..) rfl (Same.refl _ _)
    clear_value x5
    extract_lets +onlyGivenNames x7
    have h7 : Same [.routing, .tiles, .sched, .ports, .wqs, .cqs, .coll, .trans, .insts, .draw,   .vises, .hearth, .quench, .counters, .mem, .poison, .free, .out] x7 a1 := by
      unfold x7
      exact Same.step (State.modInst_same ..) rfl (by assumption)
    clear_value x7
    extract_lets +onlyGivenNames x9
    have h9 : Same [.routing, .tiles, .sched, .ports, .wqs, .cqs, .coll, .trans, .insts, .draw,   .vises, .hearth, .quench, .counters, .mem, .poison, .free, .out] x9 a1 := by
      unfold x9
      exact Same.step (State.enter_same ..) rfl (by assumption)
    clear_value x9
    extract_lets +onlyGivenNames x11
    have h11 : Same [.routing, .tiles, .sched, .ports, .wqs, .cqs, .coll, .trans, .insts, .draw,   .vises, .hearth, .quench, .counters, .mem, .poison, .free, .out] x11 a1 := by
      unfold x11
      refine Same.foldl ?_ _ ?_
      · intro y12
        intro y13
        exact Same.step (State.dropFetched_same ..) rfl (Same.refl _ _)
      · assumption
    clear_value x11
    extract_lets +onlyGivenNames x13
    have h13 : Same [.routing, .tiles, .sched, .ports, .wqs, .cqs, .coll, .trans, .insts, .draw,   .vises, .hearth, .quench, .counters, .mem, .poison, .free, .out] x13 a1 := by
      unfold x13
      refine Same.foldl ?_ _ ?_
      · intro y14
        intro y15
        exact Same.step (State.dropChan_same ..) rfl (Same.refl _ _)
      · assumption
    clear_value x13
    exact Same.step (State.memberLost_same ..) rfl (Same.step (State.breakIdentity_same ..) rfl (by assumption))

theorem execInstDestroy_same (a1 : Call) (a2 : Nat) (a3 : State) :
    SameNext [.routing, .tiles, .sched, .ports, .wqs, .cqs, .coll, .trans, .insts, .draw, .vises, .hearth, .quench, .counters, .mem, .poison, .free, .out] (execInstDestroy a1 a2 a3) a3 := by
  unfold execInstDestroy
  refine fleso_same rfl ?_
  intro y4
  intro y5
  refine Same.iteFst ?_ ?_
  · dsimp only
    exact Same.refl _ _
  · refine Same.iteFst ?_ ?_
    · dsimp only
      exact Same.refl _ _
    · dsimp only
      exact Same.step (State.modInst_same ..) rfl (Same.step (State.beginReset_same ..) rfl (Same.refl _ _))

theorem State.setGrant_same (a1 : State) (a2 : Nat) (a3 : Nat) (a4 : Nat) :
    Same [.insts, .vises] (State.setGrant a1 a2 a3 a4) a1 := by
  unfold State.setGrant
  extract_lets +onlyGivenNames x5
  clear_value x5
  extract_lets +onlyGivenNames x6
  have h6 : Same [.insts, .vises] x6 a1 := by
    unfold x6
    exact Same.step (State.modInst_same ..) rfl (Same.refl _ _)
  clear_value x6
  refine Same.ite ?_ ?_
  · refine Same.ite ?_ ?_
    · refine Same.foldl ?_ _ ?_
      · intro y8
        intro y9
        exact Same.step (State.modVise_same ..) rfl (Same.refl _ _)
      · assumption
    · refine Same.foldl ?_ _ ?_
      · intro y8
        intro y9
        exact Same.step (State.modVise_same ..) rfl (Same.refl _ _)
      · assumption
  · refine Same.ite ?_ ?_
    · refine Same.ite ?_ ?_
      · exact Same.step (State.modInst_same ..) rfl (by assumption)
      · extract_lets +onlyGivenNames x8
        clear_value x8
        extract_lets +onlyGivenNames x9
        clear_value x9
        exact Same.step (State.modInst_same ..) rfl (by assumption)
    · assumption

theorem State.createInst_same (a1 : State) (a2 : Option Reply) (a3 : Nat) (a4 : Nat) (a5 : List (Nat × Nat)) (a6 : List Word) (a7 : BitVec 4) (a8 : Nat) :
    Same [.sched, .time, .ports, .matching, .insts, .vises, .hearth, .counters, .out] (State.createInst a1 a2 a3 a4 a5 a6 a7 a8).1 a1 := by
  unfold State.createInst
  split
  · dsimp only
    exact Same.refl _ _
  · split
    · dsimp only
      exact Same.refl _ _
    · extract_lets +onlyGivenNames x11
      clear_value x11
      extract_lets +onlyGivenNames x12
      have h12 : Same [.sched, .time, .ports, .matching, .insts, .vises, .hearth, .counters, .out] x12 a1 := by
        unfold x12
        exact Same.step (State.modInst_same ..) rfl (Same.refl _ _)
      clear_value x12
      extract_lets +onlyGivenNames x14
      have h14 : Same [.sched, .time, .ports, .matching, .insts, .vises, .hearth, .counters, .out] x14 a1 := by
        unfold x14
        exact Same.step (State.enter_same ..) rfl (by assumption)
      clear_value x14
      extract_lets +onlyGivenNames x16
      have h16 : Same [.sched, .time, .ports, .matching, .insts, .vises, .hearth, .counters, .out] x16 a1 := by
        unfold x16
        refine Same.foldl ?_ _ ?_
        · intro y17
          intro y18
          exact Same.step (State.setGrant_same ..) rfl (Same.refl _ _)
        · assumption
      clear_value x16
      extract_lets +onlyGivenNames x18
      extract_lets +onlyGivenNames x19
      clear_value x19
      extract_lets +onlyGivenNames x20
      clear_value x20
      extract_lets +onlyGivenNames x21
      have h21 : Same [.sched, .time, .ports, .matching, .insts, .vises, .hearth, .counters, .out] x21 a1 := by
        unfold x21
        exact Same.setSchedTimeMatching rfl rfl rfl id (by assumption)
      clear_value x21
      dsimp only
      assumption

theorem State.setVectors_same (a1 : State) (a2 : Fn) (a3 : Nat) :
    Same [.ports] (State.setVectors a1 a2 a3) a1 := by
  unfold State.setVectors
  exact Same.step (State.modPort_same ..) rfl (Same.refl _ _)

theorem State.freeInst_same (a1 : State) (a2 : Nat) :
    Same [.routing, .tiles, .sched, .time, .ports, .wqs, .cqs, .remote, .matching, .striker, .trans, .insts, .draw, .vises, .hearth, .quench, .counters, .mem, .poison, .free, .out] (State.freeInst a1 a2) a1 := by
  unfold State.freeInst
  extract_lets +onlyGivenNames x3
  clear_value x3
  extract_lets +onlyGivenNames x4
  clear_value x4
  extract_lets +onlyGivenNames x5
  have h5 : Same [.routing, .tiles, .sched, .time, .ports, .wqs, .cqs, .remote, .matching, .striker, .trans, .insts, .draw, .vises, .hearth, .quench, .counters, .mem, .poison, .free, .out] x5 a1 := by
    unfold x5
    refine Same.foldl ?_ _ ?_
    · intro y6
      intro y7
      exact Same.step (State.closeCtx_same ..) rfl (Same.refl _ _)
    · exact Same.refl _ _
  clear_value x5
  extract_lets +onlyGivenNames x7
  have h7 : Same [.routing, .tiles, .sched, .time, .ports, .wqs, .cqs, .remote, .matching, .striker, .trans, .insts, .draw, .vises, .hearth, .quench, .counters, .mem, .poison, .free, .out] x7 a1 := by
    unfold x7
    refine Same.foldl ?_ _ ?_
    · intro y8
      intro y9
      extract_lets +onlyGivenNames x10
      have h10 : Same [.routing, .tiles, .sched, .time, .ports, .wqs, .cqs, .remote, .matching, .striker, .trans, .insts, .draw, .vises, .hearth, .quench, .counters, .mem, .poison, .free, .out] x10 y8 := by
        unfold x10
        exact Same.step (State.dropChan_same ..) rfl (Same.refl _ _)
      clear_value x10
      exact Same.setDraw rfl (by assumption)
    · assumption
  clear_value x7
  extract_lets +onlyGivenNames x9
  have h9 : Same [.routing, .tiles, .sched, .time, .ports, .wqs, .cqs, .remote, .matching, .striker, .trans, .insts, .draw, .vises, .hearth, .quench, .counters, .mem, .poison, .free, .out] x9 a1 := by
    unfold x9
    refine Same.foldl ?_ _ ?_
    · intro y10
      intro y11
      exact Same.step (State.modVise_same ..) rfl (Same.refl _ _)
    · assumption
  clear_value x9
  extract_lets +onlyGivenNames x11
  have h11 : Same [.routing, .tiles, .sched, .time, .ports, .wqs, .cqs, .remote, .matching, .striker, .trans, .insts, .draw, .vises, .hearth, .quench, .counters, .mem, .poison, .free, .out] x11 a1 := by
    unfold x11
    refine Same.ite ?_ ?_
    · exact Same.step (State.setVectors_same ..) rfl (by assumption)
    · assumption
  clear_value x11
  extract_lets +onlyGivenNames x13
  extract_lets +onlyGivenNames x14
  clear_value x14
  extract_lets +onlyGivenNames x15
  clear_value x15
  extract_lets +onlyGivenNames x16
  clear_value x16
  extract_lets +onlyGivenNames x17
  have h17 : Same [.routing, .tiles, .sched, .time, .ports, .wqs, .cqs, .remote, .matching, .striker, .trans, .insts, .draw, .vises, .hearth, .quench, .counters, .mem, .poison, .free, .out] x17 a1 := by
    unfold x17
    exact Same.setSchedTimeWqsCqsRemoteMatching rfl rfl rfl rfl rfl rfl id (by assumption)
  clear_value x17
  extract_lets +onlyGivenNames x19
  have h19 : Same [.routing, .tiles, .sched, .time, .ports, .wqs, .cqs, .remote, .matching, .striker, .trans, .insts, .draw, .vises, .hearth, .quench, .counters, .mem, .poison, .free, .out] x19 a1 := by
    unfold x19
    exact Same.step (State.answerInst_same ..) rfl (Same.step (State.enter_same ..) rfl (by assumption))
  clear_value x19
  extract_lets +onlyGivenNames x21
  have h21 : Same [.routing, .tiles, .sched, .time, .ports, .wqs, .cqs, .remote, .matching, .striker, .trans, .insts, .draw, .vises, .hearth, .quench, .counters, .mem, .poison, .free, .out] x21 a1 := by
    unfold x21
    exact Same.step (State.enter_same ..) rfl (by assumption)
  clear_value x21
  exact Same.step (State.modInst_same ..) rfl (by assumption)

theorem State.zeroTallies_same (a1 : State) (a2 : Nat) :
    Same [.wqs, .cqs, .remote] (State.zeroTallies a1 a2) a1 := by
  unfold State.zeroTallies
  refine Same.foldl ?_ _ ?_
  · intro y3
    intro y4
    exact Same.step (State.modTally_same ..) rfl (Same.step (State.disarm_same ..) rfl (Same.refl _ _))
  · exact Same.refl _ _

theorem State.dropParked_same (a1 : State) (a2 : Nat) :
    Same [.wqs, .cqs] (State.dropParked a1 a2) a1 := by
  unfold State.dropParked
  extract_lets +onlyGivenNames x3
  clear_value x3
  extract_lets +onlyGivenNames x4
  clear_value x4
  extract_lets +onlyGivenNames x5
  have h5 : Same [.wqs, .cqs] x5 a1 := by
    unfold x5
    exact Same.setCqs rfl (Same.refl _ _)
  clear_value x5
  extract_lets +onlyGivenNames x7
  have h7 : Same [.wqs, .cqs] x7 a1 := by
    unfold x7
    refine Same.foldl ?_ _ ?_
    · intro y8
      intro y9
      exact Same.step (State.modWq_same ..) rfl (Same.refl _ _)
    · assumption
  clear_value x7
  refine Same.foldl ?_ _ ?_
  · intro y9
    intro y10
    exact Same.step (State.updateWait_same ..) rfl (Same.refl _ _)
  · assumption

theorem State.emptyCtxs_same (a1 : State) (a2 : Nat) :
    Same [.matching] (State.emptyCtxs a1 a2) a1 := by
  unfold State.emptyCtxs
  extract_lets +onlyGivenNames x3
  clear_value x3
  exact Same.setMatching rfl (Same.refl _ _)

theorem State.retireQueue_same (a1 : State) (a2 : Nat) :
    Same [.wqs, .cqs, .counters, .mem, .poison] (State.retireQueue a1 a2) a1 := by
  unfold State.retireQueue
  split
  · exact Same.refl _ _
  · extract_lets +onlyGivenNames x6
    have h6 : Same [.wqs, .cqs, .counters, .mem, .poison] x6 a1 := by
      unfold x6
      refine Same.foldl ?_ _ ?_
      · intro y7
        intro y8
        exact Same.step (State.tagDone_same ..) rfl (Same.refl _ _)
      · exact Same.refl _ _
    clear_value x6
    extract_lets +onlyGivenNames x8
    have h8 : Same [.wqs, .cqs, .counters, .mem, .poison] x8 a1 := by
      unfold x8
      exact Same.step (State.modWq_same ..) rfl (by assumption)
    clear_value x8
    exact Same.step (State.owe_same ..) rfl (by assumption)

theorem State.finishReset_same (a1 : State) (a2 : Nat) (a3 : Bool) :
    Same [.routing, .tiles, .sched, .time, .ports, .wqs, .cqs, .remote, .matching, .striker, .trans, .insts, .draw, .vises, .hearth, .quench, .counters, .mem, .poison, .free, .out] (State.finishReset a1 a2 a3) a1 := by
  unfold State.finishReset
  extract_lets +onlyGivenNames x4
  clear_value x4
  extract_lets +onlyGivenNames x5
  have h5 : Same [.routing, .tiles, .sched, .time, .ports, .wqs, .cqs, .remote, .matching, .striker, .trans, .insts, .draw, .vises, .hearth, .quench, .counters, .mem, .poison, .free, .out] x5 a1 := by
    unfold x5
    refine Same.foldl ?_ _ ?_
    · intro y6
      intro y7
      exact Same.step (State.retireQueue_same ..) rfl (Same.refl _ _)
    · exact Same.refl _ _
  clear_value x5
  extract_lets +onlyGivenNames x7
  have h7 : Same [.routing, .tiles, .sched, .time, .ports, .wqs, .cqs, .remote, .matching, .striker, .trans, .insts, .draw, .vises, .hearth, .quench, .counters, .mem, .poison, .free, .out] x7 a1 := by
    unfold x7
    exact Same.step (State.dropParked_same ..) rfl (by assumption)
  clear_value x7
  extract_lets +onlyGivenNames x9
  clear_value x9
  extract_lets +onlyGivenNames x10
  have h10 : Same [.routing, .tiles, .sched, .time, .ports, .wqs, .cqs, .remote, .matching, .striker, .trans, .insts, .draw, .vises, .hearth, .quench, .counters, .mem, .poison, .free, .out] x10 a1 := by
    unfold x10
    exact Same.step (State.modInst_same ..) rfl (by assumption)
  clear_value x10
  extract_lets +onlyGivenNames x12
  have h12 : Same [.routing, .tiles, .sched, .time, .ports, .wqs, .cqs, .remote, .matching, .striker, .trans, .insts, .draw, .vises, .hearth, .quench, .counters, .mem, .poison, .free, .out] x12 a1 := by
    unfold x12
    exact Same.step (State.enter_same ..) rfl (by assumption)
  clear_value x12
  extract_lets +onlyGivenNames x14
  clear_value x14
  extract_lets +onlyGivenNames x15
  have h15 : Same [.routing, .tiles, .sched, .time, .ports, .wqs, .cqs, .remote, .matching, .striker, .trans, .insts, .draw, .vises, .hearth, .quench, .counters, .mem, .poison, .free, .out] x15 a1 := by
    unfold x15
    refine Same.foldl ?_ _ ?_
    · intro y16
      intro y17
      exact Same.step (State.refill_same ..) rfl (Same.refl _ _)
    · exact Same.step (State.zeroTallies_same ..) rfl (Same.step (State.emptyCtxs_same ..) rfl (by assumption))
  clear_value x15
  extract_lets +onlyGivenNames x17
  clear_value x17
  extract_lets +onlyGivenNames x18
  have h18 : Same [.routing, .tiles, .sched, .time, .ports, .wqs, .cqs, .remote, .matching, .striker, .trans, .insts, .draw, .vises, .hearth, .quench, .counters, .mem, .poison, .free, .out] x18 a1 := by
    unfold x18
    exact Same.setWqsRemote rfl rfl (by assumption)
  clear_value x18
  extract_lets +onlyGivenNames x20
  have h20 : Same [.routing, .tiles, .sched, .time, .ports, .wqs, .cqs, .remote, .matching, .striker, .trans, .insts, .draw, .vises, .hearth, .quench, .counters, .mem, .poison, .free, .out] x20 a1 := by
    unfold x20
    exact Same.step (State.disableDomain_same ..) rfl (by assumption)
  clear_value x20
  extract_lets +onlyGivenNames x22
  have h22 : Same [.routing, .tiles, .sched, .time, .ports, .wqs, .cqs, .remote, .matching, .striker, .trans, .insts, .draw, .vises, .hearth, .quench, .counters, .mem, .poison, .free, .out] x22 a1 := by
    unfold x22
    refine Same.ite ?_ ?_
    · exact Same.step (State.raise_same ..) rfl (by assumption)
    · assumption
  clear_value x22
  extract_lets +onlyGivenNames x24
  have h24 : Same [.routing, .tiles, .sched, .time, .ports, .wqs, .cqs, .remote, .matching, .striker, .trans, .insts, .draw, .vises, .hearth, .quench, .counters, .mem, .poison, .free, .out] x24 a1 := by
    unfold x24
    refine Same.ite ?_ ?_
    · refine Same.foldl ?_ _ ?_
      · intro y25
        intro y26
        exact Same.step (State.queueEvent_same ..) rfl (Same.refl _ _)
      · assumption
    · assumption
  clear_value x24
  extract_lets +onlyGivenNames x26
  have h26 : Same [.routing, .tiles, .sched, .time, .ports, .wqs, .cqs, .remote, .matching, .striker, .trans, .insts, .draw, .vises, .hearth, .quench, .counters, .mem, .poison, .free, .out] x26 a1 := by
    unfold x26
    refine Same.foldl ?_ _ ?_
    · intro y27
      intro y28
      exact Same.step (State.queueGone_same ..) rfl (Same.refl _ _)
    · assumption
  clear_value x26
  extract_lets +onlyGivenNames x28
  have h28 : Same [.routing, .tiles, .sched, .time, .ports, .wqs, .cqs, .remote, .matching, .striker, .trans, .insts, .draw, .vises, .hearth, .quench, .counters, .mem, .poison, .free, .out] x28 a1 := by
    unfold x28
    exact Same.step (State.unfill_same ..) rfl (Same.step (State.letIn_same ..) rfl (by assumption))
  clear_value x28
  exact Same.ite (Same.step (State.freeInst_same ..) rfl (by assumption)) (Same.step (State.answerInst_same ..) rfl (by assumption))

theorem execInstReopen_same (a1 : Call) (a2 : Nat) (a3 : State) :
    SameNext [.routing, .tiles, .sched, .ports, .wqs, .cqs, .trans, .insts, .hearth, .quench, .counters, .free, .out] (execInstReopen a1 a2 a3) a3 := by
  unfold execInstReopen
  refine fleso_same rfl ?_
  intro y4
  intro y5
  extract_lets +onlyGivenNames x6
  clear_value x6
  refine Same.iteFst ?_ ?_
  · dsimp only
    exact Same.refl _ _
  · refine Same.iteFst ?_ ?_
    · dsimp only
      exact Same.refl _ _
    · refine Same.iteFst ?_ ?_
      · dsimp only
        exact Same.refl _ _
      · extract_lets +onlyGivenNames x7
        clear_value x7
        extract_lets +onlyGivenNames x8
        clear_value x8
        extract_lets +onlyGivenNames x9
        have h9 : Same [.routing, .tiles, .sched, .ports, .wqs, .cqs, .trans, .insts, .hearth, .quench,   .counters, .free, .out] x9 y5 := by
          unfold x9
          exact Same.setWqsCqsTrans rfl rfl rfl (Same.refl _ _)
        clear_value x9
        extract_lets +onlyGivenNames x11
        have h11 : Same [.routing, .tiles, .sched, .ports, .wqs, .cqs, .trans, .insts, .hearth, .quench,   .counters, .free, .out] x11 y5 := by
          unfold x11
          exact Same.step (State.enter_same ..) rfl (by assumption)
        clear_value x11
        dsimp only
        refine Same.foldl ?_ _ ?_
        · intro y13
          intro y14
          exact Same.step (State.updateWait_same ..) rfl (Same.step (State.drain_same ..) rfl (Same.refl _ _))
        · assumption

theorem execInstanceResetTimeout_same (a1 : Nat) (a2 : Ticks) (a3 : State) :
    SameNext [.routing, .tiles, .sched, .time, .ports, .wqs, .cqs, .remote, .matching, .striker, .trans, .insts, .draw, .vises, .hearth, .quench, .counters, .mem, .poison, .free, .out] (execInstanceResetTimeout a1 a2 a3) a3 := by
  unfold execInstanceResetTimeout
  extract_lets +onlyGivenNames x4
  have h4 : Same [.routing, .tiles, .sched, .time, .ports, .wqs, .cqs, .remote, .matching, .striker, .trans, .insts, .draw, .vises, .hearth, .quench, .counters, .mem, .poison, .free, .out] x4 a3 := by
    unfold x4
    exact Same.step (State.advance_same ..) rfl (Same.refl _ _)
  clear_value x4
  extract_lets +onlyGivenNames x6
  clear_value x6
  refine SameNext.ite ?_ ?_
  · exact SameNext.next (Same.step (State.serve_same ..) rfl (Same.step (State.finishReset_same ..) rfl (by assumption)))
  · exact SameNext.next (by assumption)

theorem execDirtyLog_same (a1 : Call) (a2 : Nat) (a3 : BitVec 2) (a4 : Word) (a5 : Nat) (a6 : Word) (a7 : Bool) (a8 : State) :
    SameNext [.routing, .tiles, .sched, .ports, .insts, .hearth, .quench, .counters, .out] (execDirtyLog a1 a2 a3 a4 a5 a6 a7 a8) a8 := by
  unfold execDirtyLog
  refine fleso_same rfl ?_
  intro y9
  intro y10
  extract_lets +onlyGivenNames x11
  clear_value x11
  refine Same.iteFst ?_ ?_
  · dsimp only
    exact Same.refl _ _
  · refine Same.iteFst ?_ ?_
    · dsimp only
      exact Same.refl _ _
    · refine Same.iteFst ?_ ?_
      · dsimp only
        exact Same.refl _ _
      · refine Same.iteFst ?_ ?_
        · dsimp only
          exact Same.refl _ _
        · refine Same.iteFst ?_ ?_
          · dsimp only
            exact Same.refl _ _
          · refine Same.iteFst ?_ ?_
            · dsimp only
              exact Same.refl _ _
            · refine Same.iteFst ?_ ?_
              · dsimp only
                exact Same.refl _ _
              · extract_lets +onlyGivenNames x12
                clear_value x12
                extract_lets +onlyGivenNames x13
                extract_lets +onlyGivenNames x14
                have h14 : Same [.routing, .tiles, .sched, .ports, .insts, .hearth, .quench, .counters, .out] x14 y10 := by
                  unfold x14
                  exact Same.step (State.modInst_same ..) rfl (Same.refl _ _)
                clear_value x14
                dsimp only
                exact Same.step (State.modInst_same ..) rfl (by assumption)

theorem execEpochSweepEnd_same (a1 : Nat) (a2 : State) :
    SameNext [.remote, .coll, .insts] (execEpochSweepEnd a1 a2) a2 := by
  unfold execEpochSweepEnd
  extract_lets +onlyGivenNames x3
  clear_value x3
  refine SameNext.ite ?_ ?_
  · exact SameNext.next (Same.refl _ _)
  · extract_lets +onlyGivenNames x4
    clear_value x4
    exact SameNext.next (Same.setRemoteCollInsts rfl rfl rfl (Same.refl _ _))

theorem execInstQuery_same (a1 : Call) (a2 : Word) (a3 : State) :
    SameNext [.routing, .tiles, .sched, .ports, .hearth, .quench, .counters, .out] (execInstQuery a1 a2 a3) a3 := by
  unfold execInstQuery
  refine fleso_same rfl ?_
  intro y4
  intro y5
  extract_lets +onlyGivenNames x6
  clear_value x6
  split
  · dsimp only
    exact Same.refl _ _
  · refine Same.iteFst ?_ ?_
    · dsimp only
      exact Same.refl _ _
    · dsimp only
      exact Same.refl _ _

theorem State.bindTo_same (a1 : State) (a2 : Nat) (a3 : Option Nat) (a4 : Nat) :
    Same [.ports, .wqs, .cqs, .insts, .hearth, .counters, .out] (State.bindTo a1 a2 a3 a4) a1 := by
  unfold State.bindTo
  extract_lets +onlyGivenNames x5
  clear_value x5
  extract_lets +onlyGivenNames x6
  have h6 : Same [.ports, .wqs, .cqs, .insts, .hearth, .counters, .out] x6 a1 := by
    unfold x6
    exact Same.ite (Same.step (State.setVectors_same ..) rfl (Same.refl _ _)) (Same.refl _ _)
  clear_value x6
  extract_lets +onlyGivenNames x8
  have h8 : Same [.ports, .wqs, .cqs, .insts, .hearth, .counters, .out] x8 a1 := by
    unfold x8
    exact Same.step (State.modInst_same ..) rfl (by assumption)
  clear_value x8
  extract_lets +onlyGivenNames x10
  have h10 : Same [.ports, .wqs, .cqs, .insts, .hearth, .counters, .out] x10 a1 := by
    unfold x10
    refine Same.ite ?_ ?_
    · exact Same.step (State.enter_same ..) rfl (by assumption)
    · assumption
  clear_value x10
  extract_lets +onlyGivenNames x12
  clear_value x12
  extract_lets +onlyGivenNames x13
  have h13 : Same [.ports, .wqs, .cqs, .insts, .hearth, .counters, .out] x13 a1 := by
    unfold x13
    refine Same.ite ?_ ?_
    · exact Same.step (State.setVectors_same ..) rfl (by assumption)
    · assumption
  clear_value x13
  exact Same.setWqsCqs rfl rfl (by assumption)

theorem execInstBind_same (a1 : Call) (a2 : Nat) (a3 : Option Nat) (a4 : Nat) (a5 : State) :
    SameNext [.routing, .tiles, .sched, .ports, .wqs, .cqs, .insts, .hearth, .quench, .counters, .out] (execInstBind a1 a2 a3 a4 a5) a5 := by
  unfold execInstBind
  refine fleso_same rfl ?_
  intro y6
  intro y7
  extract_lets +onlyGivenNames x8
  clear_value x8
  refine Same.iteFst ?_ ?_
  · dsimp only
    exact Same.refl _ _
  · refine Same.iteFst ?_ ?_
    · dsimp only
      exact Same.refl _ _
    · refine Same.iteFst ?_ ?_
      · dsimp only
        exact Same.refl _ _
      · refine Same.iteFst ?_ ?_
        · dsimp only
          exact Same.refl _ _
        · refine Same.iteFst ?_ ?_
          · dsimp only
            exact Same.refl _ _
          · refine Same.iteFst ?_ ?_
            · dsimp only
              exact Same.refl _ _
            · refine Same.iteFst ?_ ?_
              · dsimp only
                exact Same.refl _ _
              · dsimp only
                exact Same.step (State.bindTo_same ..) rfl (Same.refl _ _)

theorem execInstGrant_same (a1 : Call) (a2 : Nat) (a3 : List (Nat × Nat)) (a4 : State) :
    SameNext [.routing, .tiles, .sched, .ports, .insts, .vises, .hearth, .quench, .counters, .out] (execInstGrant a1 a2 a3 a4) a4 := by
  unfold execInstGrant
  refine fleso_same rfl ?_
  intro y5
  intro y6
  extract_lets +onlyGivenNames x7
  clear_value x7
  extract_lets +onlyGivenNames x8
  clear_value x8
  extract_lets +onlyGivenNames x9
  clear_value x9
  refine Same.iteFst ?_ ?_
  · dsimp only
    exact Same.refl _ _
  · refine Same.iteFst ?_ ?_
    · dsimp only
      exact Same.refl _ _
    · split
      · dsimp only
        exact Same.refl _ _
      · dsimp only
        exact Same.refl _ _
      · refine Same.iteFst ?_ ?_
        · dsimp only
          exact Same.refl _ _
        · extract_lets +onlyGivenNames x14
          have h14 : Same [.routing, .tiles, .sched, .ports, .insts, .vises, .hearth, .quench, .counters,   .out] x14 y6 := by
            unfold x14
            refine Same.foldl ?_ _ ?_
            · intro y15
              intro y16
              exact Same.step (State.setGrant_same ..) rfl (Same.refl _ _)
            · exact Same.refl _ _
          clear_value x14
          dsimp only
          refine Same.foldl ?_ _ ?_
          · intro y16
            intro y17
            exact Same.setSched rfl id (Same.refl _ _)
          · assumption

theorem State.putShaping_same (a1 : State) (a2 : Nat) (a3 : Word) :
    Same [.sched] (State.putShaping a1 a2 a3) a1 := by
  unfold State.putShaping
  extract_lets +onlyGivenNames x4
  clear_value x4
  extract_lets +onlyGivenNames x5
  clear_value x5
  exact Same.setSched rfl id (Same.refl _ _)

theorem execInstQuiesce_same (a1 : Call) (a2 : Nat) (a3 : State) :
    SameNext [.routing, .tiles, .sched, .ports, .wqs, .insts, .hearth, .quench, .counters, .out] (execInstQuiesce a1 a2 a3) a3 := by
  unfold execInstQuiesce
  refine fleso_same rfl ?_
  intro y4
  intro y5
  extract_lets +onlyGivenNames x6
  clear_value x6
  refine Same.iteFst ?_ ?_
  · dsimp only
    exact Same.refl _ _
  · refine Same.iteFst ?_ ?_
    · dsimp only
      exact Same.refl _ _
    · refine Same.iteFst ?_ ?_
      · dsimp only
        exact Same.refl _ _
      · extract_lets +onlyGivenNames x7
        have h7 : Same [.routing, .tiles, .sched, .ports, .wqs, .insts, .hearth, .quench, .counters,   .out] x7 y5 := by
          unfold x7
          exact Same.setWqs rfl (Same.refl _ _)
        clear_value x7
        dsimp only
        exact Same.step (State.modInst_same ..) rfl (by assumption)

theorem execDirtyFlush_same (a1 : Call) (a2 : Nat) (a3 : State) :
    SameNext [.routing, .tiles, .sched, .ports, .hearth, .quench, .counters, .out] (execDirtyFlush a1 a2 a3) a3 := by
  unfold execDirtyFlush
  refine fleso_same rfl ?_
  intro y4
  intro y5
  refine Same.iteFst ?_ ?_
  · dsimp only
    exact Same.refl _ _
  · refine Same.iteFst ?_ ?_
    · dsimp only
      exact Same.refl _ _
    · refine Same.iteFst ?_ ?_
      · dsimp only
        exact Same.refl _ _
      · dsimp only
        exact Same.refl _ _

theorem execShaping_same (a1 : Call) (a2 : Nat) (a3 : Nat) (a4 : Word) (a5 : State) :
    SameNext [.routing, .tiles, .sched, .ports, .hearth, .quench, .counters, .out] (execShaping a1 a2 a3 a4 a5) a5 := by
  unfold execShaping
  refine fleso_same rfl ?_
  intro y6
  intro y7
  refine Same.iteFst ?_ ?_
  · dsimp only
    exact Same.refl _ _
  · refine Same.iteFst ?_ ?_
    · dsimp only
      exact Same.refl _ _
    · refine Same.iteFst ?_ ?_
      · dsimp only
        exact Same.refl _ _
      · refine Same.iteFst ?_ ?_
        · dsimp only
          exact Same.refl _ _
        · split
          · dsimp only
            exact Same.refl _ _
          · dsimp only
            exact Same.step (State.putShaping_same ..) rfl (Same.refl _ _)

theorem State.applyImage_same (a1 : State) (a2 : Nat) (a3 : Image) :
    Same [.sched, .time, .ports, .wqs, .cqs, .remote, .matching, .striker, .trans, .insts, .hearth, .counters, .mem, .poison, .out] (State.applyImage a1 a2 a3) a1 := by
  unfold State.applyImage
  extract_lets +onlyGivenNames x4
  clear_value x4
  extract_lets +onlyGivenNames x5
  have h5 : Same [.sched, .time, .ports, .wqs, .cqs, .remote, .matching, .striker, .trans, .insts, .hearth, .counters, .mem, .poison, .out] x5 a1 := by
    unfold x5
    refine Same.foldl ?_ _ ?_
    · intro y6
      intro y7
      extract_lets +onlyGivenNames x8
      clear_value x8
      exact Same.setCqs rfl (Same.refl _ _)
    · exact Same.refl _ _
  clear_value x5
  extract_lets +onlyGivenNames x7
  have h7 : Same [.sched, .time, .ports, .wqs, .cqs, .remote, .matching, .striker, .trans, .insts, .hearth, .counters, .mem, .poison, .out] x7 a1 := by
    unfold x7
    refine Same.foldl ?_ _ ?_
    · intro y8
      intro y9
      exact Same.setWqs rfl (Same.refl _ _)
    · assumption
  clear_value x7
  extract_lets +onlyGivenNames x9
  have h9 : Same [.sched, .time, .ports, .wqs, .cqs, .remote, .matching, .striker, .trans, .insts, .hearth, .counters, .mem, .poison, .out] x9 a1 := by
    unfold x9
    refine Same.foldl ?_ _ ?_
    · intro y10
      intro y11
      split
      extract_lets +onlyGivenNames x16
      clear_value x16
      extract_lets +onlyGivenNames x17
      clear_value x17
      extract_lets +onlyGivenNames x18
      clear_value x18
      exact Same.step (State.logPlace_same ..) rfl (Same.step (State.modCell_same ..) rfl (Same.step (State.refill_same ..) rfl (Same.setMatching rfl (Same.refl _ _))))
    · assumption
  clear_value x9
  extract_lets +onlyGivenNames x11
  have h11 : Same [.sched, .time, .ports, .wqs, .cqs, .remote, .matching, .striker, .trans, .insts, .hearth, .counters, .mem, .poison, .out] x11 a1 := by
    unfold x11
    refine Same.foldl ?_ _ ?_
    · intro y12
      intro y13
      split
      · exact Same.refl _ _
      · exact Same.step (State.modTally_same ..) rfl (Same.refl _ _)
    · assumption
  clear_value x11
  extract_lets +onlyGivenNames x13
  clear_value x13
  extract_lets +onlyGivenNames x14
  have h14 : Same [.sched, .time, .ports, .wqs, .cqs, .remote, .matching, .striker, .trans, .insts, .hearth, .counters, .mem, .poison, .out] x14 a1 := by
    unfold x14
    refine Same.foldl ?_ _ ?_
    · intro y15
      intro y16
      exact Same.step (State.putShaping_same ..) rfl (Same.refl _ _)
    · assumption
  clear_value x14
  extract_lets +onlyGivenNames x16
  clear_value x16
  extract_lets +onlyGivenNames x17
  clear_value x17
  extract_lets +onlyGivenNames x18
  have h18 : Same [.sched, .time, .ports, .wqs, .cqs, .remote, .matching, .striker, .trans, .insts, .hearth, .counters, .mem, .poison, .out] x18 a1 := by
    unfold x18
    exact Same.setTimeRemote rfl rfl (by assumption)
  clear_value x18
  exact Same.step (State.enter_same ..) rfl (Same.step (State.disableDomain_same ..) rfl (by assumption))

theorem execWindowWrite_same (a1 : Call) (a2 : Option Nat) (a3 : Nat) (a4 : BitVec 256) (a5 : State) :
    SameNext [.routing, .tiles, .sched, .ports, .remote, .hearth, .quench, .counters, .out] (execWindowWrite a1 a2 a3 a4 a5) a5 := by
  unfold execWindowWrite
  refine fleso_same rfl ?_
  intro y6
  intro y7
  split
  · dsimp only
    exact Same.refl _ _
  · extract_lets +onlyGivenNames x12
    clear_value x12
    extract_lets +onlyGivenNames x13
    clear_value x13
    extract_lets +onlyGivenNames x14
    clear_value x14
    refine Same.iteFst ?_ ?_
    · dsimp only
      exact Same.refl _ _
    · refine Same.iteFst ?_ ?_
      · dsimp only
        exact Same.refl _ _
      · refine Same.iteFst ?_ ?_
        · dsimp only
          exact Same.refl _ _
        · refine Same.iteFst ?_ ?_
          · dsimp only
            exact Same.refl _ _
          · refine Same.iteFst ?_ ?_
            · dsimp only
              exact Same.refl _ _
            · refine Same.iteFst ?_ ?_
              · dsimp only
                exact Same.refl _ _
              · dsimp only
                exact Same.setRemote rfl (Same.refl _ _)

theorem execInstanceResetEnd_same (a1 : Nat) (a2 : State) :
    SameNext [.routing, .tiles, .sched, .time, .ports, .wqs, .cqs, .remote, .matching, .striker, .trans, .insts, .draw, .vises, .hearth, .quench, .counters, .mem, .poison, .free, .out] (execInstanceResetEnd a1 a2) a2 := by
  unfold execInstanceResetEnd
  extract_lets +onlyGivenNames x3
  clear_value x3
  refine SameNext.ite ?_ ?_
  · exact SameNext.next (Same.step (State.serve_same ..) rfl (Same.step (State.finishReset_same ..) rfl (Same.refl _ _)))
  · exact SameNext.next (Same.refl _ _)

theorem execInstanceQuiesceComplete_same (a1 : Nat) (a2 : State) :
    SameNext [.routing, .tiles, .sched, .ports, .insts, .hearth, .quench, .counters, .out] (execInstanceQuiesceComplete a1 a2) a2 := by
  unfold execInstanceQuiesceComplete
  extract_lets +onlyGivenNames x3
  clear_value x3
  refine SameNext.ite ?_ ?_
  · exact SameNext.next (Same.step (State.serve_same ..) rfl (Same.step (State.answerInst_same ..) rfl (Same.step (State.enter_same ..) rfl (Same.step (State.modInst_same ..) rfl (Same.refl _ _)))))
  · exact SameNext.next (Same.refl _ _)

theorem execInstReset_same (a1 : Call) (a2 : Word) (a3 : State) :
    SameNext [.routing, .tiles, .sched, .ports, .wqs, .cqs, .coll, .trans, .insts, .draw, .vises, .hearth, .quench, .counters, .mem, .poison, .free, .out] (execInstReset a1 a2 a3) a3 := by
  unfold execInstReset
  refine fleso_same rfl ?_
  intro y4
  intro y5
  extract_lets +onlyGivenNames x6
  clear_value x6
  split
  · dsimp only
    exact Same.refl _ _
  · refine Same.iteFst ?_ ?_
    · dsimp only
      exact Same.refl _ _
    · dsimp only
      exact Same.step (State.modInst_same ..) rfl (Same.step (State.beginReset_same ..) rfl (Same.refl _ _))

theorem execInstExport_same (a1 : Call) (a2 : Nat) (a3 : State) :
    SameNext [.routing, .tiles, .sched, .ports, .hearth, .quench, .counters, .mem, .poison, .out] (execInstExport a1 a2 a3) a3 := by
  unfold execInstExport
  refine fleso_same rfl ?_
  intro y4
  intro y5
  refine Same.iteFst ?_ ?_
  · dsimp only
    exact Same.refl _ _
  · refine Same.iteFst ?_ ?_
    · dsimp only
      exact Same.refl _ _
    · refine Same.iteFst ?_ ?_
      · dsimp only
        exact Same.refl _ _
      · extract_lets +onlyGivenNames x6
        clear_value x6
        split
        · dsimp only
          exact Same.refl _ _
        · rename_i ha
          have hin := State.allocArea_in ha
          dsimp only
          exact Same.step (State.storeMem_report _ _ _ _ (by unfold inReport; omega)) rfl (Same.step (State.allocArea_same ha) rfl (Same.refl _ _))

theorem execInstImport_same (a1 : Call) (a2 : Nat) (a3 : DataRef) (a4 : State) :
    SameNext [.routing, .tiles, .sched, .time, .ports, .wqs, .cqs, .remote, .matching, .striker, .trans, .insts, .hearth, .quench, .counters, .mem, .poison, .out] (execInstImport a1 a2 a3 a4) a4 := by
  unfold execInstImport
  refine fleso_same rfl ?_
  intro y5
  intro y6
  refine Same.iteFst ?_ ?_
  · dsimp only
    exact Same.refl _ _
  · refine Same.iteFst ?_ ?_
    · dsimp only
      exact Same.refl _ _
    · refine Same.iteFst ?_ ?_
      · dsimp only
        exact Same.refl _ _
      · refine Same.iteFst ?_ ?_
        · dsimp only
          exact Same.refl _ _
        · split
          · dsimp only
            exact Same.refl _ _
          · split
            · dsimp only
              exact Same.refl _ _
            · split
              · dsimp only
                exact Same.refl _ _
              · refine Same.iteFst ?_ ?_
                · dsimp only
                  exact Same.refl _ _
                · dsimp only
                  exact Same.step (State.applyImage_same ..) rfl (Same.refl _ _)

theorem execInstCreate_same (a1 : Call) (a2 : Nat) (a3 : Option Nat) (a4 : List Nat) (a5 : List Word) (a6 : BitVec 4) (a7 : Nat) (a8 : State) :
    SameNext [.routing, .tiles, .sched, .time, .ports, .matching, .insts, .vises, .hearth, .quench, .counters, .out] (execInstCreate a1 a2 a3 a4 a5 a6 a7 a8) a8 := by
  unfold execInstCreate
  refine fleso_same rfl ?_
  intro y9
  intro y10
  extract_lets +onlyGivenNames x11
  clear_value x11
  extract_lets +onlyGivenNames x12
  clear_value x12
  extract_lets +onlyGivenNames x13
  clear_value x13
  refine Same.iteFst ?_ ?_
  · dsimp only
    exact Same.refl _ _
  · refine Same.iteFst ?_ ?_
    · dsimp only
      exact Same.refl _ _
    · refine Same.iteFst ?_ ?_
      · dsimp only
        exact Same.refl _ _
      · refine Same.iteFst ?_ ?_
        · dsimp only
          exact Same.refl _ _
        · split
          · dsimp only
            exact Same.refl _ _
          · refine Same.iteFst ?_ ?_
            · dsimp only
              exact Same.refl _ _
            · exact Same.step (State.createInst_same ..) rfl (Same.refl _ _)
          · dsimp only
            exact Same.refl _ _
          · exact Same.step (State.createInst_same ..) rfl (Same.refl _ _)

end Sys2Proof.Machine
end

