-- ==== Sys2Proof/Laws/FrameHost.lean ====
section
/-! SUPPORT. Frames of the operations and commands of Sys2Proof/Machine/Host.lean: each changes no part of the module but those it
names, and keeps module memory canonical. -/

namespace Sys2Proof.Machine

open Sys2Proof

theorem State.exposeSnoop_same (a1 : State) :
    Same [.ports, .counters, .out] (State.exposeSnoop a1) a1 := by
  unfold State.exposeSnoop
  refine Same.foldl ?_ _ ?_
  · intro y2
    intro y3
    refine Same.foldl ?_ _ ?_
    · intro y4
      intro y5
      refine Same.ite ?_ ?_
      · exact Same.refl _ _
      · refine Same.foldl ?_ _ ?_
        · intro y6
          intro y7
          exact Same.step (State.biSnoop_same ..) rfl (Same.refl _ _)
        · exact Same.refl _ _
    · exact Same.refl _ _
  · exact Same.refl _ _

theorem State.exposeDone_same (a1 : State) :
    Same [.routing, .tiles, .sched, .ports, .hearth, .quench, .counters, .out] (State.exposeDone a1) a1 := by
  unfold State.exposeDone
  extract_lets +onlyGivenNames x2
  clear_value x2
  extract_lets +onlyGivenNames x3
  clear_value x3
  extract_lets +onlyGivenNames x4
  clear_value x4
  extract_lets +onlyGivenNames x5
  have h5 : Same [.routing, .tiles, .sched, .ports, .hearth, .quench, .counters, .out] x5 a1 := by
    unfold x5
    exact Same.setHearth rfl (Same.refl _ _)
  clear_value x5
  refine Same.foldl ?_ _ ?_
  · intro y7
    intro y8
    exact Same.step (State.answer_same ..) rfl (Same.refl _ _)
  · assumption

theorem State.track_same (a1 : State) (a2 : Nat) (a3 : Nat) :
    Same [.ports] (State.track a1 a2 a3) a1 := by
  unfold State.track
  exact Same.ite (Same.refl _ _) (Same.step (State.modPort_same ..) rfl (Same.refl _ _))

theorem State.memOne_same (a1 : State) (a2 : Nat) (a3 : MemReq) :
    Same [.ports, .quench, .counters, .mem, .outside, .poison, .free, .out] (State.memOne a1 a2 a3).1 a1 := by
  unfold State.memOne
  extract_lets +onlyGivenNames x4
  clear_value x4
  extract_lets +onlyGivenNames x5
  clear_value x5
  extract_lets +onlyGivenNames x6
  clear_value x6
  split
  · refine Same.iteFst ?_ ?_
    · dsimp only
      exact Same.step (State.emit_same ..) rfl (Same.refl _ _)
    · refine Same.iteFst ?_ ?_
      · dsimp only
        exact Same.refl _ _
      · refine Same.iteFst ?_ ?_
        · dsimp only
          exact Same.step (State.snoopOut_same ..) rfl (Same.refl _ _)
        · refine Same.iteFst ?_ ?_
          · refine Same.iteFst ?_ ?_
            · split
              dsimp only
              exact Same.step (State.biSnoop_same ..) rfl (Same.ofSnd (by assumption) (Same.step (State.drawFree_same ..) rfl (Same.refl _ _)))
            · dsimp only
              exact Same.refl _ _
          · dsimp only
            exact Same.step (State.emit_same ..) rfl (Same.step (State.track_same ..) rfl (Same.refl _ _))
  · extract_lets +onlyGivenNames x10
    clear_value x10
    refine Same.iteFst ?_ ?_
    · dsimp only
      exact Same.step (State.emit_same ..) rfl (Same.step (State.raiseAt_same ..) rfl (Same.refl _ _))
    · refine Same.iteFst ?_ ?_
      · dsimp only
        exact Same.refl _ _
      · refine Same.iteFst ?_ ?_
        · dsimp only
          exact Same.step (State.snoopOut_same ..) rfl (Same.refl _ _)
        · dsimp only
          exact Same.step (State.emit_same ..) rfl (Same.step (State.count_same ..) rfl (Same.step (State.storeMem_same ..) rfl (Same.refl _ _)))

theorem State.serveMem_same (a1 : State) (a2 : Nat) :
    Same [.ports, .quench, .counters, .mem, .outside, .poison, .free, .out] (State.serveMem a1 a2) a1 := by
  unfold State.serveMem
  refine Same.foldl ?_ _ ?_
  · intro y3
    intro y4
    split
    refine Same.ite ?_ ?_
    · exact Same.step (State.modPort_same ..) rfl (Same.ofFst (by assumption) (Same.step (State.memOne_same ..) rfl (Same.refl _ _)))
    · exact Same.ofFst (by assumption) (Same.step (State.memOne_same ..) rfl (Same.refl _ _))
  · exact Same.refl _ _

theorem State.serveAllMem_same (a1 : State) :
    Same [.ports, .quench, .counters, .mem, .outside, .poison, .free, .out] (State.serveAllMem a1) a1 := by
  unfold State.serveAllMem
  refine Same.foldl ?_ _ ?_
  · intro y2
    intro y3
    exact Same.step (State.serveMem_same ..) rfl (Same.refl _ _)
  · exact Same.refl _ _

theorem execBirsp_same (a1 : Nat) (a2 : Nat) (a3 : State) :
    SameNext [.routing, .tiles, .sched, .ports, .remote, .trans, .hearth, .quench, .counters, .mem, .outside, .poison, .free, .out] (execBirsp a1 a2 a3) a3 := by
  unfold execBirsp
  refine SameNext.ite ?_ ?_
  · exact SameNext.next (Same.refl _ _)
  · exact SameNext.next (Same.step (State.serve_same ..) rfl (Same.step (State.resumeReads_same ..) rfl (Same.step (State.serveAllMem_same ..) rfl (Same.step (State.exposeDone_same ..) rfl (Same.step (State.exposeSnoop_same ..) rfl (Same.step (State.modPort_same ..) rfl (Same.refl _ _)))))))

theorem execHostCfg_same (a1 : Call) (a2 : Nat) (a3 : Word) (a4 : State) :
    SameNext [.routing, .tiles, .sched, .ports, .hearth, .quench, .counters, .out] (execHostCfg a1 a2 a3 a4) a4 := by
  unfold execHostCfg
  refine fleso_same rfl ?_
  intro y5
  intro y6
  extract_lets +onlyGivenNames x7
  clear_value x7
  extract_lets +onlyGivenNames x8
  clear_value x8
  refine Same.iteFst ?_ ?_
  · dsimp only
    exact Same.refl _ _
  · refine Same.iteFst ?_ ?_
    · dsimp only
      exact Same.refl _ _
    · refine Same.iteFst ?_ ?_
      · dsimp only
        exact Same.refl _ _
      · refine Same.iteFst ?_ ?_
        · dsimp only
          exact Same.refl _ _
        · dsimp only
          exact Same.step (State.modPort_same ..) rfl (Same.refl _ _)

theorem State.dropReads_same (a1 : State) (a2 : Nat) :
    Same [.wqs, .cqs] (State.dropReads a1 a2) a1 := by
  unfold State.dropReads
  refine Same.foldl ?_ _ ?_
  · intro y3
    intro y4
    exact Same.step (State.owe_same ..) rfl (Same.step (State.modWq_same ..) rfl (Same.refl _ _))
  · exact Same.refl _ _

theorem State.breakPf_same (a1 : State) (a2 : Nat) :
    Same [.ports, .draw, .vises, .hearth, .counters, .out] (State.breakPf a1 a2) a1 := by
  unfold State.breakPf
  extract_lets +onlyGivenNames x3
  have h3 : Same [.ports, .draw, .vises, .hearth, .counters, .out] x3 a1 := by
    unfold x3
    exact Same.step (State.breakIdentity_same ..) rfl (Same.refl _ _)
  clear_value x3
  refine Same.foldl ?_ _ ?_
  · intro y5
    intro y6
    exact Same.step (State.breakIdentity_same ..) rfl (Same.refl _ _)
  · assumption

theorem State.freePortSlots_same (a1 : State) (a2 : Nat) :
    Same [.hearth] (State.freePortSlots a1 a2) a1 := by
  unfold State.freePortSlots
  refine Same.foldl ?_ _ ?_
  · intro y3
    intro y4
    exact Same.step (State.freeSlots_same ..) rfl (Same.refl _ _)
  · exact Same.refl _ _

theorem State.vanish_same (a1 : State) (a2 : Nat) (a3 : BitVec 3) (a4 : HostPort → HostPort) :
    Same [.routing, .tiles, .sched, .ports, .wqs, .cqs, .remote, .matching, .coll, .trans, .insts, .draw, .vises, .hearth, .quench, .counters, .mem, .outside, .poison, .free, .out] (State.vanish a1 a2 a3 a4) a1 := by
  unfold State.vanish
  refine Same.ite ?_ ?_
  · exact Same.step (State.modPort_same ..) rfl (Same.refl _ _)
  · extract_lets +onlyGivenNames x5
    clear_value x5
    extract_lets +onlyGivenNames x6
    have h6 : Same [.routing, .tiles, .sched, .ports, .wqs, .cqs, .remote, .matching, .coll, .trans, .insts, .draw, .vises, .hearth, .quench, .counters, .mem, .outside, .poison, .free, .out] x6 a1 := by
      unfold x6
      exact Same.step (State.dropReads_same ..) rfl (Same.refl _ _)
    clear_value x6
    extract_lets +onlyGivenNames x8
    have h8 : Same [.routing, .tiles, .sched, .ports, .wqs, .cqs, .remote, .matching, .coll, .trans, .insts, .draw, .vises, .hearth, .quench, .counters, .mem, .outside, .poison, .free, .out] x8 a1 := by
      unfold x8
      refine Same.foldl ?_ _ ?_
      · intro y9
        intro y10
        exact Same.step (State.unwrite_same ..) rfl (Same.refl _ _)
      · assumption
    clear_value x8
    extract_lets +onlyGivenNames x10
    have h10 : Same [.routing, .tiles, .sched, .ports, .wqs, .cqs, .remote, .matching, .coll, .trans, .insts, .draw, .vises, .hearth, .quench, .counters, .mem, .outside, .poison, .free, .out] x10 a1 := by
      unfold x10
      exact Same.step (State.modPort_same ..) rfl (by assumption)
    clear_value x10
    extract_lets +onlyGivenNames x12
    clear_value x12
    extract_lets +onlyGivenNames x13
    have h13 : Same [.routing, .tiles, .sched, .ports, .wqs, .cqs, .remote, .matching, .coll, .trans, .insts, .draw, .vises, .hearth, .quench, .counters, .mem, .outside, .poison, .free, .out] x13 a1 := by
      unfold x13
      exact Same.setTrans rfl (by assumption)
    clear_value x13
    extract_lets +onlyGivenNames x15
    have h15 : Same [.routing, .tiles, .sched, .ports, .wqs, .cqs, .remote, .matching, .coll, .trans, .insts, .draw, .vises, .hearth, .quench, .counters, .mem, .outside, .poison, .free, .out] x15 a1 := by
      unfold x15
      refine Same.step (State.resumeWalks_same ..) rfl ?_
      refine Same.foldl ?_ _ ?_
      · intro y16
        intro y17
        exact Same.step (State.lockFail_same ..) rfl (Same.refl _ _)
      · assumption
    clear_value x15
    extract_lets +onlyGivenNames x17
    have h17 : Same [.routing, .tiles, .sched, .ports, .wqs, .cqs, .remote, .matching, .coll, .trans, .insts, .draw, .vises, .hearth, .quench, .counters, .mem, .outside, .poison, .free, .out] x17 a1 := by
      unfold x17
      refine Same.foldl ?_ _ ?_
      · intro y18
        intro y19
        exact Same.step (State.beginReset_same ..) rfl (Same.refl _ _)
      · assumption
    clear_value x17
    extract_lets +onlyGivenNames x19
    have h19 : Same [.routing, .tiles, .sched, .ports, .wqs, .cqs, .remote, .matching, .coll, .trans, .insts, .draw, .vises, .hearth, .quench, .counters, .mem, .outside, .poison, .free, .out] x19 a1 := by
      unfold x19
      exact Same.step (State.resumeReads_same ..) rfl (Same.step (State.serveAllMem_same ..) rfl (Same.step (State.exposeDone_same ..) rfl (Same.step (State.drawLost_same ..) rfl (Same.step (State.breakPf_same ..) rfl (Same.step (State.freePortSlots_same ..) rfl (by assumption))))))
    clear_value x19
    extract_lets +onlyGivenNames x21
    have h21 : Same [.routing, .tiles, .sched, .ports, .wqs, .cqs, .remote, .matching, .coll, .trans, .insts, .draw, .vises, .hearth, .quench, .counters, .mem, .outside, .poison, .free, .out] x21 a1 := by
      unfold x21
      exact Same.step (State.raise_same ..) rfl (by assumption)
    clear_value x21
    exact Same.step (State.adjustMode_same ..) rfl (by assumption)

theorem execHostLinkDown_same (a1 : Nat) (a2 : State) :
    SameNext [.routing, .tiles, .sched, .ports, .wqs, .cqs, .remote, .matching, .coll, .trans, .insts, .draw, .vises, .hearth, .quench, .counters, .mem, .outside, .poison, .free, .out] (execHostLinkDown a1 a2) a2 := by
  unfold execHostLinkDown
  refine SameNext.ite ?_ ?_
  · exact SameNext.next (Same.step (State.serve_same ..) rfl (Same.step (State.vanish_same ..) rfl (Same.refl _ _)))
  · exact SameNext.next (Same.refl _ _)

theorem execPerstN_same (a1 : Nat) (a2 : Bool) (a3 : State) :
    SameNext [.routing, .tiles, .sched, .ports, .wqs, .cqs, .remote, .matching, .coll, .trans, .insts, .draw, .vises, .hearth, .quench, .counters, .mem, .outside, .poison, .free, .out] (execPerstN a1 a2 a3) a3 := by
  unfold execPerstN
  refine SameNext.ite ?_ ?_
  · exact SameNext.next (Same.refl _ _)
  · refine SameNext.ite ?_ ?_
    · exact SameNext.next (Same.step (State.modPort_same ..) rfl (Same.refl _ _))
    · exact SameNext.next (Same.step (State.serve_same ..) rfl (Same.step (State.modPort_same ..) rfl (Same.step (State.vanish_same ..) rfl (Same.refl _ _))))

theorem State.dropPfQueues_same (a1 : State) (a2 : Nat) :
    Same [.routing, .tiles, .sched, .ports, .wqs, .cqs, .remote, .hearth, .quench, .counters, .out] (State.dropPfQueues a1 a2) a1 := by
  unfold State.dropPfQueues
  extract_lets +onlyGivenNames x3
  clear_value x3
  extract_lets +onlyGivenNames x4
  clear_value x4
  extract_lets +onlyGivenNames x5
  have h5 : Same [.routing, .tiles, .sched, .ports, .wqs, .cqs, .remote, .hearth, .quench,   .counters, .out] x5 a1 := by
    unfold x5
    refine Same.foldl ?_ _ ?_
    · intro y6
      intro y7
      exact Same.step (State.owe_same ..) rfl (Same.step (State.dropFetched_same ..) rfl (Same.refl _ _))
    · exact Same.refl _ _
  clear_value x5
  extract_lets +onlyGivenNames x7
  clear_value x7
  extract_lets +onlyGivenNames x8
  extract_lets +onlyGivenNames x9
  have h9 : Same [.routing, .tiles, .sched, .ports, .wqs, .cqs, .remote, .hearth, .quench,   .counters, .out] x9 a1 := by
    unfold x9
    exact Same.setWqsCqsRemoteCounters rfl rfl rfl rfl id (by assumption)
  clear_value x9
  refine Same.foldl ?_ _ ?_
  · intro y11
    intro y12
    exact Same.step (State.answer_same ..) rfl (Same.refl _ _)
  · assumption

theorem execFlrPf_same (a1 : Nat) (a2 : State) :
    SameNext [.routing, .tiles, .sched, .ports, .wqs, .cqs, .remote, .coll, .trans, .insts, .draw, .vises, .hearth, .quench, .counters, .mem, .poison, .free, .out] (execFlrPf a1 a2) a2 := by
  unfold execFlrPf
  refine SameNext.ite ?_ ?_
  · exact SameNext.next (Same.refl _ _)
  · extract_lets +onlyGivenNames x3
    have h3 : Same [.routing, .tiles, .sched, .ports, .wqs, .cqs, .remote, .coll, .trans, .insts,   .draw, .vises, .hearth, .quench, .counters, .mem, .poison, .free, .out] x3 a2 := by
      unfold x3
      refine Same.foldl ?_ _ ?_
      · intro y4
        intro y5
        exact Same.step (State.beginReset_same ..) rfl (Same.refl _ _)
      · exact Same.refl _ _
    clear_value x3
    extract_lets +onlyGivenNames x5
    have h5 : Same [.routing, .tiles, .sched, .ports, .wqs, .cqs, .remote, .coll, .trans, .insts,   .draw, .vises, .hearth, .quench, .counters, .mem, .poison, .free, .out] x5 a2 := by
      unfold x5
      exact Same.step (State.freeSlots_same ..) rfl (Same.step (State.dropPfQueues_same ..) rfl (by assumption))
    clear_value x5
    exact SameNext.next (Same.step (State.serve_same ..) rfl (Same.step (State.breakPf_same ..) rfl (by assumption)))

theorem State.d2hFails_same (a1 : State) (a2 : Nat) (a3 : D2hTag) :
    Same [.routing, .tiles, .sched, .ports, .wqs, .cqs, .remote, .matching, .trans, .insts, .draw, .hearth, .quench, .counters, .mem, .poison, .free, .out] (State.d2hFails a1 a2 a3) a1 := by
  unfold State.d2hFails
  split
  · refine Same.nextOr ?_ ?_
    · exact SameNext.step (execDescriptorReadComplete_same _ _ _) rfl (Same.refl _ _)
    · exact Same.refl _ _
  · exact Same.step (State.modPort_same ..) rfl (Same.refl _ _)
  · refine Same.nextOr ?_ ?_
    · exact SameNext.step (execWalkEntryRead_same _ _ _) rfl (Same.refl _ _)
    · exact Same.refl _ _
  · split
    · exact Same.step (State.resumeWalks_same ..) rfl (Same.step (State.walkFault_same ..) rfl (Same.step (State.dropD2h_same ..) rfl (Same.refl _ _)))
    · exact Same.step (State.dropD2h_same ..) rfl (Same.refl _ _)
  · exact Same.step (State.ringError_same ..) rfl (Same.refl _ _)
  · exact Same.step (State.raiseAt_same ..) rfl (Same.refl _ _)
  · refine Same.nextOr ?_ ?_
    · exact SameNext.step (execTallyMirrorWrite_same _ _ _) rfl (Same.refl _ _)
    · exact Same.refl _ _
  · refine Same.nextOr ?_ ?_
    · exact SameNext.step (execDrawSetCommit_same _ _ _) rfl (Same.refl _ _)
    · exact Same.refl _ _
  · exact Same.step (State.dropD2h_same ..) rfl (Same.refl _ _)
  · refine Same.nextOr ?_ ?_
    · exact SameNext.step (execPayloadReadReturn_same _ _ _ _) rfl (Same.refl _ _)
    · exact Same.refl _ _

theorem execD2hTimeout_same (a1 : Nat) (a2 : D2hTag) (a3 : Bool) (a4 : State) :
    SameNext [.routing, .tiles, .sched, .ports, .wqs, .cqs, .remote, .matching, .coll, .trans, .insts, .draw, .vises, .hearth, .quench, .counters, .mem, .outside, .poison, .free, .out] (execD2hTimeout a1 a2 a3 a4) a4 := by
  unfold execD2hTimeout
  refine SameNext.ite ?_ ?_
  · exact SameNext.next (Same.refl _ _)
  · extract_lets +onlyGivenNames x5
    have h5 : Same [.routing, .tiles, .sched, .ports, .wqs, .cqs, .remote, .matching, .coll, .trans, .insts, .draw, .vises, .hearth, .quench, .counters, .mem, .outside, .poison, .free, .out] x5 a4 := by
      unfold x5
      exact Same.step (State.d2hFails_same ..) rfl (Same.ite (Same.refl _ _) (Same.step (State.raiseAt_same ..) rfl (Same.refl _ _)))
    clear_value x5
    refine SameNext.next ?_
    refine Same.ite ?_ ?_
    · exact Same.step (State.serve_same ..) rfl (Same.step (State.vanish_same ..) rfl (by assumption))
    · assumption

theorem State.configWord_same (a1 : State) (a2 : Nat) (a3 : Option Nat) (a4 : Nat) :
    Same [.free] (State.configWord a1 a2 a3 a4).2 a1 := by
  unfold State.configWord
  split
  dsimp only
  exact Same.ofSnd (by assumption) (Same.step (State.drawFree_same ..) rfl (Same.refl _ _))

theorem State.setComponent_same (a1 : State) (a2 : Nat) (a3 : Option Nat) (a4 : Nat) (a5 : BitVec 32) :
    Same [.ports, .quench, .counters] (State.setComponent a1 a2 a3 a4 a5) a1 := by
  unfold State.setComponent
  split
  · exact Same.step (State.modPort_same ..) rfl (Same.refl _ _)
  · exact Same.step (State.modPort_same ..) rfl (Same.refl _ _)
  · exact Same.step (State.badWrite_same ..) rfl (Same.refl _ _)

theorem State.clearEnable_same (a1 : State) (a2 : Nat) (a3 : Bool) :
    Same [.routing, .tiles, .sched, .ports, .wqs, .cqs, .remote, .matching, .coll, .trans, .insts, .draw, .vises, .hearth, .quench, .counters, .mem, .outside, .poison, .free, .out] (State.clearEnable a1 a2 a3) a1 := by
  unfold State.clearEnable
  exact Same.step (State.vanish_same ..) rfl (Same.refl _ _)

theorem execCxlConfigRequest_same (a1 : Nat) (a2 : Option Nat) (a3 : CfgReq) (a4 : State) :
    SameNext [.routing, .tiles, .sched, .ports, .wqs, .cqs, .remote, .matching, .coll, .trans, .insts, .draw, .vises, .hearth, .quench, .counters, .mem, .outside, .poison, .free, .out] (execCxlConfigRequest a1 a2 a3 a4) a4 := by
  unfold execCxlConfigRequest
  extract_lets +onlyGivenNames x5
  clear_value x5
  extract_lets +onlyGivenNames x6
  refine SameNext.ite ?_ ?_
  · exact SameNext.next (Same.refl _ _)
  · refine SameNext.ite ?_ ?_
    · exact SameNext.next (Same.step (State.raiseAt_same ..) rfl (Same.refl _ _))
    · refine SameNext.ite ?_ ?_
      · exact SameNext.next (Same.step (State.emit_same ..) rfl (Same.refl _ _))
      · split
        · split
          refine SameNext.next ?_
          unfold x6
          exact Same.step (State.emit_same ..) rfl (Same.ofSnd (by assumption) (Same.step (State.configWord_same ..) rfl (Same.refl _ _)))
        · refine SameNext.ite ?_ ?_
          · refine SameNext.next ?_
            unfold x6
            exact Same.step (State.emit_same ..) rfl (Same.refl _ _)
          · refine SameNext.next (Same.step (State.serve_same ..) rfl ?_)
            unfold x6
            exact Same.step (State.emit_same ..) rfl (Same.ite (Same.step (State.modPort_same ..) rfl (Same.refl _ _)) (Same.step (State.clearEnable_same ..) rfl (Same.refl _ _)))
        · refine SameNext.ite ?_ ?_
          · refine SameNext.next ?_
            unfold x6
            exact Same.step (State.emit_same ..) rfl (Same.refl _ _)
          · refine SameNext.next (Same.step (State.serve_same ..) rfl ?_)
            unfold x6
            exact Same.step (State.emit_same ..) rfl (Same.ite (Same.step (State.modPort_same ..) rfl (Same.refl _ _)) (Same.step (State.clearEnable_same ..) rfl (Same.refl _ _)))
        · refine SameNext.next ?_
          unfold x6
          exact Same.step (State.emit_same ..) rfl (Same.ite (Same.refl _ _) (Same.step (State.modPort_same ..) rfl (Same.refl _ _)))
        · split
          refine SameNext.next ?_
          unfold x6
          exact Same.step (State.emit_same ..) rfl (Same.ofSnd (by assumption) (Same.step (State.barRead_same ..) rfl (Same.refl _ _)))
        · refine SameNext.next ?_
          unfold x6
          exact Same.step (State.emit_same ..) rfl (Same.step (State.setComponent_same ..) rfl (Same.refl _ _))
        · refine SameNext.next ?_
          unfold x6
          exact Same.step (State.emit_same ..) rfl (Same.ite (Same.refl _ _) (Same.step (State.modPort_same ..) rfl (Same.refl _ _)))
        · refine SameNext.next ?_
          unfold x6
          exact Same.step (State.emit_same ..) rfl (Same.ite (Same.refl _ _) (Same.step (State.modPort_same ..) rfl (Same.refl _ _)))
        · refine SameNext.next ?_
          unfold x6
          exact Same.step (State.emit_same ..) rfl (Same.ite (Same.refl _ _) (Same.step (State.modPort_same ..) rfl (Same.refl _ _)))
        · exact SameNext.next (Same.refl _ _)

theorem execMsixUnmask_same (a1 : Fn) (a2 : Nat) (a3 : State) :
    SameNext [.ports, .quench, .counters, .out] (execMsixUnmask a1 a2 a3) a3 := by
  unfold execMsixUnmask
  refine SameNext.ite ?_ ?_
  · exact SameNext.next (Same.step (State.badWrite_same ..) rfl (Same.refl _ _))
  · extract_lets +onlyGivenNames x4
    clear_value x4
    extract_lets +onlyGivenNames x5
    have h5 : Same [.ports, .quench, .counters, .out] x5 a3 := by
      unfold x5
      exact Same.step (State.modPort_same ..) rfl (Same.refl _ _)
    clear_value x5
    refine SameNext.next ?_
    refine Same.ite ?_ ?_
    · exact Same.step (State.signal_same ..) rfl (by assumption)
    · assumption

theorem execSegmentExpose_same (a1 : Call) (a2 : Nat) (a3 : BitVec 4) (a4 : State) :
    SameNext [.routing, .tiles, .sched, .ports, .hearth, .quench, .counters, .segments, .out] (execSegmentExpose a1 a2 a3 a4) a4 := by
  unfold execSegmentExpose
  refine fleso_same rfl ?_
  intro y5
  intro y6
  extract_lets +onlyGivenNames x7
  clear_value x7
  extract_lets +onlyGivenNames x8
  clear_value x8
  refine Same.iteFst ?_ ?_
  · dsimp only
    exact Same.refl _ _
  · refine Same.iteFst ?_ ?_
    · dsimp only
      exact Same.refl _ _
    · refine Same.iteFst ?_ ?_
      · dsimp only
        exact Same.refl _ _
      · refine Same.iteFst ?_ ?_
        · dsimp only
          exact Same.refl _ _
        · extract_lets +onlyGivenNames x9
          clear_value x9
          extract_lets +onlyGivenNames x10
          have h10 : Same [.routing, .tiles, .sched, .ports, .hearth, .quench, .counters, .segments, .out] x10 y6 := by
            unfold x10
            exact Same.setHearthSegments rfl rfl (Same.refl _ _)
          clear_value x10
          dsimp only
          exact Same.step (State.exposeDone_same ..) rfl (Same.step (State.exposeSnoop_same ..) rfl (by assumption))

theorem execPortPresent_same (a1 : Nat) (a2 : State) :
    SameNext [.routing, .tiles, .sched, .ports, .wqs, .cqs, .matching, .trans, .insts, .hearth, .quench, .counters, .free, .out] (execPortPresent a1 a2) a2 := by
  unfold execPortPresent
  extract_lets +onlyGivenNames x3
  clear_value x3
  extract_lets +onlyGivenNames x4
  clear_value x4
  refine SameNext.ite ?_ ?_
  · exact SameNext.next (Same.refl _ _)
  · extract_lets +onlyGivenNames x5
    have h5 : Same [.routing, .tiles, .sched, .ports, .wqs, .cqs, .matching, .trans, .insts, .hearth, .quench, .counters, .free, .out] x5 a2 := by
      unfold x5
      exact Same.step (State.adjustMode_same ..) rfl (Same.step (State.modPort_same ..) rfl (Same.refl _ _))
    clear_value x5
    refine SameNext.next ?_
    refine Same.foldl ?_ _ ?_
    · intro y7
      intro y8
      exact Same.step (State.missedArrivals_same ..) rfl (Same.step (State.drain_same ..) rfl (Same.refl _ _))
    · assumption

theorem execFlrVf_same (a1 : Nat) (a2 : Nat) (a3 : State) :
    SameNext [.routing, .tiles, .sched, .ports, .wqs, .cqs, .coll, .trans, .insts, .draw, .vises, .hearth, .quench, .counters, .mem, .poison, .free, .out] (execFlrVf a1 a2 a3) a3 := by
  unfold execFlrVf
  refine SameNext.ite ?_ ?_
  · exact SameNext.next (Same.refl _ _)
  · extract_lets +onlyGivenNames x4
    have h4 : Same [.routing, .tiles, .sched, .ports, .wqs, .cqs, .coll, .trans, .insts, .draw,   .vises, .hearth, .quench, .counters, .mem, .poison, .free, .out] x4 a3 := by
      unfold x4
      split
      · exact Same.step (State.beginReset_same ..) rfl (Same.refl _ _)
      · exact Same.refl _ _
    clear_value x4
    exact SameNext.next (Same.step (State.serve_same ..) rfl (Same.step (State.freeSlots_same ..) rfl (by assumption)))

theorem execIdeFailure_same (a1 : Nat) (a2 : State) :
    SameNext [.routing, .tiles, .sched, .ports, .wqs, .cqs, .remote, .matching, .coll, .trans, .insts, .draw, .vises, .hearth, .quench, .counters, .mem, .outside, .poison, .free, .out] (execIdeFailure a1 a2) a2 := by
  unfold execIdeFailure
  refine SameNext.ite ?_ ?_
  · exact SameNext.next (Same.step (State.serve_same ..) rfl (Same.step (State.vanish_same ..) rfl (Same.step (State.raiseAt_same ..) rfl (Same.refl _ _))))
  · exact SameNext.next (Same.refl _ _)

theorem execBmeClear_same (a1 : Nat) (a2 : Bool) (a3 : State) :
    SameNext [.routing, .tiles, .sched, .ports, .wqs, .cqs, .remote, .matching, .coll, .trans, .insts, .draw, .vises, .hearth, .quench, .counters, .mem, .outside, .poison, .free, .out] (execBmeClear a1 a2 a3) a3 := by
  unfold execBmeClear
  refine SameNext.ite ?_ ?_
  · exact SameNext.next (Same.step (State.serve_same ..) rfl (Same.step (State.clearEnable_same ..) rfl (Same.refl _ _)))
  · exact SameNext.next (Same.refl _ _)

theorem State.memCome_same (a1 : State) (a2 : Nat) (a3 : Bool) (a4 : MemReq) :
    Same [.ports, .quench, .counters, .mem, .outside, .poison, .free, .out] (State.memCome a1 a2 a3 a4) a1 := by
  unfold State.memCome
  refine Same.ite ?_ ?_
  · exact Same.refl _ _
  · refine Same.ite ?_ ?_
    · exact Same.step (State.raiseAt_same ..) rfl (Same.refl _ _)
    · exact Same.ite (Same.refl _ _) (Same.step (State.serveMem_same ..) rfl (Same.step (State.modPort_same ..) rfl (Same.refl _ _)))

theorem execCxlMemWrite_same (a1 : Nat) (a2 : Bool) (a3 : Bool) (a4 : Word) (a5 : List Byte) (a6 : State) :
    SameNext [.ports, .quench, .counters, .mem, .outside, .poison, .free, .out] (execCxlMemWrite a1 a2 a3 a4 a5 a6) a6 := by
  unfold execCxlMemWrite
  extract_lets +onlyGivenNames x7
  clear_value x7
  exact SameNext.ite (SameNext.fault) (SameNext.next (Same.step (State.memCome_same ..) rfl (Same.refl _ _)))

theorem execGpfPhase2_same (a1 : Nat) (a2 : State) :
    SameNext [.counters, .out] (execGpfPhase2 a1 a2) a2 := by
  unfold execGpfPhase2
  exact SameNext.next (Same.ite (Same.step (State.emit_same ..) rfl (Same.refl _ _)) (Same.refl _ _))

theorem execDoeSpdmRequest_same (a1 : Nat) (a2 : SpdmReq) (a3 : State) :
    SameNext [.ports, .counters, .out] (execDoeSpdmRequest a1 a2 a3) a3 := by
  unfold execDoeSpdmRequest
  refine SameNext.ite ?_ ?_
  · exact SameNext.next (Same.refl _ _)
  · split
    · exact SameNext.next (Same.ite (Same.step (State.modPort_same ..) rfl (Same.refl _ _)) (Same.refl _ _))
    · split
      · exact SameNext.next (Same.refl _ _)
      · exact SameNext.next (Same.step (State.modPort_same ..) rfl (Same.refl _ _))
    · split
      · exact SameNext.next (Same.refl _ _)
      · exact SameNext.next (Same.step (State.emit_same ..) rfl (Same.refl _ _))

theorem State.unshare_same (a1 : State) (a2 : Nat) :
    Same [.segments] (State.unshare a1 a2) a1 := by
  unfold State.unshare
  exact Same.setSegments rfl (Same.refl _ _)

theorem State.writeBackCache_same (a1 : State) (a2 : Nat) :
    Same [.ports, .counters, .out] (State.writeBackCache a1 a2) a1 := by
  unfold State.writeBackCache
  refine Same.step (State.modPort_same ..) rfl ?_
  refine Same.foldl ?_ _ ?_
  · intro y3
    intro y4
    exact Same.step (State.lineBack_same ..) rfl (Same.refl _ _)
  · exact Same.refl _ _

theorem execBiTimeout_same (a1 : Nat) (a2 : State) :
    SameNext [.routing, .tiles, .sched, .ports, .wqs, .cqs, .remote, .matching, .coll, .trans, .insts, .draw, .vises, .hearth, .quench, .counters, .mem, .outside, .poison, .free, .out] (execBiTimeout a1 a2) a2 := by
  unfold execBiTimeout
  refine SameNext.ite ?_ ?_
  · exact SameNext.next (Same.refl _ _)
  · exact SameNext.next (Same.step (State.serve_same ..) rfl (Same.step (State.vanish_same ..) rfl (Same.step (State.raiseAt_same ..) rfl (Same.refl _ _))))

theorem execHrefclkReturn_same (a1 : Nat) (a2 : State) :
    SameNext [.ports] (execHrefclkReturn a1 a2) a2 := by
  unfold execHrefclkReturn
  exact SameNext.next (Same.ite (Same.step (State.modPort_same ..) rfl (Same.refl _ _)) (Same.refl _ _))

theorem execCxlLinkUp_same (a1 : Nat) (a2 : BitVec 4) (a3 : BitVec 2) (a4 : Bool) (a5 : Bool) (a6 : State) :
    SameNext [.ports, .quench, .counters, .segments, .out] (execCxlLinkUp a1 a2 a3 a4 a5 a6) a6 := by
  unfold execCxlLinkUp
  extract_lets +onlyGivenNames x7
  clear_value x7
  refine SameNext.ite ?_ ?_
  · exact SameNext.next (Same.refl _ _)
  · refine SameNext.ite ?_ ?_
    · exact SameNext.next (Same.ite (Same.step (State.emit_same ..) rfl (Same.step (State.modPort_same ..) rfl (Same.refl _ _))) (Same.refl _ _))
    · split
      · exact SameNext.next (Same.step (State.raiseAt_same ..) rfl (Same.refl _ _))
      · refine SameNext.ite ?_ ?_
        · exact SameNext.next (Same.step (State.raiseAt_same ..) rfl (Same.refl _ _))
        · extract_lets +onlyGivenNames x12
          have h12 : Same [.ports, .quench, .counters, .segments, .out] x12 a6 := by
            unfold x12
            exact Same.step (State.modPort_same ..) rfl (Same.refl _ _)
          clear_value x12
          extract_lets +onlyGivenNames x14
          have h14 : Same [.ports, .quench, .counters, .segments, .out] x14 a6 := by
            unfold x14
            refine Same.ite ?_ ?_
            · exact Same.step (State.unshare_same ..) rfl (by assumption)
            · assumption
          clear_value x14
          refine SameNext.next ?_
          refine Same.ite ?_ ?_
          · exact Same.step (State.emit_same ..) rfl (by assumption)
          · assumption

theorem execCxlLinkTrainingFailed_same (a1 : Nat) (a2 : Bool) (a3 : State) :
    SameNext [.quench, .counters] (execCxlLinkTrainingFailed a1 a2 a3) a3 := by
  unfold execCxlLinkTrainingFailed
  exact SameNext.ite (SameNext.next (Same.refl _ _)) (SameNext.next (Same.step (State.raiseAt_same ..) rfl (Same.refl _ _)))

theorem execHrefclkLoss_same (a1 : Nat) (a2 : State) :
    SameNext [.ports] (execHrefclkLoss a1 a2) a2 := by
  unfold execHrefclkLoss
  exact SameNext.next (Same.ite (Same.step (State.modPort_same ..) rfl (Same.refl _ _)) (Same.refl _ _))

theorem execH2dSnoop_same (a1 : Nat) (a2 : Word) (a3 : State) :
    SameNext [.ports, .counters, .out] (execH2dSnoop a1 a2 a3) a3 := by
  unfold execH2dSnoop
  extract_lets +onlyGivenNames x4
  clear_value x4
  refine SameNext.ite ?_ ?_
  · exact SameNext.next (Same.refl _ _)
  · split
    · exact SameNext.next (Same.step (State.emit_same ..) rfl (Same.refl _ _))
    · exact SameNext.next (Same.step (State.emit_same ..) rfl (Same.step (State.modPort_same ..) rfl (Same.refl _ _)))

theorem execCxlMemRead_same (a1 : Nat) (a2 : Bool) (a3 : Bool) (a4 : Word) (a5 : State) :
    SameNext [.ports, .quench, .counters, .mem, .outside, .poison, .free, .out] (execCxlMemRead a1 a2 a3 a4 a5) a5 := by
  unfold execCxlMemRead
  extract_lets +onlyGivenNames x6
  clear_value x6
  exact SameNext.ite (SameNext.fault) (SameNext.next (Same.step (State.memCome_same ..) rfl (Same.refl _ _)))

theorem execGpfPhase1_same (a1 : Nat) (a2 : State) :
    SameNext [.ports, .counters, .out] (execGpfPhase1 a1 a2) a2 := by
  unfold execGpfPhase1
  refine SameNext.ite ?_ ?_
  · exact SameNext.next (Same.refl _ _)
  · exact SameNext.next (Same.step (State.emit_same ..) rfl (Same.step (State.writeBackCache_same ..) rfl (Same.refl _ _)))

theorem execHotReset_same (a1 : Nat) (a2 : State) :
    SameNext [.routing, .tiles, .sched, .ports, .wqs, .cqs, .remote, .matching, .coll, .trans, .insts, .draw, .vises, .hearth, .quench, .counters, .mem, .outside, .poison, .free, .out] (execHotReset a1 a2) a2 := by
  unfold execHotReset
  refine SameNext.ite ?_ ?_
  · exact SameNext.next (Same.step (State.serve_same ..) rfl (Same.step (State.vanish_same ..) rfl (Same.refl _ _)))
  · exact SameNext.next (Same.refl _ _)

end Sys2Proof.Machine
end

