-- ==== Sys2Proof/Laws/FrameSettings.lean ====
section
/-! SUPPORT. Frames of the operations and commands of Sys2Proof/Machine/Settings.lean: each changes no part of the module but those it
names, and keeps module memory canonical. -/

namespace Sys2Proof.Machine

open Sys2Proof

theorem execRouteCfg_same (a1 : Call) (a2 : Word) (a3 : Word) (a4 : State) :
    SameNext [.routing, .tiles, .sched, .ports, .hearth, .quench, .counters, .out] (execRouteCfg a1 a2 a3 a4) a4 := by
  unfold execRouteCfg
  refine fleso_same rfl ?_
  intro y5
  intro y6
  extract_lets +onlyGivenNames x7
  clear_value x7
  extract_lets +onlyGivenNames x8
  clear_value x8
  split
  · dsimp only
    exact Same.refl _ _
  · dsimp only
    exact Same.setRouting rfl (Same.refl _ _)

theorem execTimePort_same (a1 : Call) (a2 : Nat) (a3 : BitVec 16) (a4 : State) :
    SameNext [.routing, .tiles, .sched, .ports, .hearth, .quench, .counters, .out] (execTimePort a1 a2 a3 a4) a4 := by
  unfold execTimePort
  refine fleso_same rfl ?_
  intro y5
  intro y6
  refine Same.iteFst ?_ ?_
  · dsimp only
    exact Same.refl _ _
  · dsimp only
    exact Same.step (State.modTile_same ..) rfl (Same.refl _ _)

theorem execStrokeAdmit_same (a1 : Call) (a2 : DataRef) (a3 : State) :
    SameNext [.routing, .tiles, .sched, .time, .ports, .hearth, .quench, .counters, .out] (execStrokeAdmit a1 a2 a3) a3 := by
  unfold execStrokeAdmit
  refine fleso_same rfl ?_
  intro y4
  intro y5
  refine Same.iteFst ?_ ?_
  · dsimp only
    exact Same.refl _ _
  · extract_lets +onlyGivenNames x6
    clear_value x6
    extract_lets +onlyGivenNames x7
    clear_value x7
    dsimp only
    exact Same.setTime rfl (Same.refl _ _)

theorem execRouteLoad_same (a1 : Call) (a2 : BitVec 32) (a3 : Bool) (a4 : DataRef) (a5 : State) :
    SameNext [.routing, .tiles, .sched, .ports, .hearth, .quench, .counters, .out] (execRouteLoad a1 a2 a3 a4 a5) a5 := by
  unfold execRouteLoad
  refine fleso_same rfl ?_
  intro y6
  intro y7
  extract_lets +onlyGivenNames x8
  clear_value x8
  extract_lets +onlyGivenNames x9
  clear_value x9
  extract_lets +onlyGivenNames x10
  clear_value x10
  refine Same.iteFst ?_ ?_
  · dsimp only
    exact Same.refl _ _
  · refine Same.iteFst ?_ ?_
    · refine Same.iteFst ?_ ?_
      · dsimp only
        exact Same.refl _ _
      · refine Same.iteFst ?_ ?_
        · dsimp only
          exact Same.refl _ _
        · refine Same.iteFst ?_ ?_
          · dsimp only
            exact Same.refl _ _
          · split
            · dsimp only
              exact Same.refl _ _
            · extract_lets +onlyGivenNames x13
              clear_value x13
              extract_lets +onlyGivenNames x14
              clear_value x14
              extract_lets +onlyGivenNames x15
              have h15 : Same [.routing, .tiles, .sched, .ports, .hearth, .quench, .counters, .out] x15 y7 := by
                unfold x15
                exact Same.setRouting rfl (Same.refl _ _)
              clear_value x15
              dsimp only
              exact Same.step (State.rejoinAll_same ..) rfl (by assumption)
    · refine Same.iteFst ?_ ?_
      · dsimp only
        exact Same.refl _ _
      · refine Same.iteFst ?_ ?_
        · dsimp only
          exact Same.refl _ _
        · split
          · dsimp only
            exact Same.setRouting rfl (Same.refl _ _)
          · dsimp only
            exact Same.setRouting rfl (Same.refl _ _)

theorem execMachineIdentity_same (a1 : Call) (a2 : ModId) (a3 : Nat) (a4 : Nat) (a5 : Nat) (a6 : Nat) (a7 : Nat) (a8 : State) :
    SameNext [.routing, .tiles, .sched, .time, .ports, .hearth, .quench, .counters, .out] (execMachineIdentity a1 a2 a3 a4 a5 a6 a7 a8) a8 := by
  unfold execMachineIdentity
  refine fleso_same rfl ?_
  intro y9
  intro y10
  extract_lets +onlyGivenNames x11
  clear_value x11
  refine Same.iteFst ?_ ?_
  · dsimp only
    exact Same.refl _ _
  · refine Same.iteFst ?_ ?_
    · dsimp only
      exact Same.refl _ _
    · refine Same.iteFst ?_ ?_
      · dsimp only
        exact Same.refl _ _
      · extract_lets +onlyGivenNames x12
        clear_value x12
        extract_lets +onlyGivenNames x13
        clear_value x13
        extract_lets +onlyGivenNames x14
        clear_value x14
        extract_lets +onlyGivenNames x15
        clear_value x15
        extract_lets +onlyGivenNames x16
        have h16 : Same [.routing, .tiles, .sched, .time, .ports, .hearth, .quench, .counters, .out] x16 y10 := by
          unfold x16
          exact Same.setRoutingHearth rfl rfl (Same.refl _ _)
        clear_value x16
        extract_lets +onlyGivenNames x18
        have h18 : Same [.routing, .tiles, .sched, .time, .ports, .hearth, .quench, .counters, .out] x18 y10 := by
          unfold x18
          refine Same.step (State.rejoinAll_same ..) rfl ?_
          refine Same.foldl ?_ _ ?_
          · intro y19
            intro y20
            exact Same.step (State.checkIdentity_same ..) rfl (Same.refl _ _)
          · assumption
        clear_value x18
        dsimp only
        exact Same.step (State.bringupExit_same ..) rfl (Same.step (State.elect_same ..) rfl (Same.step (State.announce_same ..) rfl (by assumption)))

theorem execTreeWrite_same (a1 : Call) (a2 : Nat) (a3 : BitVec 128) (a4 : State) :
    SameNext [.routing, .tiles, .sched, .ports, .hearth, .quench, .counters, .out] (execTreeWrite a1 a2 a3 a4) a4 := by
  unfold execTreeWrite
  refine fleso_same rfl ?_
  intro y5
  intro y6
  refine Same.iteFst ?_ ?_
  · dsimp only
    exact Same.refl _ _
  · refine Same.iteFst ?_ ?_
    · dsimp only
      exact Same.refl _ _
    · dsimp only
      exact Same.setRouting rfl (Same.refl _ _)

theorem execTimeSet_same (a1 : Call) (a2 : Word) (a3 : State) :
    SameNext [.routing, .tiles, .sched, .time, .ports, .hearth, .quench, .counters, .out] (execTimeSet a1 a2 a3) a3 := by
  unfold execTimeSet
  refine fleso_same rfl ?_
  intro y4
  intro y5
  extract_lets +onlyGivenNames x6
  clear_value x6
  refine Same.iteFst ?_ ?_
  · dsimp only
    exact Same.refl _ _
  · refine Same.iteFst ?_ ?_
    · dsimp only
      exact Same.refl _ _
    · dsimp only
      exact Same.setTime rfl (Same.refl _ _)

theorem execStrokeSwap_same (a1 : Call) (a2 : Ticks) (a3 : Bool) (a4 : State) :
    SameNext [.routing, .tiles, .sched, .time, .ports, .hearth, .quench, .counters, .out] (execStrokeSwap a1 a2 a3 a4) a4 := by
  unfold execStrokeSwap
  refine fleso_same rfl ?_
  intro y5
  intro y6
  refine Same.iteFst ?_ ?_
  · refine Same.iteFst ?_ ?_
    · dsimp only
      exact Same.setTime rfl (Same.refl _ _)
    · dsimp only
      exact Same.refl _ _
  · refine Same.iteFst ?_ ?_
    · dsimp only
      exact Same.refl _ _
    · dsimp only
      exact Same.setTime rfl (Same.refl _ _)

theorem execRouteSwap_same (a1 : Call) (a2 : BitVec 32) (a3 : Ticks) (a4 : Bool) (a5 : State) :
    SameNext [.routing, .tiles, .sched, .ports, .hearth, .quench, .counters, .out] (execRouteSwap a1 a2 a3 a4 a5) a5 := by
  unfold execRouteSwap
  refine fleso_same rfl ?_
  intro y6
  intro y7
  extract_lets +onlyGivenNames x8
  clear_value x8
  refine Same.iteFst ?_ ?_
  · refine Same.iteFst ?_ ?_
    · dsimp only
      exact Same.refl _ _
    · refine Same.iteFst ?_ ?_
      · dsimp only
        exact Same.refl _ _
      · dsimp only
        exact Same.setRouting rfl (Same.refl _ _)
  · refine Same.iteFst ?_ ?_
    · dsimp only
      exact Same.refl _ _
    · refine Same.iteFst ?_ ?_
      · dsimp only
        exact Same.refl _ _
      · refine Same.iteFst ?_ ?_
        · dsimp only
          exact Same.refl _ _
        · dsimp only
          exact Same.setRouting rfl (Same.refl _ _)

theorem execPortReassign_same (a1 : Call) (a2 : Word) (a3 : State) :
    SameNext [.routing, .tiles, .sched, .time, .ports, .hearth, .quench, .counters, .out] (execPortReassign a1 a2 a3) a3 := by
  unfold execPortReassign
  refine fleso_same rfl ?_
  intro y4
  intro y5
  extract_lets +onlyGivenNames x6
  clear_value x6
  extract_lets +onlyGivenNames x7
  clear_value x7
  extract_lets +onlyGivenNames x8
  clear_value x8
  extract_lets +onlyGivenNames x9
  clear_value x9
  split
  · dsimp only
    exact Same.refl _ _
  · refine Same.iteFst ?_ ?_
    · dsimp only
      exact Same.refl _ _
    · extract_lets +onlyGivenNames x12
      clear_value x12
      extract_lets +onlyGivenNames x13
      clear_value x13
      extract_lets +onlyGivenNames x14
      have h14 : Same [.routing, .tiles, .sched, .time, .ports, .hearth, .quench, .counters, .out] x14 y5 := by
        unfold x14
        exact Same.setRouting rfl (Same.refl _ _)
      clear_value x14
      dsimp only
      exact Same.step (State.bringupExit_same ..) rfl (Same.step (State.announce_same ..) rfl (Same.step (State.elect_same ..) rfl (Same.step (State.checkIdentity_same ..) rfl (by assumption))))

theorem execTimeCfg_same (a1 : Call) (a2 : Word) (a3 : State) :
    SameNext [.routing, .tiles, .sched, .time, .ports, .hearth, .quench, .counters, .out] (execTimeCfg a1 a2 a3) a3 := by
  unfold execTimeCfg
  refine fleso_same rfl ?_
  intro y4
  intro y5
  split
  · dsimp only
    exact Same.refl _ _
  · extract_lets +onlyGivenNames x8
    clear_value x8
    extract_lets +onlyGivenNames x9
    clear_value x9
    extract_lets +onlyGivenNames x10
    clear_value x10
    dsimp only
    exact Same.step (State.elect_same ..) rfl (Same.setTime rfl (Same.refl _ _))

theorem execStrokeEnable_same (a1 : Call) (a2 : Bool) (a3 : State) :
    SameNext [.routing, .tiles, .sched, .time, .ports, .hearth, .quench, .counters, .out] (execStrokeEnable a1 a2 a3) a3 := by
  unfold execStrokeEnable
  refine fleso_same rfl ?_
  intro y4
  intro y5
  dsimp only
  exact Same.setTime rfl (Same.refl _ _)

theorem execHoleSet_same (a1 : Call) (a2 : Nat) (a3 : Nat) (a4 : Bool) (a5 : State) :
    SameNext [.routing, .tiles, .sched, .ports, .hearth, .quench, .counters, .out] (execHoleSet a1 a2 a3 a4 a5) a5 := by
  unfold execHoleSet
  refine fleso_same rfl ?_
  intro y6
  intro y7
  refine Same.iteFst ?_ ?_
  · dsimp only
    exact Same.refl _ _
  · refine Same.iteFst ?_ ?_
    · dsimp only
      exact Same.refl _ _
    · extract_lets +onlyGivenNames x8
      clear_value x8
      extract_lets +onlyGivenNames x9
      clear_value x9
      dsimp only
      exact Same.setRouting rfl (Same.refl _ _)

theorem execFlowCfg_same (a1 : Call) (a2 : Option Nat) (a3 : Word) (a4 : Word) (a5 : Word) (a6 : State) :
    SameNext [.routing, .tiles, .sched, .ports, .hearth, .quench, .counters, .out] (execFlowCfg a1 a2 a3 a4 a5 a6) a6 := by
  unfold execFlowCfg
  refine fleso_same rfl ?_
  intro y7
  intro y8
  extract_lets +onlyGivenNames x9
  clear_value x9
  extract_lets +onlyGivenNames x10
  clear_value x10
  extract_lets +onlyGivenNames x11
  clear_value x11
  extract_lets +onlyGivenNames x12
  clear_value x12
  refine Same.iteFst ?_ ?_
  · dsimp only
    exact Same.refl _ _
  · refine Same.iteFst ?_ ?_
    · dsimp only
      exact Same.refl _ _
    · refine Same.iteFst ?_ ?_
      · dsimp only
        exact Same.refl _ _
      · refine Same.iteFst ?_ ?_
        · dsimp only
          exact Same.refl _ _
        · extract_lets +onlyGivenNames x13
          clear_value x13
          extract_lets +onlyGivenNames x14
          clear_value x14
          extract_lets +onlyGivenNames x15
          have h15 : Same [.routing, .tiles, .sched, .ports, .hearth, .quench, .counters, .out] x15 y8 := by
            unfold x15
            refine Same.foldl ?_ _ ?_
            · intro y16
              intro y17
              exact Same.step (State.modTile_same ..) rfl (Same.refl _ _)
            · exact Same.refl _ _
          clear_value x15
          dsimp only
          exact Same.setSched rfl id (by assumption)

theorem execStrokeLoad_same (a1 : Call) (a2 : Ticks) (a3 : DataRef) (a4 : State) :
    SameNext [.routing, .tiles, .sched, .time, .ports, .hearth, .quench, .counters, .out] (execStrokeLoad a1 a2 a3 a4) a4 := by
  unfold execStrokeLoad
  refine fleso_same rfl ?_
  intro y5
  intro y6
  extract_lets +onlyGivenNames x7
  clear_value x7
  refine Same.iteFst ?_ ?_
  · dsimp only
    exact Same.refl _ _
  · extract_lets +onlyGivenNames x8
    clear_value x8
    split
    · dsimp only
      exact Same.refl _ _
    · extract_lets +onlyGivenNames x11
      clear_value x11
      extract_lets +onlyGivenNames x12
      clear_value x12
      dsimp only
      exact Same.setTime rfl (Same.refl _ _)

end Sys2Proof.Machine
end

