-- ==== Sys2Proof/Laws/FrameQuench.lean ====
section
/-! SUPPORT. Frames of the operations and commands of Sys2Proof/Machine/Quench.lean: each changes no part of the module but those it
names, and keeps module memory canonical. -/

namespace Sys2Proof.Machine

open Sys2Proof

theorem State.idleFabric_same (a1 : State) (a2 : Bool) :
    Same [.tiles, .counters, .out] (State.idleFabric a1 a2) a1 := by
  unfold State.idleFabric
  extract_lets +onlyGivenNames x3
  have h3 : Same [.tiles, .counters, .out] x3 a1 := by
    unfold x3
    exact Same.setTiles rfl (Same.refl _ _)
  clear_value x3
  refine Same.foldl ?_ _ ?_
  · intro y5
    intro y6
    exact Same.step (State.emit_same ..) rfl (Same.refl _ _)
  · assumption

theorem State.writeBackHosts_same (a1 : State) :
    Same [.ports, .counters, .out] (State.writeBackHosts a1) a1 := by
  unfold State.writeBackHosts
  refine Same.foldl ?_ _ ?_
  · intro y2
    intro y3
    refine Same.nextOr ?_ ?_
    · exact SameNext.step (execGpfPhase1_same _ _) rfl (Same.refl _ _)
    · exact Same.refl _ _
  · exact Same.refl _ _

theorem State.notify_same (a1 : State) (a2 : QRec) (a3 : Option Nat) (a4 : BitVec 32) :
    Same [.ports, .hearth, .counters, .out] (State.notify a1 a2 a3 a4) a1 := by
  unfold State.notify
  extract_lets +onlyGivenNames x5
  clear_value x5
  extract_lets +onlyGivenNames x6
  split
  · extract_lets +onlyGivenNames x8
    clear_value x8
    extract_lets +onlyGivenNames x9
    have h9 : Same [.ports, .hearth, .counters, .out] x9 a1 := by
      unfold x9
      refine Same.ite ?_ ?_
      · unfold x6
        exact Same.step (State.signal_same ..) rfl (Same.step (State.event_same ..) rfl (Same.refl _ _))
      · exact Same.refl _ _
    clear_value x9
    unfold x6
    exact Same.step (State.signal_same ..) rfl (Same.step (State.event_same ..) rfl (by assumption))
  · refine Same.ite ?_ ?_
    · unfold x6
      exact Same.step (State.signal_same ..) rfl (Same.step (State.event_same ..) rfl (Same.refl _ _))
    · refine Same.ite ?_ ?_
      · unfold x6
        exact Same.step (State.signal_same ..) rfl (Same.step (State.event_same ..) rfl (Same.refl _ _))
      · exact Same.refl _ _

theorem State.record_same (a1 : State) (a2 : QRec) (a3 : Option Nat) :
    Same [.routing, .tiles, .sched, .ports, .hearth, .quench, .counters, .out] (State.record a1 a2 a3) a1 := by
  unfold State.record
  extract_lets +onlyGivenNames x4
  clear_value x4
  extract_lets +onlyGivenNames x5
  clear_value x5
  extract_lets +onlyGivenNames x6
  have h6 : Same [.routing, .tiles, .sched, .ports, .hearth, .quench, .counters, .out] x6 a1 := by
    unfold x6
    exact Same.setQuench rfl (Same.refl _ _)
  clear_value x6
  extract_lets +onlyGivenNames x8
  have h8 : Same [.routing, .tiles, .sched, .ports, .hearth, .quench, .counters, .out] x8 a1 := by
    unfold x8
    refine Same.ite ?_ ?_
    · exact Same.step (State.notify_same ..) rfl (by assumption)
    · assumption
  clear_value x8
  refine Same.ite ?_ ?_
  · exact Same.step (State.sendTc3_same ..) rfl (by assumption)
  · assumption

theorem State.recordCase_same (a1 : State) (a2 : QCase) :
    Same [.routing, .tiles, .sched, .ports, .hearth, .quench, .counters, .out] (State.recordCase a1 a2) a1 := by
  unfold State.recordCase
  extract_lets +onlyGivenNames x3
  clear_value x3
  extract_lets +onlyGivenNames x4
  have h4 : Same [.routing, .tiles, .sched, .ports, .hearth, .quench, .counters, .out] x4 a1 := by
    unfold x4
    exact Same.step (State.record_same ..) rfl (Same.refl _ _)
  clear_value x4
  refine Same.ite ?_ ?_
  · assumption
  · exact Same.step (State.record_same ..) rfl (by assumption)

theorem execQuenchRead_same (a1 : Call) (a2 : State) :
    SameNext [.routing, .tiles, .sched, .ports, .hearth, .quench, .counters, .out] (execQuenchRead a1 a2) a2 := by
  unfold execQuenchRead
  refine fleso_same rfl ?_
  intro y3
  intro y4
  extract_lets +onlyGivenNames x5
  clear_value x5
  dsimp only
  exact Same.refl _ _

theorem State.dropReaction_same (a1 : State) (a2 : QUnit) :
    Same [.quench] (State.dropReaction a1 a2) a1 := by
  unfold State.dropReaction
  exact Same.setQuench rfl (Same.refl _ _)

theorem execQuenchWindowEnd_same (a1 : Nat) (a2 : Ticks) (a3 : State) :
    SameNext [.time, .quench] (execQuenchWindowEnd a1 a2 a3) a3 := by
  unfold execQuenchWindowEnd
  extract_lets +onlyGivenNames x4
  have h4 : Same [.time, .quench] x4 a3 := by
    unfold x4
    exact Same.step (State.advance_same ..) rfl (Same.refl _ _)
  clear_value x4
  extract_lets +onlyGivenNames x6
  clear_value x6
  refine SameNext.next ?_
  refine Same.ite ?_ ?_
  · exact Same.setQuench rfl (by assumption)
  · assumption

theorem execInject_same (a1 : Call) (a2 : Word) (a3 : Ticks) (a4 : State) :
    SameNext [.routing, .tiles, .sched, .ports, .hearth, .quench, .counters, .out] (execInject a1 a2 a3 a4) a4 := by
  unfold execInject
  refine fleso_same rfl ?_
  intro y5
  intro y6
  extract_lets +onlyGivenNames x7
  clear_value x7
  extract_lets +onlyGivenNames x8
  clear_value x8
  split
  · dsimp only
    exact Same.refl _ _
  · refine Same.iteFst ?_ ?_
    · dsimp only
      exact Same.refl _ _
    · split
      · dsimp only
        exact Same.refl _ _
      · extract_lets +onlyGivenNames x14
        clear_value x14
        dsimp only
        exact Same.setQuench rfl (Same.refl _ _)

theorem State.fenceUnit_same (a1 : State) (a2 : QUnit) (a3 : Nat) :
    Same [.routing, .tiles, .sched, .time, .ports, .wqs, .cqs, .remote, .matching, .coll, .striker, .trans, .insts, .draw, .vises, .hearth, .quench, .counters, .mem, .outside, .poison, .free, .out] (State.fenceUnit a1 a2 a3) a1 := by
  unfold State.fenceUnit
  extract_lets +onlyGivenNames x4
  have h4 : Same [.routing, .tiles, .sched, .time, .ports, .wqs, .cqs, .remote, .matching, .coll, .striker, .trans, .insts, .draw, .vises, .hearth, .quench, .counters, .mem, .outside, .poison, .free, .out] x4 a1 := by
    unfold x4
    exact Same.step (State.dropReaction_same ..) rfl (Same.refl _ _)
  clear_value x4
  extract_lets +onlyGivenNames x6
  clear_value x6
  extract_lets +onlyGivenNames x7
  have h7 : Same [.routing, .tiles, .sched, .time, .ports, .wqs, .cqs, .remote, .matching, .coll, .striker, .trans, .insts, .draw, .vises, .hearth, .quench, .counters, .mem, .outside, .poison, .free, .out] x7 a1 := by
    unfold x7
    exact Same.setQuench rfl (by assumption)
  clear_value x7
  extract_lets +onlyGivenNames x9
  have h9 : Same [.routing, .tiles, .sched, .time, .ports, .wqs, .cqs, .remote, .matching, .coll, .striker, .trans, .insts, .draw, .vises, .hearth, .quench, .counters, .mem, .outside, .poison, .free, .out] x9 a1 := by
    unfold x9
    exact Same.step (State.modTile_same ..) rfl (by assumption)
  clear_value x9
  extract_lets +onlyGivenNames x11
  clear_value x11
  extract_lets +onlyGivenNames x12
  clear_value x12
  extract_lets +onlyGivenNames x13
  clear_value x13
  extract_lets +onlyGivenNames x14
  have h14 : Same [.routing, .tiles, .sched, .time, .ports, .wqs, .cqs, .remote, .matching, .coll, .striker, .trans, .insts, .draw, .vises, .hearth, .quench, .counters, .mem, .outside, .poison, .free, .out] x14 a1 := by
    unfold x14
    exact Same.step (State.modChan_same ..) rfl (Same.step (State.stopChan_same ..) rfl (by assumption))
  clear_value x14
  extract_lets +onlyGivenNames x16
  have h16 : Same [.routing, .tiles, .sched, .time, .ports, .wqs, .cqs, .remote, .matching, .coll, .striker, .trans, .insts, .draw, .vises, .hearth, .quench, .counters, .mem, .outside, .poison, .free, .out] x16 a1 := by
    unfold x16
    split
    · refine Same.ite ?_ ?_
      · exact Same.step (State.retrain_same ..) rfl (by assumption)
      · exact Same.step (State.elect_same ..) rfl (Same.step (State.leaveRouting_same ..) rfl (by assumption))
    · exact Same.step (State.fenceCell_same ..) rfl (by assumption)
    · exact Same.step (State.vanish_same ..) rfl (by assumption)
    · exact Same.step (State.breakByFault_same ..) rfl (Same.setHearth rfl (by assumption))
    · refine Same.ite ?_ ?_
      · exact Same.step (State.raise_same ..) rfl (by assumption)
      · assumption
    · assumption
  clear_value x16
  exact Same.step (State.adjustMode_same ..) rfl (by assumption)

theorem State.startReaction_same (a1 : State) (a2 : QUnit) (a3 : Nat) (a4 : Nat) :
    Same [.routing, .tiles, .sched, .time, .ports, .wqs, .cqs, .remote, .matching, .coll, .striker, .trans, .insts, .draw, .vises, .hearth, .quench, .counters, .mem, .outside, .poison, .free, .out] (State.startReaction a1 a2 a3 a4) a1 := by
  unfold State.startReaction
  refine Same.ite ?_ ?_
  · exact Same.step (State.fenceUnit_same ..) rfl (Same.refl _ _)
  · refine Same.ite ?_ ?_
    · extract_lets +onlyGivenNames x5
      clear_value x5
      extract_lets +onlyGivenNames x6
      clear_value x6
      refine Same.ite ?_ ?_
      · extract_lets +onlyGivenNames x7
        have h7 : Same [.routing, .tiles, .sched, .time, .ports, .wqs, .cqs, .remote, .matching, .coll, .striker, .trans, .insts, .draw, .vises, .hearth, .quench, .counters, .mem, .outside, .poison, .free, .out] x7 a1 := by
          unfold x7
          exact Same.step (State.dropReaction_same ..) rfl (Same.refl _ _)
        clear_value x7
        exact Same.setQuench rfl (by assumption)
      · exact Same.refl _ _
    · exact Same.refl _ _

theorem State.startReactions_same (a1 : State) (a2 : List QCase) (a3 : List QCase) :
    Same [.routing, .tiles, .sched, .time, .ports, .wqs, .cqs, .remote, .matching, .coll, .striker, .trans, .insts, .draw, .vises, .hearth, .quench, .counters, .mem, .outside, .poison, .free, .out] (State.startReactions a1 a2 a3) a1 := by
  unfold State.startReactions
  extract_lets +onlyGivenNames x4
  clear_value x4
  refine Same.foldl ?_ _ ?_
  · intro y5
    intro y6
    exact Same.step (State.startReaction_same ..) rfl (Same.refl _ _)
  · exact Same.refl _ _

theorem State.unfenceRecord_same (a1 : State) (a2 : Nat) (a3 : Nat) :
    Same [.routing, .tiles, .sched, .ports, .hearth, .quench, .counters, .out] (State.unfenceRecord a1 a2 a3) a1 := by
  unfold State.unfenceRecord
  extract_lets +onlyGivenNames x4
  clear_value x4
  exact Same.step (State.record_same ..) rfl (Same.refl _ _)

theorem State.unfence_same (a1 : State) (a2 : QUnit) (a3 : Nat) :
    Same [.routing, .tiles, .sched, .time, .ports, .striker, .draw, .vises, .hearth, .quench, .counters, .out] (State.unfence a1 a2 a3) a1 := by
  unfold State.unfence
  extract_lets +onlyGivenNames x4
  split
  · extract_lets +onlyGivenNames x7
    have h7 : Same [.routing, .tiles, .sched, .time, .ports, .striker, .draw, .vises, .hearth, .quench, .counters, .out] x7 a1 := by
      unfold x7
      exact Same.step (State.modTile_same ..) rfl (Same.refl _ _)
    clear_value x7
    extract_lets +onlyGivenNames x9
    clear_value x9
    unfold x4
    refine Same.step (State.unfenceRecord_same ..) rfl (Same.step (State.adjustMode_same ..) rfl (Same.step (State.dropReaction_same ..) rfl ?_))
    refine Same.ite ?_ ?_
    · exact Same.step (State.retrain_same ..) rfl (by assumption)
    · assumption
  · exact Same.step (State.modCell_same ..) rfl (Same.refl _ _)
  · unfold x4
    exact Same.step (State.unfenceRecord_same ..) rfl (Same.step (State.adjustMode_same ..) rfl (Same.step (State.dropReaction_same ..) rfl (Same.step (State.modPort_same ..) rfl (Same.refl _ _))))
  · unfold x4
    exact Same.step (State.unfenceRecord_same ..) rfl (Same.step (State.adjustMode_same ..) rfl (Same.step (State.dropReaction_same ..) rfl (Same.step (State.modChan_same ..) rfl (Same.refl _ _))))
  · exact Same.refl _ _

theorem State.halt_same (a1 : State) (a2 : Nat) :
    Same [.routing, .tiles, .sched, .time, .ports, .hearth, .quench, .counters, .out] (State.halt a1 a2) a1 := by
  unfold State.halt
  refine Same.ite ?_ ?_
  · exact Same.refl _ _
  · extract_lets +onlyGivenNames x3
    have h3 : Same [.routing, .tiles, .sched, .time, .ports, .hearth, .quench, .counters, .out] x3 a1 := by
      unfold x3
      exact Same.step (State.writeBackHosts_same ..) rfl (Same.step (State.idleFabric_same ..) rfl (Same.refl _ _))
    clear_value x3
    extract_lets +onlyGivenNames x5
    clear_value x5
    extract_lets +onlyGivenNames x6
    have h6 : Same [.routing, .tiles, .sched, .time, .ports, .hearth, .quench, .counters, .out] x6 a1 := by
      unfold x6
      exact Same.setQuench rfl (by assumption)
    clear_value x6
    exact Same.step (State.setMode_same ..) rfl (Same.step (State.lapsePresence_same ..) rfl (Same.step (State.elect_same ..) rfl (by assumption)))

theorem State.railUnit_same (a1 : State) (a2 : Nat) :
    Same [.free] (State.railUnit a1 a2).2 a1 := by
  unfold State.railUnit
  split
  · exact Same.step (State.drawFree_same ..) rfl (Same.refl _ _)
  · exact Same.step (State.drawFree_same ..) rfl (Same.refl _ _)
  · exact Same.step (State.drawFree_same ..) rfl (Same.refl _ _)
  · exact Same.step (State.drawFree_same ..) rfl (Same.refl _ _)
  · dsimp only
    exact Same.refl _ _

theorem State.writeCrack_same (a1 : State) :
    Same [.quench, .free] (State.writeCrack a1) a1 := by
  unfold State.writeCrack
  extract_lets +onlyGivenNames x2
  clear_value x2
  extract_lets +onlyGivenNames x3
  clear_value x3
  split
  refine Same.ite ?_ ?_
  · refine Same.setQuench rfl (Same.ofSnd (by assumption) ?_)
    refine Same.iteSnd ?_ ?_
    · exact Same.step (State.drawFree_same ..) rfl (Same.refl _ _)
    · dsimp only
      exact Same.refl _ _
  · extract_lets +onlyGivenNames x8
    clear_value x8
    extract_lets +onlyGivenNames x9
    clear_value x9
    refine Same.setQuench rfl (Same.ofSnd (by assumption) ?_)
    refine Same.iteSnd ?_ ?_
    · exact Same.step (State.drawFree_same ..) rfl (Same.refl _ _)
    · dsimp only
      exact Same.refl _ _

theorem State.crack_same (a1 : State) (a2 : Nat) :
    Same [.routing, .tiles, .sched, .ports, .wqs, .cqs, .remote, .matching, .coll, .trans, .insts, .draw, .vises, .hearth, .quench, .counters, .mem, .outside, .poison, .free, .out] (State.crack a1 a2) a1 := by
  unfold State.crack
  extract_lets +onlyGivenNames x3
  have h3 : Same [.routing, .tiles, .sched, .ports, .wqs, .cqs, .remote, .matching, .coll, .trans, .insts, .draw, .vises, .hearth, .quench, .counters, .mem, .outside, .poison, .free, .out] x3 a1 := by
    unfold x3
    exact Same.step (State.writeBackHosts_same ..) rfl (Same.step (State.idleFabric_same ..) rfl (Same.refl _ _))
  clear_value x3
  extract_lets +onlyGivenNames x5
  have h5 : Same [.routing, .tiles, .sched, .ports, .wqs, .cqs, .remote, .matching, .coll, .trans, .insts, .draw, .vises, .hearth, .quench, .counters, .mem, .outside, .poison, .free, .out] x5 a1 := by
    unfold x5
    refine Same.foldl ?_ _ ?_
    · intro y6
      intro y7
      exact Same.ite (Same.step (State.vanish_same ..) rfl (Same.refl _ _)) (Same.refl _ _)
    · assumption
  clear_value x5
  extract_lets +onlyGivenNames x7
  clear_value x7
  extract_lets +onlyGivenNames x8
  have h8 : Same [.routing, .tiles, .sched, .ports, .wqs, .cqs, .remote, .matching, .coll, .trans, .insts, .draw, .vises, .hearth, .quench, .counters, .mem, .outside, .poison, .free, .out] x8 a1 := by
    unfold x8
    exact Same.setQuench rfl (by assumption)
  clear_value x8
  extract_lets +onlyGivenNames x10
  have h10 : Same [.routing, .tiles, .sched, .ports, .wqs, .cqs, .remote, .matching, .coll, .trans, .insts, .draw, .vises, .hearth, .quench, .counters, .mem, .outside, .poison, .free, .out] x10 a1 := by
    unfold x10
    exact Same.step (State.setMode_same ..) rfl (by assumption)
  clear_value x10
  exact Same.step (State.setReady_same ..) rfl (by assumption)

theorem State.recordOnly_same (a1 : State) (a2 : QEvent) :
    Same [.routing, .tiles, .sched, .ports, .hearth, .quench, .counters, .out] (State.recordOnly a1 a2) a1 := by
  unfold State.recordOnly
  refine Same.ite ?_ ?_
  · exact Same.step (State.unfenceRecord_same ..) rfl (Same.step (State.adjustMode_same ..) rfl (Same.step (State.dropReaction_same ..) rfl (Same.refl _ _)))
  · extract_lets +onlyGivenNames x3
    clear_value x3
    extract_lets +onlyGivenNames x4
    clear_value x4
    exact Same.step (State.record_same ..) rfl (Same.refl _ _)

theorem State.noteEvent_same (a1 : State) (a2 : QEvent) :
    Same [.quench, .counters] (State.noteEvent a1 a2).1 a1 := by
  unfold State.noteEvent
  extract_lets +onlyGivenNames x3
  clear_value x3
  extract_lets +onlyGivenNames x4
  clear_value x4
  extract_lets +onlyGivenNames x5
  clear_value x5
  extract_lets +onlyGivenNames x6
  clear_value x6
  extract_lets +onlyGivenNames x7
  clear_value x7
  extract_lets +onlyGivenNames x8
  clear_value x8
  extract_lets +onlyGivenNames x9
  clear_value x9
  extract_lets +onlyGivenNames x10
  clear_value x10
  extract_lets +onlyGivenNames x11
  clear_value x11
  extract_lets +onlyGivenNames x12
  have h12 : Same [.quench, .counters] x12 a1 := by
    unfold x12
    exact Same.step (State.count_same ..) rfl (Same.refl _ _)
  clear_value x12
  extract_lets +onlyGivenNames x14
  clear_value x14
  dsimp only
  exact Same.setQuench rfl (by assumption)

theorem State.suppressCase_same (a1 : State) (a2 : QCase) :
    Same [.routing, .tiles, .sched, .ports, .hearth, .quench, .counters, .out] (State.suppressCase a1 a2) a1 := by
  unfold State.suppressCase
  extract_lets +onlyGivenNames x3
  clear_value x3
  extract_lets +onlyGivenNames x4
  have h4 : Same [.routing, .tiles, .sched, .ports, .hearth, .quench, .counters, .out] x4 a1 := by
    unfold x4
    exact Same.setQuench rfl (Same.refl _ _)
  clear_value x4
  refine Same.ite ?_ ?_
  · assumption
  · exact Same.step (State.record_same ..) rfl (by assumption)

theorem State.cycle_same (a1 : State) (a2 : List QEvent) :
    Same [.routing, .tiles, .sched, .time, .ports, .wqs, .cqs, .remote, .matching, .coll, .striker, .trans, .insts, .draw, .vises, .hearth, .quench, .counters, .mem, .outside, .poison, .free, .out] (State.cycle a1 a2) a1 := by
  unfold State.cycle
  extract_lets +onlyGivenNames x3
  clear_value x3
  split
  extract_lets +onlyGivenNames x8
  have h8 : Same [.routing, .tiles, .sched, .time, .ports, .wqs, .cqs, .remote, .matching, .coll, .striker, .trans, .insts, .draw, .vises, .hearth, .quench, .counters, .mem, .outside, .poison, .free, .out] x8 a1 := by
    unfold x8
    refine Same.setQuench rfl (Same.ofFst (by assumption) ?_)
    refine Same.foldlFst ?_ _ ?_
    · rintro ⟨y9, z9⟩
      intro y11
      dsimp only
      exact Same.step (State.noteEvent_same ..) rfl (Same.refl _ _)
    · dsimp only
      exact Same.refl _ _
  clear_value x8
  extract_lets +onlyGivenNames x10
  clear_value x10
  extract_lets +onlyGivenNames x11
  clear_value x11
  extract_lets +onlyGivenNames x12
  have h12 : Same [.routing, .tiles, .sched, .time, .ports, .wqs, .cqs, .remote, .matching, .coll, .striker, .trans, .insts, .draw, .vises, .hearth, .quench, .counters, .mem, .outside, .poison, .free, .out] x12 a1 := by
    unfold x12
    exact Same.step (State.startReactions_same ..) rfl (by assumption)
  clear_value x12
  extract_lets +onlyGivenNames x14
  clear_value x14
  extract_lets +onlyGivenNames x15
  have h15 : Same [.routing, .tiles, .sched, .time, .ports, .wqs, .cqs, .remote, .matching, .coll, .striker, .trans, .insts, .draw, .vises, .hearth, .quench, .counters, .mem, .outside, .poison, .free, .out] x15 a1 := by
    unfold x15
    split
    · refine Same.ite ?_ ?_
      · assumption
      · exact Same.step (State.crack_same ..) rfl (by assumption)
    · exact Same.step (State.halt_same ..) rfl (by assumption)
    · assumption
  clear_value x15
  extract_lets +onlyGivenNames x17
  have h17 : Same [.routing, .tiles, .sched, .time, .ports, .wqs, .cqs, .remote, .matching, .coll, .striker, .trans, .insts, .draw, .vises, .hearth, .quench, .counters, .mem, .outside, .poison, .free, .out] x17 a1 := by
    unfold x17
    refine Same.foldl ?_ _ ?_
    · intro y18
      intro y19
      exact Same.step (State.recordCase_same ..) rfl (Same.refl _ _)
    · assumption
  clear_value x17
  extract_lets +onlyGivenNames x19
  have h19 : Same [.routing, .tiles, .sched, .time, .ports, .wqs, .cqs, .remote, .matching, .coll, .striker, .trans, .insts, .draw, .vises, .hearth, .quench, .counters, .mem, .outside, .poison, .free, .out] x19 a1 := by
    unfold x19
    refine Same.foldl ?_ _ ?_
    · intro y20
      intro y21
      exact Same.step (State.suppressCase_same ..) rfl (Same.refl _ _)
    · assumption
  clear_value x19
  extract_lets +onlyGivenNames x21
  have h21 : Same [.routing, .tiles, .sched, .time, .ports, .wqs, .cqs, .remote, .matching, .coll, .striker, .trans, .insts, .draw, .vises, .hearth, .quench, .counters, .mem, .outside, .poison, .free, .out] x21 a1 := by
    unfold x21
    refine Same.foldl ?_ _ ?_
    · intro y22
      intro y23
      exact Same.step (State.recordOnly_same ..) rfl (Same.refl _ _)
    · assumption
  clear_value x21
  refine Same.ite ?_ ?_
  · exact Same.step (State.writeCrack_same ..) rfl (by assumption)
  · assumption

theorem State.cycles_same (a1 : State) (a2 : List QEvent) (a3 : Nat) :
    Same [.routing, .tiles, .sched, .time, .ports, .wqs, .cqs, .remote, .matching, .coll, .striker, .trans, .insts, .draw, .vises, .hearth, .quench, .counters, .mem, .outside, .poison, .free, .out] (State.cycles a1 a2 a3) a1 := by
  induction a3 generalizing a1 a2 with
  | zero => exact Same.refl _ _
  | succ n ih =>
    unfold State.cycles
    split
    · exact Same.refl _ _
    · exact Same.step (ih ..) rfl (Same.step (State.cycle_same ..) rfl (Same.refl _ _))

theorem State.sampleAll_same (a1 : State) :
    Same [.routing, .tiles, .sched, .time, .ports, .wqs, .cqs, .remote, .matching, .coll, .striker, .trans, .insts, .draw, .vises, .hearth, .quench, .counters, .mem, .outside, .poison, .free, .out] (State.sampleAll a1) a1 := by
  unfold State.sampleAll
  extract_lets +onlyGivenNames x2
  clear_value x2
  extract_lets +onlyGivenNames x3
  clear_value x3
  extract_lets +onlyGivenNames x4
  have h4 : Same [.routing, .tiles, .sched, .time, .ports, .wqs, .cqs, .remote, .matching, .coll, .striker, .trans, .insts, .draw, .vises, .hearth, .quench, .counters, .mem, .outside, .poison, .free, .out] x4 a1 := by
    unfold x4
    exact Same.setQuench rfl (Same.refl _ _)
  clear_value x4
  refine Same.ite ?_ ?_
  · assumption
  · exact Same.step (State.cycles_same ..) rfl (by assumption)

theorem execRailFault_same (a1 : Nat) (a2 : State) :
    SameNext [.routing, .tiles, .sched, .time, .ports, .wqs, .cqs, .remote, .matching, .coll, .striker, .trans, .insts, .draw, .vises, .hearth, .quench, .counters, .mem, .outside, .poison, .free, .out] (execRailFault a1 a2) a2 := by
  unfold execRailFault
  refine SameNext.ite ?_ ?_
  · exact SameNext.next (Same.refl _ _)
  · split
    exact SameNext.next (Same.step (State.serve_same ..) rfl (Same.step (State.sampleAll_same ..) rfl (Same.step (State.raise_same ..) rfl (Same.ofSnd (by assumption) (Same.step (State.railUnit_same ..) rfl (Same.refl _ _))))))

theorem execCellSelfTestEnd_same (a1 : Nat) (a2 : Bool) (a3 : State) :
    SameNext [.routing, .tiles, .sched, .ports, .striker, .hearth, .quench, .counters, .out] (execCellSelfTestEnd a1 a2 a3) a3 := by
  unfold execCellSelfTestEnd
  refine SameNext.ite ?_ ?_
  · exact SameNext.next (Same.refl _ _)
  · refine SameNext.ite ?_ ?_
    · exact SameNext.next (Same.step (State.modCell_same ..) rfl (Same.refl _ _))
    · extract_lets +onlyGivenNames x4
      clear_value x4
      extract_lets +onlyGivenNames x5
      have h5 : Same [.routing, .tiles, .sched, .ports, .striker, .hearth, .quench, .counters, .out] x5 a3 := by
        unfold x5
        exact Same.step (State.modCell_same ..) rfl (Same.refl _ _)
      clear_value x5
      exact SameNext.next (Same.step (State.unfenceRecord_same ..) rfl (Same.step (State.adjustMode_same ..) rfl (Same.step (State.dropReaction_same ..) rfl (by assumption))))

theorem execInjectionFire_same (a1 : Nat) (a2 : Ticks) (a3 : Bool) (a4 : State) :
    SameNext [.time, .quench, .counters] (execInjectionFire a1 a2 a3 a4) a4 := by
  unfold execInjectionFire
  extract_lets +onlyGivenNames x5
  have h5 : Same [.time, .quench, .counters] x5 a4 := by
    unfold x5
    exact Same.step (State.advance_same ..) rfl (Same.refl _ _)
  clear_value x5
  extract_lets +onlyGivenNames x7
  clear_value x7
  extract_lets +onlyGivenNames x8
  clear_value x8
  refine SameNext.ite ?_ ?_
  · exact SameNext.next (by assumption)
  · extract_lets +onlyGivenNames x9
    clear_value x9
    extract_lets +onlyGivenNames x10
    clear_value x10
    extract_lets +onlyGivenNames x11
    have h11 : Same [.time, .quench, .counters] x11 a4 := by
      unfold x11
      exact Same.setQuench rfl (by assumption)
    clear_value x11
    refine SameNext.next ?_
    refine Same.ite ?_ ?_
    · assumption
    · exact Same.step (State.raise_same ..) rfl (by assumption)

theorem execDetectorEvent_same (a1 : List QEvent) (a2 : State) :
    SameNext [.routing, .tiles, .sched, .time, .ports, .wqs, .cqs, .remote, .matching, .coll, .striker, .trans, .insts, .draw, .vises, .hearth, .quench, .counters, .mem, .outside, .poison, .free, .out] (execDetectorEvent a1 a2) a2 := by
  unfold execDetectorEvent
  extract_lets +onlyGivenNames x3
  have h3 : Same [.routing, .tiles, .sched, .time, .ports, .wqs, .cqs, .remote, .matching, .coll, .striker, .trans, .insts, .draw, .vises, .hearth, .quench, .counters, .mem, .outside, .poison, .free, .out] x3 a2 := by
    unfold x3
    refine Same.foldl ?_ _ ?_
    · intro y4
      intro y5
      exact Same.step (State.raise_same ..) rfl (Same.refl _ _)
    · exact Same.refl _ _
  clear_value x3
  exact SameNext.next (Same.step (State.serve_same ..) rfl (Same.step (State.sampleAll_same ..) rfl (by assumption)))

theorem execQuenchClear_same (a1 : Call) (a2 : Word) (a3 : List Word) (a4 : State) :
    SameNext [.routing, .tiles, .sched, .time, .ports, .striker, .draw, .vises, .hearth, .quench, .counters, .out] (execQuenchClear a1 a2 a3 a4) a4 := by
  unfold execQuenchClear
  refine fleso_same rfl ?_
  intro y5
  intro y6
  extract_lets +onlyGivenNames x7
  clear_value x7
  extract_lets +onlyGivenNames x8
  clear_value x8
  extract_lets +onlyGivenNames x9
  clear_value x9
  extract_lets +onlyGivenNames x10
  clear_value x10
  extract_lets +onlyGivenNames x11
  clear_value x11
  refine Same.iteFst ?_ ?_
  · dsimp only
    exact Same.refl _ _
  · refine Same.iteFst ?_ ?_
    · dsimp only
      exact Same.refl _ _
    · extract_lets +onlyGivenNames x12
      have h12 : Same [.routing, .tiles, .sched, .time, .ports, .striker, .draw, .vises, .hearth, .quench, .counters, .out] x12 y6 := by
        unfold x12
        exact Same.setQuench rfl (Same.refl _ _)
      clear_value x12
      dsimp only
      refine Same.foldl ?_ _ ?_
      · intro y14
        intro y15
        exact Same.step (State.unfence_same ..) rfl (Same.refl _ _)
      · assumption

theorem execQuenchPolicy_same (a1 : Call) (a2 : Word) (a3 : Word) (a4 : State) :
    SameNext [.routing, .tiles, .sched, .ports, .hearth, .quench, .counters, .out] (execQuenchPolicy a1 a2 a3 a4) a4 := by
  unfold execQuenchPolicy
  refine fleso_same rfl ?_
  intro y5
  intro y6
  extract_lets +onlyGivenNames x7
  clear_value x7
  extract_lets +onlyGivenNames x8
  clear_value x8
  extract_lets +onlyGivenNames x9
  clear_value x9
  extract_lets +onlyGivenNames x10
  clear_value x10
  extract_lets +onlyGivenNames x11
  clear_value x11
  extract_lets +onlyGivenNames x12
  clear_value x12
  extract_lets +onlyGivenNames x13
  clear_value x13
  extract_lets +onlyGivenNames x14
  clear_value x14
  split
  · dsimp only
    exact Same.refl _ _
  · dsimp only
    exact Same.setQuench rfl (Same.refl _ _)

end Sys2Proof.Machine
end

