-- ==== Sys2Proof/Laws/FrameCounters.lean ====
section
/-! SUPPORT. Frames of the operations and commands of Sys2Proof/Machine/Counters.lean: each changes no part of the module but those it
names, and keeps module memory canonical. -/

namespace Sys2Proof.Machine

open Sys2Proof

theorem sampleBytes_length (now : Ticks) (pc : Word) (core : Nat) (idle : Bool) (skid : Nat) (opcode : BitVec 16) (task : BitVec 32) :
    (sampleBytes now pc core idle skid opcode task).length = 32 := by
  simp [sampleBytes, leBytes_length]

theorem execHsSampleTrigger_same (a1 : Nat) (a2 : Word) (a3 : Nat) (a4 : Bool) (a5 : Bool) (a6 : BitVec 16) (a7 : BitVec 32) (a8 : State) :
    SameNext [.counters, .mem, .poison] (execHsSampleTrigger a1 a2 a3 a4 a5 a6 a7 a8) a8 := by
  have gen : ∀ W : List Part, W.contains .counters = true →
      (bit a8.counters.hsCfg 0 = true → ∀ tail, Same W (State.ringAppend a8 (bits a8.counters.hsRing 36 0) (bits a8.counters.hsRing 41 37) tail
        (sampleBytes a8.time.now a2 a1 a5 a3 a6 a7)).1 a8) →
      SameNext W (execHsSampleTrigger a1 a2 a3 a4 a5 a6 a7 a8) a8 := by
    intro W hw ha
    unfold execHsSampleTrigger
    dsimp only
    split
    · exact SameNext.next (Same.refl _ _)
    · rename_i hc
      have hb : bit a8.counters.hsCfg 0 = true := by
        simp only [Bool.or_eq_true, not_or, Bool.not_eq_true, Bool.not_eq_false'] at hc
        exact hc.1.1.1
      refine SameNext.ite (SameNext.next (Same.setCounters hw id (Same.refl _ _))) ?_
      split
      · rename_i he
        exact SameNext.next (Same.setCounters hw id (Same.ofFst he (ha hb _)))
      · rename_i he
        exact SameNext.next (Same.setCounters hw id (Same.ofFst he (ha hb _)))
  intro t ht
  refine Same.ofRings (gen [.counters, .mem, .outside, .poison] rfl (fun _ _ => Same.step (State.ringAppend_same ..) rfl (Same.refl _ _)) t ht) rfl
    fun hs => gen [.counters, .mem, .poison] rfl (fun hb _ => ?_) t ht
  exact Same.step (State.ringAppend_report _ _ _ _ _ (by rw [sampleBytes_length]; exact hs.2.1 hb)) rfl (Same.refl _ _)

theorem State.freeRing_same (a1 : State) (a2 : Word) :
    Same [.hearth] (State.freeRing a1 a2) a1 := by
  unfold State.freeRing
  exact Same.ite (Same.refl _ _) (Same.step (State.freeArea_same ..) rfl (Same.refl _ _))

/-- The base and the size of a ring word. -/
theorem ringWord_bits {o k c : Nat} (hc : 32 ≤ c) (h : o + (64 + c * 2 ^ k) ≤ Config.segBytes) :
    inReport (bits (BitVec.ofNat 64 (reportBase + o + k * 2 ^ 37)) 36 0)
      (64 + c * 2 ^ bits (BitVec.ofNat 64 (reportBase + o + k * 2 ^ 37)) 41 37) := by
  have hm : 32 * 2 ^ k ≤ c * 2 ^ k := Nat.mul_le_mul_right _ hc
  unfold Config.segBytes at h
  have hk : k < 23 := by
    refine Nat.lt_of_not_le fun hk => ?_
    have := Nat.pow_le_pow_right (n := 2) (by decide) hk
    omega
  have e1 : bits (BitVec.ofNat 64 (reportBase + o + k * 2 ^ 37)) 36 0 = reportBase + o := by
    simp only [bits, reportBase, BitVec.toNat_ofNat]
    omega
  have e2 : bits (BitVec.ofNat 64 (reportBase + o + k * 2 ^ 37)) 41 37 = k := by
    simp only [bits, reportBase, BitVec.toNat_ofNat]
    omega
  rw [e1, e2]
  unfold inReport Config.segBytes
  omega

theorem State.setSampler_same (a1 : State) (a2 : Arrival) (a3 : Word) (a4 : Nat) :
    Same [.hearth, .counters, .mem] (State.setSampler a1 a2 a3 a4).1 a1 := by
  unfold State.setSampler
  split
  · dsimp only
    exact Same.refl _ _
  · rename_i ha
    have hin := State.allocArea_in ha
    dsimp only
    exact Same.setCounters rfl (fun hs => ⟨hs.1, fun _ => ringWord_bits (Nat.le_refl _) hin, hs.2.2⟩)
      (Same.step (State.allocArea_same ha) rfl (Same.step (State.freeRing_same ..) rfl (Same.refl _ _)))

theorem State.setTagger_same (a1 : State) (a2 : Arrival) (a3 : Word) (a4 : Nat) :
    Same [.hearth, .counters, .mem] (State.setTagger a1 a2 a3 a4).1 a1 := by
  unfold State.setTagger
  split
  · dsimp only
    exact Same.refl _ _
  · rename_i ha
    have hin := State.allocArea_in ha
    dsimp only
    exact Same.setCounters rfl (fun hs => ⟨fun _ => ringWord_bits (by decide) hin, hs.2.1, hs.2.2⟩)
      (Same.step (State.allocArea_same ha) rfl (Same.step (State.freeRing_same ..) rfl (Same.refl _ _)))

theorem execCounterSelect_same (a1 : Call) (a2 : Word) (a3 : Word) (a4 : Word) (a5 : State) :
    SameNext [.routing, .tiles, .sched, .ports, .hearth, .quench, .counters, .mem, .out] (execCounterSelect a1 a2 a3 a4 a5) a5 := by
  unfold execCounterSelect
  refine fleso_same rfl ?_
  intro y6
  intro y7
  extract_lets +onlyGivenNames x8
  clear_value x8
  extract_lets +onlyGivenNames x9
  clear_value x9
  extract_lets +onlyGivenNames x10
  clear_value x10
  extract_lets +onlyGivenNames x11
  clear_value x11
  split
  · dsimp only
    exact Same.refl _ _
  · refine Same.iteFst ?_ ?_
    · dsimp only
      exact Same.setCounters rfl id (Same.refl _ _)
    · refine Same.iteFst ?_ ?_
      · dsimp only
        exact Same.refl _ _
      · exact Same.iteFst (Same.step (State.setTagger_same ..) rfl (Same.refl _ _)) (Same.step (State.setSampler_same ..) rfl (Same.refl _ _))

theorem State.counterWord_same (a1 : State) (a2 : Nat) :
    Same [.free] (State.counterWord a1 a2).2 a1 := by
  unfold State.counterWord
  extract_lets +onlyGivenNames x3
  clear_value x3
  extract_lets +onlyGivenNames x4
  clear_value x4
  refine Same.iteSnd ?_ ?_
  · split
    dsimp only
    exact Same.ofSnd (by assumption) (Same.step (State.drawFree_same ..) rfl (Same.refl _ _))
  · dsimp only
    exact Same.refl _ _

theorem State.counterWords_same (a1 : State) (a2 : Nat) (a3 : Nat) :
    Same [.free] (State.counterWords a1 a2 a3).2 a1 := by
  induction a3 generalizing a1 a2 with
  | zero => exact Same.refl _ _
  | succ n ih =>
    unfold State.counterWords
    split
    split
    dsimp only
    exact Same.ofSnd (by assumption) (Same.step (ih ..) rfl (Same.ofSnd (by assumption) (Same.step (State.counterWord_same ..) rfl (Same.refl _ _))))

theorem execCounterRead_same (a1 : Call) (a2 : Nat) (a3 : Nat) (a4 : State) :
    SameNext [.routing, .tiles, .sched, .ports, .hearth, .quench, .counters, .free, .out] (execCounterRead a1 a2 a3 a4) a4 := by
  unfold execCounterRead
  refine fleso_same rfl ?_
  intro y5
  intro y6
  refine Same.iteFst ?_ ?_
  · dsimp only
    exact Same.refl _ _
  · refine Same.iteFst ?_ ?_
    · dsimp only
      exact Same.refl _ _
    · extract_lets +onlyGivenNames x7
      clear_value x7
      split
      dsimp only
      exact Same.ofSnd (by assumption) (Same.step (State.counterWords_same ..) rfl (Same.refl _ _))

end Sys2Proof.Machine
end

