-- ==== Sys2Proof/Laws/FrameInstants.lean ====
section
/-! SUPPORT. Frames of the operations and commands of Sys2Proof/Machine/Instants.lean: each changes no part of the module but those it
names, and keeps module memory canonical. -/

namespace Sys2Proof.Machine

open Sys2Proof

/-- The parts that the block's timers may change. -/
def timerParts : List Part :=
  [.routing, .tiles, .sched, .time, .ports, .draw, .hearth, .quench, .counters, .mem, .poison, .out]

theorem timerAt_same {V : List Part} {f : Ticks → State → Host.Outcome State Fault Refusal} {n : Nat} (hv : subParts V timerParts = true)
    (h : ∀ t s, SameNext V (f t s) s) (s : State) : Same timerParts ((timerAt f n).2 s) s :=
  Same.nextOr (SameNext.step (h _ _) hv (Same.refl _ _)) (Same.refl _ _)

theorem State.scheduled_same (s : State) : ∀ e ∈ s.scheduled, ∀ u, Same timerParts (e.2 u) u := by
  intro e he
  unfold State.scheduled at he
  extract_lets t step at he
  clear_value t step
  simp only [List.mem_append, List.mem_filterMap] at he
  obtain (((((he | he) | he) | ⟨c, -, he⟩) | ⟨q, -, he⟩) | he) | he := he
  · split at he
    · rw [List.mem_singleton.mp he]
      exact timerAt_same rfl execRouteSwapFire_same
    · cases he
  · split at he
    · rw [List.mem_singleton.mp he]
      exact timerAt_same rfl execStrokeSwapFire_same
    · cases he
  · split at he
    · rw [List.mem_singleton.mp he]
      exact timerAt_same rfl execStrokeBoundary_same
    · cases he
  · obtain ⟨w, -, he⟩ := Option.bind_eq_some_iff.mp he
    split at he
    · cases he
      exact timerAt_same rfl (execDrawWaitInstant_same _)
    · cases he
  · split at he
    · cases he
      exact timerAt_same rfl (execQuenchWindowEnd_same _)
    · cases he
  · split at he
    · rw [List.mem_singleton.mp he]
      exact timerAt_same rfl execSampleEpoch_same
    · cases he
  · rw [List.mem_singleton.mp he]
    exact timerAt_same rfl execTimeOutPulse_same

theorem mem_insertByInstant {e x : Scheduled} {l : List Scheduled} (h : x ∈ insertByInstant e l) : x = e ∨ x ∈ l := by
  induction l with
  | nil => exact .inl (List.mem_singleton.mp h)
  | cons y l ih =>
    unfold insertByInstant at h
    split at h
    · exact List.mem_cons.mp h
    · obtain rfl | h := List.mem_cons.mp h
      · exact .inr (List.mem_cons_self ..)
      · exact (ih h).imp id (List.mem_cons_of_mem _)

theorem State.firePassed_same (a1 : State) :
    Same [.routing, .tiles, .sched, .time, .ports, .draw, .hearth, .quench, .counters, .mem, .poison, .out] (State.firePassed a1) a1 := by
  unfold State.firePassed
  split
  · exact Same.refl _ _
  · extract_lets due
    have hd : ∀ e ∈ due, ∀ u, Same timerParts (e.2 u) u := by
      have key : ∀ (l acc : List Scheduled), (∀ e ∈ l, ∀ u, Same timerParts (e.2 u) u) → (∀ e ∈ acc, ∀ u, Same timerParts (e.2 u) u) →
          ∀ e ∈ l.foldl (fun l e => insertByInstant e l) acc, ∀ u, Same timerParts (e.2 u) u := by
        intro l
        induction l with
        | nil => exact fun _ _ h => h
        | cons x l ih =>
          intro acc hl ha
          refine ih _ (fun e he => hl e (List.mem_cons_of_mem _ he)) fun e he => ?_
          obtain rfl | he := mem_insertByInstant he
          · exact hl _ (List.mem_cons_self ..)
          · exact ha e he
      exact key _ _ (fun e he => a1.scheduled_same e (List.mem_filter.mp he).1) (by simp)
    clear_value due
    have go : ∀ u, Same timerParts u a1 → Same timerParts (due.foldl (fun s e => e.2 s) u) a1 := by
      induction due with
      | nil => exact fun _ h => h
      | cons e l ih => exact fun u h => ih (fun x hx => hd x (List.mem_cons_of_mem _ hx)) _ ((hd e (List.mem_cons_self ..) u).trans h)
    exact go _ (Same.setTime rfl (Same.refl _ _))

theorem execPpsEdge_same (a1 : Ticks) (a2 : Nat) (a3 : Nat) (a4 : Nat) (a5 : State) :
    SameNext [.routing, .tiles, .sched, .time, .ports, .draw, .hearth, .quench, .counters, .mem, .poison, .out] (execPpsEdge a1 a2 a3 a4 a5) a5 := by
  unfold execPpsEdge
  exact SameNext.next (Same.step (State.firePassed_same ..) rfl (Same.step (State.takePps_same ..) rfl (Same.step (State.advance_same ..) rfl (Same.refl _ _))))

theorem execFecFrameReceive_same (a1 : Nat) (a2 : RxFrame) (a3 : State) :
    SameNext [.routing, .tiles, .sched, .time, .ports, .draw, .vises, .hearth, .quench, .counters, .mem, .poison, .free, .out] (execFecFrameReceive a1 a2 a3) a3 := by
  unfold execFecFrameReceive
  exact SameNext.next (Same.step (State.firePassed_same ..) rfl (Same.step (State.frameIn_same ..) rfl (Same.refl _ _)))

end Sys2Proof.Machine
end

