-- ==== Sys2Proof/Laws/FrameRegs.lean ====
section
/-! SUPPORT. Frames of the operations and commands of Sys2Proof/Machine/Regs.lean: each changes no part of the module but those it
names, and keeps module memory canonical. -/

namespace Sys2Proof.Machine

open Sys2Proof

theorem State.regAt_same (a1 : State) (a2 : Nat) (a3 : Nat) (a4 : Nat) :
    Same [.free] (State.regAt a1 a2 a3 a4).2 a1 := by
  unfold State.regAt
  split
  · dsimp only
    exact Same.refl _ _
  · dsimp only
    exact Same.refl _ _
  · dsimp only
    exact Same.refl _ _
  · dsimp only
    exact Same.refl _ _
  · dsimp only
    exact Same.refl _ _
  · dsimp only
    exact Same.refl _ _
  · dsimp only
    exact Same.refl _ _
  · dsimp only
    exact Same.refl _ _
  · dsimp only
    exact Same.refl _ _
  · dsimp only
    exact Same.refl _ _
  · dsimp only
    exact Same.refl _ _
  · split
    dsimp only
    exact Same.ofSnd (by assumption) (Same.step (State.drawFree_same ..) rfl (Same.refl _ _))
  · dsimp only
    exact Same.refl _ _
  · dsimp only
    exact Same.refl _ _
  · dsimp only
    exact Same.refl _ _
  · dsimp only
    exact Same.refl _ _
  · dsimp only
    exact Same.refl _ _
  · dsimp only
    exact Same.refl _ _
  · refine Same.iteSnd ?_ ?_
    · split
      dsimp only
      exact Same.ofSnd (by assumption) (Same.step (State.counterWord_same ..) rfl (Same.refl _ _))
    · dsimp only
      exact Same.refl _ _
  · dsimp only
    exact Same.refl _ _

theorem State.setLaneCfg_same (a1 : State) (a2 : Nat) (a3 : Word) :
    Same [.routing, .tiles, .sched, .time, .ports, .draw, .vises, .hearth, .quench, .counters, .out] (State.setLaneCfg a1 a2 a3) a1 := by
  unfold State.setLaneCfg
  extract_lets +onlyGivenNames x4
  clear_value x4
  extract_lets +onlyGivenNames x5
  have h5 : Same [.routing, .tiles, .sched, .time, .ports, .draw, .vises, .hearth, .quench, .counters, .out] x5 a1 := by
    unfold x5
    exact Same.step (State.modTile_same ..) rfl (Same.refl _ _)
  clear_value x5
  refine Same.ite ?_ ?_
  · exact Same.step (State.retrain_same ..) rfl (by assumption)
  · assumption

theorem execRegWrite_same (a1 : Call) (a2 : Nat) (a3 : Nat) (a4 : BitVec 32) (a5 : Word) (a6 : Word) (a7 : State) :
    SameNext [.routing, .tiles, .sched, .time, .ports, .draw, .vises, .hearth, .quench, .counters, .out] (execRegWrite a1 a2 a3 a4 a5 a6 a7) a7 := by
  unfold execRegWrite
  refine fleso_same rfl ?_
  intro y8
  intro y9
  extract_lets +onlyGivenNames x10
  clear_value x10
  refine Same.iteFst ?_ ?_
  · dsimp only
    exact Same.refl _ _
  · refine Same.iteFst ?_ ?_
    · dsimp only
      exact Same.refl _ _
    · refine Same.iteFst ?_ ?_
      · extract_lets +onlyGivenNames x11
        clear_value x11
        refine Same.iteFst ?_ ?_
        · dsimp only
          exact Same.refl _ _
        · dsimp only
          exact Same.step (State.setLaneCfg_same ..) rfl (Same.refl _ _)
      · refine Same.iteFst ?_ ?_
        · dsimp only
          exact Same.refl _ _
        · dsimp only
          exact Same.step (State.badWrite_same ..) rfl (Same.refl _ _)

theorem State.regWords_same (a1 : State) (a2 : Nat) (a3 : Nat) (a4 : Nat) (a5 : Nat) :
    Same [.free] (State.regWords a1 a2 a3 a4 a5).2 a1 := by
  induction a5 generalizing a1 a4 with
  | zero => exact Same.refl _ _
  | succ n ih =>
    unfold State.regWords
    split
    split
    dsimp only
    exact Same.ofSnd (by assumption) (Same.step (ih ..) rfl (Same.ofSnd (by assumption) (Same.step (State.regAt_same ..) rfl (Same.refl _ _))))

theorem execRegRead_same (a1 : Call) (a2 : Nat) (a3 : Nat) (a4 : BitVec 32) (a5 : Nat) (a6 : State) :
    SameNext [.routing, .tiles, .sched, .ports, .hearth, .quench, .counters, .free, .out] (execRegRead a1 a2 a3 a4 a5 a6) a6 := by
  unfold execRegRead
  refine fleso_same rfl ?_
  intro y7
  intro y8
  extract_lets +onlyGivenNames x9
  clear_value x9
  refine Same.iteFst ?_ ?_
  · dsimp only
    exact Same.refl _ _
  · refine Same.iteFst ?_ ?_
    · dsimp only
      exact Same.refl _ _
    · refine Same.iteFst ?_ ?_
      · dsimp only
        exact Same.refl _ _
      · refine Same.iteFst ?_ ?_
        · dsimp only
          exact Same.refl _ _
        · split
          dsimp only
          exact Same.ofSnd (by assumption) (Same.step (State.regWords_same ..) rfl (Same.refl _ _))

theorem execIdentify_same (a1 : Call) (a2 : State) :
    SameNext [.routing, .tiles, .sched, .ports, .hearth, .quench, .counters, .out] (execIdentify a1 a2) a2 := by
  unfold execIdentify
  refine fleso_same rfl ?_
  intro y3
  intro y4
  extract_lets +onlyGivenNames x5
  clear_value x5
  dsimp only
  exact Same.refl _ _

end Sys2Proof.Machine
end

