-- ==== Sys2Proof/Laws/FrameStartup.lean ====
section
/-! SUPPORT. Frames of the operations and commands of Sys2Proof/Machine/Startup.lean: each changes no part of the module but those it
names, and keeps module memory canonical. -/

namespace Sys2Proof.Machine

open Sys2Proof

theorem State.powerOn_same (a1 : State) :
    Same [.routing, .tiles, .sched, .time, .ports, .wqs, .cqs, .remote, .matching, .coll, .striker, .trans, .insts, .draw, .vises, .hearth, .quench, .counters, .power, .segments, .mem, .outside, .poison] (State.powerOn a1) a1 := by
  unfold State.powerOn
  extract_lets +onlyGivenNames x2
  have h2 : Same [.routing, .tiles, .sched, .time, .ports, .wqs, .cqs, .remote, .matching, .coll,   .striker, .trans, .insts, .draw, .vises, .hearth, .quench, .counters, .power,   .segments, .mem, .outside, .poison] x2 a1 := by
    unfold x2
    exact Same.step (State.cleared_same ..) rfl (Same.refl _ _)
  clear_value x2
  exact Same.setPower rfl (by assumption)

theorem State.setMap_same (a1 : State) (a2 : List Byte) :
    Same [.hearth] (State.setMap a1 a2) a1 := by
  unfold State.setMap
  exact Same.setHearth rfl (Same.refl _ _)

theorem State.applyMap_same (a1 : State) :
    Same [.striker] (State.applyMap a1) a1 := by
  unfold State.applyMap
  extract_lets +onlyGivenNames x2
  clear_value x2
  exact Same.step (State.refreshStriker_same ..) rfl (Same.setStriker rfl id (Same.refl _ _))

theorem State.changeRoles_same (a1 : State) :
    Same [.routing, .tiles, .sched, .ports, .remote, .matching, .striker, .hearth, .quench, .counters, .mem, .poison, .out] (State.changeRoles a1) a1 := by
  unfold State.changeRoles
  extract_lets +onlyGivenNames x2
  clear_value x2
  extract_lets +onlyGivenNames x3
  clear_value x3
  extract_lets +onlyGivenNames x4
  clear_value x4
  extract_lets +onlyGivenNames x5
  clear_value x5
  extract_lets +onlyGivenNames x6
  clear_value x6
  extract_lets +onlyGivenNames x7
  have h7 : Same [.routing, .tiles, .sched, .ports, .remote, .matching, .striker, .hearth, .quench, .counters, .mem, .poison, .out] x7 a1 := by
    unfold x7
    exact Same.setHearth rfl (Same.refl _ _)
  clear_value x7
  extract_lets +onlyGivenNames x9
  have h9 : Same [.routing, .tiles, .sched, .ports, .remote, .matching, .striker, .hearth, .quench, .counters, .mem, .poison, .out] x9 a1 := by
    unfold x9
    refine Same.foldl ?_ _ ?_
    · intro y10
      intro y11
      exact Same.step (State.modCell_same ..) rfl (Same.refl _ _)
    · assumption
  clear_value x9
  extract_lets +onlyGivenNames x11
  extract_lets +onlyGivenNames x12
  have h12 : Same [.routing, .tiles, .sched, .ports, .remote, .matching, .striker, .hearth, .quench, .counters, .mem, .poison, .out] x12 a1 := by
    unfold x12
    exact Same.setStriker rfl id (by assumption)
  clear_value x12
  refine Same.step (State.refreshStriker_same ..) rfl ?_
  refine Same.foldl ?_ _ ?_
  · intro y14
    intro y15
    exact Same.step (State.drainCell_same ..) rfl (Same.refl _ _)
  · assumption

theorem execRolemapLoad_same (a1 : Call) (a2 : DataRef) (a3 : State) :
    SameNext [.routing, .tiles, .sched, .ports, .remote, .matching, .striker, .hearth, .quench, .counters, .mem, .poison, .free, .out] (execRolemapLoad a1 a2 a3) a3 := by
  unfold execRolemapLoad
  refine fleso_same rfl ?_
  intro y4
  intro y5
  extract_lets +onlyGivenNames x6
  clear_value x6
  refine Same.iteFst ?_ ?_
  · dsimp only
    exact Same.refl _ _
  · split
    · dsimp only
      exact Same.refl _ _
    · dsimp only
      exact Same.refl _ _
    · split
      dsimp only
      exact Same.ofSnd (by assumption) (Same.step (State.drawFree_same ..) rfl (Same.refl _ _))
    · refine Same.iteFst ?_ ?_
      · dsimp only
        exact Same.refl _ _
      · extract_lets +onlyGivenNames x9
        have h9 : Same [.routing, .tiles, .sched, .ports, .remote, .matching, .striker, .hearth, .quench,   .counters, .mem, .poison, .free, .out] x9 y5 := by
          unfold x9
          exact Same.step (State.setMap_same ..) rfl (Same.refl _ _)
        clear_value x9
        refine Same.iteFst ?_ ?_
        · dsimp only
          exact Same.step (State.applyMap_same ..) rfl (by assumption)
        · dsimp only
          exact Same.step (State.roleDone_same ..) rfl (Same.step (State.changeRoles_same ..) rfl (Same.setHearth rfl (by assumption)))

theorem State.goDark_same (a1 : State) :
    Same [.hearth, .counters, .out] (State.goDark a1) a1 := by
  unfold State.goDark
  extract_lets +onlyGivenNames x2
  have h2 : Same [.hearth, .counters, .out] x2 a1 := by
    unfold x2
    refine Same.foldl ?_ _ ?_
    · intro y3
      intro y4
      exact Same.step (State.emit_same ..) rfl (Same.refl _ _)
    · exact Same.refl _ _
  clear_value x2
  exact Same.step (State.setReady_same ..) rfl (by assumption)

theorem State.moduleReset_same (a1 : State) :
    Same [.routing, .tiles, .sched, .time, .ports, .wqs, .cqs, .remote, .matching, .coll, .striker, .trans, .insts, .draw, .vises, .hearth, .quench, .counters, .power, .segments, .mem, .outside, .poison, .out] (State.moduleReset a1) a1 := by
  unfold State.moduleReset
  extract_lets +onlyGivenNames x2
  clear_value x2
  extract_lets +onlyGivenNames x3
  have h3 : Same [.routing, .tiles, .sched, .time, .ports, .wqs, .cqs, .remote, .matching, .coll,   .striker, .trans, .insts, .draw, .vises, .hearth, .quench, .counters, .power,   .segments, .mem, .outside, .poison, .out] x3 a1 := by
    unfold x3
    exact Same.step (State.cleared_same ..) rfl (Same.step (State.goDark_same ..) rfl (Same.refl _ _))
  clear_value x3
  exact Same.setQuench rfl (by assumption)

theorem execHaltActionReset_same (a1 : Ticks) (a2 : State) :
    SameNext [.routing, .tiles, .sched, .time, .ports, .wqs, .cqs, .remote, .matching, .coll, .striker, .trans, .insts, .draw, .vises, .hearth, .quench, .counters, .power, .segments, .mem, .outside, .poison, .out] (execHaltActionReset a1 a2) a2 := by
  unfold execHaltActionReset
  extract_lets +onlyGivenNames x3
  have h3 : Same [.routing, .tiles, .sched, .time, .ports, .wqs, .cqs, .remote, .matching, .coll,   .striker, .trans, .insts, .draw, .vises, .hearth, .quench, .counters, .power,   .segments, .mem, .outside, .poison, .out] x3 a2 := by
    unfold x3
    exact Same.step (State.advance_same ..) rfl (Same.refl _ _)
  clear_value x3
  extract_lets +onlyGivenNames x5
  clear_value x5
  refine SameNext.next ?_
  refine Same.ite ?_ ?_
  · exact Same.step (State.moduleReset_same ..) rfl (by assumption)
  · assumption

theorem State.answerDrain_same (a1 : State) :
    Same [.routing, .tiles, .sched, .ports, .hearth, .quench, .counters, .out] (State.answerDrain a1) a1 := by
  unfold State.answerDrain
  split
  · exact Same.refl _ _
  · exact Same.step (State.serve_same ..) rfl (Same.step (State.answer_same ..) rfl (Same.setHearth rfl (Same.refl _ _)))

theorem execModeRequest_same (a1 : Call) (a2 : Word) (a3 : State) :
    SameNext [.routing, .tiles, .sched, .ports, .hearth, .quench, .counters, .out] (execModeRequest a1 a2 a3) a3 := by
  unfold execModeRequest
  refine fleso_same rfl ?_
  intro y4
  intro y5
  extract_lets +onlyGivenNames x6
  clear_value x6
  extract_lets +onlyGivenNames x7
  split
  · dsimp only
    exact Same.refl _ _
  · split
    · refine Same.iteFst ?_ ?_
      · unfold x7
        dsimp only
        exact Same.refl _ _
      · extract_lets +onlyGivenNames x12
        have h12 : Same [.routing, .tiles, .sched, .ports, .hearth, .quench, .counters, .out] x12 y5 := by
          unfold x12
          exact Same.step (State.setMode_same ..) rfl (Same.refl _ _)
        clear_value x12
        refine Same.iteFst ?_ ?_
        · dsimp only
          assumption
        · dsimp only
          exact Same.setHearth rfl (by assumption)
    · refine Same.iteFst ?_ ?_
      · unfold x7
        dsimp only
        exact Same.refl _ _
      · extract_lets +onlyGivenNames x12
        have h12 : Same [.routing, .tiles, .sched, .ports, .hearth, .quench, .counters, .out] x12 y5 := by
          unfold x12
          exact Same.step (State.announce_same ..) rfl (Same.step (State.setMode_same ..) rfl (Same.step (State.lapsePresence_same ..) rfl (Same.refl _ _)))
        clear_value x12
        dsimp only
        assumption
    · refine Same.iteFst ?_ ?_
      · unfold x7
        dsimp only
        exact Same.refl _ _
      · extract_lets +onlyGivenNames x12
        have h12 : Same [.routing, .tiles, .sched, .ports, .hearth, .quench, .counters, .out] x12 y5 := by
          unfold x12
          exact Same.step (State.setMode_same ..) rfl (Same.step (State.lapsePresence_same ..) rfl (Same.refl _ _))
        clear_value x12
        dsimp only
        assumption
    · refine Same.iteFst ?_ ?_
      · extract_lets +onlyGivenNames x14
        have h14 : Same [.routing, .tiles, .sched, .ports, .hearth, .quench, .counters, .out] x14 y5 := by
          unfold x14
          exact Same.step (State.enterService_same ..) rfl (Same.refl _ _)
        clear_value x14
        dsimp only
        assumption
      · refine Same.iteFst ?_ ?_
        · extract_lets +onlyGivenNames x14
          clear_value x14
          extract_lets +onlyGivenNames x15
          have h15 : Same [.routing, .tiles, .sched, .ports, .hearth, .quench, .counters, .out] x15 y5 := by
            unfold x15
            exact Same.step (State.setMode_same ..) rfl (Same.setHearth rfl (Same.refl _ _))
          clear_value x15
          dsimp only
          exact Same.step (State.bringupExit_same ..) rfl (Same.step (State.announce_same ..) rfl (by assumption))
        · unfold x7
          dsimp only
          exact Same.refl _ _

theorem execSelfTestPass_same (a1 : List Nat) (a2 : List Nat) (a3 : List Nat) (a4 : Option Nat) (a5 : State) :
    SameNext [.routing, .tiles, .sched, .time, .ports, .wqs, .cqs, .remote, .matching, .coll, .striker, .trans, .insts, .draw, .vises, .hearth, .quench, .counters, .mem, .outside, .poison, .free, .out] (execSelfTestPass a1 a2 a3 a4 a5) a5 := by
  unfold execSelfTestPass
  refine SameNext.ite ?_ ?_
  · exact SameNext.next (Same.refl _ _)
  · split
    · exact SameNext.next (Same.step (State.raiseAt_same ..) rfl (Same.refl _ _))
    · extract_lets +onlyGivenNames x6
      have h6 : Same [.routing, .tiles, .sched, .time, .ports, .wqs, .cqs, .remote, .matching, .coll, .striker, .trans, .insts, .draw, .vises, .hearth, .quench, .counters, .mem, .outside, .poison, .free, .out] x6 a5 := by
        unfold x6
        exact Same.ite (Same.step (State.applyMap_same ..) rfl (Same.refl _ _)) (Same.refl _ _)
      clear_value x6
      extract_lets +onlyGivenNames x8
      have h8 : Same [.routing, .tiles, .sched, .time, .ports, .wqs, .cqs, .remote, .matching, .coll, .striker, .trans, .insts, .draw, .vises, .hearth, .quench, .counters, .mem, .outside, .poison, .free, .out] x8 a5 := by
        unfold x8
        refine Same.foldl ?_ _ ?_
        · intro y9
          intro y10
          exact Same.step (State.fenceUnit_same ..) rfl (Same.refl _ _)
        · assumption
      clear_value x8
      extract_lets +onlyGivenNames x10
      have h10 : Same [.routing, .tiles, .sched, .time, .ports, .wqs, .cqs, .remote, .matching, .coll, .striker, .trans, .insts, .draw, .vises, .hearth, .quench, .counters, .mem, .outside, .poison, .free, .out] x10 a5 := by
        unfold x10
        refine Same.foldl ?_ _ ?_
        · intro y11
          intro y12
          exact Same.step (State.fenceUnit_same ..) rfl (Same.refl _ _)
        · assumption
      clear_value x10
      extract_lets +onlyGivenNames x12
      have h12 : Same [.routing, .tiles, .sched, .time, .ports, .wqs, .cqs, .remote, .matching, .coll, .striker, .trans, .insts, .draw, .vises, .hearth, .quench, .counters, .mem, .outside, .poison, .free, .out] x12 a5 := by
        unfold x12
        refine Same.foldl ?_ _ ?_
        · intro y13
          intro y14
          exact Same.step (State.fenceUnit_same ..) rfl (Same.refl _ _)
        · assumption
      clear_value x12
      refine SameNext.next ?_
      refine Same.ite ?_ ?_
      · assumption
      · exact Same.step (State.serve_same ..) rfl (Same.step (State.bringupExit_same ..) rfl (Same.step (State.setMode_same ..) rfl (Same.setHearth rfl (by assumption))))

theorem execFlesoReady_same (a1 : Bool) (a2 : Bool) (a3 : Bool) (a4 : Bool) (a5 : State) :
    SameNext [.routing, .tiles, .sched, .ports, .hearth, .quench, .counters, .out] (execFlesoReady a1 a2 a3 a4 a5) a5 := by
  unfold execFlesoReady
  extract_lets +onlyGivenNames x6
  clear_value x6
  refine SameNext.ite ?_ ?_
  · exact SameNext.next (Same.refl _ _)
  · refine SameNext.ite ?_ ?_
    · extract_lets +onlyGivenNames x7
      have h7 : Same [.routing, .tiles, .sched, .ports, .hearth, .quench, .counters, .out] x7 a5 := by
        unfold x7
        exact Same.ite (Same.refl _ _) (Same.step (State.raiseAt_same ..) rfl (Same.refl _ _))
      clear_value x7
      refine SameNext.next ?_
      refine Same.ite ?_ ?_
      · assumption
      · exact Same.step (State.raiseAt_same ..) rfl (by assumption)
    · extract_lets +onlyGivenNames x7
      have h7 : Same [.routing, .tiles, .sched, .ports, .hearth, .quench, .counters, .out] x7 a5 := by
        unfold x7
        exact Same.setHearth rfl (Same.refl _ _)
      clear_value x7
      extract_lets +onlyGivenNames x9
      clear_value x9
      extract_lets +onlyGivenNames x10
      clear_value x10
      extract_lets +onlyGivenNames x11
      have h11 : Same [.routing, .tiles, .sched, .ports, .hearth, .quench, .counters, .out] x11 a5 := by
        unfold x11
        refine Same.ite ?_ ?_
        · assumption
        · exact Same.step (State.raiseAt_same ..) rfl (by assumption)
      clear_value x11
      refine SameNext.ite ?_ ?_
      · exact SameNext.next (Same.step (State.raiseAt_same ..) rfl (by assumption))
      · extract_lets +onlyGivenNames x13
        clear_value x13
        extract_lets +onlyGivenNames x14
        have h14 : Same [.routing, .tiles, .sched, .ports, .hearth, .quench, .counters, .out] x14 a5 := by
          unfold x14
          exact Same.step (State.setMap_same ..) rfl (by assumption)
        clear_value x14
        extract_lets +onlyGivenNames x16
        clear_value x16
        extract_lets +onlyGivenNames x17
        have h17 : Same [.routing, .tiles, .sched, .ports, .hearth, .quench, .counters, .out] x17 a5 := by
          unfold x17
          exact Same.setHearth rfl (by assumption)
        clear_value x17
        exact SameNext.next (Same.step (State.serve_same ..) rfl (Same.step (State.setReady_same ..) rfl (by assumption)))

theorem execResetNLow_same (a1 : State) :
    SameNext [.routing, .tiles, .sched, .time, .ports, .wqs, .cqs, .remote, .matching, .coll, .striker, .trans, .insts, .draw, .vises, .hearth, .quench, .counters, .power, .segments, .mem, .outside, .poison, .out] (execResetNLow a1) a1 := by
  unfold execResetNLow
  extract_lets +onlyGivenNames x2
  clear_value x2
  extract_lets +onlyGivenNames x3
  have h3 : Same [.routing, .tiles, .sched, .time, .ports, .wqs, .cqs, .remote, .matching, .coll,   .striker, .trans, .insts, .draw, .vises, .hearth, .quench, .counters, .power,   .segments, .mem, .outside, .poison, .out] x3 a1 := by
    unfold x3
    exact Same.setPower rfl (Same.refl _ _)
  refine SameNext.next ?_
  refine Same.ite ?_ ?_
  · assumption
  · exact Same.step (State.moduleReset_same ..) rfl (by assumption)

theorem execResetNHigh_same (a1 : Bool) (a2 : State) :
    SameNext [.ports, .hearth, .counters, .power, .out] (execResetNHigh a1 a2) a2 := by
  unfold execResetNHigh
  extract_lets +onlyGivenNames x3
  extract_lets +onlyGivenNames x4
  have h4 : Same [.ports, .hearth, .counters, .power, .out] x4 a2 := by
    unfold x4
    exact Same.setPower rfl (Same.refl _ _)
  refine SameNext.next ?_
  refine Same.ite ?_ ?_
  · exact Same.step (State.setMode_same ..) rfl (Same.setHearth rfl (by assumption))
  · assumption

theorem execDrainComplete_same (a1 : State) :
    SameNext [.routing, .tiles, .sched, .ports, .hearth, .quench, .counters, .out] (execDrainComplete a1) a1 := by
  unfold execDrainComplete
  exact SameNext.next (Same.ite (Same.step (State.answerDrain_same ..) rfl (Same.refl _ _)) (Same.refl _ _))

theorem execLinkBringupTimeout_same (a1 : Ticks) (a2 : State) :
    SameNext [.routing, .tiles, .sched, .time, .ports, .hearth, .quench, .counters, .out] (execLinkBringupTimeout a1 a2) a2 := by
  unfold execLinkBringupTimeout
  extract_lets +onlyGivenNames x3
  have h3 : Same [.routing, .tiles, .sched, .time, .ports, .hearth, .quench, .counters, .out] x3 a2 := by
    unfold x3
    exact Same.step (State.advance_same ..) rfl (Same.refl _ _)
  clear_value x3
  refine SameNext.next ?_
  refine Same.ite ?_ ?_
  · exact Same.step (State.serve_same ..) rfl (Same.step (State.leaveBringup_same ..) rfl (by assumption))
  · assumption

theorem execDrainTimeout_same (a1 : Ticks) (a2 : State) :
    SameNext [.routing, .tiles, .sched, .time, .ports, .hearth, .quench, .counters, .out] (execDrainTimeout a1 a2) a2 := by
  unfold execDrainTimeout
  extract_lets +onlyGivenNames x3
  have h3 : Same [.routing, .tiles, .sched, .time, .ports, .hearth, .quench, .counters, .out] x3 a2 := by
    unfold x3
    exact Same.step (State.advance_same ..) rfl (Same.refl _ _)
  clear_value x3
  refine SameNext.next ?_
  refine Same.ite ?_ ?_
  · exact Same.step (State.answerDrain_same ..) rfl (by assumption)
  · assumption

end Sys2Proof.Machine
end

