-- ==== Sys2Proof/Laws/FrameFirmware.lean ====
section
/-! SUPPORT. Frames of the operations and commands of Sys2Proof/Machine/Firmware.lean: each changes no part of the module but those it
names, and keeps module memory canonical. -/

namespace Sys2Proof.Machine

open Sys2Proof

theorem State.resumeMode_same (a1 : State) :
    Same [.ports, .hearth, .counters, .out] (State.resumeMode a1) a1 := by
  unfold State.resumeMode
  refine Same.ite ?_ ?_
  · exact Same.refl _ _
  · exact Same.ite (Same.step (State.enterService_same ..) rfl (Same.refl _ _)) (Same.step (State.setMode_same ..) rfl (Same.refl _ _))

theorem State.restartHearth_same (a1 : State) :
    Same [.ports, .draw, .vises, .hearth, .counters, .out] (State.restartHearth a1) a1 := by
  unfold State.restartHearth
  extract_lets +onlyGivenNames x2
  have h2 : Same [.ports, .draw, .vises, .hearth, .counters, .out] x2 a1 := by
    unfold x2
    refine Same.foldl ?_ _ ?_
    · intro y3
      intro y4
      exact Same.step (State.breakIdentity_same ..) rfl (Same.refl _ _)
    · exact Same.refl _ _
  clear_value x2
  exact Same.setCounters rfl (fun hs => ⟨hs.1, fun h => by simp [bit] at h, hs.2.2⟩) (by assumption)

theorem execFwActivationReady_same (a1 : State) :
    SameNext [.routing, .tiles, .sched, .ports, .draw, .vises, .hearth, .quench, .counters, .out] (execFwActivationReady a1) a1 := by
  unfold execFwActivationReady
  split
  · exact SameNext.next (Same.refl _ _)
  · extract_lets +onlyGivenNames x5
    clear_value x5
    extract_lets +onlyGivenNames x6
    clear_value x6
    extract_lets +onlyGivenNames x7
    clear_value x7
    extract_lets +onlyGivenNames x8
    have h8 : Same [.routing, .tiles, .sched, .ports, .draw, .vises, .hearth, .quench, .counters, .out] x8 a1 := by
      unfold x8
      exact Same.setHearth rfl (Same.refl _ _)
    clear_value x8
    extract_lets +onlyGivenNames x10
    have h10 : Same [.routing, .tiles, .sched, .ports, .draw, .vises, .hearth, .quench, .counters, .out] x10 a1 := by
      unfold x10
      exact Same.step (State.eventAll_same ..) rfl (Same.step (State.resumeMode_same ..) rfl (Same.step (State.setReady_same ..) rfl (Same.step (State.restartHearth_same ..) rfl (by assumption))))
    clear_value x10
    exact SameNext.next (Same.step (State.serve_same ..) rfl (Same.step (State.answer_same ..) rfl (by assumption)))

theorem execFwActivationTimeout_same (a1 : Bool) (a2 : State) :
    SameNext [.routing, .tiles, .sched, .ports, .draw, .vises, .hearth, .quench, .counters, .out] (execFwActivationTimeout a1 a2) a2 := by
  unfold execFwActivationTimeout
  split
  · exact SameNext.next (Same.refl _ _)
  · extract_lets +onlyGivenNames x6
    clear_value x6
    extract_lets +onlyGivenNames x7
    clear_value x7
    extract_lets +onlyGivenNames x8
    have h8 : Same [.routing, .tiles, .sched, .ports, .draw, .vises, .hearth, .quench, .counters, .out] x8 a2 := by
      unfold x8
      exact Same.setHearth rfl (Same.refl _ _)
    clear_value x8
    extract_lets +onlyGivenNames x10
    have h10 : Same [.routing, .tiles, .sched, .ports, .draw, .vises, .hearth, .quench, .counters, .out] x10 a2 := by
      unfold x10
      exact Same.step (State.setReady_same ..) rfl (Same.step (State.restartHearth_same ..) rfl (Same.step (State.emit_same ..) rfl (by assumption)))
    clear_value x10
    extract_lets +onlyGivenNames x12
    have h12 : Same [.routing, .tiles, .sched, .ports, .draw, .vises, .hearth, .quench, .counters, .out] x12 a2 := by
      unfold x12
      exact Same.step (State.raiseAt_same ..) rfl (Same.step (State.eventAll_same ..) rfl (Same.step (State.resumeMode_same ..) rfl (by assumption)))
    clear_value x12
    exact SameNext.next (Same.step (State.serve_same ..) rfl (Same.step (State.answer_same ..) rfl (by assumption)))

theorem execFwActivate_same (a1 : Call) (a2 : Bool) (a3 : State) :
    SameNext [.routing, .tiles, .sched, .ports, .hearth, .quench, .counters, .out] (execFwActivate a1 a2 a3) a3 := by
  unfold execFwActivate
  refine fleso_same rfl ?_
  intro y4
  intro y5
  extract_lets +onlyGivenNames x6
  clear_value x6
  extract_lets +onlyGivenNames x7
  clear_value x7
  refine Same.iteFst ?_ ?_
  · dsimp only
    exact Same.setHearth rfl (Same.refl _ _)
  · refine Same.iteFst ?_ ?_
    · dsimp only
      exact Same.refl _ _
    · refine Same.iteFst ?_ ?_
      · dsimp only
        exact Same.refl _ _
      · dsimp only
        exact Same.setHearth rfl (Same.refl _ _)

theorem execFwStage_same (a1 : Call) (a2 : DataRef) (a3 : State) :
    SameNext [.routing, .tiles, .sched, .ports, .hearth, .quench, .counters, .out] (execFwStage a1 a2 a3) a3 := by
  unfold execFwStage
  refine fleso_same rfl ?_
  intro y4
  intro y5
  extract_lets +onlyGivenNames x6
  clear_value x6
  refine Same.iteFst ?_ ?_
  · dsimp only
    exact Same.refl _ _
  · refine Same.iteFst ?_ ?_
    · dsimp only
      exact Same.refl _ _
    · extract_lets +onlyGivenNames x7
      clear_value x7
      extract_lets +onlyGivenNames x8
      clear_value x8
      dsimp only
      exact Same.setHearth rfl (Same.refl _ _)

theorem execHearthWatchdog_same (a1 : State) :
    SameNext [.routing, .tiles, .sched, .ports, .draw, .vises, .hearth, .quench, .counters, .out] (execHearthWatchdog a1) a1 := by
  unfold execHearthWatchdog
  refine SameNext.ite ?_ ?_
  · exact SameNext.next (Same.refl _ _)
  · extract_lets +onlyGivenNames x2
    have h2 : Same [.routing, .tiles, .sched, .ports, .draw, .vises, .hearth, .quench, .counters,   .out] x2 a1 := by
      unfold x2
      exact Same.step (State.raiseAt_same ..) rfl (Same.refl _ _)
    clear_value x2
    extract_lets +onlyGivenNames x4
    have h4 : Same [.routing, .tiles, .sched, .ports, .draw, .vises, .hearth, .quench, .counters,   .out] x4 a1 := by
      unfold x4
      refine Same.foldl ?_ _ ?_
      · intro y5
        intro y6
        exact Same.step (State.breakByFault_same ..) rfl (Same.refl _ _)
      · assumption
    clear_value x4
    extract_lets +onlyGivenNames x6
    extract_lets +onlyGivenNames x7
    have h7 : Same [.routing, .tiles, .sched, .ports, .draw, .vises, .hearth, .quench, .counters,   .out] x7 a1 := by
      unfold x7
      exact Same.setCounters rfl (fun hs => ⟨hs.1, fun h => by simp [bit] at h, hs.2.2⟩) (by assumption)
    clear_value x7
    extract_lets +onlyGivenNames x9
    clear_value x9
    refine SameNext.next (Same.step (State.serve_same ..) rfl ?_)
    refine Same.foldl ?_ _ ?_
    · intro y10
      intro y11
      exact Same.step (State.answer_same ..) rfl (Same.refl _ _)
    · assumption

end Sys2Proof.Machine
end

