-- ==== Sys2Proof/Laws/FramePower.lean ====
section
/-! SUPPORT. Frames of the operations and commands of Sys2Proof/Machine/Power.lean: each changes no part of the module but those it
names, and keeps module memory canonical. -/

namespace Sys2Proof.Machine

open Sys2Proof

theorem execCableOverdraw_same (a1 : Nat) (a2 : State) :
    SameNext [.routing, .tiles, .sched, .time, .quench, .counters, .out] (execCableOverdraw a1 a2) a2 := by
  unfold execCableOverdraw
  extract_lets +onlyGivenNames x3
  clear_value x3
  refine SameNext.ite ?_ ?_
  · exact SameNext.next (Same.refl _ _)
  · extract_lets +onlyGivenNames x4
    have h4 : Same [.routing, .tiles, .sched, .time, .quench, .counters, .out] x4 a2 := by
      unfold x4
      exact Same.step (State.emit_same ..) rfl (Same.step (State.modTile_same ..) rfl (Same.refl _ _))
    clear_value x4
    exact SameNext.next (Same.step (State.raiseAt_same ..) rfl (Same.step (State.elect_same ..) rfl (Same.step (State.modTile_same ..) rfl (Same.step (State.leaveRouting_same ..) rfl (by assumption)))))

theorem State.cross_same (a1 : State) (a2 : Nat) (a3 : Nat) (a4 : Bool) (a5 : Bool) :
    Same [.quench, .counters, .power] (State.cross a1 a2 a3 a4 a5) a1 := by
  unfold State.cross
  extract_lets +onlyGivenNames x6
  clear_value x6
  refine Same.ite ?_ ?_
  · exact Same.step (State.raiseAt_same ..) rfl (Same.setPower rfl (Same.refl _ _))
  · exact Same.ite (Same.setPower rfl (Same.refl _ _)) (Same.refl _ _)

theorem State.crossTemp_same (a1 : State) (a2 : Nat) (a3 : Nat) (a4 : Nat) (a5 : Nat) :
    Same [.quench, .counters, .power] (State.crossTemp a1 a2 a3 a4 a5) a1 := by
  unfold State.crossTemp
  exact Same.step (State.cross_same ..) rfl (Same.refl _ _)

theorem execI3cEntdaa_same (a1 : BitVec 7) (a2 : State) :
    SameNext [.hearth] (execI3cEntdaa a1 a2) a2 := by
  unfold execI3cEntdaa
  refine SameNext.next ?_
  split
  · exact Same.refl _ _
  · exact Same.refl _ _
  · exact Same.refl _ _
  · exact Same.setHearth rfl (Same.refl _ _)

theorem execRailsOff_same (a1 : State) :
    SameNext [.routing, .tiles, .sched, .time, .ports, .wqs, .cqs, .remote, .matching, .coll, .striker, .trans, .insts, .draw, .vises, .hearth, .quench, .counters, .power, .segments, .mem, .outside, .poison, .out] (execRailsOff a1) a1 := by
  unfold execRailsOff
  refine SameNext.ite ?_ ?_
  · exact SameNext.next (Same.refl _ _)
  · extract_lets +onlyGivenNames x2
    have h2 : Same [.routing, .tiles, .sched, .time, .ports, .wqs, .cqs, .remote, .matching, .coll, .striker, .trans, .insts, .draw, .vises, .hearth, .quench, .counters, .power, .segments, .mem, .outside, .poison, .out] x2 a1 := by
      unfold x2
      exact Same.step (State.setReady_same ..) rfl (Same.refl _ _)
    clear_value x2
    extract_lets +onlyGivenNames x4
    have h4 : Same [.routing, .tiles, .sched, .time, .ports, .wqs, .cqs, .remote, .matching, .coll, .striker, .trans, .insts, .draw, .vises, .hearth, .quench, .counters, .power, .segments, .mem, .outside, .poison, .out] x4 a1 := by
      unfold x4
      exact Same.step (State.cleared_same ..) rfl (by assumption)
    clear_value x4
    extract_lets +onlyGivenNames x6
    clear_value x6
    extract_lets +onlyGivenNames x7
    have h7 : Same [.routing, .tiles, .sched, .time, .ports, .wqs, .cqs, .remote, .matching, .coll, .striker, .trans, .insts, .draw, .vises, .hearth, .quench, .counters, .power, .segments, .mem, .outside, .poison, .out] x7 a1 := by
      unfold x7
      exact Same.setPower rfl (by assumption)
    clear_value x7
    refine SameNext.next ?_
    refine Same.ite ?_ ?_
    · exact Same.step (State.powerOn_same ..) rfl (by assumption)
    · assumption

theorem execMainsInputLost_same (a1 : Bool) (a2 : State) :
    SameNext [.quench, .counters, .power] (execMainsInputLost a1 a2) a2 := by
  unfold execMainsInputLost
  extract_lets +onlyGivenNames x3
  clear_value x3
  refine SameNext.ite ?_ ?_
  · exact SameNext.next (Same.refl _ _)
  · extract_lets +onlyGivenNames x4
    have h4 : Same [.quench, .counters, .power] x4 a2 := by
      unfold x4
      exact Same.setPower rfl (Same.refl _ _)
    clear_value x4
    extract_lets +onlyGivenNames x6
    have h6 : Same [.quench, .counters, .power] x6 a2 := by
      unfold x6
      exact Same.step (State.raiseAt_same ..) rfl (by assumption)
    clear_value x6
    refine SameNext.next ?_
    refine Same.ite ?_ ?_
    · assumption
    · exact Same.step (State.raiseAt_same ..) rfl (Same.setPower rfl (by assumption))

theorem execCablePresentChange_same (a1 : Nat) (a2 : Bool) (a3 : Nat) (a4 : State) :
    SameNext [.tiles, .quench, .counters, .out] (execCablePresentChange a1 a2 a3 a4) a4 := by
  unfold execCablePresentChange
  extract_lets +onlyGivenNames x5
  clear_value x5
  refine SameNext.ite ?_ ?_
  · exact SameNext.next (Same.refl _ _)
  · refine SameNext.ite ?_ ?_
    · refine SameNext.ite ?_ ?_
      · exact SameNext.next (Same.step (State.emit_same ..) rfl (Same.step (State.modTile_same ..) rfl (Same.refl _ _)))
      · exact SameNext.next (Same.step (State.raiseAt_same ..) rfl (Same.step (State.modTile_same ..) rfl (Same.refl _ _)))
    · extract_lets +onlyGivenNames x6
      have h6 : Same [.tiles, .quench, .counters, .out] x6 a4 := by
        unfold x6
        exact Same.step (State.modTile_same ..) rfl (Same.refl _ _)
      clear_value x6
      refine SameNext.next ?_
      refine Same.ite ?_ ?_
      · exact Same.step (State.emit_same ..) rfl (by assumption)
      · assumption

theorem State.cross10_same (a1 : State) (a2 : Nat) (a3 : Bool) (a4 : Bool) :
    Same [.quench, .counters, .power] (State.cross10 a1 a2 a3 a4) a1 := by
  unfold State.cross10
  extract_lets +onlyGivenNames x5
  clear_value x5
  extract_lets +onlyGivenNames x6
  clear_value x6
  extract_lets +onlyGivenNames x7
  have h7 : Same [.quench, .counters, .power] x7 a1 := by
    unfold x7
    exact Same.setPower rfl (Same.refl _ _)
  clear_value x7
  exact Same.step (State.cross_same ..) rfl (by assumption)

theorem execSensorSample_same (a1 : BitVec 12) (a2 : BitVec 12) (a3 : BitVec 8) (a4 : BitVec 8) (a5 : BitVec 8) (a6 : List Nat) (a7 : State) :
    SameNext [.quench, .counters, .power] (execSensorSample a1 a2 a3 a4 a5 a6 a7) a7 := by
  unfold execSensorSample
  refine SameNext.ite ?_ ?_
  · exact SameNext.next (Same.refl _ _)
  · extract_lets +onlyGivenNames x8
    clear_value x8
    extract_lets +onlyGivenNames x9
    have h9 : Same [.quench, .counters, .power] x9 a7 := by
      unfold x9
      exact Same.setPower rfl (Same.refl _ _)
    clear_value x9
    extract_lets +onlyGivenNames x11
    clear_value x11
    extract_lets +onlyGivenNames x12
    have h12 : Same [.quench, .counters, .power] x12 a7 := by
      unfold x12
      exact Same.step (State.crossTemp_same ..) rfl (Same.step (State.crossTemp_same ..) rfl (Same.step (State.crossTemp_same ..) rfl (by assumption)))
    clear_value x12
    extract_lets +onlyGivenNames x14
    have h14 : Same [.quench, .counters, .power] x14 a7 := by
      unfold x14
      refine Same.foldl ?_ _ ?_
      · intro y15
        intro y16
        exact Same.step (State.crossTemp_same ..) rfl (Same.step (State.crossTemp_same ..) rfl (Same.refl _ _))
      · assumption
    clear_value x14
    extract_lets +onlyGivenNames x16
    clear_value x16
    extract_lets +onlyGivenNames x17
    clear_value x17
    exact SameNext.next (Same.step (State.cross10_same ..) rfl (Same.step (State.cross10_same ..) rfl (by assumption)))

theorem execMainsInputPresent_same (a1 : Bool) (a2 : State) :
    SameNext [.routing, .tiles, .sched, .time, .ports, .wqs, .cqs, .remote, .matching, .coll, .striker, .trans, .insts, .draw, .vises, .hearth, .quench, .counters, .power, .segments, .mem, .outside, .poison] (execMainsInputPresent a1 a2) a2 := by
  unfold execMainsInputPresent
  extract_lets +onlyGivenNames x3
  clear_value x3
  extract_lets +onlyGivenNames x4
  have h4 : Same [.routing, .tiles, .sched, .time, .ports, .wqs, .cqs, .remote, .matching, .coll,   .striker, .trans, .insts, .draw, .vises, .hearth, .quench, .counters, .power,   .segments, .mem, .outside, .poison] x4 a2 := by
    unfold x4
    exact Same.setPower rfl (Same.refl _ _)
  refine SameNext.next ?_
  refine Same.ite ?_ ?_
  · exact Same.step (State.powerOn_same ..) rfl (by assumption)
  · refine Same.ite ?_ ?_
    · assumption
    · exact Same.setPower rfl (by assumption)

theorem execHoldUpPowerDown_same (a1 : State) :
    SameNext [.tiles, .ports, .counters, .power, .out] (execHoldUpPowerDown a1) a1 := by
  unfold execHoldUpPowerDown
  extract_lets +onlyGivenNames x2
  clear_value x2
  refine SameNext.ite ?_ ?_
  · exact SameNext.next (Same.refl _ _)
  · exact SameNext.next (Same.step (State.idleFabric_same ..) rfl (Same.step (State.writeBackHosts_same ..) rfl (Same.setPower rfl (Same.refl _ _))))

end Sys2Proof.Machine
end

