-- ==== Sys2Proof/WellFormed.lean ====
section
/-! DEFINITION. Well-formed commands: the numbers a command's sender cannot get wrong, because the part has so many of each thing (R24,
R291, R479, R570, R647, R711) and each packet carries the bytes its header counts. A Fleso command's arguments may hold anything: what is out of
range there is answered with bad_argument, and only its arrival point is checked. -/

namespace Sys2Proof

/-- Whether a virtual function exists (R254). -/
def vfOk : Option Nat → Bool
  | none => true
  | some v => v < 256

/-- Whether a function exists. -/
def Fn.ok (f : Fn) : Bool := decide (f.port < 4) && vfOk f.vf

/-- Whether an arrival point exists (R605, R615). -/
def Arrival.ok : Arrival → Bool
  | .mailbox f slot => f.ok && decide (slot < if f.vf.isNone then 30 else 4)
  | .f63 _ => true
  | .fabric p _ => p < 63
  | .sideband _ => true
  | .debug => true

/-- Whether a Fleso command comes from an arrival point that exists. -/
def Call.ok (c : Call) : Bool := c.via.ok

/-- Whether a packet carries the bytes that its header counts. -/
def Packet.ok (p : Packet) : Bool := p.payload.length == p.payloadLen.toNat

/-- Whether a frame holds four codewords and ten flits (R62, R65). -/
def RxFrame.ok (f : RxFrame) : Bool :=
  f.message.length == 2570 && f.errors.all (fun e => decide (e.1 < 2176) && e.2 != 0) && (f.errors.map (·.1)).eraseDups == f.errors.map (·.1)

/-- Whether a command is well formed. -/
def Instr.wf : Instr → Bool
  | .registerWriteUndefined fn _ => fn.ok
  | .wqDoorbell fn _ _ _ _ => fn.ok
  | .cqDoorbell fn _ _ _ _ => fn.ok
  | .mboxSubmit fn _ _ _ _ => fn.ok
  | .mboxRelease fn _ _ _ => fn.ok
  | .mboxWithdraw fn _ _ _ => fn.ok
  | .evHeadWrite fn _ => fn.ok
  | .msixUnmask fn _ => fn.ok
  | .identify c => c.ok
  | .regRead c _ _ _ _ => c.ok
  | .regWrite c _ _ _ _ _ => c.ok
  | .stageOpen c _ => c.ok
  | .stageWrite c _ _ _ => c.ok
  | .stageClose c _ => c.ok
  | .modeRequest c _ => c.ok
  | .reportRead c _ _ => c.ok
  | .machineIdentity c _ _ _ _ _ _ => c.ok
  | .portReassign c _ => c.ok
  | .routeLoad c _ _ _ => c.ok
  | .routeSwap c _ _ _ => c.ok
  | .routeCfg c _ _ => c.ok
  | .treeWrite c _ _ => c.ok
  | .flowCfg c _ _ _ _ => c.ok
  | .sampling c _ _ _ _ => c.ok
  | .holeSet c _ _ _ => c.ok
  | .timeSet c _ => c.ok
  | .timeCfg c _ => c.ok
  | .timePort c _ _ => c.ok
  | .strokeLoad c _ _ => c.ok
  | .strokeSwap c _ _ => c.ok
  | .strokeAdmit c _ => c.ok
  | .strokeEnable c _ => c.ok
  | .instCreate c _ _ _ _ _ _ => c.ok
  | .instBind c _ _ _ => c.ok
  | .instGrant c _ _ => c.ok
  | .instReset c _ => c.ok
  | .instReopen c _ => c.ok
  | .instQuery c _ => c.ok
  | .instDestroy c _ => c.ok
  | .instQuiesce c _ => c.ok
  | .instExport c _ => c.ok
  | .instImport c _ _ => c.ok
  | .dirtyLog c _ _ _ _ _ _ => c.ok
  | .dirtyFlush c _ => c.ok
  | .segmentExpose c _ _ => c.ok
  | .hostCfg c _ _ => c.ok
  | .shaping c _ _ _ => c.ok
  | .wqCreate c _ _ _ _ _ _ => c.ok
  | .cqCreate c _ _ _ _ _ _ _ => c.ok
  | .wqRestart c _ _ => c.ok
  | .cqRestart c _ => c.ok
  | .queueStatus c _ _ _ => c.ok
  | .queueDestroy c _ _ => c.ok
  | .cqSignal c _ _ _ => c.ok
  | .ctxCreate c _ _ _ _ _ _ _ _ _ _ => c.ok
  | .ctxDestroy c _ _ => c.ok
  | .matchCfg c _ _ => c.ok
  | .windowWrite c _ _ _ => c.ok
  | .tallyAlloc c _ _ _ _ _ _ => c.ok
  | .tallyArm c _ _ _ => c.ok
  | .tallyRead c _ _ => c.ok
  | .tallyFree c _ _ => c.ok
  | .remoteCfg c _ => c.ok
  | .groupCreate c _ _ _ _ _ _ _ _ _ => c.ok
  | .groupDestroy c _ => c.ok
  | .collCfg c _ => c.ok
  | .placeHint c _ => c.ok
  | .placeLog c _ _ => c.ok
  | .placeSummary c => c.ok
  | .strikerCfg c _ => c.ok
  | .transDomain c _ _ _ => c.ok
  | .transInval c _ _ _ => c.ok
  | .transLock c _ _ _ _ => c.ok
  | .transUnlock c _ _ _ => c.ok
  | .deviceRange c _ _ _ _ => c.ok
  | .faultLog c _ _ _ => c.ok
  | .drawChannel c _ _ _ _ => c.ok
  | .drawLoad c _ _ _ => c.ok
  | .drawStop c _ => c.ok
  | .viseClaim c _ => c.ok
  | .viseRelease c _ => c.ok
  | .quenchRead c => c.ok
  | .quenchClear c _ _ => c.ok
  | .quenchPolicy c _ _ => c.ok
  | .inject c _ _ => c.ok
  | .counterSelect c _ _ _ => c.ok
  | .counterRead c _ _ => c.ok
  | .rolemapLoad c _ => c.ok
  | .fwStage c _ => c.ok
  | .fwActivate c _ => c.ok
  | .mgmtCmd port p => decide (port < 64) && p.ok
  | .mgmtResp port p => decide (port < 64) && p.ok
  | .mctpRequest _ _ => true
  | .fecFrameReceive port frame => decide (port < 64) && frame.ok
  | .freewheelBlock port _ => decide (port < 64)
  | .trainingBlock port lane _ => decide (port < 64) && decide (lane < 8)
  | .laneLockLoss port lane => decide (port < 64) && decide (lane < 8)
  | .trainingPhaseTimeout port => decide (port < 64)
  | .trainingBackoffExpiry port => decide (port < 64)
  | .rateStepSwitch port => decide (port < 64)
  | .rateQualifyEnd port _ _ eyeWidths => decide (port < 64) && decide (eyeWidths.length ≤ 8)
  | .eyeScanComplete port lane _ _ => decide (port < 64) && decide (lane < 8)
  | .marginCriticalExpiry port lane => decide (port < 64) && decide (lane < 8)
  | .shodSet port => decide (port < 64)
  | .soleUseClear port => decide (port < 64)
  | .shoeRequestSend port => decide (port < 64)
  | .shoeBeginFrame port => decide (port < 64)
  | .shoeStepRelock port _ _ => decide (port < 64)
  | .shoeStepTimeout port => decide (port < 64)
  | .shoeWaitExpiry port => decide (port < 64)
  | .shoeRetryTimer port => decide (port < 64)
  | .idleRunStart port => decide (port < 64)
  | .widthRestore port => decide (port < 64)
  | .replayTimeout port _ => decide (port < 64)
  | .creditDecay port => decide (port < 64)
  | .bellowsUpdate => true
  | .congestionSummarySend => true
  | .timeExchangeSend port => decide (port < 64)
  | .tc3ChunkReportSend port => decide (port < 64)
  | .helloSend port => decide (port < 64)
  | .exchangeIntervalEnd port => decide (port < 64)
  | .injectionDecision _ => true
  | .portEgressDecision port => decide (port < 64)
  | .routeWaitExpiry _ => true
  | .routeSwapFire _ => true
  | .bankRetire _ => true
  | .tc3ResendTimeout _ _ => true
  | .e2eAck port p => decide (port < 64) && p.ok
  | .e2eAckTimer _ => true
  | .tc3StreamSyncRetry _ => true
  | .sampleEpoch _ => true
  | .ppsEdge _ _ _ _ => true
  | .timeRefLoss _ => true
  | .refClockLoss _ => true
  | .timeAnnounce port p => decide (port < 64) && p.ok
  | .timeOutPulse _ => true
  | .strokeBoundary _ => true
  | .strokeSwapFire _ => true
  | .cxlLinkUp port _ _ _ _ => decide (port < 4)
  | .cxlConfigRequest port vf _ => decide (port < 4) && vfOk vf
  | .h2dSnoop port _ => decide (port < 4)
  | .cxlMemRead head _ _ _ => decide (head < 4)
  | .cxlMemWrite head _ _ _ data => decide (head < 4) && data.length == 64
  | .birsp head _ => decide (head < 4)
  | .biTimeout head => decide (head < 4)
  | .d2hTimeout port _ _ => decide (port < 4)
  | .hostLinkDown port => decide (port < 4)
  | .hotReset port => decide (port < 4)
  | .ideFailure port => decide (port < 4)
  | .bmeClear port _ => decide (port < 4)
  | .portPresent port => decide (port < 4)
  | .flrVf port vf => decide (port < 4) && decide (vf < 256)
  | .flrPf port => decide (port < 4)
  | .perstN port _ => decide (port < 4)
  | .hrefclkLoss port => decide (port < 4)
  | .gpfPhase1 port => decide (port < 4)
  | .gpfPhase2 port => decide (port < 4)
  | .descriptorFetch wq => decide (wq < 16384)
  | .descriptorReadComplete wq _ => decide (wq < 16384)
  | .nop wq => decide (wq < 16384)
  | .put wq => decide (wq < 16384)
  | .get wq => decide (wq < 16384)
  | .atomic wq => decide (wq < 16384)
  | .msgSend wq => decide (wq < 16384)
  | .msgRecv wq _ => decide (wq < 16384)
  | .msgCancel wq => decide (wq < 16384)
  | .collective wq => decide (wq < 16384)
  | .drawRun wq => decide (wq < 16384)
  | .tallyAdd wq => decide (wq < 16384)
  | .recordWriteComplete ring => decide (ring < 16384)
  | .writeBackWord _ n => decide (n < 16384)
  | .msgEager p _ => p.ok
  | .msgRts p => p.ok
  | .orderQueryTimer _ _ _ => true
  | .orderAbandon _ _ _ => true
  | .putPacket p _ => p.ok
  | .getReq p _ => p.ok
  | .getResp p _ => p.ok
  | .atomicReq p _ _ _ => p.ok
  | .atomicResp p _ => p.ok
  | .response p => p.ok
  | .fault p => p.ok
  | .operationEnd _ _ => true
  | .tallyMirrorWrite tally _ => decide (tally < 1048576)
  | .tombstoneExpiry _ _ _ => true
  | .openEntryExpiry _ _ _ => true
  | .opTimeout _ _ _ => true
  | .multicastPutSettle _ _ _ => true
  | .collData p _ => p.ok
  | .collInstall p => p.ok
  | .collSwitch p => p.ok
  | .collStall p => p.ok
  | .collProbe p => p.ok
  | .collProbeAnswer p => p.ok
  | .collRestart p => p.ok
  | .collFinalQuery p => p.ok
  | .collFinalAnswer p => p.ok
  | .collAbort p => p.ok
  | .collDone p => p.ok
  | .collClose p => p.ok
  | .collDestroy p => p.ok
  | .collTimeout _ _ _ => true
  | .collStartAt _ _ inst _ _ => decide (inst < 1024)
  | .collReleaseAt _ _ inst _ _ => decide (inst < 1024)
  | .shapeCompare _ _ _ => true
  | .placementEpoch _ _ _ => true
  | .migrationCommit ctx _ => decide (ctx < 65536)
  | .demotionCommit ctx => decide (ctx < 65536)
  | .tallyMoveCommit tally => decide (tally < 1048576)
  | .cellSelfTestEnd cell _ => decide (cell < 4096)
  | .walkEntryRead _ _ => true
  | .adUpdateLine _ _ => true
  | .invalidationDrainComplete _ => true
  | .instanceResetEnd inst => decide (inst < 1024)
  | .instanceResetTimeout inst _ => decide (inst < 1024)
  | .epochSweepEnd inst => decide (inst < 1024)
  | .instanceQuiesceComplete inst => decide (inst < 1024)
  | .drawSetCommit channel _ => decide (channel < 256)
  | .move channel _ _ => decide (channel < 256)
  | .loop channel => decide (channel < 256)
  | .wait channel => decide (channel < 256)
  | .signal channel => decide (channel < 256)
  | .endProg channel => decide (channel < 256)
  | .drawWaitInstant channel _ => decide (channel < 256)
  | .drawWaitTimeout channel _ => decide (channel < 256)
  | .viseClaimWrite _ vise _ => decide (vise < 4096)
  | .viseReleaseWrite _ vise _ => decide (vise < 4096)
  | .detectorEvent events => events.all fun e => decide (e.source < 1408)
  | .railFault detector => decide (detector < 1408)
  | .quenchWindowEnd detector _ => decide (detector < 1408)
  | .injectionFire slot _ _ => decide (slot < 16)
  | .haltActionReset _ => true
  | .hearthWatchdog => true
  | .hsSampleTrigger core _ _ _ _ _ _ => decide (core < 8)
  | .mainsInputLost _ => true
  | .mainsInputPresent _ => true
  | .holdUpPowerDown => true
  | .railsOff => true
  | .resetNLow => true
  | .resetNHigh _ => true
  | .flesoReady _ _ _ _ => true
  | .selfTestPass failedCells failedChannels failedPorts _ => failedCells.all (decide <| · < 4096) && failedChannels.all (decide <| · < 256) && failedPorts.all (decide <| · < 64)
  | .linkBringupTimeout _ => true
  | .drainComplete => true
  | .drainTimeout _ => true
  | .fwActivationReady => true
  | .fwActivationTimeout _ => true
  | .sensorSample _ _ _ _ _ memTemps => memTemps.length == 4
  | .cablePresentChange port _ _ => decide (port < 64)
  | .cableOverdraw port => decide (port < 64)
  | .doeSpdmRequest port _ => decide (port < 4)
  | .refClockReturn _ => true
  | .hrefclkReturn port => decide (port < 4)
  | .cxlLinkTrainingFailed port _ => decide (port < 4)
  | .clockRecoveryPhaseMove port lane _ _ => decide (port < 64) && decide (lane < 8)
  | .substitutionCopyComplete cell _ _ _ => decide (cell < 4096)
  | .placementSummaryTimeout _ => true
  | .i3cEntdaa _ => true
  | .payloadReadReturn port _ _ => decide (port < 4)

end Sys2Proof
end

