-- ==== Sys2Proof/Tests/Slice0.lean ====
section
/-! SUPPORT. Tests: the WellFormed smoke, small tests whose results are the spec's worked examples, and for each statement of
Sys2Proof/Certificates/Slice0/Obligations.lean the states and operands that meet the hypotheses of each of its clauses; for a
Fleso command those under which it executes. -/

namespace Sys2Proof.Machine

open Sys2Proof

set_option Elab.async false

/-! ### What the witnesses stand on -/

/-- A command over the debug port, which executes in Diagnostic (R620, R625). -/
def dbg : Call := { via := .debug, seq := 7, malformed := none }
/-- The module in Diagnostic. -/
def diag : State := { hearth := { mode := .diagnostic, ready := true } }
/-- Instance 0 of the module: active on host port 0, with everything granted. -/
def inst0 : Inst := { state := .active, grants := List.replicate 9 1 }
/-- A physical function, and a virtual one. -/
def pf0 : Fn := { port := 0, vf := none }
/-- A host port that takes D2H requests. -/
def hostUp : HostPort := { present := true, linkUp := true, cacheEnabled := true, memEnabled := true, bme := true, ready := true }
/-- A work queue and a completion ring of instance 0. -/
def wq0 : Wq := { state := .running, owner := pf0 }
def cq0 : Cq := { state := .running, owner := pf0, inst := some 0 }
/-- x86-64 page tables of four levels, enabled (R509). -/
def fmt4 : Word := 0x1e0038c2800204
/-- A work queue with one fetched descriptor. -/
def startable0 (line : Line) : State :=
  { diag with wqs := [(3, { wq0 with fetched := [{ index := 5, line }], open_ := [5] })], cqs := [(0, cq0)], insts := [(0, inst0)], ports := [(0, hostUp)] }
/-- A packet with its Seal (R89). -/
def sealed (p : Packet) : Packet := { p with sealWord := sealOf p }
/-- A packet to instance 0 of this module. -/
def pkt0 (type : BitVec 5) : Packet := { pktType := type, src := 0x1000, opTag := 6, tc := 1, last := true, first := true }
/-- A module with instance 0 at which a packet waits for delivery; host port 0 is up; windows as given. -/
def arrived (p : Packet) (ws : Table (BitVec 256)) : State :=
  { hearth := { mode := .transit, ready := true }, insts := [(0, inst0)], ports := [(0, hostUp)], wqs := [(3, wq0)], cqs := [(0, cq0)],
    sched := { eject := [(0, [{ pkt := p }])] }, remote := { windows := ws } }
/-- A window of 64 KiB at address 0 with every right (R402): in module memory or not. -/
def win0 (mem : Bool) : BitVec 256 := (0x20#256 ||| 4#256 ||| 8#256 ||| 16#256 ||| if mem then 2 else 0) <<< 112 ||| 0x10000#256 <<< 64 ||| 0x1fffffff#256 <<< 160
/-- Drawing channel 255, of instance 0, runs a program of one instruction and END. -/
def drawing (w : BitVec 128) : Chan := { state := .running, active := some { program := [w, 5], wq := some (3, 9) } }
/-- A module with that channel. -/
def drawn (c : Chan) : State :=
  { hearth := { mode := .transit, ready := true }, insts := [(0, inst0)], ports := [(0, hostUp)], draw := { chans := [(255, c)] },
    vises := { vises := [(4095, { inst := some 0 })] }, remote := { tallies := [(7, { slot := 2, value := 40 })] },
    wqs := [(3, { wq0 with open_ := [9] })], cqs := [(0, cq0), (6, cq0)] }
/-- A command over the sideband, which carries Manager authority (R620), and the module in a mode with that command waiting. -/
def side : Call := { via := .sideband 8, seq := 7, malformed := none }
def queued (op : BitVec 16) (mode : Mode) : State :=
  { hearth := { mode, ready := true, queue := [{ via := .sideband 8, opcode := op, seq := 7 }] } }
/-- A staging buffer of the debug port, and a reference to its first bytes. -/
def staged : State := { hearth := { mode := .diagnostic, ready := true, staging := [(0, { owner := .debug, addr := stagingBase, mib := 1 })] } }
def ref0 (len : BitVec 32) : DataRef := { addr := 0x10000000, len, zero := 0 }

theorem leNat_zero {l : List Byte} (h : ∀ b ∈ l, b = 0) : leNat l = 0 := by
  induction l with
  | nil => rfl
  | cons b l ih => simp [leNat, h b (by simp), ih fun x hx => h x (by simp [hx])]
theorem memRead_nil (a n : Nat) : ∀ b ∈ memRead [] a n, b = 0 := by
  induction n generalizing a with
  | zero => nofun
  | succ n ih => exact fun b h => (List.mem_cons.mp h).elim id (ih _ b)
theorem leAt_zero {l : List Byte} (h : ∀ b ∈ l, b = 0) (o n : Nat) : leAt l o n = 0 :=
  leNat_zero fun b hb => (List.mem_append.mp hb).elim (fun hb => h b (List.mem_of_mem_drop (List.mem_of_mem_take hb)))
    (fun hb => List.eq_of_mem_replicate hb)
/-- A bank without candidates keeps R124. -/
theorem checkBank_zero {r : Routing} {bs : List Byte} (h : ∀ b ∈ bs, b = 0) : r.checkBank bs = none := by
  have e : ∀ o k, candsAt bs o k = [0, 0, 0, 0, 0, 0, 0, 0] := fun o k => by simp [candsAt, leAt_zero h, List.range, List.range.loop]
  simp [Routing.checkBank, e, Routing.badCand, Routing.candOk, numbered, candKind, bits]
/-- A flit with its CRC (R66). -/
def crcd (f : Flit) : Flit := { f with crc := flitCrc f }
/-- A tile whose link is up, and a module with one tile. -/
def tileUp : Tile := { linkState := .up, outOfRouting := false, present := true, supply := true }
def tiled (n : Nat) (t : Tile) : State := { hearth := { mode := .transit, ready := true }, tiles := [(n, t)] }
theorem crcd_ok (f : Flit) : flitOk (crcd f) = true := beq_self_eq_true (flitCrc f)
/-- A tile that runs on seven lanes; lane 7 is good again (R704). -/
def narrowed : State := tiled 63 { tileUp with
  lanesActive := 0x7f
  lanes := (List.range 7).map (fun k => (k, ({ active := true } : Lane))) ++ [(7, { excluded := true, good := true, eyeWidth := 16 })] }
/-- Module 0 of a group of two, with the default tables, whose port 7 alone is in routing. -/
def paired : State :=
  { tiled 7 { tileUp with farModule := 1, farPort := 7, farIdValid := true } with
    routing := { idValid := true, mMinus1 := 1, activeGen := 1, bank0 := Routing.defaultBank { idValid := true, mMinus1 := 1 } } }
/-- A packet of instance 0 to module 1, waiting for injection. -/
def waits : QPkt := { pkt := { pktType := 0x01, dst := 0x1000, payloadLen := 1, payload := [1] }, inst := some 0 }
/-- A collective-control packet about group 5 from module 1, and a module with that group at which it waits (R434). -/
def ctl (kind : BitVec 4) : CollCtrl :=
  { kind, group := 5, opSeq := 2, slot := true, rc := 1, modules := [], segs := [], lost := 0, install := none }
def ctlPkt (c : CollCtrl) : Packet := { pktType := 0x0a, src := 0x1000, ctrl := some c }
def ctlTo (g : Group) (c : CollCtrl) : State :=
  { diag with coll := { groups := [(8191, g)] }, routing := { mMinus1 := 1, arrivals := [(0, ctlPkt c)] } }
theorem lock_fits {s : State} {d : Nat} (x : Word × Word × BitVec 2) (h : s.trans.tlb = []) (hd : 1024 ≤ d) : s.lockRefused d [x] = none := by
  simp [State.lockRefused, h, State.lockedIn, Nat.not_lt.mpr hd]
/-- A flit without payload, and an error-free frame of a flit and nine such (R63). -/
def idle0 : Flit := crcd { body := List.replicate 240 0 }
def framed (n : BitVec 24) (f : Flit) : RxFrame := { message := frameMessage n (f :: List.replicate 9 idle0), errors := [], laneErrs := [] }
theorem framed_reads (n : BitVec 24) {f : Flit} (h : f.body.length = 240) :
    rxSync (framed n f) = 0xb5 ∧ rxCount (framed n f) = n ∧ rxFlits (framed n f) = f :: List.replicate 9 idle0 :=
  frame_reads_back rfl fun _ hg => (List.mem_cons.mp hg).elim (fun e => e ▸ h) fun hg => List.eq_of_mem_replicate hg ▸ rfl
theorem idle0_carries_nothing : ∀ y ∈ List.replicate 9 idle0, flitOk y = true ∧ y.flitType = 0 ∧ y.ackValid = false :=
  fun _ h => List.eq_of_mem_replicate h ▸ ⟨crcd_ok _, rfl, rfl⟩
/-- A training block of lane 3 (R674). -/
def block (phase : BitVec 2) : TrainBlock := { symbols := trainHead 3 2 9 false phase, skewNs := 0 }
/-- A packet of instance 0 to member 1 on tree 1 (R160). -/
def castWaits : QPkt := { pkt := { pktType := 0x01, dst := 0x10002, mcast := true, payloadLen := 1, payload := [1] }, inst := some 0 }

/-- A command at the head of its point, in a mode and under an authority that allow it, executes. -/
theorem executes {s : State} {i : Instr} {c : Call} {code : BitVec 16} {k : Allowed} (h : commandOf i = some (c, code, k))
    (b : ((s.front c.via c.seq code).isSome && !s.modeRefuses (s.authOf c.via) code && s.allows k code (s.authOf c.via) &&
      (!s.quench.halted || haltOps.contains code) && c.malformed.isNone) = true) : ∃ code k, s.Executes i c code k := by
  simp only [Bool.and_eq_true, Bool.not_eq_true', Bool.or_eq_true, Option.isNone_iff_eq_none] at b
  exact ⟨code, k, h, b.1.1.1.1, b.1.1.1.2, b.1.1.2, b.1.2, b.2⟩

/-! ### Small tests; their expected results are the spec's worked examples -/

/-- spec/00: endpoint 0x0071_9825 is instance 37 on H2 of module 1,817, which is (3, 17, 9). -/
theorem test_endpoint : addrInst 0x719825 = 37 ∧ addrPort 0x719825 = 2 ∧ addrModule 0x719825 = 1817 ∧ idSuper 1817 = 3 ∧ idGroup 1817 = 17 ∧
    idMember 1817 = 9 := by decide
/-- spec/01: the shape (49, 32, 16) takes 256 links per pair of supergroups and no more. -/
theorem test_shape : shapeOk 49 32 16 12 256 = true ∧ shapeOk 49 32 16 12 257 = false := by decide
/-- spec/03: F20 of module (3, 17, 9) reaches F32 of member 9 of group 25; spec/04: its F5 reaches member 15 on F9. -/
theorem test_farEnd : farEnd 49 32 16 12 255 3 17 9 20 = .link 1945 32 ∧ farEnd 49 32 16 12 255 3 17 9 5 = .link 1823 9 := by decide
/-- spec/02: the two packets of a 4,200-byte put: Word 0, chunks. -/
theorem test_put_packets :
    headerNat { pktType := 1, dst := 0x505252c, payloadLen := 4096 } % 2 ^ 64 = 0x0505252c10000001 ∧
    headerNat { pktType := 1, dst := 0x505252c, payloadLen := 104 } % 2 ^ 64 = 0x0505252c00680001 ∧ packetChunks 4096 = 259 ∧ packetChunks 104 = 10 := by
  decide
/-- spec/15: word 0 of the MGMT_CMD that carries ROUTE_LOAD over F63. -/
theorem test_mgmt_header : headerNat { pktType := 0x10, tc := 3, addrForm := true, payloadLen := 0x28, dst := 0x719000 } % 2 ^ 64 = 0x0071900000284070 := by
  decide
/-- spec/04: the factor of F5 from update to update, at levels 9, 11, 12, 13, 10, 8, 7. -/
theorem test_bellows : ([9, 11, 12, 13, 10, 8, 7].foldl (fun (l : List (BitVec 7)) n => bellowsNext 8 12 1 (l.headD 64) n :: l) []).reverse =
    [60, 56, 28, 14, 10, 6, 7] := by decide
/-- spec/04: a port at full width over a 3 m cable needs 3,868 chunks of credit. -/
theorem test_credit : rttChunksFor { linkState := .up, lanesActive := 0xff, rate := 3, time := { linkDelay := 960 } } = 3868 := by decide
/-- spec/07: the doorbell that fills the queue is taken; the next, 72 places ahead, is refused and counted. -/
theorem test_wqDoorbell :
    (∃ t, exec (.wqDoorbell pf0 291 0x10 0 true) { wqs := [(291, { wq0 with head := 0xffffffd0, tail := 0xfffffff0 })] } = .next t ∧
      (t.wq 291).map (·.tail) = some 0x10) ∧
    ∃ t, exec (.wqDoorbell pf0 291 0x18 0 true) { wqs := [(291, { wq0 with head := 0xffffffd0, tail := 0x10 })] } = .next t ∧
      (t.wq 291).map (fun w => (w.tail, w.overrunCount)) = some (0x10, 1) := ⟨⟨_, rfl, by decide⟩, _, rfl, by decide⟩
/-- spec/10: 1.0e16 + 1.0 - 1.0e16 + 1.0 is 2.0 exactly; the first record has head 0x51 and word 17. -/
theorem test_exact_sum : ([0x3ff0000000000000, 0xc341c37937e08000, 0x3ff0000000000000].foldl (fun x v => x.add (exactOf fp64 v))
    (exactOf fp64 0x4341c37937e08000)).toFmt fp64 = 0x4000000000000000 := by decide +kernel
theorem test_exact_record : (exactOf fp64 0x4341c37937e08000).bytes = leBytes 8 0x51 ++ leBytes 8 0x8e1bc9bf04 ∧
    (exactOf fp64 0x3ff0000000000000).bytes = leBytes 8 0x50 ++ leBytes 8 0x4000000000000 := by decide +kernel
/-- spec/12: the indices of a virtual address. -/
theorem test_indices : [4, 3, 2, 1].map (vaIndex 0x7e0000200000) = [252, 0, 1, 0] := by decide
/-- spec/12: had the entry stood, the walker would have set its accessed and dirty bits. -/
theorem test_adUpdateLine : ∃ t, exec (.adUpdateLine 3 (0x480600087 <<< 64))
      { insts := [(300, { inst0 with port := 1 })], ports := [(1, { hostUp with d2h := [{ tag := .adLine 3, own := true, reads := [] }] })],
        trans := { formats := [(300, fmt4)], active :=
          [{ id := 3, quad := 2, domain := 300, va := 0x7e0000200000, access := 1, gen := 0, pa := 0x123420000, level := 2, entry := some 0x480600087 }] } } =
      .next t ∧ (t.port 1).cache = [(0x48d0800, 0x4806000e7#512 <<< 64)] := ⟨_, rfl, by decide +kernel⟩
/-- spec/14: the program of the example is well formed; without its END it is not. -/
theorem test_program :
    programBad [0x3e80000000000000000000041, 0x00000004000000001000400000003002, 0xbb80000000000001104, 5] = false ∧
    programBad [0x3e80000000000000000000041] = true := by decide
/-- spec/16: a core's release passes the vise to the first waiter, a cell's claim. -/
theorem test_vise : ∃ t, exec (.viseReleaseWrite 0xc005 7 0x1c005) { vises := { vises :=
      [(7, { inst := some 37, owner := 0xc005, waiters := [(0x1541, 2), (0x8025, 1), (0xc002, 1)] })] } } = .next t ∧
    (t.vise 7).owner = 0x1541 ∧ (t.vise 7).waiters = [(0x8025, 1), (0xc002, 1)] := ⟨_, rfl, by decide⟩
/-- spec/18: the policy word of the example is taken for detector 336. -/
theorem test_policy : ∃ t, exec (.quenchPolicy side 336 0x000003e800040091) (queued 0x0903 .transit) = .next t ∧
    tget t.quench.policy 336 = some 0x000003e800040091 := ⟨_, rfl, by decide +kernel⟩
/-- spec/20: of two mains inputs the first lost leaves the other; when both are lost the hold-up store carries the module. -/
theorem test_mains : ∃ t u, exec (.mainsInputLost false) { power := { inA := true, inB := true } } = .next t ∧ t.power.holdup = false ∧
    exec (.mainsInputLost true) t = .next u ∧ u.power.holdup = true := ⟨_, _, rfl, by decide, rfl, by decide⟩
/-- spec/21: RESET_N rises into Hearth boot, which is where State.reset is; with the rails bad the module stays in Standby. -/
theorem test_resetN : State.reset.hearth.mode = .hearthBoot ∧ ∃ t, exec (.resetNHigh false) { hearth := { mode := .standby }, power :=
    { resetN := false, railsOk := false } } = .next t ∧ t.hearth.mode = .standby := ⟨rfl, _, rfl, by decide⟩
/-- The queue is empty after reset: a step advances Machine Time by a cycle, 64 ticks (assumption log 2). -/
theorem test_idle : ∃ t, step State.reset = .next t ∧ t.time.now = 64 := ⟨_, rfl, by decide⟩

/-! ### No word spells a command -/

theorem test_noWord (nbits w : Nat) : decodeTableWord nbits w = none ∧ ∀ s : State, s.withFetchWord nbits w = s := ⟨rfl, fun _ => rfl⟩

/-! ### Ill-formed commands -/

/-- A packet whose header counts more than it carries; a frame without its message. -/
def badPkt : Packet := { payloadLen := 1 }
def badFrame : RxFrame := { message := [], errors := [], laneErrs := [] }
/-- A Fleso command from F63's place among the fabric ports, which does not exist. -/
theorem test_wf_calls : (let c : Call := { via := .fabric 63 0, seq := 0, malformed := none }
    let a : DrawLoadArgs := { channel := 0, priority := 0, replace := false, progSpace := false, baseSpace := 0, bases := [], addr := 0, length := 0 }
    [
    .identify c, .regRead c 0 0 0 0, .regWrite c 0 0 0 0 0, .stageOpen c 0, .stageWrite c 0 0 [], .stageClose c 0, .modeRequest c 0,
    .reportRead c 0 0, .machineIdentity c 0 0 0 0 0 0, .portReassign c 0, .routeLoad c 0 false (ref0 0), .routeSwap c 0 0 false, .routeCfg c 0 0,
    .treeWrite c 0 0, .flowCfg c none 0 0 0, .sampling c [] 0 false 0, .holeSet c 0 0 false, .timeSet c 0, .timeCfg c 0, .timePort c 0 0,
    .strokeLoad c 0 (ref0 0), .strokeSwap c 0 false, .strokeAdmit c (ref0 0), .strokeEnable c false, .instCreate c 0 none [] [] 0 0,
    .instBind c 0 none 0, .instGrant c 0 [], .instReset c 0, .instReopen c 0, .instQuery c 0, .instDestroy c 0, .instQuiesce c 0, .instExport c 0,
    .instImport c 0 (ref0 0), .dirtyLog c 0 0 0 0 0 false, .dirtyFlush c 0, .segmentExpose c 0 0, .hostCfg c 0 0, .shaping c 0 0 0,
    .wqCreate c none none 0 0 0 0, .cqCreate c none none 0 0 0 0 false, .wqRestart c 0 false, .cqRestart c 0, .queueStatus c false 0 0,
    .queueDestroy c false 0, .cqSignal c 0 false 0, .ctxCreate c none 0 0 0 none 0 0 0 0 0, .ctxDestroy c none 0, .matchCfg c 0 none,
    .windowWrite c none 0 0, .tallyAlloc c none none false none 0 none, .tallyArm c none 0 0, .tallyRead c none 0, .tallyFree c none 0,
    .remoteCfg c 0, .groupCreate c 0 0 0 0 0 0 none 0 false, .groupDestroy c 0, .collCfg c 0, .placeHint c (.drainCell 0), .placeLog c false 0,
    .placeSummary c, .strikerCfg c 0, .transDomain c 0 0 0, .transInval c 0 false [], .transLock c 0 0 0 false, .transUnlock c 0 0 0,
    .deviceRange c 0 0 0 0, .faultLog c 0 0 0, .drawChannel c none none 0 false, .drawLoad c a none 0, .drawStop c 0, .viseClaim c 0,
    .viseRelease c 0, .quenchRead c, .quenchClear c 0 [], .quenchPolicy c 0 0, .inject c 0 0, .counterSelect c 0 0 0, .counterRead c 0 0,
    .rolemapLoad c (ref0 0), .fwStage c (ref0 0), .fwActivate c false] : List Instr).all (!·.wf) = true := by decide +kernel
/-- A function that does not exist. -/
theorem test_wf_functions : (let fn : Fn := { port := 0, vf := some 256 }
    let r : ReqHdr := { opcode := 0, argLen := 0, seq := 0, target := 0, forward := false, reserved := 0 }
    [
    .registerWriteUndefined fn 0, .wqDoorbell fn 0 0 0 false, .cqDoorbell fn 0 0 0 false, .mboxSubmit fn 0 0 false r, .mboxRelease fn 0 0 false,
    .mboxWithdraw fn 0 0 false, .evHeadWrite fn 0, .msixUnmask fn 0] : List Instr).all (!·.wf) = true := by decide +kernel
/-- A packet or a frame of the wrong length. -/
theorem test_wf_packets : (let p := badPkt; let f := badFrame
    [
    .mgmtCmd 0 p, .mgmtResp 0 p, .e2eAck 0 p, .timeAnnounce 0 p, .msgEager p .failed, .msgRts p, .putPacket p .failed, .getReq p .failed,
    .getResp p .failed, .atomicReq p 0 false .failed, .atomicResp p .failed, .response p, .fault p, .collData p .failed, .collInstall p, .collSwitch p,
    .collStall p, .collProbe p, .collProbeAnswer p, .collRestart p, .collFinalQuery p, .collFinalAnswer p, .collAbort p, .collDone p, .collClose p,
    .collDestroy p, .fecFrameReceive 0 f] : List Instr).all (!·.wf) = true := by decide +kernel
/-- A number beyond what the part has; a list of the wrong length. -/
theorem test_wf_numbers : (let b : TrainBlock := block 0
    let f : RxFrame := { badFrame with message := List.replicate 2570 0 }
    [
    .mgmtCmd 64 {}, .mgmtResp 64 {}, .fecFrameReceive 64 f, .freewheelBlock 64 [], .trainingBlock 64 0 b, .trainingBlock 0 8 b, .laneLockLoss 64 0,
    .laneLockLoss 0 8, .trainingPhaseTimeout 64, .trainingBackoffExpiry 64, .rateStepSwitch 64, .rateQualifyEnd 64 false false [],
    .rateQualifyEnd 0 false false (List.replicate 9 0), .eyeScanComplete 64 0 0 0, .eyeScanComplete 0 8 0 0, .marginCriticalExpiry 64 0,
    .marginCriticalExpiry 0 8, .shodSet 64, .soleUseClear 64, .shoeRequestSend 64, .shoeBeginFrame 64, .shoeStepRelock 64 0 0, .shoeStepTimeout 64,
    .shoeWaitExpiry 64, .shoeRetryTimer 64, .idleRunStart 64, .widthRestore 64, .replayTimeout 64 0, .creditDecay 64, .timeExchangeSend 64,
    .tc3ChunkReportSend 64, .helloSend 64, .exchangeIntervalEnd 64, .portEgressDecision 64, .e2eAck 64 {}, .timeAnnounce 64 {},
    .cxlLinkUp 4 0 0 false false, .cxlConfigRequest 4 none .pbrOrLd, .cxlConfigRequest 0 (some 256) .pbrOrLd, .h2dSnoop 4 0, .cxlMemRead 4 false false 0,
    .cxlMemWrite 4 false false 0 (List.replicate 64 0), .cxlMemWrite 0 false false 0 [], .birsp 4 0, .biTimeout 4, .d2hTimeout 4 (.walk 0) false,
    .hostLinkDown 4, .hotReset 4, .ideFailure 4, .bmeClear 4 false, .portPresent 4, .flrVf 4 0, .flrVf 0 256, .flrPf 4, .perstN 4 false,
    .hrefclkLoss 4, .gpfPhase1 4, .gpfPhase2 4, .descriptorFetch 16384, .descriptorReadComplete 16384 .failed, .nop 16384, .put 16384, .get 16384,
    .atomic 16384, .msgSend 16384, .msgRecv 16384 .failed, .msgCancel 16384, .collective 16384, .drawRun 16384, .tallyAdd 16384,
    .recordWriteComplete 16384, .writeBackWord false 16384, .tallyMirrorWrite 1048576 .failed, .collStartAt 0 0 1024 0 .failed,
    .collReleaseAt 0 0 1024 0 .failed, .migrationCommit 65536 false, .demotionCommit 65536, .tallyMoveCommit 1048576, .cellSelfTestEnd 4096 false,
    .instanceResetEnd 1024, .instanceResetTimeout 1024 0, .epochSweepEnd 1024, .instanceQuiesceComplete 1024, .drawSetCommit 256 .failed,
    .move 256 false .failed, .loop 256, .wait 256, .signal 256, .endProg 256, .drawWaitInstant 256 0, .drawWaitTimeout 256 0,
    .viseClaimWrite 0 4096 0, .viseReleaseWrite 0 4096 0, .detectorEvent [{ source := 1408 }], .railFault 1408, .quenchWindowEnd 1408 0,
    .injectionFire 16 0 false, .hsSampleTrigger 8 0 0 false false 0 0, .selfTestPass [4096] [] [] none, .selfTestPass [] [256] [] none,
    .selfTestPass [] [] [64] none, .sensorSample 0 0 0 0 0 [], .cablePresentChange 64 false 0, .cableOverdraw 64,
    .doeSpdmRequest 4 (.measurement 0), .hrefclkReturn 4, .cxlLinkTrainingFailed 4 false, .clockRecoveryPhaseMove 64 0 false 0,
    .clockRecoveryPhaseMove 0 8 false 0, .substitutionCopyComplete 4096 [] [] [], .payloadReadReturn 4 (.walk 0) .failed] : List Instr).all (!·.wf) = true := by decide +kernel
/-- Arrival points and functions that do not exist; a symbol beyond a frame's, and one named twice. -/
theorem test_wf_parts :
    ([.mailbox pf0 30, .mailbox { port := 0, vf := some 0 } 4, .mailbox { port := 0, vf := some 256 } 0, .fabric 63 0] : List Arrival).all (!·.ok) = true ∧
    (let f : RxFrame := { badFrame with message := List.replicate 2570 0 }
    [{ f with errors := [(2176, 1)] }, { f with errors := [(5, 1), (5, 2)] }, { f with errors := [(5, 0)] }] : List RxFrame).all (!·.ok) = true := by decide +kernel
/-- Commands within bounds are well formed. -/
theorem test_wf_good : ([.identify dbg, .wqDoorbell { port := 3, vf := some 255 } 0 0 0 true, .laneLockLoss 63 7, .portPresent 3, .putPacket (pkt0 1) .ok,
    .put 16383, .loop 255, .railFault 1407, .migrationCommit 65535 true, .tallyMoveCommit 1048575] : List Instr).all (·.wf) = true := by decide +kernel

/-! ### Witnesses: each clause of a statement, in its order -/

theorem witness_HostWritesComplete :
    (∃ (fn : Fn) (offset : BitVec 32), rowOfWrite fn offset.toNat = false) ∧
    (∃ (fn : Fn) (offset : BitVec 32), rowOfWrite fn offset.toNat = true) ∧
    (∃ (s : State) (fn : Fn) (queue : BitVec 14) (index : BitVec 32) (w : Wq), s.wq queue.toNat = some w ∧ s.quench.halted = false ∧ w.owner = fn ∧
      w.state ≠ .disabled ∧ w.state ≠ .fenced ∧ (w.tail - w.head).toNat ≤ (index - w.head).toNat ∧ (index - w.head).toNat ≤ ringSize w.sizeCode) ∧
    (∃ (s : State) (fn : Fn) (ring : BitVec 14) (index : BitVec 32) (c : Cq), s.cq ring.toNat = some c ∧ s.quench.halted = false ∧ c.owner = fn ∧
      c.state ≠ .disabled ∧ (index - c.head).toNat ≤ (c.tail - c.head).toNat) ∧
    (∃ (s : State) (fn : Fn) (slot : Nat) (value : Word), slot < slotsOf fn ∧ bits value 4 2 = 1 ∧ (s.slot fn slot).state = .free) ∧
    (∃ (s : State) (fn : Fn) (slot : Nat) (value : Word), slot < slotsOf fn ∧ bits value 4 2 = 2 ∧ (s.slot fn slot).state = .done) ∧
    (∃ (s : State) (fn : Fn) (slot : Nat) (value : Word), slot < slotsOf fn ∧ bits value 4 2 = 4 ∧ (s.slot fn slot).state = .submitted) ∧
    (∃ (s : State) (fn : Fn) (head : BitVec 32), (head - (s.mbox fn).evHead).toNat ≤ ((s.mbox fn).evTail - (s.mbox fn).evHead).toNat) :=
  ⟨⟨{ port := 0, vf := some 255 }, 0xffff, (by decide +kernel)⟩,
   ⟨pf0, 0x200fff, (by decide +kernel)⟩,
   ⟨{ wqs := [(16383, { wq0 with head := 0xffffffff, tail := 1, sizeCode := 14 })] }, pf0, 16383, 0x3fff, _, rfl, (by decide +kernel),
     (by decide +kernel), (by decide +kernel), (by decide +kernel), (by decide +kernel), (by decide +kernel)⟩,
   ⟨{ cqs := [(5, { cq0 with head := 0xffffffff, tail := 3 })] }, pf0, 5, 3, _, rfl, (by decide +kernel), (by decide +kernel), (by decide +kernel),
     (by decide +kernel)⟩,
   ⟨{}, { port := 3, vf := some 255 }, 3, 4, (by decide +kernel), (by decide +kernel), (by decide +kernel)⟩,
   ⟨{ hearth := { mboxes := [(0, { slots := [(29, { state := .done })] })] } }, pf0, 29, 8, (by decide +kernel), (by decide +kernel),
     (by decide +kernel)⟩,
   ⟨{ hearth := { mboxes := [(0, { slots := [(29, { state := .submitted })] })] } }, pf0, 29, 16, (by decide +kernel), (by decide +kernel),
     (by decide +kernel)⟩,
   ⟨{ hearth := { mboxes := [(0, { evTail := 2, evHead := 0xffffffff })] } }, pf0, 2, (by decide +kernel)⟩⟩

theorem witness_RingEngineCompletes :
    (∃ (s : State) (q : Nat) (w : Wq) (c : Cq), s.wq q = some w ∧ s.cq w.cq.toNat = some c ∧ w.state = .running ∧ w.destroying = false ∧ w.reading =
      none ∧ w.occ ≠ 0 ∧ w.fetched.length < Config.fetchedMax ∧ s.opsInFlight < Config.opsInFlightMax ∧ (s.port w.owner.port).present = true ∧
      (s.port w.owner.port).readsOut < Config.d2hReads ∧ s.fetchMode = true ∧ c.mayFetch = true) ∧
    (∃ (s : State) (q : Nat) (w : Wq) (i : BitVec 32) (bs : List Byte), s.wq q = some w ∧ w.reading = some i ∧ malformedCommon (lineOf bs) = none) ∧
    (∃ (s : State) (q : Nat) (w : Wq) (f : Fetched), s.startable q 0 = some (w, f)) ∧
    (∃ (s : State) (ring : Nat) (c : Cq) (r : Rec) (rs : List Rec), s.cq ring = some c ∧ c.writing = r :: rs) ∧
    (∃ (s : State) (ring : Nat) (c : Cq), s.cq ring = some c ∧ c.wbDirty = true ∧ s.canWrite c.owner.port = true) ∧
    (∃ (s : State) (q : Nat) (w : Wq), s.wq q = some w ∧ w.wbDirty = true ∧ s.canWrite w.owner.port = true) :=
  ⟨⟨{ wqs := [(3, { wq0 with tail := 1 })], cqs := [(0, cq0)], ports := [(0, hostUp)], hearth := { mode := .transit } }, 3, _, _, rfl, rfl,
     (by decide +kernel), (by decide +kernel), (by decide +kernel), (by decide +kernel), (by decide +kernel), (by decide +kernel),
     (by decide +kernel), (by decide +kernel), (by decide +kernel), (by decide +kernel)⟩,
   ⟨{ wqs := [(3, { wq0 with tail := 1, reading := some 0 })] }, 3, _, _, List.replicate 64 0, rfl, rfl, (by decide +kernel)⟩,
   ⟨startable0 0, 3, { wq0 with fetched := [{ index := 5, line := 0 }], open_ := [5] }, { index := 5, line := 0 }, (by decide +kernel)⟩,
   ⟨{ cqs := [(0, { cq0 with writing := [{}] })] }, 0, _, _, _, rfl, rfl⟩,
   ⟨{ cqs := [(0, { cq0 with wbDirty := true })], ports := [(0, hostUp)] }, 0, _, rfl, (by decide +kernel), (by decide +kernel)⟩,
   ⟨{ wqs := [(3, { wq0 with wbDirty := true })], ports := [(0, hostUp)] }, 3, _, rfl, (by decide +kernel), (by decide +kernel)⟩⟩

theorem witness_QueueCommandsComplete :
    (∃ (s : State) (c : Call) (inst queue : Option Nat) (q size : Nat) (base wb : Word) (ring : Nat) (h : Option Nat) (owner : Fn) (r : Cq),
      s.holder (s.authOf c.via) inst = some h ∧ s.creator c inst = some owner ∧ size ≤ 14 ∧ misaligned base wb = none ∧ s.cq ring = some r ∧
      s.reachesObj (s.authOf c.via) c r.owner r.inst = true ∧ r.owner = owner ∧ (∀ e ∈ s.matching.ctxs, e.2.notify ≠ some (BitVec.ofNat 14 ring)) ∧
      (∀ i, h = some i → s.wqsOf i < s.grant i 0) ∧ (queue = some q ∧ q < Config.queueCount ∨ queue = none ∧ freeKey s.wqs Config.queueCount = some
      q) ∧ s.wq q = none ∧ ∃ code may, s.Executes (.wqCreate c inst queue size base wb ring) c code may) ∧
    (∃ (s : State) (c : Call) (inst ring : Option Nat) (q size : Nat) (base wb : Word) (vector : Nat) (irq : Bool) (h : Option Nat) (owner : Fn),
      s.holder (s.authOf c.via) inst = some h ∧ s.creator c inst = some owner ∧ size ≤ 14 ∧ 2 ≤ vector ∧ vector < 2048 ∧ misaligned base wb = none ∧
      (∀ i, h = some i → s.cqsOf i < s.grant i 1) ∧ (ring = some q ∧ q < Config.queueCount ∨ ring = none ∧ freeKey s.cqs Config.queueCount = some q)
      ∧ s.cq q = none ∧ ∃ code may, s.Executes (.cqCreate c inst ring size base wb vector irq) c code may) ∧
    (∃ (s : State) (c : Call) (q : Nat) (w : Wq), s.wq q = some w ∧ s.reachesObj (s.authOf c.via) c w.owner w.instOf = true ∧ w.state = .error ∧ ∃
      code may, s.Executes (.wqRestart c q false) c code may) ∧
    (∃ (s : State) (c : Call) (q : Nat) (w : Wq), s.wq q = some w ∧ s.reachesObj (s.authOf c.via) c w.owner w.instOf = true ∧ w.state = .error ∧
      w.destroying = false ∧ ∃ code may, s.Executes (.wqRestart c q true) c code may) ∧
    (∃ (s : State) (c : Call) (ring : Nat) (r : Cq), s.cq ring = some r ∧ s.reachesObj (s.authOf c.via) c r.owner r.inst = true ∧ r.state = .error ∧
      ∃ code may, s.Executes (.cqRestart c ring) c code may) ∧
    (∃ (s : State) (c : Call) (ring : Nat) (clear : Word) (r : Cq), s.cq ring = some r ∧ s.reachesObj (s.authOf c.via) c r.owner r.inst = true ∧
      clear &&& 0xfffffffffffffffb#64 = 0 ∧ ∃ code may, s.Executes (.queueStatus c true ring clear) c code may) ∧
    (∃ (s : State) (c : Call) (q : Nat) (clear : Word) (w : Wq), s.wq q = some w ∧ s.reachesObj (s.authOf c.via) c w.owner w.instOf = true ∧ clear
      &&& 0xfffffffffffffff3#64 = 0 ∧ ∃ code may, s.Executes (.queueStatus c false q clear) c code may) ∧
    (∃ (s : State) (c : Call) (ring : Nat) (r : Cq), s.cq ring = some r ∧ s.reachesObj (s.authOf c.via) c r.owner r.inst = true ∧ (∀ e ∈ s.wqs,
      e.2.cq.toNat ≠ ring) ∧ ∃ code may, s.Executes (.queueDestroy c true ring) c code may) ∧
    (∃ (s : State) (c : Call) (q : Nat) (w : Wq), s.wq q = some w ∧ s.reachesObj (s.authOf c.via) c w.owner w.instOf = true ∧ w.destroying = false ∧
      ∃ code may, s.Executes (.queueDestroy c false q) c code may) ∧
    (∃ (s : State) (c : Call) (ring : Nat) (irq : Bool) (vector : Nat) (r : Cq), s.cq ring = some r ∧ s.reachesObj (s.authOf c.via) c r.owner r.inst
      = true ∧ 2 ≤ vector ∧ vector < 2048 ∧ ∃ code may, s.Executes (.cqSignal c ring irq vector) c code may) :=
  ⟨⟨{ diag with cqs := [(9, { cq0 with inst := some 0 })], insts := [(0, inst0)] }, dbg, some 0, none, 0, 14, 0x1000, 8, 9, some 0, _, _,
     (by decide +kernel), rfl, (by decide +kernel), (by decide +kernel), rfl, (by decide +kernel), rfl, (by decide +kernel),
     (by rintro i ⟨⟩; decide), (by decide +kernel), (by decide +kernel), executes rfl (by decide +kernel)⟩,
   ⟨{ diag with insts := [(0, inst0)] }, dbg, some 0, some 16383, 16383, 14, 0x1000, 8, 2047, true, some 0, _, (by decide +kernel), rfl,
     (by decide +kernel), (by decide +kernel), (by decide +kernel), (by decide +kernel), (by rintro i ⟨⟩; decide), (by decide +kernel),
     (by decide +kernel), executes rfl (by decide +kernel)⟩,
   ⟨{ diag with wqs := [(3, { wq0 with state := .error, errorCause := 2 })] }, dbg, 3, _, rfl, (by decide +kernel), (by decide +kernel), executes
     rfl (by decide +kernel)⟩,
   ⟨{ diag with wqs := [(3, { wq0 with state := .error, errorCause := 2, tail := 4 })] }, dbg, 3, _, rfl, (by decide +kernel), (by decide +kernel),
     (by decide +kernel), executes rfl (by decide +kernel)⟩,
   ⟨{ diag with cqs := [(3, { cq0 with state := .error })] }, dbg, 3, _, rfl, (by decide +kernel), (by decide +kernel), executes rfl
     (by decide +kernel)⟩,
   ⟨{ diag with cqs := [(3, { cq0 with headStale := true })] }, dbg, 3, 4, _, rfl, (by decide +kernel), (by decide +kernel), executes rfl
     (by decide +kernel)⟩,
   ⟨{ diag with wqs := [(3, { wq0 with overrun := true, stale := true })] }, dbg, 3, 12, _, rfl, (by decide +kernel), (by decide +kernel), executes
     rfl (by decide +kernel)⟩,
   ⟨{ diag with cqs := [(3, cq0)], wqs := [(3, wq0)] }, dbg, 3, _, rfl, (by decide +kernel), (by decide +kernel), executes rfl (by decide +kernel)⟩,
   ⟨{ diag with wqs := [(3, { wq0 with open_ := [0], head := 1, tail := 1 })] }, dbg, 3, _, rfl, (by decide +kernel), (by decide +kernel), executes
     rfl (by decide +kernel)⟩,
   ⟨{ diag with cqs := [(3, cq0)] }, dbg, 3, true, 2047, _, rfl, (by decide +kernel), (by decide +kernel), (by decide +kernel), executes rfl
     (by decide +kernel)⟩⟩

theorem witness_TranslationCommandsComplete :
    (∃ (s : State) (c : Call) (domain : Nat) (format root : Word), domain < 1028 ∧ s.reachesDomain (s.authOf c.via) domain = true ∧ (domain < 1024 →
      (s.inst domain).state ≠ .free) ∧ 3 ≤ fLevels format ∧ fLevels format ≤ 5 ∧ bits format 63 53 = 0 ∧ bits root 11 0 = 0 ∧ bits root 63 52 = 0 ∧
      ∃ code may, s.Executes (.transDomain c domain format root) c code may) ∧
    (∃ (s : State) (c : Call) (domain : Nat) (whole : Bool) (ranges : List (Word × Nat)), domain < 1028 ∧ s.reachesDomain (s.authOf c.via) domain =
      true ∧ (whole = false → ranges ≠ [] ∧ ranges.length ≤ 16 ∧ ∀ r ∈ ranges, r.2 ≠ 0 ∧ r.2 ≤ 2 ^ 36) ∧ ∃ code may, s.Executes (.transInval c
      domain whole ranges) c code may) ∧
    (∃ (s : State) (c : Call) (domain : Nat) (va : Word) (pages : Nat) (write : Bool), domain < 1028 ∧ s.reachesDomain (s.authOf c.via) domain =
      true ∧ 1 ≤ pages ∧ pages ≤ 256 ∧ fEnabled (s.format domain) = true ∧ vaOk (s.format domain) va = true ∧ (∀ pa, s.inDevice (s.domainPort
      domain) pa 8 = false) ∧ ∃ code may, s.Executes (.transLock c domain va pages write) c code may) ∧
    (∃ (s : State) (c : Call) (domain : Nat) (va : Word) (pages : Nat), domain < 1028 ∧ s.reachesDomain (s.authOf c.via) domain = true ∧ 1 ≤ pages ∧
      pages ≤ 256 ∧ ∃ code may, s.Executes (.transUnlock c domain va pages) c code may) ∧
    (∃ (s : State) (c : Call) (port index : Nat) (base : Word) (pages : Nat), port < 4 ∧ ((s.authOf c.via).isM = true ∨ s.authOf c.via = .host port)
      ∧ index < 64 ∧ base.toNat % 4096 = 0 ∧ ∃ code may, s.Executes (.deviceRange c port index base pages) c code may) ∧
    (∃ (s : State) (c : Call) (domain : Nat) (base : Word) (k : Nat), domain < 1028 ∧ s.reachesDomain (s.authOf c.via) domain = true ∧ base.toNat %
      4096 = 0 ∧ k ≤ 10 ∧ ∃ code may, s.Executes (.faultLog c domain base (2 ^ (6 + k))) c code may) ∧
    (∃ (s : State) (id : Nat) (v : Inval), (s.trans.invals.find? (fun v => v.id == id) = some v) ∧ (∀ x ∈ s.trans.invals, x.domain = v.domain → id ≤
      x.id) ∧ (∀ j ∈ s.trans.locks, j.inval ≠ some id) ∧ (∀ t ∈ v.reads, s.reading (s.domainPort v.domain) t = false)) :=
  ⟨⟨{ diag with insts := [(1023, { inst0 with state := .held })] }, dbg, 1023, fmt4, 0xffffffffff000, (by decide +kernel), (by decide +kernel),
     (by decide +kernel), (by decide +kernel), (by decide +kernel), (by decide +kernel), (by decide +kernel), (by decide +kernel), executes rfl
     (by decide +kernel)⟩,
     ⟨{ diag with
        trans := { tlb := [{ quad := 0, domain := 1027, va := 0x1000, size := 0, frame := 0, writeOk := true, dirtySeen := false, locked := true }] } },
     dbg, 1027, false, [(0x1000, 2 ^ 36)], (by decide +kernel), (by decide +kernel), (by decide +kernel), executes rfl (by decide +kernel)⟩,
   ⟨{ diag with trans := { formats := [(1027, fmt4)] } }, dbg, 1027, 0x1000, 256, true, (by decide +kernel), (by decide +kernel),
     (by decide +kernel), (by decide +kernel), (by decide +kernel), (by decide +kernel), (fun _ => rfl), executes rfl (by decide +kernel)⟩,
   ⟨diag, dbg, 1027, 0x1fff, 256, (by decide +kernel), (by decide +kernel), (by decide +kernel), (by decide +kernel), executes rfl
     (by decide +kernel)⟩,
   ⟨diag, dbg, 3, 63, 0x1000, 1, (by decide +kernel), (by decide +kernel), (by decide +kernel), (by decide +kernel), executes rfl
     (by decide +kernel)⟩,
   ⟨diag, dbg, 1027, 0x1000, 10, (by decide +kernel), (by decide +kernel), (by decide +kernel), (by decide +kernel), executes rfl
     (by decide +kernel)⟩,
   ⟨{ trans := { invals := [{ id := 4, domain := 2, call := dbg, reads := [.walk 3] }] } }, 4, _, rfl, (by decide +kernel), (by decide +kernel),
     (by decide +kernel)⟩⟩

theorem witness_PageWalksComplete :
    (∃ (s : State) (id : Nat) (w : Walk) (bs : List Byte), (s.trans.active.find? (fun w => w.id == id && w.entry.isNone && s.reading (s.domainPort
      w.domain) (.walk id)) = some w) ∧ w.lock = none ∧ w.gen = s.invGen w.quad ∧ fEnabled (s.format w.domain) = true ∧ entryFault (s.format
      w.domain) (BitVec.ofNat 64 (leAt bs 0 8)) w.access = none ∧ isLeaf (s.format w.domain) (BitVec.ofNat 64 (leAt bs 0 8)) w.level = true ∧
      s.leafFault w (s.format w.domain) (BitVec.ofNat 64 (leAt bs 0 8)) = none ∧ neededBits (s.format w.domain) (BitVec.ofNat 64 (leAt bs 0 8)) true
      w.access = 0) ∧
    (∃ (s : State) (id : Nat) (w : Walk) (bs : List Byte) (j : LockJob) (c : Call) (e : TlbEntry), (s.trans.active.find? (fun w => w.id == id &&
      w.entry.isNone && s.reading (s.domainPort w.domain) (.walk id)) = some w) ∧ w.lock = some j.id ∧ (s.trans.locks.find? (fun x => x.id == j.id)
      = some j) ∧ j.left = 1 ∧ j.call = some c ∧ w.gen = s.invGen w.quad ∧ fEnabled (s.format w.domain) = true ∧ entryFault (s.format w.domain)
      (BitVec.ofNat 64 (leAt bs 0 8)) w.access = none ∧ isLeaf (s.format w.domain) (BitVec.ofNat 64 (leAt bs 0 8)) w.level = true ∧ s.leafFault w
      (s.format w.domain) (BitVec.ofNat 64 (leAt bs 0 8)) = none ∧ neededBits (s.format w.domain) (BitVec.ofNat 64 (leAt bs 0 8)) true w.access = 0
      ∧ w.entryOf (s.format w.domain) (BitVec.ofNat 64 (leAt bs 0 8)) = e ∧ s.lockRefused j.domain (j.found ++ [(e.va, e.frame, e.size)]) = none) ∧
    (∃ (s : State) (id : Nat) (w : Walk) (e : Word) (line : Line), (s.trans.active.find? (fun w => w.id == id && w.entry.isSome) = some w) ∧ w.entry
      = some e ∧ w.owned = false ∧ s.reading (s.domainPort w.domain) (.adLine id) = true ∧ fEnabled (s.format w.domain) = true ∧ lineEntry line
      ((w.pa + 8 * vaIndex w.va w.level) % 64 / 8) = e) ∧
    (∃ (s : State) (id : Nat) (w : Walk) (e : Word) (d : Line), (s.trans.active.find? (fun w => w.id == id && w.entry.isSome) = some w) ∧ w.entry =
      some e ∧ w.owned = true ∧ w.lock = none ∧ w.gen = s.invGen w.quad ∧ fEnabled (s.format w.domain) = true ∧ isLeaf (s.format w.domain) e w.level
      = true ∧ tget (s.port (s.domainPort w.domain)).cache ((w.pa + 8 * vaIndex w.va w.level) / 64) = some d) :=
  ⟨⟨{ trans := { formats := [(1024, fmt4)], active := [{ id := 0, quad := 3, domain := 1024, va := 0x1000, access := 1, gen := 0, pa := 0x2000, level := 1 }] },
        ports := [(0, { hostUp with d2h := [{ tag := .walk 0, reads := [] }] })] }, 0,
     { id := 0, quad := 3, domain := 1024, va := 0x1000, access := 1, gen := 0, pa := 0x2000, level := 1 }, [0x63, 0x50, 0, 0, 0, 0, 0, 0],
     (by decide +kernel), (by decide +kernel), (by decide +kernel), (by decide +kernel), (by decide +kernel), (by decide +kernel),
     (by decide +kernel), (by decide +kernel)⟩,
     ⟨{ trans := { formats := [(1024, fmt4)], active := [{ id := 0, quad := 3, domain := 1024, va := 0x1000, access := 1, gen := 0, pa := 0x2000, level := 1, lock := some 4 }], locks := [{ id := 4, domain := 1024, write := true, next := 0x1000, call := some dbg }] },
        ports := [(0, { hostUp with d2h := [{ tag := .walk 0, reads := [] }] })] }, 0,
     { id := 0, quad := 3, domain := 1024, va := 0x1000, access := 1, gen := 0, pa := 0x2000, level := 1, lock := some 4 }, [0x63, 0x50, 0, 0, 0, 0,
     0, 0], { id := 4, domain := 1024, write := true, next := 0x1000, call := some dbg }, dbg,
     ({ id := 0, quad := 3, domain := 1024, va := 0x1000, access := 1, gen := 0, pa := 0x2000, level := 1 } : Walk).entryOf fmt4 0x5063,
     (by decide +kernel), (by decide +kernel), (by decide +kernel), (by decide +kernel), (by decide +kernel), (by decide +kernel),
     (by decide +kernel), (by decide +kernel), (by decide +kernel), (by decide +kernel), (by decide +kernel), rfl, (lock_fits _ rfl (by decide))⟩,
     ⟨{ trans := { formats := [(1024, fmt4)], active := [{ id := 0, quad := 3, domain := 1024, va := 0x1000, access := 1, gen := 0, pa := 0x2000, level := 1, entry := some 0x5003 }] },
        ports := [(0, { hostUp with d2h := [{ tag := .adLine 0, own := true, reads := [] }] })] }, 0,
     { id := 0, quad := 3, domain := 1024, va := 0x1000, access := 1, gen := 0, pa := 0x2000, level := 1, entry := some 0x5003 }, 0x5003, 0x5003 <<<
     64, (by decide +kernel), (by decide +kernel), (by decide +kernel), (by decide +kernel), (by decide +kernel), (by decide +kernel)⟩,
     ⟨{ trans := { formats := [(1024, fmt4)], active := [{ id := 0, quad := 3, domain := 1024, va := 0x1000, access := 1, gen := 0, pa := 0x2000, level := 1, entry := some 0x5063, owned := true }] },
        ports := [(0, { hostUp with cache := [(128, 0x5063 <<< 64)] })] }, 0,
     { id := 0, quad := 3, domain := 1024, va := 0x1000, access := 1, gen := 0, pa := 0x2000, level := 1, entry := some 0x5063, owned := true },
     0x5063, 0x5063 <<< 64, (by decide +kernel), (by decide +kernel), (by decide +kernel), (by decide +kernel), (by decide +kernel),
     (by decide +kernel), (by decide +kernel), (by decide +kernel)⟩⟩

theorem witness_RemoteOperationsStart :
    (∃ (s : State) (q op : Nat) (kind : OpKind) (c : Instr) (w : Wq) (f : Fetched) (i : Nat), (c = .put q ∧ op = 1 ∧ kind = .put ∨ c = .get q ∧ op =
      2 ∧ kind = .get ∨ c = .atomic q ∧ op = 3 ∧ kind = .atomic) ∧ s.startable q op = some (w, f) ∧ s.refusal w f.line = none ∧ w.instOf = some i) ∧
    (∃ (s : State) (q : Nat) (w : Wq) (f : Fetched) (i : Nat), s.startable q 9 = some (w, f) ∧ lf f.line 285 3 = 0 ∧ lf f.line 288 2 ≠ 3 ∧ lf f.line
      292 12 = 0 ∧ lf f.line 318 2 = 0 ∧ lf f.line 384 128 = 0 ∧ dLen f.line = 0 ∧ dAddr f.line = 0 ∧ dFrag f.line = false ∧ bit f.line 290 = false
      ∧ s.unreachable (BitVec.ofNat 29 (lf f.line 256 29)) false = false ∧ w.instOf = some i) ∧
    (∃ (s : State) (q : Nat) (w : Wq) (f : Fetched) (n : Nat), s.startable q 9 = some (w, f) ∧ lf f.line 285 3 = 0 ∧ lf f.line 288 2 ≠ 3 ∧ lf f.line
      292 12 = 0 ∧ lf f.line 318 2 = 0 ∧ lf f.line 384 128 = 0 ∧ dLen f.line = 0 ∧ dAddr f.line = 0 ∧ dFrag f.line = false ∧ bit f.line 290 = true ∧
      ((w.instOf.bind fun i => s.tallyNo i (lf f.line 304 14)) = some n) ∧ (s.tally n).moving = none) :=
  ⟨⟨startable0 (1), 3, 1, .put, .put 3, { wq0 with fetched := [{ index := 5, line := 1 }], open_ := [5] }, { index := 5, line := 1 }, 0,
     (by decide), (by decide +kernel), (by decide +kernel), (by decide +kernel)⟩,
   ⟨startable0 (9), 3, { wq0 with fetched := [{ index := 5, line := 9 }], open_ := [5] }, { index := 5, line := 9 }, 0, (by decide +kernel),
     (by decide +kernel), (by decide +kernel), (by decide +kernel), (by decide +kernel), (by decide +kernel), (by decide +kernel),
     (by decide +kernel), (by decide +kernel), (by decide +kernel), (by decide +kernel), (by decide +kernel)⟩,
   ⟨{ startable0 (9 ||| 1 <<< 290) with remote := { tallies := [(1048575, {})] } }, 3,
     { wq0 with fetched := [{ index := 5, line := 9 ||| 1 <<< 290 }], open_ := [5] }, { index := 5, line := 9 ||| 1 <<< 290 }, 1048575,
     (by decide +kernel), (by decide +kernel), (by decide +kernel), (by decide +kernel), (by decide +kernel), (by decide +kernel),
     (by decide +kernel), (by decide +kernel), (by decide +kernel), (by decide +kernel), (by decide +kernel), (by decide +kernel)⟩⟩

theorem witness_TallyCommandsComplete :
    (∃ (s : State) (c : Call) (inst slot : Option Nat) (countMode : Bool) (notify : Option Nat) (cookie : Word) (mirror : Option Word) (i n t : Nat)
      (r : Reply), s.forInst (s.authOf c.via) inst = (some i, r) ∧ (slot = some n ∧ n < 16384 ∨ slot = none ∧ (List.range ((s.tallySlots i).length +
      1)).find? (fun k => !(s.tallySlots i).contains k) = some n) ∧ n ∉ s.tallySlots i ∧ (∀ m, mirror = some m → m.toNat % 8 = 0) ∧ (∀ k, notify =
      some k → ∃ x, s.cq k = some x ∧ x.inst = some i) ∧ (∀ k, notify = some k → ∀ e ∈ s.matching.ctxs, e.2.notify ≠ some (BitVec.ofNat 14 k)) ∧
      s.talliesOf i < s.grant i 3 ∧ freeKey s.remote.tallies Config.tallyCount = some t ∧ ∃ code may, s.Executes (.tallyAlloc c inst slot countMode
      notify cookie mirror) c code may) ∧
    (∃ (s : State) (c : Call) (inst : Option Nat) (slot : Nat) (threshold : Word) (i n : Nat) (r : Reply), s.forInst (s.authOf c.via) inst = (some
      i, r) ∧ s.tallyNo i slot = some n ∧ ∃ code may, s.Executes (.tallyArm c inst slot threshold) c code may) ∧
    (∃ (s : State) (c : Call) (inst : Option Nat) (slot i n : Nat) (r : Reply), s.forInst (s.authOf c.via) inst = (some i, r) ∧ s.tallyNo i slot =
      some n ∧ ∃ code may, s.Executes (.tallyRead c inst slot) c code may) ∧
    (∃ (s : State) (c : Call) (inst : Option Nat) (slot i n : Nat) (r : Reply), s.forInst (s.authOf c.via) inst = (some i, r) ∧ s.tallyNo i slot =
      some n ∧ ∃ code may, s.Executes (.tallyFree c inst slot) c code may) ∧
    (∃ (s : State) (n : Nat), (s.tally n).allocated = true ∧ (s.tally n).mirrorValid = true ∧ (s.tally n).mirrorDirty = true ∧ s.canWrite (s.inst
      (s.tally n).inst.toNat).port.toNat = true) ∧
    (∃ (s : State) (c : Call) (word : Word), 1 ≤ bits word 13 0 ∧ bits word 13 0 ≤ 10000 ∧ bits word 27 14 ≤ 10000 ∧ 100 ≤ bits word 44 28 ∧ bits
      word 44 28 ≤ 100000 ∧ 1 ≤ bits word 48 45 ∧ 1 ≤ bits word 62 49 ∧ bits word 62 49 ≤ 10000 ∧ bit word 63 = false ∧ ∃ code may, s.Executes
      (.remoteCfg c word) c code may) :=
  ⟨⟨{ diag with insts := [(0, { inst0 with grants := [0, 0, 0, 2] })], remote := { tallies := [(0, { slot := 16383, value := 5 })] } }, dbg, some 0,
     some 0, true, none, 9, some 8, 0, 0, 1, _, rfl, (by decide +kernel), (by decide +kernel), (by rintro m ⟨⟩; decide), nofun, nofun,
     (by decide +kernel), (by decide +kernel), executes rfl (by decide +kernel)⟩,
   ⟨{ diag with insts := [(0, { inst0 with grants := [0, 0, 0, 2] })], remote := { tallies := [(0, { slot := 16383, value := 5 })] } }, dbg, some 0,
     16383, 5, 0, 0, _, rfl, (by decide +kernel), executes rfl (by decide +kernel)⟩,
   ⟨{ diag with insts := [(0, { inst0 with grants := [0, 0, 0, 2] })], remote := { tallies := [(0, { slot := 16383, value := 5 })] } }, dbg, some 0,
     16383, 0, 0, _, rfl, (by decide +kernel), executes rfl (by decide +kernel)⟩,
   ⟨{ diag with insts := [(0, { inst0 with grants := [0, 0, 0, 2] })], remote := { tallies := [(0, { slot := 16383, value := 5 })] } }, dbg, some 0,
     16383, 0, 0, _, rfl, (by decide +kernel), executes rfl (by decide +kernel)⟩,
   ⟨{ ports := [(0, hostUp)], remote := { tallies := [(0, { mirrorValid := true, mirrorDirty := true })] } }, 0, (by decide +kernel),
     (by decide +kernel), (by decide +kernel), (by decide +kernel)⟩,
   ⟨diag, dbg, 0x4e20386a09c42710, (by decide +kernel), (by decide +kernel), (by decide +kernel), (by decide +kernel), (by decide +kernel),
     (by decide +kernel), (by decide +kernel), (by decide +kernel), (by decide +kernel), executes rfl (by decide +kernel)⟩⟩

theorem witness_TargetOperationsComplete :
    (∃ (s : State) (p : Packet) (h : Nat), s.ejectHead p = some h ∧ p.pktType = 0x01 ∧ p.mcast = false ∧ s.awaitsSnoop p 115 p.payloadLen.toNat 1 =
      [] ∧ s.tomb p.src p.opTag = none ∧ s.refusedAt p = none ∧ (s.entryFor p).counts.received.contains p.pktIndex.toNat = false ∧ (s.entryFor
      p).counts.beyond p = false ∧ s.windowError p 115 (bits p.typeWord 47 0 + p.opOffset.toNat) p.payloadLen.toNat 1 = none ∧ sealOk p = true) ∧
    (∃ (s : State) (p : Packet) (h n : Nat), s.ejectHead p = some h ∧ p.pktType = 0x04 ∧ p.mcast = false ∧ s.tomb p.src p.opTag = none ∧ s.refusedAt
      p = none ∧ (s.entryFor p).counts.received.contains p.pktIndex.toNat = false ∧ sealOk p = true ∧ leAt p.payload 0 1 = 0x10 ∧ atomicPair 0x10
      (leAt p.payload 1 1) = true ∧ bit p.opExt 14 = true ∧ s.tallyNo (s.targetInst p) (bits p.opExt 13 0) = some n ∧ (s.tally n).moving = none) ∧
    (∃ (s : State) (p : Packet) (h : Nat), s.ejectHead p = some h ∧ p.pktType = 0x04 ∧ p.mcast = false ∧ s.tomb p.src p.opTag = none ∧ s.refusedAt p
      = none ∧ (s.entryFor p).counts.received.contains p.pktIndex.toNat = false ∧ sealOk p = true ∧ leAt p.payload 0 1 ≠ 0x10 ∧ atomicPair (leAt
      p.payload 0 1) (leAt p.payload 1 1) = true ∧ leAt p.payload 2 1 % 4 / 2 = 0 ∧ s.awaitsSnoop p 116 (atypeSize (leAt p.payload 1 1)) (max 1
      (atypeSize (leAt p.payload 1 1))) = [] ∧ s.windowError p 116 (bits p.typeWord 47 0) (atypeSize (leAt p.payload 1 1)) (max 1 (atypeSize (leAt
      p.payload 1 1))) = none ∧ bit (s.window (s.targetInst p) (bits p.typeWord 59 48)) 113 = false ∧ s.canWrite (s.inst (s.targetInst
      p)).port.toNat = true) ∧
    (∃ (s : State) (src : Endpoint) (tag : BitVec 32) (e : OpenOp), s.quench.halted = false ∧ s.openOp src tag = some e ∧ e.closed = true ∧ e.req =
      none ∧ (s.inst e.inst).epoch = e.epoch) ∧
    (∃ (s : State) (src : Endpoint) (tag : BitVec 32) (now : Ticks) (b : Tomb), s.tomb src tag = some b ∧ b.expires.toNat ≤ (s.advance
      now).time.now.toNat) ∧
    (∃ (s : State) (src : Endpoint) (tag : BitVec 32) (now : Ticks) (e : OpenOp), s.openOp src tag = some e ∧ e.closed = false ∧ ms
      s.remote.openExpireMs.toNat ≤ ((s.advance now).time.now - e.lastAt).toNat) ∧
    (∃ (s : State) (src : Endpoint) (tag : BitVec 32) (now : Ticks) (o : SrcOp), s.srcOp src tag = some o ∧ o.kind = .put ∧ o.mcast = true ∧ o.held
      = false ∧ o.npkts ≤ o.injected ∧ o.rereads = [] ∧ s.opQueued src tag = false ∧ s.srcStale o = false ∧ s.settle_ ≤ ((s.advance now).time.now -
      o.lastAt).toNat) :=
  ⟨⟨arrived (sealed { pkt0 0x01 with payload := [1, 2, 3, 4], payloadLen := 4, opOffset := 0xfffc }) [(0, win0 true)], sealed
     { pkt0 0x01 with payload := [1, 2, 3, 4], payloadLen := 4, opOffset := 0xfffc }, 0, (by decide +kernel), (by decide +kernel),
     (by decide +kernel), (by decide +kernel), (by decide +kernel), (by decide +kernel), (by decide +kernel), (by decide +kernel),
     (by decide +kernel), (by decide +kernel)⟩,
     ⟨{ arrived (sealed { pkt0 0x04 with payload := [0x10, 3, 0, 0] ++ List.replicate 12 0 ++ [1] ++ List.replicate 31 0, payloadLen := 48, opExt := 0x4000 }) [] with
        remote := { tallies := [(7, {})] } }, sealed
     { pkt0 0x04 with payload := [0x10, 3, 0, 0] ++ List.replicate 12 0 ++ [1] ++ List.replicate 31 0, payloadLen := 48, opExt := 0x4000 }, 0, 7,
     (by decide +kernel), (by decide +kernel), (by decide +kernel), (by decide +kernel), (by decide +kernel), (by decide +kernel),
     (by decide +kernel), (by decide +kernel), (by decide +kernel), (by decide +kernel), (by decide +kernel), (by decide +kernel)⟩,
   ⟨arrived (sealed { pkt0 0x04 with payload := [6, 3, 1, 0] ++ List.replicate 44 0, payloadLen := 48, typeWord := 8 }) [(0, win0 false)], sealed
     { pkt0 0x04 with payload := [6, 3, 1, 0] ++ List.replicate 44 0, payloadLen := 48, typeWord := 8 }, 0, (by decide +kernel),
     (by decide +kernel), (by decide +kernel), (by decide +kernel), (by decide +kernel), (by decide +kernel), (by decide +kernel),
     (by decide +kernel), (by decide +kernel), (by decide +kernel), (by decide +kernel), (by decide +kernel), (by decide +kernel),
     (by decide +kernel)⟩,
   ⟨{ remote := { openOps := [{ src := 0x1000, tag := 6, inst := 0, epoch := 0, opExt := 0, tc := 1, dst := 0, closed := true }] } }, 0x1000, 6,
     { src := 0x1000, tag := 6, inst := 0, epoch := 0, opExt := 0, tc := 1, dst := 0, closed := true }, (by decide +kernel), (by decide +kernel),
     (by decide +kernel), (by decide +kernel), (by decide +kernel)⟩,
   ⟨{ remote := { tombs := [{ src := 0x1000, tag := 6, status := 0, dst := 0, tc := 1, expires := 200 }] } }, 0x1000, 6, 200, _, rfl,
     (by decide +kernel)⟩,
   ⟨{ remote := { openOps := [{ src := 0x1000, tag := 6, inst := 0, epoch := 0, opExt := 0, tc := 1, dst := 0 }] } }, 0x1000, 6, 6400000000, _, rfl,
     (by decide +kernel), (by decide +kernel)⟩,
   ⟨{ remote := { srcOps := [{ src := 0, tag := 6, kind := .put, mcast := true, injected := 1 }] } }, 0, 6, 11520000, _, rfl, (by decide +kernel),
     (by decide +kernel), (by decide +kernel), (by decide +kernel), (by decide +kernel), (by decide +kernel), (by decide +kernel),
     (by decide +kernel)⟩⟩

theorem witness_DrawingChannelsComplete :
    (∃ (s : State) (c : Call) (channel owner : Option Nat) (prio : BitVec 2) (i n : Nat), s.holder (s.authOf c.via) owner = some (some i) ∧ (s.inst
      i).state ≠ .free ∧ (s.chansOf i).length < s.grant i 4 ∧ (s.chan n).state = .unallocated ∧ (s.chan n).fenced = false ∧ (channel = some n ∧ n <
      256 ∨ channel = none ∧ (List.range 256).find? (fun n => (s.chan n).state == .unallocated && !(s.chan n).fenced) = some n) ∧ ∃ code may,
      s.Executes (.drawChannel c channel owner prio false) c code may) ∧
    (∃ (s : State) (c : Call) (owner : Option Nat) (prio : BitVec 2) (n : Nat), n < 256 ∧ (s.chan n).state = .idle ∧ (s.chan n).pending = none ∧
      (s.chan n).loading = none ∧ s.reachesChan (s.authOf c.via) (s.chan n) = true ∧ ∃ code may, s.Executes (.drawChannel c (some n) owner prio
      true) c code may) ∧
    (∃ (s : State) (c : Call) (n : Nat), n < 256 ∧ (s.chan n).state ≠ .unallocated ∧ s.reachesChan (s.authOf c.via) (s.chan n) = true ∧ ∃ code may,
      s.Executes (.drawStop c n) c code may) ∧
    (∃ (s : State) (q : Nat) (w : Wq) (f : Fetched), s.startable q 0x08 = some (w, f) ∧ lf f.line 208 48 = 0 ∧ dFrag f.line = false ∧ loadShape
      (drawArgs f.line) = true ∧ (s.chan (drawArgs f.line).channel).state ≠ .unallocated ∧ (s.chan (drawArgs f.line).channel).ownerKind = 0 ∧
      w.instOf = some (s.chan (drawArgs f.line).channel).owner.toNat ∧ ((drawArgs f.line).replace = true ∨ (s.chan (drawArgs
      f.line).channel).pending = none ∧ (s.chan (drawArgs f.line).channel).loading = none)) ∧
    (∃ (s : State) (c : Call) (a : DrawLoadArgs) (cookie : Word), a.channel < 256 ∧ (s.chan a.channel).state ≠ .unallocated ∧ s.reachesChan
      (s.authOf c.via) (s.chan a.channel) = true ∧ loadShape a = true ∧ a.bases.length = 4 ∧ (a.replace = true ∨ (s.chan a.channel).pending = none ∧
      (s.chan a.channel).loading = none) ∧ ∃ code may, s.Executes (.drawLoad c a none cookie) c code may) ∧
    (∃ (s : State) (n : Nat) (l : DrawLoading) (bs : List Byte), s.quench.halted = false ∧ (s.chan n).loading = some l ∧ l.space = false ∧
      programBad (programOf (bs.take l.length)) = false ∧ (programOf (bs.take l.length)).length * 16 = l.length) :=
  ⟨⟨{ diag with insts := [(0, inst0)] }, dbg, none, some 0, 3, 0, 0, (by decide +kernel), (by decide +kernel), (by decide +kernel),
     (by decide +kernel), (by decide +kernel), (by decide +kernel), executes rfl (by decide +kernel)⟩,
   ⟨{ diag with insts := [(0, inst0)], draw := { chans := [(255, { state := .idle })] } }, dbg, none, 0, 255, (by decide +kernel),
     (by decide +kernel), (by decide +kernel), (by decide +kernel), (by decide +kernel), executes rfl (by decide +kernel)⟩,
   ⟨{ diag with insts := [(0, inst0)], draw := { chans := [(255, { drawing 5 with pending := some {} })] } }, dbg, 255, (by decide +kernel),
     (by decide +kernel), (by decide +kernel), executes rfl (by decide +kernel)⟩,
   ⟨{ startable0 (8 ||| 16 <<< 32 ||| 0x10 <<< 128 ||| 255 <<< 192) with draw := { chans := [(255, { state := .idle })] } }, 3,
     { wq0 with fetched := [{ index := 5, line := 8 ||| 16 <<< 32 ||| 0x10 <<< 128 ||| 255 <<< 192 }], open_ := [5] },
     { index := 5, line := 8 ||| 16 <<< 32 ||| 0x10 <<< 128 ||| 255 <<< 192 }, (by decide +kernel), (by decide +kernel), (by decide +kernel),
     (by decide +kernel), (by decide +kernel), (by decide +kernel), (by decide +kernel), (by decide +kernel)⟩,
   ⟨{ diag with insts := [(0, inst0)], draw := { chans := [(255, { state := .running, pending := some {} })] } }, dbg,
     { channel := 255, priority := 0, replace := true, progSpace := false, baseSpace := 0, bases := [0, 0, 0, 0], addr := 16, length := 4096 }, 0,
     (by decide +kernel), (by decide +kernel), (by decide +kernel), (by decide +kernel), (by decide +kernel), (by decide +kernel), executes rfl
     (by decide +kernel)⟩,
   ⟨drawn { state := .idle, shadowGen := 0xffff, loading := some { set := {}, space := false, addr := 16, length := 32 } }, 255, _, leBytes 16 (4
     ||| 7 <<< 64) ++ leBytes 16 5, (by decide +kernel), rfl, (by decide +kernel), (by decide +kernel), (by decide +kernel)⟩⟩

theorem witness_DrawingInstructionsRun :
    (∃ (s : State) (n : Nat) (w : BitVec 128), s.quench.halted = false ∧ (s.chan n).state = .running ∧ (s.chan n).current = some w ∧ instrOp w = 1 ∧
      instrField w 88 29 = 0) ∧
    (∃ (s : State) (n p : Nat) (w : BitVec 128) (j : DrawJob), s.quench.halted = false ∧ (s.chan n).current = some w ∧ instrField w 88 29 ≠ 0 ∧
      s.readJob (s.chan n) = some j ∧ s.beatHeld (s.chan n) false = [] ∧ s.beatPrio n (s.chan n) = some p ∧ s.pickBeat false (s.eligible false) 4 =
      some n) ∧
    (∃ (s : State) (n : Nat) (x : DrawSet) (w : BitVec 128), (s.chan n).state = .running ∧ (s.chan n).active = some x ∧ (s.chan n).current = some w
      ∧ instrOp w = 1 ∧ instrField w 88 29 ≠ 0 ∧ (s.chan n).jobs = []) ∧
    (∃ (s : State) (n p : Nat) (j : DrawJob), s.quench.halted = false ∧ (s.chan n).writeJob = some j ∧ j.firstBad = none ∧ s.beatHeld (s.chan n)
      true = [] ∧ s.beatPrio n (s.chan n) = some p ∧ s.pickBeat true (s.eligible true) 4 = some n ∧ (j.dstSpace = true → (j.dst + BitVec.ofNat 64
      j.part.1).toNat + (j.part.2 - j.part.1) ≤ s.space1Bytes (s.chan n))) ∧
    (∃ (s : State) (n : Nat) (x : DrawSet) (w : BitVec 128), s.quench.halted = false ∧ (s.chan n).state = .running ∧ (s.chan n).active = some x ∧
      (s.chan n).current = some w ∧ instrOp w = 2 ∧ (∀ e ∈ (s.chan n).loops.head?, e.1 ≠ (s.chan n).pc.toNat) ∧ (s.chan n).loops.length < 4 ∧ 2 ≤
      instrField w 12 32) ∧
    (∃ (s : State) (n : Nat) (x : DrawSet) (w : BitVec 128) (e : Nat × Nat) (es : List (Nat × Nat)), s.quench.halted = false ∧ (s.chan n).state =
      .running ∧ (s.chan n).active = some x ∧ (s.chan n).current = some w ∧ instrOp w = 2 ∧ (s.chan n).loops = e :: es ∧ e.1 = (s.chan n).pc.toNat) ∧
    (∃ (s : State) (n : Nat) (w : BitVec 128), s.quench.halted = false ∧ (s.chan n).state = .running ∧ (s.chan n).current = some w ∧ instrOp w = 3 ∧
      (instrKind w = 0 ∧ (∃ k, ((s.chan n).instOf.bind fun i => s.tallyNo i (instrTarget w)) = some k ∧ (s.tally k).moving = none ∧ reached (s.tally
      k).value (instrValue w) = true) ∨ instrKind w = 1 ∧ (instrValue w).toNat ≤ s.time.now.toNat ∨ instrKind w = 2 ∧ (s.vise (instrTarget w %
      4096)).owner = 0 ∧ s.viseScope (s.vise (instrTarget w % 4096)) (idChan n) = true)) ∧
    (∃ (s : State) (n : Nat) (w : BitVec 128), s.quench.halted = false ∧ (s.chan n).state = .running ∧ (s.chan n).current = some w ∧ instrOp w = 3 ∧
      instrKind w = 1 ∧ s.time.now.toNat < (instrValue w).toNat) ∧
    (∃ (s : State) (n : Nat) (w : BitVec 128) (now : Ticks), s.quench.halted = false ∧ (s.chan n).state = .waiting ∧ (s.chan n).current = some w ∧
      instrOp w = 3 ∧ instrKind w = 1 ∧ (instrValue w).toNat ≤ (s.advance now).time.now.toNat) ∧
    (∃ (s : State) (n : Nat) (w : BitVec 128) (now : Ticks), s.quench.halted = false ∧ (s.chan n).state = .waiting ∧ (s.chan n).current = some w ∧
      instrOp w = 3 ∧ instrKind w ≠ 1 ∧ instrField w 32 32 ≠ 0 ∧ us (instrField w 32 32) ≤ ((s.advance now).time.now - (s.chan n).waitSince).toNat ∧
      (s.chan n).pending = none ∧ (s.chan n).jobs = []) ∧
    (∃ (s : State) (n k : Nat) (w : BitVec 128), s.quench.halted = false ∧ ((s.chan n).state = .running ∨ (s.chan n).state = .signalWait) ∧ (s.chan
      n).current = some w ∧ (s.chan n).jobs = [] ∧ instrOp w = 4 ∧ instrKind w = 0 ∧ (((s.chan n).instOf.bind fun i => s.tallyNo i (instrTarget w))
      = some k) ∧ (s.tally k).moving = none) ∧
    (∃ (s : State) (n : Nat) (w : BitVec 128), s.quench.halted = false ∧ ((s.chan n).state = .running ∨ (s.chan n).state = .signalWait) ∧ (s.chan
      n).current = some w ∧ (s.chan n).jobs = [] ∧ instrOp w = 4 ∧ (instrKind w = 1 ∧ instrTarget w < s.msixSize (s.chanFn (s.chan n)) ∨ instrKind w
      = 2 ∧ (∃ q, s.cq (instrTarget w) = some q ∧ q.inst = (s.chan n).instOf ∧ ((s.chan n).ownerKind = 1 → q.owner = s.chanFn (s.chan n)) ∧
      q.mayFetch = true) ∧ (∀ e ∈ s.matching.ctxs, e.2.notify ≠ some (BitVec.ofNat 14 (instrTarget w))) ∨ instrKind w = 3 ∧ (s.vise (instrTarget w %
      4096)).owner = idChan n ∧ (s.vise (instrTarget w % 4096)).waiters = [])) ∧
    (∃ (s : State) (n : Nat) (w : BitVec 128), s.quench.halted = false ∧ (s.chan n).state = .running ∧ (s.chan n).current = some w ∧ instrOp w = 5 ∧
      (s.chan n).jobs = []) :=
  ⟨⟨drawn (drawing 1), 255, 1, (by decide +kernel), (by decide +kernel), (by decide +kernel), (by decide +kernel), (by decide +kernel)⟩,
   ⟨drawn { drawing (1 ||| 8 <<< 88) with active := some { program := [(1 ||| 8 <<< 88), 5], bases := [0x1000, 0, 0, 0] } }, 255, 0, 1 ||| 8 <<< 88,
     _, (by decide +kernel), (by decide +kernel), (by decide +kernel), rfl, (by decide +kernel), (by decide +kernel), (by decide +kernel)⟩,
   ⟨drawn { drawing (1 ||| 8 <<< 88) with active := some { program := [(1 ||| 8 <<< 88), 5], bases := [0x1000, 0, 0, 0] } }, 255,
     { program := [(1 ||| 8 <<< 88), 5], bases := [0x1000, 0, 0, 0] }, 1 ||| 8 <<< 88, (by decide +kernel), (by decide +kernel),
     (by decide +kernel), (by decide +kernel), (by decide +kernel), (by decide +kernel)⟩,
     ⟨{ drawn { drawing 5 with jobs := [{ seq := 7, pc := 0, src := 0x103c, dst := 0x40, n := 8, srcSpace := false, dstSpace := true, down := false, issued := 2, lines := [(0, { bytes := List.replicate 60 0 ++ [1, 2, 3, 4] }), (1, { bytes := [5, 6, 7, 8] })] }] } with
        insts := [(0, { inst0 with segments := [511] })] }, 255, 0,
     { seq := 7, pc := 0, src := 0x103c, dst := 0x40, n := 8, srcSpace := false, dstSpace := true, down := false, issued := 2,
       lines := [(0, { bytes := List.replicate 60 0 ++ [1, 2, 3, 4] }), (1, { bytes := [5, 6, 7, 8] })] }, (by decide +kernel), (by decide +kernel),
     (by decide +kernel), (by decide +kernel), (by decide +kernel), (by decide +kernel), (by decide +kernel)⟩,
   ⟨drawn (drawing (2 ||| 0xffffffff <<< 12)), 255, _, 2 ||| 0xffffffff <<< 12, (by decide +kernel), (by decide +kernel), rfl, (by decide +kernel),
     (by decide +kernel), (by decide +kernel), (by decide +kernel), (by decide +kernel)⟩,
   ⟨drawn { drawing (2 ||| 3 <<< 12) with loops := [(0, 0), (1, 1)] }, 255, _, 2 ||| 3 <<< 12, _, _, (by decide +kernel), (by decide +kernel), rfl,
     (by decide +kernel), (by decide +kernel), rfl, (by decide +kernel)⟩,
   ⟨drawn (drawing (3 ||| 2 <<< 4 ||| 4095 <<< 8)), 255, 3 ||| 2 <<< 4 ||| 4095 <<< 8, (by decide +kernel), (by decide +kernel),
     (by decide +kernel), (by decide +kernel), (.inr (.inr (by decide +kernel)))⟩,
   ⟨drawn (drawing (3 ||| 1 <<< 4 ||| 100 <<< 64)), 255, 3 ||| 1 <<< 4 ||| 100 <<< 64, (by decide +kernel), (by decide +kernel),
     (by decide +kernel), (by decide +kernel), (by decide +kernel), (by decide +kernel)⟩,
   ⟨drawn { drawing (3 ||| 1 <<< 4 ||| 100 <<< 64) with state := .waiting }, 255, 3 ||| 1 <<< 4 ||| 100 <<< 64, 100, (by decide +kernel),
     (by decide +kernel), (by decide +kernel), (by decide +kernel), (by decide +kernel), (by decide +kernel)⟩,
   ⟨drawn { drawing (3 ||| 2 <<< 8 ||| 100 <<< 64 ||| 1 <<< 32) with state := .waiting }, 255, 3 ||| 2 <<< 8 ||| 100 <<< 64 ||| 1 <<< 32, 64000,
     (by decide +kernel), (by decide +kernel), (by decide +kernel), (by decide +kernel), (by decide +kernel), (by decide +kernel),
     (by decide +kernel), (by decide +kernel), (by decide +kernel)⟩,
   ⟨drawn (drawing (4 ||| 2 <<< 8 ||| 9 <<< 64)), 255, 7, 4 ||| 2 <<< 8 ||| 9 <<< 64, (by decide +kernel), (.inl rfl), (by decide +kernel),
     (by decide +kernel), (by decide +kernel), (by decide +kernel), (by decide +kernel), (by decide +kernel)⟩,
   ⟨{ drawn (drawing (4 ||| 3 <<< 4 ||| 4095 <<< 8)) with vises := { vises := [(4095, { inst := some 0, owner := 0xd0ff })] } }, 255, 4 ||| 3 <<< 4
     ||| 4095 <<< 8, (by decide +kernel), (.inl rfl), (by decide +kernel), (by decide +kernel), (by decide +kernel), (.inr (.inr
     (by decide +kernel)))⟩,
   ⟨drawn { drawing (5) with pending := some { program := [5] } }, 255, 5, (by decide +kernel), (by decide +kernel), (by decide +kernel),
     (by decide +kernel), (by decide +kernel)⟩⟩

theorem witness_VisesComplete :
    (∃ (s : State) (c : Call) (v : Nat), v < 4096 ∧ s.viseScope (s.vise v) (s.callerIdentity c.via) = true ∧ ∃ code may, s.Executes (.viseClaim c v)
      c code may) ∧
    (∃ (s : State) (c : Call) (v : Nat), v < 4096 ∧ (s.vise v).owner = s.callerIdentity c.via ∧ s.callerIdentity c.via ≠ 0 ∧ ∃ code may, s.Executes
      (.viseRelease c v) c code may) ∧
    (∃ (s : State) (v : Nat) (word : Word), v < 4096 ∧ bit word 16 = false ∧ s.viseScope (s.vise v) (BitVec.ofNat 16 (bits word 15 0)) = true ∧
      (s.vise v).owner = 0) ∧
    (∃ (s : State) (v : Nat) (word : Word), v < 4096 ∧ bit word 16 = false ∧ bit word 17 = true ∧ s.viseScope (s.vise v) (BitVec.ofNat 16 (bits word
      15 0)) = true ∧ (s.vise v).owner ≠ 0 ∧ (s.vise v).owner ≠ BitVec.ofNat 16 (bits word 15 0) ∧ (∀ w ∈ (s.vise v).waiters, w.1 ≠ BitVec.ofNat 16
      (bits word 15 0))) ∧
    (∃ (s : State) (v : Nat) (word : Word), v < 4096 ∧ bit word 16 = true ∧ (s.vise v).owner = BitVec.ofNat 16 (bits word 15 0) ∧ (s.vise v).owner ≠
      0) :=
  ⟨⟨diag, dbg, 4095, (by decide +kernel), (by decide +kernel), executes rfl (by decide +kernel)⟩,
   ⟨{ diag with vises := { vises := [(4095, { owner := 0x8406, broken := true, waiters := [(0xc000, 1)] })] } }, dbg, 4095, (by decide +kernel),
     (by decide +kernel), (by decide +kernel), executes rfl (by decide +kernel)⟩,
   ⟨drawn (drawing 5), 4095, 0xc8000, (by decide +kernel), (by decide +kernel), (by decide +kernel), (by decide +kernel)⟩,
   ⟨{ vises := { vises := [(4095, { owner := 0x8000, inst := some 1, waiters := [(0xc000, 1)] })] } }, 4095, 0xe8001, (by decide +kernel),
     (by decide +kernel), (by decide +kernel), (by decide +kernel), (by decide +kernel), (by decide +kernel),
     (by intro w h; change w ∈ [(0xc000, 1)] at h; rw [List.mem_singleton.mp h]; decide)⟩,
   ⟨{ vises := { vises := [(4095, { owner := 0x8000, waiters := [(0xc000, 1)] })] } }, 4095, 0x18000, (by decide +kernel), (by decide +kernel),
     (by decide +kernel), (by decide +kernel)⟩⟩

theorem witness_ContextCommandsComplete :
    (∃ (s : State) (c : Call) (inst notify : Option Nat) (slot postedMax unexpMax : Nat) (cookie area : Word) (areaLen cellLimit moduleLimit i :
      Nat) (r : Reply), s.forInst (s.authOf c.via) inst = (some i, r) ∧ slot < 64 ∧ 1 ≤ postedMax ∧ postedMax ≤ 67108864 ∧ 1 ≤ unexpMax ∧ unexpMax ≤
      4194304 ∧ (∀ k, notify = some k → k < Config.queueCount) ∧ area.toNat % 4096 = 0 ∧ areaLen % 4096 = 0 ∧ areaLen ≤ 2 ^ 34 ∧ s.ctx (i * 64 +
      slot) = none ∧ (∀ k, notify = some k → ∃ x, s.cq k = some x ∧ x.inst = some i) ∧ (∀ k, notify = some k → ∀ e ∈ s.wqs, e.2.cq.toNat ≠ k) ∧
      s.ctxsOf i < s.grant i 2 ∧ ∃ code may, s.Executes (.ctxCreate c inst slot postedMax unexpMax notify cookie area areaLen cellLimit moduleLimit)
      c code may) ∧
    (∃ (s : State) (c : Call) (inst : Option Nat) (slot i : Nat) (r : Reply) (x : Ctx), s.forInst (s.authOf c.via) inst = (some i, r) ∧ slot < 64 ∧
      s.ctx (i * 64 + slot) = some x ∧ x.state ≠ 3 ∧ x.held = [] ∧ ∃ code may, s.Executes (.ctxDestroy c inst slot) c code may) ∧
    (∃ (s : State) (c : Call) (word : Word) (ic : Option (Nat × Word)), 10 ≤ bits word 13 0 ∧ bits word 13 0 ≤ 10000 ∧ 1 ≤ bits word 27 14 ∧ bits
      word 27 14 ≤ 10000 ∧ bits word 43 28 ≤ 4096 ∧ bits word 59 44 ≤ 8192 ∧ bits word 63 60 = 0 ∧ (∀ i w, ic = some (i, w) → i < 1024 ∧ bits w 16 0
      ≤ 65536 ∧ bits w 63 17 = 0) ∧ ∃ code may, s.Executes (.matchCfg c word ic) c code may) :=
  ⟨⟨{ diag with insts := [(0, inst0)], cqs := [(6, cq0)] }, dbg, some 0, some 6, 63, 67108864, 4194304, 1, 0x1000, 2 ^ 34, 0, 0, 0, _, rfl,
     (by decide +kernel), (by decide +kernel), (by decide +kernel), (by decide +kernel), (by decide +kernel), (by rintro m ⟨⟩; decide),
     (by decide +kernel), (by decide +kernel), (by decide +kernel), (by decide +kernel), (by rintro m ⟨⟩; exact ⟨_, rfl, rfl⟩),
     (by rintro m ⟨⟩; decide), (by decide +kernel), executes rfl (by decide +kernel)⟩,
   ⟨{ diag with insts := [(0, inst0)], matching := { ctxs := [(63, {})] } }, dbg, some 0, 63, 0, _, _, rfl, (by decide +kernel), rfl,
     (by decide +kernel), (by decide +kernel), executes rfl (by decide +kernel)⟩,
   ⟨diag, dbg, 0x200010009c42710, some (1023, 65536), (by decide +kernel), (by decide +kernel), (by decide +kernel), (by decide +kernel),
     (by decide +kernel), (by decide +kernel), (by decide +kernel), (by rintro i w ⟨⟩; decide), executes rfl (by decide +kernel)⟩⟩

theorem witness_MessagesMatch :
    (∃ (s : State) (q : Nat) (w : Wq) (f : Fetched) (i : Nat), s.startable q 4 = some (w, f) ∧ lf f.line 285 3 = 0 ∧ lf f.line 294 2 ≠ 3 ∧ lf f.line
      297 7 = 0 ∧ lf f.line 304 208 = 0 ∧ s.unreachable (BitVec.ofNat 29 (lf f.line 256 29)) false = false ∧ w.instOf = some i) ∧
    (∃ (s : State) (q : Nat) (w : Wq) (f : Fetched) (i : Nat) (c : Ctx), s.startable q 5 = some (w, f) ∧ recvBad f.line = none ∧ dFrag f.line =
      false ∧ rMode f.line ≠ 3 ∧ w.instOf = some i ∧ s.ctx (i * 64 + lf f.line 384 6) = some c ∧ c.state ≠ 3 ∧ c.moving = none ∧ (rMode f.line = 0 →
      (((s.started q).modCtx (i * 64 + lf f.line 384 6) fun c => { c with steps := c.steps + 1 }).post (i * 64 + lf f.line 384 6) c (s.recvOf q w f
      [(dAddr f.line, dLen f.line)])).isSome = true) ∧ ((c.unexp.find? fun m => matchesRecv m.matchBits m.src (s.recvOf q w f [(dAddr f.line, dLen
      f.line)])) = none)) ∧
    (∃ (s : State) (q k : Nat) (w w2 : Wq) (f : Fetched) (c : Ctx) (r : Recv), s.startable q 6 = some (w, f) ∧ lf f.line 206 18 = 0 ∧ s.onItsWay q
      (lf f.line 192 14) (BitVec.ofNat 32 (lf f.line 224 32)) = false ∧ (∀ e ∈ s.matching.ctxs, e.2.holdsRecv (lf f.line 192 14) (BitVec.ofNat 32
      (lf f.line 224 32)) = false) ∧ lf f.line 256 256 = 0 ∧ dLen f.line = 0 ∧ dAddr f.line = 0 ∧ dFrag f.line = false ∧ s.wq (lf f.line 192 14) =
      some w2 ∧ w2.owner = w.owner ∧ ((s.matching.ctxs.find? fun e => e.2.posted.any fun r => r.wq == lf f.line 192 14 && r.index == BitVec.ofNat 32
      (lf f.line 224 32)) = some (k, c)) ∧ s.ctx k = some c ∧ c.moving = none ∧ ((c.posted.find? fun r => r.wq == lf f.line 192 14 && r.index ==
      BitVec.ofNat 32 (lf f.line 224 32)) = some r)) ∧
    (∃ (s : State) (p : Packet) (h : Nat) (acc : Access) (i : Instr) (c : Ctx), s.ejectHead p = some h ∧ (i = .msgEager p acc ∧ p.pktType = 0x06 ∨ i
      = .msgRts p ∧ p.pktType = 0x07) ∧ p.mcast = false ∧ sealOk p = true ∧ s.tomb p.src p.opTag = none ∧ s.refusedAt p = none ∧ s.ctx (ctxKey p) =
      some c ∧ c.state ≠ 3 ∧ c.moving = none ∧ c.knows p.src p.opTag = false ∧ ((c.posted.find? fun r => matchesRecv p.typeWord p.src r) = none) ∧
      s.blocked (ctxKey p) [p] = false ∧ (∀ w ∈ s.waits, waitCtx w ≠ ctxKey p) ∧ s.orderEntry (streamOf p) = none ∧ bits p.opExt 8 0 = 0) ∧
    (∃ (s : State) (p : Packet) (h : Nat) (acc : Access) (i : Instr), s.ejectHead p = some h ∧ (i = .msgEager p acc ∧ p.pktType = 0x06 ∨ i = .msgRts
      p ∧ p.pktType = 0x07) ∧ p.mcast = false ∧ sealOk p = true ∧ s.tomb p.src p.opTag = none ∧ s.refusedAt p = none ∧ s.holdFull (ctxKey p) = false
      ∧ s.orderEntry (streamOf p) = none ∧ bits p.opExt 8 0 ≠ 0) ∧
    (∃ (s : State) (key : StreamKey) (order : BitVec 32) (now : Ticks) (e : OrderEntry) (h : HeldMsg), s.orderEntry key = some e ∧ ((e.held.find?
      fun h => h.key == order && !h.released) = some h) ∧ us s.matching.orderWaitUs.toNat ≤ ((s.advance now).time.now - h.queried).toNat) ∧
    (∃ (s : State) (key : StreamKey) (order : BitVec 32) (now : Ticks) (e : OrderEntry) (h : HeldMsg), s.orderEntry key = some e ∧ ((e.held.find?
      fun h => h.key == order && !h.released) = some h) ∧ ms s.matching.orderAbandonMs.toNat ≤ ((s.advance now).time.now - h.since).toNat) :=
  ⟨⟨startable0 (4 ||| 1 <<< 296 ||| 8 <<< 32), 3, { wq0 with fetched := [{ index := 5, line := 4 ||| 1 <<< 296 ||| 8 <<< 32 }], open_ := [5] },
     { index := 5, line := 4 ||| 1 <<< 296 ||| 8 <<< 32 }, 0, (by decide +kernel), (by decide +kernel), (by decide +kernel), (by decide +kernel),
     (by decide +kernel), (by decide +kernel), (by decide +kernel)⟩,
   ⟨{ startable0 (5 ||| 63 <<< 384 ||| 8 <<< 32) with matching := { ctxs := [(63, { postedMax := 1 })] } }, 3,
     { wq0 with fetched := [{ index := 5, line := 5 ||| 63 <<< 384 ||| 8 <<< 32 }], open_ := [5] },
     { index := 5, line := 5 ||| 63 <<< 384 ||| 8 <<< 32 }, 0, { postedMax := 1 }, (by decide +kernel), (by decide +kernel), (by decide +kernel),
     (by decide +kernel), (by decide +kernel), (by decide +kernel), (by decide +kernel), (by decide +kernel), (by decide +kernel),
     (by decide +kernel)⟩,
     ⟨{ startable0 (6 ||| 4 <<< 192 ||| 9 <<< 224) with
        wqs := [(3, { wq0 with fetched := [{ index := 5, line := 6 ||| 4 <<< 192 ||| 9 <<< 224 }], open_ := [5] }), (4, wq0)],
        matching := { ctxs := [(63, { posted := [{ wq := 4, index := 9, line := 0, matchBits := 0, ignore := 0, src := 0, srcIgnore := 0, frags := [], length := 0 }] })] } },
     3, 63, { wq0 with fetched := [{ index := 5, line := 6 ||| 4 <<< 192 ||| 9 <<< 224 }], open_ := [5] }, wq0,
     { index := 5, line := 6 ||| 4 <<< 192 ||| 9 <<< 224 },
     { posted := [{ wq := 4, index := 9, line := 0, matchBits := 0, ignore := 0, src := 0, srcIgnore := 0, frags := [], length := 0 }] },
     { wq := 4, index := 9, line := 0, matchBits := 0, ignore := 0, src := 0, srcIgnore := 0, frags := [], length := 0 }, (by decide +kernel),
     (by decide +kernel), (by decide +kernel), (by decide +kernel), (by decide +kernel), (by decide +kernel), (by decide +kernel),
     (by decide +kernel), (by decide +kernel), (by decide +kernel), (by decide +kernel), (by decide +kernel), (by decide +kernel),
     (by decide +kernel)⟩,
     ⟨{ arrived (sealed { pkt0 0x06 with opExt := 0x7e00, payloadLen := 2, payload := [1, 2], typeWord := 77 }) [] with
        matching := { ctxs := [(63, {})] } }, sealed { pkt0 0x06 with opExt := 0x7e00, payloadLen := 2, payload := [1, 2], typeWord := 77 }, 0, .ok,
     .msgEager (sealed { pkt0 0x06 with opExt := 0x7e00, payloadLen := 2, payload := [1, 2], typeWord := 77 }) .ok, {}, (by decide +kernel), (.inl
     ⟨rfl, rfl⟩), (by decide +kernel), (by decide +kernel), (by decide +kernel), (by decide +kernel), (by decide +kernel), (by decide +kernel),
     (by decide +kernel), (by decide +kernel), (by decide +kernel), (by decide +kernel), (by decide +kernel), (by decide +kernel),
     (by decide +kernel)⟩,
     ⟨{ arrived (sealed { pkt0 0x07 with opExt := 0x7e01, e2eSeq := 9, payloadLen := 16, payload := List.replicate 16 0, typeWord := 77 }) [] with
        matching := { ctxs := [(63, {})] } }, sealed
     { pkt0 0x07 with opExt := 0x7e01, e2eSeq := 9, payloadLen := 16, payload := List.replicate 16 0, typeWord := 77 }, 0, .ok, .msgRts (sealed
     { pkt0 0x07 with opExt := 0x7e01, e2eSeq := 9, payloadLen := 16, payload := List.replicate 16 0, typeWord := 77 }), (by decide +kernel), (.inr
     ⟨rfl, rfl⟩), (by decide +kernel), (by decide +kernel), (by decide +kernel), (by decide +kernel), (by decide +kernel), (by decide +kernel),
     (by decide +kernel)⟩,
     ⟨{ matching := { streams := [{ key := { src := 0x1000, dst := 0, tc := 1 }, held := [{ key := 9, pred := 8, slot := 63, packets := [], since := 0, queried := 0 }] }] } },
     { src := 0x1000, dst := 0, tc := 1 }, 9, 3200000, _, _, rfl, rfl, (by decide +kernel)⟩,
     ⟨{ matching := { streams := [{ key := { src := 0x1000, dst := 0, tc := 1 }, held := [{ key := 9, pred := 8, slot := 63, packets := [], since := 0, queried := 0 }] }] } },
     { src := 0x1000, dst := 0, tc := 1 }, 9, 64000000000, _, _, rfl, rfl, (by decide +kernel)⟩⟩

theorem witness_AnswersComplete :
    (∃ (s : State) (p : Packet) (h : Nat), s.ejectHead p = some h ∧ p.pktType = 0x02 ∧ p.mcast = false ∧ s.getHeld p = [] ∧ s.tomb p.src p.opTag =
      none ∧ s.refusedAt p = none ∧ bit p.typeWord 63 = false ∧ s.windowError p 114 (bits p.typeWord 47 0) (getLen p) 1 = none ∧ (s.entryFor
      p).counts.received.contains 0 = false ∧ sealOk p = true) ∧
    (∃ (s : State) (p : Packet) (h : Nat) (o : SrcOp), s.ejectHead p = some h ∧ p.pktType = 0x03 ∧ p.mcast = false ∧ s.srcOp p.dst p.opTag = some o
      ∧ s.srcStale o = false ∧ o.kind = .get ∧ o.counts.received.contains p.pktIndex.toNat = false ∧ o.counts.beyond p = false ∧ sealOk p = true) ∧
    (∃ (s : State) (p : Packet) (h : Nat) (o : SrcOp), s.ejectHead p = some h ∧ p.pktType = 0x05 ∧ p.mcast = false ∧ s.srcOp p.dst p.opTag = some o
      ∧ s.srcStale o = false ∧ o.kind = .atomic ∧ bit o.line 344 = true ∧ sealOk p = true) ∧
    (∃ (s : State) (p : Packet) (h : Nat) (o : SrcOp), s.ejectHead p = some h ∧ p.pktType = 0x08 ∧ p.mcast = false ∧ sealOk p = true ∧ s.srcOp p.dst
      p.opTag = some o ∧ s.srcStale o = false ∧ bit p.typeWord 10 = false ∧ (o.kind = .put ∨ o.kind = .get ∨ o.kind = .atomic ∨ o.kind = .tallyAdd ∨
      o.kind = .msgSend ∧ bit p.typeWord 8 = false) ∧ o.mcast = false) ∧
    (∃ (s : State) (src : Endpoint) (tag : BitVec 32) (now : Ticks) (o : SrcOp), s.srcOp src tag = some o ∧ s.srcStale o = false ∧ o.kind ≠ .rdvRead
      ∧ o.mcast = false ∧ o.held = false ∧ o.npkts ≤ o.injected ∧ 1 ≤ (if o.kind = .msgSend then s.remote.msgTimeoutMs else
      s.remote.opTimeoutMs).toNat ∧ ms (if o.kind = .msgSend then s.remote.msgTimeoutMs else s.remote.opTimeoutMs).toNat ≤ ((s.advance now).time.now
      - o.lastAt).toNat) ∧
    (∃ (s : State) (port : Nat) (src : Endpoint) (tag : BitVec 32) (i : BitVec 16) (o : SrcOp), (∃ r ∈ (s.port port).d2h, r.tag = .payload src tag
      i) ∧ s.srcOp src tag = some o ∧ s.srcStale o = false ∧ o.rereads.contains i.toNat = false) ∧
    (∃ (s : State) (p : Packet), s.quench.halted = false ∧ s.hasArrival p = true ∧ p.pktType = 0x12 ∧ p.payload.length = 64) ∧
    (∃ (s : State) (p : Packet) (o : SrcOp), s.quench.halted = false ∧ s.hasArrival p = true ∧ p.pktType = 0x12 ∧ p.payload.length ≠ 64 ∧ (leAt
      p.payload 0 1 = 1 ∨ leAt p.payload 0 1 = 3) ∧ leAt p.payload 3 1 % 32 ∉ [3, 5, 8, 9] ∧ s.srcOp (BitVec.ofNat 29 (leAt p.payload 4 4))
      (BitVec.ofNat 32 (leAt p.payload 8 4)) = some o ∧ s.srcStale o = false ∧ leAt p.payload 12 2 < o.npkts ∧ tgetD o.resends (leAt p.payload 12 2)
      0 < s.remote.resendMax.toNat) :=
  ⟨⟨arrived (sealed { pkt0 0x02 with payload := leBytes 4 8 ++ List.replicate 12 0, payloadLen := 16 }) [(0, win0 true)], sealed
     { pkt0 0x02 with payload := leBytes 4 8 ++ List.replicate 12 0, payloadLen := 16 }, 0, (by decide +kernel), (by decide +kernel),
     (by decide +kernel), (by decide +kernel), (by decide +kernel), (by decide +kernel), (by decide +kernel), (by decide +kernel),
     (by decide +kernel), (by decide +kernel)⟩,
     ⟨{ arrived (sealed { pkt0 0x03 with dst := 0, payload := [1, 2, 3, 4], payloadLen := 4 }) [] with
        remote := { srcOps := [{ src := 0, tag := 6, kind := .get, wq := 3, index := 0, length := 8 }] } }, sealed
     { pkt0 0x03 with dst := 0, payload := [1, 2, 3, 4], payloadLen := 4 }, 0,
     { src := 0, tag := 6, kind := .get, wq := 3, index := 0, length := 8 }, (by decide +kernel), (by decide +kernel), (by decide +kernel),
     (by decide +kernel), (by decide +kernel), (by decide +kernel), (by decide +kernel), (by decide +kernel), (by decide +kernel)⟩,
     ⟨{ arrived (sealed { pkt0 0x05 with payload := List.replicate 16 0, payloadLen := 16 }) [] with
        remote := { srcOps := [{ src := 0, tag := 6, kind := .atomic, wq := 3, index := 0, line := 1 <<< 344 }] } }, sealed
     { pkt0 0x05 with payload := List.replicate 16 0, payloadLen := 16 }, 0,
     { src := 0, tag := 6, kind := .atomic, wq := 3, index := 0, line := 1 <<< 344 }, (by decide +kernel), (by decide +kernel), (by decide +kernel),
     (by decide +kernel), (by decide +kernel), (by decide +kernel), (by decide +kernel), (by decide +kernel)⟩,
   ⟨{ arrived (sealed (pkt0 0x08)) [] with remote := { srcOps := [{ src := 0, tag := 6, kind := .put, wq := 3, index := 0 }] } }, sealed (pkt0
     0x08), 0, { src := 0, tag := 6, kind := .put, wq := 3, index := 0 }, (by decide +kernel), (by decide +kernel), (by decide +kernel),
     (by decide +kernel), (by decide +kernel), (by decide +kernel), (by decide +kernel), (by decide +kernel), (by decide +kernel)⟩,
   ⟨{ remote := { srcOps := [{ src := 0, tag := 6, kind := .put, wq := 3, index := 0, injected := 1 }] }, wqs := [(3, wq0)] }, 0, 6, 6400000000,
     { src := 0, tag := 6, kind := .put, wq := 3, index := 0, injected := 1 }, (by decide +kernel), (by decide +kernel), (by decide +kernel),
     (by decide +kernel), (by decide +kernel), (by decide +kernel), (by decide +kernel), (by decide +kernel)⟩,
     ⟨{ remote := { srcOps := [{ src := 0, tag := 6, kind := .put, wq := 3, index := 0, npkts := 2, started := true, length := 5000, next := 1 }] },
        wqs := [(3, wq0)], ports := [(0, { hostUp with d2h := [{ tag := .payload 0 6 0, reads := [] }] })] }, 0, 0, 6, 0,
     { src := 0, tag := 6, kind := .put, wq := 3, index := 0, npkts := 2, started := true, length := 5000, next := 1 }, ⟨_, .head _, rfl⟩,
     (by decide +kernel), (by decide +kernel), (by decide +kernel)⟩,
   ⟨{ routing := { arrivals := [(0, { pktType := 0x12, payload := List.replicate 64 0 })] } }, { pktType := 0x12, payload := List.replicate 64 0 },
     (by decide +kernel), (by decide +kernel), (by decide +kernel), (by decide +kernel)⟩,
     ⟨{ routing := { arrivals := [(0, { pktType := 0x12, payload := leBytes 4 1 ++ leBytes 4 0 ++ leBytes 4 6 ++ leBytes 4 0 })] },
        remote := { srcOps := [{ src := 0, tag := 6, kind := .put, wq := 3, index := 0 }] }, wqs := [(3, wq0)] },
     { pktType := 0x12, payload := leBytes 4 1 ++ leBytes 4 0 ++ leBytes 4 6 ++ leBytes 4 0 },
     { src := 0, tag := 6, kind := .put, wq := 3, index := 0 }, (by decide +kernel), (by decide +kernel), (by decide +kernel), (by decide +kernel),
     (by decide +kernel), (by decide +kernel), (by decide +kernel), (by decide +kernel), (by decide +kernel), (by decide +kernel)⟩⟩

theorem witness_CollectivesRun :
    (∃ (s : State) (q : Nat) (w : Wq) (f : Fetched) (i r k : Nat) (g : Group), s.startable q 7 = some (w, f) ∧ w.instOf = some i ∧ collReserved
      f.line = false ∧ collBadReduction f.line = false ∧ s.groupRec (BitVec.ofNat 24 (lf f.line 192 24)) = some (r, g) ∧ tget s.coll.groups r = some
      g ∧ g.rank (endpointOf s.routing.moduleId (s.inst i).port.toNat i) = some k ∧ g.state ≠ 3 ∧ collLengths f.line k g.members.length = true ∧
      g.openCount < Config.openCollMax ∧ 1 + ((g.op (tgetD g.memberSeq i 0)).map (·.parts.length)).getD 0 < (g.ranksOn s.routing.moduleId).2 -
      (g.ranksOn s.routing.moduleId).1 ∧ (∀ o, g.op (tgetD g.memberSeq i 0) = some o → o.status = 0 ∧ ∀ x, o.params = some x → x = collParams
      f.line)) ∧
    (∃ (s : State) (group : BitVec 24) (seq : BitVec 16) (i r : Nat) (now : Ticks) (g : Group) (o : CollOp) (p : CollPart) (w : Wq), s.quench.halted
      = false ∧ s.groupRec group = some (r, g) ∧ tget s.coll.groups r = some g ∧ g.op seq = some o ∧ ((o.parts.find? fun p => p.inst == i) = some p)
      ∧ p.read = false ∧ p.done = false ∧ (s.advance now).instantCome (startAt p.line) = true ∧ (s.inst i).epoch = p.epoch ∧ s.wq p.wq = some w ∧
      o.status = 0 ∧ o.parts.length < (g.ranksOn s.routing.moduleId).2 - (g.ranksOn s.routing.moduleId).1) ∧
    (∃ (s : State) (group : BitVec 24) (seq : BitVec 16) (i r key seg : Nat) (now : Ticks) (g : Group) (o : CollOp) (p : CollPart) (par :
      CollParams) (fin : CollFinal), s.quench.halted = false ∧ s.groupRec group = some (r, g) ∧ tget s.coll.groups r = some g ∧ g.op seq = some o ∧
      ((o.parts.find? fun p => p.inst == i) = some p) ∧ o.params = some par ∧ o.finals = [(key, fin)] ∧ (∀ x ∈ fin.arrived, sealOk x = true) ∧
      partSeg par p key = some seg ∧ p.done = false ∧ p.got = [] ∧ (s.advance now).instantCome (releaseAt p.line) = true ∧ par.resultSegs
      g.members.length ≠ 1) ∧
    (∃ (s : State) (p : Packet) (r : Nat) (g : Group) (o : CollOp) (par x : CollParams), s.quench.halted = false ∧ s.hasArrival p = true ∧ p.pktType
      = 0x09 ∧ p.coll = some par ∧ par.status = 0 ∧ sealOk p = true ∧ s.groupRec (BitVec.ofNat 24 (bits p.typeWord 23 0)) = some (r, g) ∧ tget
      s.coll.groups r = some g ∧ g.state ≠ 3 ∧ p.tc = g.tc ∧ g.op (BitVec.ofNat 16 (bits p.typeWord 39 24)) = some o ∧ o.slot = bit p.typeWord 40 ∧
      g.closed.contains (BitVec.ofNat 16 (bits p.typeWord 39 24)) = false ∧ bits p.typeWord 43 41 = 1 ∧ (p.mcast = true ∨ g.tree o.slot ≠ 0) ∧
      o.params = some x ∧ o.parts ≠ [] ∧ (∀ y ∈ o.parts, y.done = false ∧ s.instantCome (releaseAt y.line) = false) ∧ tget o.finals (bits p.typeWord
      63 48) = none) ∧
    (∃ (s : State) (group : BitVec 24) (seq : BitVec 16) (r : Nat) (now : Ticks) (g : Group) (o : CollOp), s.quench.halted = false ∧ s.groupRec
      group = some (r, g) ∧ tget s.coll.groups r = some g ∧ g.op seq = some o ∧ o.contributed = true ∧ (∃ p ∈ o.parts, p.done = false) ∧ us
      s.coll.timeoutUs.toNat ≤ ((s.advance now).time.now - o.startedAt).toNat) :=
  ⟨⟨{ startable0 (7 ||| 5 <<< 192 ||| 3 <<< 224 ||| 1 <<< 232 ||| 8 <<< 32 ||| 8 <<< 288) with
        coll := { groups := [(8191, { group := 5, members := [0, 1], coordinator := true })] } }, 3,
     { wq0 with fetched := [{ index := 5, line := 7 ||| 5 <<< 192 ||| 3 <<< 224 ||| 1 <<< 232 ||| 8 <<< 32 ||| 8 <<< 288 }], open_ := [5] },
     { index := 5, line := 7 ||| 5 <<< 192 ||| 3 <<< 224 ||| 1 <<< 232 ||| 8 <<< 32 ||| 8 <<< 288 }, 0, 8191, 0,
     { group := 5, members := [0, 1], coordinator := true }, (by decide +kernel), (by decide +kernel), (by decide +kernel), (by decide +kernel),
     (by decide +kernel), (by decide +kernel), (by decide +kernel), (by decide +kernel), (by decide +kernel), (by decide +kernel),
     (by decide +kernel), (by rintro o ⟨⟩)⟩,
     ⟨{ diag with
        wqs := [(3, wq0)], cqs := [(0, cq0)], insts := [(0, inst0)], ports := [(0, hostUp)],
        coll := { groups := [(8191, { group := 5, members := [0, 1], ops := [{ seq := 0, slot := false, parts := [{ inst := 0, rank := 0, wq := 3, index := 5, line := 7 ||| 5 <<< 192 ||| 3 <<< 224 ||| 1 <<< 232 ||| 8 <<< 32 ||| 8 <<< 288 }], params := some ({ op := 3, dtype := 1, redOp := 0, exact_ := false, root := 0, length := 8 }) }] })] } },
     5, 0, 0, 8191, 0,
     { group := 5, members := [0, 1],
       ops := [{ seq := 0, slot := false, parts := [{ inst := 0, rank := 0, wq := 3, index := 5, line := 7 ||| 5 <<< 192 ||| 3 <<< 224 ||| 1 <<< 232 ||| 8 <<< 32 ||| 8 <<< 288 }], params := some ({ op := 3, dtype := 1, redOp := 0, exact_ := false, root := 0, length := 8 }) }] },
     { seq := 0, slot := false,
       parts := [{ inst := 0, rank := 0, wq := 3, index := 5, line := 7 ||| 5 <<< 192 ||| 3 <<< 224 ||| 1 <<< 232 ||| 8 <<< 32 ||| 8 <<< 288 }],
       params := some ({ op := 3, dtype := 1, redOp := 0, exact_ := false, root := 0, length := 8 }) },
     { inst := 0, rank := 0, wq := 3, index := 5, line := 7 ||| 5 <<< 192 ||| 3 <<< 224 ||| 1 <<< 232 ||| 8 <<< 32 ||| 8 <<< 288 }, wq0,
     (by decide +kernel), (by decide +kernel), (by decide +kernel), (by decide +kernel), (by decide +kernel), (by decide +kernel),
     (by decide +kernel), (by decide +kernel), (by decide +kernel), (by decide +kernel), (by decide +kernel), (by decide +kernel)⟩,
     ⟨{ diag with
        wqs := [(3, wq0)], cqs := [(0, cq0)], insts := [(0, inst0)], ports := [(0, hostUp)],
        coll := { groups := [(8191, { group := 5, members := [0, 1], ops := [{ seq := 0, slot := false, parts := [{ inst := 0, rank := 0, wq := 3, index := 5, line := 7 ||| 5 <<< 192 ||| 3 <<< 224 ||| 1 <<< 232 ||| 8192 <<< 32 ||| 8192 <<< 288, read := true }], params := some ({ op := 3, dtype := 1, redOp := 0, exact_ := false, root := 0, length := 8192 }), finals := [(1, { bytes := [1, 2, 3, 4], poisoned := false })] }] })] } },
     5, 0, 0, 8191, 1, 1, 0,
     { group := 5, members := [0, 1],
       ops := [{ seq := 0, slot := false, parts := [{ inst := 0, rank := 0, wq := 3, index := 5, line := 7 ||| 5 <<< 192 ||| 3 <<< 224 ||| 1 <<< 232 ||| 8192 <<< 32 ||| 8192 <<< 288, read := true }], params := some ({ op := 3, dtype := 1, redOp := 0, exact_ := false, root := 0, length := 8192 }), finals := [(1, { bytes := [1, 2, 3, 4], poisoned := false })] }] },
     { seq := 0, slot := false,
       parts := [{ inst := 0, rank := 0, wq := 3, index := 5, line := 7 ||| 5 <<< 192 ||| 3 <<< 224 ||| 1 <<< 232 ||| 8192 <<< 32 ||| 8192 <<< 288, read := true }],
       params := some ({ op := 3, dtype := 1, redOp := 0, exact_ := false, root := 0, length := 8192 }),
       finals := [(1, { bytes := [1, 2, 3, 4], poisoned := false })] },
     { inst := 0, rank := 0, wq := 3, index := 5, line := 7 ||| 5 <<< 192 ||| 3 <<< 224 ||| 1 <<< 232 ||| 8192 <<< 32 ||| 8192 <<< 288,
       read := true }, { op := 3, dtype := 1, redOp := 0, exact_ := false, root := 0, length := 8192 },
     { bytes := [1, 2, 3, 4], poisoned := false }, (by decide +kernel), (by decide +kernel), (by decide +kernel), (by decide +kernel),
     (by decide +kernel), (by decide +kernel), (by decide +kernel), (by decide +kernel), (by decide +kernel), (by decide +kernel),
     (by decide +kernel), (by decide +kernel), (by decide +kernel)⟩,
     ⟨{ diag with
        wqs := [(3, wq0)], cqs := [(0, cq0)], insts := [(0, inst0)], ports := [(0, hostUp)],
        coll := { groups := [(8191, { group := 5, members := [0, 1], treeA := 1, ops := [{ seq := 0, slot := false, parts := [{ inst := 0, rank := 0, wq := 3, index := 5, line := 7 ||| 5 <<< 192 ||| 3 <<< 224 ||| 1 <<< 232 ||| 8 <<< 32 ||| 8 <<< 288 ||| 1000 <<< 448 }], params := some ({ op := 3, dtype := 1, redOp := 0, exact_ := false, root := 0, length := 8 }) }] })] },
        routing := { arrivals := [(0, sealed { pktType := 0x09, src := 0x1000, payload := [1, 2, 3, 4], payloadLen := 4, coll := some ({ op := 3, dtype := 1, redOp := 0, exact_ := false, root := 0, length := 8 }), typeWord := 5 ||| 1 <<< 41 })] } },
     sealed
     { pktType := 0x09, src := 0x1000, payload := [1, 2, 3, 4], payloadLen := 4,
       coll := some ({ op := 3, dtype := 1, redOp := 0, exact_ := false, root := 0, length := 8 }), typeWord := 5 ||| 1 <<< 41 }, 8191,
     { group := 5, members := [0, 1], treeA := 1,
       ops := [{ seq := 0, slot := false, parts := [{ inst := 0, rank := 0, wq := 3, index := 5, line := 7 ||| 5 <<< 192 ||| 3 <<< 224 ||| 1 <<< 232 ||| 8 <<< 32 ||| 8 <<< 288 ||| 1000 <<< 448 }], params := some ({ op := 3, dtype := 1, redOp := 0, exact_ := false, root := 0, length := 8 }) }] },
     { seq := 0, slot := false,
       parts := [{ inst := 0, rank := 0, wq := 3, index := 5, line := 7 ||| 5 <<< 192 ||| 3 <<< 224 ||| 1 <<< 232 ||| 8 <<< 32 ||| 8 <<< 288 ||| 1000 <<< 448 }],
       params := some ({ op := 3, dtype := 1, redOp := 0, exact_ := false, root := 0, length := 8 }) },
     { op := 3, dtype := 1, redOp := 0, exact_ := false, root := 0, length := 8 },
     { op := 3, dtype := 1, redOp := 0, exact_ := false, root := 0, length := 8 }, (by decide +kernel), (by decide +kernel), (by decide +kernel),
     (by decide +kernel), (by decide +kernel), (by decide +kernel), (by decide +kernel), (by decide +kernel), (by decide +kernel),
     (by decide +kernel), (by decide +kernel), (by decide +kernel), (by decide +kernel), (by decide +kernel), (by decide +kernel),
     (by decide +kernel), (by decide +kernel), (by decide +kernel), (by decide +kernel)⟩,
     ⟨{ diag with
        wqs := [(3, wq0)], cqs := [(0, cq0)], insts := [(0, inst0)], ports := [(0, hostUp)],
        coll := { groups := [(8191, { group := 5, members := [0, 1], ops := [{ seq := 0, slot := false, parts := [{ inst := 0, rank := 0, wq := 3, index := 5, line := 7 ||| 5 <<< 192 ||| 3 <<< 224 ||| 1 <<< 232 ||| 8 <<< 32 ||| 8 <<< 288 }], contributed := true }] })] } },
     5, 0, 8191, 640000000,
     { group := 5, members := [0, 1],
       ops := [{ seq := 0, slot := false, parts := [{ inst := 0, rank := 0, wq := 3, index := 5, line := 7 ||| 5 <<< 192 ||| 3 <<< 224 ||| 1 <<< 232 ||| 8 <<< 32 ||| 8 <<< 288 }], contributed := true }] },
     { seq := 0, slot := false,
       parts := [{ inst := 0, rank := 0, wq := 3, index := 5, line := 7 ||| 5 <<< 192 ||| 3 <<< 224 ||| 1 <<< 232 ||| 8 <<< 32 ||| 8 <<< 288 }],
       contributed := true }, (by decide +kernel), (by decide +kernel), (by decide +kernel), (by decide +kernel), (by decide +kernel),
     (by decide +kernel), (by decide +kernel)⟩⟩

theorem witness_GroupCommandsComplete :
    (∃ (s : State) (c : Call) (group : BitVec 24) (addr : Word) (count r : Nat) (tc : BitVec 2) (a b : BitVec 13) (hint : Option ModId) (fan : Nat)
      (pinned : Bool) (list : List Nat), group ≠ 0 ∧ 1 ≤ count ∧ count ≤ 524288 ∧ addr.toNat % 4096 = 0 ∧ addr.toNat + 4 * count ≤ Config.memBytes ∧
      (list = ((List.range count).map fun i => leNat (memRead s.mem (addr.toNat + 4 * i) 4))) ∧ (((list.zip (list.drop 1)).all fun e => e.1 < e.2) =
      true) ∧ (∀ v ∈ list, v < 2 ^ 29 ∧ s.routing.valid (addrModule (BitVec.ofNat 29 v)) = true) ∧ (∃ v ∈ list, addrModule (BitVec.ofNat 29 v) =
      s.routing.moduleId) ∧ tc ≠ 3 ∧ 2 ≤ fan ∧ fan ≤ 64 ∧ (a = 0 ∧ b = 0 ∨ a ≠ 0 ∧ b ≠ 0 ∧ a ≠ b) ∧ s.groupRec group = none ∧ freeKey s.coll.groups
      Config.groupMax = some r ∧ ∃ code may, s.Executes (.groupCreate c group addr count tc a b hint fan pinned) c code may) ∧
    (∃ (s : State) (c : Call) (group : BitVec 24) (r : Nat) (g : Group), s.groupRec group = some (r, g) ∧ g.coordinator = true ∧ g.pendingCall =
      none ∧ ∃ code may, s.Executes (.groupDestroy c group) c code may) ∧
    (∃ (s : State) (c : Call) (word : Word), 10 ≤ bits word 19 0 ∧ bits word 19 0 ≤ 1000000 ∧ bits word 35 20 ≤ 8192 ∧ bits word 63 36 = 0 ∧ ∃ code
      may, s.Executes (.collCfg c word) c code may) ∧
    (∃ (s : State) (group : BitVec 24) (r : Nat) (g : Group), s.groupRec group = some (r, g) ∧ tget s.coll.groups r = some g ∧ s.quench.halted =
      false ∧ g.coordinator = true ∧ g.pinned = false ∧ g.state = 1 ∧ g.placing = 0 ∧ g.installing = [] ∧ s.striker.frozen = false ∧ g.better = 0) :=
  ⟨⟨diag, dbg, 5, 0x1000, 1, 0, 0, 1, 2, none, 64, false, [0], (by decide +kernel), (by decide +kernel), (by decide +kernel), (by decide +kernel),
     (by decide +kernel), (by decide +kernel), (by decide +kernel), (by decide +kernel), (by decide +kernel), (by decide +kernel),
     (by decide +kernel), (by decide +kernel), (.inr (by decide)), (by decide +kernel), (by decide +kernel), executes rfl (by decide +kernel)⟩,
   ⟨{ diag with coll := { groups := [(8191, { group := 5, members := [0, 1], coordinator := true })] } }, dbg, 5, 8191,
     { group := 5, members := [0, 1], coordinator := true }, (by decide +kernel), (by decide +kernel), (by decide +kernel), executes rfl
     (by decide +kernel)⟩,
   ⟨diag, dbg, 0x2000f4240, (by decide +kernel), (by decide +kernel), (by decide +kernel), (by decide +kernel), executes rfl (by decide +kernel)⟩,
     ⟨{ diag with
        wqs := [(3, wq0)], cqs := [(0, cq0)], insts := [(0, inst0)], ports := [(0, hostUp)],
        coll := { groups := [(8191, { group := 5, coordinator := true, liveCost := 1000 })] } }, 5, 8191,
     { group := 5, coordinator := true, liveCost := 1000 }, (by decide +kernel), (by decide +kernel), (by decide +kernel), (by decide +kernel),
     (by decide +kernel), (by decide +kernel), (by decide +kernel), (by decide +kernel), (by decide +kernel), (by decide +kernel)⟩⟩

theorem witness_CollectiveControlCompletes_1_to_6 :
    (∃ (s : State) (p : Packet) (c : CollCtrl) (ins : CollInstall) (r : Nat), s.CtrlTaken p 0x0 c ∧ c.install = some ins ∧ s.absentMember
      ins.members = none ∧ ((∃ g, s.groupRec c.group = some (r, g)) ∨ s.groupRec c.group = none ∧ freeKey s.coll.groups Config.groupMax = some r)) ∧
    (∃ (s : State) (p : Packet) (c : CollCtrl) (r : Nat) (g : Group), s.CtrlTaken p 0x1 c ∧ s.groupRec c.group = some (r, g) ∧ tget s.coll.groups r
      = some g) ∧
    (∃ (s : State) (p : Packet) (c : CollCtrl) (r : Nat) (g : Group), s.CtrlTaken p 0x2 c ∧ s.groupRec c.group = some (r, g) ∧ g.coordinator = true) ∧
    (∃ (s : State) (p : Packet) (c : CollCtrl) (r : Nat) (g : Group), s.CtrlTaken p 0x3 c ∧ s.groupRec c.group = some (r, g)) ∧
    (∃ (s : State) (p : Packet) (c : CollCtrl) (r : Nat) (g : Group) (o : CollOp), s.CtrlTaken p 0x4 c ∧ s.groupRec c.group = some (r, g) ∧ tget
      s.coll.groups r = some g ∧ g.coordinator = true ∧ c.ack = none ∧ g.op c.opSeq = some o ∧ (∀ m ∈ c.modules, s.fencedTo m = false)) ∧
    (∃ (s : State) (p : Packet) (c : CollCtrl) (r : Nat) (g : Group), s.CtrlTaken p 0x5 c ∧ s.groupRec c.group = some (r, g) ∧ tget s.coll.groups r
      = some g ∧ g.rc.toNat < c.rc.toNat ∧ (∀ o ∈ g.ops, serialLe c.opSeq o.seq = false)) :=
  ⟨⟨{ diag with
        insts := [(0, inst0)],
        routing := { mMinus1 := 1, arrivals := [(0, ctlPkt { ctl 0 with install := some { members := [0, 0x1000], coord := 1, tc := 0, treeA := 0, treeB := 0, pinned := false, fanMax := 2, slot := true, nodes := [{ module := 0, parent := none, children := [] }], trees := [] } })] } },
     (ctlPkt
     { ctl 0 with
       install := some { members := [0, 0x1000], coord := 1, tc := 0, treeA := 0, treeB := 0, pinned := false, fanMax := 2, slot := true, nodes := [{ module := 0, parent := none, children := [] }], trees := [] } }),
     { ctl 0 with
       install := some { members := [0, 0x1000], coord := 1, tc := 0, treeA := 0, treeB := 0, pinned := false, fanMax := 2, slot := true, nodes := [{ module := 0, parent := none, children := [] }], trees := [] } },
     { members := [0, 0x1000], coord := 1, tc := 0, treeA := 0, treeB := 0, pinned := false, fanMax := 2, slot := true,
       nodes := [{ module := 0, parent := none, children := [] }], trees := [] }, 0, ⟨by decide +kernel, by decide +kernel, by decide +kernel, rfl,
     rfl, by decide +kernel⟩, (by decide +kernel), (by decide +kernel), (.inr (by decide +kernel))⟩,
   ⟨(ctlTo { group := 5, members := [0, 0x1000], coord := 1 } (ctl 1)), (ctlPkt (ctl 1)), (ctl 1), 8191,
     { group := 5, members := [0, 0x1000], coord := 1 }, ⟨by decide +kernel, by decide +kernel, by decide +kernel, rfl, rfl, by decide +kernel⟩,
     (by decide +kernel), (by decide +kernel)⟩,
   ⟨(ctlTo
     { group := 5, members := [0, 0x1000], coordinator := true, others := [1], ops := [{ seq := 2, slot := true, probes := [] }],
       nodes1 := [{ module := 1, parent := some 1, children := [] }, { module := 0, parent := none, children := [0] }] } (ctl 2)), (ctlPkt (ctl 2)),
     (ctl 2), 8191,
     { group := 5, members := [0, 0x1000], coordinator := true, others := [1], ops := [{ seq := 2, slot := true, probes := [] }],
       nodes1 := [{ module := 1, parent := some 1, children := [] }, { module := 0, parent := none, children := [0] }] }, ⟨by decide +kernel,
     by decide +kernel, by decide +kernel, rfl, rfl, by decide +kernel⟩, (by decide +kernel), (by decide +kernel)⟩,
   ⟨(ctlTo
     { group := 5, members := [0, 0x1000], coord := 1,
       nodes1 := [{ module := 1, parent := some 1, children := [] }, { module := 0, parent := none, children := [0] }] } (ctl 3)), (ctlPkt (ctl 3)),
     (ctl 3), 8191,
     { group := 5, members := [0, 0x1000], coord := 1,
       nodes1 := [{ module := 1, parent := some 1, children := [] }, { module := 0, parent := none, children := [0] }] }, ⟨by decide +kernel,
     by decide +kernel, by decide +kernel, rfl, rfl, by decide +kernel⟩, (by decide +kernel)⟩,
   ⟨(ctlTo
     { group := 5, members := [0, 0x1000], coordinator := true, others := [1], ops := [{ seq := 2, slot := true, probes := [] }],
       nodes1 := [{ module := 1, parent := some 1, children := [] }, { module := 0, parent := none, children := [0] }] }
     { ctl 4 with modules := [1, 1] }), (ctlPkt { ctl 4 with modules := [1, 1] }), { ctl 4 with modules := [1, 1] }, 8191,
     { group := 5, members := [0, 0x1000], coordinator := true, others := [1], ops := [{ seq := 2, slot := true, probes := [] }],
       nodes1 := [{ module := 1, parent := some 1, children := [] }, { module := 0, parent := none, children := [0] }] },
     { seq := 2, slot := true, probes := [] }, ⟨by decide +kernel, by decide +kernel, by decide +kernel, rfl, rfl, by decide +kernel⟩,
     (by decide +kernel), (by decide +kernel), (by decide +kernel), (by decide +kernel), (by decide +kernel), (fun _ _ => rfl)⟩,
   ⟨(ctlTo { group := 5, members := [0, 0x1000], coord := 1 } (ctl 5)), (ctlPkt (ctl 5)), (ctl 5), 8191,
     { group := 5, members := [0, 0x1000], coord := 1 }, ⟨by decide +kernel, by decide +kernel, by decide +kernel, rfl, rfl, by decide +kernel⟩,
     (by decide +kernel), (by decide +kernel), (by decide +kernel), (by decide +kernel)⟩⟩

theorem witness_CollectiveControlCompletes_7_to_12 :
    (∃ (s : State) (p : Packet) (c : CollCtrl) (r : Nat) (g : Group), s.CtrlTaken p 0x6 c ∧ s.groupRec c.group = some (r, g) ∧ g.op c.opSeq = none) ∧
    (∃ (s : State) (p : Packet) (c : CollCtrl) (r : Nat) (g : Group), s.CtrlTaken p 0x7 c ∧ s.groupRec c.group = some (r, g) ∧ tget s.coll.groups r
      = some g ∧ c.modules = [] ∧ g.coordinator = true ∧ g.recoverSeq = c.opSeq ∧ addrModule p.src ∈ g.finalsDue ∧ (∃ m ∈ g.finalsDue, m ≠
      addrModule p.src)) ∧
    (∃ (s : State) (p : Packet) (c : CollCtrl) (r : Nat) (g : Group), s.CtrlTaken p 0x8 c ∧ s.groupRec c.group = some (r, g) ∧ tget s.coll.groups r
      = some g ∧ g.state ≠ 3) ∧
    (∃ (s : State) (p : Packet) (c : CollCtrl) (r d : Nat) (g : Group) (o : CollOp) (n x y : CollNode), s.CtrlTaken p 0x9 c ∧ s.groupRec c.group =
      some (r, g) ∧ tget s.coll.groups r = some g ∧ g.op c.opSeq = some o ∧ (((numbered (g.nodes o.slot)).find? fun e => e.2.module == addrModule
      p.src && !o.doneFrom.contains e.1 && (e.2.parent.bind fun q => ((g.nodes o.slot)[q]?).map (·.module)) == some s.routing.moduleId) = some (d,
      n)) ∧ (g.nodes o.slot)[d]? = some x ∧ (∃ q, x.parent = some q ∧ (g.nodes o.slot)[q]? = some y) ∧ y.module = s.routing.moduleId ∧ (∃ k ∈
      y.children, k ∉ nset o.doneFrom d)) ∧
    (∃ (s : State) (p : Packet) (c : CollCtrl) (r : Nat) (g : Group), s.CtrlTaken p 0xa c ∧ s.groupRec c.group = some (r, g) ∧ tget s.coll.groups r
      = some g) ∧
    (∃ (s : State) (p : Packet) (c : CollCtrl) (r : Nat) (g : Group), s.CtrlTaken p 0xb c ∧ s.groupRec c.group = some (r, g)) :=
  ⟨⟨(ctlTo
     { group := 5, members := [0, 0x1000], coord := 1,
       nodes1 := [{ module := 1, parent := some 1, children := [] }, { module := 0, parent := none, children := [0] }] } (ctl 6)), (ctlPkt (ctl 6)),
     (ctl 6), 8191,
     { group := 5, members := [0, 0x1000], coord := 1,
       nodes1 := [{ module := 1, parent := some 1, children := [] }, { module := 0, parent := none, children := [0] }] }, ⟨by decide +kernel,
     by decide +kernel, by decide +kernel, rfl, rfl, by decide +kernel⟩, (by decide +kernel), (by decide +kernel)⟩,
   ⟨(ctlTo { group := 5, members := [0, 0x1000, 0x2000], coordinator := true, recoverSeq := 2, finalsDue := [1, 2], others := [1, 2] } (ctl 7)),
     (ctlPkt (ctl 7)), (ctl 7), 8191,
     { group := 5, members := [0, 0x1000, 0x2000], coordinator := true, recoverSeq := 2, finalsDue := [1, 2], others := [1, 2] },
     ⟨by decide +kernel, by decide +kernel, by decide +kernel, rfl, rfl, by decide +kernel⟩, (by decide +kernel), (by decide +kernel),
     (by decide +kernel), (by decide +kernel), (by decide +kernel), (by decide +kernel), ⟨2, by decide, by decide⟩⟩,
   ⟨(ctlTo { group := 5, members := [0, 0x1000], coord := 1 } (ctl 8)), (ctlPkt (ctl 8)), (ctl 8), 8191,
     { group := 5, members := [0, 0x1000], coord := 1 }, ⟨by decide +kernel, by decide +kernel, by decide +kernel, rfl, rfl, by decide +kernel⟩,
     (by decide +kernel), (by decide +kernel), (by decide +kernel)⟩,
   ⟨(ctlTo
     { group := 5, members := [0, 0x1000, 0x2000], others := [1, 2], ops := [{ seq := 2, slot := true, probes := [] }],
       nodes1 := [{ module := 1, parent := some 2, children := [] }, { module := 2, parent := some 2, children := [] }, { module := 0, parent := none, children := [0, 1] }] }
     (ctl 9)), (ctlPkt (ctl 9)), (ctl 9), 8191, 0,
     { group := 5, members := [0, 0x1000, 0x2000], others := [1, 2], ops := [{ seq := 2, slot := true, probes := [] }],
       nodes1 := [{ module := 1, parent := some 2, children := [] }, { module := 2, parent := some 2, children := [] }, { module := 0, parent := none, children := [0, 1] }] },
     { seq := 2, slot := true, probes := [] }, { module := 1, parent := some 2, children := [] }, { module := 1, parent := some 2, children := [] },
     { module := 0, parent := none, children := [0, 1] }, ⟨by decide +kernel, by decide +kernel, by decide +kernel, rfl, rfl, by decide +kernel⟩,
     (by decide +kernel), (by decide +kernel), (by decide +kernel), (by decide +kernel), (by decide +kernel), ⟨_, rfl, rfl⟩, (by decide +kernel),
     (by decide +kernel)⟩,
   ⟨(ctlTo
     { group := 5, members := [0, 0x1000], coordinator := true, others := [1], ops := [{ seq := 2, slot := true, probes := [] }],
       nodes1 := [{ module := 1, parent := some 1, children := [] }, { module := 0, parent := none, children := [0] }] } (ctl 0xa)), (ctlPkt (ctl
     0xa)), (ctl 0xa), 8191,
     { group := 5, members := [0, 0x1000], coordinator := true, others := [1], ops := [{ seq := 2, slot := true, probes := [] }],
       nodes1 := [{ module := 1, parent := some 1, children := [] }, { module := 0, parent := none, children := [0] }] }, ⟨by decide +kernel,
     by decide +kernel, by decide +kernel, rfl, rfl, by decide +kernel⟩, (by decide +kernel), (by decide +kernel)⟩,
   ⟨(ctlTo { group := 5, members := [0, 0x1000], coord := 1 } (ctl 0xb)), (ctlPkt (ctl 0xb)), (ctl 0xb), 8191,
     { group := 5, members := [0, 0x1000], coord := 1 }, ⟨by decide +kernel, by decide +kernel, by decide +kernel, rfl, rfl, by decide +kernel⟩,
     (by decide +kernel)⟩⟩

theorem witness_PlacementCommandsComplete :
    (∃ (s : State) (c : Call) (k : Nat) (x : Ctx) (h : Hint), ((s.authOf c.via).isM = true ∨ s.authOf c.via = .inst (k / 64)) ∧ s.ctx k = some x ∧
      x.state ≠ 3 ∧ ((∃ n, h = .pinCell k (some n) ∧ n < 4096 ∧ (s.cell n).role = 1 ∧ (s.cell n).state ≠ 2) ∨ h = .pinCell k none ∨ (∃ m, h =
      .quadrantMask k m ∧ m ≠ 0) ∨ (∃ on, h = .noMigrate k on) ∨ ∃ a b, h = .tierLimits k a b) ∧ ∃ code may, s.Executes (.placeHint c h) c code may) ∧
    (∃ (s : State) (c : Call) (t : Nat) (home : BitVec 2), (s.tally t).allocated = true ∧ ((s.authOf c.via).isM = true ∨ s.authOf c.via = .inst
      (s.tally t).inst.toNat) ∧ home ≠ 3 ∧ ∃ code may, s.Executes (.placeHint c (.tallyHome t home)) c code may) ∧
    (∃ (s : State) (c : Call) (n : Nat), (s.authOf c.via).isM = true ∧ n < 4096 ∧ (s.cell n).state ≠ 2 ∧ (s.cell n).objects ≠ 0 ∧ ∃ code may,
      s.Executes (.placeHint c (.drainCell n)) c code may) ∧
    (∃ (s : State) (c : Call) (g : BitVec 24) (hint : Option ModId) (fan : Nat) (pinned : Bool) (r : Nat) (x : Group), (s.authOf c.via).isM = true ∧
      2 ≤ fan ∧ fan ≤ 64 ∧ s.groupRec g = some (r, x) ∧ tget s.coll.groups r = some x ∧ x.coordinator = true ∧ ∃ code may, s.Executes (.placeHint c
      (.group g hint fan pinned)) c code may) ∧
    (∃ (s : State) (c : Call) (enable : Bool), (enable = true → s.striker.logRing.isSome = true) ∧ ∃ code may, s.Executes (.placeLog c enable 0) c
      code may) ∧
    (∃ (s : State) (c : Call) (enable : Bool) (k o : Nat), s.striker.logRing = none ∧ (s.allocArea c.via (64 + 32 * 2 ^ k)).map (·.1) = some o ∧ ∃
      code may, s.Executes (.placeLog c enable (2 ^ k)) c code may) ∧
    (∃ (s : State) (c : Call), ∃ code may, s.Executes (.placeSummary c) c code may) ∧
    (∃ (s : State) (c : Call) (word : Word), 10 ≤ bits word 9 0 ∧ bits word 9 0 ≤ 1000 ∧ 1 ≤ bits word 16 10 ∧ bits word 16 10 ≤ 100 ∧ bits word 23
      17 < bits word 16 10 ∧ 1 ≤ bits word 45 32 ∧ bits word 45 32 ≤ 10000 ∧ 1 ≤ bits word 52 46 ∧ bits word 52 46 ≤ 100 ∧ bits word 59 53 ≤ 100 ∧
      bits word 63 60 = 0 ∧ ∃ code may, s.Executes (.strikerCfg c word) c code may) :=
  ⟨⟨{ diag with matching := { ctxs := [(63, {})] }, striker := { cells := [(4095, { role := 1 })] } }, dbg, 63, _, .pinCell 63 (some 4095),
     (by decide +kernel), rfl, (by decide +kernel), (.inl ⟨_, rfl, by decide, rfl, by decide⟩), executes rfl (by decide +kernel)⟩,
   ⟨{ diag with remote := { tallies := [(5, {})] } }, dbg, 5, 2, (by decide +kernel), (by decide +kernel), (by decide +kernel), executes rfl
     (by decide +kernel)⟩,
   ⟨{ diag with striker := { cells := [(4095, { role := 1, state := 1, objects := 1 })] } }, dbg, 4095, (by decide +kernel), (by decide +kernel),
     (by decide +kernel), (by decide +kernel), executes rfl (by decide +kernel)⟩,
   ⟨{ diag with coll := { groups := [(8191, { group := 5, coordinator := true })] } }, dbg, 5, some 0, 64, true, 8191, _, (by decide +kernel),
     (by decide +kernel), (by decide +kernel), rfl, rfl, (by decide +kernel), executes rfl (by decide +kernel)⟩,
   ⟨{ diag with striker := { logRing := some (0, 1) } }, dbg, true, (by decide +kernel), executes rfl (by decide +kernel)⟩,
   ⟨diag, dbg, true, 0, 0, (by decide +kernel), (by decide +kernel), executes rfl (by decide +kernel)⟩,
   ⟨diag, dbg, executes rfl (by decide +kernel)⟩,
   ⟨diag, dbg, 0xc99271000c793e8, (by decide +kernel), (by decide +kernel), (by decide +kernel), (by decide +kernel), (by decide +kernel),
     (by decide +kernel), (by decide +kernel), (by decide +kernel), (by decide +kernel), (by decide +kernel), (by decide +kernel), executes rfl
     (by decide +kernel)⟩⟩

theorem witness_PlacementRuns :
    (∃ (s : State) (now : Ticks), s.quench.halted = false ∧ s.striker.epochLast.toNat / us s.striker.periodUs.toNat < (s.advance now).time.now.toNat
      / us s.striker.periodUs.toNat) ∧
    (∃ (s : State) (k d : Nat) (c : Ctx), s.ctx k = some c ∧ c.moving = some d ∧ c.held = [] ∧ s.quench.halted = false ∧ (s.cell
      c.homeCell.toNat).state ≠ 2 ∧ (s.cell d).state ≠ 2) ∧
    (∃ (s : State) (k : Nat) (c : Ctx) (src : Endpoint) (tag : BitVec 32) (m : Msg), s.quench.halted = false ∧ s.ctx k = some c ∧ c.demoting = some
      (src, tag) ∧ ((c.unexp.find? fun m => sameMsg m src tag) = some m) ∧ bit c.grants 1 = true ∧ ((s.modCtx k fun c =>
      { c with demoting := none }).tierTakes c 1 (sumOf (m.packets.map fun p => p.payloadLen.toNat)) = true)) ∧
    (∃ (s : State) (n d : Nat), s.quench.halted = false ∧ (s.tally n).moving = some d ∧ (∀ e, d = e + 1 → (s.cell e).state ≠ 2) ∧ (s.tally
      n).heldAdds = []) ∧
    (∃ (s : State) (m : ModId), m ∈ s.striker.queried ∧ (∀ e ∈ s.coll.groups, m ∉ e.2.waiting)) ∧
    (∃ (s : State) (n : Nat), (s.cell n).testing = true) ∧
    (∃ (s : State) (n : Nat), (s.cell n).testing = true) ∧
    (∃ (s : State) (n sp : Nat), tget s.striker.substituting n = some sp ∧ sp ≠ 4096 ∧ sp ≠ n) :=
  ⟨⟨{ hearth := { mode := .transit }, striker := { running := true, frozen := true } }, 6400000, (by decide +kernel), (by decide +kernel)⟩,
   ⟨{ matching := { ctxs := [(63, { moving := some 4095 })] } }, 63, 4095, _, rfl, (by decide +kernel), (by decide +kernel), (by decide +kernel),
     (by decide +kernel), (by decide +kernel)⟩,
     ⟨{ matching := { ctxs := [(63, { demoting := some (0x1000, 6), moduleLimit := 100, unexp := [{ src := 0x1000, dst := 0, tc := 0, tag := 6, key := 0, matchBits := 5, rdv := false, length := some 2, packets := [{ payloadLen := 2, payload := [1, 2] }], tier := 2, hostAt := [(0, 2)] }] })] } },
     63, _, 0x1000, 6, _, (by decide +kernel), rfl, (by decide +kernel), rfl, (by decide +kernel), (by decide +kernel)⟩,
   ⟨{ remote := { tallies := [(5, { moving := some 4096 })] } }, 5, 4096, (by decide +kernel), (by decide +kernel), (by rintro e ⟨⟩; decide),
     (by decide +kernel)⟩,
   ⟨{ striker := { queried := [0x1ffff] } }, 0x1ffff, (by decide +kernel), (by decide +kernel)⟩,
   ⟨{ striker := { cells := [(4095, { testing := true, state := 2 })] } }, 4095, (by decide +kernel)⟩,
   ⟨{ striker := { cells := [(4095, { testing := true, state := 2 })] } }, 4095, (by decide +kernel)⟩,
   ⟨{ striker := { cells := [(7, { role := 2, state := 1, objects := 3 })], substituting := [(7, 4095)] } }, 7, 4095, (by decide +kernel),
     (by decide +kernel), (by decide +kernel)⟩⟩

theorem witness_InstanceCommandsComplete :
    (∃ (s : State) (c : Call) (port i : Nat) (inst : Option Nat) (grants : List Nat) (shaping : List Word) (cls : BitVec 4) (limit : Nat), port < 4
      ∧ (inst = some i ∧ i < 1024 ∨ inst = none ∧ (List.range 1024).find? (fun i => (s.inst i).state == .free) = some i) ∧ (s.inst i).state = .free
      ∧ (∀ w ∈ shaping, badShaping w = false) ∧ limit ≤ 65536 ∧ (s.grantsFail port (fun _ => 0) (numbered grants ++ if grants.length ≤ 8 then [(8,
      1)] else []) = none) ∧ (((numbered ((List.range 3).map fun t => shaping.getD t 0x0000010000000000)).find? fun e => decide (s.pool 9 <
      s.sharesUsed e.1 + shapeShare e.2)) = none) ∧ ∃ code may, s.Executes (.instCreate c port inst grants shaping cls limit) c code may) ∧
    (∃ (s : State) (c : Call) (i vectors : Nat) (vf : Option Nat), i < 1024 ∧ ((s.inst i).state = .closed ∨ (s.inst i).state = .held) ∧ (∀ v, vf =
      some v → v < 256 ∧ 1 ≤ vectors ∧ vectors ≤ 256 ∧ vectors ≤ s.grant i 8 ∧ ∀ j, s.boundInst (s.inst i).port.toNat v = some j → j = i) ∧ ∃ code
      may, s.Executes (.instBind c i vf vectors) c code may) ∧
    (∃ (s : State) (c : Call) (i row v : Nat), i < 1024 ∧ (s.inst i).state ≠ .free ∧ row < 9 ∧ s.grantsFail (s.inst i).port.toNat (s.grant i) [(row,
      v)] = none ∧ (v < s.grant i row → s.used i row ≤ v) ∧ ∃ code may, s.Executes (.instGrant c i [(row, v)]) c code may) ∧
    (∃ (s : State) (c : Call) (i cls : Nat) (entry : Word), i < 1024 ∧ cls < 3 ∧ badShaping entry = false ∧ (s.inst i).state ≠ .free ∧ s.shareFails
      i (9 + cls, shapeShare entry) = none ∧ ∃ code may, s.Executes (.shaping c i cls entry) c code may) ∧
    (∃ (s : State) (c : Call) (inst : Option Nat) (window i : Nat) (entry : BitVec 256) (r : Reply), s.forInst (s.authOf c.via) inst = (some i, r) ∧
      window < 4096 ∧ bits entry 127 118 = 0 ∧ bits entry 159 157 = 0 ∧ bits entry 255 189 = 0 ∧ bits entry 63 0 % 64 = 0 ∧ 1 ≤ bits entry 112 64 ∧
      bits entry 112 64 ≤ 2 ^ 48 ∧ (bit entry 113 = true → bits entry 63 0 + bits entry 112 64 ≤ Config.memBytes ∧ ∀ g, bits entry 63 0 /
      Config.segBytes ≤ g → g ≤ (bits entry 63 0 + bits entry 112 64 - 1) / Config.segBytes → g ∈ (s.inst i).segments) ∧ ∃ code may, s.Executes
      (.windowWrite c inst window entry) c code may) ∧
    (∃ (s : State) (c : Call) (i k : Nat) (mode : BitVec 2) (base va : Word) (clear : Bool), i < 1024 ∧ s.reaches (s.authOf c.via) i = true ∧
      (s.inst i).state ≠ .free ∧ mode ≠ 3 ∧ (mode = 1 → 19 ≤ k ∧ k ≤ 37) ∧ (mode = 2 → 6 ≤ k ∧ k ≤ 20) ∧ (mode = 1 → base.toNat % 4096 = 0 ∧
      va.toNat % (4096 * 2 ^ k) = 0) ∧ ∃ code may, s.Executes (.dirtyLog c i mode base k va clear) c code may) ∧
    (∃ (s : State) (c : Call) (i : Nat), i < 1024 ∧ s.reaches (s.authOf c.via) i = true ∧ (s.inst i).state ≠ .free ∧ ∃ code may, s.Executes
      (.dirtyFlush c i) c code may) :=
  ⟨⟨diag, dbg, 3, 1023, some 1023, [16384, 16384], [0x0000010000000000], 15, 65536, (by decide +kernel), (by decide +kernel), (by decide +kernel),
     (List.forall_mem_singleton.mpr (by decide +kernel)), (by decide +kernel), (by decide +kernel), (by decide +kernel), executes rfl
     (by decide +kernel)⟩,
   ⟨{ diag with insts := [(1023, { state := .closed, grants := List.replicate 9 256 })] }, dbg, 1023, 256, some 255, (by decide +kernel),
     (by decide +kernel), (by rintro v ⟨⟩; exact ⟨by decide, by decide, by decide, by decide, by rintro j ⟨⟩⟩), executes rfl (by decide +kernel)⟩,
   ⟨{ diag with insts := [(1023, { state := .active })] }, dbg, 1023, 7, 0, (by decide +kernel), (by decide +kernel), (by decide +kernel),
     (by decide +kernel), (by decide +kernel), executes rfl (by decide +kernel)⟩,
   ⟨{ diag with insts := [(1023, { state := .active })] }, dbg, 1023, 2, 0x0000010000000000, (by decide +kernel), (by decide +kernel),
     (by decide +kernel), (by decide +kernel), (by decide +kernel), executes rfl (by decide +kernel)⟩,
   ⟨{ diag with insts := [(0, { inst0 with segments := [511] })] }, dbg, some 0, 4095, 0, (0x1ff0000000#256 ||| 0x10000000#256 <<< 64 ||| 6#256 <<<
     112), _, rfl, (by decide +kernel), (by decide +kernel), (by decide +kernel), (by decide +kernel), (by decide +kernel), (by decide +kernel),
     (by decide +kernel),
     (by intro _; refine ⟨by decide +kernel, fun g h1 h2 => ?_⟩; have a : 511 ≤ g := h1; have b : g ≤ 511 := h2; have e : g = 511 := (by omega); rw [e]; decide),
     executes rfl (by decide +kernel)⟩,
   ⟨{ diag with insts := [(1023, { state := .active, overflow := true })] }, dbg, 1023, 37, 1, 0x1000, 0x2000000000000, true, (by decide +kernel),
     (by decide +kernel), (by decide +kernel), (by decide +kernel), (by decide +kernel), (by decide +kernel), (by decide +kernel), executes rfl
     (by decide +kernel)⟩,
   ⟨{ diag with insts := [(1023, { state := .active })] }, dbg, 1023, (by decide +kernel), (by decide +kernel), (by decide +kernel), executes rfl
     (by decide +kernel)⟩⟩

theorem witness_InstanceLifeCompletes :
    (∃ (s : State) (c : Call) (word : Word), bits word 63 10 = 0 ∧ (s.inst (bits word 9 0)).state ∈ [IState.closed, .active, .held, .frozen] ∧ (∀ e
      ∈ s.coll.groups, endpointOf s.routing.moduleId (s.inst (bits word 9 0)).port.toNat (bits word 9 0) ∉ e.2.members) ∧ ∃ code may, s.Executes
      (.instReset c word) c code may) ∧
    (∃ (s : State) (c : Call) (word : Word), bits word 31 10 = 0 ∧ bits word 63 48 = 0 ∧ s.reaches (s.authOf c.via) (bits word 9 0) = true ∧ ∃ code
      may, s.Executes (.instQuery c word) c code may) ∧
    (∃ (s : State) (c : Call) (i : Nat), i < 1024 ∧ s.reaches (s.authOf c.via) i = true ∧ (s.inst i).state = .held ∧ ∃ code may, s.Executes
      (.instReopen c i) c code may) ∧
    (∃ (s : State) (c : Call) (i : Nat), i < 1024 ∧ (s.inst i).state ∈ [IState.closed, .active, .held, .frozen] ∧ (∀ e ∈ s.coll.groups, endpointOf
      s.routing.moduleId (s.inst i).port.toNat i ∉ e.2.members) ∧ ∃ code may, s.Executes (.instDestroy c i) c code may) ∧
    (∃ (s : State) (c : Call) (i : Nat), i < 1024 ∧ (s.inst i).state = .active ∧ ∃ code may, s.Executes (.instQuiesce c i) c code may) ∧
    (∃ (s : State) (c : Call) (i : Nat), i < 1024 ∧ (s.inst i).state = .frozen ∧ ∃ code may, s.Executes (.instExport c i) c code may) ∧
    (∃ (s : State) (c : Call) (i : Nat) (ref : DataRef), i < 1024 ∧ s.refOk c.via ref = true ∧ (s.inst i).state = .closed ∧ ∃ code may, s.Executes
      (.instImport c i ref) c code may) ∧
    (∃ (s : State) (i : Nat), (s.inst i).state = .resetting ∧ (s.inst i).sweeping = false ∧ s.inFlight i = 0 ∧ (s.inst i).destroy = false) ∧
    (∃ (s : State) (i : Nat) (now : Ticks), (s.inst i).state = .resetting ∧ (s.inst i).sweeping = false ∧ (s.inst i).destroy = false ∧ us 100 ≤
      ((s.advance now).time.now - (s.inst i).since).toNat) ∧
    (∃ (s : State) (i : Nat), (s.inst i).sweeping = true) ∧
    (∃ (s : State) (i : Nat), (s.inst i).quiescing = true ∧ s.inFlight i = 0) :=
  ⟨⟨{ diag with insts := [(1023, { state := .frozen })] }, dbg, 1023, (by decide +kernel), (by decide +kernel), (by decide +kernel), executes rfl
     (by decide +kernel)⟩,
   ⟨{ diag with insts := [(1023, { state := .active })] }, dbg, 0x3ff, (by decide +kernel), (by decide +kernel), (by decide +kernel), executes rfl
     (by decide +kernel)⟩,
   ⟨{ diag with insts := [(1023, { state := .held })] }, dbg, 1023, (by decide +kernel), (by decide +kernel), (by decide +kernel), executes rfl
     (by decide +kernel)⟩,
   ⟨{ diag with insts := [(1023, { state := .active })] }, dbg, 1023, (by decide +kernel), (by decide +kernel), (by decide +kernel), executes rfl
     (by decide +kernel)⟩,
   ⟨{ diag with insts := [(1023, { state := .active })] }, dbg, 1023, (by decide +kernel), (by decide +kernel), executes rfl (by decide +kernel)⟩,
   ⟨{ diag with insts := [(1023, { state := .frozen })] }, dbg, 1023, (by decide +kernel), (by decide +kernel), executes rfl (by decide +kernel)⟩,
     ⟨{ diag with
        insts := [(1023, { state := .closed })],
        hearth := { mode := .diagnostic, ready := true, staging := [(0, { owner := .debug, addr := stagingBase, mib := 1 })] } }, dbg, 1023,
     { addr := 0x10000000, len := 4096, zero := 0 }, (by decide +kernel), (by decide +kernel), (by decide +kernel), executes rfl
     (by decide +kernel)⟩,
   ⟨{ diag with insts := [(1023, { state := .resetting })] }, 1023, (by decide +kernel), (by decide +kernel), (by decide +kernel),
     (by decide +kernel)⟩,
   ⟨{ diag with insts := [(1023, { state := .resetting })] }, 1023, 6400000, (by decide +kernel), (by decide +kernel), (by decide +kernel),
     (by decide +kernel)⟩,
     ⟨{ diag with
        insts := [(1023, { state := .held, sweeping := true, epoch := 1 })],
        remote := { srcOps := [{ src := 1023, tag := 0, kind := .put, inst := 1023 }] } }, 1023, (by decide +kernel)⟩,
   ⟨{ diag with insts := [(1023, { state := .active, quiescing := true })] }, 1023, (by decide +kernel), (by decide +kernel)⟩⟩

theorem witness_BuffersComplete :
    (∃ (s : State) (c : Call) (offset : BitVec 32) (n : Nat) (a : Area), 1 ≤ n ∧ n ≤ 992 ∧ a ∈ s.hearth.areas ∧ sameArrival a.owner c.via = true ∧
      a.offset ≤ offset.toNat ∧ offset.toNat + n ≤ a.offset + a.length ∧ ∃ code may, s.Executes (.reportRead c offset n) c code may) ∧
    (∃ (s : State) (c : Call) (mib h o : Nat), 1 ≤ mib ∧ mib ≤ 64 ∧ freeKey s.hearth.staging 32 = some h ∧ (firstFit (s.hearth.staging.map fun e =>
      (e.2.addr - stagingBase, e.2.mib * 1048576)) 1048576 Config.segBytes (mib * 1048576) = some o) ∧ ∃ code may, s.Executes (.stageOpen c mib) c
      code may) ∧
    (∃ (s : State) (c : Call) (h : Nat) (offset : BitVec 32) (data : List Byte) (b : Staging), s.buffer c.via h = some b ∧ data ≠ [] ∧ data.length ≤
      1000 ∧ offset.toNat + data.length ≤ b.mib * 1048576 ∧ ∃ code may, s.Executes (.stageWrite c h offset data) c code may) ∧
    (∃ (s : State) (c : Call) (h : Nat) (b : Staging), s.buffer c.via h = some b ∧ ∃ code may, s.Executes (.stageClose c h) c code may) ∧
    (∃ (s : State) (c : Call) (qs : List (BitVec 32)) (ns : Nat) (enable : Bool), (∀ q ∈ qs, qidOk q = true) ∧ 1000 ≤ ns ∧ ns ≤ 1000000000 ∧ (enable
      = true → s.sched.sampleRing.isSome = true) ∧ ∃ code may, s.Executes (.sampling c qs ns enable 0) c code may) ∧
    (∃ (s : State) (c : Call) (qs : List (BitVec 32)) (ns : Nat) (enable : Bool) (n o : Nat), (∀ q ∈ qs, qidOk q = true) ∧ 1000 ≤ ns ∧ ns ≤
      1000000000 ∧ n ≠ 0 ∧ s.sched.sampleRing = none ∧ (s.allocArea c.via (32 * n)).map (·.1) = some o ∧ ∃ code may, s.Executes (.sampling c qs ns
      enable n) c code may) :=
  ⟨⟨{ hearth := { mode := .diagnostic, ready := true, staging := [(3, { owner := .debug, addr := stagingBase, mib := 1 })], areas := [{ owner := .debug, offset := 64, length := 992 }] } },
     dbg, 64, 992, { owner := .debug, offset := 64, length := 992 }, (by decide +kernel), (by decide +kernel), (by decide +kernel),
     (by decide +kernel), (by decide +kernel), (by decide +kernel), executes rfl (by decide +kernel)⟩,
     ⟨{ hearth := { mode := .diagnostic, ready := true, staging := [(3, { owner := .debug, addr := stagingBase, mib := 1 })], areas := [{ owner := .debug, offset := 64, length := 992 }] } },
     dbg, 64, 0, 0x100000, (by decide +kernel), (by decide +kernel), (by decide +kernel), (by decide +kernel), executes rfl (by decide +kernel)⟩,
     ⟨{ hearth := { mode := .diagnostic, ready := true, staging := [(3, { owner := .debug, addr := stagingBase, mib := 1 })], areas := [{ owner := .debug, offset := 64, length := 992 }] } },
     dbg, 3, 0xffffc, [1, 2, 3, 4], _, rfl, (by decide +kernel), (by decide +kernel), (by decide +kernel), executes rfl (by decide +kernel)⟩,
     ⟨{ hearth := { mode := .diagnostic, ready := true, staging := [(3, { owner := .debug, addr := stagingBase, mib := 1 })], areas := [{ owner := .debug, offset := 64, length := 992 }] } },
     dbg, 3, _, rfl, executes rfl (by decide +kernel)⟩,
   ⟨diag, dbg, [5], 1000000000, false, (List.forall_mem_singleton.mpr (by decide)), (by decide +kernel), (by decide +kernel), (by decide +kernel),
     executes rfl (by decide +kernel)⟩,
   ⟨diag, dbg, [5], 1000, true, 1, 0, (List.forall_mem_singleton.mpr (by decide)), (by decide +kernel), (by decide +kernel), (by decide +kernel),
     (by decide +kernel), (by decide +kernel), executes rfl (by decide +kernel)⟩⟩

theorem witness_RoutingCommandsComplete :
    (∃ (s : State) (c : Call) (id : ModId) (p g m ws wg : Nat), (s.hearth.mode = .hearthBoot ∨ s.hearth.mode = .linkBringup) ∧ shapeOk (p + 1) (g +
      1) (m + 1) ws wg = true ∧ idValidIn (p + 1) (g + 1) (m + 1) id = true ∧ ∃ code may, s.Executes (.machineIdentity c id p g m ws wg) c code may) ∧
    (∃ (s : State) (c : Call) (word : Word), s.routing.idValid = true ∧ bits word 5 0 ≠ 63 ∧ bits word 63 30 = 0 ∧ (bit word 29 = true → bits word
      22 6 = 0 ∧ bits word 28 23 = 0) ∧ (bit word 29 = false → s.routing.valid (BitVec.ofNat 17 (bits word 22 6)) = true ∧ bits word 28 23 ≠ 63) ∧ ∃
      code may, s.Executes (.portReassign c word) c code may) ∧
    (∃ (s : State) (c : Call) (first count : Nat) (set : Bool), 1 ≤ count ∧ count ≤ 4096 ∧ first + count ≤ 131072 ∧ ∃ code may, s.Executes (.holeSet
      c first count set) c code may) ∧
    (∃ (s : State) (c : Call) (gen : BitVec 32) (ref : DataRef), s.refOk c.via ref = true ∧ ref.len = 9728 ∧ gen = s.routing.activeGen + 1 ∧
      s.routing.otherBank ≠ .retiring ∧ s.routing.swapScheduled = false ∧ s.routing.checkBank (s.refBytes ref) = none ∧ ∃ code may, s.Executes
      (.routeLoad c gen false ref) c code may) ∧
    (∃ (s : State) (c : Call) (gen : BitVec 32) (ref : DataRef), s.refOk c.via ref = true ∧ ref.len = 9728 ∧ (s.hearth.mode = .linkBringup ∨
      isService s.hearth.mode = true) ∧ s.routing.swapScheduled = false ∧ gen ≠ s.routing.activeGen ∧ s.routing.checkBank (s.refBytes ref) = none ∧
      ∃ code may, s.Executes (.routeLoad c gen true ref) c code may) ∧
    (∃ (s : State) (c : Call) (gen : BitVec 32) (at_ : Ticks), s.routing.otherBank = .pending ∧ (s.routing.bank !s.routing.activeBank).gen =
      s.routing.activeGen + 1 ∧ gen = s.routing.activeGen + 1 ∧ s.tooSoon at_ = false ∧ s.routing.swapScheduled = false ∧ ∃ code may, s.Executes
      (.routeSwap c gen at_ false) c code may) ∧
    (∃ (s : State) (c : Call) (gen : BitVec 32) (at_ : Ticks), s.routing.swapScheduled = true ∧ gen = s.routing.swapGen ∧ ∃ code may, s.Executes
      (.routeSwap c gen at_ true) c code may) ∧
    (∃ (s : State) (c : Call) (d e : Word), bits d 7 0 ≠ 0 ∧ bits d 13 12 ≠ 3 ∧ bits d 15 14 ≠ 3 ∧ bits d 17 16 ≠ 3 ∧ 10 ≤ bits d 29 18 ∧ bits d 63
      30 = 0 ∧ 2 ≤ bits e 13 0 ∧ bits e 13 0 ≤ 10000 ∧ bits e 21 14 ≠ 0 ∧ bits e 63 22 = 0 ∧ ∃ code may, s.Executes (.routeCfg c d e) c code may) ∧
    (∃ (s : State) (c : Call) (tree : Nat) (entry : BitVec 128), tree ≠ 0 ∧ tree < 8192 ∧ bits entry 127 93 = 0 ∧ ∃ code may, s.Executes (.treeWrite
      c tree entry) c code may) ∧
    (∃ (s : State) (c : Call) (tile : Option Nat) (credit bellows sched : Word), (∀ t, tile = some t → t < 64) ∧ 259 ≤ bits credit 9 0 ∧ bits credit
      9 0 ≤ bits credit 24 10 ∧ bits credit 24 10 + 31 * bits credit 9 0 ≤ 32768 ∧ bits credit 63 33 = 0 ∧ 1 ≤ bits bellows 3 0 ∧ bits bellows 3 0 ≤
      14 ∧ bits bellows 3 0 < bits bellows 7 4 ∧ 1 ≤ bits bellows 14 8 ∧ bits bellows 14 8 ≤ 64 ∧ bits bellows 63 15 = 0 ∧ bits sched 7 0 ≠ 0 ∧ bits
      sched 15 8 ≠ 0 ∧ bits sched 31 16 ≤ 8192 ∧ bits sched 63 32 = 0 ∧ ∃ code may, s.Executes (.flowCfg c tile credit bellows sched) c code may) :=
  ⟨⟨queued 0x0101 .linkBringup, side, 0x1ffff, 255, 31, 15, 12, 48, (by decide +kernel), (by decide +kernel), (by decide +kernel), executes rfl
     (by decide +kernel)⟩,
   ⟨{ diag with routing := { idValid := true } }, dbg, 0x1f00003e, (by decide +kernel), (by decide +kernel), (by decide +kernel),
     (by decide +kernel), (by decide +kernel), executes rfl (by decide +kernel)⟩,
   ⟨diag, dbg, 131071, 1, true, (by decide +kernel), (by decide +kernel), (by decide +kernel), executes rfl (by decide +kernel)⟩,
   ⟨staged, dbg, 1, ref0 9728, (by decide +kernel), (by decide +kernel), (by decide +kernel), (by decide +kernel), (by decide +kernel),
     checkBank_zero (memRead_nil _ _), executes rfl (by decide +kernel)⟩,
     ⟨{ queued 0x0103 .transit with
        hearth := { (queued 0x0103 .transit).hearth with staging := [(0, { owner := .sideband 8, addr := stagingBase, mib := 1 })] } }, side,
     0xffffffff, ref0 9728, (by decide +kernel), (by decide +kernel), (by decide +kernel), (by decide +kernel), (by decide +kernel), checkBank_zero
     (memRead_nil _ _), executes rfl (by decide +kernel)⟩,
   ⟨{ diag with routing := { otherBank := .pending, activeGen := 0xffffffff }, time := { now := 64 } }, dbg, 0, 640064, (by decide +kernel),
     (by decide +kernel), (by decide +kernel), (by decide +kernel), (by decide +kernel), executes rfl (by decide +kernel)⟩,
   ⟨{ diag with routing := { swapScheduled := true, swapGen := 9 } }, dbg, 9, 0, (by decide +kernel), (by decide +kernel), executes rfl
     (by decide +kernel)⟩,
   ⟨diag, dbg, 0x3ffeafff, 0x6710, (by decide +kernel), (by decide +kernel), (by decide +kernel), (by decide +kernel), (by decide +kernel),
     (by decide +kernel), (by decide +kernel), (by decide +kernel), (by decide +kernel), (by decide +kernel), executes rfl (by decide +kernel)⟩,
   ⟨diag, dbg, 8191, (1#128 <<< 93) - 1, (by decide +kernel), (by decide +kernel), (by decide +kernel), executes rfl (by decide +kernel)⟩,
   ⟨diag, dbg, some 63, 0x1ff828d03, 0x40fe, 0x2000ffff, (by rintro t ⟨⟩; decide), (by decide +kernel), (by decide +kernel), (by decide +kernel),
     (by decide +kernel), (by decide +kernel), (by decide +kernel), (by decide +kernel), (by decide +kernel), (by decide +kernel),
     (by decide +kernel), (by decide +kernel), (by decide +kernel), (by decide +kernel), (by decide +kernel), executes rfl (by decide +kernel)⟩⟩

theorem witness_TimeCommandsComplete :
    (∃ (s : State) (c : Call) (seconds : Word), s.time.parent = none ∧ s.time.refValid = true ∧ s.routing.idValid = true ∧ seconds.toNat * secTicks
      < 2 ^ 63 ∧ ∃ code may, s.Executes (.timeSet c seconds) c code may) ∧
    (∃ (s : State) (c : Call) (word : Word), bits word 63 27 = 0 ∧ ∃ code may, s.Executes (.timeCfg c word) c code may) ∧
    (∃ (s : State) (c : Call) (port : Nat) (asym : BitVec 16), port < 64 ∧ ∃ code may, s.Executes (.timePort c port asym) c code may) ∧
    (∃ (s : State) (c : Call) (base : Ticks) (ref : DataRef), s.refOk c.via ref = true ∧ ref.len.toNat % 16 = 0 ∧ 1 ≤ ref.len.toNat / 16 ∧
      ref.len.toNat / 16 ≤ 64 ∧ (badStroke ((List.range (ref.len.toNat / 16)).map fun i => BitVec.ofNat 128 (leAt (s.refBytes ref) (16 * i) 16)) 0 0
      = none) ∧ ∃ code may, s.Executes (.strokeLoad c base ref) c code may) ∧
    (∃ (s : State) (c : Call) (at_ : Ticks), s.tooSoon at_ = false ∧ ∃ code may, s.Executes (.strokeSwap c at_ false) c code may) ∧
    (∃ (s : State) (c : Call) (at_ : Ticks), s.time.strokeSwap = true ∧ ∃ code may, s.Executes (.strokeSwap c at_ true) c code may) ∧
    (∃ (s : State) (c : Call) (ref : DataRef), s.refOk c.via ref = true ∧ ref.len = 512 ∧ ∃ code may, s.Executes (.strokeAdmit c ref) c code may) ∧
    (∃ (s : State) (c : Call) (enable : Bool), ∃ code may, s.Executes (.strokeEnable c enable) c code may) :=
  ⟨⟨{ diag with time := { refValid := true }, routing := { idValid := true } }, dbg, 144115188, (by decide +kernel), (by decide +kernel),
     (by decide +kernel), (by decide +kernel), executes rfl (by decide +kernel)⟩,
   ⟨diag, dbg, 0x7ffffff, (by decide +kernel), executes rfl (by decide +kernel)⟩,
   ⟨diag, dbg, 62, 0xffff, (by decide +kernel), executes rfl (by decide +kernel)⟩,
   ⟨{ staged with mem := [(0x10000001, 0xfa)] }, dbg, 5, ref0 16, (by decide +kernel), (by decide +kernel), (by decide +kernel),
     (by decide +kernel), (by decide +kernel), executes rfl (by decide +kernel)⟩,
   ⟨diag, dbg, 640000, (by decide +kernel), executes rfl (by decide +kernel)⟩,
   ⟨{ diag with time := { strokeSwap := true, strokeSwapAt := 9 } }, dbg, 0, (by decide +kernel), executes rfl (by decide +kernel)⟩,
   ⟨{ staged with mem := [(0x10000001, 0xfa)] }, dbg, ref0 512, (by decide +kernel), (by decide +kernel), executes rfl (by decide +kernel)⟩,
   ⟨diag, dbg, true, executes rfl (by decide +kernel)⟩⟩

theorem witness_HostMemoryAccesses :
    (∃ (s : State) (head : Nat) (offset : Word), s.memOn head = true ∧ offset.toNat / 64 * 64 < Config.memBytes ∧ bit (s.exposed (offset.toNat / 64
      * 64 / Config.segBytes)) head = true ∧ (s.port head).m2s = [] ∧ (∀ h < 4, h ≠ head → offset.toNat / 64 ∉ (s.port h).tracked) ∧ ((s.port
      head).flitMode = 0 ∨ offset.toNat / 64 ∈ (s.port head).tracked ∨ (s.port head).tracked.length < 262144)) ∧
    (∃ (s : State) (head h : Nat) (offset : Word), s.memOn head = true ∧ offset.toNat / 64 * 64 < Config.memBytes ∧ bit (s.exposed (offset.toNat /
      64 * 64 / Config.segBytes)) head = true ∧ (s.port head).m2s = [] ∧ h < 4 ∧ h ≠ head ∧ offset.toNat / 64 ∈ (s.port h).tracked ∧ (s.port
      h).biPending.length < 256) ∧
    (∃ (s : State) (head : Nat) (offset : Word), s.memOn head = true ∧ offset.toNat / 64 * 64 < Config.segBytes ∧ (s.port head).m2s = []) ∧
    (∃ (s : State) (head : Nat) (offset : Word) (data : List Byte), s.memOn head = true ∧ offset.toNat + data.length ≤ Config.memBytes ∧ (∀ l ∈
      linesOf offset.toNat data.length, bit (s.exposed (l * 64 / Config.segBytes)) head = true ∧ ∀ h < 4, h ≠ head → l ∉ (s.port h).tracked) ∧
      Memory.wf s.mem = true ∧ (s.port head).m2s = []) ∧
    (∃ (s : State) (head : Nat) (offset : Word) (data : List Byte), s.memOn head = true ∧ offset.toNat + data.length ≤ Config.segBytes ∧ (s.port
      head).m2s = []) ∧
    (∃ (s : State) (head : Nat), s.memOn head = true) ∧
    (∃ (s : State) (head line : Nat), line ∈ (s.port head).biPending ∧ (∀ h < 4, (s.port h).m2s = [])) ∧
    (∃ (s : State) (c : Call) (seg : Nat) (heads : BitVec 4), 3 ≤ seg ∧ seg < 512 ∧ ((∀ h < 4, bit heads h = true → (s.port h).linkUp = true →
      (s.port h).flitMode ≠ 0) ∨ (List.range 4).countP (fun h => bit heads h) ≤ 1) ∧ (heads = 0 → ∀ e ∈ s.insts, seg ∉ e.2.segments) ∧ ∃ code may,
      s.Executes (.segmentExpose c seg heads) c code may) ∧
    (∃ (s : State) (c : Call) (port : Nat) (word : Word), port < 4 ∧ 100 ≤ bits word 19 0 ∧ bits word 19 0 ≤ 1000000 ∧ 10 ≤ bits word 31 20 ∧ bits
      word 63 32 = 0 ∧ ∃ code may, s.Executes (.hostCfg c port word) c code may) ∧
    (∃ (s : State) (fn : Fn) (v : Nat), fn.port < 4 ∧ v < s.msixSize fn) :=
  ⟨⟨{ ports := [(3, { hostUp with flitMode := 1 })], segments := [(511, 8)] }, 3, 0x1fffffffff, (by decide +kernel), (by decide +kernel),
     (by decide +kernel), (by decide +kernel), (by decide +kernel), (.inr (.inr (by decide +kernel)))⟩,
   ⟨{ ports := [(0, { hostUp with tracked := [0x7fffffff] }), (3, hostUp)], segments := [(511, 8)] }, 3, 0, 0x1fffffffff, (by decide +kernel),
     (by decide +kernel), (by decide +kernel), (by decide +kernel), (by decide +kernel), (by decide +kernel), (by decide +kernel),
     (by decide +kernel)⟩,
   ⟨{ ports := [(3, hostUp)] }, 3, 0xfffffff, (by decide +kernel), (by decide +kernel), (by decide +kernel)⟩,
   ⟨{ ports := [(3, hostUp)], segments := [(511, 8)] }, 3, 0x1ffffffffc, [1, 0, 3, 4], (by decide +kernel), (by decide +kernel),
     (by decide +kernel), (by decide +kernel), (by decide +kernel)⟩,
   ⟨{ ports := [(3, hostUp)] }, 3, 0xffffffc, [1, 0, 3, 4], (by decide +kernel), (by decide +kernel), (by decide +kernel)⟩,
   ⟨{ ports := [(3, hostUp)] }, 3, (by decide +kernel)⟩,
   ⟨{ ports := [(3, { hostUp with biPending := [7], tracked := [7] })] }, 3, 7, (by decide +kernel), (by decide +kernel)⟩,
   ⟨diag, dbg, 511, 8, (by decide +kernel), (by decide +kernel), (.inr (by decide +kernel)), (by decide +kernel), executes rfl (by decide +kernel)⟩,
   ⟨diag, dbg, 3, 0xffff4240, (by decide +kernel), (by decide +kernel), (by decide +kernel), (by decide +kernel), (by decide +kernel), executes rfl
     (by decide +kernel)⟩,
   ⟨{ ports := [(3, { hostUp with msix := [(0, { size := 2048, pending := [2047] })] })] }, { port := 3, vf := none }, 2047, (by decide +kernel),
     (by decide +kernel)⟩⟩

theorem witness_HostLinksComplete_1_to_7 :
    (∃ (s : State) (port : Nat) (allowed : BitVec 4) (fm w : BitVec 2) (r : Bool), s.hostTrains port = true ∧ (s.port port).linkUp = false ∧
      firstMode allowed = some (fm, r) ∧ w ≠ 3) ∧
    (∃ (s : State) (port : Nat) (allowed : BitVec 4) (w : BitVec 2), s.hostTrains port = true ∧ (s.port port).linkUp = false ∧ (allowed = 0 ∨ w =
      3)) ∧
    (∃ (s : State) (port : Nat), s.hostTrains port = true ∧ (s.port port).linkUp = true ∧ (s.port port).ready = false) ∧
    (∃ (s : State) (port : Nat), s.hostTrains port = true ∧ (s.port port).linkUp = false) ∧
    (∃ (s : State) (port : Nat), port < 4 ∧ (s.port port).linkUp = true ∧ (s.port port).ready = true) ∧
    (∃ (s : State) (port : Nat), port < 4 ∧ (s.port port).linkUp = true ∧ (s.port port).ready = true) :=
  ⟨⟨{ hearth := { mode := .transit, selfTested := true } }, 3, 12, 1, 2, false, (by decide +kernel), (by decide +kernel), (by decide +kernel),
     (by decide +kernel)⟩,
   ⟨{ hearth := { mode := .transit, selfTested := true } }, 3, 0, 2, (by decide +kernel), (by decide +kernel), (.inl rfl)⟩,
   ⟨{ ports := [(3, { hostUp with ready := false })], hearth := { mode := .transit, selfTested := true } }, 3, (by decide +kernel),
     (by decide +kernel), (by decide +kernel)⟩,
   ⟨{ hearth := { mode := .transit, selfTested := true } }, 3, (by decide +kernel), (by decide +kernel)⟩,
   ⟨{ ports := [(3, hostUp)] }, 3, (by decide +kernel), (by decide +kernel), (by decide +kernel)⟩,
   ⟨{ ports := [(3, hostUp)] }, 3, (by decide +kernel), (by decide +kernel), (by decide +kernel)⟩⟩

theorem witness_HostLinksComplete_8_to_13 :
    (∃ (s : State) (port : Nat), port < 4 ∧ (s.port port).linkUp = true ∧ (s.port port).ready = true) ∧
    (∃ (s : State) (port : Nat), port < 4 ∧ portMeets (s.port port) = true ∧ (s.port port).present = false ∧ s.hearth.mode ≠ .isolated ∧
      s.hearth.mode ≠ .diagnostic) ∧
    (∃ (s : State) (port : Nat), port < 4 ∧ (s.port port).linkUp = true) ∧
    (∃ (s : State) (port : Nat), port < 4 ∧ (s.port port).linkUp = true) ∧
    (∃ (s : State) (port : Nat), port < 4 ∧ (s.port port).linkUp = true) ∧
    (∃ (port : Nat), port < 4) :=
  ⟨⟨{ ports := [(3, hostUp)] }, 3, (by decide +kernel), (by decide +kernel), (by decide +kernel)⟩,
   ⟨{ ports := [(3, { hostUp with present := false })], hearth := { mode := .transit } }, 3, (by decide +kernel), (by decide +kernel),
     (by decide +kernel), (by decide +kernel), (by decide +kernel)⟩,
   ⟨{ ports := [(3, { hostUp with cache := [(1, 7)] })] }, 3, (by decide +kernel), (by decide +kernel)⟩,
   ⟨{ ports := [(3, { hostUp with cache := [(1, 7)] })] }, 3, (by decide +kernel), (by decide +kernel)⟩,
   ⟨{ ports := [(3, hostUp)] }, 3, (by decide +kernel), (by decide +kernel)⟩,
   ⟨3, (by decide +kernel)⟩⟩

theorem witness_HostLinksComplete_14_to_19 :
    (∃ (s : State) (port : Nat), port < 4 ∧ portMeets (s.port port) = false) ∧
    (∃ (port : Nat), port < 4) ∧
    (∃ (port : Nat), port < 4) ∧
    (∃ (s : State) (port stream : Nat), port < 4 ∧ (s.port port).ready = true ∧ s.hearth.ready = true ∧ stream < 2) ∧
    (∃ (s : State) (port stream : Nat) (k : BitVec 256 × Bool), port < 4 ∧ (s.port port).ready = true ∧ s.hearth.ready = true ∧ stream < 2 ∧ tget
      (s.port port).ideKeys stream = some k) ∧
    (∃ (s : State) (port index : Nat), port < 4 ∧ (s.port port).ready = true ∧ s.hearth.ready = true ∧ 1 ≤ index ∧ index ≤ 4) :=
  ⟨⟨{ ports := [(3, { linkUp := true })] }, 3, (by decide +kernel), (by decide +kernel)⟩,
   ⟨3, (by decide +kernel)⟩,
   ⟨3, (by decide +kernel)⟩,
   ⟨{ ports := [(3, hostUp)], hearth := { mode := .transit, ready := true } }, 3, 1, (by decide +kernel), (by decide +kernel), (by decide +kernel),
     (by decide +kernel)⟩,
   ⟨{ ports := [(3, { hostUp with ideKeys := [(0, (4, true)), (1, (5, false))] })], hearth := { mode := .transit, ready := true } }, 3, 1, (5,
     false), (by decide +kernel), (by decide +kernel), (by decide +kernel), (by decide +kernel), (by decide +kernel)⟩,
   ⟨{ ports := [(3, hostUp)], hearth := { mode := .transit, ready := true } }, 3, 4, (by decide +kernel), (by decide +kernel), (by decide +kernel),
     (by decide +kernel), (by decide +kernel)⟩⟩

theorem witness_HostPortsVanish :
    (∃ (s : State) (port : Nat) (i : Instr), (i = .hostLinkDown port ∨ i = .hotReset port) ∧ port < 4 ∧ (s.port port).linkUp = true) ∧
    (∃ (s : State) (port : Nat), port < 4 ∧ (s.port port).ideActive = true) ∧
    (∃ (s : State) (port : Nat), port < 4 ∧ (s.port port).linkUp = true) ∧
    (∃ (s : State) (port : Nat), (s.port port).biPending ≠ []) ∧
    (∃ (s : State) (port n : Nat), port < 4 ∧ (s.port port).d2hWait = [] ∧ (∃ r ∈ (s.port port).d2h, r.tag = .other n)) ∧
    (∃ (s : State) (port vf i : Nat), port < 4 ∧ vf < 256 ∧ s.boundInst port vf = some i ∧ (s.inst i).state ∈ [IState.closed, .active, .held,
      .frozen] ∧ (∀ e ∈ s.coll.groups, endpointOf s.routing.moduleId (s.inst i).port.toNat i ∉ e.2.members)) ∧
    (∃ (port : Nat), port < 4) :=
  ⟨⟨{ ports := [(3, hostUp)], hearth := { mode := .transit } }, 3, .hotReset 3, (.inr rfl), (by decide +kernel), (by decide +kernel)⟩,
   ⟨{ ports := [(3, { hostUp with ideActive := true })], hearth := { mode := .transit } }, 3, (by decide +kernel), (by decide +kernel)⟩,
   ⟨{ ports := [(3, hostUp)], hearth := { mode := .transit } }, 3, (by decide +kernel), (by decide +kernel)⟩,
   ⟨{ ports := [(3, { hostUp with biPending := [7], tracked := [7] })] }, 3, (by decide +kernel)⟩,
   ⟨{ ports := [(3, { hostUp with d2h := [{ tag := .other 5, reads := [] }] })] }, 3, 5, (by decide +kernel), (by decide +kernel), ⟨_, .head _,
     rfl⟩⟩,
   ⟨{ insts := [(1023, { state := .active, port := 3, bound := true, vf := 255 })] }, 3, 255, 1023, (by decide +kernel), (by decide +kernel),
     (by decide +kernel), (by decide +kernel), (by decide +kernel)⟩,
   ⟨3, (by decide +kernel)⟩⟩

theorem witness_ModesComplete :
    (∃ (s : State) (c : Call), isService s.hearth.mode = true ∧ s.opsInFlight = 0 ∧ ∃ code may, s.Executes (.modeRequest c 8) c code may) ∧
    (∃ (s : State) (c : Call), isService s.hearth.mode = true ∧ s.opsInFlight ≠ 0 ∧ ∃ code may, s.Executes (.modeRequest c 8) c code may) ∧
    (∃ (s : State) (c : Call), (isService s.hearth.mode = true ∨ s.hearth.mode = .drain) ∧ ∃ code may, s.Executes (.modeRequest c 9) c code may) ∧
    (∃ (s : State) (c : Call), s.hearth.mode ∈ [Mode.hearthBoot, .linkBringup, .isolated] ∧ ∃ code may, s.Executes (.modeRequest c 10) c code may) ∧
    (∃ (s : State) (c : Call) (m : Mode), s.hearth.mode = .drain ∧ (m = (if (s.ports.any fun e => portMeets e.2) = false then .transit else if
      s.hwFenced then .degraded else .fullService)) ∧ ∃ code may, s.Executes (.modeRequest c 0) c code may) ∧
    (∃ (s : State) (c : Call), s.hearth.mode = .isolated ∧ s.routing.idValid = false ∧ ∃ code may, s.Executes (.modeRequest c 0) c code may) ∧
    (∃ (s : State) (c : Call), s.hearth.drainCall = some c ∧ s.opsInFlight = 0) ∧
    (∃ (s : State) (c : Call) (now : Ticks), s.hearth.drainCall = some c ∧ s.hearth.drainSince.toNat + 10 * secTicks ≤ (s.advance
      now).time.now.toNat) ∧
    (∃ (s : State) (i : Instr), s.hearth.mode ∉ [Mode.off, .standby, .cracked] ∧ (i = .resetNLow ∨ ∃ now, i = .haltActionReset now ∧ s.quench.halted
      = true ∧ s.quench.haltAction = true ∧ s.quench.haltTime.toNat + secTicks ≤ (s.advance now).time.now.toNat)) ∧
    (∃ (s : State), s.hearth.mode = .cracked) ∧
    (∃ (s : State), s.hearth.mode = .standby ∧ s.power.railsOk = true) :=
  ⟨⟨queued 0x0007 .degraded, side, (by decide +kernel), (by decide +kernel), executes rfl (by decide +kernel)⟩,
   ⟨{ queued 0x0007 .fullService with wqs := [(3, { wq0 with open_ := [1] })] }, side, (by decide +kernel), (by decide +kernel), executes rfl
     (by decide +kernel)⟩,
   ⟨{ queued 0x0007 .drain with ports := [(3, hostUp)] }, side, (by decide +kernel), executes rfl (by decide +kernel)⟩,
   ⟨queued 0x0007 .isolated, side, (by decide +kernel), executes rfl (by decide +kernel)⟩,
   ⟨{ queued 0x0007 .drain with ports := [(3, hostUp)], quench := { fenced := [({ kind := 5, num := 1 }, 9)] } }, side, .degraded,
     (by decide +kernel), (by decide +kernel), executes rfl (by decide +kernel)⟩,
   ⟨queued 0x0007 .isolated, side, (by decide +kernel), (by decide +kernel), executes rfl (by decide +kernel)⟩,
   ⟨{ hearth := { mode := .drain, ready := true, drainCall := some side, running := [({ via := .sideband 8, opcode := 7, seq := 7 }, 0)] } }, side,
     (by decide +kernel), (by decide +kernel)⟩,
   ⟨{ hearth := { mode := .drain, ready := true, drainCall := some side }, wqs := [(3, { wq0 with open_ := [1] })] }, side, 640000000000,
     (by decide +kernel), (by decide +kernel)⟩,
   ⟨{ hearth := { mode := .isolated, ready := true }, quench := { halted := true, haltAction := true, sticky := [5] }, mem := [(1, 1)] },
     .haltActionReset 64000000000, (by decide +kernel), (.inr ⟨_, rfl, by decide +kernel⟩)⟩,
   ⟨{ hearth := { mode := .cracked } }, (by decide +kernel)⟩,
   ⟨{ hearth := { mode := .standby }, power := { resetN := false } }, (by decide +kernel), (by decide +kernel)⟩⟩

theorem witness_StartupCompletes :
    (∃ (s : State) (slotA slotB slot : Bool), s.hearth.mode = .hearthBoot ∧ s.hearth.ready = false ∧ (slotA || slotB) = true ∧ slot = (if (if
      s.hearth.flashBoot then slotB else slotA) then s.hearth.flashBoot else !s.hearth.flashBoot)) ∧
    (∃ (s : State), s.hearth.mode = .hearthBoot ∧ s.hearth.ready = false) ∧
    (∃ (s : State), s.hearth.mode = .hearthBoot ∧ s.hearth.ready = true ∧ s.striker.cells ≠ [] ∧ s.roleLost = false ∧ s.routing.idValid = false) ∧
    (∃ (s : State), s.hearth.mode = .hearthBoot ∧ s.hearth.ready = true) ∧
    (∃ (s : State) (now : Ticks), s.hearth.mode = .linkBringup ∧ s.routing.idValid = true ∧ s.hearth.returnCall = none ∧ s.hearth.idSince.toNat + 2
      * secTicks ≤ (s.advance now).time.now.toNat) ∧
    (∃ (s : State) (c : Call) (ref : DataRef), s.hearth.mode = .hearthBoot ∧ s.hearth.roleCall = none ∧ s.refOk c.via ref = true ∧ mapMisformed
      (s.refBytes ref) = false ∧ mapFault (s.refBytes ref) = none ∧ ∃ code may, s.Executes (.rolemapLoad c ref) c code may) ∧
    (∃ (s : State) (c : Call) (ref : DataRef), s.refOk c.via ref = true ∧ mapMisformed (s.refBytes ref) = true ∧ ∃ code may, s.Executes
      (.rolemapLoad c ref) c code may) :=
  ⟨⟨{ hearth := { flashBoot := true } }, true, false, false, (by decide +kernel), (by decide +kernel), (by decide +kernel), (by decide +kernel)⟩,
   ⟨{}, (by decide +kernel), (by decide +kernel)⟩,
     ⟨{ hearth := { ready := true },
        striker := { cells := [(0, { role := 1, state := 1 }), (1, { role := 2, state := 1 }), (2, { role := 3, state := 1 }), (3, { role := 4, state := 1 }), (4, { role := 5, state := 1 }), (5, { role := 6, state := 1 })] } },
     (by decide +kernel), (by decide +kernel), (by decide +kernel), (by decide +kernel), (by decide +kernel)⟩,
   ⟨{ hearth := { ready := true } }, (by decide +kernel), (by decide +kernel)⟩,
   ⟨{ hearth := { mode := .linkBringup }, routing := { idValid := true } }, 128000000000, (by decide +kernel), (by decide +kernel),
     (by decide +kernel), (by decide +kernel)⟩,
     ⟨{ queued 0x0a01 .hearthBoot with
        hearth := { (queued 0x0a01 .hearthBoot).hearth with staging := [(0, { owner := .sideband 8, addr := stagingBase, mib := 1 })] },
        mem := [(268435472, 1), (268435473, 2), (268435474, 3), (268435475, 4), (268435476, 6), (268435477, 5), (268435728, 5), (268437520, 5), (268437776, 5)] },
     side, ref0 4112, (by decide +kernel), (by decide +kernel), (by decide +kernel), (by decide +kernel), (by decide +kernel), executes rfl
     (by decide +kernel)⟩,
   ⟨staged, dbg, ref0 64, (by decide +kernel), (by decide +kernel), executes rfl (by decide +kernel)⟩⟩

theorem witness_FirmwareCompletes :
    (∃ (s : State) (c : Call) (ref : DataRef), s.refOk c.via ref = true ∧ ∃ code may, s.Executes (.fwStage c ref) c code may) ∧
    (∃ (s : State) (c : Call), ∃ code may, s.Executes (.fwActivate c false) c code may) ∧
    (∃ (s : State) (c : Call) (k : Nat), (isService s.hearth.mode = true ∨ s.hearth.mode = .drain) ∧ k = imageFault (s.hearth.slotImage
      (!s.hearth.runningSlot)) ∧ ∃ code may, s.Executes (.fwActivate c true) c code may) ∧
    (∃ (s : State) (c : Call), s.hearth.activating = some c ∧ s.hearth.mode = .firmwareUpdate) ∧
    (∃ (s : State) (c : Call), s.hearth.activating = some c ∧ s.hearth.mode = .firmwareUpdate) ∧
    (∃ (s : State) (q : QCmd) (at_ : Ticks) (fn : Fn) (slot : Nat) (x : Slot), s.hearth.ready = true ∧ s.hearth.running = [(q, at_)] ∧ q.via =
      .mailbox fn slot ∧ tget (s.mbox fn).slots slot = some x ∧ x.state = .running ∧ x.seq = q.seq) :=
  ⟨⟨staged, dbg, ref0 64, (by decide +kernel), executes rfl (by decide +kernel)⟩,
   ⟨diag, dbg, executes rfl (by decide +kernel)⟩,
   ⟨queued 0x0a03 .drain, side, imageFault ((queued 0x0a03 .drain).hearth.slotImage (!(queued 0x0a03 .drain).hearth.runningSlot)),
     (by decide +kernel), rfl, executes rfl (by decide +kernel)⟩,
     ⟨{ hearth := { mode := .firmwareUpdate, activating := some side, running := [({ via := .sideband 8, opcode := 0x0a03, seq := 7 }, 0)], leftMode := .degraded } },
     side, (by decide +kernel), (by decide +kernel)⟩,
     ⟨{ hearth := { mode := .firmwareUpdate, activating := some side, running := [({ via := .sideband 8, opcode := 0x0a03, seq := 7 }, 0)], leftMode := .degraded } },
     side, (by decide +kernel), (by decide +kernel)⟩,
     ⟨{ hearth := { mode := .transit, ready := true, running := [({ via := .mailbox pf0 29, opcode := 1, seq := 7 }, 0)], mboxes := [(0, { slots := [(29, { state := .running, seq := 7 })] })] } },
     { via := .mailbox pf0 29, opcode := 1, seq := 7 }, 0, pf0, 29, _, (by decide +kernel), (by decide +kernel), (by decide +kernel), rfl,
     (by decide +kernel), (by decide +kernel)⟩⟩

theorem witness_QuenchCommandsComplete :
    (∃ (s : State) (c : Call), ∃ code may, s.Executes (.quenchRead c) c code may) ∧
    (∃ (s : State) (c : Call) (d : Nat) (word policy : Word), d = bits word 10 0 ∧ d < 1408 ∧ bits word 63 11 = 0 ∧ bits policy 15 10 = 0 ∧ bits
      policy 31 16 ≠ 0 ∧ 1 ≤ bits policy 63 32 ∧ bits policy 63 32 ≤ 3600000000 ∧ bits policy 2 0 ≤ bits policy 5 3 ∧ (∀ k ∈ [bits policy 2 0, bits
      policy 5 3, bits policy 8 6], k ≤ 4 ∧ (k = 2 → unitKind d ≠ 0) ∧ (3 ≤ baseClass d → baseClass d ≤ k)) ∧ ∃ code may, s.Executes (.quenchPolicy
      c word policy) c code may) ∧
    (∃ (s : State) (c : Call) (flags : Word) (sources : List Word), bits flags 63 7 = 0 ∧ bit flags 3 = false ∧ ∃ code may, s.Executes (.quenchClear
      c flags sources) c code may) ∧
    (∃ (s : State) (c : Call) (sources : List Word) (p : Nat), s.quench.halted = false ∧ s.quench.rail = [] ∧ (∀ d, (tgetD s.quench.counts d
      {}).lastRail = false) ∧ s.quench.fenced = [({ kind := 1, num := p }, 16 * p)] ∧ p < 64 ∧ 16 * p ∈ sourcesOf sources ∧ ∃ code may, s.Executes
      (.quenchClear c 8 sources) c code may) ∧
    (∃ (s : State) (c : Call) (ctrl : Word) (at_ : Ticks) (slot : Nat), bits ctrl 10 0 < 1408 ∧ bits ctrl 15 13 = 0 ∧ bits ctrl 63 28 = 0 ∧ bits
      ctrl 27 16 ≤ 63 ∧ (unitKind (bits ctrl 10 0) ≠ 2 → bits ctrl 27 16 = 0) ∧ (s.wouldTake (bits ctrl 10 0) (bit ctrl 11) (bit ctrl 12) < 3 ∨
      s.hearth.mode = .diagnostic) ∧ ((List.range 16).find? (fun i => !(tgetD s.quench.inject i {}).pending) = some slot) ∧ ∃ code may, s.Executes
      (.inject c ctrl at_) c code may) ∧
    (∃ (s : State) (slot : Nat) (now : Ticks) (x : Injection), tgetD s.quench.inject slot {} = x ∧ x.pending = true ∧ x.instant.toNat ≤ (s.advance
      now).time.now.toNat) :=
  ⟨⟨diag, dbg, executes rfl (by decide +kernel)⟩,
   ⟨diag, dbg, 1407, 1407, 0xd693a400ffff0124, (by decide +kernel), (by decide +kernel), (by decide +kernel), (by decide +kernel),
     (by decide +kernel), (by decide +kernel), (by decide +kernel), (by decide +kernel), (by decide +kernel), executes rfl (by decide +kernel)⟩,
   ⟨{ diag with quench := { sticky := [5], first := [5], firstValid := true, log := [], logTail := 3 } }, dbg, 0x77, [0x20], (by decide +kernel),
     (by decide +kernel), executes rfl (by decide +kernel)⟩,
   ⟨{ diag with tiles := [(63, { fenced := true })], quench := { fenced := [({ kind := 1, num := 63 }, 1008)] } }, dbg, List.replicate 15 0 ++
     [0x1000000000000], 63, (by decide +kernel), (by decide +kernel), (fun _ => rfl), (by decide +kernel), (by decide +kernel), (by decide +kernel),
     executes rfl (by decide +kernel)⟩,
   ⟨diag, dbg, 0x1bff, 9, 0, (by decide +kernel), (by decide +kernel), (by decide +kernel), (by decide +kernel), (by decide +kernel), (.inr rfl),
     (by decide +kernel), executes rfl (by decide +kernel)⟩,
   ⟨{ quench := { inject := [(15, { detector := 5, pending := true, instant := 9 })] } }, 15, 9, { detector := 5, pending := true, instant := 9 },
     (by decide +kernel), (by decide +kernel), (by decide +kernel)⟩⟩

theorem witness_DetectorsAct :
    (∃ (s : State), s.hearth.mode ≠ .off ∧ s.quench.raised = []) ∧
    (∃ (s : State), s.hearth.mode = .off) ∧
    (∃ (s : State) (e : QEvent), halts s.hearth.mode = true ∧ s.quench.raised = [] ∧ s.quench.reacting = [] ∧ s.quench.halted = false ∧ e.source <
      1408 ∧ e.source ∉ s.quench.rail ∧ bits (s.policy e.source) 2 0 = 3 ∧ bits (s.policy e.source) 5 3 = 3) ∧
    (∃ (s : State) (e : QEvent), halts s.hearth.mode = true ∧ s.quench.raised = [] ∧ s.quench.reacting = [] ∧ s.quench.halted = false ∧ e.source <
      1408 ∧ e.source ∉ s.quench.rail ∧ bits (s.policy e.source) 2 0 = 4 ∧ bits (s.policy e.source) 5 3 = 4 ∧ s.power.holdup = false) ∧
    (∃ (s : State) (d : Nat), s.hearth.mode ≠ .off ∧ s.quench.raised = [] ∧ d < 1408 ∧ d ∉ s.quench.rail) ∧
    (∃ (s : State) (d : Nat), d ∈ s.quench.rail) ∧
    (∃ (s : State) (d : Nat) (now : Ticks), (tgetD s.quench.counts d {}).open_ = true ∧ (tgetD s.quench.counts d {}).ends.toNat ≤ (s.advance
      now).time.now.toNat) :=
  ⟨⟨{ hearth := { mode := .transit } }, (by decide +kernel), (by decide +kernel)⟩,
   ⟨{ hearth := { mode := .off } }, (by decide +kernel)⟩,
     ⟨{ hearth := { mode := .transit }, ports := [(3, hostUp)],
        quench := { policy := [(1407, 3 ||| 3 <<< 3 ||| 4 <<< 6 ||| 0xffff <<< 16 ||| 1 <<< 32)] } }, { source := 1407 }, (by decide +kernel),
     (by decide +kernel), (by decide +kernel), (by decide +kernel), (by decide +kernel), (by decide +kernel), (by decide +kernel),
     (by decide +kernel)⟩,
   ⟨{ hearth := { mode := .hearthBoot }, quench := { policy := [(1407, 4 ||| 4 <<< 3 ||| 4 <<< 6 ||| 0xffff <<< 16 ||| 1 <<< 32)] } },
     { source := 1407 }, (by decide +kernel), (by decide +kernel), (by decide +kernel), (by decide +kernel), (by decide +kernel),
     (by decide +kernel), (by decide +kernel), (by decide +kernel), (by decide +kernel)⟩,
   ⟨{}, 1407, (by decide +kernel), (by decide +kernel), (by decide +kernel), (by decide +kernel)⟩,
   ⟨{ quench := { rail := [1407] } }, 1407, (by decide +kernel)⟩,
   ⟨{ quench := { counts := [(1407, { count := 3, open_ := true, escalated := true, ends := 50 })] } }, 1407, 50, (by decide +kernel),
     (by decide +kernel)⟩⟩

theorem witness_CountersComplete :
    (∃ (s : State) (c : Call) (word0 word1 : Word), bits word0 12 0 < 2560 ∧ bits word0 63 16 = 0 ∧ (bit word0 13 = false → selOk (bits word0 12 0)
      word1 = true) ∧ ∃ code may, s.Executes (.counterSelect c word0 word1 0) c code may) ∧
    (∃ (s : State) (c : Call) (word0 word1 word2 : Word) (v : State) (o : Nat), bits word0 12 0 = 4096 ∧ bits word0 63 16 = 0 ∧ bit word0 13 = false
      ∧ bits word1 5 1 ≤ 20 ∧ bits word1 48 17 ≠ 0 ∧ bits word1 63 49 = 0 ∧ 6 ≤ bits word2 4 0 ∧ bits word2 4 0 ≤ 16 ∧ bits word2 63 5 = 0 ∧
      (s.freeRing s.counters.tagRing).allocArea c.via (64 + 64 * 2 ^ bits word2 4 0) = some (o, v) ∧ ∃ code may, s.Executes (.counterSelect c word0
      word1 word2) c code may) ∧
    (∃ (s : State) (c : Call) (word0 word1 word2 : Word) (v : State) (o : Nat), bits word0 12 0 = 4097 ∧ bits word0 63 16 = 0 ∧ bit word0 13 = false
      ∧ 1024 ≤ bits word1 32 9 ∧ bits word1 37 33 ≤ 16 ∧ bits word1 63 38 = 0 ∧ 6 ≤ bits word2 4 0 ∧ bits word2 4 0 ≤ 16 ∧ bits word2 63 5 = 0 ∧
      (s.freeRing s.counters.hsRing).allocArea c.via (64 + 32 * 2 ^ bits word2 4 0) = some (o, v) ∧ ∃ code may, s.Executes (.counterSelect c word0
      word1 word2) c code may) ∧
    (∃ (first count : Nat), 1 ≤ count ∧ count ≤ 120 ∧ first + count ≤ 2560) ∧
    (∃ (s : State) (core : Nat), bit s.counters.hsCfg 0 = true ∧ core < 8 ∧ bit s.counters.hsCfg (1 + core) = true ∧ core ∉ s.hearth.coresFenced) :=
  ⟨⟨{ diag with counters := { values := [(2559, 7)] } }, dbg, 0xc9ff, 0, (by decide +kernel), (by decide +kernel), (by decide +kernel), executes rfl
     (by decide +kernel)⟩,
   ⟨diag, dbg, 4096, 0x1fffffffe0029, 16, _, 0, (by decide +kernel), (by decide +kernel), (by decide +kernel), (by decide +kernel),
     (by decide +kernel), (by decide +kernel), (by decide +kernel), (by decide +kernel), (by decide +kernel), rfl, executes rfl (by decide +kernel)⟩,
   ⟨diag, dbg, 4097, 0x21ffffffff, 6, _, 0, (by decide +kernel), (by decide +kernel), (by decide +kernel), (by decide +kernel), (by decide +kernel),
     (by decide +kernel), (by decide +kernel), (by decide +kernel), (by decide +kernel), rfl, executes rfl (by decide +kernel)⟩,
   ⟨2440, 120, (by decide +kernel), (by decide +kernel), (by decide +kernel)⟩,
   ⟨{ counters := { hsCfg := 0x101 } }, 7, (by decide +kernel), (by decide +kernel), (by decide +kernel), (by decide +kernel)⟩⟩

theorem witness_PowerCompletes :
    (∃ (s : State) (b : Bool), (if b then s.power.inB else s.power.inA) = true ∧ ((if b then s.power.inA else s.power.inB) = true ∨ s.power.holdup =
      true)) ∧
    (∃ (s : State) (b : Bool), (if b then s.power.inB else s.power.inA) = true ∧ (if b then s.power.inA else s.power.inB) = false ∧ s.power.holdup =
      false) ∧
    (∃ (s : State), s.hearth.mode = .off) ∧
    (∃ (s : State), s.hearth.mode ≠ .off) ∧
    (∃ (s : State), s.power.holdup = true ∧ s.power.inA = false ∧ s.power.inB = false ∧ s.power.powerDown = false) ∧
    (∃ (s : State), s.power.powerDown = true) ∧
    (∃ (s : State), s.hearth.mode ≠ .off) ∧
    (∃ (s : State) (port : Nat), port < 64 ∧ s.hearth.mode ≠ .off ∧ (s.tile port).present = false) ∧
    (∃ (s : State) (port : Nat), port < 64 ∧ s.hearth.mode ≠ .off ∧ (s.tile port).present = true) ∧
    (∃ (s : State) (port : Nat), port < 64 ∧ (s.tile port).supply = true) ∧
    (∃ (s : State), s.hearth.mode ∉ [Mode.off, .standby, .cracked]) :=
  ⟨⟨{ power := { inA := true, inB := true } }, true, (by decide +kernel), (by decide +kernel)⟩,
   ⟨{ power := { inA := true } }, false, (by decide +kernel), (by decide +kernel), (by decide +kernel)⟩,
   ⟨{ hearth := { mode := .off } }, (by decide +kernel)⟩,
   ⟨{ hearth := { mode := .standby }, power := { holdup := true } }, (by decide +kernel)⟩,
   ⟨{ power := { holdup := true }, ports := [(3, hostUp)] }, (by decide +kernel), (by decide +kernel), (by decide +kernel), (by decide +kernel)⟩,
   ⟨{ power := { powerDown := true, holdup := true, inA := true } }, (by decide +kernel)⟩,
   ⟨{ hearth := { mode := .standby } }, (by decide +kernel)⟩,
   ⟨{ hearth := { mode := .standby } }, 63, (by decide +kernel), (by decide +kernel), (by decide +kernel)⟩,
   ⟨{ hearth := { mode := .standby }, tiles := [(63, { present := true, supply := true })] }, 63, (by decide +kernel), (by decide +kernel),
     (by decide +kernel)⟩,
   ⟨{ tiles := [(63, { present := true, supply := true })], hearth := { mode := .transit } }, 63, (by decide +kernel), (by decide +kernel)⟩,
   ⟨{}, (by decide +kernel)⟩⟩

theorem witness_TimeEventsComplete :
    (∃ (s : State) (tenA tenB : Nat) (ok : Bool), (ok = decide (9999900 ≤ (if s.time.usesRefB then tenB else tenA) ∧ (if s.time.usesRefB then tenB
      else tenA) ≤ 10000100))) ∧
    (∃ (s : State) (periodNs tenA tenB sec : Nat), s.time.refValid = true ∧ s.routing.idValid = true ∧ 9999900 ≤ (if s.time.usesRefB then tenB else
      tenA) ∧ (if s.time.usesRefB then tenB else tenA) ≤ 10000100 ∧ periodNs < 1000001000 ∧ (∀ p < 64, s.qualifiesNow p = false) ∧
      s.time.timeSet.map (·.toNat) = some sec) ∧
    (∃ (s : State) (now : Ticks) (periodNs tenA tenB : Nat) (o : Int), s.time.refValid = true ∧ s.routing.idValid = true ∧ 9999900 ≤ (if
      s.time.usesRefB then tenB else tenA) ∧ (if s.time.usesRefB then tenB else tenA) ≤ 10000100 ∧ periodNs < 1000001000 ∧ (∀ p < 64, s.qualifiesNow
      p = false) ∧ s.time.timeSet = none ∧ o = secondOffset (s.advance now).time.now * servoUnit ∧ (s.time.filt + (o - s.time.filt) / 8).natAbs ≤
      64000 * servoUnit) ∧
    (∃ (s : State), s.time.refValid = true) ∧
    (∃ (s : State), s.time.refValid = false) ∧
    (∃ (s : State) (b : Bool), (if b then s.time.refAValid else s.time.refBValid) = true ∧ s.time.usesRefB = b) ∧
    (∃ (s : State) (b : Bool), (if b then s.time.refAValid else s.time.refBValid) = true ∧ s.time.usesRefB = (!b)) ∧
    (∃ (s : State) (b : Bool), (if b then s.time.refAValid else s.time.refBValid) = false) ∧
    (∃ (s : State) (p : Packet), s.hasArrival p = true ∧ p.pktType = 0x13) ∧
    (∃ (s : State) (now : Ticks), s.time.pulses < (s.advance now).time.now.toNat / secTicks) ∧
    (∃ (s : State) (now : Ticks), s.time.strokeSwap = true ∧ (strokeCycle s.time.strokes = 0 ∧ s.time.strokeSwapAt.toNat ≤ (s.advance
      now).time.now.toNat ∨ 0 < strokeCycle s.time.strokes ∧ ∃ k, s.time.strokeSwapAt.toNat ≤ s.time.strokeBase.toNat + k * strokeCycle
      s.time.strokes ∧ s.time.strokeBase.toNat + k * strokeCycle s.time.strokes ≤ (s.advance now).time.now.toNat)) :=
  ⟨⟨{ time := { usesRefB := true } }, 0, 9999900, true, (by decide +kernel)⟩,
     ⟨{ time := { refValid := true, timeSet := some 5 },
        hearth := { mode := .transit, running := [({ via := .debug, opcode := 0x0201, seq := 1 }, 0)] }, routing := { idValid := true } },
     1000000999, 10000100, 0, 5, (by decide +kernel), (by decide +kernel), (by decide +kernel), (by decide +kernel), (by decide +kernel),
     (by decide +kernel), (by decide +kernel)⟩,
   ⟨{ time := { refValid := true }, routing := { idValid := true } }, 0xee6b27ff8, 1000000000, 9999900, 0, secondOffset 0xee6b27ff8 * servoUnit,
     (by decide +kernel), (by decide +kernel), (by decide +kernel), (by decide +kernel), (by decide +kernel), (by decide +kernel),
     (by decide +kernel), (by decide +kernel), (by decide +kernel)⟩,
   ⟨{ time := { refValid := true } }, (by decide +kernel)⟩,
   ⟨{ time := { ppsRun := 2 } }, (by decide +kernel)⟩,
   ⟨{ time := { usesRefB := true } }, true, (by decide +kernel), (by decide +kernel)⟩,
   ⟨{}, true, (by decide +kernel), (by decide +kernel)⟩,
   ⟨{ time := { refAValid := false } }, true, (by decide +kernel)⟩,
   ⟨{ routing := { arrivals := [(3, { pktType := 0x13 })] } }, { pktType := 0x13 }, (by decide +kernel), (by decide +kernel)⟩,
   ⟨{}, 64000000000, (by decide +kernel)⟩,
   ⟨{ time := { strokeSwap := true, strokeSwapAt := 70000, strokeBase := 10, strokeBaseOther := 9, strokes0 := [64000] } }, 128010,
     (by decide +kernel), (.inr ⟨by decide +kernel, 2, by decide +kernel, by decide +kernel⟩)⟩⟩

theorem witness_TrainingCompletes_1_to_7 :
    (∃ (s : State) (port : Nat), (s.tile port).linkState ∈ [LinkState.detect, .map]) ∧
    (∃ (s : State) (port : Nat), (s.tile port).linkState = .test) ∧
    (∃ (s : State) (port : Nat) (f : RxFrame), (s.tile port).linkState = .up ∧ (s.tile port).inStep = true ∧ (∃ c < 4, 15 < (f.errors.filter fun e
      => e.1 % 4 == c).length)) ∧
    (∃ (s : State) (port : Nat) (f : RxFrame) (x : Flit) (ys : List Flit), (s.tile port).linkState = .up ∧ (s.tile port).inStep = false ∧ (s.tile
      port).fenced = false ∧ (s.tile port).txFlits.length < 10 ∧ rxSync f = 0xb5 ∧ (s.tile port).retry.lastCount = some (rxCount f - 1) ∧
      uncorrectable f = false ∧ rxFlits f = x :: ys ∧ (∀ y ∈ ys, flitOk y = true ∧ y.flitType = 0 ∧ y.ackValid = false) ∧ flitOk x = true ∧
      x.flitType = 1 ∧ x.ackValid = false ∧ x.linkSeq = (s.tile port).retry.expected ∧ ((s.tile port).rxLane x.vl.toNat).skip = true ∧ x.firstStart
      = 15) ∧
    (∃ (s : State) (port : Nat) (f : RxFrame) (x : Flit) (ys : List Flit), (s.tile port).linkState = .up ∧ (s.tile port).inStep = false ∧ rxSync f =
      0xb5 ∧ (s.tile port).retry.lastCount = some (rxCount f - 1) ∧ uncorrectable f = false ∧ rxFlits f = x :: ys ∧ (∀ y ∈ ys, flitOk y = true ∧
      y.flitType = 0 ∧ y.ackValid = false) ∧ flitOk x = true ∧ x.flitType = 0 ∧ x.ackValid = true ∧ serialLt x.ackSeq (s.tile port).retry.nextTx =
      true ∧ (s.tile port).retry.suspect = false) ∧
    (∃ (s : State) (port lane : Nat) (b : TrainBlock), s.fabricTrains port = true ∧ (s.tile port).linkState = .detect ∧ b.marked = true ∧ (tgetD
      (s.tile port).lanes lane {}).lockRun < 15) :=
  ⟨⟨tiled 63 { tileUp with linkState := .map }, 63, (by decide +kernel)⟩,
   ⟨tiled 63 { tileUp with linkState := .test }, 63, (by decide +kernel)⟩,
   ⟨tiled 63 { tileUp with inStep := true }, 63, { message := [], errors := (List.range 16).map fun i => (4 * i, 1), laneErrs := [] },
     (by decide +kernel), (by decide +kernel), ⟨0, by decide, by decide +kernel⟩⟩,
   ⟨tiled 63 { tileUp with retry := { expected := 0xffffff, lastCount := some 0xffffff }, rx := [(0, { skip := true })] }, 63, framed 0 (crcd
     { flitType := 1, linkSeq := 0xffffff, body := List.replicate 240 0 }), (crcd
     { flitType := 1, linkSeq := 0xffffff, body := List.replicate 240 0 }), List.replicate 9 idle0, (by decide +kernel), (by decide +kernel),
     (by decide +kernel), (by decide +kernel), (framed_reads _ rfl).1, (by rw [(framed_reads _ rfl).2.1]; rfl), rfl, (framed_reads _ rfl).2.2,
     idle0_carries_nothing, (crcd_ok _), rfl, rfl, rfl, (by decide +kernel), rfl⟩,
   ⟨tiled 63
     { tileUp with
       retry := { nextTx := 1, lastCount := some 0xffffff, kept := [{ seq := 0xffffff, flit := {}, sentAt := 0 }, { seq := 0, flit := {}, sentAt := 0 }] } },
     63, framed 0 (crcd { ackValid := true, ackSeq := 0xffffff, body := List.replicate 240 0 }), (crcd
     { ackValid := true, ackSeq := 0xffffff, body := List.replicate 240 0 }), List.replicate 9 idle0, (by decide +kernel), (by decide +kernel),
     (framed_reads _ rfl).1, (by rw [(framed_reads _ rfl).2.1]; rfl), rfl, (framed_reads _ rfl).2.2, idle0_carries_nothing, (crcd_ok _), rfl, rfl,
     (by decide +kernel), (by decide +kernel)⟩,
   ⟨tiled 63 { tileUp with linkState := .detect, lanes := [(7, { lockRun := 14 })] }, 63, 7, block 0, (by decide +kernel), (by decide +kernel),
     (by decide +kernel), (by decide +kernel)⟩⟩

theorem witness_TrainingCompletes_8_to_13 :
    (∃ (s : State) (port : Nat) (b : TrainBlock), s.fabricTrains port = true ∧ (s.tile port).linkState = .detect ∧ b.marked = false) ∧
    (∃ (s : State) (port : Nat) (b : TrainBlock), b.marked = true ∧ b.phase = 2 ∧ (s.tile port).linkState = .up) ∧
    (∃ (s : State) (port lane : Nat) (i : Instr), (s.tile port).linkState = .up ∧ (s.tile port).inStep = false ∧ ((∃ b : TrainBlock, i =
      .trainingBlock port lane b ∧ b.marked = true ∧ b.phase ≠ 2 ∧ (s.tile port).qualifying = false) ∨ i = .laneLockLoss port lane ∧ (tgetD (s.tile
      port).lanes lane {}).excluded = false ∨ i = .marginCriticalExpiry port lane ∧ (tgetD (s.tile port).lanes lane {}).eyeWidth.toNat < (s.tile
      port).criticalMargin.toNat)) ∧
    (∃ (s : State) (port : Nat), (s.tile port).inStep = true) ∧
    (∃ (s : State) (port lane : Nat), (tgetD (s.tile port).lanes lane {}).excluded = true) ∧
    (∃ (s : State) (port : Nat), (s.tile port).linkState ∈ [LinkState.map, .align, .hello, .step]) :=
  ⟨⟨tiled 63 { tileUp with linkState := .detect }, 63, { symbols := [], skewNs := 0 }, (by decide +kernel), (by decide +kernel),
     (by decide +kernel)⟩,
   ⟨tiled 63 tileUp, 63, block 2, (by decide +kernel), (by decide +kernel), (by decide +kernel)⟩,
   ⟨tiled 63 { tileUp with lanes := [(7, { eyeWidth := 5 })] }, 63, 7, .marginCriticalExpiry 63 7, (by decide +kernel), (by decide +kernel), (.inr
     (.inr ⟨rfl, by decide⟩))⟩,
   ⟨tiled 63 { tileUp with inStep := true }, 63, (by decide +kernel)⟩,
   ⟨tiled 63 { tileUp with lanes := [(7, { excluded := true, good := true })] }, 63, 7, (by decide +kernel)⟩,
   ⟨tiled 63 { tileUp with linkState := .step, failures := 2 }, 63, (by decide +kernel)⟩⟩

theorem witness_TrainingCompletes_14_to_17 :
    (∃ (s : State) (port : Nat), (s.tile port).backoff = true) ∧
    (∃ (s : State) (port : Nat) (r : BitVec 2) (k : BitVec 24), (s.tile port).linkState = .step ∧ (s.tile port).propRate = some (r, k)) ∧
    (∃ (s : State) (port : Nat) (ws : List Nat), (s.tile port).linkState = .step ∧ (s.tile port).qualifying = true ∧ (∀ w ∈ ws, (s.tile
      port).marginFloor.toNat ≤ w)) ∧
    (∃ (s : State) (port : Nat) (bad ratio : Bool) (ws : List Nat), (s.tile port).linkState = .step ∧ (s.tile port).qualifying = true ∧ (bad = true
      ∨ ratio = true ∨ ∃ w ∈ ws, w < (s.tile port).marginFloor.toNat)) :=
  ⟨⟨tiled 63 { tileUp with linkState := .detect, backoff := true }, 63, (by decide +kernel)⟩,
   ⟨tiled 63 { tileUp with linkState := .step, propRate := some (2, 5) }, 63, 2, 5, (by decide +kernel), (by decide +kernel)⟩,
   ⟨tiled 63 { tileUp with linkState := .step, qualifying := true }, 63, [12], (by decide +kernel), (by decide +kernel), (by decide +kernel)⟩,
   ⟨tiled 63 { tileUp with linkState := .step, qualifying := true, rate := 2 }, 63, false, false, [11], (by decide +kernel), (by decide +kernel),
     (.inr (.inr ⟨11, by decide, by decide⟩))⟩⟩

theorem witness_ShoeingCompletes :
    (∃ (s : State) (port lane : Nat), (s.tile port).scans lane = false) ∧
    (∃ (s : State) (port lane : Nat), (s.tile port).scans lane = true ∧ (tgetD (s.tile port).lanes lane {}).active = false) ∧
    (∃ (s : State) (port lane : Nat) (w : BitVec 6), (s.tile port).scans lane = true ∧ (tgetD (s.tile port).lanes lane {}).active = true ∧ (tgetD
      (s.tile port).lanes lane {}).lastStep = 0 ∧ (tgetD (s.tile port).lanes lane {}).lastStepAt = 0 ∧ w.toNat < (s.tile port).marginFloor.toNat) ∧
    (∃ (s : State) (port : Nat) (sh : Shoe), (s.tile port).shoe = some sh ∧ (s.tile port).shoeing = true ∧ (s.tile port).shod = false ∧ (s.tile
      port).egress = [] ∧ (s.tile port).retry.kept = [] ∧ (s.tile port).soleUse = false ∧ (∀ a, (s.tile port).soleClearAt = some a → us 1 ≤
      (s.time.now - a).toNat)) ∧
    (∃ (s : State) (port : Nat), (s.tile port).egress = []) ∧
    (∃ (s : State) (port : Nat) (sh : Shoe), (s.tile port).shoe = some sh ∧ (s.tile port).inStep = false ∧ ((s.tile port).shod = true ∨ sh.own ≠
      none)) ∧
    (∃ (s : State) (port : Nat) (sh : Shoe), (s.tile port).shoe = some sh ∧ sh.begin_ ≠ none ∧ (s.tile port).shod = true ∧ (s.tile port).inStep =
      false) ∧
    (∃ (s : State) (port : Nat) (sh : Shoe), (s.tile port).shoe = some sh ∧ (s.tile port).inStep = true ∧ sh.selfDone = false ∧ sh.farDone = false) ∧
    (∃ (s : State) (port : Nat) (sh : Shoe), (s.tile port).shoe = some sh ∧ (s.tile port).inStep = true ∧ sh.selfDone = false ∧ sh.farDone = true) ∧
    (∃ (s : State) (port : Nat) (sh : Shoe), (s.tile port).shoe = some sh ∧ sh.own ≠ none ∧ (s.tile port).inStep = false ∧ (sh.farShod = false ∨
      (s.tile port).shod = false)) ∧
    (∃ (s : State) (port kind : Nat) (lanes : BitVec 8) (i : Instr), (s.tile port).shoeRetry = true ∧ (s.tile port).wantStep = some (kind, lanes) ∧
      (s.tile port).shoe = none ∧ (s.tile port).linkState = .up ∧ (i = .shoeRetryTimer port ∨ i = .idleRunStart port)) ∧
    (∃ (s : State) (port : Nat), (s.tile port).linkState = .up ∧ (s.tile port).shoeRetry = false) ∧
    (∃ (s : State) (port : Nat), (s.tile port).linkState = .up ∧ (s.tile port).lanesActive ≠ 0 ∧ (s.tile port).lanesActive ≠ 0xff ∧ (∀ k < 8, ∀ l, l
      = tgetD (s.tile port).lanes k {} → l.active = true ∨ l.excluded = true ∧ l.good = true ∧ (s.tile port).marginFloor.toNat + 4 ≤
      l.eyeWidth.toNat ∧ restoreBarred l = false) ∧ (∀ r, (s.tile port).lastRestore = some r → 10 * secTicks ≤ (s.time.now - r).toNat)) :=
  ⟨⟨tiled 63 tileUp, 63, 7, (by decide +kernel)⟩,
   ⟨tiled 63 { tileUp with lanesActive := 0x7f, lanes := [(7, { excluded := true })] }, 63, 7, (by decide +kernel), (by decide +kernel)⟩,
   ⟨tiled 63 { tileUp with lanesActive := 0xff, idleRun := true, lanes := [(7, { active := true })] }, 63, 7, 11, (by decide +kernel),
     (by decide +kernel), (by decide +kernel), (by decide +kernel), (by decide +kernel)⟩,
   ⟨tiled 63 { tileUp with shoe := some { shoeId := 4, own := some (1, 1, 0), begin_ := some 9 }, shoeing := true }, 63, _, rfl,
     (by decide +kernel), (by decide +kernel), (by decide +kernel), (by decide +kernel), (by decide +kernel), nofun⟩,
   ⟨tiled 63 { tileUp with soleUse := true }, 63, (by decide +kernel)⟩,
   ⟨tiled 63 { tileUp with shoe := some { shoeId := 4, own := some (1, 1, 0), begin_ := some 9 } }, 63, _, rfl, (by decide +kernel), (.inr
     (by decide))⟩,
   ⟨tiled 63 { tileUp with shoe := some { shoeId := 4, own := some (1, 1, 0), begin_ := some 9 }, shod := true }, 63,
     { shoeId := 4, own := some (1, 1, 0), begin_ := some 9 }, (by decide +kernel), (by decide +kernel), (by decide +kernel), (by decide +kernel)⟩,
   ⟨tiled 63 { tileUp with shoe := some { shoeId := 4, own := some (1, 1, 0), begin_ := some 9 }, inStep := true }, 63, _, rfl, (by decide +kernel),
     (by decide +kernel), (by decide +kernel)⟩,
   ⟨tiled 63
     { tileUp with
       shoe := some { shoeId := 4, own := some (1, 1, 0), begin_ := some 9, farDone := true }, inStep := true, shoeing := true, shod := true }, 63,
     _, rfl, (by decide +kernel), (by decide +kernel), (by decide +kernel)⟩,
   ⟨tiled 63 { tileUp with shoe := some { shoeId := 4, own := some (1, 1, 0), begin_ := some 9 }, shoeing := true, shod := true }, 63, _, rfl,
     (by decide +kernel), (by decide +kernel), (by decide +kernel)⟩,
   ⟨tiled 63 { tileUp with shoeRetry := true, wantStep := some (1, 1) }, 63, 1, 1, .idleRunStart 63, (by decide +kernel), (by decide +kernel),
     (by decide +kernel), (by decide +kernel), (.inr rfl)⟩,
   ⟨tiled 63 tileUp, 63, (by decide +kernel), (by decide +kernel)⟩,
   ⟨narrowed, 63, (by decide +kernel), (by decide +kernel), (by decide +kernel), (by intro k hk l e; subst e; revert k hk; decide +kernel), nofun⟩⟩

theorem witness_LinkTimersComplete :
    (∃ (s : State) (port : Nat) (now : Ticks) (k : KeptFlit) (l : List KeptFlit), (s.tile port).retry.kept = k :: l ∧ us 4 ≤ ((s.advance
      now).time.now - k.sentAt).toNat ∧ (s.tile port).linkState = .up ∧ (s.tile port).inStep = false ∧ (s.tile port).retry.replayRun.toNat ≤ 1) ∧
    (∃ (s : State) (port : Nat), (s.tile port).linkState = .up ∧ (s.tile port).inStep = false) ∧
    (∃ (s : State) (port : Nat), (s.tile port).linkState = .up ∧ (s.tile port).inStep = false) ∧
    (∃ (s : State) (port : Nat), ((s.tile port).linkState = .hello ∨ (s.tile port).linkState = .up ∧ 0 < (s.tile port).hellosToSend)) ∧
    (∃ (s : State) (port : Nat), (s.tile port).linkState = .step ∧ (s.tile port).propRate = none ∧ (s.tile port).qualifying = false ∧ s.leads port =
      true ∧ (s.tile port).rate.toNat < (s.tile port).agreed.toNat) :=
  ⟨⟨tiled 63 { tileUp with retry := { kept := [{ seq := 5, flit := {}, sentAt := 0 }], nextTx := 6, replayRun := 1 } }, 63, 256000, _, _, rfl,
     (by decide +kernel), (by decide +kernel), (by decide +kernel), (by decide +kernel)⟩,
   ⟨tiled 63 tileUp, 63, (by decide +kernel), (by decide +kernel)⟩,
   ⟨tiled 63 tileUp, 63, (by decide +kernel), (by decide +kernel)⟩,
   ⟨tiled 63 { tileUp with hellosToSend := 1 }, 63, (by decide +kernel)⟩,
   ⟨{ tiled 63 { tileUp with linkState := .step, farMaxRate := 2, farIdValid := true, farModule := 1 } with routing := { idValid := true } }, 63,
     (by decide +kernel), (by decide +kernel), (by decide +kernel), (by decide +kernel), (by decide +kernel)⟩⟩

theorem witness_FlowCompletes :
    (∃ (s : State) (tc : BitVec 2), (tc = 3 ∨ s.stopped = true)) ∧
    (∃ (s v w : State) (tc : BitVec 2) (q q' : QPkt) (i o : Nat), s.stopped = false ∧ tc.toNat < 2 ∧ s.sched.inject = [q] ∧ q.inst = some i ∧
      q.pkt.tc = tc ∧ q.pkt.mcast = false ∧ v =
      { s with sched.injectV := tset s.sched.injectV tc.toNat ((tgetD s.sched.injectV tc.toNat {}).fix s.time.now [(i, headOf q)]) } ∧ v.injectHop q
      = (w, .out o, q') ∧ v.mayInject i q.pkt o = true ∧ s.inWindow q.pkt = true) ∧
    (∃ (s : State) (tc : BitVec 2) (q : QPkt) (i : Nat), s.stopped = false ∧ tc.toNat < 2 ∧ s.sched.inject = [q] ∧ q.inst = some i ∧ q.pkt.tc = tc ∧
      q.pkt.mcast = true ∧ s.castOk q.pkt.dst = true ∧ s.mayInject i q.pkt ((s.fanPorts q).1.headD 0) = true ∧ s.inWindow q.pkt = true) ∧
    (∃ (s : State) (port : Nat), (s.tile port).linkState = .up ∧ (s.tile port).inStep = false ∧ (s.tile port).fenced = false ∧ (s.tile port).egress
      = []) ∧
    (∃ (s : State) (port : Nat) (q : QPkt), (s.tile port).linkState = .up ∧ (s.tile port).inStep = false ∧ (s.tile port).fenced = false ∧ (s.tile
      port).egress = [q] ∧ q.pkt.tc = 3 ∧ q.sent = 0 ∧ q.inPort = none ∧ chunksOf q.pkt ≤ ((s.tile port).txLane (laneOf q.pkt)).credit) ∧
    (∃ (s : State) (now : Ticks) (q : QPkt) (p : Nat), q ∈ s.routing.waiting ∧ q.localOnly = false ∧ q.inPort = some p ∧ (∀ x ∈ s.routing.waiting,
      sameLane x q = true → x = q) ∧ us s.routing.routeWaitUs.toNat ≤ ((s.advance now).time.now - q.since).toNat) ∧
    (∃ (s : State) (now : Ticks), s.routing.swapScheduled = true ∧ s.routing.swapAt.toNat ≤ (s.advance now).time.now.toNat ∧ s.routing.otherBank =
      .pending ∧ (s.routing.bank !s.routing.activeBank).gen = s.routing.activeGen + 1) ∧
    (∃ (s : State) (now : Ticks), s.routing.swapScheduled = true ∧ s.routing.swapAt.toNat ≤ (s.advance now).time.now.toNat ∧ (s.routing.otherBank ≠
      .pending ∨ (s.routing.bank !s.routing.activeBank).gen ≠ s.routing.activeGen + 1)) ∧
    (∃ (s : State) (now : Ticks), s.routing.otherBank = .retiring ∧ s.routing.retireAt.toNat ≤ (s.advance now).time.now.toNat) :=
  ⟨⟨{}, 3, (.inl rfl)⟩,
   ⟨{ paired with sched := { inject := [waits] } }, _, _, 0, waits, _, 0, 7, (by decide +kernel), (by decide +kernel), (by decide +kernel),
     (by decide +kernel), (by decide +kernel), (by decide +kernel), rfl, rfl, (by decide +kernel), (by decide +kernel)⟩,
   ⟨{ paired with sched := { inject := [castWaits] }, routing := { paired.routing with trees := [(1, 1 <<< 81)] } }, 0, castWaits, 0,
     (by decide +kernel), (by decide +kernel), (by decide +kernel), (by decide +kernel), (by decide +kernel), (by decide +kernel),
     (by decide +kernel), (by decide +kernel), (by decide +kernel)⟩,
   ⟨tiled 63 tileUp, 63, (by decide +kernel), (by decide +kernel), (by decide +kernel), (by decide +kernel)⟩,
   ⟨tiled 63
     { tileUp with egress := [{ pkt := { tc := 3, payloadLen := 8, payload := List.replicate 8 0 }, rest := [] }], tx := [(24, { credit := 20 })] },
     63, _, (by decide +kernel), (by decide +kernel), (by decide +kernel), rfl, (by decide +kernel), (by decide +kernel), (by decide +kernel),
     (by decide +kernel)⟩,
   ⟨{ routing := { waiting := [{ pkt := {}, inPort := some 63 }] } }, 6400000, { pkt := {}, inPort := some 63 }, 63, (by decide +kernel),
     (by decide +kernel), (by decide +kernel), (by decide +kernel), (by decide +kernel)⟩,
   ⟨{ routing := { swapScheduled := true, swapAt := 9, otherBank := .pending, activeGen := 0xffffffff } }, 9, (by decide +kernel),
     (by decide +kernel), (by decide +kernel), (by decide +kernel)⟩,
   ⟨{ routing := { swapScheduled := true, swapAt := 9, otherBank := .pending } }, 9, (by decide +kernel), (by decide +kernel), (by decide +kernel)⟩,
   ⟨{ routing := { otherBank := .retiring, retireAt := 9, bank1 := { gen := 4 } } }, 9, (by decide +kernel), (by decide +kernel)⟩⟩

theorem witness_TransportCompletes :
    (∃ (s : State) (port : Nat) (p : Packet) (k : StreamKey), s.hasArrival p = true ∧ p.pktType = 0x14 ∧ bit p.opExt 0 = true ∧ k = streamKeyOf p
      (port == 63)) ∧
    (∃ (s : State) (port : Nat) (p : Packet) (k : StreamKey) (v : BitVec 32), s.hasArrival p = true ∧ p.pktType = 0x14 ∧ bit p.opExt 0 = false ∧ bit
      p.opExt 1 = false ∧ k = streamKeyOf { p with src := p.dst, dst := p.src } (port == 63) ∧ v = BitVec.ofNat 32 (bits p.typeWord 31 0) ∧ serialLt
      v (s.routing.txStream k).next = true) ∧
    (∃ (s : State) (port : Nat) (p : Packet) (k : StreamKey), s.hasArrival p = true ∧ p.pktType = 0x14 ∧ bit p.opExt 0 = false ∧ bit p.opExt 1 =
      true ∧ k = streamKeyOf { p with src := p.dst, dst := p.src } (port == 63)) ∧
    (∃ (s : State) (k : StreamKey) (x : StreamRx), (s.routing.streamsRx.find? (fun x => x.key == k) = some x) ∧ x.ackDue = true) ∧
    (∃ (s : State) (now : Ticks) (boundary : Nat), s.sched.sampleEnable = true ∧ Memory.wf s.mem = true ∧ boundary = (s.advance now).time.now.toNat
      / (64 * s.sched.epochNs.toNat) * (64 * s.sched.epochNs.toNat) ∧ 1 ≤ s.sched.epochNs.toNat ∧ s.sched.sampleLast.toNat < boundary) :=
  ⟨⟨{ routing := { arrivals := [(3, { pktType := 0x14, tc := 3, src := 0x1000, typeWord := 9, opExt := 1 })] } }, 3,
     { pktType := 0x14, tc := 3, src := 0x1000, typeWord := 9, opExt := 1 }, streamKeyOf
     ({ pktType := 0x14, tc := 3, src := 0x1000, typeWord := 9, opExt := 1 }) false, (by decide +kernel), (by decide +kernel), (by decide +kernel),
     rfl⟩,
     ⟨{ routing := { arrivals := [(3, { pktType := 0x14, tc := 3, src := 0x1000, typeWord := 9, opExt := 0 })], streamsTx := [{ key := { src := 0, dst := 0x1000, tc := 3 }, next := 10, store := [({ e2eSeq := 8 }, 0, 0), ({ e2eSeq := 9 }, 0, 0)] }] } },
     3, { pktType := 0x14, tc := 3, src := 0x1000, typeWord := 9, opExt := 0 }, streamKeyOf
     { ({ pktType := 0x14, tc := 3, src := 0x1000, typeWord := 9, opExt := 0 } : Packet) with src := 0, dst := 0x1000 } false, 9,
     (by decide +kernel), (by decide +kernel), (by decide +kernel), (by decide +kernel), rfl, (by decide +kernel), (by decide +kernel)⟩,
     ⟨{ routing := { arrivals := [(3, { pktType := 0x14, tc := 3, src := 0x1000, typeWord := 9, opExt := 2 })], streamsTx := [{ key := { src := 0, dst := 0x1000, tc := 3 }, next := 10, store := [({ e2eSeq := 8 }, 0, 0)] }] } },
     3, { pktType := 0x14, tc := 3, src := 0x1000, typeWord := 9, opExt := 2 }, streamKeyOf
     { ({ pktType := 0x14, tc := 3, src := 0x1000, typeWord := 9, opExt := 2 } : Packet) with src := 0, dst := 0x1000 } false, (by decide +kernel),
     (by decide +kernel), (by decide +kernel), (by decide +kernel), rfl⟩,
   ⟨{ routing := { streamsRx := [{ key := { src := 0x1000, dst := 0, tc := 3 }, last := 8, ackDue := true }] } },
     { src := 0x1000, dst := 0, tc := 3 }, _, rfl, (by decide +kernel)⟩,
   ⟨{ sched := { sampleEnable := true, sampleRing := some (0, 1), sampleQueues := [5] } }, 6400000, 6400000, (by decide +kernel),
     (by decide +kernel), (by decide +kernel), (by decide +kernel), (by decide +kernel)⟩⟩

theorem witness_RegistersComplete :
    (∃ (s : State) (c : Call), ∃ code may, s.Executes (.identify c) c code may) ∧
    (∃ (s : State) (c : Call) (block index : Nat) (offset : BitVec 32) (count : Nat), regBlockOk block index = true ∧ offset.toNat % 8 = 0 ∧ 1 ≤
      count ∧ count ≤ 120 ∧ (∀ k < count, s.regScope (s.authOf c.via) c block (offset.toNat + 8 * k) = true)) ∧
    (∃ (s : State) (c : Call) (index : Nat) (value mask w : Word), index < 64 ∧ w = (BitVec.ofNat 64 (s.tile index).laneCfg &&& ~~~mask) ||| (value
      &&& mask) ∧ bits w 16 11 < bits w 10 5 ∧ bits w 24 17 ≠ 0 ∧ ∃ code may, s.Executes (.regWrite c 1 index 0x130 value mask) c code may) ∧
    (∃ (s : State) (c : Call) (block index : Nat) (offset : BitVec 32) (value mask : Word), regBlockOk block index = true ∧ offset.toNat % 8 = 0 ∧
      (¬(block = 1 ∧ offset.toNat = 0x130)) ∧ (s.regAt block index offset.toNat).1 = none ∧ ∃ code may, s.Executes (.regWrite c block index offset
      value mask) c code may) ∧
    (∃ (s : State) (c : Call) (block index : Nat) (offset : BitVec 32) (value mask : Word), regBlockOk block index = true ∧ offset.toNat % 8 = 0 ∧
      (¬(block = 1 ∧ offset.toNat = 0x130)) ∧ (s.regAt block index offset.toNat).1 ≠ none ∧ ∃ code may, s.Executes (.regWrite c block index offset
      value mask) c code may) :=
  ⟨⟨diag, dbg, executes rfl (by decide +kernel)⟩,
   ⟨diag, dbg, 1, 63, 0x100, 4, (by decide +kernel), (by decide +kernel), (by decide +kernel), (by decide +kernel), (fun _ _ => rfl)⟩,
   ⟨diag, dbg, 63, 0xe0, 0x7e0, (BitVec.ofNat 64 (diag.tile 63).laneCfg &&& ~~~0x7e0) ||| (0xe0 &&& 0x7e0), (by decide +kernel),
     (by decide +kernel), (by decide +kernel), (by decide +kernel), executes rfl (by decide +kernel)⟩,
   ⟨diag, dbg, 7, 3, 0x7ff8, 1, 1, (by decide +kernel), (by decide +kernel), (by decide +kernel), (by decide +kernel), executes rfl
     (by decide +kernel)⟩,
   ⟨diag, dbg, 0, 3, 0, 1, 1, (by decide +kernel), (by decide +kernel), (by decide +kernel), (by decide +kernel), executes rfl (by decide +kernel)⟩⟩

theorem witness_RequestsArrive :
    (∃ (s : State) (p : Packet), (63, p) ∈ s.routing.arrivals ∧ p.pktType = 0x10) ∧
    (∃ (s : State) (port : Nat) (p : Packet), port ≠ 63 ∧ (port, p) ∈ s.routing.arrivals ∧ p.pktType = 0x10 ∧ s.hearth.fabricQueue.length < 1024) ∧
    (∃ (s : State) (port : Nat) (p : Packet), port ≠ 63 ∧ (port, p) ∈ s.routing.arrivals ∧ p.pktType = 0x10 ∧ 1024 ≤ s.hearth.fabricQueue.length) ∧
    (∃ (s : State) (eid : BitVec 8) (r : ReqHdr) (k : BitVec 8 × Resp), (s.hearth.keptResp.find? (fun e => e.1 == eid && e.2.seq == r.seq) = some
      k)) ∧
    (∃ (s : State) (eid : BitVec 8) (r : ReqHdr), (s.hearth.keptResp.find? (fun e => e.1 == eid && e.2.seq == r.seq) = none)) ∧
    (∃ (s : State) (port slot : Nat) (p : Packet) (x : QCmd × Ticks) (fn : Fn) (y : Slot), (port, p) ∈ s.routing.arrivals ∧ p.pktType = 0x11 ∧
      (s.hearth.running.find? (fun x => x.1.forward && x.1.target == addrModule p.src && x.1.seq == (respOf p.payload).seq && x.1.opcode == (respOf
      p.payload).opcode) = some x) ∧ x.1.via = .mailbox fn slot ∧ tget (s.mbox fn).slots slot = some y ∧ y.state = .running ∧ y.seq = (respOf
      p.payload).seq) ∧
    (∃ (s : State) (port : Nat) (p : Packet), (port, p) ∈ s.routing.arrivals ∧ p.pktType = 0x11 ∧ s.hearth.running = [] ∧ (respOf p.payload).opcode
      = 0x0606 ∧ addrModule p.src ∈ s.striker.queried) ∧
    (∃ (s : State) (k : StreamKey) (now : Ticks), (s.routing.txStream k).fenced = false ∧ (∃ e ∈ (s.routing.txStream k).store, us
      s.routing.timeoutUs.toNat ≤ ((s.advance now).time.now - e.2.2).toNat) ∧ (∀ e ∈ (s.routing.txStream k).store, us s.routing.timeoutUs.toNat ≤
      ((s.advance now).time.now - e.2.2).toNat → e.2.1 < s.routing.resendLimit.toNat)) :=
  ⟨⟨{ routing := { arrivals := [(63, { pktType := 0x10, src := 0x1000, payload := leBytes 2 1 ++ leBytes 2 0 ++ leBytes 4 9 ++ leBytes 8 0 })] } },
     { pktType := 0x10, src := 0x1000, payload := leBytes 2 1 ++ leBytes 2 0 ++ leBytes 4 9 ++ leBytes 8 0 }, (by decide +kernel),
     (by decide +kernel)⟩,
   ⟨{ routing := { arrivals := [(0, { pktType := 0x10, src := 0x1000, payload := leBytes 2 1 ++ leBytes 2 0 ++ leBytes 4 9 ++ leBytes 8 0 })] } },
     0, { pktType := 0x10, src := 0x1000, payload := leBytes 2 1 ++ leBytes 2 0 ++ leBytes 4 9 ++ leBytes 8 0 }, (by decide +kernel),
     (by decide +kernel), (by decide +kernel), (by decide +kernel)⟩,
     ⟨{ routing := { arrivals := [(0, { pktType := 0x10, src := 0x1000, payload := leBytes 2 1 ++ leBytes 2 0 ++ leBytes 4 9 ++ leBytes 8 0 })] },
        hearth := { fabricQueue := List.replicate 1024 { via := .fabric 0 0, opcode := 1, seq := 0 } } }, 0,
     { pktType := 0x10, src := 0x1000, payload := leBytes 2 1 ++ leBytes 2 0 ++ leBytes 4 9 ++ leBytes 8 0 }, (by decide +kernel),
     (by decide +kernel), (by decide +kernel), (by decide +kernel)⟩,
   ⟨{ hearth := { keptResp := [(8, { opcode := 1, seq := 9, error := 0, result := [], take := 1, done := 2 })] } }, 8,
     { opcode := 1, argLen := 0, seq := 9, target := 0, forward := false, reserved := 0 }, _, rfl⟩,
   ⟨{}, 8, { opcode := 1, argLen := 0, seq := 9, target := 0, forward := false, reserved := 0 }, (by decide +kernel)⟩,
     ⟨{ routing := { arrivals := [(3, { pktType := 0x11, src := 0x1000, payload := leBytes 2 1 ++ leBytes 2 0 ++ leBytes 4 9 ++ leBytes 24 0 })] },
        hearth := { running := [({ via := .mailbox pf0 29, opcode := 1, seq := 9, target := 1, forward := true }, 0)], mboxes := [(0, { slots := [(29, { state := .running, seq := 9 })] })] } },
     3, 29, { pktType := 0x11, src := 0x1000, payload := leBytes 2 1 ++ leBytes 2 0 ++ leBytes 4 9 ++ leBytes 24 0 },
     ({ via := .mailbox pf0 29, opcode := 1, seq := 9, target := 1, forward := true }, 0), pf0, { state := .running, seq := 9 },
     (by decide +kernel), (by decide +kernel), (by decide +kernel), (by decide +kernel), (by decide +kernel), (by decide +kernel),
     (by decide +kernel)⟩,
     ⟨{ routing := { arrivals := [(3, { pktType := 0x11, src := 0x1000, payload := leBytes 2 0x0606 ++ leBytes 2 0 ++ leBytes 4 9 ++ leBytes 24 0 })] },
        striker := { queried := [1] } }, 3,
     { pktType := 0x11, src := 0x1000, payload := leBytes 2 0x0606 ++ leBytes 2 0 ++ leBytes 4 9 ++ leBytes 24 0 }, (by decide +kernel),
     (by decide +kernel), (by decide +kernel), (by decide +kernel), (by decide +kernel)⟩,
   ⟨{ routing := { streamsTx := [{ key := { src := 0, dst := 0x1000, tc := 3 }, next := 10, store := [({ e2eSeq := 8 }, 7, 0)] }] } },
     { src := 0, dst := 0x1000, tc := 3 }, 1280000, (by decide +kernel), (by decide +kernel), (by decide +kernel)⟩⟩

theorem witness_RequestsArrive_9 : ∃ (s : State) (k : StreamKey) (now : Ticks) (e : Packet × Nat × Ticks),
    (s.routing.txStream k).fenced = false ∧ e ∈ (s.routing.txStream k).store ∧
    us s.routing.timeoutUs.toNat ≤ ((s.advance now).time.now - e.2.2).toNat ∧ s.routing.resendLimit.toNat ≤ e.2.1 ∧ k.viaF63 = true :=
  ⟨{ routing := { streamsTx := [{ key := { src := 0, dst := 0x1000, tc := 3, viaF63 := true }, next := 9, store := [({ e2eSeq := 8 }, 8, 0)] }] } },
    { src := 0, dst := 0x1000, tc := 3, viaF63 := true }, 1280000, ({ e2eSeq := 8 }, 8, 0),
    by decide +kernel, by decide +kernel, by decide +kernel, by decide +kernel, rfl⟩

theorem witness_StepRunsFrontCommand : (∃ (s : State) (c : Instr) (rest : List Instr), s.pending = c :: rest) ∧ ∃ s : State, s.pending = [] :=
  ⟨⟨{ pending := [.bellowsUpdate, .timeRefLoss true] }, _, _, rfl⟩, {}, rfl⟩

/-- A module whose exposed segment head 3 is about to write. -/
def writing : State :=
  { ports := [(3, hostUp)], segments := [(511, 8)], mem := [(0x1fffffffff, 1)], pending := [.cxlMemWrite 3 false false 0x1fffffffff [2]] }

theorem writing_inv : writing.Inv :=
  ⟨by decide +kernel, ⟨fun h => absurd rfl h, nofun, nofun, nofun⟩, rfl⟩

theorem witness_StepKeepsInvariant : ∃ s t : State, s.Inv ∧ step s = .next t := ⟨writing, _, writing_inv, rfl⟩

theorem witness_CommandsChangeOnlyTheirParts : ∃ (i : Instr) (s t : State), exec i s = .next t := ⟨.cxlMemWrite 3 false false 0x1fffffffff [2], writing, _, rfl⟩

theorem witness_StoresStayInPlace_1 : ∃ (c : Call) (handle : Nat) (offset : BitVec 32) (data : List Byte) (s t : State) (a : Nat),
    exec (.stageWrite c handle offset data) s = .next t ∧
    ∀ b, s.buffer c.via handle = some b → a < b.addr + offset.toNat ∨ b.addr + offset.toNat + data.length ≤ a :=
  ⟨dbg, 0, 4, [1], staged, _, 0x10000005, rfl, by rintro b ⟨⟩; decide⟩

theorem witness_StoresStayInPlace_2 : ∃ (head : Nat) (foreign window : Bool) (offset : Word) (data : List Byte) (s t : State) (a : Nat),
    exec (.cxlMemWrite head foreign window offset data) s = .next t ∧
    (foreign = false → window = false → a < offset.toNat ∨ offset.toNat + data.length ≤ a) ∧
    ∀ r ∈ (s.port head).m2s, ∀ d, r.write = some d → r.window = false → a < r.addr ∨ r.addr + d.length ≤ a :=
  ⟨3, false, false, 0x1fffffffff, [2], writing, _, 0x1ffffffffe, rfl, by decide, nofun⟩

/-- A write that waits for a snoop of head 0's line (R270), which head 0 answers. -/
def memWaits : State :=
  { ports := [(0, { hostUp with biPending := [0x7fffffff], tracked := [0x7fffffff] }),
      (3, { hostUp with m2s := [{ window := false, addr := 0x1fffffffff, write := some [2] }] })], segments := [(511, 9)] }
theorem memWaits_outside : ∀ r ∈ (memWaits.port 3).m2s, ∀ d, r.write = some d → r.window = false → 0x1ffffffffe < r.addr ∨ r.addr + d.length ≤ 0x1ffffffffe := by
  intro r h d hd _
  rw [List.mem_singleton.mp h] at hd ⊢
  exact .inl (by decide)

/-- Whether a command ends in a next state. -/
def runs (o : Host.Outcome State Fault Refusal) : Bool :=
  match o with
  | .next _ => true
  | _ => false
theorem next_of_runs {o : Host.Outcome State Fault Refusal} (h : runs o = true) : ∃ t, o = .next t := by
  cases o with
  | next t => exact ⟨t, rfl⟩
  | fault _ => cases h
  | refused _ => cases h

theorem witness_StoresStayInPlace_3 : ∃ (head : Nat) (foreign window : Bool) (offset : Word) (s : State) (a : Nat),
    (∃ t, exec (.cxlMemRead head foreign window offset) s = .next t) ∧
    ∀ r ∈ (s.port head).m2s, ∀ d, r.write = some d → r.window = false → a < r.addr ∨ r.addr + d.length ≤ a :=
  ⟨3, false, false, 0, memWaits, 0x1ffffffffe, next_of_runs (by decide +kernel), memWaits_outside⟩

theorem witness_StoresStayInPlace_4 : ∃ (head line : Nat) (s : State) (a : Nat), s.RingsIn ∧ (∃ t, exec (.birsp head line) s = .next t) ∧
    ¬ inReport a 1 ∧ ∀ h < 4, ∀ r ∈ (s.port h).m2s, ∀ d, r.write = some d → r.window = false → a < r.addr ∨ r.addr + d.length ≤ a := by
  refine ⟨0, 0x7fffffff, memWaits, 0x1ffffffffe, ⟨fun h => absurd rfl h, nofun, nofun, nofun⟩, next_of_runs (by decide +kernel),
    by simp [inReport, reportBase, Config.segBytes], fun h hh => ?_⟩
  match h, hh with
  | 0, _ | 1, _ | 2, _ => nofun
  | 3, _ => exact memWaits_outside

theorem witness_StoresStayInPlace_5 : ∃ (p : Packet) (acc : Access) (s : State) (a : Nat), (∃ t, exec (.putPacket p acc) s = .next t) ∧
    ∀ w off, w = s.window (s.targetInst p) (bits p.typeWord 59 48) → off = bits p.typeWord 47 0 + p.opOffset.toNat → bit w 113 = true →
      a < bits w 63 0 + off ∨ bits w 63 0 + off + p.payload.length ≤ a :=
  ⟨sealed { pkt0 0x01 with payload := [1, 2], payloadLen := 2 }, .ok,
    arrived (sealed { pkt0 0x01 with payload := [1, 2], payloadLen := 2 }) [(0, win0 true)], 2, next_of_runs (by decide +kernel),
    by rintro w off rfl rfl _; exact .inr (by decide +kernel)⟩

theorem witness_StoresStayInPlace_6 : ∃ (p : Packet) (old : BitVec 128) (oldPoison : Bool) (acc : Access) (s : State) (a : Nat), s.RingsIn ∧
    (∃ t, exec (.atomicReq p old oldPoison acc) s = .next t) ∧ ¬ inReport a 1 ∧
    ∀ w off, w = s.window (s.targetInst p) (bits p.typeWord 59 48) → off = bits p.typeWord 47 0 → bit w 113 = true →
      leAt p.payload 0 1 ≠ 0x10 → a < bits w 63 0 + off ∨ bits w 63 0 + off + atypeSize (leAt p.payload 1 1) ≤ a :=
  ⟨sealed { pkt0 0x04 with payload := [6, 3, 1, 0] ++ List.replicate 44 0, payloadLen := 48 }, 0, true, .ok,
    arrived (sealed { pkt0 0x04 with payload := [6, 3, 1, 0] ++ List.replicate 44 0, payloadLen := 48 }) [(0, win0 true)], 8,
    ⟨fun h => absurd rfl h, nofun, nofun, nofun⟩, next_of_runs (by decide +kernel), by simp [inReport, reportBase, Config.segBytes],
    by rintro w off rfl rfl _ _; exact .inr (by decide +kernel)⟩

/-- A MOVE to space 1 whose lines are staged. -/
def moving : State :=
  { drawn { state := .running, active := some { program := [5] },
            jobs := [{ seq := 7, pc := 0, src := 0x103c, dst := 0x40, n := 8, srcSpace := false, dstSpace := true, down := false, issued := 2,
                       lines := [(0, { bytes := List.replicate 60 0 ++ [1, 2, 3, 4] }), (1, { bytes := [5, 6, 7, 8] })] }] }
      with insts := [(0, { inst0 with segments := [511] })] }
theorem witness_StoresStayInPlace_7 : ∃ (channel : Nat) (write : Bool) (wr : Access) (s : State) (a : Nat), s.RingsIn ∧
    (∃ t, exec (.move channel write wr) s = .next t) ∧ ¬ inReport a 1 ∧
    (∃ j, write = true ∧ (s.chan channel).writeJob = some j ∧ j.dstSpace = true) ∧
    ∀ j, write = true → (s.chan channel).writeJob = some j → j.dstSpace = true →
      ∀ i, i < j.good.2 - j.good.1 → a ≠ s.space1 (s.chan channel) ((j.dst + BitVec.ofNat 64 j.good.1).toNat + i) :=
  ⟨255, true, .ok, moving, 0, ⟨fun h => absurd rfl h, nofun, nofun, nofun⟩, next_of_runs (by decide +kernel),
    by simp [inReport, reportBase, Config.segBytes], ⟨_, rfl, rfl, rfl⟩, by rintro j - ⟨⟩ -; decide +kernel⟩

theorem witness_StoresStayInPlace_8 : ∃ (core : Nat) (pc : Word) (skid : Nat) (masked idle : Bool) (opcode : BitVec 16) (task : BitVec 32)
    (s t : State) (a : Nat), exec (.hsSampleTrigger core pc skid masked idle opcode task) s = .next t ∧
    (a < bits s.counters.hsRing 36 0 ∨ bits s.counters.hsRing 36 0 + 64 + 32 * 2 ^ bits s.counters.hsRing 41 37 ≤ a) :=
  ⟨7, 5, 0, false, false, 1, 2, { counters := { hsCfg := 0x101, hsRing := BitVec.ofNat 64 reportBase } }, _, 0, rfl, .inl (by decide)⟩

theorem witness_StoresStayInPlace_9 : ∃ (now : Ticks) (s t : State) (a : Nat), exec (.sampleEpoch now) s = .next t ∧
    ∀ off n, s.sched.sampleRing = some (off, n) → a < reportBase + off ∨ reportBase + off + 32 * n ≤ a :=
  ⟨6400000, { sched := { sampleEnable := true, sampleRing := some (0, 1), sampleQueues := [5] } }, _, reportBase + 32, rfl,
    by rintro off n ⟨⟩; exact .inr (by decide)⟩

theorem witness_MemoryReadsBack : (∃ m : List Host.Cell, m ≠ [] ∧ Memory.wf m = true) ∧ ∃ bs : List Byte, bs ≠ [] :=
  ⟨⟨[(0x1fffffffff, 1)], by decide⟩, [0], by decide⟩

theorem witness_HostsReachExposedMemoryOnly_1_to_4 : ∃ (head : Nat) (s : State), s.memOn head = true ∧
    512 * 268435456 ≤ (0x2000000000#64).toNat ∧ 268435456 ≤ (0x10000000#64).toNat ∧
    512 * 268435456 < (0x1fffffffff#64).toNat + [0#8, 0].length ∧ 268435456 < (0xfffffff#64).toNat + [0#8, 0].length :=
  ⟨3, writing, by decide⟩

theorem witness_HostsReachExposedMemoryOnly_5_6 : ∃ (offset : Word) (data : List Byte) (s : State), s.Inv ∧ s.memOn 3 = true ∧ (s.port 3).m2s = [] ∧
    offset.toNat < 3 * 268435456 ∧ data ≠ [] ∧ offset.toNat + data.length ≤ 512 * 268435456 :=
  ⟨0x2fffffff, [1], writing, writing_inv, by decide⟩

/-- Not first; wrong mode; no authority; halted; malformed. -/
theorem witness_FlesoTurnsAway :
    (∃ (i : Instr) (s : State) (c : Call) (code : BitVec 16) (k : Allowed), commandOf i = some (c, code, k) ∧ s.front c.via c.seq code = none) ∧
    (∃ (i : Instr) (s : State) (c : Call) (code : BitVec 16) (k : Allowed) (q : QCmd), commandOf i = some (c, code, k) ∧ s.front c.via c.seq code = some q ∧ s.modeRefuses (s.authOf c.via) code = true) ∧
    (∃ (i : Instr) (s : State) (c : Call) (code : BitVec 16) (k : Allowed) (q : QCmd), commandOf i = some (c, code, k) ∧ s.front c.via c.seq code = some q ∧ s.modeRefuses (s.authOf c.via) code = false ∧
      s.allows k code (s.authOf c.via) = false) ∧
    (∃ (i : Instr) (s : State) (c : Call) (code : BitVec 16) (k : Allowed) (q : QCmd), commandOf i = some (c, code, k) ∧ s.front c.via c.seq code = some q ∧ s.modeRefuses (s.authOf c.via) code = false ∧
      s.allows k code (s.authOf c.via) = true ∧ s.quench.halted = true ∧ haltOps.contains code = false) ∧
    ∃ (i : Instr) (s : State) (c : Call) (code : BitVec 16) (k : Allowed) (q : QCmd) (o : BitVec 16), commandOf i = some (c, code, k) ∧ s.front c.via c.seq code = some q ∧ s.modeRefuses (s.authOf c.via) code = false ∧
      s.allows k code (s.authOf c.via) = true ∧ s.quench.halted = false ∧ c.malformed = some o :=
  ⟨⟨.timeCfg side 0, {}, side, _, _, rfl, by decide +kernel⟩,
   ⟨.timeCfg { via := .mailbox { port := 1, vf := none } 0, seq := 7, malformed := none } 0,
     { hearth := { mode := .linkBringup, ready := true, queue := [{ via := .mailbox { port := 1, vf := none } 0, opcode := 0x0202, seq := 7 }] } },
     _, _, _, _, rfl, rfl, by decide +kernel⟩,
   ⟨.timeCfg { via := .mailbox { port := 1, vf := none } 0, seq := 7, malformed := none } 0,
     { hearth := { mode := .transit, ready := true, queue := [{ via := .mailbox { port := 1, vf := none } 0, opcode := 0x0202, seq := 7 }] } },
     _, _, _, _, rfl, rfl, by decide +kernel, by decide +kernel⟩,
   ⟨.timeCfg side 0, { queued 0x0202 .isolated with quench := { halted := true } }, _, _, _, _, rfl, rfl, by decide +kernel, by decide +kernel,
     rfl, by decide +kernel⟩,
   ⟨.timeCfg { side with malformed := some 23 } 0, queued 0x0202 .transit, _, _, _, _, 23, rfl, rfl, by decide +kernel, by decide +kernel,
     rfl, rfl⟩⟩

theorem witness_HaltStopsDataPath : ∃ s : State, s.quench.halted = true := ⟨{ quench := { halted := true } }, rfl⟩

/-- Each of the setting commands, as the debug port gives it, ends in a next state. -/
theorem witness_SettingsFrame : ∀ i ∈ ([.strikerCfg dbg 0, .collCfg dbg 10, .matchCfg dbg 0 (some (1023, 5)), .remoteCfg dbg 0,
    .windowWrite dbg (some 0) 4095 0, .transDomain dbg 1027 0 0, .transUnlock dbg 1027 0 256, .strokeEnable dbg true, .strokeAdmit dbg (ref0 512),
    .timeSet dbg 5, .wqCreate dbg none (some 16383) 14 0 0 0, .cqCreate dbg none (some 16383) 14 0 0 2 true, .cqSignal dbg 16383 true 2,
    .segmentExpose dbg 511 8, .dirtyLog dbg 1023 2 6 0 0 true, .drawChannel dbg (some 255) none 0 true] : List Instr),
    ∃ s t : State, exec i s = .next t := by
  intro i h
  simp only [List.mem_cons, List.not_mem_nil, or_false] at h
  rcases h with h | h | h | h | h | h | h | h | h | h | h | h | h | h | h | h <;> subst h <;> exact ⟨diag, _, rfl⟩

/-- The mailbox of virtual function 255 of host port 3, which instance 1023 is bound to. -/
def vfCall : Call := { via := .mailbox { port := 3, vf := some 255 } 0, seq := 7, malformed := none }
def vfQueued (op : BitVec 16) : State :=
  { hearth := { mode := .fullService, ready := true, queue := [{ via := vfCall.via, opcode := op, seq := 7 }] },
    insts := [(0, inst0), (1023, { state := .active, port := 3, bound := true, vf := 255 })], cqs := [(9, cq0)] }

theorem witness_InstancesStayApart :
    (∃ (s : State) (i j : Nat) (c : Call) (code : BitVec 16) (k : Allowed), i ≠ j ∧ s.Executes (.instReopen c i) c code k ∧
      s.authOf c.via = .inst j ∧ i < 1024) ∧
    (∃ (s : State) (i j : Nat) (word : Word) (c : Call) (code : BitVec 16) (k : Allowed), i ≠ j ∧ s.Executes (.instQuery c word) c code k ∧
      s.authOf c.via = .inst j ∧ bits word 9 0 = i ∧ bits word 31 10 = 0 ∧ bits word 63 48 = 0) ∧
    (∃ (s : State) (i j n : Nat) (r : Cq) (c : Call) (code : BitVec 16) (k : Allowed), i ≠ j ∧ s.Executes (.cqSignal c n true 2) c code k ∧
      s.authOf c.via = .inst j ∧ s.cq n = some r ∧ r.inst = some i) ∧
    ∃ (s : State) (i j n : Nat) (c : Call) (code : BitVec 16) (k : Allowed), i ≠ j ∧ s.Executes (.tallyRead c (some i) n) c code k ∧
      s.authOf c.via = .inst j :=
  ⟨⟨vfQueued 0x0305, 0, 1023, vfCall, _, _, by decide, ⟨rfl, by decide +kernel, by decide +kernel, by decide +kernel, .inl rfl, rfl⟩,
     by decide +kernel, by decide⟩,
   ⟨vfQueued 0x0306, 0, 1023, 0, vfCall, _, _, by decide, ⟨rfl, by decide +kernel, by decide +kernel, by decide +kernel, .inl rfl, rfl⟩,
     by decide +kernel, by decide, by decide, by decide⟩,
   ⟨vfQueued 0x0407, 0, 1023, 9, cq0, vfCall, _, _, by decide, ⟨rfl, by decide +kernel, by decide +kernel, by decide +kernel, .inl rfl, rfl⟩,
     by decide +kernel, rfl, rfl⟩,
   ⟨vfQueued 0x0507, 0, 1023, 5, vfCall, _, _, by decide, ⟨rfl, by decide +kernel, by decide +kernel, by decide +kernel, .inl rfl, rfl⟩,
     by decide +kernel⟩⟩

theorem witness_ExactSumsAreExact : ∃ f ∈ [bf16, fp16, fp32, fp64], ∃ (v w : Nat) (l m : List Nat),
    (∀ x ∈ v :: l, f.isNan x = false ∧ f.isInf x = false) ∧ l.length < 1048576 ∧ (v :: l).Perm (w :: m) ∧ v < 2 ^ f.width :=
  ⟨fp64, by decide, 0x7fefffffffffffff, 1, [1], [0x7fefffffffffffff], by decide +kernel, by decide, .swap _ _ _, by decide +kernel⟩

theorem witness_ReductionsAnyOrder : ∃ d r a b c : Nat, d < 8 ∧ (r = 0 → dtypeFloat d = false) ∧ a < 2 ^ (8 * dtypeSize d) ∧
    b < 2 ^ (8 * dtypeSize d) ∧ c < 2 ^ (8 * dtypeSize d) :=
  ⟨7, 1, 2 ^ 64 - 1, 2 ^ 63, 0, by decide, by decide, by decide, by decide, by decide⟩

theorem witness_CompletionDoorbell : ∃ (fn : Fn) (ring : BitVec 14) (g g' : BitVec 32) (s : State) (c : Cq), s.cq ring.toNat = some c ∧
    s.quench.halted = false ∧ c.owner = fn ∧ c.state ≠ .disabled ∧ (g - c.head).toNat ≤ (c.tail - c.head).toNat ∧
    ¬ (g' - c.head).toNat ≤ (c.tail - c.head).toNat :=
  ⟨pf0, 16383, 3, 4, { cqs := [(16383, { cq0 with head := 0xffffffff, tail := 3 })] }, _, rfl, rfl, rfl, by decide, by decide, by decide⟩

theorem witness_IdentityOnlyAtBringup :
    (∃ (c : Call) (s : State) (code : BitVec 16) (k : Allowed), s.Executes (.machineIdentity c 0 0 0 0 0 0) c code k ∧
      s.hearth.mode ≠ .hearthBoot ∧ s.hearth.mode ≠ .linkBringup) ∧
    ∃ (c : Call) (s : State) (code : BitVec 16) (k : Allowed), s.Executes (.machineIdentity c 0x1ffff 255 31 15 12 48) c code k ∧
      s.hearth.mode = .linkBringup ∧ shapeOk 256 32 16 12 48 = true ∧ idValidIn 256 32 16 0x1ffff = true :=
  ⟨⟨side, queued 0x0101 .isolated, _, _, ⟨rfl, by decide +kernel, by decide +kernel, by decide +kernel, .inl rfl, rfl⟩, by decide, by decide⟩,
   ⟨side, queued 0x0101 .linkBringup, _, _, ⟨rfl, by decide +kernel, by decide +kernel, by decide +kernel, .inl rfl, rfl⟩, rfl,
     by decide +kernel, by decide +kernel⟩⟩

theorem witness_GraveInjectionRefused : ∃ (c : Call) (ctrl : Word) (at_ : Ticks) (s : State) (code : BitVec 16) (k : Allowed),
    s.Executes (.inject c ctrl at_) c code k ∧ bits ctrl 10 0 < 1408 ∧ bits ctrl 15 13 = 0 ∧ bits ctrl 27 16 < 64 ∧
    (bits ctrl 27 16 = 0 ∨ unitKind (bits ctrl 10 0) = 2) ∧ bits ctrl 63 28 = 0 ∧
    3 ≤ s.wouldTake (bits ctrl 10 0) (bit ctrl 11) (bit ctrl 12) ∧ s.hearth.mode ≠ .diagnostic :=
  ⟨side, 1373, 0, queued 0x0904 .transit, _, _, ⟨rfl, by decide +kernel, by decide +kernel, by decide +kernel, .inl rfl, rfl⟩,
    by decide, by decide, by decide, .inl (by decide), by decide, by decide +kernel, by decide⟩

theorem witness_FirmwareCompletes_4 : ∃ (s : State) (c : Call) (code : BitVec 16) (k : Allowed), s.Executes (.fwActivate c true) c code k ∧
    (isService s.hearth.mode = true ∨ s.hearth.mode = .drain) ∧ s.hearth.running = [] :=
  ⟨queued 0x0a03 .drain, side, _, _, ⟨rfl, by decide +kernel, by decide +kernel, by decide +kernel, .inl rfl, rfl⟩, .inr rfl, rfl⟩

theorem witness_HostLinksComplete_5 : ∃ (s : State) (port : Nat) (vf : Option Nat) (req : CfgReq), port < 4 ∧ (s.port port).linkUp = true ∧
    (∀ v, vf = some v → v < 256) ∧ req ≠ .pbrOrLd ∧ (s.port port).ready = false :=
  ⟨{ ports := [(3, { hostUp with ready := false })] }, 3, some 255, .read 0, by decide, rfl, by rintro v ⟨⟩; decide, nofun, rfl⟩





end Sys2Proof.Machine
end

section
/-! PROOFS. What a Fleso command that executes answers, and what taking a command leaves of the module. -/

namespace Sys2Proof.Machine

open Sys2Proof

/-- A row of R630 gives a command its caller, code and authority column. -/
theorem State.Executes.eq_row {s : State} {i : Instr} {c c' : Call} {code code' : BitVec 16} {k k' : Allowed} (h : s.Executes i c code k)
    (hr : commandOf i = some (c', code', k')) : c = c' ∧ code = code' ∧ k = k' := by
  have e := h.row.symm.trans hr
  simp only [Option.some.injEq, Prod.mk.injEq] at e
  exact e

/-- A Fleso command that executes answers what its body replies on the state in which it is running. -/
theorem answers_of_fleso {s : State} {i : Instr} {c : Call} {code : BitVec 16} {k : Allowed} {may : Auth → Bool}
    {body : Auth → State → State × Reply} {r : Reply} {P : State → Prop} (h : s.Executes i c code k)
    (hexec : exec i s = s.fleso c code may body) (hmay : ∀ a, may a = s.allows k code a)
    (hbody : ∀ q, s.front c.via c.seq code = some q →
      (body (s.authOf c.via) (s.take q)).2 = r ∧ P (body (s.authOf c.via) (s.take q)).1) : Answers (exec i s) c code r P := by
  obtain ⟨q, hq, he⟩ := fleso_executes (body := body) h (hmay _)
  obtain ⟨hr, hP⟩ := hbody q hq
  exact ⟨_, by rw [hexec, he, hr], hP⟩

/-- The same of a command's row, whoever gives it. -/
theorem does_of_fleso {s : State} {i : Instr} {c : Call} {code : BitVec 16} {k : Allowed} {may : Auth → Bool}
    {body : Auth → State → State × Reply} {r : Reply} {P : State → Prop} (hrow : commandOf i = some (c, code, k))
    (hexec : exec i s = s.fleso c code may body) (hmay : ∀ a, may a = s.allows k code a)
    (hbody : ∀ q, s.front c.via c.seq code = some q →
      (body (s.authOf c.via) (s.take q)).2 = r ∧ P (body (s.authOf c.via) (s.take q)).1) : Does i s r P := by
  intro c' code' k' h
  obtain ⟨rfl, rfl, rfl⟩ := h.eq_row hrow
  exact answers_of_fleso h hexec hmay hbody

/-- Counting changes the counters at most. -/
theorem State.count_eq (s : State) (code unit tc n : Nat) : ∃ k, s.count code unit tc n = { s with counters := k } := by
  unfold State.count
  split
  · exact ⟨s.counters, rfl⟩
  · exact ⟨_, rfl⟩

/-- A taken command changes the counters, the mailboxes and the lists of commands, and nothing else (R608). -/
theorem State.take_eq (s : State) (q : QCmd) : ∃ queue fabricQueue running mboxes counters,
    s.take q = { s with hearth := { s.hearth with queue, fabricQueue, running, mboxes }, counters } := by
  obtain ⟨k, hk⟩ := s.count_eq 0x0090 0 0 1
  unfold State.take
  rw [hk]
  dsimp only
  split
  · exact ⟨_, _, _, _, _, rfl⟩
  · exact ⟨_, _, _, _, _, rfl⟩

@[simp] theorem mode_take (s : State) (q : QCmd) : (s.take q).hearth.mode = s.hearth.mode := by
  obtain ⟨_, _, _, _, _, h⟩ := s.take_eq q
  rw [h]
@[simp] theorem version_take (s : State) (q : QCmd) : (s.take q).hearth.version = s.hearth.version := by
  obtain ⟨_, _, _, _, _, h⟩ := s.take_eq q
  rw [h]
@[simp] theorem roleMap_take (s : State) (q : QCmd) : (s.take q).hearth.roleMap = s.hearth.roleMap := by
  obtain ⟨_, _, _, _, _, h⟩ := s.take_eq q
  rw [h]
@[simp] theorem tile_take (s : State) (q : QCmd) (p : Nat) : (s.take q).tile p = s.tile p := by
  simp [State.tile]

end Sys2Proof.Machine
end

section
/-! PROOFS. What a write leaves in module memory (R16, R111): O48. -/

namespace Sys2Proof.Machine

open Sys2Proof

/-! ### Poisoned lines (R111) -/

@[simp] theorem mem_nset (l : List Nat) (k x : Nat) : x ∈ nset l k ↔ x = k ∨ x ∈ l := by
  induction l with
  | nil => simp [nset]
  | cons e t ih =>
    unfold nset
    split
    · simp
    · split
      · rename_i heq
        simp [heq]
      · simp only [List.mem_cons, ih]
        exact or_left_comm

@[simp] theorem mem_ndel (l : List Nat) (k x : Nat) : x ∈ ndel l k ↔ x ∈ l ∧ x ≠ k := by
  simp [ndel]

/-- The lines that a run of bytes touches are those that overlap it. -/
theorem mem_linesOf {n : Nat} (a l : Nat) (hn : n ≠ 0) : l ∈ linesOf a n ↔ a < l * 64 + 64 ∧ l * 64 < a + n := by
  simp only [linesOf, if_neg hn, List.mem_map, List.mem_range]
  constructor
  · rintro ⟨k, hk, rfl⟩
    omega
  · rintro ⟨h1, h2⟩
    exact ⟨l - a / 64, by omega, by omega⟩

/-- Lines put into the poisoned ones, one after the other. -/
theorem mem_foldl_nset (ks p : List Nat) (l : Nat) : l ∈ ks.foldl nset p ↔ l ∈ ks ∨ l ∈ p := by
  induction ks generalizing p with
  | nil => simp
  | cons k ks ih =>
    simp only [List.foldl_cons, ih, mem_nset, List.mem_cons]
    exact or_left_comm.trans or_assoc.symm

/-- Of the lines gone through, those of which f holds are taken out. -/
theorem mem_foldl_ndel (f : Nat → Bool) (ks p : List Nat) (l : Nat) :
    l ∈ ks.foldl (fun p k => if f k then ndel p k else p) p ↔ l ∈ p ∧ ¬(l ∈ ks ∧ f l = true) := by
  induction ks generalizing p with
  | nil => simp
  | cons k ks ih =>
    simp only [List.foldl_cons, ih, List.mem_cons]
    by_cases hk : f k = true <;> by_cases e : l = k <;> simp [hk, e]

/-- R111: a poisoned write poisons every line it touches, a clean one clears the lines it covers whole. -/
theorem mem_poisonAfter (p : List Nat) (a n : Nat) (poisoned : Bool) (l : Nat) :
    l ∈ poisonAfter p a n poisoned ↔
      if l ∈ linesOf a n then (if poisoned then True else l ∈ p ∧ coversLine a n l = false) else l ∈ p := by
  cases poisoned with
  | true =>
    have hset : l ∈ poisonAfter p a n true ↔ l ∈ linesOf a n ∨ l ∈ p := mem_foldl_nset (linesOf a n) p l
    by_cases ht : l ∈ linesOf a n <;> simp [hset, ht]
  | false =>
    have hdel : l ∈ poisonAfter p a n false ↔ l ∈ p ∧ ¬(l ∈ linesOf a n ∧ coversLine a n l = true) :=
      mem_foldl_ndel (coversLine a n) (linesOf a n) p l
    by_cases ht : l ∈ linesOf a n <;> simp [hdel, ht]

/-! ### Module memory (R16) -/

/-- What a write stores reads back. -/
theorem memRead_memWrite (m : List Host.Cell) (a : Nat) (bs : List Byte) (hm : Memory.wf m = true) :
    memRead (memWrite m a bs) a bs.length = bs := by
  induction bs generalizing m a with
  | nil => rfl
  | cons b bs ih =>
    have hhead : memGet (memWrite (memSet m a b) (a + 1) bs) a = b := by
      rw [memGet_memWrite_out _ _ _ _ (.inl (Nat.lt_succ_self a))]
      exact memGet_memSet_same m 0 a b hm
    rw [memWrite, List.length_cons, memRead, hhead, ih _ _ (memWf_memSet m a b hm)]

/-- Settles O48: reading back by induction on the bytes written; the poisoned lines by what the walk over the touched lines does. -/
theorem memoryReadsBack : Obligations.MemoryReadsBack := by
  refine ⟨fun m a bs hm => ⟨memWf_memWrite m a bs hm, memRead_memWrite m a bs hm, fun x hx => memGet_memWrite_out m a x bs hx⟩,
    fun s a bs p l hbs => ?_⟩
  have hn : bs.length ≠ 0 := mt List.length_eq_zero_iff.mp hbs
  have h := mem_poisonAfter s.poison a bs.length p l
  simp only [mem_linesOf a l hn] at h
  exact h

end Sys2Proof.Machine
end

section
/-! PROOFS. A host's writes to BAR0 (R23, R304-R310, R605-R610): O1. -/

namespace Sys2Proof.Machine

open Sys2Proof

/-! ### Detectors and mailbox slots -/

/-- A detector that asserts joins those that Quench has yet to sample, stamped with the time (R715). -/
@[simp] theorem raised_raise (s : State) (e : QEvent) :
    (s.raise e).quench.raised = s.quench.raised ++ [{ e with time := s.time.now }] := by
  unfold State.raise
  split
  · cases e.inst <;> simp
  · rfl

/-- A write that R23 discards leaves a Notice. -/
theorem raised_badWrite (s : State) : ∃ e : QEvent, e.source = 1228 ∧ s.badWrite.quench.raised = s.quench.raised ++ [e] :=
  ⟨_, rfl, raised_raise s { source := 1228, unit := 0 }⟩

@[simp] theorem slot_setSlot (s : State) (f : Fn) (n : Nat) (x : Slot) : (s.setSlot f n x).slot f n = x := by
  simp [State.slot, State.setSlot]

/-- A whole write of a slot's word that asks for the one action of bit b. -/
theorem slotWrite_whole {f : Fn} {slot b : Nat} {value : Word} (hslot : slot < slotsOf f) (hv : bits value 4 2 = 2 ^ (b - 2)) :
    slotWrite f slot value true b = true := by
  simp [slotWrite, hslot, hv]

@[simp] theorem mbox_signal (s : State) (f g : Fn) (v : Nat) : (s.signal f v).mbox g = s.mbox g := by
  simp [State.mbox]

/-! ### A host's writes to BAR0 -/

theorem registerWriteUndefined_notice {s : State} {fn : Fn} {offset : BitVec 32} (h : rowOfWrite fn offset.toNat = false) :
    Completes (exec (.registerWriteUndefined fn offset) s) fun t =>
      ∃ e : QEvent, e.source = 1228 ∧ t.quench.raised = s.quench.raised ++ [e] := by
  refine ⟨s.badWrite, ?_, raised_badWrite s⟩
  show execRegisterWriteUndefined fn offset s = _
  simp [execRegisterWriteUndefined, h]

theorem registerWriteUndefined_ofRow {s : State} {fn : Fn} {offset : BitVec 32} (h : rowOfWrite fn offset.toNat = true) :
    Completes (exec (.registerWriteUndefined fn offset) s) fun t => t = s := by
  refine ⟨s, ?_, rfl⟩
  show execRegisterWriteUndefined fn offset s = _
  simp [execRegisterWriteUndefined, h]

/-- R305, R306: a doorbell within the ring's bounds moves tail. -/
theorem wqDoorbell_moves_tail {s : State} {fn : Fn} {queue : BitVec 14} {index : BitVec 32} {w : Wq} (hw : s.wq queue.toNat = some w)
    (hrun : s.quench.halted = false) (howner : w.owner = fn) (hdis : w.state ≠ .disabled) (hfen : w.state ≠ .fenced)
    (hlo : (w.tail - w.head).toNat ≤ (index - w.head).toNat) (hhi : (index - w.head).toNat ≤ ringSize w.sizeCode) :
    Completes (exec (.wqDoorbell fn queue index 0 true) s) fun t => t.wq queue.toNat = some { w with tail := index } := by
  have hgood : (!true || (0 : BitVec 17) != 0 || w.owner != fn || w.state == .disabled || w.state == .fenced) = false := by
    simp [howner, hdis, hfen]
  refine ⟨s.modWq queue.toNat fun w => { w with tail := index }, ?_, (wq_modWq ..).trans (congrArg _ hw)⟩
  show execWqDoorbell fn queue index 0 true s = _
  simp only [execWqDoorbell, hw, hrun, hgood, Bool.false_eq_true, if_false, if_neg (Nat.not_lt.mpr hlo), if_neg (Nat.not_lt.mpr hhi)]

/-- R309: a doorbell within the records made moves head; what waited for the space follows. -/
theorem cqDoorbell_moves_head {s : State} {fn : Fn} {ring : BitVec 14} {index : BitVec 32} {c : Cq} (hc : s.cq ring.toNat = some c)
    (hrun : s.quench.halted = false) (howner : c.owner = fn) (hdis : c.state ≠ .disabled)
    (hle : (index - c.head).toNat ≤ (c.tail - c.head).toNat) :
    Completes (exec (.cqDoorbell fn ring index 0 true) s) fun t =>
      t = (((s.modCq ring.toNat fun c => { c with head := index }).drain ring.toNat).missedArrivals ring.toNat).updateWait ring.toNat := by
  have hgood : (!true || (0 : BitVec 17) != 0 || c.owner != fn || c.state == .disabled) = false := by simp [howner, hdis]
  refine ⟨_, ?_, rfl⟩
  show execCqDoorbell fn ring index 0 true s = _
  simp only [execCqDoorbell, hc, hrun, hgood, Bool.false_eq_true, if_false, if_pos hle]

/-- R607, R608: a free slot is submitted. -/
theorem mboxSubmit_submits {s : State} {fn : Fn} {slot : Nat} {value : Word} {req : ReqHdr} (hslot : slot < slotsOf fn)
    (hv : bits value 4 2 = 1) (hfree : (s.slot fn slot).state = .free) :
    Serves (exec (.mboxSubmit fn slot value true req) s) fun u => (u.slot fn slot).state = .submitted ∧ (u.slot fn slot).seq = req.seq ∧
      u.hearth.queue = s.hearth.queue ++ [qcmdOf (.mailbox fn slot) req] := by
  have hx := slot_setSlot s fn slot { s.slot fn slot with state := .submitted, seq := req.seq }
  exact ⟨_, if_pos ⟨slotWrite_whole hslot hv, hfree⟩, congrArg Slot.state hx, congrArg Slot.seq hx, rfl⟩

/-- R608: a done slot is released. -/
theorem mboxRelease_frees {s : State} {fn : Fn} {slot : Nat} {value : Word} (hslot : slot < slotsOf fn) (hv : bits value 4 2 = 2)
    (hdone : (s.slot fn slot).state = .done) :
    Completes (exec (.mboxRelease fn slot value true) s) fun t =>
      (t.slot fn slot).state = .free ∧ (t.slot fn slot).resp = none ∧ t.hearth.queue = s.hearth.queue :=
  ⟨_, if_pos ⟨slotWrite_whole hslot hv, hdone⟩, by simp, by simp, rfl⟩

/-- R606: a submitted slot is withdrawn, and nothing of it waits any more. -/
theorem mboxWithdraw_frees {s : State} {fn : Fn} {slot : Nat} {value : Word} (hslot : slot < slotsOf fn) (hv : bits value 4 2 = 4)
    (hsub : (s.slot fn slot).state = .submitted) :
    Serves (exec (.mboxWithdraw fn slot value true) s) fun u => (u.slot fn slot).state = .free ∧
      ∀ q ∈ u.hearth.queue, q.via ≠ .mailbox fn slot := by
  have hx := slot_setSlot s fn slot { s.slot fn slot with state := .free }
  refine ⟨_, if_pos ⟨slotWrite_whole hslot hv, hsub⟩, congrArg Slot.state hx, fun q hq => ?_⟩
  simpa using (List.mem_filter.mp hq).2

/-- R610: a head within the events written is taken, whether or not the place it frees takes event 0x0007. -/
theorem evHeadWrite_moves_head {s : State} {fn : Fn} {head : BitVec 32}
    (h : (head - (s.mbox fn).evHead).toNat ≤ ((s.mbox fn).evTail - (s.mbox fn).evHead).toNat) :
    Completes (exec (.evHeadWrite fn head) s) fun t => (t.mbox fn).evHead = head := by
  show Completes (execEvHeadWrite fn head s) _
  simp only [execEvHeadWrite, if_neg (Nat.not_lt.mpr h)]
  split
  · exact ⟨_, rfl, by simp [Mbox.put]⟩
  · exact ⟨_, rfl, by simp⟩

/-- Settles O1: clause by clause, each write's row in the branch that its hypotheses choose. -/
theorem hostWritesComplete : Obligations.HostWritesComplete :=
  ⟨fun _ _ _ h => registerWriteUndefined_notice h, fun _ _ _ h => registerWriteUndefined_ofRow h,
    fun _ _ _ _ _ hw hrun howner hdis hfen hlo hhi => wqDoorbell_moves_tail hw hrun howner hdis hfen hlo hhi,
    fun _ _ _ _ _ hc hrun howner hdis hle => cqDoorbell_moves_head hc hrun howner hdis hle,
    fun _ _ _ _ _ hslot hv hfree => mboxSubmit_submits hslot hv hfree,
    fun _ _ _ _ hslot hv hdone => mboxRelease_frees hslot hv hdone,
    fun _ _ _ _ hslot hv hsub => mboxWithdraw_frees hslot hv hsub,
    fun _ _ _ h => evHeadWrite_moves_head h⟩

end Sys2Proof.Machine
end

section
/-! PROOFS. IDENTIFY and the registers (R20, R23, R630, R631, R710): O41. -/

namespace Sys2Proof.Machine

open Sys2Proof

/-! ### Registers of a state in which a command runs (R631) -/

/-- Whether an offset of the counter block is defined depends on the offset alone. -/
theorem Counters.reg_isSome (k k' : Counters) (off : Nat) : (k.reg off).isSome = (k'.reg off).isSome := by
  unfold Counters.reg
  split
  · simp only [Option.isSome_some]
  · split
    · simp only [Option.isSome_some]
    · split <;> simp only [Option.isSome_some]

/-- Whether an offset of a block is defined depends on the block and the offset alone, not on what runs. -/
theorem regAt_take_isSome (s : State) (q : QCmd) (block index off : Nat) :
    ((s.take q).regAt block index off).1.isSome = (s.regAt block index off).1.isSome := by
  obtain ⟨queue, fabricQueue, running, mboxes, counters, h⟩ := s.take_eq q
  rw [h]
  unfold State.regAt
  split
  case h_19 =>
    split
    · rfl
    · exact Counters.reg_isSome ..
  case h_20 => unfold State.hearthReg; split <;> rfl
  all_goals rfl

/-- But for the counters and Hearth, whose registers count what runs, a register reads as before the command was taken. -/
theorem regAt_take (s : State) (q : QCmd) {block : Nat} (index off : Nat) (h : block < 0x12) :
    ((s.take q).regAt block index off).1 = (s.regAt block index off).1 := by
  obtain ⟨queue, fabricQueue, running, mboxes, counters, hq⟩ := s.take_eq q
  rw [hq]
  clear hq
  unfold State.regAt
  split
  case h_19 => exact absurd h (Nat.lt_irrefl _)
  case h_20 =>
    simp only [imp_false] at *
    omega
  all_goals rfl

theorem regScope_take (s : State) (q : QCmd) (a : Auth) (c : Call) (block off : Nat) :
    (s.take q).regScope a c block off = s.regScope a c block off := by
  obtain ⟨queue, fabricQueue, running, mboxes, counters, hq⟩ := s.take_eq q
  rw [hq]
  rfl

/-- Reading a register that no free value stands for changes nothing. -/
theorem regAt_state (s : State) {block : Nat} (index off : Nat) (h1 : block ≠ 0x0b) (h2 : block ≠ 0x12) :
    (s.regAt block index off).2 = s := by
  unfold State.regAt
  split
  case h_12 => exact absurd rfl h1
  case h_19 => exact absurd rfl h2
  all_goals rfl

theorem regBlockOk_lt {block index : Nat} (h : regBlockOk block index = true) : block < 0x14 := by
  unfold regBlockOk at h
  split at h
  case h_4 => simp only [Bool.and_eq_true, decide_eq_true_eq] at h; exact h.1
  all_goals omega

theorem regWords_succ (s : State) (block index off n : Nat) :
    (s.regWords block index off (n + 1)).1 = leBytes 8 ((s.regAt block index off).1.getD 0) ++
      ((s.regAt block index off).2.regWords block index (off + 8) n).1 := rfl

theorem regWords_length (s : State) (block index off n : Nat) : (s.regWords block index off n).1.length = 8 * n := by
  induction n generalizing s off with
  | zero => rfl
  | succ n ih =>
    rw [regWords_succ, List.length_append, leBytes_length, ih]
    omega

/-- Word k of a read is the register 8k bytes on. -/
theorem sliceBytes_regWords (s : State) {block : Nat} (index off : Nat) {n k : Nat} (h1 : block ≠ 0x0b) (h2 : block ≠ 0x12) (hk : k < n) :
    sliceBytes (s.regWords block index off n).1 (8 * k) 8 = leBytes 8 ((s.regAt block index (off + 8 * k)).1.getD 0) := by
  induction n generalizing off k with
  | zero => omega
  | succ n ih =>
    rw [regWords_succ, regAt_state s index off h1 h2]
    cases k with
    | zero => rw [sliceBytes_left (by simp [leBytes_length]), sliceBytes_all (leBytes_length ..)]; rfl
    | succ k =>
      rw [sliceBytes_right (by rw [leBytes_length]; omega), leBytes_length, show 8 * (k + 1) - 8 = 8 * k by omega,
        ih (off + 8) (by omega), show off + 8 + 8 * k = off + 8 * (k + 1) by omega]

/-! ### TILE.LANE_CFG (R710) -/

theorem bnat_bit {n : Nat} (w : BitVec n) (i : Nat) : bnat (bit w i) = w.toNat / 2 ^ i % 2 := by
  rw [bit, ← BitVec.testBit_toNat, Nat.testBit_eq_decide_div_mod_eq]
  rcases Nat.mod_two_eq_zero_or_one (w.toNat / 2 ^ i) with h | h <;> simp [bnat, h]

/-- A tile whose lane configuration is a word's (R710). -/
def Tile.withLaneCfg (t : Tile) (w : Word) : Tile :=
  { t with maxRate := BitVec.ofNat 2 (bits w 1 0), fixedRate := bit w 2, allowDegrade := bit w 3, test := bit w 4,
           marginFloor := BitVec.ofNat 6 (bits w 10 5), criticalMargin := BitVec.ofNat 6 (bits w 16 11),
           shoeWaitMs := BitVec.ofNat 8 (bits w 24 17) }

/-- A lane configuration set from a word reads back as the word's low 25 bits. -/
@[simp] theorem laneCfg_withLaneCfg (t : Tile) (w : Word) : (t.withLaneCfg w).laneCfg = bits w 24 0 := by
  simp only [Tile.withLaneCfg, Tile.laneCfg, packFields, BitVec.toNat_ofNat, bnat_bit, bits]
  simp only [Nat.reducePow, Nat.reduceAdd, Nat.reduceSub]
  omega

/-- R685: a test that TILE.LANE_CFG ends in Diagnostic retrains the port. -/
theorem setLaneCfg_eq (s : State) (p : Nat) (w : Word) : s.setLaneCfg p w =
    if (s.tile p).test = true ∧ bit w 4 = false ∧ s.hearth.mode = .diagnostic then
      (s.modTile p fun t => t.withLaneCfg w).retrain p none (16 * p + 12)
    else s.modTile p fun t => t.withLaneCfg w := by
  have hcond : ((s.tile p).test && !bit w 4 && s.hearth.mode == .diagnostic) = true ↔
      (s.tile p).test = true ∧ bit w 4 = false ∧ s.hearth.mode = .diagnostic := by simp [and_assoc]
  exact ite_congr (propext hcond) (fun _ => rfl) (fun _ => rfl)

/-! ### IDENTIFY, REG_READ, REG_WRITE -/

/-- R630: IDENTIFY answers who the module is, the mode, the version and the role map. -/
theorem identify_answers (s : State) (c : Call) : Does (.identify c) s (.res (leBytes 8 Config.hubId.toNat ++ leBytes 8 s.moduleIdWord ++
    leBytes 8 s.shapeWord ++ leBytes 8 (modeCode s.hearth.mode) ++ leBytes 8 s.hearth.version.toNat ++
    leBytes 48 (Config.sha384 s.hearth.roleMap).toNat)) fun u => u.routing = s.routing := by
  refine does_of_fleso rfl (execIdentify.eq_1 ..) (fun a => by cases a <;> rfl) fun q _ => ?_
  simp [State.moduleIdWord, State.shapeWord]

/-- R631: REG_READ answers the words from the offset on. -/
theorem regRead_answers {s : State} {c : Call} {block index : Nat} {offset : BitVec 32} {count : Nat} {code : BitVec 16} {a : Allowed}
    (hblock : regBlockOk block index = true) (halign : offset.toNat % 8 = 0) (hlo : 1 ≤ count) (hhi : count ≤ 120)
    (hscope : ∀ k < count, s.regScope (s.authOf c.via) c block (offset.toNat + 8 * k) = true)
    (h : s.Executes (.regRead c block index offset count) c code a) : ∃ q,
    Answers (exec (.regRead c block index offset count) s) c code (.res ((s.take q).regWords block index offset.toNat count).1) fun u =>
      u.routing = s.routing ∧ u.quench = s.quench := by
  obtain ⟨-, rfl, rfl⟩ := h.eq_row rfl
  obtain ⟨q, hq⟩ := Option.isSome_iff_exists.mp h.heads
  refine ⟨q, answers_of_fleso h (execRegRead.eq_1 ..) (fun a => by cases a <;> rfl) fun q' hq' => ?_⟩
  obtain rfl : q' = q := Option.some.inj (hq'.symm.trans hq)
  have hcount : ¬(count < 1 ∨ 120 < count) := by omega
  have hall : ((List.range count).all fun k => (s.take q').regScope (s.authOf c.via) c block (offset.toNat + 8 * k)) = true := by
    simpa [regScope_take] using hscope
  have hframe := State.regWords_same (s.take q') block index offset.toNat count
  simp only [hblock, halign, hcount, hall, Bool.not_true, Bool.false_eq_true, ne_eq, not_true, if_false]
  exact ⟨trivial, (hframe.parts .routing rfl).trans (routing_take s q'), (hframe.parts .quench rfl).trans (quench_take s q')⟩

/-- R620, R710: what REG_WRITE does where TILE.LANE_CFG takes it. -/
theorem regWrite_laneCfg {s : State} {c : Call} {index : Nat} {value mask w : Word} (hindex : index < 64)
    (hw : w = (BitVec.ofNat 64 (s.tile index).laneCfg &&& ~~~mask) ||| (value &&& mask)) (hcrit : bits w 16 11 < bits w 10 5)
    (hwait : bits w 24 17 ≠ 0) :
    Does (.regWrite c 1 index 0x130 value mask) s .ok fun u => ∃ v : State, (v.tile index).laneCfg = bits w 24 0 ∧
      u = if (s.tile index).test = true ∧ bit w 4 = false ∧ s.hearth.mode = .diagnostic then v.retrain index none (16 * index + 12) else v := by
  refine does_of_fleso rfl (execRegWrite.eq_1 ..) (fun a => by cases a <;> rfl) fun q _ => ?_
  have hblock : regBlockOk 1 index = true := decide_eq_true hindex
  have hgood : ¬(bits w 10 5 ≤ bits w 16 11 ∨ bits w 24 17 = 0) := by omega
  have hoff : (0x130 : BitVec 32).toNat = 0x130 := rfl
  simp only [hblock, hoff, tile_take, ← hw, hgood, Bool.not_true, Bool.false_eq_true, ne_eq, if_false, Nat.reduceMod, not_true, and_self, if_true]
  refine ⟨trivial, (s.take q).modTile index fun t => t.withLaneCfg w, by simp, ?_⟩
  rw [setLaneCfg_eq, tile_take, mode_take]

section
variable {s : State} {c : Call} {block index : Nat} {offset : BitVec 32} {value mask : Word}

/-- R23: a write at an undefined offset is discarded with a Notice. -/
theorem regWrite_undefined (hblock : regBlockOk block index = true) (halign : offset.toNat % 8 = 0)
    (hlane : ¬(block = 1 ∧ offset.toNat = 0x130)) (hreg : (s.regAt block index offset.toNat).1 = none) :
    Does (.regWrite c block index offset value mask) s .ok fun u => u.tiles = s.tiles ∧
      ∃ e : QEvent, e.source = 1228 ∧ u.quench.raised = s.quench.raised ++ [e] := by
  refine does_of_fleso rfl (execRegWrite.eq_1 ..) (fun a => by cases a <;> rfl) fun q _ => ?_
  have hnone : ((s.take q).regAt block index offset.toNat).1.isSome = false := by rw [regAt_take_isSome, hreg]; rfl
  simp only [hblock, halign, hlane, hnone, Bool.not_true, Bool.false_eq_true, ne_eq, not_true, if_false]
  have hnotice := raised_badWrite (s.take q)
  rw [quench_take] at hnotice
  exact ⟨trivial, by simp [State.badWrite], hnotice⟩

/-- R20: a register that takes no write stays as it is. -/
theorem regWrite_readOnly (hblock : regBlockOk block index = true) (halign : offset.toNat % 8 = 0)
    (hlane : ¬(block = 1 ∧ offset.toNat = 0x130)) (hreg : (s.regAt block index offset.toNat).1 ≠ none) :
    Does (.regWrite c block index offset value mask) s .ok fun u => u.tiles = s.tiles ∧ u.quench = s.quench := by
  refine does_of_fleso rfl (execRegWrite.eq_1 ..) (fun a => by cases a <;> rfl) fun q _ => ?_
  have hsome : ((s.take q).regAt block index offset.toNat).1.isSome = true := by
    rw [regAt_take_isSome, Option.isSome_iff_ne_none]; exact hreg
  simp only [hblock, halign, hlane, hsome, Bool.not_true, Bool.false_eq_true, ne_eq, not_true, if_false, if_true]
  exact ⟨trivial, tiles_take s q, quench_take s q⟩

end

/-- Settles O41: the words that REG_READ answers are the registers', since what is taken changes those of blocks 0x12 and 0x13 alone. -/
theorem registersComplete : Obligations.RegistersComplete := by
  refine ⟨identify_answers, fun s c block index offset count code a hblock halign hlo hhi hscope h => ?_,
    fun s c index value mask w hindex hw hcrit hwait => regWrite_laneCfg hindex hw hcrit hwait,
    fun s c block index offset value mask hblock halign hlane hreg => regWrite_undefined hblock halign hlane hreg,
    fun s c block index offset value mask hblock halign hlane hreg => regWrite_readOnly hblock halign hlane hreg⟩
  obtain ⟨q, hans⟩ := regRead_answers hblock halign hlo hhi hscope h
  refine ⟨_, regWords_length .., fun hb k hk => ?_, hans⟩
  simp only [List.mem_cons, List.not_mem_nil, or_false, not_or] at hb
  obtain ⟨hcoll, hcount, hhearth⟩ := hb
  have hlt : block < 0x12 := by have := regBlockOk_lt hblock; omega
  rw [sliceBytes_regWords _ _ _ hcoll hcount hk, regAt_take s q _ _ hlt]

end Sys2Proof.Machine
end

section
/-! PROOFS. What packets on their way, ports that join or leave, and the election leave of the routing state: the settings that the
manager's commands make. -/

namespace Sys2Proof.Machine

open Sys2Proof

/-- The routing state as the manager's commands and the generation swaps leave it: what packets on their way change is set to its
reset value. -/
def Routing.settings (r : Routing) : Routing :=
  { r with pointers := [], waiting := [], relook := false, orderFilling := false, tableFilling := false, storeFilling := false,
           streamsTx := [], streamsRx := [], arrivals := [], mcDiscards := 0, discards := 0 }

/-- t's settings are those of s. -/
def State.Keeps (t s : State) : Prop := t.routing.settings = s.routing.settings

namespace State.Keeps

theorem refl (s : State) : s.Keeps s := rfl
theorem trans {t u s : State} (h : t.Keeps u) (k : u.Keeps s) : t.Keeps s := Eq.trans h k

/-- An operation whose frame has no routing part. -/
theorem ofSame {W : List Part} {t s : State} (h : Same W t s) (hw : W.contains .routing = false := by rfl) : t.Keeps s :=
  congrArg Routing.settings (h.parts .routing hw)

theorem ite {c : Prop} [Decidable c] {a b s : State} (h : a.Keeps s) (k : b.Keeps s) : (if c then a else b).Keeps s := by
  split <;> assumption

theorem iteFst {β : Type} {c : Prop} [Decidable c] {a b : State × β} {s : State} (h : a.1.Keeps s) (k : b.1.Keeps s) :
    (if c then a else b).1.Keeps s := by
  split <;> assumption

/-- A pair whose first is the state. -/
theorem ofFst {β : Type} {p : State × β} {t s : State} {b : β} (e : p = (t, b)) (h : p.1.Keeps s) : t.Keeps s := by
  subst e; exact h

theorem foldl {α : Type} {g : State → α → State} (hg : ∀ s a, (g s a).Keeps s) (l : List α) (s : State) : (l.foldl g s).Keeps s := by
  induction l generalizing s with
  | nil => exact refl s
  | cons a l ih => exact (ih (g s a)).trans (hg s a)

/-- A routing state of the same settings put in. -/
theorem withRouting {u s : State} {r : Routing} (h : u.Keeps s) (hr : r.settings = u.routing.settings := by rfl) :
    State.Keeps { u with routing := r } s := Eq.trans hr h

theorem modTile (s : State) (p : Nat) (f : Tile → Tile) : (s.modTile p f).Keeps s := ofSame (State.modTile_same ..)

/-- A setting reads the same. -/
theorem read {α : Type} {t s : State} (h : t.Keeps s) (f : Routing → α) (hf : ∀ r : Routing, f r.settings = f r := by intro; rfl) :
    f t.routing = f s.routing := by
  rw [← hf t.routing, ← hf s.routing]
  exact congrArg f h

end State.Keeps

/-! ### Lookups and the TC3 transport -/

theorem keeps_enterSole (s : State) (o : Nat) : (s.enterSole o).Keeps s :=
  (State.Keeps.modTile ..).trans (.ite (.refl s) (.refl s))

theorem keeps_hopToward (s : State) (bank : Bool) (q : QPkt) (target : ModId) : (s.hopToward bank q target).1.Keeps s := by
  unfold State.hopToward
  dsimp only
  split
  · exact State.Keeps.ite (.ofSame (State.count_same ..)) (.refl s)
  · split
    · exact keeps_enterSole ..
    · exact .refl s

theorem keeps_lookup (s : State) (q : QPkt) : (s.lookup q).1.Keeps s := by
  unfold State.lookup
  dsimp only
  have hvia : ∀ b (x : QPkt) d, (if b = true then s.hopToward (s.routing.bankFor x.inPort.isNone x.pkt.gen) x d else (s, none, false)).1.Keeps s :=
    fun b x d => .iteFst (keeps_hopToward ..) (.refl s)
  split
  · exact .ofFst (by assumption) (hvia ..)
  · have h := State.Keeps.ofFst (by assumption) (hvia ..)
    refine .iteFst h ?_
    split
    · exact (State.Keeps.ofFst (by assumption) (keeps_hopToward ..)).trans h
    · exact (State.Keeps.ofFst (by assumption) (keeps_hopToward ..)).trans h

theorem keeps_sendOut (s : State) (viaF63 : Bool) (p : Packet) : (s.sendOut viaF63 p).Keeps s := by
  unfold State.sendOut
  refine .ite (.ofSame (State.enqueue_same ..)) ?_
  split
  · exact (State.Keeps.ofSame (State.enqueue_same ..)).trans (.ofFst (by assumption) (keeps_lookup ..))
  · exact .withRouting (.ofFst (by assumption) (keeps_lookup ..))

theorem settings_setTx (r : Routing) (x : StreamTx) : (r.setTx x).settings = r.settings := by
  unfold Routing.setTx
  split <;> rfl

theorem settings_setRx (r : Routing) (x : StreamRx) : (r.setRx x).settings = r.settings := by
  unfold Routing.setRx
  split <;> rfl

theorem keeps_pumpStream (s : State) (k : StreamKey) (n : Nat) : (s.pumpStream k n).Keeps s := by
  induction n generalizing s with
  | zero => exact .refl s
  | succ n ih =>
    unfold State.pumpStream
    dsimp only
    split
    · exact .refl s
    · refine .ite (.refl s) (.ite (.ofSame (State.raiseAt_same ..)) ?_)
      exact (ih _).trans ((keeps_sendOut ..).trans (settings_setTx ..))

theorem keeps_sendTc3 (s : State) (viaF63 : Bool) (p : Packet) : (s.sendTc3 viaF63 p).Keeps s :=
  .ite (.refl s) (.ite (.refl s) ((keeps_pumpStream ..).trans (settings_setTx ..)))

theorem keeps_faultFor (s : State) (kind det : Nat) (inDoubt : Bool) (q : QPkt) : (s.faultFor kind det inDoubt q).Keeps s := by
  unfold State.faultFor
  refine .ite (.ite (.refl s) (keeps_sendTc3 ..)) ?_
  split
  · exact .refl s
  · exact .modTile ..

theorem keeps_discardAt (s : State) (t : Nat) (q : QPkt) : (s.discardAt t q).Keeps s :=
  (keeps_faultFor ..).trans ((State.Keeps.ofSame (State.raise_same ..)).trans rfl)

/-! ### Delivery at this module -/

theorem keeps_sendAck (s : State) (k : StreamKey) (value : BitVec 32) (flags : BitVec 15) : (s.sendAck k value flags).Keeps s :=
  keeps_sendOut ..

theorem keeps_toAgent (s : State) (port : Nat) (p : Packet) : (s.toAgent port p).Keeps s := rfl

theorem keeps_deliverTc3 (s : State) (port : Nat) (x : StreamRx) (p : Packet) : (s.deliverTc3 port x p).1.Keeps s :=
  .ite (keeps_sendAck (s.toAgent port p) ..) (.refl s)

theorem keeps_drainHold (s : State) (port n : Nat) (x : StreamRx) : (s.drainHold port n x).1.Keeps s := by
  induction n generalizing s x with
  | zero => exact .refl s
  | succ n ih =>
    unfold State.drainHold
    split
    · exact .refl s
    · exact (ih ..).trans (keeps_deliverTc3 ..)

theorem keeps_receiveTc3 (s : State) (port : Nat) (p : Packet) : (s.receiveTc3 port p).Keeps s := by
  unfold State.receiveTc3
  refine .ite (.ofSame (State.countTruncated_same ..)) (.ite (.refl s) (.ite (.refl s) ?_))
  split
  · exact .ite (Eq.trans (settings_setRx ..) (keeps_deliverTc3 ..)) (keeps_sendAck ..)
  · refine .ite ?_ (.ite (.ite (keeps_sendAck ..) (.ite (settings_setRx ..) (.refl s))) (keeps_sendAck ..))
    exact Eq.trans (settings_setRx ..) ((keeps_drainHold ..).trans (keeps_deliverTc3 ..))

/-- A store that fills is noted once, with its Notice. -/
theorem keeps_laneHeld (s : State) (p : Packet) : (s.laneHeld p).1.Keeps s :=
  have hnote : ∀ (c : Bool) (r : Routing) (n : Nat), r.settings = s.routing.settings →
      (if c = true then s else ({ s with routing := r }).raiseAt n 0).Keeps s :=
    fun _ _ _ hr => .ite (.refl s) ((State.Keeps.ofSame (State.raiseAt_same ..)).trans hr)
  .iteFst (.iteFst (hnote _ _ _ rfl) (.refl s)) (.iteFst (.iteFst (hnote _ _ _ rfl) (.refl s)) (.iteFst (hnote _ _ _ rfl) (.refl s)))

theorem keeps_freeIn (s : State) (q : QPkt) : (s.freeIn q).Keeps s := .ofSame (State.freeIn_same ..)

theorem keeps_deliver (s : State) (q : QPkt) : (s.deliver q).1.Keeps s := by
  unfold State.deliver
  refine .iteFst ((keeps_freeIn ..).trans (keeps_receiveTc3 ..)) (.iteFst ?_ (.iteFst ?_ ?_))
  · refine (keeps_freeIn ..).trans ?_
    split
    · exact .ofSame (State.countTruncated_same ..)
    · exact .refl s
  · split
    · exact .ofFst (by assumption) (keeps_laneHeld ..)
    · exact (keeps_freeIn ..).trans ((keeps_toAgent ..).trans (.ofFst (by assumption) (keeps_laneHeld ..)))
  · dsimp only
    split
    · exact .ofFst (by assumption) (keeps_laneHeld ..)
    · have h := State.Keeps.ofFst (by assumption) (keeps_laneHeld s q.pkt)
      split
      · exact (keeps_freeIn ..).trans ((State.Keeps.ofFst (by assumption) (.ofSame (State.ejectTo_same ..))).trans h)
      · exact (State.Keeps.ofFst (by assumption) (.ofSame (State.ejectTo_same ..))).trans h

theorem keeps_deliverOrWait (s : State) (q : QPkt) : (s.deliverOrWait q).1.Keeps s := by
  unfold State.deliverOrWait
  split
  · exact .ofFst (by assumption) (keeps_deliver ..)
  · exact .ofFst (by assumption) (keeps_deliver ..)

/-! ### Placing packets -/

/-- A copy that is discarded is counted (R163). -/
theorem keeps_mcDiscard (s : State) (t tc : Nat) (q : QPkt) :
    (({ s.count 0x0023 t tc 1 with routing := { s.routing with mcDiscards := s.routing.mcDiscards + 1 } }).discardAt t q).Keeps s :=
  (keeps_discardAt ..).trans rfl

theorem keeps_sendCopy (s : State) (q : QPkt) (o : Nat) : (s.sendCopy q o).Keeps s :=
  .ite (keeps_mcDiscard ..) ((State.Keeps.ofSame (State.enqueue_same ..)).trans (.ite (keeps_enterSole ..) (.refl s)))

theorem keeps_markLocal (s : State) (q : QPkt) : (s.markLocal q).Keeps s := .ofSame (State.markLocal_same ..)

/-- The copies of a multicast packet are sent, its lane marked where it is delivered here too. -/
theorem keeps_sendCopies (s : State) (q : QPkt) (outs : List Nat) (self : Bool) :
    (outs.foldl (fun s o => s.sendCopy q o) (if self then s.markLocal q else s)).Keeps s :=
  (State.Keeps.foldl (fun s o => keeps_sendCopy s q o) ..).trans (.ite (keeps_markLocal ..) (.refl s))

theorem keeps_place (s : State) (q : QPkt) : (s.place q).1.Keeps s := by
  unfold State.place
  refine .iteFst (keeps_deliverOrWait ..) (.iteFst ?_ ?_)
  · extract_lets +onlyGivenNames _ q'
    split
    extract_lets +onlyGivenNames marked sent
    have h : sent.Keeps s := keeps_sendCopies ..
    clear_value q' sent
    exact .iteFst (.iteFst ((keeps_deliverOrWait ..).trans h) h) ((keeps_freeIn ..).trans h)
  · have hlook := keeps_lookup s q
    split <;> have h := State.Keeps.ofFst ‹_› hlook
    · exact (State.Keeps.ofSame (State.enqueue_same ..)).trans h
    · exact (State.Keeps.iteFst (keeps_deliverOrWait ..) (keeps_markLocal ..)).trans h
    · exact h
    · exact (keeps_freeIn ..).trans ((keeps_discardAt ..).trans ((State.Keeps.ofSame (State.count_same ..)).trans h))

theorem keeps_retryList (s : State) (qs kept : List QPkt) : (s.retryList qs kept).1.Keeps s := by
  induction qs generalizing s kept with
  | nil => exact .refl s
  | cons q qs ih =>
    unfold State.retryList
    refine .iteFst (ih ..) ?_
    split
    · exact (ih ..).trans (.ofFst (by assumption) (keeps_place ..))
    · exact (ih ..).trans (.ofFst (by assumption) (keeps_place ..))

theorem keeps_retryOnce (s : State) : s.retryOnce.Keeps s :=
  (keeps_retryList ({ s with routing := { s.routing with waiting := [], relook := false } }) s.routing.waiting [] :)

theorem keeps_relookLoop (n : Nat) (s : State) : (s.relookLoop n).Keeps s := by
  induction n generalizing s with
  | zero => exact .refl s
  | succ n ih => exact .ite ((ih _).trans (keeps_retryOnce s)) (.refl s)

theorem keeps_settle (s : State) : s.settle.Keeps s := by
  unfold State.settle
  refine (keeps_relookLoop ..).trans ((keeps_retryOnce ..).trans ((State.Keeps.foldl ?_ _ _).trans (.refl s)))
  intro s e
  dsimp only
  refine .ite ((keeps_freeIn ..).trans (keeps_mcDiscard ..)) ?_
  split
  · exact .ofFst (by assumption) (keeps_place ..)
  · exact .withRouting (.ofFst (by assumption) (keeps_place ..))

/-! ### Ports that join and leave -/

theorem keeps_doubtAll (s : State) (p det : Nat) : (s.doubtAll p det).Keeps s := by
  unfold State.doubtAll
  refine (State.Keeps.foldl keeps_freeIn ..).trans ((State.Keeps.foldl (fun s k => ?_) ..).trans (.modTile ..))
  exact .ite (.refl s) (keeps_faultFor { s with routing := { s.routing with discards := s.routing.discards + 1 } } ..)

theorem keeps_endPartial (s : State) (p : Nat) (lanes : Nat → Bool) : (s.endPartial p lanes).Keeps s := .modTile ..

theorem keeps_leaveRouting (s : State) (p det : Nat) : (s.leaveRouting p det).Keeps s :=
  .ite (.refl s) ((keeps_settle _).trans ((keeps_endPartial ..).trans ((keeps_doubtAll ..).trans (.modTile ..))))

theorem keeps_checkIdentity (s : State) (p : Nat) : (s.checkIdentity p).Keeps s := by
  unfold State.checkIdentity
  refine .ite (.modTile ..) ?_
  extract_lets _ _ _ _ s1 s2
  have h : s2.Keeps s := (State.Keeps.ite (.ofSame (State.raise_same ..)) (.refl s1)).trans (.modTile ..)
  refine State.Keeps.trans ?_ h
  refine .ite (.ite (.refl s2) (.ite (.modTile ..) ?_)) ?_
  · exact (keeps_settle _).trans (.modTile ..)
  · exact (keeps_leaveRouting ..).trans (.modTile ..)

theorem keeps_rejoinAll (s : State) : s.rejoinAll.Keeps s := keeps_settle _

theorem keeps_elect (s : State) : s.elect.Keeps s := .ite (keeps_sendTc3 ..) (.refl s)

theorem keeps_respond (s : State) (via : Arrival) (r : Resp) : (s.respond via r).Keeps s := by
  unfold State.respond
  split
  · split
    · exact .ite ((State.Keeps.ofSame (State.signal_same ..)).trans rfl) (.refl s)
    · exact .refl s
  · exact keeps_sendTc3 ..
  · exact keeps_sendTc3 ..
  · exact (State.Keeps.ofSame (State.emit_same ..)).trans rfl
  · exact .ofSame (State.emit_same ..)

theorem keeps_answer (s : State) (via : Arrival) (seq : BitVec 32) (op : BitVec 16) (e : BitVec 8) (result : List Byte) :
    (s.answer via seq op e result).Keeps s := by
  unfold State.answer
  refine (keeps_respond ..).trans ?_
  split
  · exact .refl s
  · exact .refl s

theorem keeps_bringupExit (s : State) : s.bringupExit.Keeps s := by
  refine .ite ?_ (.refl s)
  unfold State.leaveBringup
  dsimp only
  have h : s.enterService.Keeps s := .ofSame (State.enterService_same ..)
  split
  · exact h
  · exact (keeps_answer ..).trans h

end Sys2Proof.Machine
end

section
/-! PROOFS. Machine identity (R49-R51, R125): O59. -/

namespace Sys2Proof.Machine

open Sys2Proof

/-- Of an answered command's state what follows holds too. -/
theorem Answers.imp {o : Host.Outcome State Fault Refusal} {c : Call} {code : BitVec 16} {r : Reply} {P Q : State → Prop}
    (h : Answers o c code r P) (hPQ : ∀ u, P u → Q u) : Answers o c code r Q := by
  obtain ⟨u, ho, hu⟩ := h
  exact ⟨u, ho, hPQ u hu⟩

theorem Does.imp {i : Instr} {s : State} {r : Reply} {P Q : State → Prop} (h : Does i s r P) (hPQ : ∀ u, P u → Q u) : Does i s r Q :=
  fun c code k he => (h c code k he).imp hPQ

/-- The routing state that a machine identity sets (R49-R51), on its default table set (R125). -/
def Routing.identified (r : Routing) (id : ModId) (pMinus1 gMinus1 mMinus1 ws wg : Nat) : Routing :=
  let r := { r with
    idValid := true, moduleId := id, pMinus1 := BitVec.ofNat 8 pMinus1, gMinus1 := BitVec.ofNat 5 gMinus1,
    mMinus1 := BitVec.ofNat 4 mMinus1, ws := BitVec.ofNat 9 ws, wg := BitVec.ofNat 14 wg, declared := [], holes := [] }
  { r with bank0 := {}, bank1 := r.defaultBank, activeGen := 1, activeBank := true, otherBank := .empty }

/-- R49-R51: a machine identity that fits its shape is taken in Hearth boot and Link bring-up. -/
theorem machineIdentity_identifies {s : State} {c : Call} {id : ModId} {p g m ws wg : Nat}
    (hmode : s.hearth.mode = .hearthBoot ∨ s.hearth.mode = .linkBringup) (hshape : shapeOk (p + 1) (g + 1) (m + 1) ws wg = true)
    (hid : idValidIn (p + 1) (g + 1) (m + 1) id = true) :
    Does (.machineIdentity c id p g m ws wg) s .ok fun u =>
      u.Keeps { s with routing := s.routing.identified id p g m ws wg } := by
  refine does_of_fleso rfl (execMachineIdentity.eq_1 ..) (fun a => by cases a <;> rfl) fun q _ => ?_
  have hin : ¬(s.hearth.mode ≠ .hearthBoot ∧ s.hearth.mode ≠ .linkBringup) := fun h => hmode.elim h.1 h.2
  simp only [mode_take, routing_take, hin, hshape, hid, Bool.not_true, Bool.false_eq_true, if_false]
  refine ⟨trivial, (keeps_bringupExit _).trans ((keeps_elect _).trans (State.Keeps.trans (.ofSame (State.announce_same _)) ?_))⟩
  exact (keeps_rejoinAll _).trans ((State.Keeps.foldl keeps_checkIdentity ..).trans rfl)

/-- R49: in every other mode a machine identity is refused, and nothing is done but the taking. -/
theorem machineIdentity_wrongMode {s : State} {c : Call} {id : ModId} {p g m ws wg : Nat} {code : BitVec 16} {k : Allowed}
    (h : s.Executes (.machineIdentity c id p g m ws wg) c code k) (hboot : s.hearth.mode ≠ .hearthBoot)
    (hbringup : s.hearth.mode ≠ .linkBringup) :
    ∃ q, s.front c.via c.seq code = some q ∧ exec (.machineIdentity c id p g m ws wg) s =
      .next ((s.take q).reply c code (.errD eWrongMode (leBytes 1 (modeCode s.hearth.mode)))).serve := by
  obtain ⟨-, rfl, rfl⟩ := h.eq_row rfl
  obtain ⟨q, hq, he⟩ := fleso_executes (may := Auth.isM) h (by cases s.authOf c.via <;> rfl)
  refine ⟨q, hq, (execMachineIdentity.eq_1 ..).trans (he.trans ?_)⟩
  simp only [mode_take, hboot, hbringup, ne_eq, not_false_eq_true, and_self, if_true]

/-- Settles O59: outside Hearth boot and Link bring-up the body's first test refuses; in them the identity set is a setting, which the
identity checks, the election and the way out of Link bring-up keep. -/
theorem identityOnlyAtBringup : Obligations.IdentityOnlyAtBringup :=
  fun _ _ _ _ _ _ _ _ _ _ h => ⟨fun hboot hbringup => machineIdentity_wrongMode h hboot hbringup, fun hmode hshape hid =>
    (machineIdentity_identifies hmode hshape hid _ _ _ h).imp fun _ hu => ⟨hu.read Routing.idValid, hu.read Routing.moduleId⟩⟩

end Sys2Proof.Machine
end

section
/-! PROOFS. The commands on wiring, routing and flow (R41, R57, R122-R125, R137, R152, R159, R169, R175, R814): O23. -/

namespace Sys2Proof.Machine

open Sys2Proof

/-! ### Tables, banks, tiles -/

/-- An entry is left by a filter on the keys where its key passes. -/
theorem tget_filter_key {α : Type} (t : Table α) (f : Nat → Bool) (k : Nat) :
    tget (t.filter fun e => f e.1) k = if f k then tget t k else none := by
  induction t with
  | nil => exact (ite_self none).symm
  | cons e t ih =>
    rw [List.filter_cons]
    by_cases he : e.1 = k
    · subst he
      by_cases hf : f e.1 = true
      · simp only [hf, if_true, tget]
      · simp only [hf, Bool.false_eq_true, if_false, ih]
    · split
      · simp only [tget, he, if_false, ih]
      · simp only [tget, he, if_false, ih]

/-- Entries put at n keys from a on are there. -/
theorem tget_put_range {α : Type} (t : Table α) (v : α) {a n k : Nat} (ha : a ≤ k) (hn : k < a + n) :
    tget ((List.range n).foldl (fun t i => tset t (a + i) v) t) k = some v := by
  induction n with
  | zero => omega
  | succ n ih =>
    simp only [List.range_succ, List.foldl_append, List.foldl_cons, List.foldl_nil]
    by_cases hk : k = a + n
    · rw [hk, tget_tset_same]
    · rw [tget_tset_ne _ _ _ _ hk]
      exact ih (by omega)

@[simp] theorem bank_setBank_same (r : Routing) (g : Bool) (b : RouteBank) : (r.setBank g b).bank g = b := by
  cases g <;> rfl
@[simp] theorem bank_setBank_not (r : Routing) (g : Bool) (b : RouteBank) : (r.setBank (!g) b).bank g = r.bank g := by
  cases g <;> rfl
@[simp] theorem activeGen_setBank (r : Routing) (g : Bool) (b : RouteBank) : (r.setBank g b).activeGen = r.activeGen := by
  cases g <;> rfl

theorem tile_modTile_ne (s : State) (p : Nat) (f : Tile → Tile) {t : Nat} (h : t ≠ p) : (s.modTile p f).tile t = s.tile t :=
  tgetD_tmod_ne _ _ _ _ _ h

/-- The credit that every tile in the list is to take, and any that was to take it before. -/
theorem nextCredit_foldl_modTile (next : BitVec 10 × BitVec 15 × BitVec 8) (ts : List Nat) (s : State) {t : Nat}
    (h : t ∈ ts ∨ (s.tile t).nextCredit = some next) :
    ((ts.foldl (fun (s : State) p => s.modTile p fun t => { t with nextCredit := some next }) s).tile t).nextCredit = some next := by
  induction ts generalizing s with
  | nil => exact h.resolve_left List.not_mem_nil
  | cons p ps ih =>
    refine ih _ ?_
    by_cases htp : t = p
    · subst htp
      exact .inr (by rw [tile_modTile])
    · rw [tile_modTile_ne _ _ _ htp]
      exact h.imp_left fun hm => (List.mem_cons.mp hm).resolve_left htp

/-! ### What a command that is taken reads (R627) -/

@[simp] theorem refOk_take (s : State) (q : QCmd) (via : Arrival) (r : DataRef) : (s.take q).refOk via r = s.refOk via r := by
  obtain ⟨_, _, _, _, _, h⟩ := s.take_eq q
  rw [h]
  rfl

@[simp] theorem refBytes_take (s : State) (q : QCmd) (r : DataRef) : (s.take q).refBytes r = s.refBytes r := by
  simp only [State.refBytes, mem_take]

@[simp] theorem tooSoon_take (s : State) (q : QCmd) (t : Ticks) : (s.take q).tooSoon t = s.tooSoon t := by
  simp only [State.tooSoon, time_take]

/-- No field of a command is bad when none of the tests of its fields holds. -/
theorem firstBad_eq_none {l : List (Bool × Nat)} : firstBad l = none ↔ ∀ e ∈ l, e.1 = false := by
  simp only [firstBad, Option.map_eq_none_iff, List.find?_eq_none, Bool.not_eq_true]

/-! ### The commands -/

/-- R41, R814: PORT_REASSIGN declares a port's far end. -/
theorem portReassign_declares {s : State} {c : Call} {word : Word} (hid : s.routing.idValid = true) (hport : bits word 5 0 ≠ 63)
    (hres : bits word 63 30 = 0) (hun : bit word 29 = true → bits word 22 6 = 0 ∧ bits word 28 23 = 0)
    (hlink : bit word 29 = false → s.routing.valid (BitVec.ofNat 17 (bits word 22 6)) = true ∧ bits word 28 23 ≠ 63) :
    Does (.portReassign c word) s .ok fun u => tget u.routing.declared (bits word 5 0) =
      some (if bit word 29 then Declared.unwired else .link (BitVec.ofNat 17 (bits word 22 6)) (bits word 28 23)) := by
  refine does_of_fleso rfl (execPortReassign.eq_1 ..) (fun a => by cases a <;> rfl) fun q _ => ?_
  have hgood : firstBad [(bits word 5 0 == 63, 0),
      (if bit word 29 = true then bits word 22 6 != 0 else !s.routing.valid (BitVec.ofNat 17 (bits word 22 6)), 6),
      (if bit word 29 = true then bits word 28 23 != 0 else bits word 28 23 == 63, 23), (bits word 63 30 != 0, 30)] = none := by
    simp only [firstBad_eq_none, List.forall_mem_cons, beq_eq_false_iff_ne, bne_eq_false_iff_eq]
    cases hb : bit word 29 with
    | true =>
      obtain ⟨hfar, hfp⟩ := hun hb
      simp only [if_true, bne_eq_false_iff_eq]
      exact ⟨hport, hfar, hfp, hres, nofun⟩
    | false =>
      obtain ⟨hfar, hfp⟩ := hlink hb
      simp only [Bool.false_eq_true, if_false, beq_eq_false_iff_ne, hfar, Bool.not_true]
      exact ⟨hport, trivial, hfp, hres, nofun⟩
  simp only [routing_take, hid, Bool.true_and, hgood, Bool.not_true, Bool.false_eq_true, if_false]
  refine ⟨trivial, ?_⟩
  rw [((keeps_bringupExit _).trans (State.Keeps.trans (.ofSame (State.announce_same _)) ((keeps_elect _).trans (keeps_checkIdentity ..)))).read
    Routing.declared]
  exact tget_tset_same ..

/-- R57: HOLE_SET declares or withdraws the holes of its range. -/
theorem holeSet_sets {s : State} {c : Call} {first count : Nat} {set : Bool} (hlo : 1 ≤ count) (hhi : count ≤ 4096)
    (hend : first + count ≤ 131072) :
    Does (.holeSet c first count set) s .ok fun u =>
      ∀ m, first ≤ m → m < first + count → (tget u.routing.holes m).isSome = set := by
  refine does_of_fleso rfl (execHoleSet.eq_1 ..) (fun a => by cases a <;> rfl) fun q _ => ?_
  have hcount : ¬(count < 1 ∨ 4096 < count) := by omega
  simp only [hcount, Nat.not_lt.mpr hend, if_false, routing_take]
  refine ⟨trivial, fun m hm hm' => ?_⟩
  cases set with
  | true => simp only [if_true, tget_put_range _ _ hm hm', Option.isSome_some]
  | false =>
    have hout : (decide (m < first) || decide (first + count ≤ m)) = false := by
      rw [decide_eq_false (Nat.not_lt.mpr hm), decide_eq_false (Nat.not_le.mpr hm'), Bool.or_self]
    simp only [Bool.false_eq_true, if_false]
    rw [tget_filter_key _ (fun k => decide (k < first) || decide (first + count ≤ k)), hout]
    rfl

/-- R124, R151: ROUTE_LOAD puts the next generation into the other bank, to wait for its swap. -/
theorem routeLoad_loads {s : State} {c : Call} {gen : BitVec 32} {ref : DataRef} (href : s.refOk c.via ref = true) (hlen : ref.len = 9728)
    (hgen : gen = s.routing.activeGen + 1) (hret : s.routing.otherBank ≠ .retiring) (hswap : s.routing.swapScheduled = false)
    (hcheck : s.routing.checkBank (s.refBytes ref) = none) :
    Does (.routeLoad c gen false ref) s .ok fun u => u.routing.otherBank = .pending ∧
      u.routing.bank (!s.routing.activeBank) = bankOf gen (s.refBytes ref) ∧ u.routing.activeGen = s.routing.activeGen ∧
      u.routing.bank s.routing.activeBank = s.routing.bank s.routing.activeBank := by
  refine does_of_fleso rfl (execRouteLoad.eq_1 ..) (fun a => by cases a <;> rfl) fun q _ => ?_
  simp only [routing_take, refOk_take, refBytes_take, href, hlen, hgen, hret, hswap, hcheck, Bool.not_true, Bool.false_eq_true, ne_eq,
    not_true, or_self, if_false]
  exact ⟨trivial, trivial, bank_setBank_same .., activeGen_setBank .., bank_setBank_not ..⟩

/-- R124, R152: ROUTE_LOAD with adopt makes the generation the active one at once. -/
theorem routeLoad_adopts {s : State} {c : Call} {gen : BitVec 32} {ref : DataRef} (href : s.refOk c.via ref = true) (hlen : ref.len = 9728)
    (hmode : s.hearth.mode = .linkBringup ∨ isService s.hearth.mode = true) (hswap : s.routing.swapScheduled = false)
    (hgen : gen ≠ s.routing.activeGen) (hcheck : s.routing.checkBank (s.refBytes ref) = none) :
    Does (.routeLoad c gen true ref) s .ok fun u => u.routing.activeGen = gen ∧ u.routing.activeBank = bit gen 0 ∧
      u.routing.otherBank = .empty ∧ u.routing.bank (bit gen 0) = bankOf gen (s.refBytes ref) := by
  refine does_of_fleso rfl (execRouteLoad.eq_1 ..) (fun a => by cases a <;> rfl) fun q _ => ?_
  have hin : ¬(s.hearth.mode ≠ .linkBringup ∧ (!isService s.hearth.mode) = true) := fun ⟨hne, hno⟩ =>
    hmode.elim hne fun hservice => by rw [hservice] at hno; cases hno
  simp only [routing_take, mode_take, refOk_take, refBytes_take, href, hlen, hin, hgen, hswap, hcheck, Bool.not_true, Bool.false_eq_true,
    not_true, ne_eq, or_self, if_false, if_true]
  have hk := keeps_rejoinAll
  refine ⟨trivial, (hk _).read Routing.activeGen, (hk _).read Routing.activeBank, (hk _).read Routing.otherBank, ?_⟩
  exact ((hk _).read fun r => r.bank (bit gen 0)).trans (bank_setBank_same ..)

/-- R153: ROUTE_SWAP schedules the swap to the generation that waits. -/
theorem routeSwap_schedules {s : State} {c : Call} {gen : BitVec 32} {at_ : Ticks} (hpend : s.routing.otherBank = .pending)
    (hbank : (s.routing.bank !s.routing.activeBank).gen = s.routing.activeGen + 1) (hgen : gen = s.routing.activeGen + 1)
    (hsoon : s.tooSoon at_ = false) (hswap : s.routing.swapScheduled = false) :
    Does (.routeSwap c gen at_ false) s .ok fun u => u.routing = { s.routing with
      swapScheduled := true, swapMissed := false, swapAt := at_, swapGen := gen } := by
  refine does_of_fleso rfl (execRouteSwap.eq_1 ..) (fun a => by cases a <;> rfl) fun q _ => ?_
  simp only [routing_take, tooSoon_take, hpend, hbank, hgen, hsoon, hswap, Bool.false_eq_true, ne_eq, not_true, or_self, if_false]
  exact ⟨trivial, trivial⟩

/-- R153: ROUTE_SWAP with cancel withdraws the swap. -/
theorem routeSwap_cancels {s : State} {c : Call} {gen : BitVec 32} {at_ : Ticks} (hswap : s.routing.swapScheduled = true)
    (hgen : gen = s.routing.swapGen) :
    Does (.routeSwap c gen at_ true) s .ok fun u => u.routing = { s.routing with swapScheduled := false } := by
  refine does_of_fleso rfl (execRouteSwap.eq_1 ..) (fun a => by cases a <;> rfl) fun q _ => ?_
  simp only [routing_take, hswap, hgen, Bool.not_true, Bool.false_eq_true, ne_eq, not_true, if_false, if_true]
  exact ⟨trivial, trivial⟩

/-- R137, R169: ROUTE_CFG sets the Derailleur's and the transport's settings. -/
theorem routeCfg_sets {s : State} {c : Call} {d e : Word} (hwait : bits d 7 0 ≠ 0) (h0 : bits d 13 12 ≠ 3) (h1 : bits d 15 14 ≠ 3)
    (h2 : bits d 17 16 ≠ 3) (hretire : 10 ≤ bits d 29 18) (hd : bits d 63 30 = 0) (hlo : 2 ≤ bits e 13 0) (hhi : bits e 13 0 ≤ 10000)
    (hresend : bits e 21 14 ≠ 0) (he : bits e 63 22 = 0) :
    Does (.routeCfg c d e) s .ok fun u => u.routing = { s.routing with
      routeWaitUs := BitVec.ofNat 8 (bits d 7 0), nmBias := BitVec.ofNat 4 (bits d 11 8), modeTc0 := BitVec.ofNat 2 (bits d 13 12),
      modeTc1 := BitVec.ofNat 2 (bits d 15 14), modeTc2 := BitVec.ofNat 2 (bits d 17 16), retireUs := BitVec.ofNat 12 (bits d 29 18),
      timeoutUs := BitVec.ofNat 14 (bits e 13 0), resendLimit := BitVec.ofNat 8 (bits e 21 14) } := by
  refine does_of_fleso rfl (execRouteCfg.eq_1 ..) (fun a => by cases a <;> rfl) fun q _ => ?_
  have hgood : firstBad [(bits d 7 0 == 0, 0), (bits d 13 12 == 3, 12), (bits d 15 14 == 3, 14), (bits d 17 16 == 3, 16),
      (decide (bits d 29 18 < 10), 18), (bits d 63 30 != 0, 30), (decide (bits e 13 0 < 2 ∨ 10000 < bits e 13 0), 64),
      (bits e 21 14 == 0, 64 + 14), (bits e 63 22 != 0, 64 + 22)] = none := by
    have htime : ¬(bits e 13 0 < 2 ∨ 10000 < bits e 13 0) := by omega
    simp only [firstBad_eq_none, List.forall_mem_cons, beq_eq_false_iff_ne, bne_eq_false_iff_eq, decide_eq_false_iff_not]
    exact ⟨hwait, h0, h1, h2, Nat.not_lt.mpr hretire, hd, htime, hresend, he, nofun⟩
  simp only [routing_take, hgood]
  exact ⟨trivial, trivial⟩

/-- R159: TREE_WRITE sets a tree's entry. -/
theorem treeWrite_sets {s : State} {c : Call} {tree : Nat} {entry : BitVec 128} (h0 : tree ≠ 0) (hlt : tree < 8192)
    (hres : bits entry 127 93 = 0) :
    Does (.treeWrite c tree entry) s .ok fun u => tget u.routing.trees tree = some entry := by
  refine does_of_fleso rfl (execTreeWrite.eq_1 ..) (fun a => by cases a <;> rfl) fun q _ => ?_
  have htree : ¬(tree = 0 ∨ 8192 ≤ tree) := by omega
  simp only [htree, hres, ne_eq, not_true, if_false]
  exact ⟨trivial, tget_tset_same ..⟩

/-- R175: FLOW_CFG sets Bellows and the weights, and the credit that its tiles take at their next training. -/
theorem flowCfg_sets {s : State} {c : Call} {tile : Option Nat} {credit bellows sched : Word} (htile : ∀ t, tile = some t → t < 64)
    (hcredit : ¬(bits credit 9 0 < 259 ∨ bits credit 24 10 < bits credit 9 0 ∨ 32768 < bits credit 24 10 + 31 * bits credit 9 0 ∨
      bits credit 63 33 ≠ 0))
    (hbellows : ¬(bits bellows 3 0 < 1 ∨ 14 < bits bellows 3 0 ∨ bits bellows 7 4 ≤ bits bellows 3 0 ∨ bits bellows 14 8 < 1 ∨
      64 < bits bellows 14 8 ∨ bits bellows 63 15 ≠ 0))
    (hsched : ¬(bits sched 7 0 = 0 ∨ bits sched 15 8 = 0 ∨ 8192 < bits sched 31 16 ∨ bits sched 63 32 ≠ 0)) :
    Does (.flowCfg c tile credit bellows sched) s .ok fun u => u.sched.onLevel = BitVec.ofNat 4 (bits bellows 3 0) ∧
      u.sched.hardLevel = BitVec.ofNat 4 (bits bellows 7 4) ∧ u.sched.minFactor = BitVec.ofNat 7 (bits bellows 14 8) ∧
      u.sched.tc0Weight = BitVec.ofNat 8 (bits sched 7 0) ∧ u.sched.tc1Weight = BitVec.ofNat 8 (bits sched 15 8) ∧
      ∀ t, (tile = some t ∨ tile = none ∧ t < 64) → (u.tile t).nextCredit =
        some (BitVec.ofNat 10 (bits credit 9 0), BitVec.ofNat 15 (bits credit 24 10), BitVec.ofNat 8 (bits credit 32 25)) := by
  refine does_of_fleso rfl (execFlowCfg.eq_def ..) (fun a => by cases a <;> rfl) fun q _ => ?_
  have hin : (tile.any fun t => decide (64 ≤ t)) = false := by
    cases tile with
    | none => rfl
    | some t => exact decide_eq_false (Nat.not_le.mpr (htile t rfl))
  simp only [hin, hcredit, hbellows, hsched, Bool.false_eq_true, if_false]
  refine ⟨trivial, trivial, trivial, trivial, trivial, trivial, fun t ht => ?_⟩
  refine nextCredit_foldl_modTile _ _ _ (.inl ?_)
  rcases ht with rfl | ⟨rfl, ht⟩
  · exact List.mem_singleton_self t
  · exact List.mem_range.mpr ht

/-- Settles O23: clause by clause, each command in the branch that its hypotheses choose; what follows a change of identity, wiring or
bank keeps the settings. -/
theorem routingCommandsComplete : Obligations.RoutingCommandsComplete :=
  ⟨fun _ _ _ _ _ _ _ _ hmode hshape hid => (machineIdentity_identifies hmode hshape hid).imp fun _ hu =>
      ⟨hu.read Routing.idValid, hu.read Routing.moduleId, hu.read Routing.pMinus1, hu.read Routing.gMinus1, hu.read Routing.mMinus1,
        hu.read Routing.ws, hu.read Routing.wg, hu.read Routing.activeGen, hu.read Routing.declared, hu.read Routing.holes⟩,
    fun _ _ _ hid hport hres hun hlink => portReassign_declares hid hport hres hun hlink,
    fun _ _ _ _ _ hlo hhi hend => holeSet_sets hlo hhi hend,
    fun _ _ _ _ href hlen hgen hret hswap hcheck => routeLoad_loads href hlen hgen hret hswap hcheck,
    fun _ _ _ _ href hlen hmode hswap hgen hcheck => routeLoad_adopts href hlen hmode hswap hgen hcheck,
    fun _ _ _ _ hpend hbank hgen hsoon hswap => routeSwap_schedules hpend hbank hgen hsoon hswap,
    fun _ _ _ _ hswap hgen => routeSwap_cancels hswap hgen,
    fun _ _ _ _ hwait h0 h1 h2 hretire hd hlo hhi hresend he =>
      (routeCfg_sets hwait h0 h1 h2 hretire hd hlo hhi hresend he).imp fun _ hu => by
        rw [hu]
        exact ⟨rfl, rfl, rfl, rfl, rfl, rfl, rfl, rfl⟩,
    fun _ _ _ _ h0 hlt hres => treeWrite_sets h0 hlt hres,
    fun _ _ _ _ _ _ htile _ _ _ _ _ _ _ _ _ _ _ _ _ _ => flowCfg_sets htile (by omega) (by omega) (by omega)⟩

end Sys2Proof.Machine
end

section
/-! PROOFS. The commands on instances (R194, R195, R381, R542-R544, R547, R548, R561-R565): O20. -/

namespace Sys2Proof.Machine

open Sys2Proof

/-! ### What a command on instances reads when it is taken -/

/-- What reads neither the mailboxes, nor the lists of commands, nor the counters reads the same of a command that is taken (R608). -/
theorem read_take {α : Type} (f : State → α) (s : State) (q : QCmd)
    (hf : ∀ queue fabricQueue running mboxes counters,
      f { s with hearth := { s.hearth with queue, fabricQueue, running, mboxes }, counters } = f s) :
    f (s.take q) = f s := by
  obtain ⟨_, _, _, _, _, h⟩ := s.take_eq q
  rw [h]
  exact hf ..

@[simp] theorem inst_take (s : State) (q : QCmd) (i : Nat) : (s.take q).inst i = s.inst i := read_take (·.inst i) s q fun _ _ _ _ _ => rfl
@[simp] theorem grant_take (s : State) (q : QCmd) (i : Nat) : (s.take q).grant i = s.grant i := read_take (·.grant i) s q fun _ _ _ _ _ => rfl
@[simp] theorem used_take (s : State) (q : QCmd) (i row : Nat) : (s.take q).used i row = s.used i row :=
  read_take (·.used i row) s q fun _ _ _ _ _ => rfl
@[simp] theorem pool_take (s : State) (q : QCmd) (row : Nat) : (s.take q).pool row = s.pool row := read_take (·.pool row) s q fun _ _ _ _ _ => rfl
@[simp] theorem sharesUsed_take (s : State) (q : QCmd) (tc : Nat) : (s.take q).sharesUsed tc = s.sharesUsed tc :=
  read_take (·.sharesUsed tc) s q fun _ _ _ _ _ => rfl
@[simp] theorem grantsFail_take (s : State) (q : QCmd) (port : Nat) (old : Nat → Nat) (gs : List (Nat × Nat)) :
    (s.take q).grantsFail port old gs = s.grantsFail port old gs := read_take (·.grantsFail port old gs) s q fun _ _ _ _ _ => rfl
@[simp] theorem shareFails_take (s : State) (q : QCmd) (i : Nat) (g : Nat × Nat) : (s.take q).shareFails i g = s.shareFails i g :=
  read_take (·.shareFails i g) s q fun _ _ _ _ _ => rfl
@[simp] theorem boundInst_take (s : State) (q : QCmd) (p v : Nat) : (s.take q).boundInst p v = s.boundInst p v :=
  read_take (·.boundInst p v) s q fun _ _ _ _ _ => rfl
@[simp] theorem reaches_take (s : State) (q : QCmd) (a : Auth) (i : Nat) : (s.take q).reaches a i = s.reaches a i :=
  read_take (·.reaches a i) s q fun _ _ _ _ _ => rfl
@[simp] theorem forInst_take (s : State) (q : QCmd) (a : Auth) (inst : Option Nat) : (s.take q).forInst a inst = s.forInst a inst :=
  read_take (·.forInst a inst) s q fun _ _ _ _ _ => rfl

/-! ### Instances read back -/

theorem inst_congr {t s : State} (h : t.insts = s.insts) (i : Nat) : t.inst i = s.inst i := congrArg (fun l : Table Inst => tgetD l i {}) h

/-- R610: a move of one of the instances puts its state and tells who drives it. -/
theorem insts_enter (s : State) (i : Nat) (st : IState) : (s.enter i st).insts = (s.modInst i fun x => { x with state := st }).insts := by
  unfold State.enter
  dsimp only
  split
  · rfl
  · exact (Same.foldl (fun s f => State.event_same s f ..) _ (Same.refl ..)).parts .insts rfl

@[simp] theorem inst_enter (s : State) (i : Nat) (st : IState) : (s.enter i st).inst i = { s.inst i with state := st } :=
  (inst_congr (insts_enter s i st) i).trans (inst_modInst ..)

@[simp] theorem inst_setVectors (s : State) (f : Fn) (n i : Nat) : (s.setVectors f n).inst i = s.inst i :=
  inst_congr ((State.setVectors_same s f n).parts .insts rfl) i

/-- R544: what a binding leaves of what it binds. -/
theorem inst_bindTo (s : State) (i : Nat) (vf : Option Nat) (vectors : Nat) : (s.bindTo i vf vectors).inst i = { s.inst i with
    bound := vf.isSome, vf := BitVec.ofNat 8 (vf.getD 0),
    state := if (s.inst i).state = .closed then .active else (s.inst i).state } := by
  have hite : ∀ (p : Prop) [Decidable p] (a b : State), (if p then a else b).inst i = if p then a.inst i else b.inst i :=
    fun _ _ _ _ => apply_ite (fun s : State => s.inst i) ..
  have hqueues : ∀ (s : State) (wqs : Table Wq) (cqs : Table Cq), State.inst { s with wqs, cqs } i = s.inst i := fun _ _ _ => rfl
  unfold State.bindTo
  simp only [hqueues, hite, inst_setVectors, inst_modInst, inst_enter, ite_self]
  split <;> rfl

/-! ### Grants (R547, R548) -/

/-- Of INST, setting a grant changes the grants and segments at most. -/
theorem inst_setGrant (s : State) (i row v : Nat) : ∃ segments, (s.setGrant i row v).inst i = { s.inst i with
    grants := (List.range 9).map fun r => if r = row then v else s.grant i r, segments } := by
  have hvises : ∀ (ns : List Nat) (f : Vise → Vise) (s : State), (ns.foldl (fun s n => s.modVise n f) s).inst i = s.inst i :=
    fun ns f s => inst_congr ((Same.foldl (fun s n => State.modVise_same s n f) ns (Same.refl ..)).parts .insts rfl) i
  unfold State.setGrant
  dsimp only
  by_cases h5 : row = 5
  · rw [if_pos h5]
    split <;> exact ⟨_, by rw [hvises, inst_modInst]⟩
  · rw [if_neg h5]
    by_cases h7 : row = 7
    · rw [if_pos h7]
      split <;> exact ⟨_, by rw [inst_modInst, inst_modInst]⟩
    · rw [if_neg h7]
      exact ⟨_, by rw [inst_modInst]⟩

/-- A grant that is set reads back, and the other rows as before. -/
theorem grant_setGrant (s : State) (i row v : Nat) {r : Nat} (hr : r < 9) :
    (s.setGrant i row v).grant i r = if r = row then v else s.grant i r := by
  obtain ⟨segments, h⟩ := inst_setGrant s i row v
  simp only [State.grant, h, List.getD_eq_getElem?_getD, List.getElem?_map, List.getElem?_range hr, Option.map_some, Option.getD_some]

/-- Grants set one after the other. -/
def State.setGrants (s : State) (i : Nat) (gs : List (Nat × Nat)) : State := gs.foldl (fun s g => s.setGrant i g.1 g.2) s

theorem inst_setGrants (gs : List (Nat × Nat)) (s : State) (i : Nat) :
    ∃ grants segments, (s.setGrants i gs).inst i = { s.inst i with grants, segments } := by
  induction gs generalizing s with
  | nil => exact ⟨_, _, rfl⟩
  | cons g gs ih =>
    obtain ⟨grants, segments, h⟩ := ih (s.setGrant i g.1 g.2)
    obtain ⟨segments', h'⟩ := inst_setGrant s i g.1 g.2
    exact ⟨grants, segments, by rw [h'] at h; exact h⟩

/-- A row that the list sets to one value only, or that has that value before, reads it. -/
theorem grant_setGrants {gs : List (Nat × Nat)} {s : State} {i r v : Nat} (hr : r < 9) (h : (r, v) ∈ gs ∨ s.grant i r = v)
    (huniq : ∀ w, (r, w) ∈ gs → w = v) : (s.setGrants i gs).grant i r = v := by
  induction gs generalizing s with
  | nil => exact h.resolve_left List.not_mem_nil
  | cons g gs ih =>
    refine ih ?_ fun w hw => huniq w (List.mem_cons_of_mem _ hw)
    rw [grant_setGrant s i g.1 g.2 hr]
    by_cases hrow : r = g.1
    · exact .inr ((if_pos hrow).trans (huniq g.2 (hrow ▸ List.mem_cons_self)))
    · rw [if_neg hrow]
      exact h.imp_left fun hm => (List.mem_cons.mp hm).resolve_left fun e => hrow (congrArg Prod.fst e)

/-- Grants that do not fail name rows of R547. -/
theorem row_lt_of_grantsFail {s : State} {port : Nat} {old : Nat → Nat} {gs : List (Nat × Nat)} (h : s.grantsFail port old gs = none) :
    ∀ g ∈ gs, g.1 < 9 := by
  unfold State.grantsFail at h
  split at h
  · cases h
  · rename_i hrange
    intro g hg
    have := List.find?_eq_none.mp hrange g hg
    simp only [Bool.or_eq_true, decide_eq_true_eq, not_or] at this
    omega

theorem mem_numbered {α : Type} {l : List α} {k : Nat} {v : α} : (k, v) ∈ numbered l ↔ l[k]? = some v := by
  constructor
  · intro h
    obtain ⟨e, he, hswap⟩ := List.mem_map.mp h
    cases hswap
    exact List.mem_zipIdx_iff_getElem?.mp he
  · exact fun h => List.mem_map.mpr ⟨(v, k), List.mem_zipIdx_iff_getElem?.mpr h, rfl⟩

/-- R543: the rows that a creation sets: those it gives, and one vector where it gives none. -/
def createGrants (grants : List Nat) : List (Nat × Nat) := numbered grants ++ if grants.length ≤ 8 then [(8, 1)] else []

/-- A row that a creation gives a value is set to no other. -/
theorem createGrants_unique {grants : List Nat} {k v w : Nat} (hk : grants[k]? = some v) (hw : (k, w) ∈ createGrants grants) : w = v := by
  rcases List.mem_append.mp hw with hw | hw
  · exact Option.some.inj ((mem_numbered.mp hw).symm.trans hk)
  · obtain ⟨hlt, -⟩ := List.getElem?_eq_some_iff.mp hk
    split at hw
    · obtain ⟨rfl, -⟩ := Prod.mk.inj (List.mem_singleton.mp hw)
      omega
    · cases hw

/-! ### Creation (R542, R543) -/

/-- A creation before the grants are set: closed, of its port, its epoch going on. -/
def State.blankInst (s : State) (i port : Nat) : State :=
  (s.modInst i fun x => { port := BitVec.ofNat 2 port, epoch := x.epoch, sweeping := x.sweeping, since := x.since }).enter i .closed

@[simp] theorem inst_blankInst (s : State) (i port : Nat) : (s.blankInst i port).inst i =
    { state := .closed, port := BitVec.ofNat 2 port, epoch := (s.inst i).epoch, sweeping := (s.inst i).sweeping,
      since := (s.inst i).since } := by
  simp only [State.blankInst, inst_enter, inst_modInst]

/-- What a creation leaves of INST: closed and unbound on its port, its epoch going on; its grants, its stroke class and its
eager limit as they are given. -/
theorem createInst_creates {s : State} {i port : Nat} {grants : List Nat} {shapes : List Word} {cls : BitVec 4} {limit : Nat}
    (hgrants : s.grantsFail port (fun _ => 0) (createGrants grants) = none)
    (hshapes : ((numbered shapes).find? fun e => decide (s.pool 9 < s.sharesUsed e.1 + shapeShare e.2)) = none) :
    ∃ u, s.createInst none i port (createGrants grants) shapes cls limit = (u, .res (leBytes 8 i)) ∧ (u.inst i).state = .closed ∧
      (u.inst i).port = BitVec.ofNat 2 port ∧ (u.inst i).epoch = (s.inst i).epoch ∧ (u.inst i).bound = false ∧
      tgetD u.time.admission i 0 = cls ∧ tgetD u.matching.eagerLimit i 0x2000 = BitVec.ofNat 17 limit ∧
      ∀ k v, grants[k]? = some v → u.grant i k = v := by
  simp only [State.createInst, hshapes]
  obtain ⟨_, _, h⟩ := inst_setGrants (createGrants grants) (s.blankInst i port) i
  rw [inst_blankInst] at h
  refine ⟨_, rfl, (congrArg Inst.state h :), (congrArg Inst.port h :), (congrArg Inst.epoch h :), (congrArg Inst.bound h :),
    tgetD_tset_same .., tgetD_tset_same .., fun k v hk => ?_⟩
  have hmem : (k, v) ∈ createGrants grants := List.mem_append_left _ (mem_numbered.mpr hk)
  exact grant_setGrants (s := s.blankInst i port) (row_lt_of_grantsFail hgrants _ hmem) (.inl hmem) fun w hw => createGrants_unique hk hw

/-- R542, R543: INST_CREATE makes the number it names, or the lowest free one. -/
theorem instCreate_creates {s : State} {c : Call} {port i : Nat} {inst : Option Nat} {grants : List Nat} {shaping : List Word}
    {cls : BitVec 4} {limit : Nat} (hport : port < 4)
    (hinst : inst = some i ∧ i < 1024 ∨ inst = none ∧ (List.range 1024).find? (fun i => (s.inst i).state == .free) = some i)
    (hfree : (s.inst i).state = .free) (hshaping : ∀ w ∈ shaping, badShaping w = false) (hlimit : limit ≤ 65536)
    (hgrants : s.grantsFail port (fun _ => 0) (createGrants grants) = none)
    (hshapes : ((numbered ((List.range 3).map fun t => shaping.getD t 0x0000010000000000)).find? fun e =>
      decide (s.pool 9 < s.sharesUsed e.1 + shapeShare e.2)) = none) :
    Does (.instCreate c port inst grants shaping cls limit) s (.res (leBytes 8 i)) fun u => (u.inst i).state = .closed ∧
      (u.inst i).port = BitVec.ofNat 2 port ∧ (u.inst i).epoch = (s.inst i).epoch ∧ (u.inst i).bound = false ∧
      tgetD u.time.admission i 0 = cls ∧ tgetD u.matching.eagerLimit i 0x2000 = BitVec.ofNat 17 limit ∧
      ∀ k v, grants[k]? = some v → u.grant i k = v := by
  refine does_of_fleso rfl (execInstCreate.eq_1 ..) (fun a => by cases a <;> rfl) fun q _ => ?_
  have hbad : shaping.any badShaping = false := List.any_eq_false.mpr fun w hw => by rw [hshaping w hw]; exact Bool.false_ne_true
  obtain ⟨u, hu, hP⟩ := createInst_creates (s := s.take q) (i := i) (cls := cls) (limit := limit)
    (by rw [grantsFail_take]; exact hgrants) (by simpa only [pool_take, sharesUsed_take] using hshapes)
  rw [inst_take] at hP
  unfold createGrants at hgrants hu
  rcases hinst with ⟨rfl, hi⟩ | ⟨rfl, hfirst⟩
  · simp only [Option.any_some, decide_eq_false (Nat.not_le.mpr hi), hbad, Nat.not_le.mpr hport, Nat.not_lt.mpr hlimit, Bool.false_eq_true,
      grantsFail_take, hgrants, inst_take, hfree, hu, ne_eq, not_true, if_false]
    exact ⟨trivial, hP⟩
  · simp only [Option.any_none, hbad, Nat.not_le.mpr hport, Nat.not_lt.mpr hlimit, Bool.false_eq_true, grantsFail_take, hgrants, inst_take,
      hfirst, hu, if_false]
    exact ⟨trivial, hP⟩

/-! ### Binding, granting, shaping (R194, R195, R544, R548) -/

/-- R544: INST_BIND gives what is closed or held its function, or takes it; what is closed becomes active. -/
theorem instBind_binds {s : State} {c : Call} {i vectors : Nat} {vf : Option Nat} (hi : i < 1024)
    (hstate : (s.inst i).state = .closed ∨ (s.inst i).state = .held)
    (hvf : ∀ v, vf = some v → v < 256 ∧ 1 ≤ vectors ∧ vectors ≤ 256 ∧ vectors ≤ s.grant i 8 ∧
      ∀ j, s.boundInst (s.inst i).port.toNat v = some j → j = i) :
    Does (.instBind c i vf vectors) s .ok fun u => (u.inst i).bound = vf.isSome ∧ (u.inst i).vf = BitVec.ofNat 8 (vf.getD 0) ∧
      (u.inst i).state = if (s.inst i).state = .closed then .active else .held := by
  refine does_of_fleso rfl (execInstBind.eq_1 ..) (fun a => by cases a <;> rfl) fun q _ => ?_
  have hnotFree : (s.inst i).state ≠ .free := by rcases hstate with h | h <;> rw [h] <;> decide
  have hopen : ¬((s.inst i).state ≠ .closed ∧ (s.inst i).state ≠ .held) := fun ⟨hc, hh⟩ => hstate.elim hc hh
  have hrange : (vf.any fun v => decide (256 ≤ v)) = false := by
    cases vf with
    | none => rfl
    | some v => exact decide_eq_false (Nat.not_le.mpr (hvf v rfl).1)
  have hvectors : ¬(vf.isSome = true ∧ (vectors < 1 ∨ 256 < vectors)) := fun ⟨hs, hb⟩ => by
    obtain ⟨v, rfl⟩ := Option.isSome_iff_exists.mp hs
    obtain ⟨-, hlo, hhi, -⟩ := hvf v rfl
    omega
  have hclash : (vf.any fun v => (s.boundInst (s.inst i).port.toNat v).any (· != i)) = false := by
    cases vf with
    | none => rfl
    | some v =>
      obtain ⟨-, -, -, -, hown⟩ := hvf v rfl
      rw [Option.any_some]
      cases hb : s.boundInst (s.inst i).port.toNat v with
      | none => rfl
      | some j => rw [hown j hb, Option.any_some, bne_self_eq_false]
  have hgrant : ¬(vf.isSome = true ∧ s.grant i 8 < vectors) := fun ⟨hs, hb⟩ => by
    obtain ⟨v, rfl⟩ := Option.isSome_iff_exists.mp hs
    obtain ⟨-, -, -, hle, -⟩ := hvf v rfl
    omega
  simp only [Nat.not_le.mpr hi, inst_take, grant_take, boundInst_take, hnotFree, hopen, hrange, hvectors, hclash, hgrant,
    Bool.false_eq_true, if_false, inst_bindTo]
  refine ⟨trivial, trivial, trivial, ?_⟩
  rcases hstate with h | h
  · rw [h]
    rfl
  · rw [h]

/-- R548: INST_GRANT sets a row that the pool and the use made of it allow, and leaves the others. -/
theorem instGrant_grants {s : State} {c : Call} {i row v : Nat} (hi : i < 1024) (hstate : (s.inst i).state ≠ .free) (hrow : row < 9)
    (hgrant : s.grantsFail (s.inst i).port.toNat (s.grant i) [(row, v)] = none) (hused : v < s.grant i row → s.used i row ≤ v) :
    Does (.instGrant c i [(row, v)]) s .ok fun u => u.grant i row = v ∧ ∀ r < 9, r ≠ row → u.grant i r = s.grant i r := by
  refine does_of_fleso rfl (execInstGrant.eq_1 ..) (fun a => by cases a <;> rfl) fun q _ => ?_
  have hgs : [(row, v)].filter (fun g => g.1 < 9) = [(row, v)] := List.filter_cons_of_pos (decide_eq_true hrow)
  have hshares : [(row, v)].filter (fun g => 9 ≤ g.1) = [] :=
    List.filter_cons_of_neg (by rw [decide_eq_true_eq]; exact Nat.not_le.mpr hrow)
  have hfits : (decide (v < s.grant i row) && decide (v < s.used i row)) = false := by
    rw [← Bool.decide_and, decide_eq_false_iff_not]
    exact fun ⟨hlt, hlt'⟩ => Nat.not_lt.mpr (hused hlt) hlt'
  simp only [Nat.not_le.mpr hi, inst_take, grant_take, used_take, grantsFail_take, hstate, hgs, hshares, hgrant, List.findSome?_nil,
    List.any_cons, List.any_nil, hfits, Bool.or_false, Bool.false_eq_true, List.foldl_cons, List.foldl_nil, if_false]
  refine ⟨trivial, ?_, fun r hr hne => ?_⟩
  · rw [grant_setGrant _ _ _ _ hrow, if_pos rfl]
  · rw [grant_setGrant _ _ _ _ hr, if_neg hne, grant_take]

/-- R194, R195: SHAPING writes a class's entry. -/
theorem shaping_writes {s : State} {c : Call} {i cls : Nat} {entry : Word} (hi : i < 1024) (hcls : cls < 3)
    (hentry : badShaping entry = false) (hstate : (s.inst i).state ≠ .free) (hshare : s.shareFails i (9 + cls, shapeShare entry) = none) :
    Does (.shaping c i cls entry) s .ok fun u => u.sched.shape i cls = entry := by
  refine does_of_fleso rfl (execShaping.eq_1 ..) (fun a => by cases a <;> rfl) fun q _ => ?_
  simp only [Nat.not_le.mpr hi, Nat.not_le.mpr hcls, hentry, inst_take, hstate, shareFails_take, hshare, Bool.false_eq_true, if_false]
  exact ⟨trivial, tgetD_tset_same ..⟩

/-! ### Windows (R381) -/

/-- What forInst names exists (R630). -/
theorem state_of_forInst {s : State} {a : Auth} {inst : Option Nat} {i : Nat} {r : Reply} (h : s.forInst a inst = (some i, r)) :
    (s.inst i).state ≠ .free := by
  unfold State.forInst at h
  split at h
  · cases h
  · cases h
  · split at h
    · cases h
    · rename_i hstate
      cases h
      exact hstate

/-- The segments that a window touches lie between those of its first byte and of its last. -/
theorem mem_windowSegs {base len g : Nat}
    (h : g ∈ (List.range ((base + len - 1) / Config.segBytes + 1 - base / Config.segBytes)).map (base / Config.segBytes + ·)) :
    base / Config.segBytes ≤ g ∧ g ≤ (base + len - 1) / Config.segBytes := by
  obtain ⟨k, hk, rfl⟩ := List.mem_map.mp h
  rw [List.mem_range] at hk
  omega

/-- R381: WINDOW_WRITE writes a window whose module memory, if any, lies in segments held. -/
theorem windowWrite_writes {s : State} {c : Call} {inst : Option Nat} {window i : Nat} {entry : BitVec 256} {r : Reply}
    (hfor : s.forInst (s.authOf c.via) inst = (some i, r)) (hwindow : window < 4096)
    (hres : ¬(bits entry 127 118 ≠ 0 ∨ bits entry 159 157 ≠ 0 ∨ bits entry 255 189 ≠ 0)) (hbase : bits entry 63 0 % 64 = 0)
    (hlen : ¬(bits entry 112 64 < 1 ∨ 2 ^ 48 < bits entry 112 64))
    (hmem : bit entry 113 = true → bits entry 63 0 + bits entry 112 64 ≤ Config.memBytes ∧
      ∀ g, bits entry 63 0 / Config.segBytes ≤ g → g ≤ (bits entry 63 0 + bits entry 112 64 - 1) / Config.segBytes →
        g ∈ (s.inst i).segments) :
    Does (.windowWrite c inst window entry) s .ok fun u => u.window i window = entry := by
  refine does_of_fleso rfl (execWindowWrite.eq_1 ..) (fun a => by cases a <;> rfl) fun q _ => ?_
  have hheld : ¬(bit entry 113 = true ∧ (Config.memBytes < bits entry 63 0 + bits entry 112 64 ∨
      (!((List.range ((bits entry 63 0 + bits entry 112 64 - 1) / Config.segBytes + 1 - bits entry 63 0 / Config.segBytes)).map
        (bits entry 63 0 / Config.segBytes + ·)).all fun g => (s.inst i).segments.contains g) = true)) := by
    rintro ⟨hspace, hout⟩
    obtain ⟨hend, hsegs⟩ := hmem hspace
    refine hout.elim (Nat.not_lt.mpr hend) fun hmissing => ?_
    rw [List.all_eq_true.mpr fun g hg => List.contains_iff_mem.mpr (hsegs g (mem_windowSegs hg).1 (mem_windowSegs hg).2)] at hmissing
    cases hmissing
  simp only [forInst_take, hfor, Nat.not_le.mpr hwindow, inst_take, state_of_forInst hfor, hres, hbase, hlen, hheld, ne_eq, not_true,
    if_false]
  exact ⟨trivial, tgetD_tset_same ..⟩

/-! ### The dirty-page log (R561-R565) -/

/-- R561-R563: DIRTY_LOG configures the dirty-page log; one named again as it is stays. -/
theorem dirtyLog_configures {s : State} {c : Call} {i k : Nat} {mode : BitVec 2} {base va : Word} {clear : Bool} (hi : i < 1024)
    (hreach : s.reaches (s.authOf c.via) i = true) (hstate : (s.inst i).state ≠ .free) (hmode : mode ≠ 3)
    (hmap : mode = 1 → 19 ≤ k ∧ k ≤ 37) (hring : mode = 2 → 6 ≤ k ∧ k ≤ 20)
    (halign : mode = 1 → base.toNat % 4096 = 0 ∧ va.toNat % (4096 * 2 ^ k) = 0) :
    Does (.dirtyLog c i mode base k va clear) s .ok fun u => (u.inst i).logMode = mode ∧ (u.inst i).logBase = base ∧
      (k < 64 → (u.inst i).logK.toNat = k) ∧ (u.inst i).vaBase = (if mode = 1 then va else 0) ∧
      (u.inst i).overflow = ((s.inst i).overflow && !clear) ∧ (u.inst i).state = (s.inst i).state := by
  refine does_of_fleso rfl (execDirtyLog.eq_1 ..) (fun a => by cases a <;> rfl) fun q _ => ?_
  have hk : ¬((mode = 1 ∧ (k < 19 ∨ 37 < k)) ∨ (mode = 2 ∧ (k < 6 ∨ 20 < k))) := by
    rintro (⟨h, hbad⟩ | ⟨h, hbad⟩)
    · obtain ⟨hlo, hhi⟩ := hmap h
      omega
    · obtain ⟨hlo, hhi⟩ := hring h
      omega
  have hbase : ¬(mode = 1 ∧ base.toNat % 4096 ≠ 0) := fun ⟨h, hbad⟩ => hbad (halign h).1
  have hva : ¬(mode = 1 ∧ va.toNat % (4096 * 2 ^ k) ≠ 0) := fun ⟨h, hbad⟩ => hbad (halign h).2
  simp only [Nat.not_le.mpr hi, reaches_take, hreach, inst_take, hstate, hmode, hk, hbase, hva, Bool.not_true, Bool.false_eq_true, if_false,
    inst_modInst]
  refine ⟨trivial, ?_⟩
  generalize (if mode = 1 then va else 0) = place
  by_cases hsame : (s.inst i).logMode = mode ∧ (s.inst i).logBase = base ∧ (s.inst i).logK.toNat = k ∧ (s.inst i).vaBase = place
  · rw [if_pos hsame]
    obtain ⟨hm, hb, hk', hv⟩ := hsame
    exact ⟨hm, hb, fun _ => hk', hv, rfl, rfl⟩
  · rw [if_neg hsame]
    exact ⟨rfl, rfl, fun hlt => (BitVec.toNat_ofNat k 6).trans (Nat.mod_eq_of_lt hlt), rfl, rfl, rfl⟩

/-- R565: DIRTY_FLUSH has nothing left to write, since a page's entry is written as it is made. -/
theorem dirtyFlush_done {s : State} {c : Call} {i : Nat} (hi : i < 1024) (hreach : s.reaches (s.authOf c.via) i = true)
    (hstate : (s.inst i).state ≠ .free) : Does (.dirtyFlush c i) s .ok fun u => u.insts = s.insts := by
  refine does_of_fleso rfl (execDirtyFlush.eq_1 ..) (fun a => by cases a <;> rfl) fun q _ => ?_
  simp only [Nat.not_le.mpr hi, reaches_take, hreach, inst_take, hstate, Bool.not_true, Bool.false_eq_true, if_false]
  exact ⟨trivial, insts_take s q⟩

/-- Settles O20: clause by clause, each command in the branch that its hypotheses choose; what it names in INST reads back as written. -/
theorem instanceCommandsComplete : Obligations.InstanceCommandsComplete :=
  ⟨fun _ _ _ _ _ _ _ _ _ hport hinst hfree hshaping hlimit hgrants hshapes =>
      instCreate_creates hport hinst hfree hshaping hlimit hgrants hshapes,
    fun _ _ _ _ _ hi hstate hvf => instBind_binds hi hstate hvf,
    fun _ _ _ _ _ hi hstate hrow hgrant hused => instGrant_grants hi hstate hrow hgrant hused,
    fun _ _ _ _ _ hi hcls hentry hstate hshare => shaping_writes hi hcls hentry hstate hshare,
    fun _ _ _ _ _ _ _ hfor hwindow _ _ _ hbase _ _ hmem => windowWrite_writes hfor hwindow (by omega) hbase (by omega) hmem,
    fun _ _ _ _ _ _ _ _ hi hreach hstate hmode hmap hring halign => dirtyLog_configures hi hreach hstate hmode hmap hring halign,
    fun _ _ _ hi hreach hstate => dirtyFlush_done hi hreach hstate⟩

end Sys2Proof.Machine
end

section
/-! PROOFS. The step, and the time clock's cycle on an empty queue (R204, R222): O43. -/

namespace Sys2Proof.Machine

open Sys2Proof

/-- R222: the servo moves the clock by no more than 200 ppm. -/
theorem adjustment_within (t : Time) : -54975581 ≤ t.adjustment ∧ t.adjustment ≤ 54975581 := by
  unfold Time.adjustment clampTo ppm200
  omega

/-- R204, R222: with its fraction, Machine Time moves by 64 ticks and the adjustment in a cycle, short of its wrap. -/
theorem tick_moves_time (s : State) (hwrap : s.time.now.toNat + 128 < 2 ^ 64) :
    (s.tick.time.now.toNat : Int) * 2 ^ 32 + s.tick.time.frac.toNat =
      s.time.now.toNat * 2 ^ 32 + s.time.frac.toNat + 64 * 2 ^ 32 + s.time.adjustment := by
  have hadj := adjustment_within s.time
  have hfrac := s.time.frac.isLt
  show ((s.time.now + BitVec.ofInt 64 (((s.time.frac.toNat : Int) + 64 * 4294967296 + s.time.adjustment) / 4294967296)).toNat : Int) * 2 ^ 32 +
    (BitVec.ofInt 32 (((s.time.frac.toNat : Int) + 64 * 4294967296 + s.time.adjustment) % 4294967296)).toNat = _
  rw [BitVec.toNat_add, BitVec.toNat_ofInt, BitVec.toNat_ofInt]
  omega

/-- Settles O43: both clauses are the two cases of step; a cycle changes Machine Time alone. -/
theorem stepRunsFrontCommand : Obligations.StepRunsFrontCommand := by
  refine ⟨fun s c rest h => ?_, fun s h => ⟨s.tick, ?_, ⟨_, _, rfl⟩, tick_moves_time s, fun x hx => (State.tick_same s).parts x ?_⟩⟩
  · simp only [step, h]
  · simp only [step, h]
  · simpa using hx

end Sys2Proof.Machine
end

section
/-! PROOFS. What the operations of Machine Time do: the clock, detectors, elections, the reference, steps and steering. -/

namespace Sys2Proof.Machine

open Sys2Proof

/-! ### The clock and detectors -/

/-- The module at another instant. -/
def State.atTime (s : State) (n : Ticks) : State := { s with time := { s.time with now := n } }

/-- Moving the clock up changes the instant alone. -/
theorem advance_eq (s : State) (t : Ticks) : s.advance t = s.atTime (s.advance t).time.now := by
  unfold State.advance
  split <;> rfl

@[simp] theorem raised_raiseAt (s : State) (source unit : Nat) :
    (s.raiseAt source unit).quench.raised = s.quench.raised ++ [{ source, unit, time := s.time.now }] := raised_raise ..

theorem raised_subset_pumpStream (s : State) (k : StreamKey) (n : Nat) : s.quench.raised ⊆ (s.pumpStream k n).quench.raised := by
  induction n generalizing s with
  | zero => exact List.Subset.refl _
  | succ n ih =>
    unfold State.pumpStream
    dsimp only
    split
    · exact List.Subset.refl _
    · split
      · exact List.Subset.refl _
      · split
        · rw [raised_raiseAt]
          exact List.subset_append_left ..
        · refine List.Subset.trans ?_ (ih _)
          rw [(State.sendOut_same ..).parts .quench rfl]
          exact List.Subset.refl _

/-- R715: detectors that asserted stay so while a TC3 packet is sent. -/
theorem raised_subset_sendTc3 (s : State) (viaF63 : Bool) (p : Packet) : s.quench.raised ⊆ (s.sendTc3 viaF63 p).quench.raised := by
  unfold State.sendTc3
  dsimp only
  split
  · exact List.Subset.refl _
  · split
    · exact List.Subset.refl _
    · exact raised_subset_pumpStream { s with routing := s.routing.setTx _ } ..

/-! ### Elections (R210-R215) -/

/-- Machine Time but for what an election decides: that is at its reset value. -/
def Time.unelected (t : Time) : Time :=
  { t with servo := .free, ownClass := 3, steps := 15, parent := none, slew := 0, lockRun := 0, unlockRun := 0, classOne := false,
           masterPrio := 0x80, masterId := 0 }

/-- Of t, only what an election decides differs from old, and its parent is the one given. -/
structure Time.Elected (t old : Time) (parent : Option Nat) : Prop where
  parent : t.parent = parent
  unelected : t.unelected = old.unelected

/-- R211-R214: an election puts the chosen parent, and leaves what it does not decide. -/
theorem elected_elected (s : State) : s.elected.Elected s.time (s.chooseParent.map (·.1)) := by
  unfold State.elected
  generalize s.chooseParent = chosen
  extract_lets +onlyGivenNames old pick new servo acquiring held
  have hnew : new.Elected s.time (chosen.map (·.1)) := by
    unfold new
    cases chosen <;> exact ⟨rfl, rfl⟩
  have hacquiring : acquiring.Elected s.time (chosen.map (·.1)) := by
    unfold acquiring
    split <;> exact ⟨hnew.parent, hnew.unelected⟩
  have hheld : held.Elected s.time (chosen.map (·.1)) := by
    unfold held
    split
    · exact ⟨hacquiring.parent, hacquiring.unelected⟩
    · exact hacquiring
  cases chosen with
  | none => exact hheld
  | some _ => exact ⟨hheld.parent, hheld.unelected⟩

theorem time_elect (s : State) : s.elect.time = s.noteClassOne.elected := by
  unfold State.elect
  dsimp only
  split
  · exact time_sendTc3 ..
  · rfl

theorem unelected_elect (s : State) : s.elect.time.unelected = s.time.unelected :=
  (congrArg Time.unelected (time_elect s)).trans (elected_elected s.noteClassOne).unelected

/-- What an election does not decide reads the same after it. -/
theorem read_elect {α : Type} (s : State) (f : Time → α) (hf : ∀ t : Time, f t.unelected = f t := by intro; rfl) :
    f s.elect.time = f s.time := by
  rw [← hf s.elect.time, ← hf s.time, unelected_elect]

theorem idValid_elect (s : State) : s.elect.routing.idValid = s.routing.idValid := (keeps_elect s).read Routing.idValid

theorem qualifying_eq_nil {s : State} (h : ∀ p < 64, s.qualifiesNow p = false) : s.qualifying = [] := by
  refine List.filterMap_eq_nil_iff.mpr fun p hp => ?_
  simp only [h p (List.mem_range.mp hp), Bool.false_eq_true, if_false]

/-- R213: with no qualifying port the election leaves no parent. -/
theorem parent_elect {s : State} (h : ∀ p < 64, s.qualifiesNow p = false) : s.elect.time.parent = none := by
  have hnil : s.noteClassOne.qualifying = [] := qualifying_eq_nil h
  rw [time_elect, (elected_elected _).parent]
  simp only [State.chooseParent, hnil, bestPort, Option.map_none]

theorem raised_subset_elect (s : State) : s.quench.raised ⊆ s.elect.quench.raised := by
  unfold State.elect
  extract_lets +onlyGivenNames noted old new changed u
  have hu : u.quench = s.quench := rfl
  clear_value u
  rw [← hu]
  split
  · exact raised_subset_sendTc3 ..
  · exact List.Subset.refl _

/-! ### The loss of the reference (R208, R214) -/

theorem loseReference_without {s : State} (h : s.time.refValid = false) :
    s.loseReference = { s with time := { s.time with ppsRun := 0 } } := by
  simp only [State.loseReference, h, Bool.false_eq_true, if_false]

/-- What the PPS and the 10 MHz input have shown of the reference: the 10 MHz input's range, the edges in time, the validity (R208). -/
def Time.reference (t : Time) : Bool × Nat × Bool := (t.ref10mOk, t.ppsRun, t.refValid)

theorem reference_eq_iff {t : Time} {ok valid : Bool} {run : Nat} :
    t.reference = (ok, run, valid) ↔ t.ref10mOk = ok ∧ t.ppsRun = run ∧ t.refValid = valid := by
  simp only [Time.reference, Prod.mk.injEq]

theorem reference_elect (s : State) : s.elect.time.reference = s.time.reference := read_elect s Time.reference

/-- R208, R214: a valid reference that is lost counts its edges from none again, with a Notice. -/
theorem loseReference_loses {s : State} (h : s.time.refValid = true) :
    s.loseReference.time.reference = (s.time.ref10mOk, 0, false) ∧ ∃ e ∈ s.loseReference.quench.raised, e.source = 1233 := by
  unfold State.loseReference
  rw [if_pos h]
  refine ⟨?_, { source := 1233, unit := 0, time := s.time.now }, raised_subset_elect _ ?_, rfl⟩
  · rw [reference_elect, State.raiseAt, time_raise]
    rfl
  · rw [raised_raiseAt]
    exact List.mem_append_right _ (List.mem_singleton_self _)

/-! ### Steps and steering (R223, R227, R640) -/

/-- R227, R234: a step sets the instant and is counted; of the reference it shows nothing. -/
theorem stepTime_steps (s : State) (to_ : Ticks) : (s.stepTime to_).time.now = to_ ∧
    (s.stepTime to_).time.stepCount = satInc s.time.stepCount ∧ (s.stepTime to_).time.reference = s.time.reference := by
  unfold State.stepTime
  dsimp only
  split
  · exact ⟨rfl, rfl, rfl⟩
  · rw [time_raiseAt]
    exact ⟨rfl, rfl, rfl⟩

theorem reference_stepTime (s : State) (to_ : Ticks) : (s.stepTime to_).time.reference = s.time.reference := (stepTime_steps s to_).2.2

theorem reference_servoTake (s : State) (o divisor : Int) : (s.servoTake o divisor).time.reference = s.time.reference := by
  unfold State.servoTake
  dsimp only
  split
  · exact reference_stepTime ..
  · rfl

/-- R640: the TIME_SET that waits is answered at its second. -/
def State.answerTimeSet (s : State) : State :=
  let done := s.hearth.running.filter fun c => c.1.opcode == 0x0201
  done.foldl (fun (s : State) (c : QCmd × Ticks) =>
      s.respond c.1.via { opcode := 0x0201, seq := c.1.seq, error := 0, result := leBytes 8 s.time.now.toNat, take := c.2, done := s.time.now })
    { s with time := { s.time with timeSet := none },
             hearth := { s.hearth with running := s.hearth.running.filter fun c => c.1.opcode != 0x0201 } }

/-- What a response leaves, the answer leaves too. -/
theorem read_answerTimeSet {α : Type} (s : State) (f : State → α) (hf : ∀ (u : State) via r, f (u.respond via r) = f u) :
    f s.answerTimeSet = f { s with
      time := { s.time with timeSet := none },
      hearth := { s.hearth with running := s.hearth.running.filter fun c => c.1.opcode != 0x0201 } } := by
  unfold State.answerTimeSet
  extract_lets +onlyGivenNames done
  clear_value done
  generalize ({ s with time := _, hearth := _ } : State) = u
  induction done generalizing u with
  | nil => rfl
  | cons c l ih => exact (ih _).trans (hf ..)

theorem time_answerTimeSet (s : State) : s.answerTimeSet.time = { s.time with timeSet := none } :=
  read_answerTimeSet s State.time time_respond

/-- A response is no command that runs. -/
theorem running_respond (s : State) (via : Arrival) (r : Resp) : (s.respond via r).hearth.running = s.hearth.running := by
  unfold State.respond
  split
  · split
    · split
      · rw [hearth_signal]
        rfl
      · rfl
    · rfl
  · rw [hearth_sendTc3]
  · rw [hearth_sendTc3]
  · rw [hearth_emit]
  · rw [hearth_emit]

theorem running_answerTimeSet (s : State) :
    s.answerTimeSet.hearth.running = s.hearth.running.filter fun c => c.1.opcode != 0x0201 :=
  read_answerTimeSet s (fun u => u.hearth.running) running_respond

/-- R223, R640: what an edge does to the time of a master with a valid reference: TIME_SET's second, else the servo's next offset. -/
def State.steer (s : State) : State :=
  if !(s.time.refValid && s.time.parent.isNone && s.routing.idValid) then s
  else
    match s.time.timeSet with
    | some sec => (s.stepTime (BitVec.ofNat 64 (sec.toNat * secTicks))).answerTimeSet
    | none => s.servoTake (secondOffset s.time.now * servoUnit) 16

theorem reference_steer (s : State) : s.steer.time.reference = s.time.reference := by
  unfold State.steer
  split
  · rfl
  · split
    · rw [time_answerTimeSet]
      exact reference_stepTime ..
    · exact reference_servoTake ..

end Sys2Proof.Machine
end

section
/-! PROOFS. Events of Machine Time (R208-R215, R223, R227, R231, R237, R244, R640, R669): O35. -/

namespace Sys2Proof.Machine

open Sys2Proof

/-! ### PPS edges (R208, R209) -/

/-- The edges in time, up to one that ends periodNs. -/
def Time.edgeRun (t : Time) (periodNs : Nat) : Nat := if 999999000 ≤ periodNs ∧ periodNs ≤ 1000001000 then t.ppsRun + 1 else 1

/-- R208: an edge that leaves the reference is counted; the third in time makes an enabled one valid. -/
def State.countEdge (s : State) (periodNs : Nat) (ok : Bool) : State :=
  { s with time := { s.time with
      ref10mOk := ok, ppsRun := s.time.edgeRun periodNs,
      refValid := s.time.refValid || s.time.refEnable && ok && decide (3 ≤ s.time.edgeRun periodNs) } }

/-- R208, R209: an edge shows the loss of the reference, or is counted, and the election and the steering follow. -/
theorem takePps_eq (s : State) {periodNs tenA tenB : Nat} {ok : Bool}
    (hok : ok = decide (9999900 ≤ (if s.time.usesRefB then tenB else tenA) ∧ (if s.time.usesRefB then tenB else tenA) ≤ 10000100)) :
    s.takePps periodNs tenA tenB =
      if s.time.refValid = true ∧ (ok = false ∨ 1000001000 ≤ periodNs) then
        ({ s with time := { s.time with ref10mOk := ok } }).loseReference
      else (s.countEdge periodNs ok).elect.steer := by
  have hrun : s.time.edgeRun periodNs = if decide (999999000 ≤ periodNs ∧ periodNs ≤ 1000001000) then s.time.ppsRun + 1 else 1 := by
    simp only [Time.edgeRun, decide_eq_true_eq]
  unfold State.takePps
  extract_lets +onlyGivenNames ten tenOk run time judged
  obtain rfl : ok = tenOk := hok
  refine ite_congr ?_ (fun _ => rfl) fun _ => ?_
  · simp only [judged, time, Bool.and_eq_true, Bool.or_eq_true, Bool.not_eq_true', decide_eq_true_eq]
  · extract_lets +onlyGivenNames valid counted elected
    have helected : elected = (s.countEdge periodNs tenOk).elect := by
      unfold State.countEdge
      rw [hrun]
    clear_value elected
    subst helected
    rfl

/-! ### A master's edges (R223, R640) -/

theorem takePps_of_kept {s : State} {periodNs tenA tenB : Nat} (hlo : 9999900 ≤ (if s.time.usesRefB then tenB else tenA))
    (hhi : (if s.time.usesRefB then tenB else tenA) ≤ 10000100) (hperiod : periodNs < 1000001000) :
    s.takePps periodNs tenA tenB = (s.countEdge periodNs true).elect.steer := by
  rw [takePps_eq s (decide_eq_true ⟨hlo, hhi⟩).symm, if_neg]
  rintro ⟨-, hten | hlate⟩
  · cases hten
  · omega

/-- R211, R213: a module with an identity and a valid reference, of which no port qualifies, leads after the election. -/
theorem leads_elect {s : State} (hvalid : s.time.refValid = true) (hid : s.routing.idValid = true)
    (hports : ∀ p < 64, s.qualifiesNow p = false) :
    (s.elect.time.refValid && s.elect.time.parent.isNone && s.elect.routing.idValid) = true := by
  rw [read_elect s Time.refValid, hvalid, parent_elect hports, idValid_elect, hid]
  rfl

section
variable {s : State} (hleads : (s.time.refValid && s.time.parent.isNone && s.routing.idValid) = true)
include hleads

theorem steer_timeSet {sec : Word} (h : s.time.timeSet = some sec) :
    s.steer = (s.stepTime (BitVec.ofNat 64 (sec.toNat * secTicks))).answerTimeSet := by
  simp only [State.steer, hleads, h, Bool.not_true, Bool.false_eq_true, if_false]

theorem steer_servo (h : s.time.timeSet = none) : s.steer = s.servoTake (secondOffset s.time.now * servoUnit) 16 := by
  simp only [State.steer, hleads, h, Bool.not_true, Bool.false_eq_true, if_false]

end

/-- R223: an offset that calls for no step moves the filter, and by it frequency and slew; the instant stands. -/
theorem servoTake_steers {s : State} {o divisor : Int} (h : (s.time.filt + (o - s.time.filt) / 8).natAbs ≤ 64000 * servoUnit) :
    (s.servoTake o divisor).time.filt = s.time.filt + (o - s.time.filt) / 8 ∧
      (s.servoTake o divisor).time.freq = clampTo ppm200 (s.time.freq + (s.time.filt + (o - s.time.filt) / 8) / divisor) ∧
      (s.servoTake o divisor).time.slew = clampTo ppm100 ((s.time.filt + (o - s.time.filt) / 8) / 1000) ∧
      (s.servoTake o divisor).time.now = s.time.now := by
  unfold State.servoTake
  dsimp only
  rw [if_neg (Int.not_lt.mpr h)]
  exact ⟨rfl, rfl, rfl, rfl⟩

section
variable {s u : State} {periodNs tenA tenB : Nat} (hu : u = s.takePps periodNs tenA tenB)
include hu

/-- R208: what an edge shows of the reference. -/
theorem takePps_judges {ok : Bool}
    (hok : ok = decide (9999900 ≤ (if s.time.usesRefB then tenB else tenA) ∧ (if s.time.usesRefB then tenB else tenA) ≤ 10000100)) :
    u.time.ref10mOk = ok ∧
      if s.time.refValid = true ∧ (ok = false ∨ 1000001000 ≤ periodNs) then
        u.time.refValid = false ∧ u.time.ppsRun = 0 ∧ ∃ e ∈ u.quench.raised, e.source = 1233
      else u.time.ppsRun = s.time.edgeRun periodNs ∧
        (u.time.refValid = true ↔ s.time.refValid = true ∨ s.time.refEnable = true ∧ ok = true ∧ 3 ≤ s.time.edgeRun periodNs) := by
  rw [takePps_eq s hok] at hu
  by_cases hlost : s.time.refValid = true ∧ (ok = false ∨ 1000001000 ≤ periodNs)
  · rw [if_pos hlost] at hu ⊢
    obtain ⟨href, hnotice⟩ := loseReference_loses (s := { s with time := { s.time with ref10mOk := ok } }) hlost.1
    rw [← hu] at href hnotice
    obtain ⟨hten, hrun, hvalid⟩ := reference_eq_iff.mp href
    exact ⟨hten, hvalid, hrun, hnotice⟩
  · rw [if_neg hlost] at hu ⊢
    have href := (reference_steer (s.countEdge periodNs ok).elect).trans (reference_elect _)
    rw [← hu] at href
    obtain ⟨hten, hrun, hvalid⟩ := reference_eq_iff.mp href
    refine ⟨hten, hrun, ?_⟩
    rw [hvalid]
    simp only [State.countEdge, Bool.or_eq_true, Bool.and_eq_true, decide_eq_true_eq, and_assoc]

variable (hvalid : s.time.refValid = true) (hid : s.routing.idValid = true) (hlo : 9999900 ≤ (if s.time.usesRefB then tenB else tenA))
  (hhi : (if s.time.usesRefB then tenB else tenA) ≤ 10000100) (hperiod : periodNs < 1000001000)
  (hports : ∀ p < 64, s.qualifiesNow p = false)
include hvalid hid hlo hhi hperiod hports

/-- R640: a master's edge carries out the TIME_SET that waits. -/
theorem takePps_sets_time {sec : Nat} (hset : s.time.timeSet.map (·.toNat) = some sec) :
    u.time.now = BitVec.ofNat 64 (sec * secTicks) ∧ u.time.timeSet = none ∧ (∀ x ∈ u.hearth.running, x.1.opcode ≠ 0x0201) ∧
      u.time.stepCount = satInc s.time.stepCount := by
  obtain ⟨w, hw, rfl⟩ := Option.map_eq_some_iff.mp hset
  have hleads := leads_elect (s := s.countEdge periodNs true) (by rw [State.countEdge, hvalid, Bool.true_or]) hid hports
  obtain ⟨hnow, hcount, -⟩ := stepTime_steps (s.countEdge periodNs true).elect (BitVec.ofNat 64 (w.toNat * secTicks))
  rw [hu, takePps_of_kept hlo hhi hperiod, steer_timeSet hleads ((read_elect _ Time.timeSet).trans hw), time_answerTimeSet,
    running_answerTimeSet]
  refine ⟨hnow, rfl, fun x hx => ?_, hcount.trans (congrArg satInc (read_elect _ Time.stepCount))⟩
  simpa using (List.mem_filter.mp hx).2

/-- R209, R223: another edge of a master's steers it by the offset of the nearest second. -/
theorem takePps_steers {o : Int} (hset : s.time.timeSet = none) (ho : o = secondOffset s.time.now * servoUnit)
    (hsmall : (s.time.filt + (o - s.time.filt) / 8).natAbs ≤ 64000 * servoUnit) :
    u.time.filt = s.time.filt + (o - s.time.filt) / 8 ∧ u.time.freq = clampTo ppm200 (s.time.freq + u.time.filt / 16) ∧
      u.time.slew = clampTo ppm100 (u.time.filt / 1000) ∧ u.time.now = s.time.now := by
  have hleads := leads_elect (s := s.countEdge periodNs true) (by rw [State.countEdge, hvalid, Bool.true_or]) hid hports
  have hnow : (s.countEdge periodNs true).elect.time.now = s.time.now := read_elect _ Time.now
  have hfilt : (s.countEdge periodNs true).elect.time.filt = s.time.filt := read_elect _ Time.filt
  have hfreq : (s.countEdge periodNs true).elect.time.freq = s.time.freq := read_elect _ Time.freq
  rw [takePps_of_kept hlo hhi hperiod, steer_servo hleads ((read_elect _ Time.timeSet).trans hset), hnow, ← ho] at hu
  rw [← hfilt] at hsmall
  obtain ⟨hf, hq, hs, hn⟩ := servoTake_steers (divisor := 16) hsmall
  rw [hu, hf, hq, hs, hn, hfilt, hfreq, hnow]
  exact ⟨rfl, rfl, rfl, rfl⟩

end

/-- A PPS edge finds the module with its clock moved up to it. -/
theorem ppsEdge_completes {s : State} {now : Ticks} {periodNs tenA tenB : Nat} {P : State → Prop}
    (h : ∀ u, u = (s.atTime (s.advance now).time.now).takePps periodNs tenA tenB → P u) :
    ∃ u : State, exec (.ppsEdge now periodNs tenA tenB) s = .next u.firePassed ∧ P u :=
  ⟨(s.advance now).takePps periodNs tenA tenB, rfl, h _ (by rw [← advance_eq])⟩

/-! ### References (R208, R214, R669) -/

theorem timeRefLoss_eq (s : State) (ten : Bool) : exec (.timeRefLoss ten) s =
    .next ({ s with time := { s.time with ref10mOk := s.time.ref10mOk && !ten } } : State).loseReference := by
  cases ten with
  | true => rw [Bool.not_true, Bool.and_false]; rfl
  | false => rw [Bool.not_false, Bool.and_true]; rfl

/-- R208, R214: a valid reference is lost. -/
theorem timeRefLoss_loses {s : State} {ten : Bool} (h : s.time.refValid = true) : Completes (exec (.timeRefLoss ten) s) fun t =>
    t.time.refValid = false ∧ t.time.ppsRun = 0 ∧ t.time.ref10mOk = (s.time.ref10mOk && !ten) ∧ ∃ e ∈ t.quench.raised, e.source = 1233 := by
  obtain ⟨href, hnotice⟩ := loseReference_loses (s := { s with time := { s.time with ref10mOk := s.time.ref10mOk && !ten } }) h
  obtain ⟨hten, hrun, hvalid⟩ := reference_eq_iff.mp href
  exact ⟨_, timeRefLoss_eq s ten, hvalid, hrun, hten, hnotice⟩

/-- Machine Time without lane reference REFB, or REFA. -/
def Time.withoutRef (t : Time) (b : Bool) : Time := if b then { t with refBValid := false } else { t with refAValid := false }

theorem refValid_withoutRef (t : Time) (b : Bool) : (if b then (t.withoutRef b).refBValid else (t.withoutRef b).refAValid) = false := by
  cases b <;> rfl

theorem usesRefB_withoutRef (t : Time) (b : Bool) : (t.withoutRef b).usesRefB = t.usesRefB := by
  cases b <;> rfl

theorem withoutRef_both {t : Time} {b : Bool} (hother : (if b then t.refAValid else t.refBValid) = false) :
    (t.withoutRef b).refAValid = false ∧ (t.withoutRef b).refBValid = false := by
  cases b with
  | true => exact ⟨hother, rfl⟩
  | false => exact ⟨rfl, hother⟩

/-- R669: with the other reference lost too Quench is told; else the lanes move to it, or are there. -/
theorem refClockLoss_eq (s : State) (b : Bool) : exec (.refClockLoss b) s =
    if (if b then s.time.refAValid else s.time.refBValid) = false then .next (({ s with time := s.time.withoutRef b } : State).raiseAt 1236 0)
    else if s.time.usesRefB = b then
      .next (({ s with time := { s.time.withoutRef b with usesRefB := !b } } : State).raiseAt (if b then 1235 else 1234) 0)
    else .next { s with time := s.time.withoutRef b } := by
  show execRefClockLoss b s = _
  unfold execRefClockLoss
  refine ite_congr ?_ (fun _ => rfl) fun _ => ite_congr ?_ (fun _ => rfl) fun _ => rfl
  · cases b <;> simp
  · cases b <;> simp

section
variable {s : State} {b : Bool}

theorem refClockLoss_moves (hother : (if b then s.time.refAValid else s.time.refBValid) = true) (huse : s.time.usesRefB = b) :
    Completes (exec (.refClockLoss b) s) fun t => (if b then t.time.refBValid else t.time.refAValid) = false ∧ t.time.usesRefB = (!b) ∧
      ∃ e : QEvent, e.source = (if b then 1235 else 1234) ∧ t.quench.raised = s.quench.raised ++ [e] := by
  refine ⟨_, (refClockLoss_eq s b).trans ((if_neg (by rw [hother]; nofun)).trans (if_pos huse)), ?_, ?_, _, ?_, raised_raiseAt ..⟩
  · rw [time_raiseAt]
    exact refValid_withoutRef s.time b
  · rw [time_raiseAt]
  · rfl

theorem refClockLoss_stays (hother : (if b then s.time.refAValid else s.time.refBValid) = true) (huse : s.time.usesRefB = !b) :
    Completes (exec (.refClockLoss b) s) fun t => (if b then t.time.refBValid else t.time.refAValid) = false ∧
      t.time.usesRefB = s.time.usesRefB ∧ t.quench = s.quench := by
  have hstay : s.time.usesRefB ≠ b := by
    rw [huse]
    cases b <;> decide
  exact ⟨_, (refClockLoss_eq s b).trans ((if_neg (by rw [hother]; nofun)).trans (if_neg hstay)), refValid_withoutRef ..,
    usesRefB_withoutRef .., rfl⟩

theorem refClockLoss_both (hother : (if b then s.time.refAValid else s.time.refBValid) = false) :
    Completes (exec (.refClockLoss b) s) fun t => t.time.refAValid = false ∧ t.time.refBValid = false ∧
      ∃ e : QEvent, e.source = 1236 ∧ t.quench.raised = s.quench.raised ++ [e] := by
  obtain ⟨hA, hB⟩ := withoutRef_both hother
  exact ⟨_, (refClockLoss_eq s b).trans (if_pos hother), (congrArg Time.refAValid (time_raiseAt ..)).trans hA,
    (congrArg Time.refBValid (time_raiseAt ..)).trans hB, _, rfl, raised_raiseAt ..⟩

/-- R669: a reference that returns is valid, and the lanes stay where they are. -/
theorem refClockReturn_stays : Completes (exec (.refClockReturn b) s) fun t =>
    (if b then t.time.refBValid else t.time.refAValid) = true ∧ t.time.usesRefB = s.time.usesRefB := by
  refine ⟨_, rfl, ?_⟩
  cases b <;> exact ⟨rfl, rfl⟩

end

/-! ### Announcements, pulses, Strokes (R215, R231, R237, R244) -/

/-- Of Machine Time, moving the clock up leaves what does not read the instant. -/
theorem read_advance {α : Type} (s : State) (t : Ticks) (f : Time → α) (hf : ∀ (u : Time) n, f { u with now := n } = f u := by intros; rfl) :
    f (s.advance t).time = f s.time := (congrArg (fun u : State => f u.time) (advance_eq s t)).trans (hf ..)

theorem timeAnnounce_reports {s : State} {port : Nat} {p : Packet} (harrived : s.hasArrival p = true) (htype : p.pktType = 0x13) :
    Completes (exec (.timeAnnounce port p) s) fun t => t.out = s.out ++ [.report p] ∧ t.routing = (s.takeArrival p).routing := by
  refine ⟨_, if_neg ?_, rfl, routing_emit ..⟩
  rw [harrived, htype]
  decide

theorem timeOutPulse_pulses {s : State} {now : Ticks} (h : s.time.pulses < (s.advance now).time.now.toNat / secTicks) :
    Completes (exec (.timeOutPulse now) s) fun t => t.time.pulses = (s.advance now).time.now.toNat / secTicks ∧
      t.out = s.out ++ [.timeOut (s.advance now).time.now] := by
  rw [← read_advance s now Time.pulses] at h
  refine ⟨_, if_pos h, ?_, congrArg (· ++ [Output.timeOut _]) (out_advance s now)⟩
  rw [time_emit]

theorem strokeBoundary_notes (s : State) (now : Ticks) : Completes (exec (.strokeBoundary now) s) fun t =>
    t.time = { (s.advance now).time with strokeIdx := (s.time.strokeAt (s.advance now).time.now).map (·.1) } := by
  refine ⟨_, rfl, ?_⟩
  rw [← read_advance s now (fun t : Time => t.strokeAt (s.advance now).time.now)]

theorem ceilDiv_le {a c k : Nat} (hc : 0 < c) (h : a ≤ k * c) : ceilDiv a c ≤ k := by
  rw [ceilDiv, Nat.div_le_iff_le_mul_add_pred hc, Nat.mul_comm]
  omega

/-- R244: the first cycle boundary at or after an instant is no later than any other that is. -/
theorem first_boundary_le {at_ base c now : Nat}
    (h : c = 0 ∧ at_ ≤ now ∨ 0 < c ∧ ∃ k, at_ ≤ base + k * c ∧ base + k * c ≤ now) :
    (if c = 0 ∨ at_ ≤ base then max at_ (if c = 0 then 0 else base) else base + ceilDiv (at_ - base) c * c) ≤ now := by
  rcases h with ⟨rfl, hnow⟩ | ⟨hc, k, hat, hnow⟩
  · simpa using hnow
  · by_cases hbase : at_ ≤ base
    · rw [if_pos (.inr hbase), if_neg (Nat.ne_of_gt hc), Nat.max_eq_right hbase]
      omega
    · rw [if_neg (not_or.mpr ⟨Nat.ne_of_gt hc, hbase⟩)]
      have hle : ceilDiv (at_ - base) c * c ≤ k * c := Nat.mul_le_mul_right c (ceilDiv_le hc (by omega))
      omega

theorem strokeSwapFire_swaps {s : State} {now : Ticks} (hswap : s.time.strokeSwap = true)
    (hdue : strokeCycle s.time.strokes = 0 ∧ s.time.strokeSwapAt.toNat ≤ (s.advance now).time.now.toNat ∨ 0 < strokeCycle s.time.strokes ∧
      ∃ k, s.time.strokeSwapAt.toNat ≤ s.time.strokeBase.toNat + k * strokeCycle s.time.strokes ∧
        s.time.strokeBase.toNat + k * strokeCycle s.time.strokes ≤ (s.advance now).time.now.toNat) :
    Completes (exec (.strokeSwapFire now) s) fun t => t.time.strokeSwap = false ∧ t.time.strokeBank = (!s.time.strokeBank) ∧
      t.time.strokeBase = s.time.strokeBaseOther ∧ t.time.strokeBaseOther = s.time.strokeBase := by
  rw [← read_advance s now Time.strokeSwap] at hswap
  rw [← read_advance s now Time.strokes, ← read_advance s now Time.strokeSwapAt, ← read_advance s now Time.strokeBase] at hdue
  refine ⟨_, if_pos ?_, rfl, congrArg not (read_advance s now Time.strokeBank), read_advance s now Time.strokeBaseOther,
    read_advance s now Time.strokeBase⟩
  rw [hswap, Bool.true_and, decide_eq_true_eq]
  exact first_boundary_le hdue

/-- Settles O35: clause by clause; a PPS edge by what it shows of the reference, the election, and the steering that follow. -/
theorem timeEventsComplete : Obligations.TimeEventsComplete :=
  ⟨fun s now _ _ _ _ hok => ppsEdge_completes fun _ hu => takePps_judges (s := s.atTime (s.advance now).time.now) hu hok,
    fun _ _ _ _ _ _ hvalid hid hlo hhi hperiod hports hset => ppsEdge_completes fun _ hu =>
      takePps_sets_time hu hvalid hid hlo hhi hperiod hports hset,
    fun _ _ _ _ _ _ hvalid hid hlo hhi hperiod hports hset ho hsmall => ppsEdge_completes fun _ hu =>
      takePps_steers hu hvalid hid hlo hhi hperiod hports hset ho hsmall,
    fun _ _ h => timeRefLoss_loses h,
    fun s ten h => ⟨_, timeRefLoss_eq s ten, loseReference_without h⟩,
    fun _ _ hother huse => refClockLoss_moves hother huse,
    fun _ _ hother huse => refClockLoss_stays hother huse,
    fun _ _ hother => refClockLoss_both hother,
    fun _ _ => refClockReturn_stays,
    fun _ _ _ harrived htype => timeAnnounce_reports harrived htype,
    fun _ _ h => timeOutPulse_pulses h,
    strokeBoundary_notes,
    fun _ _ hswap hdue => strokeSwapFire_swaps hswap hdue⟩

end Sys2Proof.Machine
end

section
/-! PROOFS. The frame of every command (R265, R628): O46. -/

namespace Sys2Proof.Machine

open Sys2Proof

theorem SameNext.within {V W : List Part} {o : Host.Outcome State Fault Refusal} {s : State} (h : SameNext V o s) (hv : subParts V W = true) :
    SameNext W o s := h.step hv (Same.refl W s)

/-- The frame of every command, by the frame of its own meaning. -/
theorem exec_same (i : Instr) (s : State) : SameNext (changes i) (exec i s) s :=
  match i with
  | .registerWriteUndefined fn offset => .within (execRegisterWriteUndefined_same fn offset s) rfl
  | .wqDoorbell fn queue index reserved whole => .within (execWqDoorbell_same fn queue index reserved whole s) rfl
  | .cqDoorbell fn ring index reserved whole => .within (execCqDoorbell_same fn ring index reserved whole s) rfl
  | .mboxSubmit fn slot value whole req => .within (execMboxSubmit_same fn slot value whole req s) rfl
  | .mboxRelease fn slot value whole => .within (execMboxRelease_same fn slot value whole s) rfl
  | .mboxWithdraw fn slot value whole => .within (execMboxWithdraw_same fn slot value whole s) rfl
  | .evHeadWrite fn head => .within (execEvHeadWrite_same fn head s) rfl
  | .msixUnmask fn vector => .within (execMsixUnmask_same fn vector s) rfl
  | .identify c => .within (execIdentify_same c s) rfl
  | .regRead c block index offset count => .within (execRegRead_same c block index offset count s) rfl
  | .regWrite c block index offset value mask => .within (execRegWrite_same c block index offset value mask s) rfl
  | .stageOpen c mib => .within (execStageOpen_same c mib s) rfl
  | .stageWrite c handle offset data => .within (execStageWrite_same c handle offset data s) rfl
  | .stageClose c handle => .within (execStageClose_same c handle s) rfl
  | .modeRequest c word => .within (execModeRequest_same c word s) rfl
  | .reportRead c offset length => .within (execReportRead_same c offset length s) rfl
  | .machineIdentity c id pMinus1 gMinus1 mMinus1 ws wg => .within (execMachineIdentity_same c id pMinus1 gMinus1 mMinus1 ws wg s) rfl
  | .portReassign c word => .within (execPortReassign_same c word s) rfl
  | .routeLoad c gen adopt ref => .within (execRouteLoad_same c gen adopt ref s) rfl
  | .routeSwap c gen at_ cancel => .within (execRouteSwap_same c gen at_ cancel s) rfl
  | .routeCfg c derailleur e2e => .within (execRouteCfg_same c derailleur e2e s) rfl
  | .treeWrite c tree entry => .within (execTreeWrite_same c tree entry s) rfl
  | .flowCfg c tile credit bellows sched => .within (execFlowCfg_same c tile credit bellows sched s) rfl
  | .sampling c queues epochNs enable ringEntries => .within (execSampling_same c queues epochNs enable ringEntries s) rfl
  | .holeSet c first count set => .within (execHoleSet_same c first count set s) rfl
  | .timeSet c seconds => .within (execTimeSet_same c seconds s) rfl
  | .timeCfg c word => .within (execTimeCfg_same c word s) rfl
  | .timePort c port asym => .within (execTimePort_same c port asym s) rfl
  | .strokeLoad c base ref => .within (execStrokeLoad_same c base ref s) rfl
  | .strokeSwap c at_ cancel => .within (execStrokeSwap_same c at_ cancel s) rfl
  | .strokeAdmit c ref => .within (execStrokeAdmit_same c ref s) rfl
  | .strokeEnable c enable => .within (execStrokeEnable_same c enable s) rfl
  | .instCreate c port inst grants shaping strokeClass eagerLimit => .within (execInstCreate_same c port inst grants shaping strokeClass eagerLimit s) rfl
  | .instBind c inst vf vectors => .within (execInstBind_same c inst vf vectors s) rfl
  | .instGrant c inst changes => .within (execInstGrant_same c inst changes s) rfl
  | .instReset c word => .within (execInstReset_same c word s) rfl
  | .instReopen c inst => .within (execInstReopen_same c inst s) rfl
  | .instQuery c word => .within (execInstQuery_same c word s) rfl
  | .instDestroy c inst => .within (execInstDestroy_same c inst s) rfl
  | .instQuiesce c inst => .within (execInstQuiesce_same c inst s) rfl
  | .instExport c inst => .within (execInstExport_same c inst s) rfl
  | .instImport c inst ref => .within (execInstImport_same c inst ref s) rfl
  | .dirtyLog c inst mode base k vaBase clearOverflow => .within (execDirtyLog_same c inst mode base k vaBase clearOverflow s) rfl
  | .dirtyFlush c inst => .within (execDirtyFlush_same c inst s) rfl
  | .segmentExpose c segment heads => .within (execSegmentExpose_same c segment heads s) rfl
  | .hostCfg c port word => .within (execHostCfg_same c port word s) rfl
  | .shaping c inst cls entry => .within (execShaping_same c inst cls entry s) rfl
  | .wqCreate c inst queue sizeCode base wb ring => .within (execWqCreate_same c inst queue sizeCode base wb ring s) rfl
  | .cqCreate c inst ring sizeCode base wb vector irqEnable => .within (execCqCreate_same c inst ring sizeCode base wb vector irqEnable s) rfl
  | .wqRestart c queue skip => .within (execWqRestart_same c queue skip s) rfl
  | .cqRestart c ring => .within (execCqRestart_same c ring s) rfl
  | .queueStatus c isRing n clear => .within (execQueueStatus_same c isRing n clear s) rfl
  | .queueDestroy c isRing n => .within (execQueueDestroy_same c isRing n s) rfl
  | .cqSignal c ring irqEnable vector => .within (execCqSignal_same c ring irqEnable vector s) rfl
  | .ctxCreate c inst slot postedMax unexpMax notify cookie hostArea hostAreaLen cellLimit moduleLimit => .within (execCtxCreate_same c inst slot postedMax unexpMax notify cookie hostArea hostAreaLen cellLimit moduleLimit s) rfl
  | .ctxDestroy c inst slot => .within (execCtxDestroy_same c inst slot s) rfl
  | .matchCfg c word instCfg => .within (execMatchCfg_same c word instCfg s) rfl
  | .windowWrite c inst window entry => .within (execWindowWrite_same c inst window entry s) rfl
  | .tallyAlloc c inst slot countMode notify cookie mirror => .within (execTallyAlloc_same c inst slot countMode notify cookie mirror s) rfl
  | .tallyArm c inst slot threshold => .within (execTallyArm_same c inst slot threshold s) rfl
  | .tallyRead c inst slot => .within (execTallyRead_same c inst slot s) rfl
  | .tallyFree c inst slot => .within (execTallyFree_same c inst slot s) rfl
  | .remoteCfg c word => .within (execRemoteCfg_same c word s) rfl
  | .groupCreate c group listAddr count tc treeA treeB rootHint fanMax pinned => .within (execGroupCreate_same c group listAddr count tc treeA treeB rootHint fanMax pinned s) rfl
  | .groupDestroy c group => .within (execGroupDestroy_same c group s) rfl
  | .collCfg c word => .within (execCollCfg_same c word s) rfl
  | .placeHint c hint => .within (execPlaceHint_same c hint s) rfl
  | .placeLog c enable ringEntries => .within (execPlaceLog_same c enable ringEntries s) rfl
  | .placeSummary c => .within (execPlaceSummary_same c s) rfl
  | .strikerCfg c word => .within (execStrikerCfg_same c word s) rfl
  | .transDomain c domain format root => .within (execTransDomain_same c domain format root s) rfl
  | .transInval c domain whole ranges => .within (execTransInval_same c domain whole ranges s) rfl
  | .transLock c domain va pages write => .within (execTransLock_same c domain va pages write s) rfl
  | .transUnlock c domain va pages => .within (execTransUnlock_same c domain va pages s) rfl
  | .deviceRange c port index base pages => .within (execDeviceRange_same c port index base pages s) rfl
  | .faultLog c domain base size => .within (execFaultLog_same c domain base size s) rfl
  | .drawChannel c channel owner maxPriority free => .within (execDrawChannel_same c channel owner maxPriority free s) rfl
  | .drawLoad c args ring cookie => .within (execDrawLoad_same c args ring cookie s) rfl
  | .drawStop c channel => .within (execDrawStop_same c channel s) rfl
  | .viseClaim c vise => .within (execViseClaim_same c vise s) rfl
  | .viseRelease c vise => .within (execViseRelease_same c vise s) rfl
  | .quenchRead c => .within (execQuenchRead_same c s) rfl
  | .quenchClear c flags sources => .within (execQuenchClear_same c flags sources s) rfl
  | .quenchPolicy c word policy => .within (execQuenchPolicy_same c word policy s) rfl
  | .inject c ctrl at_ => .within (execInject_same c ctrl at_ s) rfl
  | .counterSelect c word0 word1 word2 => .within (execCounterSelect_same c word0 word1 word2 s) rfl
  | .counterRead c first count => .within (execCounterRead_same c first count s) rfl
  | .rolemapLoad c ref => .within (execRolemapLoad_same c ref s) rfl
  | .fwStage c ref => .within (execFwStage_same c ref s) rfl
  | .fwActivate c live => .within (execFwActivate_same c live s) rfl
  | .mgmtCmd port p => .within (execMgmtCmd_same port p s) rfl
  | .mgmtResp port p => .within (execMgmtResp_same port p s) rfl
  | .mctpRequest eid req => .within (execMctpRequest_same eid req s) rfl
  | .fecFrameReceive port frame => .within (execFecFrameReceive_same port frame s) rfl
  | .freewheelBlock port fill => .within (execFreewheelBlock_same port fill s) rfl
  | .trainingBlock port lane block => .within (execTrainingBlock_same port lane block s) rfl
  | .laneLockLoss port lane => .within (execLaneLockLoss_same port lane s) rfl
  | .trainingPhaseTimeout port => .within (execTrainingPhaseTimeout_same port s) rfl
  | .trainingBackoffExpiry port => .within (execTrainingBackoffExpiry_same port s) rfl
  | .rateStepSwitch port => .within (execRateStepSwitch_same port s) rfl
  | .rateQualifyEnd port uncorrectable ratioExceeded eyeWidths => .within (execRateQualifyEnd_same port uncorrectable ratioExceeded eyeWidths s) rfl
  | .eyeScanComplete port lane width height => .within (execEyeScanComplete_same port lane width height s) rfl
  | .marginCriticalExpiry port lane => .within (execMarginCriticalExpiry_same port lane s) rfl
  | .shodSet port => .within (execShodSet_same port s) rfl
  | .soleUseClear port => .within (execSoleUseClear_same port s) rfl
  | .shoeRequestSend port => .within (execShoeRequestSend_same port s) rfl
  | .shoeBeginFrame port => .within (execShoeBeginFrame_same port s) rfl
  | .shoeStepRelock port rxShift txShift => .within (execShoeStepRelock_same port rxShift txShift s) rfl
  | .shoeStepTimeout port => .within (execShoeStepTimeout_same port s) rfl
  | .shoeWaitExpiry port => .within (execShoeWaitExpiry_same port s) rfl
  | .shoeRetryTimer port => .within (execShoeRetryTimer_same port s) rfl
  | .idleRunStart port => .within (execIdleRunStart_same port s) rfl
  | .widthRestore port => .within (execWidthRestore_same port s) rfl
  | .replayTimeout port now => .within (execReplayTimeout_same port now s) rfl
  | .creditDecay port => .within (execCreditDecay_same port s) rfl
  | .bellowsUpdate => .within (execBellowsUpdate_same s) rfl
  | .congestionSummarySend => .within (execCongestionSummarySend_same s) rfl
  | .timeExchangeSend port => .within (execTimeExchangeSend_same port s) rfl
  | .tc3ChunkReportSend port => .within (execTc3ChunkReportSend_same port s) rfl
  | .helloSend port => .within (execHelloSend_same port s) rfl
  | .exchangeIntervalEnd port => .within (execExchangeIntervalEnd_same port s) rfl
  | .injectionDecision tc => .within (execInjectionDecision_same tc s) rfl
  | .portEgressDecision port => .within (execPortEgressDecision_same port s) rfl
  | .routeWaitExpiry now => .within (execRouteWaitExpiry_same now s) rfl
  | .routeSwapFire now => .within (execRouteSwapFire_same now s) rfl
  | .bankRetire now => .within (execBankRetire_same now s) rfl
  | .tc3ResendTimeout key now => .within (execTc3ResendTimeout_same key now s) rfl
  | .e2eAck port p => .within (execE2eAck_same port p s) rfl
  | .e2eAckTimer key => .within (execE2eAckTimer_same key s) rfl
  | .tc3StreamSyncRetry key => .within (execTc3StreamSyncRetry_same key s) rfl
  | .sampleEpoch now => .within (execSampleEpoch_same now s) rfl
  | .ppsEdge now periodNs tenA tenB => .within (execPpsEdge_same now periodNs tenA tenB s) rfl
  | .timeRefLoss tenMhz => .within (execTimeRefLoss_same tenMhz s) rfl
  | .refClockLoss refB => .within (execRefClockLoss_same refB s) rfl
  | .timeAnnounce port p => .within (execTimeAnnounce_same port p s) rfl
  | .timeOutPulse now => .within (execTimeOutPulse_same now s) rfl
  | .strokeBoundary now => .within (execStrokeBoundary_same now s) rfl
  | .strokeSwapFire now => .within (execStrokeSwapFire_same now s) rfl
  | .cxlLinkUp port allowed width mem ready => .within (execCxlLinkUp_same port allowed width mem ready s) rfl
  | .cxlConfigRequest port vf req => .within (execCxlConfigRequest_same port vf req s) rfl
  | .h2dSnoop port line => .within (execH2dSnoop_same port line s) rfl
  | .cxlMemRead head foreign window offset => .within (execCxlMemRead_same head foreign window offset s) rfl
  | .cxlMemWrite head foreign window offset data => .within (execCxlMemWrite_same head foreign window offset data s) rfl
  | .birsp head line => .within (execBirsp_same head line s) rfl
  | .biTimeout head => .within (execBiTimeout_same head s) rfl
  | .d2hTimeout port tag silent => .within (execD2hTimeout_same port tag silent s) rfl
  | .hostLinkDown port => .within (execHostLinkDown_same port s) rfl
  | .hotReset port => .within (execHotReset_same port s) rfl
  | .ideFailure port => .within (execIdeFailure_same port s) rfl
  | .bmeClear port cache => .within (execBmeClear_same port cache s) rfl
  | .portPresent port => .within (execPortPresent_same port s) rfl
  | .flrVf port vf => .within (execFlrVf_same port vf s) rfl
  | .flrPf port => .within (execFlrPf_same port s) rfl
  | .perstN port high => .within (execPerstN_same port high s) rfl
  | .hrefclkLoss port => .within (execHrefclkLoss_same port s) rfl
  | .gpfPhase1 port => .within (execGpfPhase1_same port s) rfl
  | .gpfPhase2 port => .within (execGpfPhase2_same port s) rfl
  | .descriptorFetch wq => .within (execDescriptorFetch_same wq s) rfl
  | .descriptorReadComplete wq res => .within (execDescriptorReadComplete_same wq res s) rfl
  | .nop wq => .within (execNop_same wq s) rfl
  | .put wq => .within (execPut_same wq s) rfl
  | .get wq => .within (execGet_same wq s) rfl
  | .atomic wq => .within (execAtomic_same wq s) rfl
  | .msgSend wq => .within (execMsgSend_same wq s) rfl
  | .msgRecv wq acc => .within (execMsgRecv_same wq acc s) rfl
  | .msgCancel wq => .within (execMsgCancel_same wq s) rfl
  | .collective wq => .within (execCollective_same wq s) rfl
  | .drawRun wq => .within (execDrawRun_same wq s) rfl
  | .tallyAdd wq => .within (execTallyAdd_same wq s) rfl
  | .recordWriteComplete ring => .within (execRecordWriteComplete_same ring s) rfl
  | .writeBackWord isRing n => .within (execWriteBackWord_same isRing n s) rfl
  | .msgEager p acc => .within (execMsgEager_same p acc s) rfl
  | .msgRts p => .within (execMsgRts_same p s) rfl
  | .orderQueryTimer key order now => .within (execOrderQueryTimer_same key order now s) rfl
  | .orderAbandon key order now => .within (execOrderAbandon_same key order now s) rfl
  | .putPacket p acc => .within (execPutPacket_same p acc s) rfl
  | .getReq p acc => .within (execGetReq_same p acc s) rfl
  | .getResp p acc => .within (execGetResp_same p acc s) rfl
  | .atomicReq p old oldPoison acc => .within (execAtomicReq_same p old oldPoison acc s) rfl
  | .atomicResp p acc => .within (execAtomicResp_same p acc s) rfl
  | .response p => .within (execResponse_same p s) rfl
  | .fault p => .within (execFault_same p s) rfl
  | .operationEnd src tag => .within (execOperationEnd_same src tag s) rfl
  | .tallyMirrorWrite tally acc => .within (execTallyMirrorWrite_same tally acc s) rfl
  | .tombstoneExpiry src tag now => .within (execTombstoneExpiry_same src tag now s) rfl
  | .openEntryExpiry src tag now => .within (execOpenEntryExpiry_same src tag now s) rfl
  | .opTimeout src tag now => .within (execOpTimeout_same src tag now s) rfl
  | .multicastPutSettle src tag now => .within (execMulticastPutSettle_same src tag now s) rfl
  | .collData p acc => .within (execCollData_same p acc s) rfl
  | .collInstall p => .within (execCollInstall_same p s) rfl
  | .collSwitch p => .within (execCollSwitch_same p s) rfl
  | .collStall p => .within (execCollStall_same p s) rfl
  | .collProbe p => .within (execCollProbe_same p s) rfl
  | .collProbeAnswer p => .within (execCollProbeAnswer_same p s) rfl
  | .collRestart p => .within (execCollRestart_same p s) rfl
  | .collFinalQuery p => .within (execCollFinalQuery_same p s) rfl
  | .collFinalAnswer p => .within (execCollFinalAnswer_same p s) rfl
  | .collAbort p => .within (execCollAbort_same p s) rfl
  | .collDone p => .within (execCollDone_same p s) rfl
  | .collClose p => .within (execCollClose_same p s) rfl
  | .collDestroy p => .within (execCollDestroy_same p s) rfl
  | .collTimeout group opSeq now => .within (execCollTimeout_same group opSeq now s) rfl
  | .collStartAt group opSeq inst now data => .within (execCollStartAt_same group opSeq inst now data s) rfl
  | .collReleaseAt group opSeq inst now acc => .within (execCollReleaseAt_same group opSeq inst now acc s) rfl
  | .shapeCompare group now newCost => .within (execShapeCompare_same group now newCost s) rfl
  | .placementEpoch now busy free => .within (execPlacementEpoch_same now busy free s) rfl
  | .migrationCommit ctx copyOk => .within (execMigrationCommit_same ctx copyOk s) rfl
  | .demotionCommit ctx => .within (execDemotionCommit_same ctx s) rfl
  | .tallyMoveCommit tally => .within (execTallyMoveCommit_same tally s) rfl
  | .cellSelfTestEnd cell pass => .within (execCellSelfTestEnd_same cell pass s) rfl
  | .walkEntryRead id entry => .within (execWalkEntryRead_same id entry s) rfl
  | .adUpdateLine id line => .within (execAdUpdateLine_same id line s) rfl
  | .invalidationDrainComplete id => .within (execInvalidationDrainComplete_same id s) rfl
  | .instanceResetEnd inst => .within (execInstanceResetEnd_same inst s) rfl
  | .instanceResetTimeout inst now => .within (execInstanceResetTimeout_same inst now s) rfl
  | .epochSweepEnd inst => .within (execEpochSweepEnd_same inst s) rfl
  | .instanceQuiesceComplete inst => .within (execInstanceQuiesceComplete_same inst s) rfl
  | .drawSetCommit channel program => .within (execDrawSetCommit_same channel program s) rfl
  | .move channel write wr => .within (execMove_same channel write wr s) rfl
  | .loop channel => .within (execLoop_same channel s) rfl
  | .wait channel => .within (execWait_same channel s) rfl
  | .signal channel => .within (execSignal_same channel s) rfl
  | .endProg channel => .within (execEndProg_same channel s) rfl
  | .drawWaitInstant channel now => .within (execDrawWaitInstant_same channel now s) rfl
  | .drawWaitTimeout channel now => .within (execDrawWaitTimeout_same channel now s) rfl
  | .viseClaimWrite stamp vise word => .within (execViseClaimWrite_same stamp vise word s) rfl
  | .viseReleaseWrite stamp vise word => .within (execViseReleaseWrite_same stamp vise word s) rfl
  | .detectorEvent events => .within (execDetectorEvent_same events s) rfl
  | .railFault detector => .within (execRailFault_same detector s) rfl
  | .quenchWindowEnd detector now => .within (execQuenchWindowEnd_same detector now s) rfl
  | .injectionFire slot now coincident => .within (execInjectionFire_same slot now coincident s) rfl
  | .haltActionReset now => .within (execHaltActionReset_same now s) rfl
  | .hearthWatchdog => .within (execHearthWatchdog_same s) rfl
  | .hsSampleTrigger core pc skid masked idle opcode task => .within (execHsSampleTrigger_same core pc skid masked idle opcode task s) rfl
  | .mainsInputLost inputB => .within (execMainsInputLost_same inputB s) rfl
  | .mainsInputPresent inputB => .within (execMainsInputPresent_same inputB s) rfl
  | .holdUpPowerDown => .within (execHoldUpPowerDown_same s) rfl
  | .railsOff => .within (execRailsOff_same s) rfl
  | .resetNLow => .within (execResetNLow_same s) rfl
  | .resetNHigh mgrStrap => .within (execResetNHigh_same mgrStrap s) rfl
  | .flesoReady romOk fusesOk slotAValid slotBValid => .within (execFlesoReady_same romOk fusesOk slotAValid slotBValid s) rfl
  | .selfTestPass failedCells failedChannels failedPorts memoryFailed => .within (execSelfTestPass_same failedCells failedChannels failedPorts memoryFailed s) rfl
  | .linkBringupTimeout now => .within (execLinkBringupTimeout_same now s) rfl
  | .drainComplete => .within (execDrainComplete_same s) rfl
  | .drainTimeout now => .within (execDrainTimeout_same now s) rfl
  | .fwActivationReady => .within (execFwActivationReady_same s) rfl
  | .fwActivationTimeout selfTestFailed => .within (execFwActivationTimeout_same selfTestFailed s) rfl
  | .sensorSample inA inB dieTemp coolantIn flow memTemps => .within (execSensorSample_same inA inB dieTemp coolantIn flow memTemps s) rfl
  | .cablePresentChange port present milliwatts => .within (execCablePresentChange_same port present milliwatts s) rfl
  | .cableOverdraw port => .within (execCableOverdraw_same port s) rfl
  | .doeSpdmRequest port req => .within (execDoeSpdmRequest_same port req s) rfl
  | .refClockReturn refB => .within (execRefClockReturn_same refB s) rfl
  | .hrefclkReturn port => .within (execHrefclkReturn_same port s) rfl
  | .cxlLinkTrainingFailed port declined => .within (execCxlLinkTrainingFailed_same port declined s) rfl
  | .clockRecoveryPhaseMove port lane rx delta => .within (execClockRecoveryPhaseMove_same port lane rx delta s) rfl
  | .substitutionCopyComplete cell lostContexts lostTallies lostPartials => .within (execSubstitutionCopyComplete_same cell lostContexts lostTallies lostPartials s) rfl
  | .placementSummaryTimeout module => .within (execPlacementSummaryTimeout_same module s) rfl
  | .i3cEntdaa address => .within (execI3cEntdaa_same address s) rfl
  | .payloadReadReturn port tag res => .within (execPayloadReadReturn_same port tag res s) rfl

theorem changes_pending (i : Instr) : Part.pending ∉ changes i := by
  cases i <;> simp only [changes] <;> decide

/-- Settles O46: each command's frame is that of its own meaning; that of the queue goes with it. -/
theorem commandsChangeOnlyTheirParts : Obligations.CommandsChangeOnlyTheirParts := fun i s t h =>
  have hsame := exec_same i s t h
  ⟨fun x hx => hsame.parts x (by simpa using hx), hsame.parts .pending (by simpa using changes_pending i)⟩

end Sys2Proof.Machine
end

section
/-! PROOFS. Segments 0, 1 and 2 stay exposed to no head, and the invariant holds at reset and after every step (R264, R265, R603): O44, O45. -/

namespace Sys2Proof.Machine

open Sys2Proof

/-- R264: segments 0, 1 and 2 are exposed to no head. -/
def State.Hides (s : State) : Prop := ∀ g, g < 3 → s.exposed g = 0

theorem State.Hides.congr {t s : State} (hs : s.Hides) (h : t.segments = s.segments) : t.Hides := by
  unfold State.Hides State.exposed
  rwa [h]

theorem State.Hides.ite {c : Prop} [Decidable c] {a b : State} (ha : a.Hides) (hb : b.Hides) : (if c then a else b).Hides := by
  split
  · exact ha
  · exact hb

theorem State.hides_nil {t : State} (h : t.segments = []) : t.Hides := fun g _ => by
  rw [State.exposed, h]
  rfl

theorem Same.hides {W : List Part} {t s : State} (h : Same W t s) (hw : W.contains .segments = false) (hs : s.Hides) : t.Hides :=
  hs.congr (h.parts .segments hw)

/-- A Fleso command changes nothing, or answers from the state in which it was taken or from what its body made of that. -/
theorem fleso_next_cases {s t : State} {c : Call} {code : BitVec 16} {may : Auth → Bool} {body : Auth → State → State × Reply}
    (h : s.fleso c code may body = .next t) :
    t = s ∨ ∃ q u r, t = (State.reply u c code r).serve ∧ (u = s.take q ∨ u = (body (s.authOf c.via) (s.take q)).1) := by
  unfold State.fleso at h
  split at h
  · cases h
    exact .inl rfl
  next q _ =>
  refine .inr ⟨q, ?_⟩
  dsimp only at h
  split at h
  · cases h
    exact ⟨_, _, rfl, .inl rfl⟩
  split at h
  · cases h
    exact ⟨_, _, rfl, .inl rfl⟩
  split at h
  · cases h
    exact ⟨_, _, rfl, .inl rfl⟩
  split at h
  · cases h
    exact ⟨_, _, rfl, .inl rfl⟩
  · cases h
    exact ⟨_, _, rfl, .inr rfl⟩

theorem fleso_hides {s t : State} {c : Call} {code : BitVec 16} {may : Auth → Bool} {body : Auth → State → State × Reply} (hs : s.Hides)
    (hbody : ∀ a u, u.Hides → (body a u).1.Hides) (h : s.fleso c code may body = .next t) : t.Hides := by
  have htake : ∀ q, (s.take q).Hides := fun q => hs.congr (segments_take s q)
  obtain rfl | ⟨q, u, r, rfl, rfl | rfl⟩ := fleso_next_cases h
  · exact hs
  · exact (htake q).congr (by rw [segments_serve, segments_reply])
  · exact (hbody _ _ (htake q)).congr (by rw [segments_serve, segments_reply])

theorem tdel_eq_filter {α : Type} (t : Table α) (k : Nat) : tdel t k = t.filter fun e => e.1 != k := by
  induction t with
  | nil => rfl
  | cons e t ih => by_cases he : e.1 = k <;> simp [tdel, he, ih]

theorem tget_tdel_ne {α : Type} (t : Table α) (k j : Nat) (h : j ≠ k) : tget (tdel t k) j = tget t j := by
  rw [tdel_eq_filter, tget_filter_key t (· != k) j, if_pos (bne_iff_ne.2 h)]

theorem tgetD_tdel_ne {α : Type} (t : Table α) (k j : Nat) (d : α) (h : j ≠ k) : tgetD (tdel t k) j d = tgetD t j d :=
  congrArg (·.getD d) (tget_tdel_ne t k j h)

theorem unshare_hides {s : State} (head : Nat) (hs : s.Hides) : (s.unshare head).Hides := fun g hg => by
  have h := hs g hg
  unfold State.exposed State.unshare tgetD at *
  rw [tget_tmap]
  cases hget : tget s.segments g with
  | none => rfl
  | some heads =>
    rw [hget] at h
    rw [show heads = 0 from h]
    simp [bit]

theorem execSegmentExpose_hides {s t : State} {c : Call} {seg : Nat} {heads : BitVec 4} (hs : s.Hides)
    (h : execSegmentExpose c seg heads s = .next t) : t.Hides := by
  refine fleso_hides hs (fun _ u hu => ?_) h
  dsimp only
  split
  · exact hu
  split
  · exact hu
  split
  · exact hu
  split
  · exact hu
  next hseg _ _ =>
  refine (State.exposeDone_same _).hides rfl ((State.exposeSnoop_same _).hides rfl fun g hg => ?_)
  have hne : g ≠ seg := by omega
  have hkept := hu g hg
  unfold State.exposed at *
  dsimp only
  split
  · rwa [tgetD_tdel_ne _ _ _ _ hne]
  · rwa [tgetD_tset_ne _ _ _ _ _ hne]

theorem execCxlLinkUp_hides {s t : State} {port : Nat} {allowed : BitVec 4} {width : BitVec 2} {mem ready : Bool} (hs : s.Hides)
    (h : execCxlLinkUp port allowed width mem ready s = .next t) : t.Hides := by
  have hemit : ∀ {u : State} {c : Prop} [Decidable c] (o : Output), u.Hides → (if c then u.emit o else u).Hides :=
    fun o hu => .ite ((State.emit_same _ o).hides rfl hu) hu
  have hmod : ∀ f, (s.modPort port f).Hides := fun f => (State.modPort_same s port f).hides rfl hs
  have hraise : (s.raiseAt (1024 + 32 * port) port).Hides := (State.raiseAt_same ..).hides rfl hs
  unfold execCxlLinkUp at h
  dsimp only at h
  split at h
  · cases h
    exact hs
  split at h
  · cases h
    exact .ite ((State.emit_same ..).hides rfl (hmod _)) hs
  split at h
  · cases h
    exact hraise
  split at h
  · cases h
    exact hraise
  cases h
  exact hemit _ (.ite (unshare_hides port (hmod _)) (hmod _))

theorem moduleReset_hides (s : State) : s.moduleReset.Hides := State.hides_nil rfl

theorem powerOn_hides (s : State) : s.powerOn.Hides := State.hides_nil rfl

/-- Six commands write the exposure of segments: one refuses segments 0, 1 and 2, one only takes heads away, the others clear it. -/
theorem exec_hides {i : Instr} {s t : State} (hs : s.Hides) (h : exec i s = .next t) : t.Hides := by
  cases i
  case segmentExpose c seg heads => exact execSegmentExpose_hides hs h
  case cxlLinkUp port allowed width mem ready => exact execCxlLinkUp_hides hs h
  case haltActionReset now =>
    cases h
    exact .ite (moduleReset_hides _) ((State.advance_same ..).hides rfl hs)
  case mainsInputPresent inputB =>
    cases h
    exact .ite (powerOn_hides _) (.ite hs hs)
  case railsOff =>
    by_cases hdown : (!s.power.powerDown) = true
    · cases (if_pos hdown).symm.trans h
      exact hs
    · cases (if_neg hdown).symm.trans h
      exact .ite (powerOn_hides _) (State.hides_nil rfl)
  case resetNLow =>
    cases h
    exact .ite hs (moduleReset_hides _)
  all_goals exact (exec_same _ s t h).hides rfl hs

theorem exec_keeps_inv {i : Instr} {s t : State} (hs : s.Inv) (h : exec i s = .next t) : t.Inv :=
  have hsame := exec_same i s t h
  ⟨exec_hides hs.hidden h, hsame.rings hs.rings, hsame.wf hs.memory⟩

/-- Settles O45: a command keeps the invariant, and so does the time clock's cycle. -/
theorem stepKeepsInvariant : Obligations.StepKeepsInvariant := by
  intro s t hs h
  unfold step at h
  split at h
  · cases h
    have hsame := s.tick_same
    exact ⟨hsame.hides rfl hs.hidden, hsame.rings hs.rings, hsame.wf hs.memory⟩
  · next c rest hp =>
    exact exec_keeps_inv (s := { s with pending := rest }) ⟨hs.hidden, hs.rings, hs.memory⟩ h

/-- Settles O44: after reset no segment is listed as exposed, no ring is placed, and memory is empty. -/
theorem resetMeetsInvariant : Obligations.ResetMeetsInvariant :=
  ⟨State.hides_nil rfl, State.ringsIn_none rfl rfl rfl rfl, rfl⟩

end Sys2Proof.Machine
end

section
/-! PROOFS. Every command runs; only a CXL.mem access beyond module memory faults (R264): O49. -/

namespace Sys2Proof.Machine

open Sys2Proof

/-- An outcome that is a next state. -/
def Runs (o : Host.Outcome State Fault Refusal) : Prop := ∃ t, o = .next t

theorem Runs.next {t : State} : Runs (.next t) := ⟨t, rfl⟩

theorem Runs.ite {c : Prop} [Decidable c] {a b : Host.Outcome State Fault Refusal} (ha : Runs a) (hb : Runs b) : Runs (if c then a else b) := by
  split
  · exact ha
  · exact hb

/-- A Fleso command runs whoever gives it, in whatever order: it waits, is turned away, or is answered (R623-R625). -/
theorem Runs.fleso {s : State} {c : Call} {code : BitVec 16} {may : Auth → Bool} {body : Auth → State → State × Reply} :
    Runs (s.fleso c code may body) := by
  unfold State.fleso
  split
  · exact .next
  · refine .ite .next (.ite .next (.ite .next ?_))
    split <;> exact .next

/-- A COLL_CTRL packet is taken, discarded or left for another row (R434). -/
theorem Runs.ctrlRow {s : State} {kind : BitVec 4} {p : Packet} {f : State → ModId → CollCtrl → State} : Runs (s.ctrlRow kind p f) := by
  unfold State.ctrlRow
  refine .ite .next ?_
  split
  · exact .next
  · exact .ite .next (.ite .next .next)

/-! ### The commands whose effect turns on what the state holds -/

theorem execTrainingBlock_runs (port lane : Nat) (block : TrainBlock) (s : State) : Runs (execTrainingBlock port lane block s) := by
  unfold execTrainingBlock
  dsimp only
  split
  · exact .next
  · exact .ite .next .next
  · exact .next
  · exact .ite .next (.ite .next (.ite .next .next))

theorem execRateStepSwitch_runs (port : Nat) (s : State) : Runs (execRateStepSwitch port s) := by
  unfold execRateStepSwitch
  dsimp only
  split
  · exact .ite .next .next
  · exact .next

theorem execEyeScanComplete_runs (port lane : Nat) (width height : BitVec 6) (s : State) : Runs (execEyeScanComplete port lane width height s) := by
  unfold execEyeScanComplete
  refine .ite .next ?_
  dsimp only
  split <;> exact .next

theorem execShodSet_runs (port : Nat) (s : State) : Runs (execShodSet port s) := by
  unfold execShodSet
  dsimp only
  split
  · exact .ite .next .next
  · exact .next

theorem execShoeRequestSend_runs (port : Nat) (s : State) : Runs (execShoeRequestSend port s) := by
  unfold execShoeRequestSend
  dsimp only
  split
  · refine .ite .next (.ite .next ?_)
    split <;> exact .next
  · exact .next

theorem execShoeBeginFrame_runs (port : Nat) (s : State) : Runs (execShoeBeginFrame port s) := by
  unfold execShoeBeginFrame
  split
  · exact .ite .next .next
  · exact .next

theorem execShoeStepRelock_runs (port : Nat) (rxShift txShift : Int) (s : State) : Runs (execShoeStepRelock port rxShift txShift s) := by
  unfold execShoeStepRelock
  split
  · exact .ite .next .next
  · exact .next

theorem execShoeWaitExpiry_runs (port : Nat) (s : State) : Runs (execShoeWaitExpiry port s) := by
  unfold execShoeWaitExpiry
  split
  · split
    · exact .ite .next .next
    · exact .next
  · exact .next

theorem execWidthRestore_runs (port : Nat) (s : State) : Runs (execWidthRestore port s) := by
  unfold execWidthRestore
  dsimp only
  split
  · exact .ite .next .next
  · exact .next

theorem execReplayTimeout_runs (port : Nat) (now : Ticks) (s : State) : Runs (execReplayTimeout port now s) := by
  unfold execReplayTimeout
  dsimp only
  split <;> exact .next

theorem execPortEgressDecision_runs (port : Nat) (s : State) : Runs (execPortEgressDecision port s) := by
  unfold execPortEgressDecision
  refine .ite .next ?_
  dsimp only
  split
  · exact .next
  · split <;> exact .next

theorem execE2eAckTimer_runs (key : StreamKey) (s : State) : Runs (execE2eAckTimer key s) := by
  unfold execE2eAckTimer
  split
  · exact .ite .next .next
  · exact .next

theorem execMctpRequest_runs (eid : BitVec 8) (req : ReqHdr) (s : State) : Runs (execMctpRequest eid req s) := by
  unfold execMctpRequest
  split <;> exact .next

theorem execAdUpdateLine_runs (id : Nat) (line : Line) (s : State) : Runs (execAdUpdateLine id line s) := by
  unfold execAdUpdateLine
  split
  · exact .next
  · exact .ite .next (.ite .next .next)

theorem execWqDoorbell_runs (fn : Fn) (queue : BitVec 14) (index : BitVec 32) (reserved : BitVec 17) (whole : Bool) (s : State) :
    Runs (execWqDoorbell fn queue index reserved whole s) := by
  unfold execWqDoorbell
  split
  · exact .next
  · exact .ite .next (.ite .next (.ite .next (.ite .next .next)))

theorem execCqDoorbell_runs (fn : Fn) (ring : BitVec 14) (index : BitVec 32) (reserved : BitVec 17) (whole : Bool) (s : State) :
    Runs (execCqDoorbell fn ring index reserved whole s) := by
  unfold execCqDoorbell
  split
  · exact .next
  · exact .ite .next (.ite .next (.ite .next .next))

theorem execDescriptorFetch_runs (wq : Nat) (s : State) : Runs (execDescriptorFetch wq s) := by
  unfold execDescriptorFetch
  split
  · exact .next
  · split
    · exact .next
    · exact .ite .next (.ite .next .next)

theorem execDescriptorReadComplete_runs (wq : Nat) (res : ReadResult) (s : State) : Runs (execDescriptorReadComplete wq res s) := by
  unfold execDescriptorReadComplete
  split
  · exact .next
  · split
    · exact .next
    · dsimp only
      split
      · exact .next
      · exact .next
      · refine .ite .next ?_
        split <;> exact .next

theorem execNop_runs (wq : Nat) (s : State) : Runs (execNop wq s) := by
  unfold execNop
  split <;> exact .next

theorem execRecordWriteComplete_runs (ring : Nat) (s : State) : Runs (execRecordWriteComplete ring s) := by
  unfold execRecordWriteComplete
  split
  · exact .next
  · split <;> exact .next

theorem execInvalidationDrainComplete_runs (id : Nat) (s : State) : Runs (execInvalidationDrainComplete id s) := by
  unfold execInvalidationDrainComplete
  split
  · exact .next
  · exact .ite .next .next

theorem execDrawRun_runs (wq : Nat) (s : State) : Runs (execDrawRun wq s) := by
  unfold execDrawRun
  split
  · exact .next
  · exact .ite .next (.ite .next (.ite .next (.ite .next .next)))

theorem execDrawSetCommit_runs (channel : Nat) (program : ReadResult) (s : State) : Runs (execDrawSetCommit channel program s) := by
  unfold execDrawSetCommit
  dsimp only
  split
  · exact .next
  · split
    · exact .next
    · exact .next
    · exact .next
    · refine .ite .next (.ite .next ?_)
      split <;> exact .next

theorem execMove_runs (channel : Nat) (write : Bool) (wr : Access) (s : State) : Runs (execMove channel write wr s) := by
  unfold execMove
  refine .ite .next (.ite .next (.ite .next (.ite .next ?_)))
  dsimp only
  split <;> exact .next

theorem execLoop_runs (channel : Nat) (s : State) : Runs (execLoop channel s) := by
  unfold execLoop
  dsimp only
  split
  · refine .ite .next (.ite .next ?_)
    split
    · exact .next
    · exact .ite .next .next
  · exact .next

theorem execWait_runs (channel : Nat) (s : State) : Runs (execWait channel s) := by
  unfold execWait
  dsimp only
  split
  · refine .ite .next ?_
    split
    · split
      · exact .next
      · exact .ite .next .next
    · exact .ite .next .next
    · exact .ite .next (.ite .next .next)
  · exact .next

theorem execDrawWaitInstant_runs (channel : Nat) (now : Ticks) (s : State) : Runs (execDrawWaitInstant channel now s) := by
  unfold execDrawWaitInstant
  dsimp only
  split
  · exact .ite .next .next
  · exact .next

theorem execDrawWaitTimeout_runs (channel : Nat) (now : Ticks) (s : State) : Runs (execDrawWaitTimeout channel now s) := by
  unfold execDrawWaitTimeout
  dsimp only
  split
  · exact .ite .next .next
  · exact .next

theorem execSignal_runs (channel : Nat) (s : State) : Runs (execSignal channel s) := by
  unfold execSignal
  dsimp only
  split
  · refine .ite .next ?_
    split
    · split <;> exact .next
    · exact .ite .next .next
    · split
      · exact .next
      · exact .ite .next (.ite .next .next)
    · exact .ite .next .next
  · exact .next

theorem execEndProg_runs (channel : Nat) (s : State) : Runs (execEndProg channel s) := by
  unfold execEndProg
  dsimp only
  split
  · exact .ite .next .next
  · exact .next

theorem execTallyAdd_runs (wq : Nat) (s : State) : Runs (execTallyAdd wq s) := by
  unfold execTallyAdd
  split
  · exact .next
  · refine .ite .next (.ite .next (.ite ?_ (.ite .next .next)))
    dsimp only
    split <;> exact .next

theorem execPutPacket_runs (p : Packet) (acc : Access) (s : State) : Runs (execPutPacket p acc s) := by
  unfold execPutPacket
  split
  · exact .next
  · exact .ite .next (.ite .next (.ite .next .next))

theorem execAtomicReq_runs (p : Packet) (old : BitVec 128) (oldPoison : Bool) (acc : Access) (s : State) :
    Runs (execAtomicReq p old oldPoison acc s) := by
  unfold execAtomicReq
  split
  · exact .next
  · exact .ite .next .next

theorem execOperationEnd_runs (src : Endpoint) (tag : BitVec 32) (s : State) : Runs (execOperationEnd src tag s) := by
  unfold execOperationEnd
  split
  · exact .next
  · exact .ite .next (.ite .next (.ite .next .next))

theorem execTombstoneExpiry_runs (src : Endpoint) (tag : BitVec 32) (now : Ticks) (s : State) : Runs (execTombstoneExpiry src tag now s) := by
  unfold execTombstoneExpiry
  dsimp only
  split
  · exact .next
  · exact .ite .next .next

theorem execOpenEntryExpiry_runs (src : Endpoint) (tag : BitVec 32) (now : Ticks) (s : State) : Runs (execOpenEntryExpiry src tag now s) := by
  unfold execOpenEntryExpiry
  dsimp only
  split
  · exact .next
  · exact .ite .next .next

theorem execMulticastPutSettle_runs (src : Endpoint) (tag : BitVec 32) (now : Ticks) (s : State) : Runs (execMulticastPutSettle src tag now s) := by
  unfold execMulticastPutSettle
  dsimp only
  split
  · exact .next
  · exact .ite .next .next

theorem execOrderQueryTimer_runs (key : StreamKey) (order : BitVec 32) (now : Ticks) (s : State) : Runs (execOrderQueryTimer key order now s) := by
  unfold execOrderQueryTimer
  dsimp only
  split
  · exact .next
  · split
    · exact .next
    · exact .ite .next .next

theorem execOrderAbandon_runs (key : StreamKey) (order : BitVec 32) (now : Ticks) (s : State) : Runs (execOrderAbandon key order now s) := by
  unfold execOrderAbandon
  dsimp only
  split
  · exact .next
  · split
    · exact .next
    · exact .ite .next .next

theorem execMsgSend_runs (wq : Nat) (s : State) : Runs (execMsgSend wq s) := by
  unfold execMsgSend
  split
  · exact .next
  · exact .ite .next (.ite .next .next)

theorem execMsgRecv_runs (wq : Nat) (acc : Access) (s : State) : Runs (execMsgRecv wq acc s) := by
  unfold execMsgRecv
  split
  · exact .next
  · refine .ite .next ?_
    dsimp only
    split
    · exact .next
    · exact .ite .next .next

theorem execMsgCancel_runs (wq : Nat) (s : State) : Runs (execMsgCancel wq s) := by
  unfold execMsgCancel
  split
  · exact .next
  · exact .ite .next (.ite .next (.ite .next (.ite .next .next)))

theorem execGetReq_runs (p : Packet) (acc : Access) (s : State) : Runs (execGetReq p acc s) := by
  unfold execGetReq
  split
  · exact .next
  · exact .ite .next .next

theorem execGetResp_runs (p : Packet) (acc : Access) (s : State) : Runs (execGetResp p acc s) := by
  unfold execGetResp
  split
  · exact .next
  · refine .ite .next ?_
    dsimp only
    split
    · exact .next
    · refine .ite .next (.ite .next (.ite .next (.ite ?_ .next)))
      split <;> exact .next

theorem execAtomicResp_runs (p : Packet) (acc : Access) (s : State) : Runs (execAtomicResp p acc s) := by
  unfold execAtomicResp
  split
  · exact .next
  · refine .ite .next ?_
    dsimp only
    split
    · exact .next
    · refine .ite .next (.ite .next (.ite ?_ .next))
      split <;> exact .next

theorem execResponse_runs (p : Packet) (s : State) : Runs (execResponse p s) := by
  unfold execResponse
  split
  · exact .next
  · refine .ite .next (.ite .next (.ite .next ?_))
    split
    · exact .next
    · exact .ite .next (.ite .next (.ite .next (.ite .next (.ite .next .next))))

theorem execOpTimeout_runs (src : Endpoint) (tag : BitVec 32) (now : Ticks) (s : State) : Runs (execOpTimeout src tag now s) := by
  unfold execOpTimeout
  dsimp only
  split
  · exact .next
  · exact .ite .next .next

theorem execPayloadReadReturn_runs (port : Nat) (tag : D2hTag) (res : ReadResult) (s : State) : Runs (execPayloadReadReturn port tag res s) := by
  unfold execPayloadReadReturn
  refine .ite .next ?_
  dsimp only
  split
  · split
    · exact .next
    · refine .ite .next ?_
      split <;> exact .next
  · exact .next
  · split <;> exact .next
  · exact .next
  · exact .next
  · exact .next
  · exact .next

theorem execCollective_runs (wq : Nat) (s : State) : Runs (execCollective wq s) := by
  unfold execCollective
  split
  · exact .next
  · refine .ite .next (.ite .next ?_)
    dsimp only
    split
    · exact .next
    · split
      · exact .next
      · exact .ite .next (.ite .next (.ite .next .next))

theorem execCollStartAt_runs (group : BitVec 24) (opSeq : BitVec 16) (inst : Nat) (now : Ticks) (data : ReadResult) (s : State) :
    Runs (execCollStartAt group opSeq inst now data s) := by
  unfold execCollStartAt
  dsimp only
  split
  · exact .next
  · split
    · exact .next
    · refine .ite .next (.ite .next ?_)
      split
      · exact .next
      · split <;> exact .next

theorem execCollReleaseAt_runs (group : BitVec 24) (opSeq : BitVec 16) (inst : Nat) (now : Ticks) (acc : Access) (s : State) :
    Runs (execCollReleaseAt group opSeq inst now acc s) := by
  unfold execCollReleaseAt
  dsimp only
  split <;> exact .next

theorem execCollData_runs (p : Packet) (acc : Access) (s : State) : Runs (execCollData p acc s) := by
  unfold execCollData
  refine .ite .next ?_
  dsimp only
  split
  · exact .ite .next (.ite .next (.ite .next .next))
  · exact .next

theorem execCollTimeout_runs (group : BitVec 24) (opSeq : BitVec 16) (now : Ticks) (s : State) : Runs (execCollTimeout group opSeq now s) := by
  unfold execCollTimeout
  dsimp only
  split
  · exact .next
  · split
    · exact .next
    · exact .ite .next .next

theorem execShapeCompare_runs (group : BitVec 24) (now : Ticks) (newCost : Nat) (s : State) : Runs (execShapeCompare group now newCost s) := by
  unfold execShapeCompare
  dsimp only
  split
  · exact .next
  · exact .ite .next (.ite .next .next)

theorem execMgmtResp_runs (port : Nat) (p : Packet) (s : State) : Runs (execMgmtResp port p s) := by
  unfold execMgmtResp
  refine .ite .next ?_
  dsimp only
  split
  · exact .next
  · exact .ite .next .next

theorem execFault_runs (p : Packet) (s : State) : Runs (execFault p s) := by
  unfold execFault
  refine .ite .next (.ite .next (.ite .next (.ite .next (.ite .next ?_))))
  split <;> exact .next

theorem execMigrationCommit_runs (ctx : Nat) (copyOk : Bool) (s : State) : Runs (execMigrationCommit ctx copyOk s) := by
  unfold execMigrationCommit
  split
  · exact .next
  · split
    · exact .next
    · exact .ite .next (.ite .next .next)

theorem execDemotionCommit_runs (ctx : Nat) (s : State) : Runs (execDemotionCommit ctx s) := by
  unfold execDemotionCommit
  split
  · exact .next
  · split
    · exact .next
    · dsimp only
      split
      · exact .next
      · split <;> exact .next

theorem execSubstitutionCopyComplete_runs (cell : Nat) (lostContexts lostTallies : List Nat) (lostPartials : List (Nat × BitVec 16)) (s : State) :
    Runs (execSubstitutionCopyComplete cell lostContexts lostTallies lostPartials s) := by
  unfold execSubstitutionCopyComplete
  split <;> exact .next

theorem execCxlLinkUp_runs (port : Nat) (allowed : BitVec 4) (width : BitVec 2) (mem ready : Bool) (s : State) :
    Runs (execCxlLinkUp port allowed width mem ready s) := by
  unfold execCxlLinkUp
  refine .ite .next (.ite .next ?_)
  dsimp only
  split
  · exact .next
  · exact .ite .next .next

theorem execCxlConfigRequest_runs (port : Nat) (vf : Option Nat) (req : CfgReq) (s : State) : Runs (execCxlConfigRequest port vf req s) := by
  unfold execCxlConfigRequest
  refine .ite .next (.ite .next (.ite .next ?_))
  dsimp only
  split
  · exact .next
  · exact .ite .next .next
  · exact .ite .next .next
  · exact .next
  · exact .next
  · exact .next
  · exact .next
  · exact .next
  · exact .next
  · exact .next

theorem execH2dSnoop_runs (port : Nat) (line : Word) (s : State) : Runs (execH2dSnoop port line s) := by
  unfold execH2dSnoop
  refine .ite .next ?_
  split <;> exact .next

theorem execDoeSpdmRequest_runs (port : Nat) (req : SpdmReq) (s : State) : Runs (execDoeSpdmRequest port req s) := by
  unfold execDoeSpdmRequest
  refine .ite .next ?_
  split
  · exact .next
  · split <;> exact .next
  · split <;> exact .next

theorem execHsSampleTrigger_runs (core : Nat) (pc : Word) (skid : Nat) (masked idle : Bool) (opcode : BitVec 16) (task : BitVec 32) (s : State) :
    Runs (execHsSampleTrigger core pc skid masked idle opcode task s) := by
  unfold execHsSampleTrigger
  refine .ite .next (.ite .next ?_)
  dsimp only
  split <;> exact .next

theorem execSelfTestPass_runs (failedCells failedChannels failedPorts : List Nat) (memoryFailed : Option Nat) (s : State) :
    Runs (execSelfTestPass failedCells failedChannels failedPorts memoryFailed s) := by
  unfold execSelfTestPass
  refine .ite .next ?_
  split <;> exact .next

theorem execFwActivationReady_runs (s : State) : Runs (execFwActivationReady s) := by
  unfold execFwActivationReady
  split <;> exact .next

theorem execFwActivationTimeout_runs (selfTestFailed : Bool) (s : State) : Runs (execFwActivationTimeout selfTestFailed s) := by
  unfold execFwActivationTimeout
  split <;> exact .next

theorem execInjectionDecision_runs (tc : BitVec 2) (s : State) : Runs (execInjectionDecision tc s) := by
  unfold execInjectionDecision
  refine .ite .next ?_
  dsimp only
  split
  · exact .next
  · split <;> exact .next

/-! ### CXL.mem accesses (R264) -/

theorem execCxlMemRead_next_or_fault (head : Nat) (foreign window : Bool) (offset : Word) (s : State) :
    Runs (exec (.cxlMemRead head foreign window offset) s) ∨ (exec (.cxlMemRead head foreign window offset) s = .fault .noSuchAddress ∧
      ((∃ h f w o, Instr.cxlMemRead head foreign window offset = .cxlMemRead h f w o) ∨
        ∃ h f w o d, Instr.cxlMemRead head foreign window offset = .cxlMemWrite h f w o d)) := by
  by_cases hspan : (s.memOn head && !foreign && decide (memSpan window ≤ offset.toNat / 64 * 64)) = true
  · exact .inr ⟨if_pos hspan, .inl ⟨_, _, _, _, rfl⟩⟩
  · exact .inl ⟨_, if_neg hspan⟩

theorem execCxlMemWrite_next_or_fault (head : Nat) (foreign window : Bool) (offset : Word) (data : List Byte) (s : State) :
    Runs (exec (.cxlMemWrite head foreign window offset data) s) ∨
      (exec (.cxlMemWrite head foreign window offset data) s = .fault .noSuchAddress ∧
      ((∃ h f w o, Instr.cxlMemWrite head foreign window offset data = .cxlMemRead h f w o) ∨
        ∃ h f w o d, Instr.cxlMemWrite head foreign window offset data = .cxlMemWrite h f w o d)) := by
  by_cases hspan : (s.memOn head && !foreign && decide (memSpan window < offset.toNat + data.length)) = true
  · exact .inr ⟨if_pos hspan, .inr ⟨_, _, _, _, _, rfl⟩⟩
  · exact .inl ⟨_, if_neg hspan⟩

/-! ### Every command -/

/-- Row by row of the table: only the two CXL.mem accesses have a fault among their branches. -/
theorem exec_runs_or_faults (i : Instr) (s : State) : Runs (exec i s) ∨ (exec i s = .fault .noSuchAddress ∧
    ((∃ h f w o, i = .cxlMemRead h f w o) ∨ ∃ h f w o d, i = .cxlMemWrite h f w o d)) :=
  match i with
  | .registerWriteUndefined fn offset => .inl (show Runs (execRegisterWriteUndefined fn offset s) from .next)
  | .wqDoorbell fn queue index reserved whole => .inl (execWqDoorbell_runs fn queue index reserved whole s)
  | .cqDoorbell fn ring index reserved whole => .inl (execCqDoorbell_runs fn ring index reserved whole s)
  | .mboxSubmit fn slot value whole req => .inl (show Runs (execMboxSubmit fn slot value whole req s) from .ite .next .next)
  | .mboxRelease fn slot value whole => .inl (show Runs (execMboxRelease fn slot value whole s) from .ite .next .next)
  | .mboxWithdraw fn slot value whole => .inl (show Runs (execMboxWithdraw fn slot value whole s) from .ite .next .next)
  | .evHeadWrite fn head => .inl (show Runs (execEvHeadWrite fn head s) from .ite .next (.ite .next .next))
  | .msixUnmask fn vector => .inl (show Runs (execMsixUnmask fn vector s) from .ite .next .next)
  | .identify c => .inl (show Runs (execIdentify c s) from .fleso)
  | .regRead c block index offset count => .inl (show Runs (execRegRead c block index offset count s) from .fleso)
  | .regWrite c block index offset value mask => .inl (show Runs (execRegWrite c block index offset value mask s) from .fleso)
  | .stageOpen c mib => .inl (show Runs (execStageOpen c mib s) from .fleso)
  | .stageWrite c handle offset data => .inl (show Runs (execStageWrite c handle offset data s) from .fleso)
  | .stageClose c handle => .inl (show Runs (execStageClose c handle s) from .fleso)
  | .modeRequest c word => .inl (show Runs (execModeRequest c word s) from .fleso)
  | .reportRead c offset length => .inl (show Runs (execReportRead c offset length s) from .fleso)
  | .machineIdentity c id pMinus1 gMinus1 mMinus1 ws wg => .inl (show Runs (execMachineIdentity c id pMinus1 gMinus1 mMinus1 ws wg s) from .fleso)
  | .portReassign c word => .inl (show Runs (execPortReassign c word s) from .fleso)
  | .routeLoad c gen adopt ref => .inl (show Runs (execRouteLoad c gen adopt ref s) from .fleso)
  | .routeSwap c gen at_ cancel => .inl (show Runs (execRouteSwap c gen at_ cancel s) from .fleso)
  | .routeCfg c derailleur e2e => .inl (show Runs (execRouteCfg c derailleur e2e s) from .fleso)
  | .treeWrite c tree entry => .inl (show Runs (execTreeWrite c tree entry s) from .fleso)
  | .flowCfg c tile credit bellows sched => .inl (show Runs (execFlowCfg c tile credit bellows sched s) from .fleso)
  | .sampling c queues epochNs enable ringEntries => .inl (show Runs (execSampling c queues epochNs enable ringEntries s) from .fleso)
  | .holeSet c first count set => .inl (show Runs (execHoleSet c first count set s) from .fleso)
  | .timeSet c seconds => .inl (show Runs (execTimeSet c seconds s) from .fleso)
  | .timeCfg c word => .inl (show Runs (execTimeCfg c word s) from .fleso)
  | .timePort c port asym => .inl (show Runs (execTimePort c port asym s) from .fleso)
  | .strokeLoad c base ref => .inl (show Runs (execStrokeLoad c base ref s) from .fleso)
  | .strokeSwap c at_ cancel => .inl (show Runs (execStrokeSwap c at_ cancel s) from .fleso)
  | .strokeAdmit c ref => .inl (show Runs (execStrokeAdmit c ref s) from .fleso)
  | .strokeEnable c enable => .inl (show Runs (execStrokeEnable c enable s) from .fleso)
  | .instCreate c port inst grants shaping strokeClass eagerLimit => .inl (show Runs (execInstCreate c port inst grants shaping strokeClass eagerLimit s) from .fleso)
  | .instBind c inst vf vectors => .inl (show Runs (execInstBind c inst vf vectors s) from .fleso)
  | .instGrant c inst changes => .inl (show Runs (execInstGrant c inst changes s) from .fleso)
  | .instReset c word => .inl (show Runs (execInstReset c word s) from .fleso)
  | .instReopen c inst => .inl (show Runs (execInstReopen c inst s) from .fleso)
  | .instQuery c word => .inl (show Runs (execInstQuery c word s) from .fleso)
  | .instDestroy c inst => .inl (show Runs (execInstDestroy c inst s) from .fleso)
  | .instQuiesce c inst => .inl (show Runs (execInstQuiesce c inst s) from .fleso)
  | .instExport c inst => .inl (show Runs (execInstExport c inst s) from .fleso)
  | .instImport c inst ref => .inl (show Runs (execInstImport c inst ref s) from .fleso)
  | .dirtyLog c inst mode base k vaBase clearOverflow => .inl (show Runs (execDirtyLog c inst mode base k vaBase clearOverflow s) from .fleso)
  | .dirtyFlush c inst => .inl (show Runs (execDirtyFlush c inst s) from .fleso)
  | .segmentExpose c segment heads => .inl (show Runs (execSegmentExpose c segment heads s) from .fleso)
  | .hostCfg c port word => .inl (show Runs (execHostCfg c port word s) from .fleso)
  | .shaping c inst cls entry => .inl (show Runs (execShaping c inst cls entry s) from .fleso)
  | .wqCreate c inst queue sizeCode base wb ring => .inl (show Runs (execWqCreate c inst queue sizeCode base wb ring s) from .fleso)
  | .cqCreate c inst ring sizeCode base wb vector irqEnable => .inl (show Runs (execCqCreate c inst ring sizeCode base wb vector irqEnable s) from .fleso)
  | .wqRestart c queue skip => .inl (show Runs (execWqRestart c queue skip s) from .fleso)
  | .cqRestart c ring => .inl (show Runs (execCqRestart c ring s) from .fleso)
  | .queueStatus c isRing n clear => .inl (show Runs (execQueueStatus c isRing n clear s) from .fleso)
  | .queueDestroy c isRing n => .inl (show Runs (execQueueDestroy c isRing n s) from .fleso)
  | .cqSignal c ring irqEnable vector => .inl (show Runs (execCqSignal c ring irqEnable vector s) from .fleso)
  | .ctxCreate c inst slot postedMax unexpMax notify cookie hostArea hostAreaLen cellLimit moduleLimit => .inl (show Runs (execCtxCreate c inst slot postedMax unexpMax notify cookie hostArea hostAreaLen cellLimit moduleLimit s) from .fleso)
  | .ctxDestroy c inst slot => .inl (show Runs (execCtxDestroy c inst slot s) from .fleso)
  | .matchCfg c word instCfg => .inl (show Runs (execMatchCfg c word instCfg s) from .fleso)
  | .windowWrite c inst window entry => .inl (show Runs (execWindowWrite c inst window entry s) from .fleso)
  | .tallyAlloc c inst slot countMode notify cookie mirror => .inl (show Runs (execTallyAlloc c inst slot countMode notify cookie mirror s) from .fleso)
  | .tallyArm c inst slot threshold => .inl (show Runs (execTallyArm c inst slot threshold s) from .fleso)
  | .tallyRead c inst slot => .inl (show Runs (execTallyRead c inst slot s) from .fleso)
  | .tallyFree c inst slot => .inl (show Runs (execTallyFree c inst slot s) from .fleso)
  | .remoteCfg c word => .inl (show Runs (execRemoteCfg c word s) from .fleso)
  | .groupCreate c group listAddr count tc treeA treeB rootHint fanMax pinned => .inl (show Runs (execGroupCreate c group listAddr count tc treeA treeB rootHint fanMax pinned s) from .fleso)
  | .groupDestroy c group => .inl (show Runs (execGroupDestroy c group s) from .fleso)
  | .collCfg c word => .inl (show Runs (execCollCfg c word s) from .fleso)
  | .placeHint c hint => .inl (show Runs (execPlaceHint c hint s) from .fleso)
  | .placeLog c enable ringEntries => .inl (show Runs (execPlaceLog c enable ringEntries s) from .fleso)
  | .placeSummary c => .inl (show Runs (execPlaceSummary c s) from .fleso)
  | .strikerCfg c word => .inl (show Runs (execStrikerCfg c word s) from .fleso)
  | .transDomain c domain format root => .inl (show Runs (execTransDomain c domain format root s) from .fleso)
  | .transInval c domain whole ranges => .inl (show Runs (execTransInval c domain whole ranges s) from .fleso)
  | .transLock c domain va pages write => .inl (show Runs (execTransLock c domain va pages write s) from .fleso)
  | .transUnlock c domain va pages => .inl (show Runs (execTransUnlock c domain va pages s) from .fleso)
  | .deviceRange c port index base pages => .inl (show Runs (execDeviceRange c port index base pages s) from .fleso)
  | .faultLog c domain base size => .inl (show Runs (execFaultLog c domain base size s) from .fleso)
  | .drawChannel c channel owner maxPriority free => .inl (show Runs (execDrawChannel c channel owner maxPriority free s) from .fleso)
  | .drawLoad c args ring cookie => .inl (show Runs (execDrawLoad c args ring cookie s) from .fleso)
  | .drawStop c channel => .inl (show Runs (execDrawStop c channel s) from .fleso)
  | .viseClaim c vise => .inl (show Runs (execViseClaim c vise s) from .fleso)
  | .viseRelease c vise => .inl (show Runs (execViseRelease c vise s) from .fleso)
  | .quenchRead c => .inl (show Runs (execQuenchRead c s) from .fleso)
  | .quenchClear c flags sources => .inl (show Runs (execQuenchClear c flags sources s) from .fleso)
  | .quenchPolicy c word policy => .inl (show Runs (execQuenchPolicy c word policy s) from .fleso)
  | .inject c ctrl at_ => .inl (show Runs (execInject c ctrl at_ s) from .fleso)
  | .counterSelect c word0 word1 word2 => .inl (show Runs (execCounterSelect c word0 word1 word2 s) from .fleso)
  | .counterRead c first count => .inl (show Runs (execCounterRead c first count s) from .fleso)
  | .rolemapLoad c ref => .inl (show Runs (execRolemapLoad c ref s) from .fleso)
  | .fwStage c ref => .inl (show Runs (execFwStage c ref s) from .fleso)
  | .fwActivate c live => .inl (show Runs (execFwActivate c live s) from .fleso)
  | .mgmtCmd port p => .inl (show Runs (execMgmtCmd port p s) from .ite .next (.ite .next (.ite .next .next)))
  | .mgmtResp port p => .inl (execMgmtResp_runs port p s)
  | .mctpRequest eid req => .inl (execMctpRequest_runs eid req s)
  | .fecFrameReceive port frame => .inl (show Runs (execFecFrameReceive port frame s) from .next)
  | .freewheelBlock port fill => .inl (show Runs (execFreewheelBlock port fill s) from .next)
  | .trainingBlock port lane block => .inl (execTrainingBlock_runs port lane block s)
  | .laneLockLoss port lane => .inl (show Runs (execLaneLockLoss port lane s) from .ite .next (.ite .next .next))
  | .trainingPhaseTimeout port => .inl (show Runs (execTrainingPhaseTimeout port s) from .ite .next .next)
  | .trainingBackoffExpiry port => .inl (show Runs (execTrainingBackoffExpiry port s) from .next)
  | .rateStepSwitch port => .inl (execRateStepSwitch_runs port s)
  | .rateQualifyEnd port uncorrectable ratioExceeded eyeWidths => .inl (show Runs (execRateQualifyEnd port uncorrectable ratioExceeded eyeWidths s) from .ite .next (.ite .next .next))
  | .eyeScanComplete port lane width height => .inl (execEyeScanComplete_runs port lane width height s)
  | .marginCriticalExpiry port lane => .inl (show Runs (execMarginCriticalExpiry port lane s) from .ite .next .next)
  | .shodSet port => .inl (execShodSet_runs port s)
  | .soleUseClear port => .inl (show Runs (execSoleUseClear port s) from .next)
  | .shoeRequestSend port => .inl (execShoeRequestSend_runs port s)
  | .shoeBeginFrame port => .inl (execShoeBeginFrame_runs port s)
  | .shoeStepRelock port rxShift txShift => .inl (execShoeStepRelock_runs port rxShift txShift s)
  | .shoeStepTimeout port => .inl (show Runs (execShoeStepTimeout port s) from .next)
  | .shoeWaitExpiry port => .inl (execShoeWaitExpiry_runs port s)
  | .shoeRetryTimer port => .inl (show Runs (execShoeRetryTimer port s) from .next)
  | .idleRunStart port => .inl (show Runs (execIdleRunStart port s) from .ite .next .next)
  | .widthRestore port => .inl (execWidthRestore_runs port s)
  | .replayTimeout port now => .inl (execReplayTimeout_runs port now s)
  | .creditDecay port => .inl (show Runs (execCreditDecay port s) from .next)
  | .bellowsUpdate => .inl (show Runs (execBellowsUpdate s) from .next)
  | .congestionSummarySend => .inl (show Runs (execCongestionSummarySend s) from .next)
  | .timeExchangeSend port => .inl (show Runs (execTimeExchangeSend port s) from .ite .next .next)
  | .tc3ChunkReportSend port => .inl (show Runs (execTc3ChunkReportSend port s) from .next)
  | .helloSend port => .inl (show Runs (execHelloSend port s) from .ite .next (.ite .next (.ite .next .next)))
  | .exchangeIntervalEnd port => .inl (show Runs (execExchangeIntervalEnd port s) from .next)
  | .injectionDecision tc => .inl (execInjectionDecision_runs tc s)
  | .portEgressDecision port => .inl (execPortEgressDecision_runs port s)
  | .routeWaitExpiry now => .inl (show Runs (execRouteWaitExpiry now s) from .next)
  | .routeSwapFire now => .inl (show Runs (execRouteSwapFire now s) from .ite (.ite .next .next) .next)
  | .bankRetire now => .inl (show Runs (execBankRetire now s) from .ite .next .next)
  | .tc3ResendTimeout key now => .inl (show Runs (execTc3ResendTimeout key now s) from .ite .next (.ite .next .next))
  | .e2eAck port p => .inl (show Runs (execE2eAck port p s) from .ite .next (.ite .next (.ite .next .next)))
  | .e2eAckTimer key => .inl (execE2eAckTimer_runs key s)
  | .tc3StreamSyncRetry key => .inl (show Runs (execTc3StreamSyncRetry key s) from .next)
  | .sampleEpoch now => .inl (show Runs (execSampleEpoch now s) from .ite .next .next)
  | .ppsEdge now periodNs tenA tenB => .inl (show Runs (execPpsEdge now periodNs tenA tenB s) from .next)
  | .timeRefLoss tenMhz => .inl (show Runs (execTimeRefLoss tenMhz s) from .next)
  | .refClockLoss refB => .inl (show Runs (execRefClockLoss refB s) from .ite .next (.ite .next .next))
  | .timeAnnounce port p => .inl (show Runs (execTimeAnnounce port p s) from .ite .next .next)
  | .timeOutPulse now => .inl (show Runs (execTimeOutPulse now s) from .ite .next .next)
  | .strokeBoundary now => .inl (show Runs (execStrokeBoundary now s) from .next)
  | .strokeSwapFire now => .inl (show Runs (execStrokeSwapFire now s) from .ite .next .next)
  | .cxlLinkUp port allowed width mem ready => .inl (execCxlLinkUp_runs port allowed width mem ready s)
  | .cxlConfigRequest port vf req => .inl (execCxlConfigRequest_runs port vf req s)
  | .h2dSnoop port line => .inl (execH2dSnoop_runs port line s)
  | .cxlMemRead head foreign window offset => execCxlMemRead_next_or_fault head foreign window offset s
  | .cxlMemWrite head foreign window offset data => execCxlMemWrite_next_or_fault head foreign window offset data s
  | .birsp head line => .inl (show Runs (execBirsp head line s) from .ite .next .next)
  | .biTimeout head => .inl (show Runs (execBiTimeout head s) from .ite .next .next)
  | .d2hTimeout port tag silent => .inl (show Runs (execD2hTimeout port tag silent s) from .ite .next .next)
  | .hostLinkDown port => .inl (show Runs (execHostLinkDown port s) from .ite .next .next)
  | .hotReset port => .inl (show Runs (execHotReset port s) from .ite .next .next)
  | .ideFailure port => .inl (show Runs (execIdeFailure port s) from .ite .next .next)
  | .bmeClear port cache => .inl (show Runs (execBmeClear port cache s) from .ite .next .next)
  | .portPresent port => .inl (show Runs (execPortPresent port s) from .ite .next .next)
  | .flrVf port vf => .inl (show Runs (execFlrVf port vf s) from .ite .next .next)
  | .flrPf port => .inl (show Runs (execFlrPf port s) from .ite .next .next)
  | .perstN port high => .inl (show Runs (execPerstN port high s) from .ite .next (.ite .next .next))
  | .hrefclkLoss port => .inl (show Runs (execHrefclkLoss port s) from .next)
  | .gpfPhase1 port => .inl (show Runs (execGpfPhase1 port s) from .ite .next .next)
  | .gpfPhase2 port => .inl (show Runs (execGpfPhase2 port s) from .next)
  | .descriptorFetch wq => .inl (execDescriptorFetch_runs wq s)
  | .descriptorReadComplete wq res => .inl (execDescriptorReadComplete_runs wq res s)
  | .nop wq => .inl (execNop_runs wq s)
  | .put wq => .inl (show Runs (execPut wq s) from .next)
  | .get wq => .inl (show Runs (execGet wq s) from .next)
  | .atomic wq => .inl (show Runs (execAtomic wq s) from .next)
  | .msgSend wq => .inl (execMsgSend_runs wq s)
  | .msgRecv wq acc => .inl (execMsgRecv_runs wq acc s)
  | .msgCancel wq => .inl (execMsgCancel_runs wq s)
  | .collective wq => .inl (execCollective_runs wq s)
  | .drawRun wq => .inl (execDrawRun_runs wq s)
  | .tallyAdd wq => .inl (execTallyAdd_runs wq s)
  | .recordWriteComplete ring => .inl (execRecordWriteComplete_runs ring s)
  | .writeBackWord isRing n => .inl (show Runs (execWriteBackWord isRing n s) from .next)
  | .msgEager p acc => .inl (show Runs (execMsgEager p acc s) from .next)
  | .msgRts p => .inl (show Runs (execMsgRts p s) from .next)
  | .orderQueryTimer key order now => .inl (execOrderQueryTimer_runs key order now s)
  | .orderAbandon key order now => .inl (execOrderAbandon_runs key order now s)
  | .putPacket p acc => .inl (execPutPacket_runs p acc s)
  | .getReq p acc => .inl (execGetReq_runs p acc s)
  | .getResp p acc => .inl (execGetResp_runs p acc s)
  | .atomicReq p old oldPoison acc => .inl (execAtomicReq_runs p old oldPoison acc s)
  | .atomicResp p acc => .inl (execAtomicResp_runs p acc s)
  | .response p => .inl (execResponse_runs p s)
  | .fault p => .inl (execFault_runs p s)
  | .operationEnd src tag => .inl (execOperationEnd_runs src tag s)
  | .tallyMirrorWrite tally acc => .inl (show Runs (execTallyMirrorWrite tally acc s) from .ite .next .next)
  | .tombstoneExpiry src tag now => .inl (execTombstoneExpiry_runs src tag now s)
  | .openEntryExpiry src tag now => .inl (execOpenEntryExpiry_runs src tag now s)
  | .opTimeout src tag now => .inl (execOpTimeout_runs src tag now s)
  | .multicastPutSettle src tag now => .inl (execMulticastPutSettle_runs src tag now s)
  | .collData p acc => .inl (execCollData_runs p acc s)
  | .collInstall p => .inl (show Runs (execCollInstall p s) from .ctrlRow)
  | .collSwitch p => .inl (show Runs (execCollSwitch p s) from .ctrlRow)
  | .collStall p => .inl (show Runs (execCollStall p s) from .ctrlRow)
  | .collProbe p => .inl (show Runs (execCollProbe p s) from .ctrlRow)
  | .collProbeAnswer p => .inl (show Runs (execCollProbeAnswer p s) from .ctrlRow)
  | .collRestart p => .inl (show Runs (execCollRestart p s) from .ctrlRow)
  | .collFinalQuery p => .inl (show Runs (execCollFinalQuery p s) from .ctrlRow)
  | .collFinalAnswer p => .inl (show Runs (execCollFinalAnswer p s) from .ctrlRow)
  | .collAbort p => .inl (show Runs (execCollAbort p s) from .ctrlRow)
  | .collDone p => .inl (show Runs (execCollDone p s) from .ctrlRow)
  | .collClose p => .inl (show Runs (execCollClose p s) from .ctrlRow)
  | .collDestroy p => .inl (show Runs (execCollDestroy p s) from .ctrlRow)
  | .collTimeout group opSeq now => .inl (execCollTimeout_runs group opSeq now s)
  | .collStartAt group opSeq inst now data => .inl (execCollStartAt_runs group opSeq inst now data s)
  | .collReleaseAt group opSeq inst now acc => .inl (execCollReleaseAt_runs group opSeq inst now acc s)
  | .shapeCompare group now newCost => .inl (execShapeCompare_runs group now newCost s)
  | .placementEpoch now busy free => .inl (show Runs (execPlacementEpoch now busy free s) from .ite .next (.ite .next .next))
  | .migrationCommit ctx copyOk => .inl (execMigrationCommit_runs ctx copyOk s)
  | .demotionCommit ctx => .inl (execDemotionCommit_runs ctx s)
  | .tallyMoveCommit tally => .inl (show Runs (execTallyMoveCommit tally s) from .ite .next (.ite .next .next))
  | .cellSelfTestEnd cell pass => .inl (show Runs (execCellSelfTestEnd cell pass s) from .ite .next (.ite .next .next))
  | .walkEntryRead id entry => .inl (show Runs (execWalkEntryRead id entry s) from .next)
  | .adUpdateLine id line => .inl (execAdUpdateLine_runs id line s)
  | .invalidationDrainComplete id => .inl (execInvalidationDrainComplete_runs id s)
  | .instanceResetEnd inst => .inl (show Runs (execInstanceResetEnd inst s) from .ite .next .next)
  | .instanceResetTimeout inst now => .inl (show Runs (execInstanceResetTimeout inst now s) from .ite .next .next)
  | .epochSweepEnd inst => .inl (show Runs (execEpochSweepEnd inst s) from .ite .next .next)
  | .instanceQuiesceComplete inst => .inl (show Runs (execInstanceQuiesceComplete inst s) from .ite .next .next)
  | .drawSetCommit channel program => .inl (execDrawSetCommit_runs channel program s)
  | .move channel write wr => .inl (execMove_runs channel write wr s)
  | .loop channel => .inl (execLoop_runs channel s)
  | .wait channel => .inl (execWait_runs channel s)
  | .signal channel => .inl (execSignal_runs channel s)
  | .endProg channel => .inl (execEndProg_runs channel s)
  | .drawWaitInstant channel now => .inl (execDrawWaitInstant_runs channel now s)
  | .drawWaitTimeout channel now => .inl (execDrawWaitTimeout_runs channel now s)
  | .viseClaimWrite stamp vise word => .inl (show Runs (execViseClaimWrite stamp vise word s) from .next)
  | .viseReleaseWrite stamp vise word => .inl (show Runs (execViseReleaseWrite stamp vise word s) from .next)
  | .detectorEvent events => .inl (show Runs (execDetectorEvent events s) from .next)
  | .railFault detector => .inl (show Runs (execRailFault detector s) from .ite .next .next)
  | .quenchWindowEnd detector now => .inl (show Runs (execQuenchWindowEnd detector now s) from .next)
  | .injectionFire slot now coincident => .inl (show Runs (execInjectionFire slot now coincident s) from .ite .next .next)
  | .haltActionReset now => .inl (show Runs (execHaltActionReset now s) from .next)
  | .hearthWatchdog => .inl (show Runs (execHearthWatchdog s) from .ite .next .next)
  | .hsSampleTrigger core pc skid masked idle opcode task => .inl (execHsSampleTrigger_runs core pc skid masked idle opcode task s)
  | .mainsInputLost inputB => .inl (show Runs (execMainsInputLost inputB s) from .ite .next .next)
  | .mainsInputPresent inputB => .inl (show Runs (execMainsInputPresent inputB s) from .next)
  | .holdUpPowerDown => .inl (show Runs (execHoldUpPowerDown s) from .ite .next .next)
  | .railsOff => .inl (show Runs (execRailsOff s) from .ite .next .next)
  | .resetNLow => .inl (show Runs (execResetNLow s) from .next)
  | .resetNHigh mgrStrap => .inl (show Runs (execResetNHigh mgrStrap s) from .next)
  | .flesoReady romOk fusesOk slotAValid slotBValid => .inl (show Runs (execFlesoReady romOk fusesOk slotAValid slotBValid s) from .ite .next (.ite .next (.ite .next .next)))
  | .selfTestPass failedCells failedChannels failedPorts memoryFailed => .inl (execSelfTestPass_runs failedCells failedChannels failedPorts memoryFailed s)
  | .linkBringupTimeout now => .inl (show Runs (execLinkBringupTimeout now s) from .next)
  | .drainComplete => .inl (show Runs (execDrainComplete s) from .next)
  | .drainTimeout now => .inl (show Runs (execDrainTimeout now s) from .next)
  | .fwActivationReady => .inl (execFwActivationReady_runs s)
  | .fwActivationTimeout selfTestFailed => .inl (execFwActivationTimeout_runs selfTestFailed s)
  | .sensorSample inA inB dieTemp coolantIn flow memTemps => .inl (show Runs (execSensorSample inA inB dieTemp coolantIn flow memTemps s) from .ite .next .next)
  | .cablePresentChange port present milliwatts => .inl (show Runs (execCablePresentChange port present milliwatts s) from .ite .next (.ite (.ite .next .next) .next))
  | .cableOverdraw port => .inl (show Runs (execCableOverdraw port s) from .ite .next .next)
  | .doeSpdmRequest port req => .inl (execDoeSpdmRequest_runs port req s)
  | .refClockReturn refB => .inl (show Runs (execRefClockReturn refB s) from .next)
  | .hrefclkReturn port => .inl (show Runs (execHrefclkReturn port s) from .next)
  | .cxlLinkTrainingFailed port declined => .inl (show Runs (execCxlLinkTrainingFailed port declined s) from .ite .next .next)
  | .clockRecoveryPhaseMove port lane rx delta => .inl (show Runs (execClockRecoveryPhaseMove port lane rx delta s) from .next)
  | .substitutionCopyComplete cell lostContexts lostTallies lostPartials => .inl (execSubstitutionCopyComplete_runs cell lostContexts lostTallies lostPartials s)
  | .placementSummaryTimeout module => .inl (show Runs (execPlacementSummaryTimeout module s) from .next)
  | .i3cEntdaa address => .inl (show Runs (execI3cEntdaa address s) from .next)
  | .payloadReadReturn port tag res => .inl (execPayloadReadReturn_runs port tag res s)

/-- Settles O49. -/
theorem everyCommandRuns : Obligations.EveryCommandRuns := exec_runs_or_faults

end Sys2Proof.Machine
end

section
/-! PROOFS. CXL.mem requests, one by one (R250, R265, R266, R268-R270), and what they reach (R264, R265): O50. -/

namespace Sys2Proof.Machine

open Sys2Proof

theorem modPort_congr {s : State} {p : Nat} {f g : HostPort → HostPort} (h : f (s.port p) = g (s.port p)) :
    s.modPort p f = s.modPort p g := by
  simp only [State.modPort, tmod]
  exact congrArg (fun v => { s with ports := tset s.ports p v }) h

theorem port_modPort_ne (s : State) {p q : Nat} (f : HostPort → HostPort) (h : q ≠ p) : (s.modPort p f).port q = s.port q :=
  tgetD_tmod_ne s.ports p q {} f h

theorem memCome_off {s : State} {head : Nat} (foreign : Bool) (r : MemReq) (h : s.memOn head = false) :
    s.memCome head foreign r = s := if_pos (by simp [h])

/-- The request of a head is done: it waits no more. -/
def State.memDrop (s : State) (head : Nat) (r : MemReq) : State := s.modPort head fun p => { p with m2s := p.m2s.erase r }

/-- A head's only request, which waits. -/
def State.memPut (s : State) (head : Nat) (r : MemReq) : State := s.modPort head fun p => { p with m2s := [r] }

theorem memPut_m2s (s : State) (head : Nat) (r : MemReq) : ((s.memPut head r).port head).m2s = [r] := by
  rw [State.memPut, port_modPort]

/-- A head's only request, accepted, is served at once. -/
theorem memCome_alone {s : State} {head : Nat} (r : MemReq) (hon : s.memOn head = true) (hm : (s.port head).m2s = []) :
    s.memCome head false r = if ((s.memPut head r).memOne head r).2 then ((s.memPut head r).memOne head r).1.memDrop head r
      else ((s.memPut head r).memOne head r).1 := by
  have hput : (s.modPort head fun p => { p with m2s := p.m2s ++ [r] }) = s.memPut head r := modPort_congr (by rw [hm]; rfl)
  have hroom : ¬ Config.m2sCredits ≤ (s.port head).m2s.countP fun x => x.write.isSome == r.write.isSome := by
    rw [hm]; simp [Config.m2sCredits]
  rw [State.memCome, if_neg (by simp [hon]), if_neg (by simp), if_neg hroom, hput, State.serveMem, memPut_m2s]
  rfl

theorem memCome_done {s t : State} {head : Nat} {r : MemReq} (hon : s.memOn head = true) (hm : (s.port head).m2s = [])
    (h : (s.memPut head r).memOne head r = (t, true)) : s.memCome head false r = t.memDrop head r := by
  rw [memCome_alone r hon hm, h]; rfl

theorem memCome_waits {s t : State} {head : Nat} {r : MemReq} (hon : s.memOn head = true) (hm : (s.port head).m2s = [])
    (h : (s.memPut head r).memOne head r = (t, false)) : s.memCome head false r = t := by
  rw [memCome_alone r hon hm, h]; rfl

/-! ### One request -/

theorem memOne_read_hidden {s : State} {head a : Nat} (h : bit (s.exposed (a / Config.segBytes)) head = false) :
    s.memOne head { window := false, addr := a, write := none } = (s, true) := by
  simp [State.memOne, h]

theorem memOne_write_hidden {s : State} {head a : Nat} {data : List Byte} {l : Nat} (hl : l ∈ linesOf a data.length)
    (h : bit (s.exposed (l * 64 / Config.segBytes)) head = false) :
    s.memOne head { window := false, addr := a, write := some data } = (s, true) := by
  have hsome : ((linesOf a data.length).all fun l => bit (s.exposed (l * 64 / Config.segBytes)) head) = false :=
    List.all_eq_false.2 ⟨l, hl, by simp [h]⟩
  simp [State.memOne, hsome]

/-- Segments 0, 1 and 2 are exposed to no head (R264). -/
theorem State.Inv.exposes_none {s : State} (hs : s.Inv) {a : Nat} (h : a < 3 * 268435456) (head : Nat) :
    bit (s.exposed (a / Config.segBytes)) head = false := by
  have hg : a / Config.segBytes < 3 := by rw [Config.segBytes]; omega
  rw [State.exposed, hs.hidden _ hg]
  exact BitVec.getLsbD_zero

/-! ### What comes to nothing -/

/-- A request that reaches nothing and is done at once leaves the module as it was. -/
theorem memCome_nothing {s : State} {head : Nat} {r : MemReq} (hm : (s.port head).m2s = [])
    (h : ((s.memPut head r).memOne head r) = (s.memPut head r, true)) :
    (s.memCome head false r).out = s.out ∧ (∀ q, (s.memCome head false r).port q = s.port q) ∧
      ∀ x, x ≠ .ports → (s.memCome head false r).agrees s x := by
  cases hon : s.memOn head with
  | false =>
    rw [memCome_off false r hon]
    exact ⟨rfl, fun _ => rfl, fun x _ => State.agrees_refl s x⟩
  | true =>
    rw [memCome_done hon hm h]
    have hsame : Same [.ports] ((s.memPut head r).memDrop head r) s :=
      Same.step (State.modPort_same ..) rfl (State.modPort_same ..)
    refine ⟨hsame.parts .out rfl, fun q => ?_, fun x hx => hsame.parts x (by simpa using hx)⟩
    by_cases hq : q = head
    · subst hq; simp [State.memDrop, State.memPut, ← hm]
    · exact (port_modPort_ne _ _ hq).trans (port_modPort_ne _ _ hq)

theorem cxlMemRead_fault {s : State} {head : Nat} {window : Bool} {offset : Word} (hon : s.memOn head = true)
    (h : memSpan window ≤ offset.toNat / 64 * 64) : exec (.cxlMemRead head false window offset) s = .fault .noSuchAddress :=
  if_pos (by simp [hon, h])

theorem cxlMemWrite_fault {s : State} {head : Nat} {window : Bool} {offset : Word} {data : List Byte} (hon : s.memOn head = true)
    (h : memSpan window < offset.toNat + data.length) :
    exec (.cxlMemWrite head false window offset data) s = .fault .noSuchAddress :=
  if_pos (by simp [hon, h])

theorem cxlMemRead_comes {s : State} {head : Nat} {window : Bool} {offset : Word} (h : offset.toNat / 64 * 64 < memSpan window) :
    exec (.cxlMemRead head false window offset) s =
      .next (s.memCome head false { window, addr := offset.toNat / 64 * 64, write := none }) :=
  if_neg (by simp; omega)

theorem cxlMemWrite_comes {s : State} {head : Nat} {window : Bool} {offset : Word} {data : List Byte}
    (h : offset.toNat + data.length ≤ memSpan window) :
    exec (.cxlMemWrite head false window offset data) s =
      .next (s.memCome head false { window, addr := offset.toNat, write := some data }) :=
  if_neg (by simp; omega)

theorem memSpan_window : memSpan true = 268435456 := rfl
theorem memSpan_memory : memSpan false = 512 * 268435456 := rfl

theorem hidden_read_nothing {s : State} (head : Nat) {offset : Word} (hs : s.Inv) (h : offset.toNat < 3 * 268435456)
    (hm : (s.port head).m2s = []) :
    Completes (exec (.cxlMemRead head false false offset) s) fun t =>
      t.out = s.out ∧ (∀ h, t.port h = s.port h) ∧ ∀ x, x ≠ .ports → t.agrees s x := by
  have hspan : offset.toNat / 64 * 64 < memSpan false := by rw [memSpan_memory]; omega
  exact ⟨_, cxlMemRead_comes hspan, memCome_nothing hm (memOne_read_hidden (hs.exposes_none (by omega) head))⟩

theorem hidden_write_nothing {s : State} (head : Nat) {offset : Word} {data : List Byte} (hs : s.Inv)
    (h : offset.toNat < 3 * 268435456) (hdata : data ≠ []) (hspan : offset.toNat + data.length ≤ 512 * 268435456)
    (hm : (s.port head).m2s = []) :
    Completes (exec (.cxlMemWrite head false false offset data) s) fun t =>
      t.out = s.out ∧ t.mem = s.mem ∧ (∀ h, t.port h = s.port h) ∧ ∀ x, x ≠ .ports → t.agrees s x := by
  have hlen : data.length ≠ 0 := by simpa using hdata
  have hfirst : offset.toNat / 64 ∈ linesOf offset.toNat data.length := (mem_linesOf _ _ hlen).2 (by omega)
  have hhid : bit (s.exposed (offset.toNat / 64 * 64 / Config.segBytes)) head = false := hs.exposes_none (by omega) head
  obtain ⟨hout, hport, hrest⟩ := memCome_nothing hm (memOne_write_hidden hfirst hhid)
  exact ⟨_, cxlMemWrite_comes hspan, hout, hrest .mem (by decide), hport, hrest⟩

/-- Settles O50: an access beyond the span of its address space faults, and one to segments 0, 1 and 2 is done with nothing read or stored. -/
theorem hostsReachExposedMemoryOnly : Obligations.HostsReachExposedMemoryOnly := by
  refine ⟨fun head offset s hon h => cxlMemRead_fault hon ?_, fun head offset s hon h => cxlMemRead_fault hon ?_,
    fun head offset data s hon h => cxlMemWrite_fault hon h, fun head offset data s hon h => cxlMemWrite_fault hon h,
    fun head offset s hs h hm => hidden_read_nothing head hs h hm,
    fun head offset data s hs h hdata hspan hm => hidden_write_nothing head hs h hdata hspan hm⟩
  · rw [memSpan_memory]; omega
  · rw [memSpan_window]; omega

end Sys2Proof.Machine
end

section
/-! PROOFS. Areas of the report segment, staging buffers, the sampled queues (R200-R202, R265, R627-R629): O22. -/

namespace Sys2Proof.Machine

open Sys2Proof

theorem getElem?_memRead (m : List Host.Cell) (a : Nat) {k n : Nat} (h : k < n) : (memRead m a n)[k]? = some (memGet m (a + k)) := by
  induction n generalizing a k with
  | zero => exact absurd h (Nat.not_lt_zero k)
  | succ n ih =>
    cases k with
    | zero => rfl
    | succ k =>
      rw [memRead, List.getElem?_cons_succ, ih (a + 1) (Nat.lt_of_succ_lt_succ h), Nat.add_assoc, Nat.add_comm 1]

/-- The byte at a written address (R111). -/
theorem memGet_memWrite_at {m : List Host.Cell} (a : Nat) {bs : List Byte} {k : Nat} {b : Byte} (hm : Memory.wf m = true)
    (hk : bs[k]? = some b) : memGet (memWrite m a bs) (a + k) = b := by
  obtain ⟨hlt, -⟩ := List.getElem?_eq_some_iff.1 hk
  have hread : (memRead (memWrite m a bs) a bs.length)[k]? = some b := by rw [memRead_memWrite m a bs hm, hk]
  rw [getElem?_memRead _ _ hlt] at hread
  exact Option.some.inj hread

@[simp] theorem areas_take (s : State) (q : QCmd) : (s.take q).hearth.areas = s.hearth.areas :=
  read_take (·.hearth.areas) s q fun _ _ _ _ _ => rfl
@[simp] theorem staging_take (s : State) (q : QCmd) : (s.take q).hearth.staging = s.hearth.staging :=
  read_take (·.hearth.staging) s q fun _ _ _ _ _ => rfl
@[simp] theorem buffer_take (s : State) (q : QCmd) (via : Arrival) (h : Nat) : (s.take q).buffer via h = s.buffer via h :=
  read_take (·.buffer via h) s q fun _ _ _ _ _ => rfl
/-- Where the next area of a length lies. -/
theorem State.allocArea_offset (s : State) (via : Arrival) (n : Nat) : (s.allocArea via n).map (·.1) =
    firstFit (s.hearth.areas.map fun a => (a.offset, a.length)) 4096 Config.segBytes n := by
  simp only [State.allocArea, Option.map_map]
  exact Option.map_id'

theorem allocArea_take (s : State) (q : QCmd) (via : Arrival) (n : Nat) :
    ((s.take q).allocArea via n).map (·.1) = (s.allocArea via n).map (·.1) := by
  rw [State.allocArea_offset, State.allocArea_offset, areas_take]

/-- A new area changes what the module's schedule says in nothing. -/
theorem State.allocArea_sched {s t : State} {via : Arrival} {n o : Nat} (h : s.allocArea via n = some (o, t)) : t.sched = s.sched := by
  obtain ⟨_, _, heq⟩ := Option.map_eq_some_iff.1 h
  cases heq
  rfl

/-- R265: REPORT_READ reads bytes of an area that the caller owns. -/
theorem reportRead_reads {s : State} {c : Call} {offset : BitVec 32} {n : Nat} {a : Area} (hlo : 1 ≤ n) (hhi : n ≤ 992)
    (ha : a ∈ s.hearth.areas) (hown : sameArrival a.owner c.via = true) (hfrom : a.offset ≤ offset.toNat)
    (hto : offset.toNat + n ≤ a.offset + a.length) :
    Does (.reportRead c offset n) s (.res (memRead s.mem (reportBase + offset.toNat) n)) fun u => u.mem = s.mem := by
  refine does_of_fleso rfl (execReportRead.eq_1 ..) (fun a => by cases a <;> rfl) fun q _ => ?_
  have hlen : ¬(n < 1 ∨ 992 < n) := by omega
  have hmine : (s.hearth.areas.any fun a => sameArrival a.owner c.via && decide (a.offset ≤ offset.toNat) &&
      decide (offset.toNat + n ≤ a.offset + a.length)) = true :=
    List.any_eq_true.2 ⟨a, ha, by simp [hown, hfrom, hto]⟩
  simp only [hlen, if_false, areas_take, hmine, if_true, mem_take, true_and]

/-- R628: STAGE_OPEN takes the lowest free handle and the first place that fits. -/
theorem stageOpen_opens {s : State} {c : Call} {mib h o : Nat} (hlo : 1 ≤ mib) (hhi : mib ≤ 64)
    (hkey : freeKey s.hearth.staging 32 = some h)
    (hfit : firstFit (s.hearth.staging.map fun e => (e.2.addr - stagingBase, e.2.mib * 1048576)) 1048576 Config.segBytes (mib * 1048576) =
      some o) :
    Does (.stageOpen c mib) s (.res (leBytes 8 h ++ leBytes 8 (stagingBase + o))) fun u =>
      tget u.hearth.staging h = some { owner := c.via, addr := stagingBase + o, mib } := by
  refine does_of_fleso rfl (execStageOpen.eq_1 ..) (fun a => by cases a <;> rfl) fun q _ => ?_
  have hmib : ¬(mib < 1 ∨ 64 < mib) := by omega
  simp only [hmib, if_false, staging_take, hkey, hfit]
  exact ⟨trivial, tget_tset_same ..⟩

/-- R629: STAGE_WRITE copies its bytes into a buffer that the caller holds. -/
theorem stageWrite_copies {s : State} {c : Call} {h : Nat} {offset : BitVec 32} {data : List Byte} {b : Staging}
    (hb : s.buffer c.via h = some b) (hdata : data ≠ []) (hlen : data.length ≤ 1000)
    (hfit : offset.toNat + data.length ≤ b.mib * 1048576) :
    Does (.stageWrite c h offset data) s .ok fun u => Memory.wf s.mem = true →
      ∀ k x, data[k]? = some x → memGet u.mem (b.addr + offset.toNat + k) = x := by
  refine does_of_fleso rfl (execStageWrite.eq_1 ..) (fun a => by cases a <;> rfl) fun q _ => ?_
  have hsize : ¬(data.isEmpty = true ∨ 1000 < data.length) := by simp [hdata, hlen]
  simp only [buffer_take, hb, hsize, Nat.not_lt.mpr hfit, if_false, State.storeMem, mem_take]
  exact ⟨trivial, fun hwf k x hk => memGet_memWrite_at _ hwf hk⟩

/-- R628: STAGE_CLOSE frees a buffer that the caller holds. -/
theorem stageClose_frees {s : State} {c : Call} {h : Nat} {b : Staging} (hb : s.buffer c.via h = some b) :
    Does (.stageClose c h) s .ok fun u => tget u.hearth.staging h = none := by
  refine does_of_fleso rfl (execStageClose.eq_1 ..) (fun a => by cases a <;> rfl) fun q _ => ?_
  simp only [buffer_take, hb]
  exact ⟨trivial, tget_tdel_same ..⟩

section
variable {s : State} {c : Call} {qs : List (BitVec 32)} {ns : Nat} {enable : Bool}

/-- R200, R201: SAMPLING selects its queues and goes on with the ring there is. -/
theorem sampling_selects (hqs : ∀ q ∈ qs, qidOk q = true) (hlo : 1000 ≤ ns) (hhi : ns ≤ 1000000000)
    (hring : enable = true → s.sched.sampleRing.isSome = true) :
    Does (.sampling c qs ns enable 0) s (.res (leBytes 8 ((s.sched.sampleRing.map (·.1)).getD 0) ++ leBytes 8 s.sched.sampleLost)) fun u =>
      u.sched.sampleQueues = qs ∧ u.sched.epochNs = BitVec.ofNat 30 ns ∧ u.sched.sampleEnable = enable ∧
      u.sched.sampleRing = s.sched.sampleRing := by
  refine does_of_fleso rfl (execSampling.eq_1 ..) (fun a => by cases a <;> rfl) fun q _ => ?_
  have hgood : ¬(qs.any fun q => !qidOk q) = true := by simpa using hqs
  have hns : ¬(ns < 1000 ∨ 1000000000 < ns) := by omega
  have hon : ¬(enable = true ∧ s.sched.sampleRing.isNone = true) := by
    rintro ⟨he, hnone⟩
    simp [Option.isNone_iff_eq_none.1 hnone] at hring
    simp [hring] at he
  simp only [hgood, hns, hon, if_false, if_true, sched_take, Bool.false_eq_true, and_self]

/-- R200, R202: SAMPLING places a ring where there was none, and the count of lost samples starts over. -/
theorem sampling_places {n o : Nat} (hqs : ∀ q ∈ qs, qidOk q = true) (hlo : 1000 ≤ ns) (hhi : ns ≤ 1000000000) (hn : n ≠ 0)
    (hring : s.sched.sampleRing = none) (halloc : (s.allocArea c.via (32 * n)).map (·.1) = some o) :
    Does (.sampling c qs ns enable n) s (.res (leBytes 8 o ++ leBytes 8 s.sched.sampleLost)) fun u =>
      u.sched.sampleQueues = qs ∧ u.sched.sampleRing = some (o, n) ∧ u.sched.sampleLost = 0 ∧ u.sched.sampleEnable = enable := by
  refine does_of_fleso rfl (execSampling.eq_1 ..) (fun a => by cases a <;> rfl) fun q _ => ?_
  have hgood : ¬(qs.any fun q => !qidOk q) = true := by simpa using hqs
  have hns : ¬(ns < 1000 ∨ 1000000000 < ns) := by omega
  obtain ⟨⟨_, t⟩, hsome, rfl⟩ := Option.map_eq_some_iff.1 ((allocArea_take s q c.via (32 * n)).trans halloc)
  have hsched : t.sched = s.sched := (State.allocArea_sched hsome).trans (sched_take ..)
  simp only [hgood, hns, hn, if_false, sched_take, hring, hsome, hsched, Bool.false_eq_true, and_self]

end

/-- Settles O22: every clause is the branch of its command in which every test of its fields passes. -/
theorem buffersComplete : Obligations.BuffersComplete :=
  ⟨fun _ _ _ _ _ hlo hhi ha hown hfrom hto => reportRead_reads hlo hhi ha hown hfrom hto,
    fun _ _ _ _ _ hlo hhi hkey hfit => stageOpen_opens hlo hhi hkey hfit,
    fun _ _ _ _ _ _ hb hdata hlen hfit => stageWrite_copies hb hdata hlen hfit,
    fun _ _ _ _ hb => stageClose_frees hb,
    fun _ _ _ _ _ hqs hlo hhi hring => sampling_selects hqs hlo hhi hring,
    fun _ _ _ _ _ _ _ hqs hlo hhi hn hring halloc => sampling_places hqs hlo hhi hn hring halloc⟩

end Sys2Proof.Machine
end

section
/-! PROOFS. What answers, serving, walks, records and resets leave of a host port (R261, R268, R277). -/

namespace Sys2Proof.Machine

open Sys2Proof

/-- A host port as its own link and its host leave it: what engines and vectors change is set to its reset value, and so are the
back-invalidations while lines are tracked. -/
def HostPort.lasting (x : HostPort) : HostPort :=
  { x with d2h := [], d2hWait := [], msix := [], biPending := if x.tracked.isEmpty then x.biPending else [] }

/-- What reads only of a port what lasts reads the same of ports that agree on that. -/
theorem HostPort.read_of_lasting {α : Sort _} {x y : HostPort} (h : x.lasting = y.lasting) (f : HostPort → α)
    (hf : ∀ x : HostPort, f x.lasting = f x) : f x = f y := by
  rw [← hf x, ← hf y, h]

/-- Where no line is tracked, the back-invalidations last. -/
theorem HostPort.biPending_of_lasting {x y : HostPort} (h : x.lasting = y.lasting) (hy : y.tracked = []) : x.biPending = y.biPending := by
  have hx : x.tracked = [] := (HostPort.read_of_lasting h HostPort.tracked (fun _ => rfl)).trans hy
  have hb : x.lasting.biPending = y.lasting.biPending := congrArg HostPort.biPending h
  simpa [HostPort.lasting, hx, hy] using hb

/-- Port p of t is as lasting as that of s. -/
def State.KeepsPort (p : Nat) (t s : State) : Prop := (t.port p).lasting = (s.port p).lasting

namespace State.KeepsPort

variable {p : Nat}

theorem refl (s : State) : State.KeepsPort p s s := rfl
theorem trans {t u s : State} (h : State.KeepsPort p t u) (k : State.KeepsPort p u s) : State.KeepsPort p t s := Eq.trans h k

/-- An operation whose frame has no ports. -/
theorem ofSame {W : List Part} {t s : State} (h : Same W t s) (hw : W.contains .ports = false) : State.KeepsPort p t s :=
  congrArg (fun ports : Table HostPort => (tgetD ports p {}).lasting) (h.parts .ports hw)

theorem ite {c : Prop} [Decidable c] {a b s : State} (h : State.KeepsPort p a s) (k : State.KeepsPort p b s) :
    State.KeepsPort p (if c then a else b) s := by
  split <;> assumption

/-- A pair whose second is the state. -/
theorem ofSnd {β : Type} {x : β × State} {t s : State} {b : β} (e : x = (b, t)) (h : State.KeepsPort p x.2 s) : State.KeepsPort p t s := by
  subst e; exact h

theorem foldl {α : Type} {g : State → α → State} (hg : ∀ s a, State.KeepsPort p (g s a) s) (l : List α) (s : State) :
    State.KeepsPort p (l.foldl g s) s := by
  induction l generalizing s with
  | nil => exact refl s
  | cons a l ih => exact (ih (g s a)).trans (hg s a)

theorem foldlFst {α β : Type} {g : State × β → α → State × β} (hg : ∀ x a, State.KeepsPort p (g x a).1 x.1) (l : List α) (x : State × β) :
    State.KeepsPort p (l.foldl g x).1 x.1 := by
  induction l generalizing x with
  | nil => exact refl x.1
  | cons a l ih => exact (ih (g x a)).trans (hg x a)

theorem modPort_ne (s : State) {q : Nat} (f : HostPort → HostPort) (h : p ≠ q) : State.KeepsPort p (s.modPort q f) s :=
  congrArg HostPort.lasting (port_modPort_ne s f h)

theorem modPort (s : State) (q : Nat) {f : HostPort → HostPort} (hf : (f (s.port q)).lasting = (s.port q).lasting) :
    State.KeepsPort p (s.modPort q f) s := by
  by_cases hq : p = q
  · subst hq
    exact (congrArg HostPort.lasting (port_modPort s p f)).trans hf
  · exact modPort_ne s f hq

/-- A field that lasts reads the same. -/
theorem read {α : Type} {t s : State} (h : State.KeepsPort p t s) (f : HostPort → α)
    (hf : ∀ x : HostPort, f x.lasting = f x) : f (t.port p) = f (s.port p) := HostPort.read_of_lasting h f hf

end State.KeepsPort

section
variable {p : Nat}

/-! ### Snoops, vectors, answers -/

theorem keepsPort_biSnoop (s : State) (h l : Nat) : State.KeepsPort p (s.biSnoop h l) s := by
  unfold State.biSnoop
  dsimp only
  split
  next hc =>
    have hl : ((s.port h).tracked.isEmpty) = false := by
      simp only [Bool.and_eq_true, List.contains_iff_mem] at hc
      exact List.isEmpty_eq_false_iff_exists_mem.2 ⟨l, hc.1.1⟩
    exact (State.KeepsPort.ofSame (State.emit_same ..) rfl).trans (.modPort s h (by simp [HostPort.lasting, hl]))
  next => exact .refl s

theorem keepsPort_snoopOut (s : State) (but : Nat) (lines : List Nat) : State.KeepsPort p (s.snoopOut but lines) s :=
  .foldl (fun _ l => .foldl (fun s h => keepsPort_biSnoop s h l) ..) ..

theorem keepsPort_signal (s : State) (f : Fn) (v : Nat) : State.KeepsPort p (s.signal f v) s :=
  .ite (.refl s) (.ite (.ite (.ofSame (State.emit_same ..) rfl) (.refl s)) (.modPort s f.port rfl))

theorem keepsPort_event (s : State) (f : Fn) (code : BitVec 16) (object : BitVec 32) (detail : BitVec 128) :
    State.KeepsPort p (s.event f code object detail) s :=
  .ite ((keepsPort_signal ..).trans (.ofSame (State.modMbox_same ..) rfl)) rfl

theorem keepsPort_eventAll (s : State) (code : BitVec 16) (object : BitVec 32) (detail : BitVec 128) :
    State.KeepsPort p (s.eventAll code object detail) s :=
  .foldl (fun s f => keepsPort_event s f code object detail) ..

theorem keepsPort_respond (s : State) (via : Arrival) (r : Resp) : State.KeepsPort p (s.respond via r) s := by
  unfold State.respond
  split
  · split
    · exact .ite ((keepsPort_signal ..).trans (.ofSame (State.modMbox_same ..) rfl)) (.refl s)
    · exact .refl s
  · exact .ofSame (State.sendTc3_same ..) rfl
  · exact .ofSame (State.sendTc3_same ..) rfl
  · exact (State.KeepsPort.ofSame (State.emit_same ..) rfl).trans rfl
  · exact .ofSame (State.emit_same ..) rfl

theorem keepsPort_answer (s : State) (via : Arrival) (seq : BitVec 32) (op : BitVec 16) (e : BitVec 8) (result : List Byte) :
    State.KeepsPort p (s.answer via seq op e result) s := by
  unfold State.answer
  refine (keepsPort_respond ..).trans ?_
  split <;> exact .refl s

/-! ### Modes and serving -/

theorem keepsPort_setMode (s : State) (m : Mode) : State.KeepsPort p (s.setMode m) s :=
  .ite (.refl s) ((keepsPort_eventAll { s with hearth := { s.hearth with mode := m } } ..).trans rfl)

theorem keepsPort_adjustMode (s : State) : State.KeepsPort p s.adjustMode s := .ite (keepsPort_setMode ..) (.refl s)

theorem keepsPort_serveHeader (s : State) (q : QCmd) : State.KeepsPort p (s.serveHeader q) s := by
  unfold State.serveHeader
  dsimp only
  have htake : State.KeepsPort p (s.take q) s := .ofSame (State.take_same ..) rfl
  have hfin : ∀ e d, State.KeepsPort p ((s.take q).answer q.via q.seq q.opcode e d) s := fun e d => (keepsPort_answer ..).trans htake
  refine .ite (hfin ..) ?_
  split
  · exact hfin ..
  · exact .ite (hfin ..) (.ite (hfin ..) (.ite (hfin ..) (.ite (hfin ..) ((State.KeepsPort.ofSame (State.sendTc3_same ..) rfl).trans htake))))

theorem keepsPort_serveHeads (n : Nat) (s : State) : State.KeepsPort p (s.serveHeads n) s := by
  induction n generalizing s with
  | zero => exact .refl s
  | succ n ih =>
    unfold State.serveHeads
    refine .ite (.refl s) ?_
    dsimp only
    split
    · exact .refl s
    · exact (ih _).trans (keepsPort_serveHeader ..)

theorem keepsPort_activate (s : State) : State.KeepsPort p s.activate s := by
  unfold State.activate
  dsimp only
  split
  · exact .refl s
  · refine .ite (.refl s) ?_
    exact (State.KeepsPort.ofSame (State.emit_same ..) rfl).trans ((State.KeepsPort.ofSame (State.setReady_same ..) rfl).trans
      ((keepsPort_setMode { s with hearth := { s.hearth with leftMode := s.hearth.mode } } _).trans rfl))

theorem keepsPort_serve (s : State) : State.KeepsPort p s.serve s := (keepsPort_activate _).trans (keepsPort_serveHeads ..)

/-! ### Vises -/

theorem keepsPort_tellOwner (s : State) (n : Nat) (id : BitVec 16) (broken : Bool) : State.KeepsPort p (s.tellOwner n id broken) s := by
  unfold State.tellOwner
  refine .ite (.ofSame (State.modChan_same ..) rfl) ?_
  split
  · exact keepsPort_event ..
  · exact .ofSame (State.emit_same ..) rfl

theorem keepsPort_handOver (s : State) (n : Nat) (broken : Bool) : State.KeepsPort p (s.handOver n broken) s := by
  unfold State.handOver
  split
  · exact .ofSame (State.modVise_same ..) rfl
  · exact (keepsPort_tellOwner ..).trans (.ofSame (State.modVise_same ..) rfl)

theorem keepsPort_breakIdentity (s : State) (id : BitVec 16) : State.KeepsPort p (s.breakIdentity id) s :=
  .trans (.foldl (fun s _ => (keepsPort_handOver { s with vises := { s.vises with brokenReleases := satInc s.vises.brokenReleases } } ..).trans rfl) ..)
    (.foldl (fun _ _ => .ofSame (State.withdraw_same ..) rfl) ..)

theorem keepsPort_breakPf (s : State) (port : Nat) : State.KeepsPort p (s.breakPf port) s :=
  (State.KeepsPort.foldl (fun _ _ => keepsPort_breakIdentity ..) ..).trans (keepsPort_breakIdentity ..)

/-! ### D2H requests -/

theorem keepsPort_sendReads (n : Nat) (s : State) (q : Nat) : State.KeepsPort p (s.sendReads q n) s := by
  induction n generalizing s with
  | zero => exact .refl s
  | succ n ih =>
    unfold State.sendReads
    split
    · exact .refl s
    · refine .ite (.refl s) ((ih _).trans ((State.KeepsPort.foldl (fun _ _ => .ofSame (State.emit_same ..) rfl) ..).trans (.modPort s q rfl)))

theorem keepsPort_addD2h (s : State) (q : Nat) (r : D2hRead) : State.KeepsPort p (s.addD2h q r) s :=
  (keepsPort_sendReads ..).trans (.modPort s q rfl)

theorem keepsPort_dropD2h (s : State) (q : Nat) (tag : D2hTag) : State.KeepsPort p (s.dropD2h q tag) s :=
  (keepsPort_sendReads ..).trans (.modPort s q (by split <;> rfl))

/-! ### Walks -/

theorem keepsPort_lockFail (s : State) (id : Nat) (cause : BitVec 8) : State.KeepsPort p (s.lockFail id cause) s := by
  unfold State.lockFail
  split
  · exact .refl s
  · dsimp only
    split
    · exact (keepsPort_answer ..).trans rfl
    · exact (keepsPort_signal ..).trans ((State.KeepsPort.ofSame (State.raise_same ..) rfl).trans rfl)

theorem keepsPort_failLock (s : State) (w : Walk) (cause : BitVec 8) : State.KeepsPort p (s.failLock w cause) s := by
  unfold State.failLock
  split
  · exact keepsPort_lockFail ..
  · exact .refl s

theorem keepsPort_walkFault (s : State) (w : Walk) (cause : BitVec 8) (level : Nat) : State.KeepsPort p (s.walkFault w cause level) s := by
  unfold State.walkFault
  dsimp only
  have hend : State.KeepsPort p (s.endWalk w.id) s := .ofSame (State.endWalk_same ..) rfl
  have hcount : State.KeepsPort p (if w.domain < 1024 then (s.endWalk w.id).count 0x0062 w.domain 0 1 else s.endWalk w.id) s :=
    .ite ((State.KeepsPort.ofSame (State.count_same ..) rfl).trans hend) hend
  exact (keepsPort_failLock ..).trans ((State.KeepsPort.ofSame (State.logFault_same ..) rfl).trans hcount)

theorem keepsPort_readEntry (s : State) (w : Walk) : State.KeepsPort p (s.readEntry w) s :=
  .ite (keepsPort_walkFault ..) ((keepsPort_addD2h ..).trans (.ofSame (State.setWalk_same ..) rfl))

theorem keepsPort_walkFrom (s : State) (w : Walk) : State.KeepsPort p (s.walkFrom w) s := keepsPort_readEntry ..

theorem keepsPort_beginWalk (s : State) (w : Walk) : State.KeepsPort p (s.beginWalk w) s :=
  .ite rfl ((keepsPort_walkFrom ..).trans rfl)

theorem keepsPort_startHeld (n : Nat) (s : State) : State.KeepsPort p (s.startHeld n) s := by
  induction n generalizing s with
  | zero => exact .refl s
  | succ n ih =>
    unfold State.startHeld
    split
    · exact .refl s
    · exact (ih _).trans ((keepsPort_beginWalk ..).trans rfl)

theorem keepsPort_resumeWalks (s : State) : State.KeepsPort p s.resumeWalks s := (keepsPort_serve _).trans (keepsPort_startHeld ..)

theorem keepsPort_touchPage (s : State) (d : Nat) (va : Word) (access : BitVec 2) (who : BitVec 29) (which : BitVec 32) (remote : Bool) :
    State.KeepsPort p (s.touchPage d va access who which remote) s := by
  unfold State.touchPage
  extract_lets f
  split
  next t ht =>
  have ht : State.KeepsPort p t s := .ofSnd ht rfl
  extract_lets +onlyGivenNames u w
  have hu : State.KeepsPort p u s := State.KeepsPort.trans (.ite (.ofSame (State.count_same ..) rfl) (.refl t)) ht
  clear_value u
  refine .ite ((State.KeepsPort.ofSame (State.logFault_same ..) rfl).trans hu) (.ite ((State.KeepsPort.ofSame (State.logFault_same ..) rfl).trans hu) ?_)
  split
  · exact hu
  · extract_lets +onlyGivenNames v
    have hv : State.KeepsPort p v s := State.KeepsPort.trans (.ite (.ofSame (State.count_same ..) rfl) (.refl u)) hu
    clear_value v
    exact .ite hv ((keepsPort_beginWalk ..).trans hv)

theorem keepsPort_touch (s : State) (d : Nat) (va : Word) (len : Nat) (access : BitVec 2) (who : BitVec 29) (which : BitVec 32) (remote : Bool) :
    State.KeepsPort p (s.touch d va len access who which remote) s :=
  .ite (.refl s) (.foldl (fun _ _ => keepsPort_touchPage ..) ..)

theorem keepsPort_hostRead (s : State) (port : Nat) (tag : D2hTag) (domain : Nat) (va : Word) (len : Nat) (who : BitVec 29) (which : BitVec 32) :
    State.KeepsPort p (s.hostRead port tag domain va len who which) s :=
  (keepsPort_addD2h ..).trans (keepsPort_touch ..)

theorem keepsPort_hostPut (s : State) (port domain : Nat) (va : Word) (bs : List Byte) (poisoned : Bool) (who : BitVec 29) (which : BitVec 32)
    (remote : Bool) : State.KeepsPort p (s.hostPut port domain va bs poisoned who which remote) s :=
  (State.KeepsPort.ofSame (State.writeLines_same ..) rfl).trans (keepsPort_touch ..)

/-! ### Rings and records -/

theorem keepsPort_drainRing (n : Nat) (s : State) (ring : Nat) : State.KeepsPort p (s.drainRing ring n) s := by
  induction n generalizing s with
  | zero => exact .refl s
  | succ n ih =>
    unfold State.drainRing
    split
    · exact .refl s
    · split
      · exact .refl s
      · refine .ite ((ih _).trans ((State.KeepsPort.ofSame (State.countStale_same ..) rfl).trans (.ofSame (State.modCq_same ..) rfl))) (.ite ?_ (.refl s))
        split
        next r t hr =>
        have ht : State.KeepsPort p t s := .ofSnd hr (.ofSame (State.fillEvent_same ..) rfl)
        exact (ih _).trans ((State.KeepsPort.ofSame (State.emit_same ..) rfl).trans ((keepsPort_touch ..).trans
          ((State.KeepsPort.ofSame (State.modCq_same ..) rfl).trans ht)))

theorem keepsPort_drain (s : State) (ring : Nat) : State.KeepsPort p (s.drain ring) s := by
  unfold State.drain
  split
  · exact .refl s
  · exact keepsPort_drainRing ..

/-- A count of whose record it is. -/
theorem keepsPort_countInst (s : State) (code : Nat) (inst : Option Nat) :
    State.KeepsPort p ((inst.map fun i => s.count code i 0 1).getD s) s := by
  cases inst with
  | none => exact .refl s
  | some i => exact .ofSame (State.count_same s code i 0 1) rfl

theorem keepsPort_makeRec (s : State) (ring : Nat) (r : Rec) : State.KeepsPort p (s.makeRec ring r) s :=
  .ite (.refl s) (.ite (.ofSame (State.countStale_same ..) rfl) ((keepsPort_drain ..).trans ((State.KeepsPort.ofSame (State.modCq_same ..) rfl).trans
    (.ite (keepsPort_countInst ..) (.refl s)))))

theorem keepsPort_writeBackWq (s : State) (n : Nat) : State.KeepsPort p (s.writeBackWq n) s := by
  unfold State.writeBackWq
  split
  · exact .refl s
  · exact .ite (.refl s) ((keepsPort_hostPut ..).trans (.ofSame (State.modWq_same ..) rfl))

theorem keepsPort_queueGone (s : State) (q : Nat) : State.KeepsPort p (s.queueGone q) s := by
  unfold State.queueGone
  split
  · exact .refl s
  · refine .ite ?_ (.refl s)
    have h : State.KeepsPort p { s.writeBackWq q with wqs := tdel (s.writeBackWq q).wqs q } s := (keepsPort_writeBackWq s q :)
    dsimp only
    split
    · exact (keepsPort_answer ..).trans h
    · exact h

theorem keepsPort_complete (s : State) (q : Nat) (index : BitVec 32) (line : Line) (epoch : BitVec 16) (status : BitVec 8) (bytes : Nat)
    (result : BitVec 256) : State.KeepsPort p (s.complete q index line epoch status bytes result) s := by
  unfold State.complete
  split
  · exact .refl s
  · refine .ite (.refl s) ?_
    extract_lets r s1 s2 s3
    have h2 : State.KeepsPort p s2 s := (State.KeepsPort.ofSame (State.owe_same ..) rfl).trans (.ofSame (State.modWq_same ..) rfl)
    have h3 : State.KeepsPort p s3 s := State.KeepsPort.trans (.ite (.refl s2) (keepsPort_makeRec ..)) h2
    clear_value s3
    exact (keepsPort_queueGone ..).trans ((State.KeepsPort.ofSame (State.tagDone_same ..) rfl).trans
      ((State.KeepsPort.ofSame (State.updateWait_same ..) rfl).trans h3))

theorem keepsPort_missedArrivals (s : State) (ring : Nat) : State.KeepsPort p (s.missedArrivals ring) s := by
  refine .foldl (fun s e => .ite ?_ (.refl s)) ..
  split
  · exact .ite ((keepsPort_makeRec ..).trans (.ofSame (State.modCtx_same ..) rfl)) (.refl s)
  · exact .refl s

/-! ### Gets that read again -/

theorem keepsPort_readLocal (s : State) (o : SrcOp) (tag : D2hTag) (off n : Nat) : State.KeepsPort p (s.readLocal o tag off n) s :=
  (keepsPort_addD2h ..).trans (.foldl (fun _ _ => keepsPort_touch ..) ..)

theorem keepsPort_readForGet (s : State) (req : Packet) (i : Nat) (resent : Bool) : State.KeepsPort p (s.readForGet req i resent) s := by
  unfold State.readForGet
  dsimp only
  refine .ite ?_ (.ite (.ofSame (State.sendGetResp_same ..) rfl) (keepsPort_hostRead ..))
  split
  · exact keepsPort_readLocal ..
  · exact .refl s

theorem keepsPort_rereadLocal (s : State) (req : Packet) (l : List Nat) : State.KeepsPort p (s.rereadLocal req l).1 s := by
  refine .foldlFst (fun x i => ?_) ..
  dsimp only
  split
  · exact keepsPort_readForGet ..
  · exact keepsPort_snoopOut ..

theorem keepsPort_resumeReads (s : State) : State.KeepsPort p s.resumeReads s := by
  refine .trans (.foldl (fun s t => ?_) ..) (.foldl (fun s e => ?_) ..) <;> split
  · exact .ite ((State.KeepsPort.ofSame (State.setTomb_same ..) rfl).trans (keepsPort_rereadLocal ..)) (.refl s)
  · exact .refl s
  · exact .ite ((State.KeepsPort.ofSame (State.setOpen_same ..) rfl).trans (keepsPort_rereadLocal ..)) (.refl s)
  · exact .refl s

/-! ### Instances that reset -/

theorem keepsPort_dropJobs (s : State) (n : Nat) : State.KeepsPort p (s.dropJobs n) s :=
  (State.KeepsPort.ofSame (State.modChan_same ..) rfl).trans (.modPort s _ rfl)

theorem keepsPort_dropChan (s : State) (n : Nat) : State.KeepsPort p (s.dropChan n) s :=
  (keepsPort_breakIdentity ..).trans ((keepsPort_dropJobs ..).trans ((State.KeepsPort.ofSame (State.modChan_same ..) rfl).trans (keepsPort_dropD2h ..)))

theorem keepsPort_endPart (s : State) (r : Nat) (seq : BitVec 16) (part : CollPart) (status : BitVec 8) :
    State.KeepsPort p (s.endPart r seq part status) s := by
  unfold State.endPart
  split
  · exact .refl s
  · have h : State.KeepsPort p (s.modPart r seq part.inst fun p => { p with done := true, err := status }) s := .ofSame (State.modPart_same ..) rfl
    exact .ite ((State.KeepsPort.ofSame (State.countStale_same ..) rfl).trans h) ((keepsPort_complete ..).trans h)

theorem keepsPort_endOps (s : State) (r : Nat) (status : BitVec 8) : State.KeepsPort p (s.endOps r status) s := by
  unfold State.endOps
  split
  · exact .refl s
  · exact .foldl (fun s o => .foldl (fun s part => .ite (.refl s) (keepsPort_endPart ..)) ..) ..

theorem keepsPort_abortHere (s : State) (r : Nat) (lost : ModId) : State.KeepsPort p (s.abortHere r lost) s := by
  unfold State.abortHere
  split
  · exact .refl s
  · refine .ite (.refl s) ((State.KeepsPort.ofSame (State.raise_same ..) rfl).trans ?_)
    exact (State.KeepsPort.ofSame (State.modGroup_same ..) rfl).trans (keepsPort_endOps ..)

theorem keepsPort_abortGroup (s : State) (r : Nat) (lost : ModId) : State.KeepsPort p (s.abortGroup r lost) s := by
  unfold State.abortGroup
  split
  · exact .refl s
  · exact (State.KeepsPort.foldl (fun _ _ => .ofSame (State.sendCtrl_same ..) rfl) ..).trans (keepsPort_abortHere ..)

theorem keepsPort_memberLost (s : State) (i : Nat) : State.KeepsPort p (s.memberLost i) s :=
  .foldl (fun s _ => .ite (.refl s) (.ite (keepsPort_abortGroup ..) ((State.KeepsPort.ofSame (State.sendCtrl_same ..) rfl).trans
    (keepsPort_abortHere ..)))) ..

theorem keepsPort_enter (s : State) (i : Nat) (st : IState) : State.KeepsPort p (s.enter i st) s :=
  .ite (.ofSame (State.modInst_same ..) rfl) ((State.KeepsPort.foldl (fun _ _ => keepsPort_event ..) ..).trans (.ofSame (State.modInst_same ..) rfl))

theorem keepsPort_answerInst (s : State) (i : Nat) (error : BitVec 8) (result : List Byte) :
    State.KeepsPort p (s.answerInst i error result) s :=
  (State.KeepsPort.foldl (fun _ _ => keepsPort_answer ..) ..).trans (.ofSame (State.modInst_same ..) rfl)

theorem keepsPort_dropFetched (s : State) (q : Nat) : State.KeepsPort p (s.dropFetched q) s := by
  unfold State.dropFetched
  split
  · exact .refl s
  · refine (State.KeepsPort.ofSame (State.owe_same ..) rfl).trans ((State.KeepsPort.ofSame (State.modWq_same ..) rfl).trans ?_)
    split
    · exact keepsPort_dropD2h ..
    · exact .refl s

theorem keepsPort_beginReset (s : State) (i : Nat) (cause : BitVec 3) : State.KeepsPort p (s.beginReset i cause) s := by
  refine .ite (.refl s) ((keepsPort_memberLost ..).trans ((keepsPort_breakIdentity ..).trans (.trans (.foldl (fun _ _ => keepsPort_dropChan ..) ..)
    (.trans (.foldl (fun _ _ => keepsPort_dropFetched ..) ..) ((keepsPort_enter ..).trans (.trans (.ofSame (State.modInst_same ..) rfl) ?_))))))
  exact keepsPort_answerInst ..

/-! ### Segments and what waits for a line -/

theorem keepsPort_exposeDone (s : State) : State.KeepsPort p s.exposeDone s :=
  (State.KeepsPort.foldl (fun _ _ => keepsPort_answer ..) ..).trans rfl

theorem keepsPort_exposeSnoop (s : State) : State.KeepsPort p s.exposeSnoop s :=
  .foldl (fun _ _ => .foldl (fun s _ => .ite (.refl s) (.foldl (fun _ _ => keepsPort_biSnoop ..) ..)) ..) ..

/-- Serving another head's request leaves a port. -/
theorem keepsPort_memOne {s : State} {head : Nat} (r : MemReq) (h : p ≠ head) : State.KeepsPort p (s.memOne head r).1 s := by
  unfold State.memOne
  dsimp only
  have htrack : ∀ l, State.KeepsPort p (s.track head l) s := fun l => .ite (.refl s) (.modPort_ne s _ h)
  split
  · split
    · exact .ofSame (State.emit_same ..) rfl
    · split
      · exact .refl s
      · split
        · exact keepsPort_snoopOut ..
        · split
          · split
            · exact keepsPort_biSnoop { s with free := s.free + 1 } ..
            · exact .refl s
          · exact (State.KeepsPort.ofSame (State.emit_same ..) rfl).trans (htrack _)
  · split
    · exact (State.KeepsPort.ofSame (State.emit_same ..) rfl).trans (.ofSame (State.raiseAt_same ..) rfl)
    · split
      · exact .refl s
      · split
        · exact keepsPort_snoopOut ..
        · exact (State.KeepsPort.ofSame (State.emit_same ..) rfl).trans ((State.KeepsPort.ofSame (State.count_same ..) rfl).trans
            (.ofSame (State.storeMem_same ..) rfl))

theorem keepsPort_serveMem {s : State} (head : Nat) (h : p = head → (s.port head).m2s = []) : State.KeepsPort p (s.serveMem head) s := by
  by_cases hp : p = head
  · rw [State.serveMem, h hp]
    exact .refl s
  · refine .foldl (fun s r => ?_) ..
    have hone := keepsPort_memOne (s := s) r hp
    exact .ite ((State.KeepsPort.modPort_ne _ _ hp).trans hone) hone

/-- A head that has no request waiting stays as it is when all are served. -/
theorem keepsPort_serveAllMem {s : State} (h : (s.port p).m2s = []) : State.KeepsPort p s.serveAllMem s := by
  unfold State.serveAllMem
  generalize List.range 4 = heads
  induction heads generalizing s with
  | nil => exact .refl s
  | cons head heads ih =>
    have hone : State.KeepsPort p (s.serveMem head) s := keepsPort_serveMem head fun e => e ▸ h
    exact (ih ((hone.read HostPort.m2s (fun _ => rfl)).trans h)).trans hone

end

end Sys2Proof.Machine
end

section
/-! PROOFS. Module memory as the heads see it (R264-R270), HOST.CFG (R274), an unmasked vector (R277): O25. -/

namespace Sys2Proof.Machine

open Sys2Proof

/-! ### Back-invalidations -/

/-- An output is at the end of what has left. -/
theorem out_emit (s : State) (o : Output) : (s.emit o).out = s.out ++ [o] := rfl

theorem mem_out_emit (s : State) (o : Output) : o ∈ (s.emit o).out := List.mem_append_right _ (List.mem_singleton_self o)

theorem port_emit (s : State) (o : Output) (p : Nat) : (s.emit o).port p = s.port p := by rw [State.port, ports_emit]; rfl

theorem port_biSnoop_ne (s : State) {g h : Nat} (l : Nat) (hg : h ≠ g) : (s.biSnoop g l).port h = s.port h := by
  unfold State.biSnoop
  dsimp only
  split
  · rw [port_emit, port_modPort_ne _ _ hg]
  · rfl

/-- An outstanding back-invalidation stays so. -/
theorem biSnoop_keeps_pending {s : State} {h l : Nat} (g k : Nat) (hl : l ∈ (s.port h).biPending) : l ∈ ((s.biSnoop g k).port h).biPending := by
  by_cases hg : h = g
  · subst hg
    unfold State.biSnoop
    dsimp only
    split
    · rw [port_emit, port_modPort]
      exact List.mem_append_left _ hl
    · exact hl
  · rwa [port_biSnoop_ne s k hg]

/-- A line that a head tracks is snooped there, where there is room or it is snooped already. -/
theorem biSnoop_pends {s : State} {h l : Nat} (ht : l ∈ (s.port h).tracked) (hroom : (s.port h).biPending.length < 256) :
    l ∈ ((s.biSnoop h l).port h).biPending := by
  by_cases hp : l ∈ (s.port h).biPending
  · exact biSnoop_keeps_pending h l hp
  · have hc : ((s.port h).tracked.contains l && !(s.port h).biPending.contains l && decide ((s.port h).biPending.length < 256)) = true := by
      simp [ht, hp, hroom]
    rw [State.biSnoop, if_pos hc, port_emit, port_modPort]
    exact List.mem_append_right _ (List.mem_singleton_self l)

theorem biSnoop_heads_keep_pending {s : State} {h l : Nat} (heads : List Nat) (k : Nat) (hl : l ∈ (s.port h).biPending) :
    l ∈ ((heads.foldl (fun s g => s.biSnoop g k) s).port h).biPending := by
  induction heads generalizing s with
  | nil => exact hl
  | cons g heads ih => exact ih (biSnoop_keeps_pending g k hl)

theorem biSnoop_heads_pends {s : State} {h l : Nat} {heads : List Nat} (hh : h ∈ heads) (ht : l ∈ (s.port h).tracked)
    (hroom : (s.port h).biPending.length < 256) : l ∈ ((heads.foldl (fun s g => s.biSnoop g l) s).port h).biPending := by
  induction heads generalizing s with
  | nil => exact absurd hh List.not_mem_nil
  | cons g heads ih =>
    rw [List.foldl_cons]
    by_cases hg : h = g
    · subst hg
      exact biSnoop_heads_keep_pending heads l (biSnoop_pends ht hroom)
    · have hport := port_biSnoop_ne s l hg
      exact ih ((List.mem_cons.1 hh).resolve_left hg) (by rwa [hport]) (by rwa [hport])

theorem snoopOut_pends {s : State} {head h l : Nat} (h4 : h < 4) (hne : h ≠ head) (ht : l ∈ (s.port h).tracked)
    (hroom : (s.port h).biPending.length < 256) : l ∈ ((s.snoopOut head [l]).port h).biPending :=
  biSnoop_heads_pends (List.mem_filter.2 ⟨List.mem_range.2 h4, by simpa using hne⟩) ht hroom

/-! ### One request, served -/

/-- Whether another head than one holds a line (R266). -/
theorem heldBy_eq_false {s : State} {head l : Nat} (h : ∀ g < 4, g ≠ head → l ∉ (s.port g).tracked) :
    ((List.range 4).any fun g => g != head && (s.port g).tracked.contains l) = false := by
  simp only [List.any_eq_false, List.mem_range, Bool.and_eq_true, bne_iff_ne, List.contains_iff_mem, not_and]
  exact h

theorem heldBy_eq_true {s : State} {head g l : Nat} (h4 : g < 4) (hne : g ≠ head) (ht : l ∈ (s.port g).tracked) :
    ((List.range 4).any fun g => g != head && (s.port g).tracked.contains l) = true :=
  List.any_eq_true.2 ⟨g, List.mem_range.2 h4, by simp [hne, ht]⟩

theorem memOne_read_done {s : State} {head a : Nat} (hexp : bit (s.exposed (a / Config.segBytes)) head = true)
    (hfree : ∀ g < 4, g ≠ head → a / 64 ∉ (s.port g).tracked)
    (hroom : (s.port head).flitMode = 0 ∨ a / 64 ∈ (s.port head).tracked ∨ (s.port head).tracked.length < 262144) :
    s.memOne head { window := false, addr := a, write := none } =
      ((s.track head (a / 64)).emit (.memData head (memRead s.mem a 64) (s.memHalt || s.memPoisoned a 64)), true) := by
  have hnot : ¬((s.port head).flitMode ≠ 0 ∧ (!(s.port head).tracked.contains (a / 64)) = true ∧
      Config.trackedMax ≤ (s.port head).tracked.length) := by
    simp only [Bool.not_eq_true', List.contains_eq_mem, decide_eq_false_iff_not, Config.trackedMax]
    rintro ⟨hf, ht, hlen⟩
    rcases hroom with h | h | h
    · exact hf h
    · exact ht h
    · omega
  simp only [State.memOne, hexp, heldBy_eq_false hfree, hnot, Bool.not_true, Bool.false_eq_true, if_false]

theorem memOne_read_held {s : State} {head g a : Nat} (hexp : bit (s.exposed (a / Config.segBytes)) head = true)
    (h4 : g < 4) (hne : g ≠ head) (ht : a / 64 ∈ (s.port g).tracked) :
    s.memOne head { window := false, addr := a, write := none } = (s.snoopOut head [a / 64], false) := by
  simp only [State.memOne, hexp, heldBy_eq_true h4 hne ht, Bool.not_true, Bool.false_eq_true, if_false, if_true]

theorem memOne_write_done {s : State} {head a : Nat} {data : List Byte}
    (hexp : ∀ l ∈ linesOf a data.length, bit (s.exposed (l * 64 / Config.segBytes)) head = true)
    (hfree : ∀ l ∈ linesOf a data.length, ∀ g < 4, g ≠ head → l ∉ (s.port g).tracked) :
    s.memOne head { window := false, addr := a, write := some data } =
      (((s.storeMem a data false).count 0x8012 head 0 data.length).emit (.memDone head), true) := by
  have hall : ((linesOf a data.length).all fun l => bit (s.exposed (l * 64 / Config.segBytes)) head) = true := List.all_eq_true.2 hexp
  have hnone : ((linesOf a data.length).any fun l => (List.range 4).any fun g => g != head && (s.port g).tracked.contains l) = false :=
    List.any_eq_false.2 fun l hl => by rw [heldBy_eq_false (hfree l hl)]; exact Bool.false_ne_true
  simp only [State.memOne, hall, hnone, Bool.not_true, Bool.false_eq_true, if_false]

/-! ### A head's only request -/

/-- The request of a CXL.mem read. -/
def MemReq.ofRead (window : Bool) (offset : Word) : MemReq := { window, addr := offset.toNat / 64 * 64, write := none }

/-- The request of a CXL.mem write. -/
def MemReq.ofWrite (window : Bool) (offset : Word) (data : List Byte) : MemReq := { window, addr := offset.toNat, write := some data }

section
variable {s : State} {head : Nat}

theorem port_memPut_ne (r : MemReq) {g : Nat} (h : g ≠ head) : (s.memPut head r).port g = s.port g := port_modPort_ne s _ h

theorem port_memPut (r : MemReq) : (s.memPut head r).port head = { s.port head with m2s := [r] } := port_modPort ..

theorem memDrop_m2s {t : State} {r : MemReq} (h : (t.port head).m2s = [r]) : ((t.memDrop head r).port head).m2s = [] := by
  rw [State.memDrop, port_modPort, h, List.erase_cons_head]

theorem tracked_track (l : Nat) (hf : (s.port head).flitMode ≠ 0) : l ∈ ((s.track head l).port head).tracked := by
  rw [State.track, if_neg hf, port_modPort]
  exact (mem_nset ..).2 (.inl rfl)

theorem m2s_track (l : Nat) : ((s.track head l).port head).m2s = (s.port head).m2s := by
  unfold State.track
  split
  · rfl
  · rw [port_modPort]

theorem mem_memDrop (t : State) (r : MemReq) : (t.memDrop head r).mem = t.mem := mem_modPort ..
theorem out_memDrop (t : State) (r : MemReq) : (t.memDrop head r).out = t.out := out_modPort ..
theorem quench_memDrop (t : State) (r : MemReq) : (t.memDrop head r).quench = t.quench := quench_modPort ..

/-- The outcome of a read whose only request, served, is done. -/
theorem completes_cxlMemRead {t : State} {window : Bool} {offset : Word} {P : State → Prop} (hspan : offset.toNat / 64 * 64 < memSpan window)
    (hon : s.memOn head = true) (hm : (s.port head).m2s = [])
    (hone : (s.memPut head (.ofRead window offset)).memOne head (.ofRead window offset) = (t, true))
    (hP : P (t.memDrop head (.ofRead window offset))) : Completes (exec (.cxlMemRead head false window offset) s) P :=
  ⟨_, (cxlMemRead_comes hspan).trans (congrArg Host.Outcome.next (memCome_done hon hm hone)), hP⟩

/-- The outcome of a write whose only request, served, is done. -/
theorem completes_cxlMemWrite {t : State} {window : Bool} {offset : Word} {data : List Byte} {P : State → Prop}
    (hspan : offset.toNat + data.length ≤ memSpan window) (hon : s.memOn head = true) (hm : (s.port head).m2s = [])
    (hone : (s.memPut head (.ofWrite window offset data)).memOne head (.ofWrite window offset data) = (t, true))
    (hP : P (t.memDrop head (.ofWrite window offset data))) : Completes (exec (.cxlMemWrite head false window offset data) s) P :=
  ⟨_, (cxlMemWrite_comes hspan).trans (congrArg Host.Outcome.next (memCome_done hon hm hone)), hP⟩

theorem line_addr (offset : Word) : offset.toNat / 64 * 64 / 64 = offset.toNat / 64 := Nat.mul_div_cancel _ (by decide)

/-- R265, R266, R268: a read that no other head's line holds up is done, its line tracked. -/
theorem read_done {offset : Word} (hon : s.memOn head = true) (hspan : offset.toNat / 64 * 64 < Config.memBytes)
    (hexp : bit (s.exposed (offset.toNat / 64 * 64 / Config.segBytes)) head = true) (hm : (s.port head).m2s = [])
    (hfree : ∀ h < 4, h ≠ head → offset.toNat / 64 ∉ (s.port h).tracked)
    (hroom : (s.port head).flitMode = 0 ∨ offset.toNat / 64 ∈ (s.port head).tracked ∨ (s.port head).tracked.length < 262144) :
    Completes (exec (.cxlMemRead head false false offset) s) fun t => t.mem = s.mem ∧ (t.port head).m2s = [] ∧
      ((s.port head).flitMode ≠ 0 → offset.toNat / 64 ∈ (t.port head).tracked) ∧ Output.memData head
      (memRead s.mem (offset.toNat / 64 * 64) 64) (s.memHalt || s.memPoisoned (offset.toNat / 64 * 64) 64) ∈ t.out := by
  have hone := memOne_read_done (s := s.memPut head (.ofRead false offset)) hexp
    (fun g h4 hne => by rw [port_memPut_ne _ hne, line_addr]; exact hfree g h4 hne) (by rw [port_memPut, line_addr]; exact hroom)
  rw [line_addr] at hone
  refine completes_cxlMemRead hspan hon hm hone ⟨?_, memDrop_m2s ?_, fun hf => ?_, ?_⟩
  · rw [mem_memDrop, mem_emit, (State.track_same ..).parts .mem rfl]
    exact mem_modPort ..
  · rw [port_emit, m2s_track, port_memPut]
  · rw [State.memDrop, port_modPort, port_emit]
    exact tracked_track _ (by rwa [port_memPut])
  · rw [out_memDrop]
    exact mem_out_emit ..

/-- R266, R268: a read of a line that another head holds waits for the back-invalidation that it sends. -/
theorem read_waits {h : Nat} {offset : Word} (hon : s.memOn head = true) (hspan : offset.toNat / 64 * 64 < Config.memBytes)
    (hexp : bit (s.exposed (offset.toNat / 64 * 64 / Config.segBytes)) head = true) (hm : (s.port head).m2s = [])
    (h4 : h < 4) (hne : h ≠ head) (ht : offset.toNat / 64 ∈ (s.port h).tracked) (hroom : (s.port h).biPending.length < 256) :
    Completes (exec (.cxlMemRead head false false offset) s) fun t => t.mem = s.mem ∧ offset.toNat / 64 ∈ (t.port h).biPending ∧
      (t.port head).m2s = [{ window := false, addr := offset.toNat / 64 * 64, write := none }] := by
  have hport : (s.memPut head (.ofRead false offset)).port h = s.port h := port_memPut_ne _ hne
  have hone := memOne_read_held (s := s.memPut head (.ofRead false offset)) hexp h4 hne (by rw [hport, line_addr]; exact ht)
  rw [line_addr] at hone
  refine ⟨_, (cxlMemRead_comes hspan).trans (congrArg Host.Outcome.next (memCome_waits hon hm hone)), ?_, ?_, ?_⟩
  · rw [(State.snoopOut_same ..).parts .mem rfl]
    exact mem_modPort ..
  · exact snoopOut_pends h4 hne (by rwa [hport]) (by rwa [hport])
  · rw [(keepsPort_snoopOut ..).read HostPort.m2s (fun _ => rfl)]
    exact memPut_m2s ..

/-- R265: a read of the report window is done. -/
theorem window_read_done {offset : Word} (hon : s.memOn head = true) (hspan : offset.toNat / 64 * 64 < Config.segBytes)
    (hm : (s.port head).m2s = []) :
    Completes (exec (.cxlMemRead head false true offset) s) fun t => t.mem = s.mem ∧ Output.memData head
      ((List.range 64).map fun i => s.windowByte head (offset.toNat / 64 * 64 + i))
      (s.memHalt || s.memPoisoned (reportBase + offset.toNat / 64 * 64) 64) ∈ t.out := by
  refine completes_cxlMemRead hspan hon hm rfl ⟨?_, ?_⟩
  · rw [mem_memDrop, mem_emit]
    exact mem_modPort ..
  · rw [out_memDrop]
    exact mem_out_emit ..

/-- R268: a write to lines that no other head holds stores its data and nothing else. -/
theorem write_done {offset : Word} {data : List Byte} (hon : s.memOn head = true) (hspan : offset.toNat + data.length ≤ Config.memBytes)
    (hlines : ∀ l ∈ linesOf offset.toNat data.length, bit (s.exposed (l * 64 / Config.segBytes)) head = true ∧
      ∀ h < 4, h ≠ head → l ∉ (s.port h).tracked) (hwf : Memory.wf s.mem = true) (hm : (s.port head).m2s = []) :
    Completes (exec (.cxlMemWrite head false false offset data) s) fun t => Output.memDone head ∈ t.out ∧
      (∀ k b, data[k]? = some b → memGet t.mem (offset.toNat + k) = b) ∧
      ∀ a, a < offset.toNat ∨ offset.toNat + data.length ≤ a → memGet t.mem a = memGet s.mem a := by
  have hone := memOne_write_done (s := s.memPut head (.ofWrite false offset data)) (fun l hl => (hlines l hl).1)
    (fun l hl g h4 hne => by rw [port_memPut_ne _ hne]; exact (hlines l hl).2 g h4 hne)
  refine completes_cxlMemWrite hspan hon hm hone ?_
  rw [mem_memDrop, mem_emit, mem_count, out_memDrop]
  exact ⟨mem_out_emit .., fun k b hk => memGet_memWrite_at _ hwf hk, fun a ha => memGet_memWrite_out _ _ _ _ ha⟩

/-- R265: a write to the report window is discarded with a Notice. -/
theorem window_write_done {offset : Word} {data : List Byte} (hon : s.memOn head = true) (hspan : offset.toNat + data.length ≤ Config.segBytes)
    (hm : (s.port head).m2s = []) :
    Completes (exec (.cxlMemWrite head false true offset data) s) fun t => t.mem = s.mem ∧ Output.memDone head ∈ t.out ∧
      ∃ e : QEvent, e.source = 1024 + 32 * head + 8 ∧ t.quench.raised = s.quench.raised ++ [e] := by
  refine completes_cxlMemWrite hspan hon hm rfl ?_
  rw [mem_memDrop, mem_emit, mem_raiseAt, out_memDrop, quench_memDrop, quench_emit]
  exact ⟨mem_modPort .., mem_out_emit .., _, rfl, raised_raiseAt ..⟩

end

/-- R250: a request of another hierarchy's raises a Notice. -/
theorem memCome_foreign {s : State} {head : Nat} (r : MemReq) (hon : s.memOn head = true) :
    s.memCome head true r = s.raiseAt (1024 + 32 * head + 1) head := by
  rw [State.memCome, if_neg (by simp [hon]), if_pos rfl]

theorem foreign_raises {s : State} {head : Nat} (r : MemReq) (hon : s.memOn head = true) :
    Completes (.next (s.memCome head true r)) fun t => t.mem = s.mem ∧ t.ports = s.ports ∧
      ∃ e : QEvent, e.source = 1024 + 32 * head + 1 ∧ t.quench.raised = s.quench.raised ++ [e] := by
  rw [memCome_foreign r hon]
  exact ⟨_, rfl, mem_raiseAt .., ports_raiseAt .., _, rfl, raised_raiseAt ..⟩

theorem cxlMemRead_foreign (head : Nat) (window : Bool) (offset : Word) (s : State) :
    exec (.cxlMemRead head true window offset) s = .next (s.memCome head true (.ofRead window offset)) :=
  if_neg (by simp)

theorem cxlMemWrite_foreign (head : Nat) (window : Bool) (offset : Word) (data : List Byte) (s : State) :
    exec (.cxlMemWrite head true window offset data) s = .next (s.memCome head true (.ofWrite window offset data)) :=
  if_neg (by simp)

/-! ### BIRsp (R268) -/

/-- Where no head has a request waiting, none is served. -/
theorem serveAllMem_idle {s : State} (h : ∀ g < 4, (s.port g).m2s = []) : s.serveAllMem = s := by
  have hidle : ∀ g < 4, s.serveMem g = s := fun g hg => by rw [State.serveMem, h g hg]; rfl
  simp only [State.serveAllMem, show List.range 4 = [0, 1, 2, 3] from rfl, List.foldl_cons, List.foldl_nil, hidle 0 (by decide),
    hidle 1 (by decide), hidle 2 (by decide), hidle 3 (by decide)]

/-- A BIRsp releases its line. -/
theorem birsp_releases {s : State} {head line : Nat} (hline : line ∈ (s.port head).biPending) (hidle : ∀ h < 4, (s.port h).m2s = []) :
    Completes (exec (.birsp head line) s) fun t => (t.port head).tracked = ndel (s.port head).tracked line := by
  have hpend : ¬(!(s.port head).biPending.contains line) = true := by simpa using hline
  generalize hu : (s.modPort head fun p => { p with biPending := p.biPending.erase line, tracked := ndel p.tracked line }) = u
  have hum : ∀ h < 4, (u.port h).m2s = [] := fun h h4 => by
    subst hu
    by_cases hh : h = head
    · subst hh
      rw [port_modPort]
      exact hidle h h4
    · rw [port_modPort_ne _ _ hh]
      exact hidle h h4
  have hkeep : ∀ h, State.KeepsPort h u.exposeSnoop.exposeDone u := fun h => (keepsPort_exposeDone _).trans (keepsPort_exposeSnoop _)
  have hall : u.exposeSnoop.exposeDone.serveAllMem = u.exposeSnoop.exposeDone :=
    serveAllMem_idle fun h h4 => ((hkeep h).read HostPort.m2s (fun _ => rfl)).trans (hum h h4)
  refine ⟨_, if_neg hpend, ?_⟩
  dsimp only
  rw [hu, hall, ((keepsPort_serve _).trans ((keepsPort_resumeReads _).trans (hkeep head))).read HostPort.tracked (fun _ => rfl), ← hu, port_modPort]

/-! ### The manager's commands -/

@[simp] theorem port_take (s : State) (q : QCmd) (p : Nat) : (s.take q).port p = s.port p := by rw [State.port, ports_take]; rfl

theorem exposed_put (s : State) (seg : Nat) (heads : BitVec 4) :
    tgetD (if heads = 0 then tdel s.segments seg else tset s.segments seg heads) seg 0 = heads ∧
      ∀ g, g ≠ seg → tgetD (if heads = 0 then tdel s.segments seg else tset s.segments seg heads) g 0 = s.exposed g := by
  split
  next h => exact ⟨by rw [tgetD, tget_tdel_same, h]; rfl, fun g hg => tgetD_tdel_ne _ _ _ _ hg⟩
  next => exact ⟨tgetD_tset_same .., fun g hg => tgetD_tset_ne _ _ _ _ _ hg⟩

/-- R264, R266, R267: SEGMENT_EXPOSE gives a segment its heads. -/
theorem segmentExpose_exposes {s : State} {c : Call} {seg : Nat} {heads : BitVec 4} (hlo : 3 ≤ seg) (hhi : seg < 512)
    (hshare : (∀ h < 4, bit heads h = true → (s.port h).linkUp = true → (s.port h).flitMode ≠ 0) ∨
      (List.range 4).countP (fun h => bit heads h) ≤ 1)
    (hinst : heads = 0 → ∀ e ∈ s.insts, seg ∉ e.2.segments) :
    Does (.segmentExpose c seg heads) s .later fun u => u.exposed seg = heads ∧ ∀ g, g ≠ seg → u.exposed g = s.exposed g := by
  refine does_of_fleso rfl (execSegmentExpose.eq_1 ..) (fun a => by cases a <;> rfl) fun q _ => ?_
  have hnarrow : ¬(((List.range 4).any fun h => bit heads h && (s.port h).linkUp && (s.port h).flitMode == 0) = true ∧
      1 < (List.range 4).countP fun h => bit heads h) := by
    rintro ⟨hany, hcount⟩
    obtain ⟨h, h4, hh⟩ := List.any_eq_true.1 hany
    simp only [Bool.and_eq_true, beq_iff_eq] at hh
    rcases hshare with hwide | hone
    · exact hwide h (List.mem_range.1 h4) hh.1.1 hh.1.2 hh.2
    · omega
  have hused : ¬(heads = 0 ∧ (s.insts.any fun e => e.2.segments.contains seg) = true) := by
    rintro ⟨h0, hany⟩
    obtain ⟨e, he, hseg⟩ := List.any_eq_true.1 hany
    exact hinst h0 e he (by simpa using hseg)
  simp only [Nat.not_le.mpr hhi, Nat.not_lt.mpr hlo, if_false, port_take, insts_take, hnarrow, hused, segments_take, true_and]
  have hseg : ∀ u : State, u.exposeSnoop.exposeDone.segments = u.segments := fun u =>
    ((State.exposeDone_same _).parts .segments rfl).trans ((State.exposeSnoop_same u).parts .segments rfl)
  simp only [State.exposed, hseg]
  exact exposed_put s seg heads

/-- R274: HOST_CFG sets a port's limits. -/
theorem hostCfg_sets {s : State} {c : Call} {port : Nat} {word : Word} (hp : port < 4) (hlo : 100 ≤ bits word 19 0)
    (hhi : bits word 19 0 ≤ 1000000) (hbi : 10 ≤ bits word 31 20) (hres : bits word 63 32 = 0) :
    Does (.hostCfg c port word) s .ok fun u => (u.port port).hostTimeoutUs = BitVec.ofNat 20 (bits word 19 0) ∧
      (u.port port).biTimeoutUs = BitVec.ofNat 12 (bits word 31 20) ∧ (u.port port).present = (s.port port).present := by
  refine does_of_fleso rfl (execHostCfg.eq_1 ..) (fun a => by cases a <;> rfl) fun q _ => ?_
  have hh : ¬(bits word 19 0 < 100 ∨ 1000000 < bits word 19 0) := by omega
  simp only [Nat.not_le.mpr hp, hh, Nat.not_lt.mpr hbi, hres, ne_eq, not_true_eq_false, if_false, port_modPort, port_take, and_self]

/-! ### MSI-X (R277) -/

/-- Signalling an unmasked vector leaves the ports. -/
theorem port_signal_unmasked {s : State} {f : Fn} {v : Nat} (h : (s.msix f).unmasked.contains v = true) (p : Nat) :
    (s.signal f v).port p = s.port p := by
  rw [State.signal, if_pos h]
  split
  · rfl
  · split
    · exact port_emit ..
    · rfl

theorem signal_sends {s : State} {f : Fn} {v : Nat} (hv : v < s.msixSize f) (h : (s.msix f).unmasked.contains v = true)
    (ht : (s.port f.port).talks = true) : Output.msix f v ∈ (s.signal f v).out := by
  rw [State.signal, if_neg (Nat.not_le.mpr hv), if_pos h, if_pos ht]
  exact mem_out_emit ..

/-- A vector unmasked is pending no more, and its pending message is sent. -/
theorem msixUnmask_sends {s : State} {fn : Fn} {v : Nat} (hp : fn.port < 4) (hv : v < s.msixSize fn) :
    Completes (exec (.msixUnmask fn v) s) fun t => (t.msix fn).unmasked.contains v = true ∧ (t.msix fn).pending.contains v = false ∧
      ((s.msix fn).pending.contains v = true → (s.port fn.port).talks = true → Output.msix fn v ∈ t.out) := by
  have hok : ¬(4 ≤ fn.port ∨ s.msixSize fn ≤ v) := by omega
  generalize hu : (s.modPort fn.port fun p => { p with msix := tmod p.msix (fnKey fn) {} fun m =>
      { m with unmasked := nset m.unmasked v, pending := ndel m.pending v } }) = u
  have hmsix : u.msix fn = { s.msix fn with unmasked := nset (s.msix fn).unmasked v, pending := ndel (s.msix fn).pending v } := by
    rw [← hu, State.msix, port_modPort]
    simp only [tgetD_tmod_same, State.msix]
  have hun : (u.msix fn).unmasked.contains v = true := by rw [hmsix]; simp
  have hpend : (u.msix fn).pending.contains v = false := by rw [hmsix]; simp
  have hsize : u.msixSize fn = s.msixSize fn := by rw [State.msixSize, hmsix]; rfl
  have htalks : (u.port fn.port).talks = (s.port fn.port).talks := by rw [← hu, port_modPort]; rfl
  refine ⟨if (s.msix fn).pending.contains v = true then u.signal fn v else u, (if_neg hok).trans (by rw [← hu]), ?_⟩
  split
  · rw [State.msix, port_signal_unmasked hun]
    exact ⟨hun, hpend, fun _ ht => signal_sends (hsize ▸ hv) hun (htalks ▸ ht)⟩
  next hc => exact ⟨hun, hpend, fun h _ => absurd h hc⟩

/-- Settles O25: a head's only request is served at once, by its kind; what answers and is resumed besides leaves the port. -/
theorem hostMemoryAccesses : Obligations.HostMemoryAccesses :=
  ⟨fun _ _ _ hon hspan hexp hm hfree hroom => read_done hon hspan hexp hm hfree hroom,
    fun _ _ _ _ hon hspan hexp hm h4 hne ht hroom => read_waits hon hspan hexp hm h4 hne ht hroom,
    fun _ _ _ hon hspan hm => window_read_done hon hspan hm,
    fun _ _ _ _ hon hspan hlines hwf hm => write_done hon hspan hlines hwf hm,
    fun _ _ _ _ hon hspan hm => window_write_done hon hspan hm,
    fun s head window offset data hon =>
      ⟨cxlMemRead_foreign head window offset s ▸ foreign_raises _ hon, cxlMemWrite_foreign head window offset data s ▸ foreign_raises _ hon⟩,
    fun _ _ _ hline hidle => birsp_releases hline hidle,
    fun _ _ _ _ hlo hhi hshare hinst => segmentExpose_exposes hlo hhi hshare hinst,
    fun _ _ _ _ hp hlo hhi hbi hres => hostCfg_sets hp hlo hhi hbi hres,
    fun _ _ _ hp hv => msixUnmask_sends hp hv⟩

end Sys2Proof.Machine
end

section
/-! PROOFS. A host port's link and its configuration (R247-R257, R262, R265, R271, R278, R279, R283, R795): O26. -/

namespace Sys2Proof.Machine

open Sys2Proof

/-! ### Training (R247-R253) -/

section
variable {s : State} {port : Nat}

/-- A Notice of a host port leaves every port. -/
theorem completes_raiseAt (source : Nat) :
    Completes (.next (s.raiseAt source port)) fun t => t.ports = s.ports ∧
      ∃ e : QEvent, e.source = source ∧ t.quench.raised = s.quench.raised ++ [e] :=
  ⟨_, rfl, ports_raiseAt .., _, rfl, raised_raiseAt ..⟩

/-- A port whose link has come up. -/
def HostPort.trained (p : HostPort) (flitMode : BitVec 2) (rate64 : Bool) (width : BitVec 2) (mem ready : Bool) : HostPort :=
  { p with linkUp := true, ready, silenced := false, flitMode, rate64, width, writesStopped := false, memDeclined := !mem }

/-- The module once a port's link has come up; in 68-byte mode the head shares no segment. -/
def State.trained (s : State) (port : Nat) (flitMode : BitVec 2) (rate64 : Bool) (width : BitVec 2) (mem ready : Bool) : State :=
  if flitMode = 0 then (s.modPort port (·.trained flitMode rate64 width mem ready)).unshare port
  else s.modPort port (·.trained flitMode rate64 width mem ready)

theorem port_trained (fm : BitVec 2) (r : Bool) (w : BitVec 2) (mem ready : Bool) :
    (s.trained port fm r w mem ready).port port = (s.port port).trained fm r w mem ready := by
  have hunshare : ∀ u : State, (u.unshare port).port port = u.port port := fun _ => rfl
  unfold State.trained
  split
  · rw [hunshare, port_modPort]
  · rw [port_modPort]

theorem cxlLinkUp_eq_trained {allowed : BitVec 4} {fm w : BitVec 2} {r : Bool} (mem ready : Bool) (ht : s.hostTrains port = true)
    (hdown : (s.port port).linkUp = false) (hmode : firstMode allowed = some (fm, r)) (hw : w ≠ 3) :
    exec (.cxlLinkUp port allowed w mem ready) s =
      .next (if ready then (s.trained port fm r w mem ready).emit (.readiness port) else s.trained port fm r w mem ready) := by
  show execCxlLinkUp .. = _
  simp only [execCxlLinkUp, ht, hdown, hmode, hw, Bool.not_true, Bool.false_eq_true, if_false]
  rfl

/-- R247-R249, R253: the link comes up in the first mode allowed. -/
theorem cxlLinkUp_trains {allowed : BitVec 4} {fm w : BitVec 2} {r mem ready : Bool} (ht : s.hostTrains port = true)
    (hdown : (s.port port).linkUp = false) (hmode : firstMode allowed = some (fm, r)) (hw : w ≠ 3) :
    Completes (exec (.cxlLinkUp port allowed w mem ready) s) fun t => (t.port port).linkUp = true ∧ (t.port port).ready = ready ∧
      (t.port port).flitMode = fm ∧ (t.port port).rate64 = r ∧ (t.port port).width = w ∧ (t.port port).memDeclined = !mem ∧
      (t.port port).writesStopped = false ∧ (ready = true → Output.readiness port ∈ t.out) := by
  refine ⟨_, cxlLinkUp_eq_trained mem ready ht hdown hmode hw, ?_⟩
  cases ready with
  | true =>
    simp only [if_true, port_emit, port_trained]
    exact ⟨rfl, rfl, rfl, rfl, rfl, rfl, rfl, fun _ => mem_out_emit ..⟩
  | false =>
    simp only [Bool.false_eq_true, if_false, port_trained]
    exact ⟨rfl, rfl, rfl, rfl, rfl, rfl, rfl, nofun⟩

/-- R247, R248: no mode allowed, or no width: the link stays down. -/
theorem cxlLinkUp_fails {allowed : BitVec 4} {w : BitVec 2} {mem ready : Bool} (ht : s.hostTrains port = true)
    (hdown : (s.port port).linkUp = false) (hno : allowed = 0 ∨ w = 3) :
    Completes (exec (.cxlLinkUp port allowed w mem ready) s) fun t => t.ports = s.ports ∧
      ∃ e : QEvent, e.source = 1024 + 32 * port ∧ t.quench.raised = s.quench.raised ++ [e] := by
  have hexec : exec (.cxlLinkUp port allowed w mem ready) s = .next (s.raiseAt (1024 + 32 * port) port) := by
    show execCxlLinkUp .. = _
    simp only [execCxlLinkUp, ht, hdown, Bool.not_true, Bool.false_eq_true, if_false]
    split
    · rfl
    next h =>
      rcases hno with rfl | rfl
      · have hnone : firstMode 0 = none := rfl
        exact absurd (hnone.symm.trans h) nofun
      · rfl
  rw [hexec]
  exact completes_raiseAt _

/-- R253: readiness, when the command comes again. -/
theorem cxlLinkUp_readies {allowed : BitVec 4} {w : BitVec 2} {mem : Bool} (ht : s.hostTrains port = true)
    (hup : (s.port port).linkUp = true) (hnot : (s.port port).ready = false) :
    Completes (exec (.cxlLinkUp port allowed w mem true) s) fun t => t.port port = { s.port port with ready := true } ∧
      Output.readiness port ∈ t.out := by
  refine ⟨(s.modPort port fun p => { p with ready := true }).emit (.readiness port), ?_, ?_, mem_out_emit ..⟩
  · show execCxlLinkUp .. = _
    simp only [execCxlLinkUp, ht, hup, hnot, Bool.not_true, Bool.not_false, Bool.and_self, Bool.false_eq_true, if_false, if_true]
  · rw [port_emit, port_modPort]

/-- R248, R249: a training that fails leaves the link down. -/
theorem cxlLinkTrainingFailed_raises (declined : Bool) (ht : s.hostTrains port = true) (hdown : (s.port port).linkUp = false) :
    Completes (exec (.cxlLinkTrainingFailed port declined) s) fun t => t.ports = s.ports ∧
      ∃ e : QEvent, e.source = 1024 + 32 * port ∧ t.quench.raised = s.quench.raised ++ [e] := by
  have hexec : exec (.cxlLinkTrainingFailed port declined) s = .next (s.raiseAt (1024 + 32 * port) port) := if_neg (by simp [ht, hdown])
  rw [hexec]
  exact completes_raiseAt _

/-! ### Configuration (R250, R253, R254, R256) -/

theorem configRequest_reaches {vf : Option Nat} (hp : port < 4) (hup : (s.port port).linkUp = true) (hvf : ∀ v, vf = some v → v < 256) :
    ¬(decide (4 ≤ port) || !(s.port port).linkUp || vf.any fun v => decide (256 ≤ v)) = true := by
  cases vf with
  | none => simp [hup, Nat.not_le.mpr hp]
  | some v => simp [hup, Nat.not_le.mpr hp, Nat.not_le.mpr (hvf v rfl)]

section
variable (hp : port < 4) (hup : (s.port port).linkUp = true)
include hp hup

/-- R250: a request of another kind raises a Notice. -/
theorem cxlConfigRequest_foreign {vf : Option Nat} (hvf : ∀ v, vf = some v → v < 256) :
    Completes (exec (.cxlConfigRequest port vf .pbrOrLd) s) fun t => t.ports = s.ports ∧
      ∃ e : QEvent, e.source = 1024 + 32 * port + 1 ∧ t.quench.raised = s.quench.raised ++ [e] := by
  have hexec : exec (.cxlConfigRequest port vf .pbrOrLd) s = .next (s.raiseAt (1024 + 32 * port + 1) port) := by
    show execCxlConfigRequest .. = _
    simp only [execCxlConfigRequest, configRequest_reaches hp hup hvf, Bool.false_eq_true, if_false, if_true]
  rw [hexec]
  exact completes_raiseAt _

/-- R253: before readiness a request draws Retry Status. -/
theorem cxlConfigRequest_retries {vf : Option Nat} {req : CfgReq} (hvf : ∀ v, vf = some v → v < 256) (hreq : req ≠ .pbrOrLd)
    (hnot : (s.port port).ready = false) :
    Completes (exec (.cxlConfigRequest port vf req) s) fun t => t.ports = s.ports ∧ t.out = s.out ++ [.cfgCompletion port vf none] := by
  refine ⟨s.emit (.cfgCompletion port vf none), ?_, ports_emit .., out_emit ..⟩
  show execCxlConfigRequest .. = _
  simp only [execCxlConfigRequest, configRequest_reaches hp hup hvf, hreq, hnot, Bool.false_eq_true, if_false, Bool.not_false, if_true]

end

/-- A physical function's register that is set completes with its port changed. -/
theorem completes_set {req : CfgReq} {f : HostPort → HostPort}
    (hexec : exec (.cxlConfigRequest port none req) s = .next ((s.modPort port f).emit (.cfgCompletion port none (some 0)))) :
    Completes (exec (.cxlConfigRequest port none req) s) fun t => t.port port = f (s.port port) :=
  ⟨_, hexec, (port_emit ..).trans (port_modPort ..)⟩

/-- A register that is known whole has its value, whatever value is free. -/
theorem overlay_word {v x : Nat} (hv : v < 2 ^ 32) (hx : x < 2 ^ 32) : overlay v [(0, 32, x)] = x := by
  simp only [overlay, List.foldl_cons, List.foldl_nil, fieldAt]
  omega

theorem configWord_identity (s : State) (port : Nat) : (s.configWord port none 0).1 = 0x0064e6a3#64 := by
  have hfields : ∀ u : State, u.configFields port none 0 = [(0, 32, 0x0064e6a3)] := fun _ => rfl
  have hfree : (s.drawFree (2 ^ 32)).1 < 2 ^ 32 := Nat.mod_lt _ (Nat.two_pow_pos 32)
  unfold State.configWord
  dsimp only
  rw [hfields, overlay_word hfree (by decide)]

section
variable (hp : port < 4) (hup : (s.port port).linkUp = true) (hready : (s.port port).ready = true)
include hp hup hready

/-- R254, R256: the identity of the physical function. -/
theorem cxlConfigRequest_identifies : Completes (exec (.cxlConfigRequest port none (.read 0)) s) fun t =>
    Output.cfgCompletion port none (some 0x0064e6a3#64) ∈ t.out ∧ t.ports = s.ports := by
  refine ⟨(s.configWord port none 0).2.emit (.cfgCompletion port none (some (s.configWord port none 0).1)), ?_, ?_, ports_emit ..⟩
  · show execCxlConfigRequest .. = _
    simp [execCxlConfigRequest, Nat.not_le.mpr hp, hup, hready]
  · rw [configWord_identity]
    exact mem_out_emit ..

/-- R249: Mem_Enable, where the host has not declined CXL.mem. -/
theorem cxlConfigRequest_setMem (on : Bool) : Completes (exec (.cxlConfigRequest port none (.setMem on)) s) fun t =>
    t.port port = { s.port port with memEnabled := on && !(s.port port).memDeclined } :=
  completes_set (f := fun p => { p with memEnabled := on && !p.memDeclined }) <| by
    show execCxlConfigRequest .. = _
    simp [execCxlConfigRequest, Nat.not_le.mpr hp, hup, hready]

/-- R256: the base of the register window. -/
theorem cxlConfigRequest_setBar (b : Word) : Completes (exec (.cxlConfigRequest port none (.setBar b)) s) fun t =>
    t.port port = { s.port port with bar0 := some (b &&& ~~~0x3ffffff#64) } :=
  completes_set (f := fun p => { p with bar0 := some (b &&& ~~~0x3ffffff#64) }) <| by
    show execCxlConfigRequest .. = _
    simp [execCxlConfigRequest, Nat.not_le.mpr hp, hup, hready]

/-- R256: the base of the virtual functions' windows. -/
theorem cxlConfigRequest_setVfBar (b : Word) : Completes (exec (.cxlConfigRequest port none (.setVfBar b)) s) fun t =>
    t.port port = { s.port port with vfBar0 := some (b &&& ~~~0xffff#64) } :=
  completes_set (f := fun p => { p with vfBar0 := some (b &&& ~~~0xffff#64) }) <| by
    show execCxlConfigRequest .. = _
    simp [execCxlConfigRequest, Nat.not_le.mpr hp, hup, hready]

/-- R257: the base of an HDM decoder. -/
theorem cxlConfigRequest_setHdm {d : Nat} (b : Word) (hd : d < 2) : Completes (exec (.cxlConfigRequest port none (.setHdm d b)) s) fun t =>
    t.port port = { s.port port with hdm := tset (s.port port).hdm d (b &&& ~~~0xfffffff#64) } :=
  completes_set (f := fun p => { p with hdm := tset p.hdm d (b &&& ~~~0xfffffff#64) }) <| by
    show execCxlConfigRequest .. = _
    simp [execCxlConfigRequest, Nat.not_le.mpr hp, hup, hready, Nat.not_le.mpr hd]

end

/-! ### Presence (R283) -/

/-- R283: a port that meets the conditions becomes present. -/
theorem portPresent_presents (hp : port < 4) (hmeets : portMeets (s.port port) = true) (hnot : (s.port port).present = false)
    (hiso : s.hearth.mode ≠ .isolated) (hdiag : s.hearth.mode ≠ .diagnostic) :
    Completes (exec (.portPresent port) s) fun t => (t.port port).present = true := by
  have hok : ¬(decide (4 ≤ port) || !portMeets (s.port port) || (s.port port).present || s.hearth.mode == .isolated ||
      s.hearth.mode == .diagnostic) = true := by
    simp [Nat.not_le.mpr hp, hmeets, hnot, hiso, hdiag]
  have hkept : ∀ (u : State) (l : List (Nat × Cq)),
      State.KeepsPort port (l.foldl (fun s e => (s.drain e.1).missedArrivals e.1) u.adjustMode) u := fun u l =>
    .trans (.foldl (fun _ _ => (keepsPort_missedArrivals ..).trans (keepsPort_drain ..)) ..) (keepsPort_adjustMode u)
  refine ⟨_, if_neg hok, ((hkept _ _).read HostPort.present (fun _ => rfl)).trans ?_⟩
  rw [port_modPort]

/-! ### Snoops and GPF (R262, R271) -/

/-- R262: a snoop is answered from the device cache, which keeps the line no more. -/
theorem h2dSnoop_answers {line : Word} (hp : port < 4) (hup : (s.port port).linkUp = true) :
    Completes (exec (.h2dSnoop port line) s) fun t => Output.snoopResp port line (tget (s.port port).cache (line.toNat / 64)).isSome
      (tget (s.port port).cache (line.toNat / 64)) ∈ t.out ∧ tget (t.port port).cache (line.toNat / 64) = none := by
  have hok : ¬(decide (4 ≤ port) || !(s.port port).linkUp) = true := by simp [Nat.not_le.mpr hp, hup]
  cases hd : tget (s.port port).cache (line.toNat / 64) with
  | none =>
    refine ⟨s.emit (.snoopResp port line false none), ?_, mem_out_emit .., by rw [port_emit, hd]⟩
    show execH2dSnoop .. = _
    simp only [execH2dSnoop, hok, hd, Bool.false_eq_true, if_false]
  | some d =>
    refine ⟨(s.modPort port fun p => { p with cache := tdel p.cache (line.toNat / 64) }).emit (.snoopResp port line true (some d)), ?_,
      mem_out_emit .., by rw [port_emit, port_modPort, tget_tdel_same]⟩
    show execH2dSnoop .. = _
    simp only [execH2dSnoop, hok, hd, Bool.false_eq_true, if_false]

theorem tdel_eq_self {α : Type} {t : Table α} {k : Nat} (h : tget t k = none) : tdel t k = t := by
  induction t with
  | nil => rfl
  | cons e t ih =>
    rw [tget] at h
    split at h
    next => exact absurd h nofun
    next he => rw [tdel, if_neg he, ih h]

theorem mem_of_tget {α : Type} {t : Table α} {k : Nat} {v : α} (h : tget t k = some v) : (k, v) ∈ t := by
  induction t with
  | nil => exact absurd h nofun
  | cons e t ih =>
    rw [tget] at h
    split at h
    next he => rw [← he, ← Option.some.inj h]; exact List.mem_cons_self
    next => exact List.mem_cons_of_mem _ (ih h)

/-- A line written back is out of the cache, which holds the others as before. -/
theorem cache_lineBack (l : Nat) : ((s.lineBack port l).port port).cache = tdel (s.port port).cache l := by
  unfold State.lineBack
  split
  next h => exact (tdel_eq_self h).symm
  next => rw [port_emit, port_modPort]

theorem lineBack_keeps_out {o : Output} (l : Nat) (h : o ∈ s.out) : o ∈ (s.lineBack port l).out := by
  unfold State.lineBack
  split
  · exact h
  · rw [out_emit, out_modPort]
    exact List.mem_append_left _ h

theorem lineBack_sends {l : Nat} {d : Line} (h : tget (s.port port).cache l = some d) :
    Output.lineBack port (BitVec.ofNat 64 (64 * l)) d ∈ (s.lineBack port l).out := by
  rw [State.lineBack, h]
  exact mem_out_emit ..

/-- Write back the lines of a list of cache entries. -/
def State.linesBack (s : State) (port : Nat) (l : Table Line) : State := l.foldl (fun s e => s.lineBack port e.1) s

theorem linesBack_keeps_out {o : Output} (l : Table Line) (h : o ∈ s.out) : o ∈ (s.linesBack port l).out := by
  induction l generalizing s with
  | nil => exact h
  | cons e l ih => exact ih (lineBack_keeps_out e.1 h)

theorem mem_cache_linesBack {l : Table Line} {x : Nat × Line} (h : x ∈ ((s.linesBack port l).port port).cache) :
    x ∈ (s.port port).cache ∧ ∀ e ∈ l, x.1 ≠ e.1 := by
  induction l generalizing s with
  | nil => exact ⟨h, fun _ he => absurd he List.not_mem_nil⟩
  | cons e l ih =>
    obtain ⟨hx, hl⟩ := ih h
    rw [cache_lineBack, tdel_eq_filter, List.mem_filter, bne_iff_ne] at hx
    exact ⟨hx.1, List.forall_mem_cons.2 ⟨hx.2, hl⟩⟩

theorem linesBack_sends {l : Table Line} {k : Nat} {d : Line} (hk : ∃ e ∈ l, e.1 = k) (hd : tget (s.port port).cache k = some d) :
    Output.lineBack port (BitVec.ofNat 64 (64 * k)) d ∈ (s.linesBack port l).out := by
  induction l generalizing s with
  | nil => exact absurd hk (by simp)
  | cons e l ih =>
    by_cases he : e.1 = k
    · subst he
      exact linesBack_keeps_out l (lineBack_sends hd)
    · refine ih ?_ (by rw [cache_lineBack, tget_tdel_ne _ _ _ (Ne.symm he), hd])
      obtain ⟨x, hx, hxk⟩ := hk
      exact ⟨x, (List.mem_cons.1 hx).resolve_left fun h => he (h ▸ hxk), hxk⟩

/-- R271: phase 1 writes every line of the cache back and stops new writes. -/
theorem gpfPhase1_writes_back (hp : port < 4) (hup : (s.port port).linkUp = true) :
    Completes (exec (.gpfPhase1 port) s) fun t => (t.port port).cache = [] ∧ (t.port port).writesStopped = true ∧
      Output.gpfDone port 1 ∈ t.out ∧ ∀ l d, tget (s.port port).cache l = some d →
        Output.lineBack port (BitVec.ofNat 64 (64 * l)) d ∈ t.out := by
  have hok : ¬(decide (4 ≤ port) || !(s.port port).linkUp) = true := by simp [Nat.not_le.mpr hp, hup]
  refine ⟨((s.linesBack port (s.port port).cache).modPort port fun p => { p with writesStopped := true }).emit (.gpfDone port 1),
    if_neg hok, ?_, ?_, mem_out_emit .., fun l d hd => ?_⟩
  · rw [port_emit, port_modPort]
    refine List.eq_nil_iff_forall_not_mem.2 fun x hx => ?_
    obtain ⟨hmem, hne⟩ := mem_cache_linesBack hx
    exact hne x hmem rfl
  · rw [port_emit, port_modPort]
  · rw [out_emit, out_modPort]
    exact List.mem_append_left _ (linesBack_sends ⟨_, mem_of_tget hd, rfl⟩ hd)

/-- R271: phase 2 completes at once. -/
theorem gpfPhase2_completes (hp : port < 4) (hup : (s.port port).linkUp = true) :
    Completes (exec (.gpfPhase2 port) s) fun t => t.out = s.out ++ [.gpfDone port 2] ∧ t.ports = s.ports :=
  ⟨s.emit (.gpfDone port 2), congrArg Host.Outcome.next (if_pos ⟨hp, hup⟩), out_emit .., ports_emit ..⟩

/-! ### PERST_N and HREFCLK (R795) -/

theorem perstN_rises (hp : port < 4) :
    Completes (exec (.perstN port true) s) fun t => t.port port = { s.port port with perst := false } :=
  ⟨_, (if_neg (Nat.not_le.mpr hp)).trans (if_pos rfl), port_modPort ..⟩

/-- A port that is not present, vanishing, changes alone. -/
theorem vanish_absent {cause : BitVec 3} {change : HostPort → HostPort} (h : portMeets (s.port port) = false) :
    s.vanish port cause change = s.modPort port change := if_pos (by rw [h]; rfl)

/-- R795: PERST_N falls and takes the link down. -/
theorem perstN_falls (hp : port < 4) (h : portMeets (s.port port) = false) :
    Completes (exec (.perstN port false) s) fun t => (t.port port).perst = true ∧ (t.port port).linkUp = false := by
  refine ⟨_, (if_neg (Nat.not_le.mpr hp)).trans (if_neg Bool.false_ne_true), ?_⟩
  rw [vanish_absent h]
  exact ⟨((keepsPort_serve (p := port) _).read HostPort.perst (fun _ => rfl)).trans (by rw [port_modPort]),
    ((keepsPort_serve (p := port) _).read HostPort.linkUp (fun _ => rfl)).trans (by rw [port_modPort, port_modPort]; rfl)⟩

theorem hrefclkLoss_spreads (hp : port < 4) :
    Completes (exec (.hrefclkLoss port) s) fun t => t.port port = { s.port port with sris := true } :=
  ⟨_, congrArg Host.Outcome.next (if_pos hp), port_modPort ..⟩

theorem hrefclkReturn_joins (hp : port < 4) :
    Completes (exec (.hrefclkReturn port) s) fun t => t.port port = { s.port port with sris := false } :=
  ⟨_, congrArg Host.Outcome.next (if_pos hp), port_modPort ..⟩

/-! ### Data object exchange (R278, R279) -/

/-- A stream's go holds for that stream, and for the link once the other stream has gone too. -/
theorem ideActive_secured {p : HostPort} {stream : Nat} {skid : Bool} {k : BitVec 256} (hs : stream < 2)
    (hkey : tget p.ideKeys stream = some (k, true)) :
    (p.secured stream skid).ideActive = ((tget p.ideKeys (1 - stream)).map (·.2)).getD false := by
  have hcase : stream = 0 ∨ stream = 1 := by omega
  rcases hcase with rfl | rfl
  · simp [HostPort.secured, hkey]
  · simp [HostPort.secured, hkey]

theorem ideRequired_secured {p : HostPort} {stream : Nat} {skid : Bool} (h : (p.secured stream skid).ideActive = true) :
    (p.secured stream skid).ideRequired = false := by
  show (p.ideRequired && !(p.secured stream skid).ideActive) = false
  rw [h, Bool.not_true, Bool.and_false]

section
variable (hp : port < 4) (hready : (s.port port).ready = true) (hfleso : s.hearth.ready = true)
include hp hready hfleso

theorem doe_reaches : ¬(decide (4 ≤ port) || !(s.port port).ready || !s.hearth.ready) = true := by
  simp [Nat.not_le.mpr hp, hready, hfleso]

/-- R278: a key is set. -/
theorem ideKeyProg_sets {stream : Nat} (key : BitVec 256) (hs : stream < 2) :
    Completes (exec (.doeSpdmRequest port (.ideKeyProg stream key)) s) fun t => tget (t.port port).ideKeys stream = some (key, false) := by
  refine ⟨s.modPort port fun p => { p with ideKeys := tset p.ideKeys stream (key, false) }, ?_, ?_⟩
  · exact (if_neg (doe_reaches hp hready hfleso)).trans (congrArg Host.Outcome.next (if_pos hs))
  · dsimp only
    rw [port_modPort, tget_tset_same]

/-- R278: a stream's go, and the secure state once both streams have gone. -/
theorem ideKeyGo_secures {stream : Nat} {skid : Bool} {k : BitVec 256 × Bool} (hs : stream < 2)
    (hk : tget (s.port port).ideKeys stream = some k) :
    Completes (exec (.doeSpdmRequest port (.ideKeyGo stream skid)) s) fun t => tget (t.port port).ideKeys stream = some (k.1, true) ∧
      (t.port port).ideSkid = (if stream = 0 then skid else (s.port port).ideSkid) ∧
      (t.port port).ideActive = ((tget (s.port port).ideKeys (1 - stream)).map (·.2)).getD false ∧
      ((t.port port).ideActive = true → (t.port port).ideRequired = false) := by
  refine ⟨s.modPort port fun p => { p with ideKeys := tset p.ideKeys stream (k.1, true) }.secured stream skid, ?_, ?_⟩
  · show execDoeSpdmRequest port (.ideKeyGo stream skid) s = _
    simp only [execDoeSpdmRequest, doe_reaches hp hready hfleso, hk, Bool.false_eq_true, if_false]
  · dsimp only
    rw [port_modPort]
    refine ⟨tget_tset_same .., rfl, ?_, ideRequired_secured⟩
    rw [ideActive_secured hs (tget_tset_same ..)]
    exact congrArg (fun x : Option (BitVec 256 × Bool) => (x.map (·.2)).getD false) (tget_tset_ne _ stream (1 - stream) _ (by omega))

/-- R279, R645: a measurement is answered. -/
theorem measurement_answers {index : Nat} (hlo : 1 ≤ index) (hhi : index ≤ 4) :
    Completes (exec (.doeSpdmRequest port (.measurement index)) s) fun t =>
      ∃ v, s.measurement index = some v ∧ t.out = s.out ++ [.spdm port index v] := by
  obtain ⟨v, hv⟩ : ∃ v, s.measurement index = some v := by
    have hcase : index = 1 ∨ index = 2 ∨ index = 3 ∨ index = 4 := by omega
    rcases hcase with rfl | rfl | rfl | rfl <;> exact ⟨_, rfl⟩
  refine ⟨s.emit (.spdm port index v), ?_, v, hv, out_emit ..⟩
  show execDoeSpdmRequest port (.measurement index) s = _
  simp only [execDoeSpdmRequest, doe_reaches hp hready hfleso, hv, Bool.false_eq_true, if_false]

end
end

/-- Settles O26: each clause is the branch of its command that its hypotheses choose; what is drained or served besides leaves the port. -/
theorem hostLinksComplete : Obligations.HostLinksComplete :=
  ⟨fun _ _ _ _ _ _ _ _ ht hdown hmode hw => cxlLinkUp_trains ht hdown hmode hw,
    fun _ _ _ _ _ _ ht hdown hno => cxlLinkUp_fails ht hdown hno,
    fun _ _ _ _ _ ht hup hnot => cxlLinkUp_readies ht hup hnot,
    fun _ _ declined ht hdown => cxlLinkTrainingFailed_raises declined ht hdown,
    fun _ _ _ _ hp hup hvf => ⟨fun hreq => hreq ▸ cxlConfigRequest_foreign hp hup hvf,
      fun hreq hnot => cxlConfigRequest_retries hp hup hvf hreq hnot⟩,
    fun _ _ hp hup hready => cxlConfigRequest_identifies hp hup hready,
    fun _ _ on hp hup hready => cxlConfigRequest_setMem hp hup hready on,
    fun _ _ _ b hp hup hready => ⟨cxlConfigRequest_setBar hp hup hready b, cxlConfigRequest_setVfBar hp hup hready b,
      fun hd => cxlConfigRequest_setHdm hp hup hready b hd⟩,
    fun _ _ hp hmeets hnot hiso hdiag => portPresent_presents hp hmeets hnot hiso hdiag,
    fun _ _ _ hp hup => h2dSnoop_answers hp hup,
    fun _ _ hp hup => gpfPhase1_writes_back hp hup,
    fun _ _ hp hup => gpfPhase2_completes hp hup,
    fun _ _ hp => perstN_rises hp,
    fun _ _ hp h => perstN_falls hp h,
    fun _ _ hp => hrefclkLoss_spreads hp,
    fun _ _ hp => hrefclkReturn_joins hp,
    fun _ _ _ key hp hready hfleso hs => ideKeyProg_sets hp hready hfleso key hs,
    fun _ _ _ _ _ hp hready hfleso hs hk => ideKeyGo_secures hp hready hfleso hs hk,
    fun _ _ _ hp hready hfleso hlo hhi => measurement_answers hp hready hfleso hlo hhi⟩

end Sys2Proof.Machine
end

section
/-! PROOFS. What a host port loses when its link, an enable or an answer is gone, and the resets of functions (R268, R273, R280-R287, R727): O27. -/

namespace Sys2Proof.Machine

open Sys2Proof

/-! ### Vanishing (R284-R286) -/

/-- A host port after it vanishes: where it met R283 before, its presence and what waited there are gone too. -/
def HostPort.vanished (p : HostPort) (cause : BitVec 3) (change : HostPort → HostPort) : HostPort :=
  if portMeets p then
    { change p with
      present := false, lapsed := false, writeFailed := false, vanishCount := satInc p.vanishCount, lastCause := cause,
      dirtyLost := p.dirtyLost + p.cache.length, cache := [], d2h := [], d2hWait := [], m2s := [], tracked := [], biPending := [] }
  else change p

/-- What vanishing gives back of queues and rings changes no port. -/
theorem ports_drop (s : State) (l : List (Nat × Cq)) (port : Nat) :
    (l.foldl (fun (s : State) e => s.unwrite e.1) (s.dropReads port)).ports = s.ports := by
  have hsame : Same [.wqs, .cqs, .matching] (l.foldl (fun (s : State) e => s.unwrite e.1) (s.dropReads port)) s :=
    Same.foldl (fun s e => State.unwrite_same s e.1) l (Same.step (State.dropReads_same s port) rfl (Same.refl _ _))
  exact hsame.parts .ports rfl

/-- The port that vanishes. -/
theorem lasting_vanish (s : State) (port : Nat) (cause : BitVec 3) (change : HostPort → HostPort) :
    ((s.vanish port cause change).port port).lasting = ((s.port port).vanished cause change).lasting := by
  unfold State.vanish HostPort.vanished
  split
  next h =>
    rw [port_modPort, if_neg (by simpa using h)]
  next h =>
    rw [if_pos (by simpa using h)]
    extract_lets dirty _ dropped gone _ cut walked reset idle told
    have hdropped : dropped.port port = s.port port := congrArg (fun ports : Table HostPort => tgetD ports port {}) (ports_drop s _ port)
    have hgone : gone.port port = _ := port_modPort dropped port _
    rw [hdropped] at hgone
    have hport : cut.port port = _ := hgone
    have hwalked : State.KeepsPort port walked cut :=
      (keepsPort_resumeWalks _).trans (.foldl (fun _ _ => keepsPort_lockFail ..) ..)
    have hreset : State.KeepsPort port reset cut := State.KeepsPort.trans (.foldl (fun _ _ => keepsPort_beginReset ..) ..) hwalked
    clear_value reset
    have hlost : State.KeepsPort port (((reset.freePortSlots port).breakPf port).drawLost port).exposeDone cut :=
      (keepsPort_exposeDone _).trans ((State.KeepsPort.ofSame (State.drawLost_same ..) rfl).trans ((keepsPort_breakPf ..).trans
        ((State.KeepsPort.ofSame (State.freePortSlots_same ..) rfl).trans hreset)))
    have hidle : State.KeepsPort port idle cut := (keepsPort_resumeReads _).trans
      ((keepsPort_serveAllMem ((hlost.read HostPort.m2s (fun _ => rfl)).trans (by rw [hport]))).trans hlost)
    clear_value idle
    have hend : State.KeepsPort port told.adjustMode cut :=
      (keepsPort_adjustMode _).trans ((State.KeepsPort.ofSame (State.raise_same ..) rfl).trans hidle)
    rw [hend, hport]

/-! ### What is left of the port -/

/-- A port whose link is down, with what the host had enabled. -/
def HostPort.Down (x : HostPort) : Prop :=
  x.linkUp = false ∧ x.ready = false ∧ x.memEnabled = false ∧ x.cacheEnabled = false ∧ x.bme = false ∧ x.tracked = []

/-- A port that has vanished for a cause, counted once more than n. -/
def HostPort.Gone (n : BitVec 16) (cause : BitVec 3) (x : HostPort) : Prop :=
  x.present = false ∧ x.cache = [] ∧ x.vanishCount = satInc n ∧ x.lastCause = cause

section
variable (p : HostPort) (cause : BitVec 3)

theorem vanished_linkLost_down : (p.vanished cause linkLost).Down := by
  unfold HostPort.vanished
  split <;> exact ⟨rfl, rfl, rfl, rfl, rfl, rfl⟩

theorem vanished_gone (change : HostPort → HostPort) (h : portMeets p = true) : (p.vanished cause change).Gone p.vanishCount cause := by
  rw [HostPort.vanished, if_pos h]
  exact ⟨rfl, rfl, rfl, rfl⟩

/-- A host port without what vanishing and Fleso's serving change by themselves. -/
def HostPort.bare (x : HostPort) : HostPort :=
  { x with
    present := false, lapsed := false, writeFailed := false, vanishCount := 0, lastCause := 0, dirtyLost := 0, cache := [], d2h := [],
    d2hWait := [], m2s := [], tracked := [], biPending := [], msix := [] }

theorem bare_lasting (x : HostPort) : x.lasting.bare = x.bare := rfl

theorem bare_vanished (change : HostPort → HostPort) : (p.vanished cause change).bare = (change p).bare := by
  unfold HostPort.vanished
  split <;> rfl

end

section
variable {s : State} {port : Nat}

/-- The port after it vanishes and Fleso serves what waits. -/
theorem lasting_vanish_serve (s : State) (port : Nat) (cause : BitVec 3) (change : HostPort → HostPort) :
    (((s.vanish port cause change).serve).port port).lasting = ((s.port port).vanished cause change).lasting :=
  Eq.trans (keepsPort_serve _) (lasting_vanish ..)

/-- What vanishing itself does not touch is as the change leaves it. -/
theorem bare_vanish_serve (s : State) (port : Nat) (cause : BitVec 3) (change : HostPort → HostPort) :
    ((s.vanish port cause change).serve.port port).bare = (change (s.port port)).bare := by
  rw [← bare_lasting, lasting_vanish_serve, bare_lasting, bare_vanished]

/-- R284, R285: a link that goes down takes the port's presence. -/
theorem linkLoss_vanishes (s : State) (port : Nat) (cause : BitVec 3) :
    Completes (.next (s.vanish port cause linkLost).serve) fun t => (t.port port).Down ∧
      (portMeets (s.port port) = true → (t.port port).Gone (s.port port).vanishCount cause) := by
  have hl := lasting_vanish_serve s port cause linkLost
  exact ⟨_, rfl, (HostPort.read_of_lasting hl HostPort.Down (fun _ => rfl)).mpr (vanished_linkLost_down ..),
    fun h => (HostPort.read_of_lasting hl (HostPort.Gone (s.port port).vanishCount cause) (fun _ => rfl)).mpr (vanished_gone _ _ _ h)⟩

theorem linkDown_vanishes {i : Instr} (hi : i = .hostLinkDown port ∨ i = .hotReset port) (hp : port < 4)
    (hup : (s.port port).linkUp = true) :
    Completes (exec i s) fun t => (t.port port).linkUp = false ∧ (t.port port).ready = false ∧ (t.port port).memEnabled = false ∧
      (t.port port).cacheEnabled = false ∧ (t.port port).bme = false ∧ (t.port port).tracked = [] ∧
      (portMeets (s.port port) = true → (t.port port).present = false ∧ (t.port port).cache = [] ∧
        (t.port port).vanishCount = satInc (s.port port).vanishCount ∧
        (t.port port).lastCause = if i = .hostLinkDown port then 1 else 2) := by
  have hexec : exec i s = .next (s.vanish port (if i = .hostLinkDown port then 1 else 2) linkLost).serve := by
    rcases hi with rfl | rfl
    · rw [if_pos rfl]
      exact if_pos ⟨hp, hup⟩
    · rw [if_neg nofun]
      exact if_pos ⟨hp, hup⟩
  obtain ⟨t, ht, ⟨hlink, hready, hmem, hcache, hbme, htracked⟩, hgone⟩ := linkLoss_vanishes s port (if i = .hostLinkDown port then 1 else 2)
  exact ⟨t, hexec.trans ht, hlink, hready, hmem, hcache, hbme, htracked, hgone⟩

/-- R280: an integrity failure takes the link down until a new key exchange. -/
theorem ideFailure_vanishes (hp : port < 4) (hide : (s.port port).ideActive = true) :
    Completes (exec (.ideFailure port) s) fun t => (t.port port).linkUp = false ∧ (t.port port).ideRequired = true ∧
      (t.port port).ideKeys = [] ∧ (t.port port).ideActive = false := by
  have hbare := bare_vanish_serve (s.raiseAt (1024 + 32 * port + 3) port) port 4 fun p => { linkLost p with ideRequired := true, ideKeys := [] }
  exact ⟨_, if_pos ⟨hp, hide⟩, congrArg HostPort.linkUp hbare, congrArg HostPort.ideRequired hbare, congrArg HostPort.ideKeys hbare,
    congrArg HostPort.ideActive hbare⟩

/-- R284: an enable that is cleared takes the port's presence, and not its link. -/
theorem bmeClear_vanishes (cache : Bool) (hp : port < 4) (hup : (s.port port).linkUp = true) :
    Completes (exec (.bmeClear port cache) s) fun t =>
      (if cache then (t.port port).cacheEnabled = false else (t.port port).bme = false) ∧ (t.port port).linkUp = true ∧
      (portMeets (s.port port) = true → (t.port port).present = false) := by
  have hgone : portMeets (s.port port) = true → ((s.clearEnable port cache).serve.port port).present = false := fun h =>
    (HostPort.read_of_lasting (lasting_vanish_serve ..) HostPort.present (fun _ => rfl)).trans (vanished_gone _ _ _ h).1
  have hbare := bare_vanish_serve s port 6 fun p => if cache then { p with cacheEnabled := false } else { p with bme := false }
  refine ⟨_, if_pos ⟨hp, hup⟩, ?_⟩
  cases cache with
  | true => exact ⟨congrArg HostPort.cacheEnabled hbare, (congrArg HostPort.linkUp hbare :).trans hup, hgone⟩
  | false => exact ⟨congrArg HostPort.bme hbare, (congrArg HostPort.linkUp hbare :).trans hup, hgone⟩

/-- A head that is given up for its silence. -/
def HostPort.givenUp (p : HostPort) : HostPort := { p with tracked := [], biPending := [], silenced := true }

theorem vanished_givenUp (p : HostPort) (cause : BitVec 3) : (p.vanished cause HostPort.givenUp).silenced = true ∧
    (p.vanished cause HostPort.givenUp).tracked = [] ∧ (p.vanished cause HostPort.givenUp).biPending = [] := by
  unfold HostPort.vanished
  split <;> exact ⟨rfl, rfl, rfl⟩

/-- R268: a host that gives no BIRsp is given up. -/
theorem biTimeout_silences (hbi : (s.port port).biPending ≠ []) :
    Completes (exec (.biTimeout port) s) fun t => (t.port port).silenced = true ∧ (t.port port).tracked = [] ∧ (t.port port).biPending = [] := by
  refine ⟨_, if_neg (by simpa using hbi), ?_⟩
  have hl := lasting_vanish_serve (s.raiseAt (1024 + 32 * port + 4) port) port 5 HostPort.givenUp
  obtain ⟨hsilenced, htracked, hpending⟩ := vanished_givenUp ((s.raiseAt (1024 + 32 * port + 4) port).port port) 5
  exact ⟨(HostPort.read_of_lasting hl HostPort.silenced (fun _ => rfl)).trans hsilenced,
    (HostPort.read_of_lasting hl HostPort.tracked (fun _ => rfl)).trans htracked,
    (HostPort.biPending_of_lasting hl htracked).trans hpending⟩

/-! ### A D2H read without an answer (R273) -/

/-- A read that is out is dropped; where none waits, none is sent in its place. -/
theorem d2h_dropD2h {tag : D2hTag} (hwait : (s.port port).d2hWait = []) (htag : (s.port port).d2h.any (fun r => r.tag == tag) = true) :
    ((s.dropD2h port tag).port port).d2h = (s.port port).d2h.eraseP fun r => r.tag == tag := by
  rw [State.dropD2h, hwait, List.length_nil, State.sendReads, port_modPort, if_pos htag]

theorem d2hTimeout_drops {n : Nat} (hp : port < 4) (hwait : (s.port port).d2hWait = [])
    (hout : ∃ r ∈ (s.port port).d2h, r.tag = .other n) :
    Completes (exec (.d2hTimeout port (.other n) false) s) fun t =>
      (t.port port).d2h = (s.port port).d2h.eraseP (fun r => r.tag == .other n) ∧
      ∃ e : QEvent, e.source = 1024 + 32 * port + 2 ∧ t.quench.raised = s.quench.raised ++ [e] := by
  have htag : (s.port port).d2h.any (fun r => r.tag == .other n) = true := by simpa using hout
  have hok : ¬(decide (4 ≤ port) || !(s.reading port (.other n) || s.writeFails port (.other n))) = true := by
    simp [Nat.not_le.mpr hp, State.reading, htag]
  have hport : (s.raiseAt (1024 + 32 * port + 2) port).port port = s.port port := by rw [State.port, ports_raiseAt]; rfl
  refine ⟨(s.raiseAt (1024 + 32 * port + 2) port).dropD2h port (.other n), if_neg hok, ?_, ?_⟩
  · rw [d2h_dropD2h (by rw [hport, hwait]) (by rw [hport, htag]), hport]
  · rw [(State.dropD2h_same ..).parts .quench rfl]
    exact ⟨_, rfl, raised_raiseAt ..⟩

/-! ### Function resets (R281, R282) -/

/-- Answering the commands that wait on one of the instances takes those commands from it, and nothing else. -/
theorem inst_answerInst (s : State) (i : Nat) (error : BitVec 8) (result : List Byte) :
    (s.answerInst i error result).inst i = { s.inst i with calls := [] } := by
  have hsame : Same [.routing, .tiles, .sched, .ports, .hearth, .quench, .counters, .out] (s.answerInst i error result)
      (s.modInst i fun x => { x with calls := [] }) :=
    Same.foldl (fun s (c : Call × BitVec 16) => State.answer_same s c.1.via c.1.seq c.2 error (if c.2 = 0x0304 then result else []))
      (s.inst i).calls (Same.refl _ _)
  rw [inst_congr (hsame.parts .insts rfl), inst_modInst]

theorem keeps_answerInst (s : State) (i : Nat) (error : BitVec 8) (result : List Byte) : (s.answerInst i error result).Keeps s :=
  (State.Keeps.foldl (fun _ _ => keeps_answer ..) ..).trans (.ofSame (State.modInst_same ..) rfl)

/-- A loop whose every step leaves its start leaves it. -/
theorem foldl_eq_self {α β : Type} {g : β → α → β} {b : β} {l : List α} (h : ∀ a ∈ l, g b a = b) : l.foldl g b = b := by
  induction l with
  | nil => rfl
  | cons a l ih =>
    rw [List.foldl_cons, h a List.mem_cons_self]
    exact ih fun x hx => h x (List.mem_cons_of_mem _ hx)

/-- No group has the endpoint of one of the instances as a member. -/
def State.NoMember (s : State) (i : Nat) : Prop :=
  ∀ e ∈ s.coll.groups, endpointOf s.routing.moduleId (s.inst i).port.toNat i ∉ e.2.members

theorem memberLost_of_none {s : State} {i : Nat} (h : s.NoMember i) : s.memberLost i = s :=
  foldl_eq_self fun e he => if_pos (.inl (by simpa using h e he))

/-- One of the instances, its reset begun for a cause. -/
def Inst.ResettingFor (cause : BitVec 3) (x : Inst) : Prop := x.state = .resetting ∧ x.cause = cause

/-- R281: one of the instances that is reset, and no group's member, is resetting for the cause. -/
theorem inst_beginReset {s : State} {i : Nat} (cause : BitVec 3) (hstate : (s.inst i).state ∈ [IState.closed, .active, .held, .frozen])
    (hmember : s.NoMember i) : ((s.beginReset i cause).inst i).ResettingFor cause := by
  unfold State.beginReset
  extract_lets +onlyGivenNames x
  split
  next h =>
    rcases h with h | h | h <;> rw [h] at hstate <;> exact absurd hstate (by decide)
  next =>
    extract_lets answered noted entered unfetched unchanneled
    have hentered : entered.inst i = { s.inst i with
        calls := [], cause, resets := satInc (s.inst i).resets, since := answered.time.now, quiescing := false, state := .resetting } := by
      rw [inst_enter, inst_modInst, inst_answerInst]
    have hrest : Same [.ports, .wqs, .cqs, .draw, .vises, .hearth, .counters, .out] (unchanneled.breakIdentity (idMailbox i)) entered :=
      Same.step (State.breakIdentity_same ..) rfl (Same.foldl (fun s n => (State.dropChan_same s n).step rfl (Same.refl _ _)) _
        (Same.foldl (fun s (e : Nat × Wq) => (State.dropFetched_same s e.1).step rfl (Same.refl _ _)) _ (Same.refl _ _)))
    have hinst : (unchanneled.breakIdentity (idMailbox i)).inst i = _ := (inst_congr (hrest.parts .insts rfl) i).trans hentered
    have hid : (unchanneled.breakIdentity (idMailbox i)).routing.moduleId = s.routing.moduleId :=
      State.Keeps.read (((State.Keeps.ofSame hrest rfl).trans (.ofSame (State.enter_same ..) rfl)).trans
        ((State.Keeps.ofSame (State.modInst_same ..) rfl).trans (keeps_answerInst ..))) Routing.moduleId (fun _ => rfl)
    have hcoll : (unchanneled.breakIdentity (idMailbox i)).coll = s.coll :=
      (hrest.parts .coll rfl).trans (((State.enter_same ..).parts .coll rfl).trans
        (((State.modInst_same ..).parts .coll rfl).trans ((State.answerInst_same ..).parts .coll rfl)))
    have hnone : (unchanneled.breakIdentity (idMailbox i)).NoMember i := by
      unfold State.NoMember
      rw [hcoll, hid, hinst]
      exact hmember
    rw [memberLost_of_none hnone, hinst]
    exact ⟨rfl, rfl⟩

/-- R281: a virtual function's reset resets what is bound to it. -/
theorem flrVf_resets {vf i : Nat} (hp : port < 4) (hvf : vf < 256) (hbound : s.boundInst port vf = some i)
    (hstate : (s.inst i).state ∈ [IState.closed, .active, .held, .frozen]) (hmember : s.NoMember i) :
    Completes (exec (.flrVf port vf) s) fun t => (t.inst i).state = .resetting ∧ (t.inst i).cause = 1 := by
  have hok : ¬(4 ≤ port ∨ 256 ≤ vf) := by omega
  refine ⟨((s.beginReset i 1).freeSlots { port, vf := some vf }).serve, (if_neg hok).trans (by rw [hbound]), ?_⟩
  have hinst : (((s.beginReset i 1).freeSlots { port, vf := some vf }).serve).inst i = (s.beginReset i 1).inst i :=
    inst_congr (((State.serve_same _).parts .insts rfl).trans ((State.freeSlots_same ..).parts .insts rfl)) i
  dsimp only
  rw [hinst]
  exact inst_beginReset 1 hstate hmember

/-- No queue or ring of a physical function's own is left. -/
def State.NoPfQueues (s : State) (port : Nat) : Prop :=
  (∀ e ∈ s.wqs, ¬(e.2.pfHeld = true ∧ e.2.owner = { port, vf := none })) ∧
    ∀ e ∈ s.cqs, ¬(e.2.inst = none ∧ e.2.owner = { port, vf := none })

theorem State.NoPfQueues.ofSame {W : List Part} {t s : State} {port : Nat} (hs : s.NoPfQueues port) (h : Same W t s)
    (hw : W.contains .wqs = false) (hc : W.contains .cqs = false) : t.NoPfQueues port := by
  unfold State.NoPfQueues
  rw [show t.wqs = s.wqs from h.parts .wqs hw, show t.cqs = s.cqs from h.parts .cqs hc]
  exact hs

theorem dropPfQueues_drops (s : State) (port : Nat) : (s.dropPfQueues port).NoPfQueues port := by
  unfold State.dropPfQueues
  extract_lets mine calls owed _ _ dropped
  have hdropped : dropped.NoPfQueues port := by
    refine ⟨fun e he ⟨hheld, hown⟩ => ?_, fun e he ⟨hinst, hown⟩ => ?_⟩
    · have hkept := (List.mem_filter.1 he).2
      simp [hheld, ownedByPf, hown] at hkept
    · have hkept := (List.mem_filter.1 he).2
      simp [hinst, ownedByPf, hown] at hkept
  clear_value dropped
  exact hdropped.ofSame (Same.foldl (fun s (c : Call) => State.answer_same s c.via c.seq 0x0406 0 []) calls (Same.refl _ _)) rfl rfl

/-- R282: a physical function's reset leaves it no queue and no ring. -/
theorem flrPf_drops (hp : port < 4) : Completes (exec (.flrPf port) s) (·.NoPfQueues port) := by
  refine ⟨_, if_neg (Nat.not_le.mpr hp), ?_⟩
  exact (((dropPfQueues_drops _ port).ofSame (State.freeSlots_same ..) rfl rfl).ofSame (State.breakPf_same ..) rfl rfl).ofSame
    (State.serve_same _) rfl rfl

end

/-- Settles O27: the port that vanishes keeps what its change and R285 leave it through the resets that follow; what a function's
reset does to the instances and queues is left alone by what follows. -/
theorem hostPortsVanish : Obligations.HostPortsVanish :=
  ⟨fun _ _ _ hi hp hup => linkDown_vanishes hi hp hup,
    fun _ _ hp hide => ideFailure_vanishes hp hide,
    fun _ _ cache hp hup => bmeClear_vanishes cache hp hup,
    fun _ _ hbi => biTimeout_silences hbi,
    fun _ _ _ hp hwait hout => d2hTimeout_drops hp hwait hout,
    fun _ _ _ _ hp hvf hbound hstate hmember => flrVf_resets hp hvf hbound hstate hmember,
    fun _ _ hp => flrPf_drops hp⟩

end Sys2Proof.Machine
end

section
/-! PROOFS. What records, completions and what a ring owes leave of the work queues and completion rings (R291, R314, R327-R331, R377). -/

namespace Sys2Proof.Machine

open Sys2Proof

/-- A work queue as its owner and its engine leave it: what its records and its ring's room change is set to its reset value. -/
def Wq.lasting (w : Wq) : Wq := { w with cqWait := false, open_ := [], events := [] }

/-- A completion ring as its owner leaves it: what making and writing records changes is set to its reset value. -/
def Cq.lasting (c : Cq) : Cq := { c with owed := 0, writing := [], parked := [], wbDirty := false }

/-- The queues and rings of t are those of s, in all that lasts. -/
structure State.KeepsRings (t s : State) : Prop where
  wqs : ∀ q, (t.wq q).map Wq.lasting = (s.wq q).map Wq.lasting
  cqs : ∀ r, (t.cq r).map Cq.lasting = (s.cq r).map Cq.lasting

theorem wq_congr {t s : State} (h : t.wqs = s.wqs) (q : Nat) : t.wq q = s.wq q := congrArg (tget · q) h
theorem cq_congr {t s : State} (h : t.cqs = s.cqs) (r : Nat) : t.cq r = s.cq r := congrArg (tget · r) h

/-- An operation whose frame has no work queues. -/
theorem Same.wq {W : List Part} {t s : State} (h : Same W t s) (hw : W.contains .wqs = false) (q : Nat) : t.wq q = s.wq q :=
  wq_congr (h.parts .wqs hw) q
/-- An operation whose frame has no completion rings. -/
theorem Same.cq {W : List Part} {t s : State} (h : Same W t s) (hw : W.contains .cqs = false) (r : Nat) : t.cq r = s.cq r :=
  cq_congr (h.parts .cqs hw) r

theorem wq_modWq_ne (s : State) {q n : Nat} (f : Wq → Wq) (h : n ≠ q) : (s.modWq q f).wq n = s.wq n := by
  unfold State.modWq
  split
  · rfl
  · exact tget_tset_ne _ _ _ _ h
theorem cq_modCq_ne (s : State) {r n : Nat} (f : Cq → Cq) (h : n ≠ r) : (s.modCq r f).cq n = s.cq n := by
  unfold State.modCq
  split
  · rfl
  · exact tget_tset_ne _ _ _ _ h

/-- A queue or a ring that is there reads as it is changed. -/
theorem wq_modWq_some {s : State} {q : Nat} {w : Wq} (h : s.wq q = some w) (f : Wq → Wq) : (s.modWq q f).wq q = some (f w) := by
  rw [wq_modWq, h, Option.map_some]
theorem cq_modCq_some {s : State} {r : Nat} {c : Cq} (h : s.cq r = some c) (f : Cq → Cq) : (s.modCq r f).cq r = some (f c) := by
  rw [cq_modCq, h, Option.map_some]

namespace State.KeepsRings

theorem refl (s : State) : State.KeepsRings s s := ⟨fun _ => rfl, fun _ => rfl⟩

theorem trans {t u s : State} (h : State.KeepsRings t u) (k : State.KeepsRings u s) : State.KeepsRings t s :=
  ⟨fun q => (h.wqs q).trans (k.wqs q), fun r => (h.cqs r).trans (k.cqs r)⟩

/-- An operation whose frame has neither queues nor rings. -/
theorem ofSame {W : List Part} {t s : State} (h : Same W t s) (hw : W.contains .wqs = false) (hc : W.contains .cqs = false) :
    State.KeepsRings t s :=
  ⟨fun q => congrArg _ (h.wq hw q), fun r => congrArg _ (h.cq hc r)⟩

theorem ite {c : Prop} [Decidable c] {a b s : State} (h : State.KeepsRings a s) (k : State.KeepsRings b s) :
    State.KeepsRings (if c then a else b) s := by
  split <;> assumption

/-- A pair whose second is the state. -/
theorem ofSnd {β : Type} {x : β × State} {t s : State} {b : β} (e : x = (b, t)) (h : State.KeepsRings x.2 s) : State.KeepsRings t s := by
  subst e; exact h

theorem foldl {α : Type} {g : State → α → State} (hg : ∀ s a, State.KeepsRings (g s a) s) (l : List α) (s : State) :
    State.KeepsRings (l.foldl g s) s := by
  induction l generalizing s with
  | nil => exact refl s
  | cons a l ih => exact (ih (g s a)).trans (hg s a)

theorem modWq (s : State) (q : Nat) {f : Wq → Wq} (hf : ∀ w, (f w).lasting = w.lasting) : State.KeepsRings (s.modWq q f) s := by
  refine ⟨fun n => ?_, fun r => congrArg _ ((State.modWq_same ..).cq rfl r)⟩
  by_cases hn : n = q
  · subst hn
    rw [wq_modWq, Option.map_map]
    exact congrArg (Option.map · _) (funext hf)
  · rw [wq_modWq_ne s f hn]

theorem modCq (s : State) (r : Nat) {f : Cq → Cq} (hf : ∀ c, (f c).lasting = c.lasting) : State.KeepsRings (s.modCq r f) s := by
  refine ⟨fun q => congrArg _ ((State.modCq_same ..).wq rfl q), fun n => ?_⟩
  by_cases hn : n = r
  · subst hn
    rw [cq_modCq, Option.map_map]
    exact congrArg (Option.map · _) (funext hf)
  · rw [cq_modCq_ne s f hn]

/-- A queue that was there is there, in all that lasts. -/
theorem wq_some {t s : State} (h : State.KeepsRings t s) {q : Nat} {w : Wq} (hw : s.wq q = some w) :
    ∃ w', t.wq q = some w' ∧ w'.lasting = w.lasting := by
  have e := h.wqs q
  rw [hw, Option.map_some] at e
  exact Option.map_eq_some_iff.mp e

/-- A ring that was there is there, in all that lasts. -/
theorem cq_some {t s : State} (h : State.KeepsRings t s) {r : Nat} {c : Cq} (hc : s.cq r = some c) :
    ∃ c', t.cq r = some c' ∧ c'.lasting = c.lasting := by
  have e := h.cqs r
  rw [hc, Option.map_some] at e
  exact Option.map_eq_some_iff.mp e

end State.KeepsRings

/-- R330: what a ring leaves room for changes whether its queues wait, and nothing else of them. -/
theorem keepsRings_updateWait (s : State) (ring : Nat) : State.KeepsRings (s.updateWait ring) s := by
  refine ⟨fun q => ?_, fun r => congrArg _ ((State.updateWait_same ..).cq rfl r)⟩
  unfold State.updateWait
  split
  · rfl
  · rw [State.wq, tget_tmap, Option.map_map]
    refine congrArg (Option.map · _) (funext fun w => ?_)
    rw [Function.comp_apply]
    split <;> rfl

theorem keepsRings_owe (s : State) (ring : Nat) (d : Int) : State.KeepsRings (s.owe ring d) s :=
  (keepsRings_updateWait ..).trans (.modCq s ring fun _ => rfl)

/-- R331: the count of an event moves from its queue to its record. -/
theorem keepsRings_fillEvent (s : State) (r : Rec) : State.KeepsRings (s.fillEvent r).2 s := by
  unfold State.fillEvent
  split
  · exact .refl s
  · split
    · exact .refl s
    · exact .modWq s _ fun _ => rfl

theorem keepsRings_drainRing (n : Nat) (s : State) (ring : Nat) : State.KeepsRings (s.drainRing ring n) s := by
  induction n generalizing s with
  | zero => exact .refl s
  | succ n ih =>
    unfold State.drainRing
    split
    · exact .refl s
    · split
      · exact .refl s
      · refine .ite ((ih _).trans ((State.KeepsRings.ofSame (State.countStale_same ..) rfl rfl).trans (.modCq s ring fun _ => rfl)))
          (.ite ?_ (.refl s))
        split
        next r t hr =>
        have ht : State.KeepsRings t s := .ofSnd hr (keepsRings_fillEvent ..)
        exact (ih _).trans ((State.KeepsRings.ofSame (State.emit_same ..) rfl rfl).trans
          ((State.KeepsRings.ofSame (State.touch_same ..) rfl rfl).trans (.trans (.modCq t ring fun _ => rfl) ht)))

theorem keepsRings_drain (s : State) (ring : Nat) : State.KeepsRings (s.drain ring) s := by
  unfold State.drain
  split
  · exact .refl s
  · exact keepsRings_drainRing ..

theorem keepsRings_makeRec (s : State) (ring : Nat) (r : Rec) : State.KeepsRings (s.makeRec ring r) s := by
  have hcount : State.KeepsRings ((r.inst.map fun i => s.count 0x0031 i 0 1).getD s) s := by
    cases r.inst with
    | none => exact .refl s
    | some i => exact .ofSame (State.count_same ..) rfl rfl
  exact .ite (.refl s) (.ite (.ofSame (State.countStale_same ..) rfl rfl) ((keepsRings_drain ..).trans
    (.trans (.modCq _ ring fun _ => rfl) (.ite hcount (.refl s)))))

theorem keepsRings_missedArrivals (s : State) (ring : Nat) : State.KeepsRings (s.missedArrivals ring) s := by
  refine .foldl (fun s e => .ite ?_ (.refl s)) ..
  split
  · exact .ite ((keepsRings_makeRec ..).trans (.ofSame (State.modCtx_same ..) rfl rfl)) (.refl s)
  · exact .refl s

/-- R309, R332: what follows from the space or the state that a ring gains. -/
theorem keepsRings_resume (s : State) (ring : Nat) : State.KeepsRings (((s.drain ring).missedArrivals ring).updateWait ring) s :=
  (keepsRings_updateWait ..).trans ((keepsRings_missedArrivals ..).trans (keepsRings_drain ..))

/-! ### Queues that go (R635) -/

/-- A queue that nobody destroys stays. -/
theorem queueGone_of_not_destroying {s : State} {q : Nat} (h : ∀ w, s.wq q = some w → w.destroying = false) : s.queueGone q = s := by
  unfold State.queueGone
  split
  · rfl
  next w hw => simp only [h w hw, Bool.false_and, Bool.false_eq_true, if_false]

/-- A queue goes, or nothing happens. -/
theorem queueGone_gone_or_eq (s : State) (q : Nat) : (s.queueGone q).wq q = none ∨ s.queueGone q = s := by
  unfold State.queueGone
  split
  · exact .inr rfl
  · extract_lets pend s1 s2
    have hgone : s2.wq q = none := tget_tdel_same ..
    clear_value s2
    split
    · refine .inl ?_
      split
      · exact ((State.answer_same ..).wq rfl q).trans hgone
      · exact hgone
    · exact .inr rfl

/-- A queue that is still there after it may have gone is as it was. -/
theorem wq_of_queueGone {s : State} {q : Nat} {w : Wq} (h : (s.queueGone q).wq q = some w) : s.wq q = some w := by
  rcases queueGone_gone_or_eq s q with hn | he
  · rw [hn] at h
    cases h
  · rwa [he] at h

/-- R314, R320: the completion of an operation of a queue that nobody destroys. -/
theorem keepsRings_complete {s : State} {q : Nat} (hstay : ∀ w, s.wq q = some w → w.destroying = false) (index : BitVec 32) (line : Line)
    (epoch : BitVec 16) (status : BitVec 8) (bytes : Nat) (result : BitVec 256) :
    State.KeepsRings (s.complete q index line epoch status bytes result) s := by
  unfold State.complete
  split
  · exact .refl s
  next w hw =>
    refine .ite (.refl s) ?_
    extract_lets r s1 s2 s3
    have h2 : State.KeepsRings s2 s := (keepsRings_owe ..).trans (.modWq s q fun _ => rfl)
    have h3 : State.KeepsRings s3 s := State.KeepsRings.trans (.ite (.refl s2) (keepsRings_makeRec ..)) h2
    clear_value s3
    have h4 : State.KeepsRings ((s3.updateWait w.cq.toNat).tagDone q index status) s :=
      (State.KeepsRings.ofSame (State.tagDone_same ..) rfl rfl).trans ((keepsRings_updateWait ..).trans h3)
    rwa [queueGone_of_not_destroying fun w' hw' => ?_]
    obtain ⟨w'', hw'', hl⟩ := h4.wq_some hw
    obtain rfl : w'' = w' := Option.some.inj (hw''.symm.trans hw')
    exact (congrArg Wq.destroying hl).trans (hstay w hw)

end Sys2Proof.Machine
end

section
/-! PROOFS. A completion ring's doorbell (R309): O58. -/

namespace Sys2Proof.Machine

open Sys2Proof

/-- R309: a doorbell beyond the records made leaves head as it is, and a Notice of the port. -/
theorem cqDoorbell_refuses {s : State} {fn : Fn} {ring : BitVec 14} {index : BitVec 32} {c : Cq} (hc : s.cq ring.toNat = some c)
    (hrun : s.quench.halted = false) (howner : c.owner = fn) (hdis : c.state ≠ .disabled)
    (hgt : ¬(index - c.head).toNat ≤ (c.tail - c.head).toNat) :
    exec (.cqDoorbell fn ring index 0 true) s =
      .next ((s.modCq ring.toNat fun c => { c with headStale := true }).badDoorbell fn ring) := by
  have hgood : (!true || (0 : BitVec 17) != 0 || c.owner != fn || c.state == .disabled) = false := by simp [howner, hdis]
  show execCqDoorbell fn ring index 0 true s = _
  simp only [execCqDoorbell, hc, hrun, hgood, Bool.false_eq_true, if_false, if_neg hgt]

/-- R305, R306, R309: the Notice of a doorbell that is discarded or refused comes from the function's port. -/
theorem raised_badDoorbell (s : State) (fn : Fn) (queue : BitVec 14) :
    ∃ e : QEvent, (s.badDoorbell fn queue).quench.raised = s.quench.raised ++ [e] ∧ e.source = 1024 + 32 * fn.port + 8 :=
  ⟨_, raised_raise .., rfl⟩

/-- Settles O58: a doorbell within the records made moves head, and what then follows of the ring leaves it there; any other leaves
head, and marks the ring. -/
theorem completionDoorbell : Obligations.CompletionDoorbell := by
  intro fn ring g s c hc hrun howner hdis
  by_cases hle : (g - c.head).toNat ≤ (c.tail - c.head).toNat
  · obtain ⟨t, ht, rfl⟩ := cqDoorbell_moves_head hc hrun howner hdis hle
    obtain ⟨c', hc', hl⟩ := (keepsRings_resume (s.modCq ring.toNat fun c => { c with head := g }) ring.toNat).cq_some
      (cq_modCq_some hc _)
    exact ⟨_, c', ht, hc', by rw [if_pos hle]; exact congrArg Cq.head hl⟩
  · refine ⟨_, { c with headStale := true }, cqDoorbell_refuses hc hrun howner hdis hle,
      ((State.badDoorbell_same ..).cq rfl _).trans (cq_modCq_some hc _), ?_⟩
    rw [if_neg hle]
    obtain ⟨e, he, hsrc⟩ := raised_badDoorbell (s.modCq ring.toNat fun c => { c with headStale := true }) fn ring
    exact ⟨rfl, e, by rw [he, quench_modCq], hsrc⟩

end Sys2Proof.Machine
end

section
/-! PROOFS. A queue's engine (R300, R301, R302, R312, R315, R327, R330): O2. -/

namespace Sys2Proof.Machine

open Sys2Proof

/-! ### Descriptors -/

/-- R315, R330: where the queue, the module, the port and the ring have room, the next descriptor is read. -/
theorem descriptorFetch_reads {s : State} {q : Nat} {w : Wq} {c : Cq} (hw : s.wq q = some w) (hc : s.cq w.cq.toNat = some c)
    (hrun : w.state = .running) (hstay : w.destroying = false) (hread : w.reading = none) (hocc : w.occ ≠ 0)
    (hfetched : w.fetched.length < Config.fetchedMax) (hops : s.opsInFlight < Config.opsInFlightMax)
    (hport : (s.port w.owner.port).present = true) (hd2h : (s.port w.owner.port).readsOut < Config.d2hReads) (hmode : s.fetchMode = true)
    (hmay : c.mayFetch = true) :
    Completes (exec (.descriptorFetch q) s) fun t =>
      ∃ w', t.wq q = some w' ∧ w'.reading = some w.head ∧ w'.head = w.head ∧ w'.tail = w.tail := by
  show Completes (execDescriptorFetch q s) _
  have hgo : (w.state != .running || w.destroying || w.reading.isSome || w.occ == 0 || decide (Config.fetchedMax ≤ w.fetched.length) ||
      decide (Config.opsInFlightMax ≤ s.opsInFlight) || !(s.port w.owner.port).present ||
      decide (Config.d2hReads ≤ (s.port w.owner.port).readsOut) || !s.fetchMode) = false := by
    simp [hrun, hstay, hread, hocc, hfetched, hops, hport, hd2h, hmode]
  simp only [execDescriptorFetch, hw, hc, hgo, hmay, Bool.not_true, Bool.false_eq_true, if_false]
  obtain ⟨w', hw', hl⟩ := (keepsRings_owe (s.modWq q fun w => { w with reading := some w.head }) w.cq.toNat 1).wq_some (wq_modWq_some hw _)
  exact ⟨_, rfl, w', ((State.hostRead_same ..).wq rfl q).trans hw', (congrArg Wq.reading hl :), (congrArg Wq.head hl :),
    (congrArg Wq.tail hl :)⟩

/-- R299, R300, R313: a descriptor that arrives whole moves head, and waits to start. -/
theorem descriptorReadComplete_arrives {s : State} {q : Nat} {w : Wq} {i : BitVec 32} {bs : List Byte} (hw : s.wq q = some w)
    (hread : w.reading = some i) (hgood : malformedCommon (lineOf bs) = none) :
    Completes (exec (.descriptorReadComplete q (.data bs false)) s) fun t =>
      ∃ w' tag, t.wq q = some w' ∧ w'.head = i + 1 ∧ w'.reading = none ∧ w'.open_ = w.open_ ++ [i] ∧
        w'.fetched = w.fetched ++ [{ index := i, line := lineOf bs, tagId := tag }] := by
  show Completes (execDescriptorReadComplete q (.data bs false) s) _
  simp only [execDescriptorReadComplete, hw, hread, hgood, Bool.false_eq_true, if_false]
  generalize hu : (w.instOf.map fun k => State.count _ 0x0030 k 0 1).getD _ = u
  have huw : u.wq q = some w := by
    have hnote : ((s.dropD2h w.owner.port (.descriptor q i)).noteRead w.owner.port (.data bs false)).wq q = some w :=
      ((State.noteRead_same ..).wq rfl q).trans (((State.dropD2h_same ..).wq rfl q).trans hw)
    subst hu
    cases w.instOf with
    | none => exact hnote
    | some k => exact ((State.count_same ..).wq rfl q).trans hnote
  have htag : (u.tagFetch q w.inst.toNat i (BitVec.ofNat 8 (dOp (lineOf bs)))).1.wq q = some w :=
    ((State.tagFetch_same ..).wq rfl q).trans huw
  exact ⟨_, rfl, _, _, wq_modWq_some (wq_modWq_some htag _) _, rfl, rfl, rfl, rfl⟩

/-- R312: a NOP that starts completes. -/
theorem nop_completes {s : State} {q : Nat} {w : Wq} {f : Fetched} (h : s.startable q 0 = some (w, f)) :
    Completes (exec (.nop q) s) fun t => t = (s.started q).complete q f.index f.line (s.epochOf w) 0 0 0 := by
  show Completes (execNop q s) _
  simp only [execNop, h]
  exact ⟨_, rfl, rfl⟩

/-! ### Records and words written back -/

/-- R327: the oldest write of a ring moves its tail. -/
theorem recordWriteComplete_moves_tail {s : State} {ring : Nat} {c : Cq} {r : Rec} {rs : List Rec} (hc : s.cq ring = some c)
    (hwriting : c.writing = r :: rs) :
    Completes (exec (.recordWriteComplete ring) s) fun t =>
      ∃ c', t.cq ring = some c' ∧ c'.tail = c.tail + 1 ∧ c'.writing = rs ∧ c'.head = c.head := by
  show Completes (execRecordWriteComplete ring s) _
  simp only [execRecordWriteComplete, hc, hwriting]
  have hnext := cq_modCq_some hc fun c =>
    { c with writing := rs, tail := c.tail + 1, wbDirty := true, sigPending := c.sigPending || (r.signal && c.irqEnable) }
  split
  · exact ⟨_, rfl, _, ((State.queueGone_same ..).cq rfl ring).trans hnext, rfl, rfl, rfl⟩
  · exact ⟨_, rfl, _, hnext, rfl, rfl, rfl⟩

/-- R302, R334: a ring's word is written back, and its signal follows. -/
theorem writeBackWord_ring {s : State} {ring : Nat} {c : Cq} (hc : s.cq ring = some c) (hdirty : c.wbDirty = true)
    (hcan : s.canWrite c.owner.port = true) :
    Completes (exec (.writeBackWord true ring) s) fun t => t.cq ring = some { c with wbDirty := false, sigPending := false } := by
  refine ⟨s.writeBackCq ring, rfl, ?_⟩
  have hput : ∀ va bs, ((s.modCq ring fun c => { c with wbDirty := false, sigPending := false }).hostPut c.owner.port c.domain va bs
      false 0 0 false).cq ring = some { c with wbDirty := false, sigPending := false } := fun _ _ =>
    ((State.hostPut_same ..).cq rfl ring).trans (cq_modCq_some hc _)
  simp only [State.writeBackCq, hc, hdirty, hcan, Bool.not_true, Bool.or_self, Bool.false_eq_true, if_false]
  split
  · exact ((State.signal_same ..).cq rfl ring).trans (hput ..)
  · exact hput ..

/-- R301: a queue's word is written back. -/
theorem writeBackWord_queue {s : State} {q : Nat} {w : Wq} (hw : s.wq q = some w) (hdirty : w.wbDirty = true)
    (hcan : s.canWrite w.owner.port = true) :
    Completes (exec (.writeBackWord false q) s) fun t => t.wq q = some { w with wbDirty := false } := by
  refine ⟨s.writeBackWq q, rfl, ?_⟩
  simp only [State.writeBackWq, hw, hdirty, hcan, Bool.not_true, Bool.or_self, Bool.false_eq_true, if_false]
  exact ((State.hostPut_same ..).wq rfl q).trans (wq_modWq_some hw _)

/-- Settles O2: clause by clause, each event of the engine in the branch that its hypotheses choose. -/
theorem ringEngineCompletes : Obligations.RingEngineCompletes := by
  refine ⟨fun _ _ _ _ hw hc hrun hstay hread hocc hfetched hops hport hd2h hmode hmay =>
      descriptorFetch_reads hw hc hrun hstay hread hocc hfetched hops hport hd2h hmode hmay,
    fun _ _ _ _ _ hw hread hgood => descriptorReadComplete_arrives hw hread hgood, fun _ _ _ _ h => nop_completes h,
    fun _ _ _ _ _ hc hwriting => recordWriteComplete_moves_tail hc hwriting, fun _ _ _ hc hdirty hcan => ?_, fun _ _ _ hw hdirty hcan => ?_⟩
  · obtain ⟨t, ht, hct⟩ := writeBackWord_ring hc hdirty hcan
    exact ⟨t, ht, _, hct, rfl, rfl, rfl, rfl⟩
  · obtain ⟨t, ht, hwt⟩ := writeBackWord_queue hw hdirty hcan
    exact ⟨t, ht, _, hwt, rfl, rfl, rfl⟩

end Sys2Proof.Machine
end

section
/-! PROOFS. The commands on queues and rings (R293-R295, R323, R332, R334, R335, R635): O3. -/

namespace Sys2Proof.Machine

open Sys2Proof

/-! ### What a command on queues and rings reads when it is taken -/

@[simp] theorem wq_take (s : State) (q : QCmd) (n : Nat) : (s.take q).wq n = s.wq n := read_take (·.wq n) s q fun _ _ _ _ _ => rfl
@[simp] theorem cq_take (s : State) (q : QCmd) (n : Nat) : (s.take q).cq n = s.cq n := read_take (·.cq n) s q fun _ _ _ _ _ => rfl
@[simp] theorem holder_take (s : State) (q : QCmd) (a : Auth) (inst : Option Nat) : (s.take q).holder a inst = s.holder a inst :=
  read_take (·.holder a inst) s q fun _ _ _ _ _ => rfl
@[simp] theorem creator_take (s : State) (q : QCmd) (c : Call) (inst : Option Nat) : (s.take q).creator c inst = s.creator c inst :=
  read_take (·.creator c inst) s q fun _ _ _ _ _ => rfl
@[simp] theorem reachesObj_take (s : State) (q : QCmd) (a : Auth) (c : Call) (owner : Fn) (inst : Option Nat) :
    (s.take q).reachesObj a c owner inst = s.reachesObj a c owner inst := read_take (·.reachesObj a c owner inst) s q fun _ _ _ _ _ => rfl
@[simp] theorem wqsOf_take (s : State) (q : QCmd) (i : Nat) : (s.take q).wqsOf i = s.wqsOf i := read_take (·.wqsOf i) s q fun _ _ _ _ _ => rfl
@[simp] theorem cqsOf_take (s : State) (q : QCmd) (i : Nat) : (s.take q).cqsOf i = s.cqsOf i := read_take (·.cqsOf i) s q fun _ _ _ _ _ => rfl

/-! ### Creation (R293-R295) -/

/-- A holder below its grant is not refused. -/
theorem grant_left {h : Option Nat} {used grant : Nat → Nat} (hlt : ∀ i, h = some i → used i < grant i) :
    (h.map fun i => decide (grant i ≤ used i)).getD false = false := by
  cases h with
  | none => rfl
  | some i => exact decide_eq_false (Nat.not_le.mpr (hlt i rfl))

/-- R293-R295: WQ_CREATE makes a running, empty queue. -/
theorem wqCreate_creates {s : State} {c : Call} {inst queue : Option Nat} {q size : Nat} {base wb : Word} {ring : Nat} {h : Option Nat}
    {owner : Fn} {r : Cq} (hholder : s.holder (s.authOf c.via) inst = some h) (hcreator : s.creator c inst = some owner) (hsize : size ≤ 14)
    (halign : misaligned base wb = none) (hr : s.cq ring = some r) (hreach : s.reachesObj (s.authOf c.via) c r.owner r.inst = true)
    (howner : r.owner = owner) (hnotify : ∀ e ∈ s.matching.ctxs, e.2.notify ≠ some (BitVec.ofNat 14 ring))
    (hgrant : ∀ i, h = some i → s.wqsOf i < s.grant i 0)
    (hq : queue = some q ∧ q < Config.queueCount ∨ queue = none ∧ freeKey s.wqs Config.queueCount = some q) (hfree : s.wq q = none) :
    Does (.wqCreate c inst queue size base wb ring) s (.res (leBytes 8 q)) fun u => ∃ w, u.wq q = some w ∧ w.lasting = Wq.lasting {
      state := .running, pfHeld := h.isNone, sizeCode := BitVec.ofNat 4 size, cq := BitVec.ofNat 14 ring,
      inst := BitVec.ofNat 10 (h.getD owner.port), base, wb, owner, wbDirty := true } := by
  subst howner
  refine does_of_fleso rfl (execWqCreate.eq_1 ..) (fun a => by cases a <;> rfl) fun cmd _ => ?_
  have hany : (s.matching.ctxs.any fun e => e.2.notify == some (BitVec.ofNat 14 ring)) = false :=
    List.any_eq_false.mpr fun e he => by simpa using hnotify e he
  simp only [holder_take, hholder, creator_take, hcreator, Nat.not_lt.mpr hsize, halign, cq_take, hr, reachesObj_take, hreach,
    matching_take, hany, grant_take, wqsOf_take, grant_left hgrant, wqs_take, wq_take, Bool.not_true, Bool.false_eq_true, ne_eq, not_true,
    if_false]
  rcases hq with ⟨rfl, hlt⟩ | ⟨rfl, hfirst⟩
  · simp only [hlt, hfree, Option.isSome_none, Bool.false_eq_true, if_false, if_true]
    exact ⟨trivial, (keepsRings_updateWait ..).wq_some (tget_tset_same ..)⟩
  · simp only [hfirst, hfree, Option.isSome_none, Bool.false_eq_true, if_false]
    exact ⟨trivial, (keepsRings_updateWait ..).wq_some (tget_tset_same ..)⟩

/-- R294, R295: CQ_CREATE makes a running, empty ring. -/
theorem cqCreate_creates {s : State} {c : Call} {inst ring : Option Nat} {q size : Nat} {base wb : Word} {vector : Nat} {irq : Bool}
    {h : Option Nat} {owner : Fn} (hholder : s.holder (s.authOf c.via) inst = some h) (hcreator : s.creator c inst = some owner)
    (hsize : size ≤ 14) (hlo : 2 ≤ vector) (hhi : vector < 2048) (halign : misaligned base wb = none)
    (hgrant : ∀ i, h = some i → s.cqsOf i < s.grant i 1)
    (hq : ring = some q ∧ q < Config.queueCount ∨ ring = none ∧ freeKey s.cqs Config.queueCount = some q) (hfree : s.cq q = none) :
    Does (.cqCreate c inst ring size base wb vector irq) s (.res (leBytes 8 q)) fun u => u.cq q = some {
      state := .running, irqEnable := irq, sizeCode := BitVec.ofNat 4 size, vector := BitVec.ofNat 11 vector, base, wb, owner, inst := h,
      wbDirty := true } := by
  refine does_of_fleso rfl (execCqCreate.eq_1 ..) (fun a => by cases a <;> rfl) fun cmd _ => ?_
  have hvector : ¬(vector < 2 ∨ 2048 ≤ vector) := by omega
  simp only [holder_take, hholder, creator_take, hcreator, Nat.not_lt.mpr hsize, hvector, halign, grant_take, cqsOf_take, grant_left hgrant,
    cqs_take, cq_take, Bool.false_eq_true, if_false]
  rcases hq with ⟨rfl, hlt⟩ | ⟨rfl, hfirst⟩
  · simp only [hlt, hfree, Option.isSome_none, Bool.false_eq_true, if_false, if_true]
    exact ⟨trivial, tget_tset_same ..⟩
  · simp only [hfirst, hfree, Option.isSome_none, Bool.false_eq_true, if_false]
    exact ⟨trivial, tget_tset_same ..⟩

/-! ### Commands on a work queue (R323, R335, R635) -/

section
variable {s : State} {c : Call} {q : Nat} {w : Wq} (hw : s.wq q = some w)
  (hreach : s.reachesObj (s.authOf c.via) c w.owner w.instOf = true)
include hw hreach

/-- R323: WQ_RESTART by retry. -/
theorem wqRestart_retries (hstate : w.state = .error) :
    Does (.wqRestart c q false) s .ok fun u => u.wq q = some { w with state := .running, errorCause := 0, wbDirty := true } := by
  refine does_of_fleso rfl (execWqRestart.eq_1 ..) (fun a => by cases a <;> rfl) fun cmd _ => ?_
  have hw' := (wq_take s cmd q).trans hw
  simp only [hw', reachesObj_take, hreach, hstate, Bool.not_true, Bool.false_eq_true, ne_eq, not_true, if_false]
  exact ⟨trivial, wq_modWq_some hw' _⟩

/-- R323: WQ_RESTART by skip completes the descriptor at head, and goes on behind it. -/
theorem wqRestart_skips (hstate : w.state = .error) (hstay : w.destroying = false) :
    Does (.wqRestart c q true) s .ok fun u => ∃ w', u.wq q = some w' ∧ w'.state = .running ∧ w'.head = w.head + 1 ∧ w'.tail = w.tail := by
  refine does_of_fleso rfl (execWqRestart.eq_1 ..) (fun a => by cases a <;> rfl) fun cmd _ => ?_
  have hw' := (wq_take s cmd q).trans hw
  simp only [hw', reachesObj_take, hreach, hstate, Bool.not_true, Bool.false_eq_true, ne_eq, not_true, if_false, if_true]
  obtain ⟨w1, hw1, hl1⟩ := (keepsRings_owe ((s.take cmd).modWq q fun x =>
    { x with state := .running, errorCause := 0, head := w.head + 1, wbDirty := true, open_ := x.open_ ++ [w.head] }) w.cq.toNat 1).wq_some
    (wq_modWq_some hw' _)
  have hstay1 : w1.destroying = false := (congrArg Wq.destroying hl1).trans hstay
  obtain ⟨w2, hw2, hl2⟩ := (keepsRings_complete (fun x hx => Option.some.inj (hw1.symm.trans hx) ▸ hstay1) ..).wq_some hw1
  have hl := hl2.trans hl1
  exact ⟨trivial, w2, hw2, congrArg Wq.state hl, congrArg Wq.head hl, (congrArg Wq.tail hl :)⟩

/-- R335: QUEUE_STATUS of a work queue. -/
theorem queueStatus_queue {clear : Word} (hclear : clear &&& 0xfffffffffffffff3#64 = 0) :
    Does (.queueStatus c false q clear) s
      (.res (leBytes 8 w.indexWord ++ leBytes 8 w.stateWord ++ leBytes 8 w.base.toNat ++ leBytes 8 w.wb.toNat))
      fun u => u.wq q = some { w with overrun := w.overrun && !bit clear 2, stale := w.stale && !bit clear 3 } := by
  refine does_of_fleso rfl (execQueueStatus.eq_1 ..) (fun a => by cases a <;> rfl) fun cmd _ => ?_
  have hw' := (wq_take s cmd q).trans hw
  simp only [hw', reachesObj_take, hreach, hclear, Bool.not_true, Bool.false_eq_true, ne_eq, not_true, if_false]
  exact ⟨trivial, wq_modWq_some hw' _⟩

/-- R635: QUEUE_DESTROY disables a work queue, which stays or goes. -/
theorem queueDestroy_disables (hstay : w.destroying = false) :
    Does (.queueDestroy c false q) s .later fun u =>
      ∀ w', u.wq q = some w' → w'.state = .disabled ∧ w'.destroying = true ∧ w'.destroyCall = some c := by
  refine does_of_fleso rfl (execQueueDestroy.eq_1 ..) (fun a => by cases a <;> rfl) fun cmd _ => ?_
  have hw' := (wq_take s cmd q).trans hw
  simp only [hw', reachesObj_take, hreach, hstay, Bool.not_true, Bool.false_eq_true, if_false]
  refine ⟨trivial, fun w2 hw2 => ?_⟩
  obtain ⟨w1, hw1, hl⟩ := (keepsRings_owe ((s.take cmd).modWq q fun w =>
    { w with state := .disabled, destroying := true, destroyCall := some c, reading := none, wbDirty := true }) w.cq.toNat
      (-(bnat w.reading.isSome : Int))).wq_some (wq_modWq_some hw' _)
  obtain rfl : w1 = w2 := Option.some.inj (hw1.symm.trans (wq_of_queueGone hw2))
  exact ⟨congrArg Wq.state hl, congrArg Wq.destroying hl, congrArg Wq.destroyCall hl⟩

end

/-! ### Commands on a completion ring (R332, R334, R335, R635) -/

section
variable {s : State} {c : Call} {ring : Nat} {r : Cq} (hr : s.cq ring = some r)
  (hreach : s.reachesObj (s.authOf c.via) c r.owner r.inst = true)
include hr hreach

/-- R332: CQ_RESTART goes on at the tail that did not advance. -/
theorem cqRestart_resumes (hstate : r.state = .error) :
    Does (.cqRestart c ring) s .ok fun u => ∃ r', u.cq ring = some r' ∧ r'.state = .running ∧ r'.head = r.head ∧ r'.tail = r.tail := by
  refine does_of_fleso rfl (execCqRestart.eq_1 ..) (fun a => by cases a <;> rfl) fun cmd _ => ?_
  have hr' := (cq_take s cmd ring).trans hr
  simp only [hr', reachesObj_take, hreach, hstate, Bool.not_true, Bool.false_eq_true, ne_eq, not_true, if_false]
  obtain ⟨r1, hr1, hl⟩ := (keepsRings_resume ((s.take cmd).modCq ring fun c => { c with state := .running }) ring).cq_some
    (cq_modCq_some hr' _)
  exact ⟨trivial, r1, hr1, congrArg Cq.state hl, (congrArg Cq.head hl :), (congrArg Cq.tail hl :)⟩

/-- R335: QUEUE_STATUS of a ring. -/
theorem queueStatus_ring {clear : Word} (hclear : clear &&& 0xfffffffffffffffb#64 = 0) :
    Does (.queueStatus c true ring clear) s
      (.res (leBytes 8 r.indexWord ++ leBytes 8 r.stateWord ++ leBytes 8 r.base.toNat ++ leBytes 8 r.wb.toNat))
      fun u => u.cq ring = some { r with headStale := r.headStale && !bit clear 2 } := by
  refine does_of_fleso rfl (execQueueStatus.eq_1 ..) (fun a => by cases a <;> rfl) fun cmd _ => ?_
  have hr' := (cq_take s cmd ring).trans hr
  simp only [hr', reachesObj_take, hreach, hclear, Bool.not_true, Bool.false_eq_true, ne_eq, not_true, if_false, if_true]
  exact ⟨trivial, cq_modCq_some hr' _⟩

/-- R635: QUEUE_DESTROY of a ring that no queue targets. -/
theorem queueDestroy_removes_ring (hfree : ∀ e ∈ s.wqs, e.2.cq.toNat ≠ ring) :
    Does (.queueDestroy c true ring) s .ok fun u => u.cq ring = none := by
  refine does_of_fleso rfl (execQueueDestroy.eq_1 ..) (fun a => by cases a <;> rfl) fun cmd _ => ?_
  have hr' := (cq_take s cmd ring).trans hr
  have hany : (s.wqs.any fun e => e.2.cq.toNat == ring) = false := List.any_eq_false.mpr fun e he => by simpa using hfree e he
  simp only [hr', reachesObj_take, hreach, wqs_take, hany, Bool.not_true, Bool.false_eq_true, if_false, if_true]
  exact ⟨trivial, tget_tdel_same ..⟩

/-- R334: CQ_SIGNAL sets a ring's irq_enable and vector. -/
theorem cqSignal_sets {irq : Bool} {vector : Nat} (hlo : 2 ≤ vector) (hhi : vector < 2048) :
    Does (.cqSignal c ring irq vector) s .ok fun u => u.cq ring = some { r with irqEnable := irq, vector := BitVec.ofNat 11 vector } := by
  refine does_of_fleso rfl (execCqSignal.eq_1 ..) (fun a => by cases a <;> rfl) fun cmd _ => ?_
  have hr' := (cq_take s cmd ring).trans hr
  have hvector : ¬(vector < 2 ∨ 2048 ≤ vector) := by omega
  simp only [hr', reachesObj_take, hreach, hvector, Bool.not_true, Bool.false_eq_true, if_false]
  exact ⟨trivial, cq_modCq_some hr' _⟩

end

/-- Settles O3: clause by clause, each command in the branch that its hypotheses choose; what follows a restart or a destruction leaves
the queue or ring as the command set it. -/
theorem queueCommandsComplete : Obligations.QueueCommandsComplete := by
  refine ⟨fun _ _ _ _ _ _ _ _ _ _ _ _ hholder hcreator hsize halign hr hreach howner hnotify hgrant hq hfree =>
      (wqCreate_creates hholder hcreator hsize halign hr hreach howner hnotify hgrant hq hfree).imp fun _ ⟨w, hw, hl⟩ =>
        ⟨w, hw, congrArg Wq.state hl, congrArg Wq.head hl, congrArg Wq.tail hl, congrArg Wq.sizeCode hl, congrArg Wq.cq hl,
          congrArg Wq.base hl, congrArg Wq.wb hl, congrArg Wq.owner hl⟩,
    fun _ _ _ _ _ _ _ _ _ _ _ _ hholder hcreator hsize hlo hhi halign hgrant hq hfree =>
      (cqCreate_creates hholder hcreator hsize hlo hhi halign hgrant hq hfree).imp fun _ hcq =>
        ⟨_, hcq, rfl, rfl, rfl, rfl, rfl, rfl, rfl, rfl, rfl, rfl⟩,
    fun _ _ _ _ hw hreach hstate => wqRestart_retries hw hreach hstate,
    fun _ _ _ _ hw hreach hstate hstay => wqRestart_skips hw hreach hstate hstay,
    fun _ _ _ _ hr hreach hstate => cqRestart_resumes hr hreach hstate,
    fun _ _ _ _ _ hr hreach hclear => queueStatus_ring hr hreach hclear,
    fun _ _ _ _ _ hw hreach hclear => queueStatus_queue hw hreach hclear,
    fun _ _ _ _ hr hreach hfree => queueDestroy_removes_ring hr hreach hfree,
    fun _ _ _ _ hw hreach hstay => queueDestroy_disables hw hreach hstay,
    fun _ _ _ _ _ _ hr hreach hlo hhi => cqSignal_sets hr hreach hlo hhi⟩

end Sys2Proof.Machine
end

section
/-! PROOFS. What adding to a Tally, arming and firing it make of it, and what they leave of remote access (R418, R421-R424). -/

namespace Sys2Proof.Machine

open Sys2Proof

@[simp] theorem remote_owe (s : State) (ring : Nat) (d : Int) : (s.owe ring d).remote = s.remote := (State.owe_same ..).parts .remote rfl
@[simp] theorem remote_makeRec (s : State) (ring : Nat) (r : Rec) : (s.makeRec ring r).remote = s.remote :=
  (State.makeRec_same ..).parts .remote rfl
@[simp] theorem remote_makeRecs (s : State) (ring : Nat) (rs : List Rec) :
    (rs.foldl (fun s r => s.makeRec ring r) s).remote = s.remote :=
  (Same.foldl (fun s r => State.makeRec_same s ring r) rs (Same.refl _ s)).parts .remote rfl
@[simp] theorem remote_complete (s : State) (q : Nat) (index : BitVec 32) (line : Line) (epoch : BitVec 16) (status : BitVec 8) (bytes : Nat)
    (result : BitVec 256) : (s.complete q index line epoch status bytes result).remote = s.remote :=
  (State.complete_same ..).parts .remote rfl
@[simp] theorem remote_logPages (s : State) (i : Nat) (va : Word) (len : Nat) : (s.logPages i va len).remote = s.remote :=
  (State.logPages_same ..).parts .remote rfl
@[simp] theorem remote_noteAccess (s : State) (port : Nat) (acc : Access) : (s.noteAccess port acc).remote = s.remote :=
  (State.noteAccess_same ..).parts .remote rfl
@[simp] theorem remote_hostPut (s : State) (port domain : Nat) (va : Word) (bs : List Byte) (poisoned : Bool) (who : BitVec 29)
    (which : BitVec 32) (remote : Bool) : (s.hostPut port domain va bs poisoned who which remote).remote = s.remote :=
  (State.hostPut_same ..).parts .remote rfl

theorem tally_congr {t s : State} (h : t.remote = s.remote) (n : Nat) : t.tally n = s.tally n :=
  congrArg (fun r : Remote => tgetD r.tallies n { allocated := false }) h

/-! ### What is left of remote access -/

/-- Of remote access, t differs from s in the Tallies only. -/
def State.KeepsAccess (t s : State) : Prop := ∃ tallies, t.remote = { s.remote with tallies }

namespace State.KeepsAccess

theorem refl (s : State) : s.KeepsAccess s := ⟨_, rfl⟩

theorem trans {t u s : State} (h : t.KeepsAccess u) (k : u.KeepsAccess s) : t.KeepsAccess s := by
  obtain ⟨l, hl⟩ := h
  obtain ⟨m, hm⟩ := k
  exact ⟨l, by rw [hl, hm]⟩

theorem ofRemote {t s : State} (h : t.remote = s.remote) : t.KeepsAccess s := ⟨s.remote.tallies, h⟩

theorem ite {c : Prop} [Decidable c] {a b s : State} (h : a.KeepsAccess s) (k : b.KeepsAccess s) : (if c then a else b).KeepsAccess s := by
  split <;> assumption

theorem modTally (s : State) (n : Nat) (f : Tally → Tally) : (s.modTally n f).KeepsAccess s := ⟨_, rfl⟩

theorem srcOp {t s : State} (h : t.KeepsAccess s) (src : Endpoint) (tag : BitVec 32) : t.srcOp src tag = s.srcOp src tag := by
  obtain ⟨l, hl⟩ := h
  rw [State.srcOp, hl]
  rfl

end State.KeepsAccess

theorem keepsAccess_fire (s : State) (n : Nat) : (s.fire n).KeepsAccess s := by
  have howe : ((s.modTally n fun t => { t with armed := false }).owe (s.tally n).notifyRing.toNat (-1)).KeepsAccess s :=
    (State.KeepsAccess.ofRemote (remote_owe ..)).trans (.modTally ..)
  exact .ite (.ite (.modTally ..) (.ite (.trans (.modTally ..) howe) (.trans (.ofRemote (remote_makeRec ..)) howe))) (.refl s)

theorem keepsAccess_tallyAdd (s : State) (n : Nat) (amount : Word) : (s.tallyAdd n amount).KeepsAccess s :=
  .ite (.refl s) (.ite (.modTally ..) (.trans (.ofRemote rfl) ((keepsAccess_fire ..).trans (.modTally ..))))

/-! ### What becomes of the Tally -/

/-- R421, R422: firing disarms an armed Tally at or past its threshold; its value and threshold stay. -/
theorem tally_fire (s : State) (n : Nat) : ∃ fireRecs mirrorDirty, (s.fire n).tally n = { s.tally n with
    armed := (s.tally n).armed && !reached (s.tally n).value (s.tally n).threshold, fireRecs, mirrorDirty } := by
  unfold State.fire
  dsimp only
  split
  next h =>
    have hpast : reached (s.tally n).value (s.tally n).threshold = true := (Bool.and_eq_true_iff.1 h).2
    simp only [hpast, Bool.not_true, Bool.and_false]
    split
    · exact ⟨_, _, tally_modTally ..⟩
    · split
      · exact ⟨_, _, by rw [tally_modTally, tally_congr (remote_owe ..), tally_modTally]⟩
      · exact ⟨_, _, by rw [tally_congr (remote_makeRec ..), tally_congr (remote_owe ..), tally_modTally]⟩
  next h =>
    have hstay : ((s.tally n).armed && !reached (s.tally n).value (s.tally n).threshold) = (s.tally n).armed := by
      cases hr : reached (s.tally n).value (s.tally n).threshold <;> simp_all
    exact ⟨_, _, by rw [hstay]⟩

/-- R418: an add at a Tally's home. -/
theorem tally_tallyAdd {s : State} {n : Nat} (amount : Word) (hrun : s.quench.halted = false) (hhome : (s.tally n).moving = none) :
    ∃ armed fireRecs mirrorDirty, (s.tallyAdd n amount).tally n = { s.tally n with
      value := (s.tally n).value + amount, addsEpoch := (s.tally n).addsEpoch + 1, armed, fireRecs, mirrorDirty } := by
  rw [State.tallyAdd, if_neg (by simp [hrun]), if_neg (by simp [hhome])]
  obtain ⟨_, _, h⟩ := tally_fire (s.modTally n fun t =>
    { t with value := t.value + amount, addsEpoch := t.addsEpoch + 1, mirrorDirty := t.mirrorValid }) n
  rw [tally_modTally] at h
  exact ⟨_, _, _, h⟩

/-- R421, R423: arming sets the threshold; a Tally past it fires at once. -/
theorem tally_arm (s : State) (n : Nat) (threshold : Word) : ∃ fireRecs mirrorDirty, (s.arm n threshold).tally n = { s.tally n with
    armed := !reached (s.tally n).value threshold, threshold, fireRecs, mirrorDirty } := by
  unfold State.arm
  extract_lets t u v
  obtain ⟨_, _, h⟩ := tally_fire v n
  have hv : v.tally n = { s.tally n with armed := true, threshold } := by
    have hu : u.tally n = { s.tally n with armed := true, threshold } := tally_modTally ..
    unfold v
    split
    · exact (tally_congr (remote_owe ..) n).trans hu
    · exact hu
  exact ⟨_, _, h.trans (by rw [hv, Bool.true_and])⟩

end Sys2Proof.Machine
end

section
/-! PROOFS. The commands on Tallies, the mirror write, REMOTE.CFG (R418, R421-R424, R427): O7. -/

namespace Sys2Proof.Machine

open Sys2Proof

@[simp] theorem tally_take (s : State) (q : QCmd) (n : Nat) : (s.take q).tally n = s.tally n := tally_congr (remote_take ..) n
@[simp] theorem tallySlots_take (s : State) (q : QCmd) (i : Nat) : (s.take q).tallySlots i = s.tallySlots i :=
  read_take (·.tallySlots i) s q fun _ _ _ _ _ => rfl
@[simp] theorem talliesOf_take (s : State) (q : QCmd) (i : Nat) : (s.take q).talliesOf i = s.talliesOf i :=
  read_take (·.talliesOf i) s q fun _ _ _ _ _ => rfl
@[simp] theorem tallyNo_take (s : State) (q : QCmd) (i slot : Nat) : (s.take q).tallyNo i slot = s.tallyNo i slot :=
  read_take (·.tallyNo i slot) s q fun _ _ _ _ _ => rfl

/-- What no given ring breaks. -/
theorem getD_map_false {α : Type} {o : Option α} {f : α → Bool} (h : ∀ a, o = some a → f a = false) : (o.map f).getD false = false := by
  cases o with
  | none => rfl
  | some a => exact h a rfl

/-- R418: TALLY_ALLOC takes a free Tally for a free slot. -/
theorem tallyAlloc_allocates {s : State} {c : Call} {inst slot : Option Nat} {countMode : Bool} {notify : Option Nat} {cookie : Word}
    {mirror : Option Word} {i n t : Nat} {r : Reply} (hinst : s.forInst (s.authOf c.via) inst = (some i, r))
    (hslot : slot = some n ∧ n < 16384 ∨
      slot = none ∧ (List.range ((s.tallySlots i).length + 1)).find? (fun k => !(s.tallySlots i).contains k) = some n)
    (hfree : n ∉ s.tallySlots i) (hmirror : ∀ m, mirror = some m → m.toNat % 8 = 0)
    (hring : ∀ k, notify = some k → ∃ x, s.cq k = some x ∧ x.inst = some i)
    (hctx : ∀ k, notify = some k → ∀ e ∈ s.matching.ctxs, e.2.notify ≠ some (BitVec.ofNat 14 k)) (hgrant : s.talliesOf i < s.grant i 3)
    (hpool : freeKey s.remote.tallies Config.tallyCount = some t) :
    Does (.tallyAlloc c inst slot countMode notify cookie mirror) s (.res (leBytes 8 n ++ leBytes 8 t)) fun u => u.tally t = {
      countMode, inst := BitVec.ofNat 10 i, slot := BitVec.ofNat 14 n, notifyRing := BitVec.ofNat 14 (notify.getD 0),
      notifyValid := notify.isSome, mirrorValid := mirror.isSome, cookie, mirror := mirror.getD 0, mirrorDirty := mirror.isSome } := by
  refine does_of_fleso rfl (execTallyAlloc.eq_1 ..) (fun a => by cases a <;> rfl) fun cmd _ => ?_
  have hused : (s.tallySlots i).contains n = false := by simpa using hfree
  have halign : (mirror.map fun m => m.toNat % 8 != 0).getD false = false := getD_map_false fun m hm => by simp [hmirror m hm]
  have hthere : notify.map s.cq ≠ some none := fun h => by
    obtain ⟨k, hk, hn⟩ := Option.map_eq_some_iff.1 h
    obtain ⟨x, hx, -⟩ := hring k hk
    simp [hx] at hn
  have hown : ((notify.map s.cq).map fun r => (r.map fun q => q.inst != some i).getD true).getD false = false :=
    getD_map_false fun r hr => by
      obtain ⟨k, hk, rfl⟩ := Option.map_eq_some_iff.1 hr
      obtain ⟨x, hx, hi⟩ := hring k hk
      simp [hx, hi]
  have hnotify : (notify.map fun r => s.matching.ctxs.any fun e => e.2.notify == some (BitVec.ofNat 14 r)).getD false = false :=
    getD_map_false fun k hk => List.any_eq_false.mpr fun e he => by simpa using hctx k hk e he
  have hcq : (s.take cmd).cq = s.cq := funext fun k => cq_take s cmd k
  rcases hslot with ⟨rfl, hpick⟩ | ⟨rfl, hpick⟩
  all_goals
    simp only [forInst_take, hinst, tallySlots_take, hpick, hused, halign, hcq, hthere, hown, matching_take, hnotify, grant_take,
      talliesOf_take, Nat.not_le.mpr hgrant, remote_take, hpool, Bool.false_eq_true, if_true, if_false]
    exact ⟨trivial, tgetD_tset_same ..⟩

section
variable {s : State} {c : Call} {inst : Option Nat} {slot i n : Nat} {r : Reply} (hinst : s.forInst (s.authOf c.via) inst = (some i, r))
  (htally : s.tallyNo i slot = some n)
include hinst htally

/-- R421, R423: TALLY_ARM answers the value at arming. -/
theorem tallyArm_arms (threshold : Word) :
    Does (.tallyArm c inst slot threshold) s (.res (leBytes 8 (s.tally n).value.toNat)) fun u => (u.tally n).threshold = threshold ∧
      (u.tally n).value = (s.tally n).value ∧ (u.tally n).armed = !reached (s.tally n).value threshold := by
  refine does_of_fleso rfl (execTallyArm.eq_1 ..) (fun a => by cases a <;> rfl) fun cmd _ => ?_
  simp only [forInst_take, hinst, tallyNo_take, htally, tally_take, true_and]
  obtain ⟨_, _, h⟩ := tally_arm (s.take cmd) n threshold
  simp only [h, tally_take, true_and]

/-- TALLY_READ answers a Tally's value and control word, and changes nothing of remote access. -/
theorem tallyRead_reads :
    Does (.tallyRead c inst slot) s (.res (leBytes 8 (s.tally n).value.toNat ++ leBytes 8 (s.tally n).ctrl)) fun u =>
      u.remote = s.remote := by
  refine does_of_fleso rfl (execTallyRead.eq_1 ..) (fun a => by cases a <;> rfl) fun cmd _ => ?_
  simp only [forInst_take, hinst, tallyNo_take, htally, tally_take, remote_take, true_and]

/-- TALLY_FREE takes a Tally out. -/
theorem tallyFree_frees : Does (.tallyFree c inst slot) s .ok fun u => tget u.remote.tallies n = none := by
  refine does_of_fleso rfl (execTallyFree.eq_1 ..) (fun a => by cases a <;> rfl) fun cmd _ => ?_
  simp only [forInst_take, hinst, tallyNo_take, htally, tget_tdel_same, true_and]

end

/-- R424: the mirror write leaves the Tally's value, and nothing waits for the write any more. -/
theorem tallyMirrorWrite_writes {s : State} {n : Nat} (acc : Access) (halloc : (s.tally n).allocated = true)
    (hvalid : (s.tally n).mirrorValid = true) (hdirty : (s.tally n).mirrorDirty = true)
    (hcan : s.canWrite (s.inst (s.tally n).inst.toNat).port.toNat = true) :
    Completes (exec (.tallyMirrorWrite n acc) s) fun t => t.tally n = { s.tally n with mirrorDirty := false, fireRecs := [] } := by
  show Completes (execTallyMirrorWrite n acc s) _
  have hgo : (!(s.tally n).allocated || !(s.tally n).mirrorValid || !(s.tally n).mirrorDirty ||
      !s.canWrite (s.inst (s.tally n).inst.toNat).port.toNat) = false := by simp [halloc, hvalid, hdirty, hcan]
  simp only [execTallyMirrorWrite, hgo, Bool.false_eq_true, if_false]
  refine ⟨_, rfl, (tally_congr (remote_makeRecs ..) n).trans ((tally_modTally ..).trans ?_)⟩
  cases acc <;> simp only [State.tally, remote_hostPut, remote_noteAccess, remote_logPages]

/-- R427: REMOTE_CFG within its ranges. -/
theorem remoteCfg_sets {s : State} {c : Call} {word : Word} (hop : 1 ≤ bits word 13 0 ∧ bits word 13 0 ≤ 10000)
    (hmsg : bits word 27 14 ≤ 10000) (htomb : 100 ≤ bits word 44 28 ∧ bits word 44 28 ≤ 100000) (hresend : 1 ≤ bits word 48 45)
    (hexpire : 1 ≤ bits word 62 49 ∧ bits word 62 49 ≤ 10000) (hzero : bit word 63 = false) :
    Does (.remoteCfg c word) s .ok fun u => u.remote = { s.remote with
      opTimeoutMs := BitVec.ofNat 14 (bits word 13 0), msgTimeoutMs := BitVec.ofNat 14 (bits word 27 14),
      tombUs := BitVec.ofNat 17 (bits word 44 28), resendMax := BitVec.ofNat 4 (bits word 48 45),
      openExpireMs := BitVec.ofNat 14 (bits word 62 49) } := by
  refine does_of_fleso rfl (execRemoteCfg.eq_1 ..) (fun a => by cases a <;> rfl) fun cmd _ => ?_
  have hgood : firstBad [(decide (bits word 13 0 < 1 ∨ 10000 < bits word 13 0), 0), (decide (10000 < bits word 27 14), 14),
      (decide (bits word 44 28 < 100 ∨ 100000 < bits word 44 28), 28), (decide (bits word 48 45 < 1), 45),
      (decide (bits word 62 49 < 1 ∨ 10000 < bits word 62 49), 49), (bit word 63, 63)] = none := by
    simp only [firstBad, Option.map_eq_none_iff, List.find?_eq_none, List.mem_cons, List.not_mem_nil, or_false, forall_eq_or_imp,
      forall_eq, hzero, decide_eq_true_eq, Bool.false_eq_true, not_false_eq_true, and_true]
    omega
  simp only [hgood, remote_take, and_self]

/-- Settles O7: clause by clause, each command in the branch that its hypotheses choose; what a command does to a Tally beside its own
fields is what firing does. -/
theorem tallyCommandsComplete : Obligations.TallyCommandsComplete := by
  refine ⟨fun _ _ _ _ _ _ _ _ _ _ _ _ hinst hslot hfree hmirror hring hctx hgrant hpool =>
      (tallyAlloc_allocates hinst hslot hfree hmirror hring hctx hgrant hpool).imp fun _ h => ?_,
    fun _ _ _ _ threshold _ _ _ hinst htally => tallyArm_arms hinst htally threshold,
    fun _ _ _ _ _ _ _ hinst htally => tallyRead_reads hinst htally, fun _ _ _ _ _ _ _ hinst htally => tallyFree_frees hinst htally,
    fun _ _ acc halloc hvalid hdirty hcan => ?_,
    fun _ _ _ h1 h2 hmsg h3 h4 hresend h5 h6 hzero => (remoteCfg_sets ⟨h1, h2⟩ hmsg ⟨h3, h4⟩ hresend ⟨h5, h6⟩ hzero).imp fun _ h => ?_⟩
  · rw [h]
    exact ⟨rfl, rfl, rfl, rfl, rfl, rfl, rfl, rfl, rfl⟩
  · obtain ⟨t, ht, h⟩ := tallyMirrorWrite_writes acc halloc hvalid hdirty hcan
    exact ⟨t, ht, by rw [h], by rw [h], by rw [h]⟩
  · rw [h]
    exact ⟨rfl, rfl, rfl, rfl, rfl⟩

end Sys2Proof.Machine
end

section
/-! PROOFS. Operations open at their source: how a descriptor opens one, and what injecting and reading leave of it (R385, R394, R419). -/

namespace Sys2Proof.Machine

open Sys2Proof

/-- An operation at its source without what its progress changes: its chain, what it has injected, when it last moved. -/
def SrcOp.lasting (o : SrcOp) : SrcOp :=
  { o with held := false, tables := [], frags := [], started := false, injected := 0, lastAt := 0, chain := 0, next := 0 }

/-- Operation o is open at its source, however far it is. -/
def State.HasSrc (s : State) (o : SrcOp) : Prop := ∃ x ∈ s.remote.srcOps, x.lasting = o.lasting

namespace State.HasSrc

variable {s t : State} {o : SrcOp}

theorem ofRemote (h : s.HasSrc o) (ht : t.remote = s.remote) : t.HasSrc o := by
  rw [State.HasSrc, ht]
  exact h

/-- Progress of the operations of a list leaves each what it is. -/
theorem map (h : s.HasSrc o) {f : SrcOp → SrcOp} (ht : t.remote.srcOps = s.remote.srcOps.map f)
    (hf : ∀ x : SrcOp, x.lasting = o.lasting → (f x).lasting = o.lasting) : t.HasSrc o := by
  obtain ⟨x, hx, hl⟩ := h
  exact ⟨f x, by rw [ht]; exact List.mem_map_of_mem hx, hf x hl⟩

/-- Putting an operation back further on. -/
theorem setSrc {o' : SrcOp} (h : s.HasSrc o) (ho : o'.lasting = o.lasting) : (s.setSrc o').HasSrc o :=
  h.map rfl fun x hx => by
    split
    · exact ho
    · exact hx

end State.HasSrc

/-! ### Injecting -/

@[simp] theorem remote_deliverOrWait (s : State) (q : QPkt) : (s.deliverOrWait q).1.remote = s.remote :=
  (State.deliverOrWait_same ..).parts .remote rfl
@[simp] theorem remote_noteQueue (s : State) (qid depth : Nat) (left : Option Ticks) : (s.noteQueue qid depth left).remote = s.remote :=
  (State.noteQueue_same ..).parts .remote rfl

/-- Of remote access, injecting a packet changes what its injection notes, or nothing. -/
theorem remote_inject (s : State) (inst : Nat) (p : Packet) :
    (s.inject inst p).remote = (s.noteInjected p).remote ∨ (s.inject inst p).remote = s.remote := by
  unfold State.inject
  split
  · have h := remote_deliverOrWait (s.noteInjected p) { pkt := p, since := s.time.now }
    split
    next he => exact .inl ((congrArg (fun x : State × Option QPkt => x.1.remote) he).symm.trans h)
    next he => exact .inl ((congrArg (fun x : State × Option QPkt => x.1.remote) he).symm.trans h)
  · exact .inr (remote_noteQueue ..)

/-- What is noted of an injection leaves the op_tags, and every operation what it is. -/
theorem noteInjected_keeps (s : State) (p : Packet) :
    (s.noteInjected p).remote.opTags = s.remote.opTags ∧ ∀ o, s.HasSrc o → (s.noteInjected p).HasSrc o := by
  unfold State.noteInjected
  extract_lets +onlyGivenNames now u
  have hu : u.remote = s.remote := remote_count ..
  have huse : u.remote.opTags = s.remote.opTags ∧ ∀ o, s.HasSrc o → u.HasSrc o :=
    ⟨congrArg Remote.opTags hu, fun o h => h.ofRemote hu⟩
  split
  · exact ⟨huse.1, huse.2⟩
  · split
    · exact huse
    · extract_lets +onlyGivenNames tag r v
      have hv : v.remote.opTags = s.remote.opTags ∧ ∀ o, s.HasSrc o → v.HasSrc o :=
        ⟨huse.1, fun o h => (huse.2 o h).map rfl fun x hx => by split <;> exact hx⟩
      clear_value tag
      cases tag <;> exact hv

theorem inject_keeps (s : State) (inst : Nat) (p : Packet) :
    (s.inject inst p).remote.opTags = s.remote.opTags ∧ ∀ o, s.HasSrc o → (s.inject inst p).HasSrc o := by
  rcases remote_inject s inst p with h | h
  · obtain ⟨htags, hsrc⟩ := noteInjected_keeps s p
    exact ⟨(congrArg Remote.opTags h).trans htags, fun o ho => (hsrc o ho).ofRemote h⟩
  · exact ⟨congrArg Remote.opTags h, fun o ho => ho.ofRemote h⟩

/-! ### Opening -/

@[simp] theorem remote_readLocal (s : State) (o : SrcOp) (tag : D2hTag) (off n : Nat) : (s.readLocal o tag off n).remote = s.remote :=
  (State.readLocal_same ..).parts .remote rfl
@[simp] theorem remote_hostRead (s : State) (port : Nat) (tag : D2hTag) (domain : Nat) (va : Word) (len : Nat) (who : BitVec 29)
    (which : BitVec 32) : (s.hostRead port tag domain va len who which).remote = s.remote := (State.hostRead_same ..).parts .remote rfl

theorem sendPacket_keeps (s : State) (o : SrcOp) (i : Nat) (resent : Bool) :
    (s.sendPacket o i resent).remote.opTags = s.remote.opTags ∧ ∀ x, s.HasSrc x → (s.sendPacket o i resent).HasSrc x := by
  unfold State.sendPacket
  split
  · exact ⟨congrArg Remote.opTags (remote_readLocal ..), fun x h => h.ofRemote (remote_readLocal ..)⟩
  · exact inject_keeps ..

@[simp] theorem opTags_launch (s : State) (o : SrcOp) : (s.launch o).remote.opTags = s.remote.opTags := (sendPacket_keeps ..).1

/-- R394: an operation that is launched stays open. -/
theorem hasSrc_launch {s : State} {o o' : SrcOp} (h : s.HasSrc o) (ho : o'.lasting = o.lasting) : (s.launch o').HasSrc o :=
  (sendPacket_keeps ..).2 o (h.setSrc ho)

/-- Reading a fragment table notes of remote access that the operation waits for it. -/
theorem remote_readTable (s : State) (o : SrcOp) (a : Word) (n : Nat) :
    (s.readTable o a n).remote = (s.setSrc { o with held := true, tables := o.tables ++ [a], chain := n }).remote := remote_hostRead ..

@[simp] theorem opTags_readTable (s : State) (o : SrcOp) (a : Word) (n : Nat) : (s.readTable o a n).remote.opTags = s.remote.opTags :=
  (congrArg Remote.opTags (remote_readTable s o a n) :)

/-- R316: an operation whose fragment table is read stays open. -/
theorem hasSrc_readTable {s : State} {o o' : SrcOp} (h : s.HasSrc o) (ho : o'.lasting = o.lasting) (a : Word) (n : Nat) :
    (s.readTable o' a n).HasSrc o :=
  State.HasSrc.ofRemote (h.setSrc (o' := { o' with held := true, tables := o'.tables ++ [a], chain := n }) ho) (remote_readTable ..)

/-- R116: a stream's numbers are all that taking the next of them changes. -/
theorem State.nextE2e_eq (s : State) (k : StreamKey) (n : Nat) :
    ∃ e2e e2eNext, s.nextE2e k n = (e2e, { s with remote := { s.remote with e2eNext } }) := by
  unfold State.nextE2e
  split
  · exact ⟨_, _, rfl⟩
  · exact ⟨_, _, rfl⟩

/-- R385: an operation begins under its endpoint's next op_tag. -/
theorem beginOp_opens {s : State} {q : Nat} {w : Wq} {f : Fetched} {i : Nat} {src : Endpoint} {o : SrcOp} :
    tgetD (s.beginOp q w f i src o).remote.opTags i 0 = tgetD s.remote.opTags i 0 + 1 ∧
      ∃ e2eBase, (s.beginOp q w f i src o).HasSrc { o with
        src, tag := tgetD s.remote.opTags i 0, wq := q, index := f.index, inst := i, epoch := s.epochOf w, line := f.line, e2eBase,
        tagId := f.tagId, fetchedAt := s.time.now } := by
  unfold State.beginOp State.nextTag
  dsimp only
  generalize hu : ({ s with remote := { s.remote with opTags := _ } } : State) = u
  obtain ⟨e2eBase, e2eNext, he⟩ := u.nextE2e_eq { src, dst := o.dst, tc := o.tc, form := if o.mcast then 2 else 0 } o.npkts
  rw [he]
  subst hu
  dsimp only
  generalize hv : ({ s with remote := { s.remote with opTags := _, e2eNext := _, srcOps := _ } } : State) = v
  have htags : tgetD v.remote.opTags i 0 = tgetD s.remote.opTags i 0 + 1 := by rw [← hv]; exact tgetD_tset_same ..
  have hopen : v.HasSrc { o with
      src, tag := tgetD s.remote.opTags i 0, wq := q, index := f.index, inst := i, epoch := s.epochOf w, line := f.line, e2eBase,
      tagId := f.tagId, fetchedAt := s.time.now } := by
    rw [← hv]
    exact ⟨_, List.mem_append_right _ (List.mem_singleton_self _), rfl⟩
  split
  · rw [opTags_readTable]
    refine ⟨htags, e2eBase, hasSrc_readTable hopen ?_ ..⟩
    rfl
  · split
    · exact ⟨htags, e2eBase, hopen⟩
    · rw [opTags_launch]
      refine ⟨htags, e2eBase, hasSrc_launch hopen ?_⟩
      rfl

end Sys2Proof.Machine
end

section
/-! PROOFS. PUT, GET, ATOMIC and TALLY_ADD start (R385, R393, R394, R402, R419, R420): O6. -/

namespace Sys2Proof.Machine

open Sys2Proof

/-- What an open operation is reads off the operations at their source. -/
theorem State.HasSrc.exists_mem {s : State} {o : SrcOp} (h : s.HasSrc o) : ∃ x ∈ s.remote.srcOps, x.src = o.src ∧ x.tag = o.tag ∧
    x.kind = o.kind ∧ x.dst = o.dst ∧ x.tc = o.tc ∧ x.wq = o.wq ∧ x.line = o.line ∧ x.length = o.length ∧ x.npkts = o.npkts := by
  obtain ⟨x, hx, hl⟩ := h
  exact ⟨x, hx, (congrArg SrcOp.src hl :), (congrArg SrcOp.tag hl :), (congrArg SrcOp.kind hl :), (congrArg SrcOp.dst hl :),
    (congrArg SrcOp.tc hl :), (congrArg SrcOp.wq hl :), (congrArg SrcOp.line hl :), (congrArg SrcOp.length hl :),
    (congrArg SrcOp.npkts hl :)⟩

@[simp] theorem remote_started (s : State) (q : Nat) : (s.started q).remote = s.remote := (State.started_same ..).parts .remote rfl
@[simp] theorem insts_started (s : State) (q : Nat) : (s.started q).insts = s.insts := (State.started_same ..).parts .insts rfl
@[simp] theorem routing_started (s : State) (q : Nat) : (s.started q).routing = s.routing := (State.started_same ..).parts .routing rfl
@[simp] theorem quench_started (s : State) (q : Nat) : (s.started q).quench = s.quench := (State.started_same ..).parts .quench rfl

/-- The Tally in a slot is read off remote access. -/
theorem tallyNo_congr {t s : State} (h : t.remote = s.remote) (i slot : Nat) : t.tallyNo i slot = s.tallyNo i slot := by
  rw [State.tallyNo, h]
  rfl

/-- Whether a destination is unreachable is read off the routing state. -/
theorem unreachable_congr {t s : State} (h : t.routing = s.routing) (dst : Endpoint) (mcast : Bool) :
    t.unreachable dst mcast = s.unreachable dst mcast := by
  cases mcast <;> simp [State.unreachable, State.castOk, State.treeOf, h]

/-- Taking a descriptor off its queue leaves what refuses it. -/
theorem refusal_started (s : State) (q : Nat) (w : Wq) (l : Line) : (s.started q).refusal w l = s.refusal w l := by
  simp only [State.refusal, tallyNo_congr (remote_started s q), unreachable_congr (routing_started s q)]

/-- The source endpoint of an instance's queue. -/
theorem srcOf_inst (s : State) {w : Wq} {i : Nat} (h : w.instOf = some i) :
    s.srcOf w = (i, endpointOf s.routing.moduleId (s.inst i).port.toNat i, s) := by
  simp only [State.srcOf, h]

/-- A descriptor starts where the module is not halted. -/
theorem running_of_startable {s : State} {q op : Nat} {w : Wq} {f : Fetched} (h : s.startable q op = some (w, f)) :
    s.quench.halted = false := by
  unfold State.startable at h
  split at h
  · cases h
  · split at h
    · cases h
    · dsimp only at h
      split at h
      next hc => simpa using hc.2.2.1
      next => cases h

section
variable {s : State} {q op : Nat} {w : Wq} {f : Fetched} {i : Nat}

/-- R385, R394: a PUT, GET or ATOMIC that nothing refuses opens an operation at its source. -/
theorem startRemote_opens (kind : OpKind) (hstart : s.startable q op = some (w, f)) (hok : s.refusal w f.line = none)
    (hinst : w.instOf = some i) : tgetD (s.startRemote q op kind).remote.opTags i 0 = tgetD s.remote.opTags i 0 + 1 ∧
      ∃ o ∈ (s.startRemote q op kind).remote.srcOps, o.src = endpointOf s.routing.moduleId (s.inst i).port.toNat i ∧
        o.tag = tgetD s.remote.opTags i 0 ∧ o.kind = kind ∧ o.dst = BitVec.ofNat 29 (lf f.line 256 29) ∧
        o.tc = BitVec.ofNat 2 (lf f.line 288 2) ∧ o.wq = q ∧ o.line = f.line ∧ o.length = dLen f.line ∧
        o.npkts = if kind = .put then max 1 (ceilDiv (dLen f.line) 4096) else 1 := by
  simp only [State.startRemote, hstart, refusal_started, hok, srcOf_inst _ hinst, routing_started, inst_congr (insts_started s q)]
  obtain ⟨htags, e2eBase, hsrc⟩ := beginOp_opens
  rw [remote_started] at htags hsrc
  exact ⟨htags, hsrc.exists_mem⟩

/-- R419: a remote TALLY_ADD that nothing refuses opens an operation at its source. -/
theorem tallyAdd_opens (hstart : s.startable q 9 = some (w, f))
    (hzero : ¬(lf f.line 285 3 ≠ 0 ∨ lf f.line 288 2 = 3 ∨ lf f.line 292 12 ≠ 0 ∨ lf f.line 318 2 ≠ 0 ∨ lf f.line 384 128 ≠ 0))
    (hform : ¬(dLen f.line ≠ 0 ∨ dAddr f.line ≠ 0 ∨ dFrag f.line = true)) (hremote : bit f.line 290 = false)
    (hreach : s.unreachable (BitVec.ofNat 29 (lf f.line 256 29)) false = false) (hinst : w.instOf = some i) :
    Completes (exec (.tallyAdd q) s) fun t => tgetD t.remote.opTags i 0 = tgetD s.remote.opTags i 0 + 1 ∧
      ∃ o ∈ t.remote.srcOps, o.src = endpointOf s.routing.moduleId (s.inst i).port.toNat i ∧ o.tag = tgetD s.remote.opTags i 0 ∧
        o.kind = .tallyAdd ∧ o.dst = BitVec.ofNat 29 (lf f.line 256 29) ∧ o.wq = q ∧ o.line = f.line := by
  show Completes (execTallyAdd q s) _
  simp only [execTallyAdd, hstart, if_neg hzero, if_neg hform, hremote, unreachable_congr (routing_started s q), hreach, srcOf_inst _ hinst,
    routing_started, inst_congr (insts_started s q), Bool.false_eq_true, if_false]
  obtain ⟨htags, e2eBase, hsrc⟩ := beginOp_opens
  rw [remote_started] at htags hsrc
  obtain ⟨o, ho, hsrc, htag, hkind, hdst, -, hwq, hline, -⟩ := hsrc.exists_mem
  exact ⟨_, rfl, htags, o, ho, hsrc, htag, hkind, hdst, hwq, hline⟩

/-- R418, R419: a local TALLY_ADD adds at the Tally's home, and arms where it is asked to. -/
theorem tallyAdd_adds {n : Nat} (hstart : s.startable q 9 = some (w, f))
    (hzero : ¬(lf f.line 285 3 ≠ 0 ∨ lf f.line 288 2 = 3 ∨ lf f.line 292 12 ≠ 0 ∨ lf f.line 318 2 ≠ 0 ∨ lf f.line 384 128 ≠ 0))
    (hform : ¬(dLen f.line ≠ 0 ∨ dAddr f.line ≠ 0 ∨ dFrag f.line = true)) (hlocal : bit f.line 290 = true)
    (htally : (w.instOf.bind fun i => s.tallyNo i (lf f.line 304 14)) = some n) (hhome : (s.tally n).moving = none) :
    Completes (exec (.tallyAdd q) s) fun t => (t.tally n).value = (s.tally n).value + BitVec.ofNat 64 (lf f.line 192 64) ∧
      (bit f.line 291 = true → (t.tally n).threshold = BitVec.ofNat 64 (lf f.line 320 64)) := by
  have htaken : ∀ n, (s.started q).tally n = s.tally n := tally_congr (remote_started s q)
  show Completes (execTallyAdd q s) _
  simp only [execTallyAdd, hstart, if_neg hzero, if_neg hform, hlocal, tallyNo_congr (remote_started s q), htally, if_true]
  refine ⟨_, rfl, ?_⟩
  simp only [tally_congr (remote_complete ..)]
  obtain ⟨_, _, _, hadd⟩ := tally_tallyAdd (s := s.started q) (n := n) (BitVec.ofNat 64 (lf f.line 192 64))
    (by rw [quench_started]; exact running_of_startable hstart) (by rw [htaken]; exact hhome)
  rw [htaken] at hadd
  split
  · obtain ⟨_, _, harm⟩ := tally_arm ((s.started q).tallyAdd n (BitVec.ofNat 64 (lf f.line 192 64))) n (BitVec.ofNat 64 (lf f.line 320 64))
    rw [hadd] at harm
    exact ⟨congrArg Tally.value harm, fun _ => congrArg Tally.threshold harm⟩
  next hnot => exact ⟨congrArg Tally.value hadd, fun h => absurd h hnot⟩

end

/-- Settles O6: PUT, GET and ATOMIC start alike; a TALLY_ADD adds here, or opens an operation as they do. -/
theorem remoteOperationsStart : Obligations.RemoteOperationsStart := by
  refine ⟨fun s q op kind c w f i hc hstart hok hinst => ?_,
    fun _ _ _ _ _ hstart h1 h2 h3 h4 h5 hlen haddr hfrag hremote hreach hinst =>
      tallyAdd_opens hstart (by simp [h1, h2, h3, h4, h5]) (by simp [hlen, haddr, hfrag]) hremote hreach hinst,
    fun _ _ _ _ _ hstart h1 h2 h3 h4 h5 hlen haddr hfrag hlocal htally hhome =>
      tallyAdd_adds hstart (by simp [h1, h2, h3, h4, h5]) (by simp [hlen, haddr, hfrag]) hlocal htally hhome⟩
  have hexec : exec c s = .next (s.startRemote q op kind) := by
    rcases hc with ⟨rfl, rfl, rfl⟩ | ⟨rfl, rfl, rfl⟩ | ⟨rfl, rfl, rfl⟩ <;> rfl
  exact ⟨_, hexec, startRemote_opens kind hstart hok hinst⟩

end Sys2Proof.Machine
end

section
/-! PROOFS. Open operations and tombstones at their target: looking them up, putting them in, taking them out (R386, R390, R391). -/

namespace Sys2Proof.Machine

open Sys2Proof

theorem openOp_congr {t s : State} (h : t.remote = s.remote) (src : Endpoint) (tag : BitVec 32) : t.openOp src tag = s.openOp src tag := by
  rw [State.openOp, h]
  rfl

theorem tomb_congr {t s : State} (h : t.remote = s.remote) (src : Endpoint) (tag : BitVec 32) : t.tomb src tag = s.tomb src tag := by
  rw [State.tomb, h]
  rfl

/-- An open operation is found under its own key. -/
theorem key_of_openOp {s : State} {src : Endpoint} {tag : BitVec 32} {e : OpenOp} (h : s.openOp src tag = some e) :
    e.src = src ∧ e.tag = tag := by
  simpa using List.find?_some h

/-- An operation put in is found. -/
theorem openOp_setOpen (s : State) (e : OpenOp) : (s.setOpen e).openOp e.src e.tag = some e := by
  unfold State.openOp State.setOpen
  dsimp only
  split
  next hknown =>
    have hsome : (s.remote.openOps.find? fun o => o.src == e.src && o.tag == e.tag).isSome = true :=
      List.find?_isSome.2 (List.any_eq_true.1 hknown)
    obtain ⟨y, hy⟩ := Option.isSome_iff_exists.1 hsome
    have hykey : y.src = e.src ∧ y.tag = e.tag := by simpa using List.find?_some hy
    have hcomp : ((fun o : OpenOp => o.src == e.src && o.tag == e.tag) ∘ fun x => if x.src = e.src ∧ x.tag = e.tag then e else x) =
        fun o => o.src == e.src && o.tag == e.tag := by
      funext o
      by_cases ho : o.src = e.src ∧ o.tag = e.tag <;> simp [ho]
    rw [List.find?_map, hcomp, hy, Option.map_some, if_pos hykey]
  next hnew =>
    have hnone : s.remote.openOps.find? (fun o => o.src == e.src && o.tag == e.tag) = none := by simpa using hnew
    simp [List.find?_append, hnone]

/-- An operation taken out is not found. -/
theorem openOp_dropOpen (s : State) (src : Endpoint) (tag : BitVec 32) : (s.dropOpen src tag).openOp src tag = none :=
  List.find?_eq_none.2 fun _ hx => by simpa only [Bool.not_eq_true', Bool.not_eq_true] using (List.mem_filter.1 hx).2

/-- R390, R391: a tombstone takes the place of the open operation. -/
theorem addTomb_replaces (s : State) (b : Tomb) : (s.addTomb b).openOp b.src b.tag = none ∧
    ∃ x ∈ (s.addTomb b).remote.tombs, x.src = b.src ∧ x.tag = b.tag ∧ x.status = b.status := by
  unfold State.addTomb
  extract_lets b' u
  have hu : u.openOp b.src b.tag = none := (openOp_congr (remote_count ..) ..).trans (openOp_dropOpen ..)
  split
  · exact ⟨hu, b', List.mem_append_right _ (List.mem_singleton_self _), rfl, rfl, rfl⟩
  · refine ⟨(openOp_congr (remote_raiseAt ..) ..).trans hu, b', ?_, rfl, rfl, rfl⟩
    rw [remote_raiseAt]
    exact List.mem_append_right _ (List.mem_singleton_self _)

@[simp] theorem remote_unfill (s : State) : s.unfill.remote = s.remote := (State.unfill_same ..).parts .remote rfl

/-! ### Answers -/

/-- t holds the open operations and the tombstones of s. -/
def State.KeepsTarget (t s : State) : Prop := t.remote.openOps = s.remote.openOps ∧ t.remote.tombs = s.remote.tombs

theorem State.KeepsTarget.ofRemote {t s : State} (h : t.remote = s.remote) : t.KeepsTarget s := by
  rw [State.KeepsTarget, h]
  exact ⟨rfl, rfl⟩

/-- An operation is gone from the target, and its tombstone is there. -/
def State.Ended (s : State) (src : Endpoint) (tag : BitVec 32) (status : BitVec 8) : Prop :=
  s.openOp src tag = none ∧ ∃ b ∈ s.remote.tombs, b.src = src ∧ b.tag = tag ∧ b.status = status

theorem State.KeepsTarget.ended {t s : State} (h : t.KeepsTarget s) {src : Endpoint} {tag : BitVec 32} {status : BitVec 8}
    (hs : s.Ended src tag status) : t.Ended src tag status := by
  obtain ⟨hops, htombs⟩ := h
  rw [State.Ended, State.openOp, hops, htombs]
  exact hs

/-- R390, R404: injecting an answer notes nothing of remote access. -/
theorem remote_inject_answer (s : State) (inst : Nat) {p : Packet} (h : p.pktType = 0x05 ∨ p.pktType = 0x08) :
    (s.inject inst p).remote = s.remote := by
  have hnote : (s.noteInjected p).remote = s.remote := by
    unfold State.noteInjected
    have hget : p.pktType ≠ 0x03 := by rcases h with h | h <;> rw [h] <;> decide
    simp only [if_neg hget, if_pos (h.imp_right Or.inl : p.pktType = 0x05 ∨ p.pktType = 0x08 ∨ p.pktType = 0x09), remote_count]
  rcases remote_inject s inst p with he | he
  · exact he.trans hnote
  · exact he

theorem keepsTarget_sendResponse (s : State) (src dst : Endpoint) (tc : BitVec 2) (tag : BitVec 32) (word : Word) (resent : Bool) :
    (s.sendResponse src dst tc tag word resent).KeepsTarget s := by
  unfold State.sendResponse
  obtain ⟨_, _, he⟩ := s.nextE2e_eq { src, dst, tc } 1
  rw [he]
  rw [State.KeepsTarget, remote_inject_answer _ _ (.inr rfl)]
  exact ⟨rfl, rfl⟩

theorem keepsTarget_sendAtomicResp (s : State) (src dst : Endpoint) (tc : BitVec 2) (tag : BitVec 32) (v : BitVec 128)
    (poisoned resent : Bool) : (s.sendAtomicResp src dst tc tag v poisoned resent).KeepsTarget s := by
  unfold State.sendAtomicResp
  obtain ⟨_, _, he⟩ := s.nextE2e_eq { src, dst, tc } 1
  rw [he]
  rw [State.KeepsTarget, remote_inject_answer _ _ (.inl rfl)]
  exact ⟨rfl, rfl⟩

end Sys2Proof.Machine
end

section
/-! PROOFS. Packets taken at their target (R383, R387, R405-R408). -/

namespace Sys2Proof.Machine

open Sys2Proof

/-! ### What a target reads of the module -/

/-- A packet's target reads the same in t and in s: remote access, the instances, the clock. -/
structure State.SameTarget (t s : State) : Prop where
  remote : t.remote = s.remote
  insts : t.insts = s.insts
  time : t.time = s.time

/-- The instance of a unicast packet is named by its destination. -/
theorem targetInst_unicast (s : State) {p : Packet} (h : p.mcast = false) : s.targetInst p = addrInst p.dst := by
  simp [State.targetInst, h]

namespace State.SameTarget

variable {t s : State} {p : Packet} (h : t.SameTarget s)
include h

theorem tally (n : Nat) : t.tally n = s.tally n := tally_congr h.remote n
theorem tallyNo (i slot : Nat) : t.tallyNo i slot = s.tallyNo i slot := tallyNo_congr h.remote i slot
theorem inst (i : Nat) : t.inst i = s.inst i := inst_congr h.insts i
theorem tomb (src : Endpoint) (tag : BitVec 32) : t.tomb src tag = s.tomb src tag := tomb_congr h.remote src tag
theorem window (i win : Nat) : t.window i win = s.window i win := congrArg (fun r : Remote => tgetD r.windows (i * 4096 + win) 0) h.remote

theorem refusedAt (hm : p.mcast = false) : t.refusedAt p = s.refusedAt p := by
  simp only [State.refusedAt, targetInst_unicast _ hm, h.inst]

theorem entryFor (hm : p.mcast = false) : t.entryFor p = s.entryFor p := by
  simp only [State.entryFor, targetInst_unicast _ hm, h.inst, openOp_congr h.remote, h.time]

theorem windowError (hm : p.mcast = false) (perm off n align : Nat) : t.windowError p perm off n align = s.windowError p perm off n align := by
  simp only [State.windowError, targetInst_unicast _ hm, h.window, h.tallyNo]

end State.SameTarget

/-- A packet that leaves its ejection queue leaves what its target reads. -/
theorem sameTarget_takeEject (s : State) (head : Nat) : (s.takeEject head).SameTarget s :=
  ⟨(State.takeEject_same ..).parts .remote rfl, (State.takeEject_same ..).parts .insts rfl, (State.takeEject_same ..).parts .time rfl⟩

/-- The module that takes a packet is not halted. -/
theorem running_of_ejectHead {s : State} {p : Packet} {head : Nat} (h : s.ejectHead p = some head) : s.quench.halted = false := by
  unfold State.ejectHead at h
  split at h
  · cases h
  next hn => simpa using hn

/-- An entry made or found stands under its packet's key. -/
theorem key_entryFor (s : State) (p : Packet) : (s.entryFor p).src = p.src ∧ (s.entryFor p).tag = p.opTag := by
  unfold State.entryFor
  split
  next e he =>
    obtain ⟨hsrc, htag⟩ := key_of_openOp he
    exact ⟨hsrc, htag⟩
  next => exact ⟨rfl, rfl⟩

/-! ### PUT (R387) -/

/-- R387: a PUT packet that nothing refuses is written, and counted. -/
theorem acceptPut_takes {s : State} {p : Packet} (htomb : s.tomb p.src p.opTag = none) (hok : s.refusedAt p = none)
    (hnew : (s.entryFor p).counts.received.contains p.pktIndex.toNat = false) (hin : (s.entryFor p).counts.beyond p = false)
    (hwin : s.windowError p 115 (bits p.typeWord 47 0 + p.opOffset.toNat) p.payloadLen.toNat 1 = none) (hseal : sealOk p = true) :
    s.acceptPut p .ok = (s.writeWindow p (bits p.typeWord 47 0 + p.opOffset.toNat) p.payload p.poisoned).setOpen { s.entryFor p with
      counts := (s.entryFor p).counts.take p, closed := ((s.entryFor p).counts.take p).closes } := by
  simp only [State.acceptPut, htomb, hok, hnew, hin, hwin, hseal, accessError, Bool.not_true, Bool.and_false, Bool.false_eq_true, if_false]

/-- R387: what a packet writes into a window of module memory reads back. -/
theorem memGet_writeWindow {s : State} {p : Packet} (off : Nat) {bs : List Byte} (poisoned : Bool) {k : Nat} {b : Byte}
    (hwf : Memory.wf s.mem = true) (htier1 : bit (s.window (s.targetInst p) (bits p.typeWord 59 48)) 113 = true) (hk : bs[k]? = some b) :
    memGet (s.writeWindow p off bs poisoned).mem (bits (s.window (s.targetInst p) (bits p.typeWord 59 48)) 63 0 + off + k) = b := by
  have hwindow : ∀ i win, (s.count 0x8031 (s.targetInst p) p.tc.toNat bs.length).window i win = s.window i win := fun i win =>
    congrArg (fun r : Remote => tgetD r.windows (i * 4096 + win) 0) (remote_count ..)
  simp only [State.writeWindow, hwindow, htier1, if_true]
  refine memGet_memWrite_at _ ?_ hk
  rw [mem_count]
  exact hwf

/-- What is put in at the end of an arrival is found. -/
theorem openOp_taken (s : State) {p : Packet} {e : OpenOp} (h : e.src = p.src ∧ e.tag = p.opTag) :
    (s.setOpen e).unfill.openOp p.src p.opTag = some e := by
  obtain ⟨hsrc, htag⟩ := h
  rw [openOp_congr (remote_unfill _), ← hsrc, ← htag, openOp_setOpen]

section
variable {s : State} {p : Packet} {head : Nat} (hhead : s.ejectHead p = some head) (htype : p.pktType = 0x01) (hm : p.mcast = false)
  (hfree : s.awaitsSnoop p 115 p.payloadLen.toNat 1 = []) (htomb : s.tomb p.src p.opTag = none) (hok : s.refusedAt p = none)
  (hnew : (s.entryFor p).counts.received.contains p.pktIndex.toNat = false) (hin : (s.entryFor p).counts.beyond p = false)
  (hwin : s.windowError p 115 (bits p.typeWord 47 0 + p.opOffset.toNat) p.payloadLen.toNat 1 = none) (hseal : sealOk p = true)
include hhead htype hm hfree htomb hok hnew hin hwin hseal

/-- R387: a PUT packet leaves the ejection queue and is taken. -/
theorem putPacket_takes :
    exec (.putPacket p .ok) s = .next (((s.takeEject head).writeWindow p (bits p.typeWord 47 0 + p.opOffset.toNat) p.payload p.poisoned).setOpen
      { s.entryFor p with
        counts := (s.entryFor p).counts.take p, closed := ((s.entryFor p).counts.take p).closes }).unfill := by
  have ht := sameTarget_takeEject s head
  show execPutPacket p .ok s = _
  simp only [execPutPacket, hhead, htype, hfree, hm, ne_eq, not_true, List.isEmpty_nil, Bool.not_true, Bool.false_eq_true, false_and, if_false]
  rw [acceptPut_takes, ht.entryFor hm]
  · rw [ht.tomb, htomb]
  · rw [ht.refusedAt hm, hok]
  · rw [ht.entryFor hm, hnew]
  · rw [ht.entryFor hm, hin]
  · rw [ht.windowError hm, hwin]
  · exact hseal

/-- R387: a PUT packet that is taken is counted, and its bytes stand in the window. -/
theorem putPacket_stores :
    Completes (exec (.putPacket p .ok) s) fun t =>
      (∃ e, t.openOp p.src p.opTag = some e ∧ e.counts = (s.entryFor p).counts.take p ∧ e.closed = ((s.entryFor p).counts.take p).closes) ∧
      (Memory.wf s.mem = true → bit (s.window (s.targetInst p) (bits p.typeWord 59 48)) 113 = true →
        ∀ k b, p.payload[k]? = some b → memGet t.mem
          (bits (s.window (s.targetInst p) (bits p.typeWord 59 48)) 63 0 + (bits p.typeWord 47 0 + p.opOffset.toNat) + k) = b) := by
  have ht := sameTarget_takeEject s head
  have hinst : (s.takeEject head).targetInst p = s.targetInst p := by rw [targetInst_unicast _ hm, targetInst_unicast _ hm]
  have hmem : (s.takeEject head).mem = s.mem := (State.takeEject_same ..).parts .mem rfl
  refine ⟨_, putPacket_takes hhead htype hm hfree htomb hok hnew hin hwin hseal,
    ⟨_, openOp_taken _ (key_entryFor s p), rfl, rfl⟩, fun hwf htier1 k b hk => ?_⟩
  rw [(State.unfill_same _).parts .mem rfl]
  have hbyte := memGet_writeWindow (s := s.takeEject head) (bits p.typeWord 47 0 + p.opOffset.toNat) p.poisoned (hmem ▸ hwf)
    (by rw [ht.window, hinst, htier1]) hk
  rwa [ht.window, hinst] at hbyte

end

end Sys2Proof.Machine
end

section
/-! PROOFS. A packet that leaves an ejection queue neither begins nor ends a halt (R198, R199). -/

namespace Sys2Proof.Machine

open Sys2Proof

/-- t is halted where s is. -/
def State.KeepsHalt (t s : State) : Prop := t.quench.halted = s.quench.halted

namespace State.KeepsHalt

theorem refl (s : State) : s.KeepsHalt s := rfl
theorem trans {t u s : State} (h : t.KeepsHalt u) (k : u.KeepsHalt s) : t.KeepsHalt s := Eq.trans h k

/-- An operation whose frame has no detectors. -/
theorem ofSame {W : List Part} {t s : State} (h : Same W t s) (hw : W.contains .quench = false := by rfl) : t.KeepsHalt s :=
  congrArg Quench.halted (h.parts .quench hw)

theorem ite {c : Prop} [Decidable c] {a b s : State} (h : a.KeepsHalt s) (k : b.KeepsHalt s) : (if c then a else b).KeepsHalt s := by
  split <;> assumption

theorem iteFst {β : Type} {c : Prop} [Decidable c] {a b : State × β} {s : State} (h : a.1.KeepsHalt s) (k : b.1.KeepsHalt s) :
    (if c then a else b).1.KeepsHalt s := by
  split <;> assumption

/-- A pair whose first is the state. -/
theorem ofFst {β : Type} {x : State × β} {t s : State} {b : β} (e : x = (t, b)) (h : x.1.KeepsHalt s) : t.KeepsHalt s := by
  subst e; exact h

end State.KeepsHalt

/-- R715: a detector that asserts waits for Quench to sample it. -/
theorem keepsHalt_raise (s : State) (e : QEvent) : (s.raise e).KeepsHalt s := by
  have hcount : (if e.source = 1280 then (e.inst.map fun i => s.count 0x0052 i 0 1).getD s else s).KeepsHalt s :=
    .ite (.ofSame (Same.getDMap (fun i => State.count_same s 0x0052 i 0 1) (Same.refl _ s))) (.refl s)
  exact hcount

theorem keepsHalt_raiseAt (s : State) (source unit : Nat) : (s.raiseAt source unit).KeepsHalt s := keepsHalt_raise ..

theorem keepsHalt_laneHeld (s : State) (p : Packet) : (s.laneHeld p).1.KeepsHalt s :=
  have hnote : ∀ (c : Bool) (r : Routing) (n : Nat), (if c = true then s else ({ s with routing := r }).raiseAt n 0).KeepsHalt s :=
    fun _ _ _ => .ite (.refl s) (keepsHalt_raiseAt ..)
  .iteFst (.iteFst (hnote ..) (.refl s)) (.iteFst (.iteFst (hnote ..) (.refl s)) (.iteFst (hnote ..) (.refl s)))

theorem keepsHalt_ejectTo (s : State) (h : Nat) (q : QPkt) : (s.ejectTo h q).1.KeepsHalt s := by
  unfold State.ejectTo
  dsimp only
  exact .iteFst ((State.KeepsHalt.ofSame (State.noteQueue_same ..)).trans rfl) (.iteFst (.refl s) (keepsHalt_raiseAt ..))

theorem keepsHalt_deliver (s : State) (q : QPkt) : (s.deliver q).1.KeepsHalt s := by
  unfold State.deliver
  have hfree : ∀ u : State, (u.freeIn q).KeepsHalt u := fun u => .ofSame (State.freeIn_same ..)
  have hheld := keepsHalt_laneHeld s q.pkt
  refine .iteFst ((hfree _).trans (.ofSame (State.receiveTc3_same ..))) (.iteFst ?_ (.iteFst ?_ ?_))
  · refine (hfree _).trans ?_
    split
    · exact .ofSame (State.countTruncated_same ..)
    · exact .refl s
  · split
    · exact .ofFst (by assumption) hheld
    · exact (hfree _).trans ((State.KeepsHalt.ofSame (State.toAgent_same ..)).trans (.ofFst (by assumption) hheld))
  · dsimp only
    split
    · exact .ofFst (by assumption) hheld
    · have h := State.KeepsHalt.ofFst (by assumption) hheld
      split
      · exact (hfree _).trans ((State.KeepsHalt.ofFst (by assumption) (keepsHalt_ejectTo ..)).trans h)
      · exact (State.KeepsHalt.ofFst (by assumption) (keepsHalt_ejectTo ..)).trans h

theorem keepsHalt_deliverOrWait (s : State) (q : QPkt) : (s.deliverOrWait q).1.KeepsHalt s := by
  unfold State.deliverOrWait
  split
  · exact .ofFst (by assumption) (keepsHalt_deliver ..)
  · exact .ofFst (by assumption) (keepsHalt_deliver ..)

/-- R199: packets that wait for ejection room only are delivered, or wait on. -/
theorem keepsHalt_retryList {qs : List QPkt} (hlocal : ∀ q ∈ qs, q.localOnly = true) (s : State) (kept : List QPkt) :
    (s.retryList qs kept).1.KeepsHalt s := by
  induction qs generalizing s kept with
  | nil => exact .refl s
  | cons q qs ih =>
    have htail := ih fun q' h => hlocal q' (List.mem_cons_of_mem _ h)
    have hplace : (s.place q).1.KeepsHalt s := by
      rw [State.place, if_pos (hlocal q List.mem_cons_self)]
      exact keepsHalt_deliverOrWait ..
    unfold State.retryList
    refine .iteFst (htail ..) ?_
    split
    · exact (htail ..).trans (.ofFst (by assumption) hplace)
    · exact (htail ..).trans (.ofFst (by assumption) hplace)

theorem keepsHalt_retryLocal (s : State) : s.retryLocal.KeepsHalt s :=
  .ite (.refl s) (keepsHalt_retryList (fun _ h => (List.mem_filter.1 h).2) ..)

theorem keepsHalt_takeEject (s : State) (h : Nat) : (s.takeEject h).KeepsHalt s := by
  unfold State.takeEject
  split
  · exact .refl s
  · exact (keepsHalt_retryLocal _).trans ((State.KeepsHalt.ofSame (State.noteQueue_same ..)).trans rfl)

end Sys2Proof.Machine
end

section
/-! PROOFS. Atomics at their target (R383, R405-R408, R418). -/

namespace Sys2Proof.Machine

open Sys2Proof

/-! ### Atomics on a Tally (R418) -/

/-- R407, R418: an atomic on a Tally adds there, arms where it is asked to, and closes its operation. -/
theorem acceptAtomic_adds {s : State} {p : Packet} {n : Nat} (old : BitVec 128) (op : Bool) (acc : Access)
    (hrun : s.quench.halted = false) (htomb : s.tomb p.src p.opTag = none) (hok : s.refusedAt p = none)
    (hnew : (s.entryFor p).counts.received.contains p.pktIndex.toNat = false) (hseal : sealOk p = true) (haop : leAt p.payload 0 1 = 0x10)
    (hpair : atomicPair 0x10 (leAt p.payload 1 1) = true) (hext : bit p.opExt 14 = true)
    (htally : s.tallyNo (s.targetInst p) (bits p.opExt 13 0) = some n) (hhome : (s.tally n).moving = none) :
    ∃ (u : State) (e : OpenOp), s.acceptAtomic p old op acc = u.setOpen e ∧ e.src = p.src ∧ e.tag = p.opTag ∧ e.closed = true ∧
      (u.tally n).value = (s.tally n).value + BitVec.ofNat 64 (leAt p.payload 16 8) := by
  obtain ⟨hsrc, htag⟩ := key_entryFor s p
  obtain ⟨_, _, _, hadd⟩ := tally_tallyAdd (BitVec.ofNat 64 (leAt p.payload 16 8)) hrun hhome
  simp only [State.acceptAtomic, htomb, hok, hnew, haop, hpair, hext, htally, hseal, Option.isNone_some, Option.isNone_none, Bool.not_true,
    bne_self_eq_false, Bool.and_false, Bool.or_self, Bool.false_eq_true, if_false, if_true]
  refine ⟨_, _, rfl, hsrc, htag, rfl, ?_⟩
  split
  · obtain ⟨_, _, harm⟩ := tally_arm (s.tallyAdd n (BitVec.ofNat 64 (leAt p.payload 16 8))) n (BitVec.ofNat 64 (leAt p.payload 32 8))
    rw [hadd] at harm
    exact congrArg Tally.value harm
  · exact congrArg Tally.value hadd

/-! ### Atomics on host memory (R405) -/

/-- Whether the module can write to a host is read off what lasts of the port. -/
theorem State.KeepsPort.canWrite {t s : State} {port : Nat} (h : State.KeepsPort port t s) : t.canWrite port = s.canWrite port :=
  h.read (fun x => portMeets x && !x.writesStopped) fun _ => rfl

theorem inst_modInst_ne (s : State) {i j : Nat} (f : Inst → Inst) (h : j ≠ i) : (s.modInst i f).inst j = s.inst j := tgetD_tmod_ne _ _ _ _ _ h

/-- An instance stays at its port where a change of an instance leaves the port. -/
theorem port_modInst (s : State) (i : Nat) {f : Inst → Inst} (hf : ∀ x, (f x).port = x.port) (j : Nat) :
    ((s.modInst i f).inst j).port = (s.inst j).port := by
  by_cases h : j = i
  · subst h
    rw [inst_modInst, hf]
  · rw [inst_modInst_ne s f h]

/-- R560-R563: entering pages in the log leaves an instance at its port. -/
theorem port_logPage (s : State) (i page j : Nat) : ((s.logPage i page).inst j).port = (s.inst j).port := by
  have hphys : ∀ (u : State) (port : Nat) (pa : Word) (bs : List Byte), (u.writePhys port pa bs).inst j = u.inst j := fun u port pa bs =>
    inst_congr ((State.writePhys_same u port pa bs).parts .insts rfl) j
  have hraise : ∀ (u : State) (e : QEvent), (u.raise e).inst j = u.inst j := fun u e => inst_congr (insts_raise u e) j
  unfold State.logPage
  extract_lets x p k over_ first full
  have hover : ∀ u : State, ((over_ u).inst j).port = (u.inst j).port := fun u => by
    rw [hraise]
    exact port_modInst u i (by exact fun _ => rfl) j
  clear_value over_
  split
  · split
    · split
      · exact congrArg Inst.port (inst_congr (insts_emit ..) j)
      · rfl
    · exact hover s
  · split
    · split
      next d u hdraw =>
      have hu : u.inst j = s.inst j := (congrArg (fun y : Nat × State => y.2.inst j) hdraw).symm.trans (by split <;> rfl)
      extract_lets head
      split
      · exact (port_modInst _ i (by exact fun _ => rfl) j).trans (by rw [hphys, hphys, hu])
      · exact (hover _).trans ((port_modInst _ i (by exact fun _ => rfl) j).trans (by rw [hphys, hu]))
    · rfl

theorem port_logPages (s : State) (i : Nat) (va : Word) (len j : Nat) : ((s.logPages i va len).inst j).port = (s.inst j).port := by
  unfold State.logPages
  split
  · rfl
  · dsimp only
    generalize List.range _ = ks
    induction ks generalizing s with
    | nil => rfl
    | cons k ks ih => exact (ih (s.logPage i _)).trans (port_logPage ..)

/-- R405: the write of an atomic goes out where its host takes writes. -/
theorem mem_out_ownedWrite {s : State} {port : Nat} (h : s.canWrite port = true) (domain : Nat) (va : Word) (n : Nat) (v : BitVec 128)
    (poisoned : Bool) : Output.atomicWrite port domain va n v poisoned ∈ (s.ownedWrite port domain va n v poisoned).out := by
  unfold State.ownedWrite
  rw [h, Bool.not_true, if_neg Bool.false_ne_true, out_emit]
  exact List.mem_append_right _ (List.mem_singleton_self _)

/-- R405: an atomic on a window of host memory writes its result there, and closes its operation with what it read. -/
theorem acceptAtomic_writes {s : State} {p : Packet} (old : BitVec 128) (op : Bool) (htomb : s.tomb p.src p.opTag = none)
    (hok : s.refusedAt p = none) (hnew : (s.entryFor p).counts.received.contains p.pktIndex.toNat = false) (hseal : sealOk p = true)
    (haop : leAt p.payload 0 1 ≠ 0x10) (hpair : atomicPair (leAt p.payload 0 1) (leAt p.payload 1 1) = true)
    (hflags : leAt p.payload 2 1 % 4 / 2 = 0)
    (hwin : s.windowError p 116 (bits p.typeWord 47 0) (atypeSize (leAt p.payload 1 1)) (max 1 (atypeSize (leAt p.payload 1 1))) = none)
    (htier : bit (s.window (s.targetInst p) (bits p.typeWord 59 48)) 113 = false)
    (hcan : s.canWrite (s.inst (s.targetInst p)).port.toNat = true) :
    ∃ (u : State) (e : OpenOp), s.acceptAtomic p old op .ok = u.setOpen e ∧ e.src = p.src ∧ e.tag = p.opTag ∧ e.closed = true ∧
      (e.result = if leAt p.payload 2 1 % 2 = 1 then
        some (BitVec.ofNat 128 (old.toNat % 2 ^ (8 * atypeSize (leAt p.payload 1 1)))) else none) ∧
      Output.atomicWrite (s.inst (s.targetInst p)).port.toNat (s.targetInst p)
        (BitVec.ofNat 64 (bits (s.window (s.targetInst p) (bits p.typeWord 59 48)) 63 0 + bits p.typeWord 47 0))
        (atypeSize (leAt p.payload 1 1))
        (BitVec.ofNat 128 (atomicResult (leAt p.payload 0 1) (leAt p.payload 1 1) (old.toNat % 2 ^ (8 * atypeSize (leAt p.payload 1 1)))
          (leAt p.payload 16 16) (leAt p.payload 32 16))) (p.poisoned || op) ∈ u.out := by
  obtain ⟨hsrc, htag⟩ := key_entryFor s p
  have hnote : ∀ (u : State) (port : Nat), u.noteAccess port .ok = u := fun _ _ => if_neg nofun
  simp only [State.acceptAtomic, htomb, hok, hnew, if_neg haop, hpair, hflags, hwin, htier, hseal, hnote, accessError, port_logPages,
    Option.isNone_none, Bool.not_true, Nat.reduceBEq, Bool.false_and, Bool.and_false, Bool.or_self, Bool.false_eq_true, if_false]
  refine ⟨_, _, rfl, hsrc, htag, rfl, rfl, mem_out_ownedWrite ?_ ..⟩
  rw [(keepsPort_touch ..).canWrite, (State.KeepsPort.ofSame (State.logPages_same ..) rfl).canWrite, hcan]

end Sys2Proof.Machine
end

section
/-! PROOFS. Puts, atomics, ends and expiries at the target; multicast puts settle (R387, R390, R391, R399, R404-R408, R413, R418): O8. -/

namespace Sys2Proof.Machine

open Sys2Proof

/-- An atomic on a Tally waits for no line of module memory: it leaves the ejection queue and is executed. -/
theorem atomicReq_adds {s : State} {p : Packet} {head n : Nat} (old : BitVec 128) (op : Bool) (acc : Access)
    (hhead : s.ejectHead p = some head) (htype : p.pktType = 0x04) (hm : p.mcast = false) (htomb : s.tomb p.src p.opTag = none)
    (hok : s.refusedAt p = none) (hnew : (s.entryFor p).counts.received.contains p.pktIndex.toNat = false) (hseal : sealOk p = true)
    (haop : leAt p.payload 0 1 = 0x10) (hpair : atomicPair 0x10 (leAt p.payload 1 1) = true) (hext : bit p.opExt 14 = true)
    (htally : s.tallyNo (s.targetInst p) (bits p.opExt 13 0) = some n) (hhome : (s.tally n).moving = none) :
    Completes (exec (.atomicReq p old op acc) s) fun t =>
      (t.tally n).value = (s.tally n).value + BitVec.ofNat 64 (leAt p.payload 16 8) ∧
      ∃ e, t.openOp p.src p.opTag = some e ∧ e.closed = true := by
  have ht := sameTarget_takeEject s head
  obtain ⟨u, e, he, hsrc, htag, hclosed, hvalue⟩ := acceptAtomic_adds (s := s.takeEject head) old op acc
    (Eq.trans (keepsHalt_takeEject s head) (running_of_ejectHead hhead)) (by rw [ht.tomb, htomb]) (by rw [ht.refusedAt hm, hok])
    (by rw [ht.entryFor hm, hnew]) hseal haop hpair hext
    (by rw [ht.tallyNo, targetInst_unicast _ hm, ← targetInst_unicast s hm, htally]) (by rw [ht.tally, hhome])
  refine ⟨(u.setOpen e).unfill, ?_, ?_, e, openOp_taken u ⟨hsrc, htag⟩, hclosed⟩
  · show execAtomicReq p old op acc s = _
    simp only [execAtomicReq, hhead, htype, haop, he, ne_eq, not_true, List.isEmpty_nil, if_true, if_false]
  · rw [tally_congr (remote_unfill _)]
    exact hvalue.trans (by rw [ht.tally])

/-- An atomic on a window of host memory waits for no line of module memory: it leaves the ejection queue and is executed. -/
theorem atomicReq_writes {s : State} {p : Packet} {head : Nat} (old : BitVec 128) (op : Bool)
    (hhead : s.ejectHead p = some head) (htype : p.pktType = 0x04) (hm : p.mcast = false) (htomb : s.tomb p.src p.opTag = none)
    (hok : s.refusedAt p = none) (hnew : (s.entryFor p).counts.received.contains p.pktIndex.toNat = false) (hseal : sealOk p = true)
    (haop : leAt p.payload 0 1 ≠ 0x10) (hpair : atomicPair (leAt p.payload 0 1) (leAt p.payload 1 1) = true)
    (hflags : leAt p.payload 2 1 % 4 / 2 = 0)
    (hfree : s.awaitsSnoop p 116 (atypeSize (leAt p.payload 1 1)) (max 1 (atypeSize (leAt p.payload 1 1))) = [])
    (hwin : s.windowError p 116 (bits p.typeWord 47 0) (atypeSize (leAt p.payload 1 1)) (max 1 (atypeSize (leAt p.payload 1 1))) = none)
    (htier : bit (s.window (s.targetInst p) (bits p.typeWord 59 48)) 113 = false)
    (hcan : s.canWrite (s.inst (s.targetInst p)).port.toNat = true) :
    Completes (exec (.atomicReq p old op .ok) s) fun t =>
      Output.atomicWrite (s.inst (s.targetInst p)).port.toNat (s.targetInst p)
        (BitVec.ofNat 64 (bits (s.window (s.targetInst p) (bits p.typeWord 59 48)) 63 0 + bits p.typeWord 47 0))
        (atypeSize (leAt p.payload 1 1))
        (BitVec.ofNat 128 (atomicResult (leAt p.payload 0 1) (leAt p.payload 1 1) (old.toNat % 2 ^ (8 * atypeSize (leAt p.payload 1 1)))
          (leAt p.payload 16 16) (leAt p.payload 32 16))) (p.poisoned || op) ∈ t.out ∧
      ∃ e, t.openOp p.src p.opTag = some e ∧ e.closed = true ∧ e.result = if leAt p.payload 2 1 % 2 = 1 then
        some (BitVec.ofNat 128 (old.toNat % 2 ^ (8 * atypeSize (leAt p.payload 1 1)))) else none := by
  have ht := sameTarget_takeEject s head
  have hinst : (s.takeEject head).targetInst p = s.targetInst p := by rw [targetInst_unicast _ hm, targetInst_unicast _ hm]
  obtain ⟨u, e, he, hsrc, htag, hclosed, hresult, hout⟩ := acceptAtomic_writes (s := s.takeEject head) old op
    (by rw [ht.tomb, htomb]) (by rw [ht.refusedAt hm, hok]) (by rw [ht.entryFor hm, hnew]) hseal haop hpair hflags
    (by rw [ht.windowError hm, hwin]) (by rw [ht.window, hinst, htier])
    (by rw [ht.inst, hinst, (State.KeepsPort.ofSame (State.takeEject_same s head) rfl).canWrite, hcan])
  rw [hinst, ht.inst, ht.window] at hout
  refine ⟨(u.setOpen e).unfill, ?_, ?_, e, openOp_taken u ⟨hsrc, htag⟩, hclosed, hresult⟩
  · show execAtomicReq p old op .ok s = _
    simp only [execAtomicReq, hhead, htype, if_neg haop, hfree, he, ne_eq, not_true, List.isEmpty_nil, if_true, if_false]
  · rw [(State.unfill_same (u.setOpen e)).parts .out rfl]
    exact hout

/-- R390, R391: an operation whose counts have closed ends: its tombstone takes its place. -/
theorem operationEnd_ends {s : State} {src : Endpoint} {tag : BitVec 32} {e : OpenOp} (hrun : s.quench.halted = false)
    (hopen : s.openOp src tag = some e) (hclosed : e.closed = true) (hreq : e.req = none) (hepoch : (s.inst e.inst).epoch = e.epoch) :
    Completes (exec (.operationEnd src tag) s) fun t => t.Ended src tag e.counts.status := by
  show Completes (execOperationEnd src tag s) _
  simp only [execOperationEnd, hrun, hopen, hclosed, hreq, hepoch, Bool.not_true, Bool.or_self, Bool.false_eq_true, ne_eq, not_true, if_false]
  generalize (if (e.counts.status = 0 ∨ e.counts.status = 7) ∧ bit e.opExt 14 = true then _ else s) = u
  generalize hv : u.addTomb _ = v
  have hend : v.Ended src tag e.counts.status := by
    rw [← hv]
    exact addTomb_replaces u _
  have hlast : ∀ {t : State}, t.KeepsTarget v → t.unfill.Ended src tag e.counts.status := fun ht =>
    (State.KeepsTarget.ofRemote (remote_unfill _)).ended (ht.ended hend)
  split
  · refine ⟨_, rfl, hlast ?_⟩
    split
    · exact .ofRemote rfl
    · exact .ofRemote (remote_raise ..)
  · refine ⟨_, rfl, hlast ?_⟩
    split
    · exact keepsTarget_sendAtomicResp ..
    · split
      · exact .ofRemote rfl
      · exact keepsTarget_sendResponse ..
    · exact keepsTarget_sendResponse ..

/-- R391: a tombstone whose time is over is forgotten. -/
theorem tombstoneExpiry_forgets {s : State} {src : Endpoint} {tag : BitVec 32} {now : Ticks} {b : Tomb} (htomb : s.tomb src tag = some b)
    (hover : b.expires.toNat ≤ (s.advance now).time.now.toNat) :
    Completes (exec (.tombstoneExpiry src tag now) s) fun t => t.tomb src tag = none := by
  show Completes (execTombstoneExpiry src tag now s) _
  simp only [execTombstoneExpiry, tomb_congr (remote_advance s now), htomb, Nat.not_lt.mpr hover, if_false]
  exact ⟨_, rfl, List.find?_eq_none.2 fun _ hx => by simpa only [Bool.not_eq_true', Bool.not_eq_true] using (List.mem_filter.1 hx).2⟩

/-- R413: an open entry without arrivals for too long is discarded and counted. -/
theorem openEntryExpiry_discards {s : State} {src : Endpoint} {tag : BitVec 32} {now : Ticks} {e : OpenOp}
    (hopen : s.openOp src tag = some e) (hclosed : e.closed = false)
    (hover : ms s.remote.openExpireMs.toNat ≤ ((s.advance now).time.now - e.lastAt).toNat) :
    Completes (exec (.openEntryExpiry src tag now) s) fun t => t.openOp src tag = none ∧
      t.remote.expiredOpen = satInc s.remote.expiredOpen := by
  show Completes (execOpenEntryExpiry src tag now s) _
  have hexpired : (e.closed || decide (((s.advance now).time.now - e.lastAt).toNat < ms (s.advance now).remote.openExpireMs.toNat)) = false := by
    rw [hclosed, remote_advance]
    exact decide_eq_false (Nat.not_lt.mpr hover)
  simp only [execOpenEntryExpiry, openOp_congr (remote_advance s now), hopen, hexpired, Bool.false_eq_true, if_false]
  refine ⟨_, rfl, ?_, ?_⟩
  · rw [openOp_congr (remote_unfill _), openOp_congr (remote_raise ..)]
    exact openOp_dropOpen ..
  · rw [remote_unfill, remote_raise]
    have hcount : satInc (s.advance now).remote.expiredOpen = satInc s.remote.expiredOpen := by rw [remote_advance]
    exact hcount

/-! ### Multicast puts settle at their source (R399) -/

/-- An operation taken out is not found. -/
theorem srcOp_dropSrc (s : State) (o : SrcOp) : (s.dropSrc o).srcOp o.src o.tag = none :=
  List.find?_eq_none.2 fun _ hx => by simpa only [Bool.not_eq_true', Bool.not_eq_true] using (List.mem_filter.1 hx).2

theorem keepsAccess_addLocal (s : State) (w : Option Nat) (l : Line) (bytes : Nat) : (s.addLocal w l bytes).KeepsAccess s := by
  unfold State.addLocal
  split
  · split
    · exact keepsAccess_tallyAdd ..
    · exact .refl s
  · exact .refl s

/-- R416: an operation that holds back no message is gone when it completes. -/
theorem srcOp_finishSrc {s : State} {o : SrcOp} (hlive : s.srcStale o = false) (hkind : o.kind ≠ .msgSend) (status : BitVec 8) (bytes : Nat)
    (result : BitVec 256) : (s.finishSrc o status bytes result).srcOp o.src o.tag = none := by
  simp only [State.finishSrc, hlive, if_neg hkind, Bool.false_eq_true, if_false]
  have hlocal := keepsAccess_addLocal (s.dropSrc o) ((s.dropSrc o).wqInst o.wq) o.line (if status = 0 ∨ status = 7 then bytes else 0)
  exact (State.KeepsAccess.srcOp (.trans (.ofRemote (remote_complete ..)) hlocal) ..).trans (srcOp_dropSrc s o)

/-- R399: a multicast put that is all injected and has settled completes. -/
theorem multicastPutSettle_completes {s : State} {src : Endpoint} {tag : BitVec 32} {now : Ticks} {o : SrcOp} (hop : s.srcOp src tag = some o)
    (hput : o.kind = .put) (hm : o.mcast = true) (hheld : o.held = false) (hall : o.npkts ≤ o.injected) (hreread : o.rereads = [])
    (hqueued : s.opQueued src tag = false) (hlive : s.srcStale o = false)
    (hsettled : s.settle_ ≤ ((s.advance now).time.now - o.lastAt).toNat) :
    Completes (exec (.multicastPutSettle src tag now) s) fun t => t.srcOp src tag = none := by
  obtain ⟨rfl, rfl⟩ : o.src = src ∧ o.tag = tag := by simpa using List.find?_some hop
  have hop' : (s.advance now).srcOp o.src o.tag = some o := by rw [State.srcOp, remote_advance]; exact hop
  have hqueued' : (s.advance now).opQueued o.src o.tag = false := by
    rw [State.opQueued, sched_advance, routing_advance, tiles_advance]
    exact hqueued
  have hlive' : (s.advance now).srcStale o = false := by
    simp only [State.srcStale, State.wq, State.stale, State.inst, wqs_advance, insts_advance] at hlive ⊢
    exact hlive
  have hsettled' : (s.advance now).settle_ ≤ ((s.advance now).time.now - o.lastAt).toNat := by
    rw [State.settle_, routing_advance]
    exact hsettled
  show Completes (execMulticastPutSettle o.src o.tag now s) _
  have hgo : (!o.mcast || o.held || decide (o.injected < o.npkts) || !o.rereads.isEmpty || (s.advance now).opQueued o.src o.tag ||
      decide (((s.advance now).time.now - o.lastAt).toNat < (s.advance now).settle_)) = false := by
    rw [decide_eq_false (Nat.not_lt.mpr hsettled')]
    simp [hm, hheld, hall, hreread, hqueued']
  simp only [execMulticastPutSettle, hop', hgo, Bool.false_eq_true, if_false]
  exact ⟨_, rfl, srcOp_finishSrc hlive' (by rw [hput]; decide) ..⟩

/-- Settles O8: clause by clause. A packet that leaves its ejection queue finds its target as it was, and its operation is found there
once it is taken; what ends, expires or settles is gone. -/
theorem targetOperationsComplete : Obligations.TargetOperationsComplete :=
  ⟨fun _ _ _ hhead htype hm hfree htomb hok hnew hin hwin hseal =>
      putPacket_stores hhead htype hm hfree htomb hok hnew hin hwin hseal,
    fun _ _ _ _ old op acc hhead htype hm htomb hok hnew hseal haop hpair hext htally hhome =>
      atomicReq_adds old op acc hhead htype hm htomb hok hnew hseal haop hpair hext htally hhome,
    fun _ _ _ old op hhead htype hm htomb hok hnew hseal haop hpair hflags hfree hwin htier hcan =>
      atomicReq_writes old op hhead htype hm htomb hok hnew hseal haop hpair hflags hfree hwin htier hcan,
    fun _ _ _ _ hrun hopen hclosed hreq hepoch => operationEnd_ends hrun hopen hclosed hreq hepoch,
    fun _ _ _ _ _ htomb hover => tombstoneExpiry_forgets htomb hover,
    fun _ _ _ _ _ hopen hclosed hover => openEntryExpiry_discards hopen hclosed hover,
    fun _ _ _ _ _ hop hput hm hheld hall hreread hqueued hlive hsettled =>
      multicastPutSettle_completes hop hput hm hheld hall hreread hqueued hlive hsettled⟩

end Sys2Proof.Machine
end
